-- ==== Sys2Proof/Word.lean ====
section
/-!
DEFINITION. Words: the machine's units of storage and nothing else.  A register is 32 bits wide (R11), a byte is 8
bits, and a byte string is a list of bytes in the order in which a transport carries them (R48).
-/

namespace Sys2Proof

/-- One register word (R11). -/
abbrev Word := BitVec 32

/-- One byte. -/
abbrev Byte := BitVec 8

/-- A byte string, first byte first. -/
abbrev Bytes := List Byte

/-- A map from numbers to values, held as rising key and value pairs; a key that is not listed has the map's default. -/
abbrev Table (α : Type) := List (Nat × α)

end Sys2Proof
end

