-- ==== Sys2Proof/Machine/Types/Base.lean ====
section
/-!
DEFINITION. The vocabulary every chapter shares: modes, transports, command packets, and what Damya sends out.
-/

namespace Sys2Proof

/-- The four transports of R53, in the order in which the manual numbers them (R652). -/
inductive Transport where
  | mailbox | tid0 | mgmt | usbs
deriving DecidableEq, Repr

/-- A command packet or a reply (R47, R49): the header's fields, the parameter bytes and the tag bytes.  `delivered`
is how many bytes the transport delivered, which the length check of R50 compares with LEN. -/
structure Packet where
  ver : Nat := 1
  flags : Nat := 0
  opcode : Nat := 0
  seq : Nat := 0
  session : Nat := 0
  len : Nat := 0
  status : Nat := 0
  rsv : Bytes := []
  params : Bytes := []
  tag : Bytes := []
  delivered : Nat := 16
deriving DecidableEq, Repr

/-- A request: a packet and the transport that brought it, and on TID 0 whether it came over a trunk with SYS = 1 and
SRC 0, that is from the root's Scribe (R210). -/
structure Request where
  via : Transport
  pkt : Packet
  sys : Bool := false
deriving DecidableEq, Repr

/-- What Damya does to the outside: a record of each thing an observer at its balls, its links or in host memory sees.
The list `State.out` keeps them in the order in which they happened (log entry 6). -/
inductive Output where
  /-- An output ball takes a level. -/
  | pin (name : String) (level : Nat)
  /-- A message-signalled interrupt is sent to the host. -/
  | msi (vector : Nat)
  /-- A reply packet leaves on TID 0. -/
  | tid0Reply (bytes : Bytes)
  /-- Command bytes relayed over TID 0 to the station at a position (R59). -/
  | relay (position : Nat) (bytes : Bytes)
  /-- Bytes shifted out on the MGMT port (R60). -/
  | mgmt (data : Bytes)
  /-- Bytes written to host memory. -/
  | hostWrite (addr : Nat) (data : Bytes)
  /-- Host memory is read: requester, address, length. -/
  | hostRead (requester : Nat) (addr : Nat) (len : Nat)
  /-- A lane ordered set, a link ordered set or a flit leaves on a trunk: trunk, kind and contents. -/
  | trunk (t : Nat) (what : String) (args : List Nat) (data : Bytes)
  /-- A segment is handed to a local port unit, or a line record or tunnel packet is sent. -/
  | segment (port : Nat) (what : String) (args : List Nat) (data : Bytes)
  /-- A PCI Express packet or message leaves on a port. -/
  | pcie (port : Nat) (what : String) (args : List Nat) (data : Bytes)
  /-- A display output's or pipe's action. -/
  | display (unit : Nat) (what : String) (args : List Nat) (data : Bytes)
  /-- A USB bus action on a host port (0 to 7) or on USBS (8). -/
  | usb (port : Nat) (what : String) (args : List Nat) (data : Bytes)
  /-- An Ethernet frame or an MDIO frame leaves. -/
  | eth (port : Nat) (what : String) (args : List Nat) (data : Bytes)
  /-- A Type-C or Power Delivery action of a port (0 to 3) or of TCS (4). -/
  | pd (port : Nat) (what : String) (args : List Nat) (data : Bytes)
  /-- A rail, regulator or reset action of the Nib. -/
  | power (what : String) (args : List Nat)
  /-- The flash or the OTP is written. -/
  | store (what : String) (addr : Nat) (data : Bytes)
deriving DecidableEq, Repr

/-- What follows a reply once it has been handed to its transport (R651): the action is scheduled when the reply is
made, and runs 10 µs after the hand-over (R174, R548, R550, R591). -/
inductive Deferred where
  | reset (type : Nat)
  | trunkDisable (trunk : Nat)
  | serviceEnter (trk efu tcp units : Nat)
  | fwActivate (slot mode : Nat)
deriving DecidableEq, Repr

/-- The entry of `State.limits`: when a limited notice was last raised, in raw counts, and what has been counted
since. -/
structure Limit where
  last : Option Nat := none
  count : Nat := 0
  /-- What the first event since names (R620). -/
  first : Nat := 0
deriving DecidableEq, Repr

end Sys2Proof
end

