-- ==== Sys2Proof/Machine/Types/Fuse.lean ====
section
/-!
DEFINITION. The state of the eFuse channels and of the Type-C ports that their registers do not show (chapters 14
and 15).
-/

namespace Sys2Proof

/-- What a channel's sense path measures (R506): VIN and VOUT in 10 mV, the current in mA as read through the active profile's
shunt, and VDS in mV. -/
structure FuseSample where
  vin : Nat := 0
  vout : Nat := 0
  i : Nat := 0
  vds : Nat := 0
deriving DecidableEq, Repr

/-- An eFuse channel (R499 to R518). -/
structure Fuse where
  /-- The active profile, where it is not the one of the power-on, and the shadow that waits for a safe point. -/
  prof : Option Bytes := none
  shadow : Option Bytes := none
  /-- The requests of EFUSE_CONTROL, of the PCIe power controller and of the PD engine. -/
  byCommand : Bool := false
  byPcie : Bool := false
  byPd : Bool := false
  /-- A trip waits for the Nib's retry decision; the current and the output at the trip. -/
  deciding : Bool := false
  tripI : Nat := 0
  tripV : Nat := 0
  /-- VSEL has moved with the channel in ON, and PG has not been reported since (R505). -/
  moving : Bool := false
  /-- What the sense path measured last, the timers of the curve's points in µs (R506), the energy Q of the SOA integrator
  in pJ (R508), and when the hold ends by the Nib's clock (R512). -/
  sample : FuseSample := {}
  timers : List Nat := []
  q : Nat := 0
  holdEnd : Nat := 0
deriving DecidableEq, Repr

/-- A Type-C source port (R471 to R489). -/
structure TcPort where
  /-- The port's entry of the active table (R480); it has still to take the shadow table's. -/
  entry : Bytes := []
  stale : Bool := false
  /-- DISABLE has been given and ENABLE has not (R492). -/
  disabled : Bool := false
  /-- The last Source_Capabilities: voltage index 0 to 3 and current in 10 mA units, in object order. -/
  offer : List (Nat × Nat) := []
  /-- They have not been answered by a Request. -/
  offered : Bool := false
  /-- The voltage index of the contract in force. -/
  volt : Nat := 0
  /-- The Request accepted: object position, voltage index, current and power. -/
  next : Option (Nat × Nat × Nat × Nat) := none
  /-- tSrcTransition has passed: the port waits for power-good (R483). -/
  waitPg : Bool := false
  /-- A VCONN swap under way (R488): 1 the partner takes VCONN over, 2 Damya does. -/
  swap : Nat := 0
deriving DecidableEq, Repr

/-- Type-C and PD. -/
structure TypeC where
  ports : Table TcPort := []
  /-- The table accepted last, and TFLAGS. -/
  table : Bytes := []
  tflags : Nat := 0
deriving DecidableEq, Repr

end Sys2Proof
end

