-- ==== Sys2Proof/Machine/Types/Operands.lean ====
section
/-!
DEFINITION. Operands of the commands: what an event brings with it from outside Damya.
-/

namespace Sys2Proof

/-- What reads of host memory return in the course of a step: addresses and the bytes found there.  A read that no entry
covers has failed: it timed out, or completed with an error status (R296). -/
abbrev HostMem := List (Nat × Bytes)

/-- The `n` bytes at address `a`, where the read has succeeded. -/
def HostMem.read (m : HostMem) (a n : Nat) : Option Bytes :=
  (m.find? fun e => decide (e.1 ≤ a) && decide (a + n ≤ e.1 + e.2.length)).map fun e => (e.2.drop (a - e.1)).take n

/-- How a transaction on MGMT begins (R60): the I²C address it names, which SPI has not, and the frame byte. -/
structure MgmtFrame where
  addr : BitVec 7 := 0x5A
  byte : Byte
deriving DecidableEq, Repr

/-- A read of the reply on MGMT (R60, R61): the I²C address, which SPI has not, and the bytes read. -/
structure MgmtRead where
  addr : BitVec 7 := 0x5A
  count : Nat
deriving DecidableEq, Repr

end Sys2Proof
end

