-- ==== Sys2Proof/Syntax.lean ====
section
/-!
DEFINITION. The commands Damya takes: one constructor for each row of the manual's table of operations and events, with
the operands that row carries.  A command packet's row carries the request; an event's row carries what the outside
brings with it.
-/

namespace Sys2Proof

/-- The commands (spec/opcode_table.json). -/
inductive Instr where
  /-- POWER_ON (R653): A supply of the power die rises above its start level from a stopped power die, causing a POWER_ON reset of both dies. -/
  | powerOn (tcs : Bool)
  /-- POWER_DIE_STOP (R653): Both PD_VIN48 and TCS_VBUS stay below their stop levels for the stop time, and every power-die state is lost. -/
  | powerDieStop
  /-- RAIL_PG_RISE (R526): The PS_PG of an enabled hub rail rises, and the Nib enables the next rail in ascending order. -/
  | railPgRise
  /-- RAIL_PG_FAULT (R527): A PS_PG does not rise within 5 ms of its enable, or falls while the hub die runs; all rails are taken down and RAIL_FAULT is recorded. -/
  | railPgFault (rail : Fin 6)
  /-- HUB_RESET_RELEASE (R526): After PS_PG5 has been high for 1 ms, or a reset hold ends, the hub die's power-on reset is released and the ROM starts. -/
  | hubResetRelease (role forceRec mgmtMode : BitVec 7)
  /-- IMAGE_AUTHENTICATED (R589): The image body finishes authentication, the Scribe section is loaded and Scribe starts and reads the settings. -/
  | imageAuthenticated (good : Bool)
  /-- BOOT_COMPLETE (R589): The other sections are loaded, the PD table and eFuse profiles are loaded, trunks are enabled, and the boot notices and MODE_CHANGED are raised. -/
  | bootComplete (good : Bool) (failed : List Nat)
  /-- SUBPROCESSOR_SAFE_POINT (R590): A sub-processor whose code differs reaches its safe point and takes the new section, keeping its state. -/
  | subprocessorSafePoint (sec : Fin 6)
  /-- INTAKE_WINDOW_LEAVE (R528): The 48 V intake leaves CH0's window; the hub die is reset and taken down, moving to TCS and RECOVERY if R40 allows, else STANDBY. -/
  | intakeWindowLeave (vin : Nat) (reason : Fin 3)
  /-- INTAKE_WINDOW_ENTER (R529): The intake enters its window while on TCS power; the Nib moves back to the intake and reboots or wakes as allowed. -/
  | intakeWindowEnter (vin : Nat)
  /-- TCS_VBUS_LOSS (R40): The TCS contract falls below the R40 level with the intake absent, and Damya goes to STANDBY. -/
  | tcsVbusLoss
  /-- XTAL_STOP (R531): The 32.768 kHz crystal stops; the Nib runs its slow timers from the RC and clears XTAL_OK. -/
  | xtalStop
  /-- WAKE_SOURCE_FIRE (R539): An enabled wake source fires in STANDBY or IDLE and Damya wakes, or the wake is held pending. -/
  | wakeSourceFire (b : Fin 14) (fires : Bool)
  /-- STANDBY_ALARM_EXPIRY (R539): PWR_ALARM.SECONDS after STANDBY entry have passed, firing the ALARM wake source. -/
  | standbyAlarmExpiry
  /-- THERMAL_WARN (R536): Tj rises above CLK_TEMP.WARN and THERMAL is raised once, re-arming 5 °C below. -/
  | thermalWarn (tj : BitVec 8)
  /-- THROTTLE_ON (R536): Tj reaches 125 °C with THROTTLE_EN 1 and the point moves one step slower than the target. -/
  | throttleOn (tj : BitVec 8)
  /-- THROTTLE_OFF (R536): Tj has stayed below 120 °C for 1 s and the point returns to the target. -/
  | throttleOff (tj : BitVec 8)
  /-- THERMAL_SHUTDOWN (R536): Tj at 135 °C for 1 ms makes the Nib take the hub die down into STANDBY with cause THERMAL. -/
  | thermalShutdown
  /-- THERMAL_POLL (R536): Every 100 ms while the hub die is down, the Nib reads Tj and serves held wakes once it is below 105 °C. -/
  | thermalPoll (tj : BitVec 8)
  /-- RESET_PIN (R549): RESET_N held low for at least 1 µs causes a hub-die reset with the rails kept. -/
  | resetPin
  /-- WATCHDOG_EXPIRY (R551): Scribe's watchdog expires after 1 s; the first expiry forces a hitless restart, a second within 10 s a hub-die reset. -/
  | watchdogExpiry
  /-- FATAL_UNIT_ERROR (R549): A fatal error in a unit that cannot be mapped out, or a core PLL losing lock, causes a hub-die reset. -/
  | fatalUnitError (u : Fin 9)
  /-- D2D_LINK_FAIL (R24): The die-to-die link fails its integrity check; the Nib holds eFuses and contracts and resets the hub die. -/
  | d2dLinkFail
  /-- SRAM_DOUBLE_BIT_ERROR (R29): A double-bit SRAM error discards the affected item, raises SRAM_UNCORRECTABLE, and in Scribe memory forces a hitless restart. -/
  | sramDoubleBitError (m : Fin 8) (double : Bool) (index : Nat)
  /-- VOLTAGE_SETTLED (R533): VR_PG is high and SETTLE_US has passed after a voltage command, letting the operating-point change proceed. -/
  | voltageSettled (acked : Bool)
  /-- SCHEDULER_EPOCH (R43): Every 4096 core cycles, shadowed rates, allotments, weights and frequency changes take effect and DEPTH samplers sample. -/
  | schedulerEpoch
  /-- ASK_PHASE_COMPLETE (R542): Every unit becomes ready in the ask phase of an IDLE or STANDBY entry, and the entry phase begins. -/
  | askPhaseComplete
  /-- ASK_PHASE_TIMEOUT (R542): A unit is still not ready after ASK_MS, or a marked unit is not ready at once, and the entry is refused. -/
  | askPhaseTimeout
  /-- ENTRY_DRAIN_END (R545): In IDLE or STANDBY entry, non-trunk output queues empty or 1 ms passes, and remaining cells are discarded. -/
  | entryDrainEnd (timeout : Bool)
  /-- PME_TURN_OFF_WAIT_END (R545): A station root port receives PME_TO_Ack or waits 10 ms, then asserts PERST_N. -/
  | pmeTurnOffWaitEnd (port : Fin 2)
  /-- IDLE_EXIT_TRUNKS_READY (R545): In the move from IDLE to RUN, every trunk that was in LOWPOWER is ACTIVE again or 70 ms pass, and MODE changes. -/
  | idleExitTrunksReady (timeout : Bool)
  /-- SERVICE_ENTRY_TAKE_EFFECT (R548): 10 µs after the DIAG_SERVICE_ENTER reply is handed over, the named units enter test and MODE becomes SERVICE. -/
  | serviceEntryTakeEffect
  /-- SERVICE_EXIT_COMPLETE (R545): Every unit under test has returned to its starting state and MODE becomes RUN or DEGRADED. -/
  | serviceExitComplete
  /-- RESET_TAKE_EFFECT (R550): 10 µs after a RESET reply has been handed to its transport, the hub-die reset or power cycle is performed. -/
  | resetTakeEffect
  /-- REPLY_HANDED_OVER (R651): A reply is taken as handed to its transport when read or cleared, or after 100 ms. -/
  | replyHandedOver (v : Transport) (cleared : Bool)
  /-- MAILBOX_GO (R58): Writing MBX_CTRL.GO hands the request buffer and MBX_TARGET to Damya, or sets OVERRUN while BUSY. -/
  | mailboxGo (irqEn : Bool)
  /-- RELAY_TIMEOUT (R59): A relayed request's reply has not returned 50 ms after it left the root, and the mailbox completes with TIMEOUT. -/
  | relayTimeout
  /-- RELAYED_REPLY_ARRIVAL (R59): A station's reply to a relayed request reaches the root and completes the root mailbox. -/
  | relayedReplyArrival (position : Fin 33) (bytes : Bytes)
  /-- MGMT_REQUEST (R60): An MGMT transaction with frame byte 0xA1 delivers one request packet, completed at CS_N rise or STOP. -/
  | mgmtRequest (frame : MgmtFrame) (bytes : Bytes)
  /-- MGMT_REPLY_READ (R60): An MGMT transaction with frame byte 0xA2 reads the held reply, clearing REPLY_READY when read whole. -/
  | mgmtReplyRead (n : MgmtRead)
  /-- MGMT_STATUS_READ (R61): An MGMT transaction with frame byte 0xA3 returns the status byte. -/
  | mgmtStatusRead
  /-- TID0_REQUEST (R65): A command packet arrives on TID 0 and enters the input queue, or is answered BUSY when four are queued. -/
  | tid0Request (sys : Bool) (bytes : Bytes)
  /-- USBS_REQUEST (R63): A bulk OUT transfer on USBS delivers one request, held until the previous reply is read. -/
  | usbsRequest (bytes : Bytes)
  /-- USBS_REPLY_READ (R63): A bulk IN transfer reads the reply on USBS and releases a held request. -/
  | usbsReplyRead
  /-- HALF_OPEN_SESSION_TIMEOUT (R72): A half-open session receives no correct SESSION_PROVE within 1 s and is closed. -/
  | halfOpenSessionTimeout (h : Fin 9)
  /-- SESSION_IDLE_TIMEOUT (R74): A session has had no authenticated request for SESSION_IDLE_S seconds and is closed. -/
  | sessionIdleTimeout (h : Fin 9)
  /-- PASSWORD_DERIVATION_DONE (R76): The PBKDF2 derivation for OPEN_SESSION_PW ends and the verifier comparison opens the session or counts a wrong password. -/
  | passwordDerivationDone
  /-- PASSWORD_LOCKOUT_END (R77): The lockout hold of 2^(n−1) s after the nth wrong password expires. -/
  | passwordLockoutEnd
  /-- JOB_COMPLETE (R67): A job ends and raises JOB_DONE with its job number, opcode and final status. -/
  | jobComplete (job : Nat) (good : Bool)
  /-- QUEUE_INTEGRITY_RESET (R87): The two copies of a queue index disagree; the queue is reset, INTEG set and QUEUE_INTEGRITY raised. -/
  | queueIntegrityReset (q : Fin 4)
  /-- QUEUE_ENABLE_RISE (R91): QUE_CFGq.ENABLE goes from 0 to 1, resetting the queue and sampling MODE and the ring base. -/
  | queueEnableRise (q : Fin 4)
  /-- HITLESS_RESTART_BEGIN (R593): A hitless restart starts: queued requests get BUSY_RESTART, jobs abort, and the ROM reloads the Scribe section. -/
  | hitlessRestartBegin (cause : Fin 3)
  /-- HITLESS_RESTART_END (R593): Scribe restarts without reading settings, RESTARTING clears, aborted jobs report and FW_RESTART is raised. -/
  | hitlessRestartEnd (good : Bool) (ms : Nat)
  /-- NOP (R78): NOP echoes its parameters. -/
  | nop (r : Request)
  /-- IDENTIFY (R4): IDENTIFY returns the sampled role, position, mode, SYS_ID, device identity and firmware version. -/
  | identify (r : Request)
  /-- MODE_SET (R547): MODE_SET starts a transition to STANDBY, IDLE or RUN as the mode table allows. -/
  | modeSet (r : Request)
  /-- UNIT_MAP_OUT (R35): UNIT_MAP_OUT takes a mappable unit out of service. -/
  | unitMapOut (r : Request)
  /-- UNIT_MAP_IN (R538): UNIT_MAP_IN runs a self-test job and returns the unit to service if it passes. -/
  | unitMapIn (r : Request)
  /-- SELFTEST (R538): SELFTEST runs the self-test of a mapped-out or under-test unit as a job. -/
  | selftest (r : Request)
  /-- RESET (R550): RESET replies and schedules a hub-die reset or power cycle after the reply is handed over. -/
  | reset (r : Request)
  /-- JOB_STATUS (R67): JOB_STATUS reports the opcode of a running job or NOT_FOUND. -/
  | jobStatus (r : Request)
  /-- POSITION_SET_ASSIGN (R193): POSITION_SET op ASSIGN makes the root send ASSIGN with position 1 and replies with STATIONS 1 ms later. -/
  | positionSetAssign (r : Request)
  /-- POSITION_SET_CLEAR (R193): POSITION_SET op CLEAR floods a CLEAR record so every station forgets its position. -/
  | positionSetClear (r : Request)
  /-- POSITION_ASSIGN_DELAY_END (R193): 1 ms after a CLEAR flood with LINE_AUTO 1, or after an ASSIGN, the root sends ASSIGN or replies with STATIONS. -/
  | positionAssignDelayEnd
  /-- QUEUE_CONFIG (R88): QUEUE_CONFIG writes QUE_CFGq and the ring base as one action. -/
  | queueConfig (r : Request)
  /-- QUEUE_READ (R88): QUEUE_READ returns entries from C and advances C. -/
  | queueRead (r : Request)
  /-- QUEUE_MARK (R88): QUEUE_MARK sets M to C. -/
  | queueMark (r : Request)
  /-- QUEUE_REWIND (R88): QUEUE_REWIND sets C to M. -/
  | queueRewind (r : Request)
  /-- QUEUE_RELEASE (R88): QUEUE_RELEASE frees entries up to C or UPTO and may clear LOST. -/
  | queueRelease (r : Request)
  /-- OPEN_SESSION (R71): OPEN_SESSION checks the key slot and opens a half-open session with a device nonce and proof. -/
  | openSession (r : Request)
  /-- SESSION_PROVE (R71): SESSION_PROVE checks the host proof and opens the session, or closes it on a wrong proof. -/
  | sessionProve (r : Request)
  /-- OPEN_SESSION_PW (R75): OPEN_SESSION_PW on USBS checks transport, verifier, parameters, lockout and handles, then starts the password derivation. -/
  | openSessionPw (r : Request)
  /-- CLOSE_SESSION (R74): CLOSE_SESSION closes a session of the requesting transport. -/
  | closeSession (r : Request)
  /-- SESSION_LIST (R652): SESSION_LIST returns the state of all eight session handles. -/
  | sessionList (r : Request)
  /-- REG_READ (R80): REG_READ returns COUNT consecutive register words. -/
  | regRead (r : Request)
  /-- REG_WRITE (R80): REG_WRITE writes COUNT words in ascending order, stopping at the first BAD_ADDRESS or LOCKED word. -/
  | regWrite (r : Request)
  /-- REG_MODIFY (R80): REG_MODIFY reads, merges under MASK and writes one register with no command between. -/
  | regModify (r : Request)
  /-- REG_POLL (R81): REG_POLL waits up to TIMEOUT µs for a masked register value. -/
  | regPoll (r : Request)
  /-- REGISTER_WRITE (R13): A write to a register field without behaviour of its own acts by its access type, lock and shadow rules. -/
  | registerWrite (a : Word) (w : Word)
  /-- TUNNEL_CREATE (R209): TUNNEL_CREATE at the root checks and admits a tunnel and installs it in STAGE and OPEN phases. -/
  | tunnelCreate (r : Request)
  /-- HOP_INSTALL (R210): A TUNNEL_CREATE MODE 1 hop install from the root's Scribe writes an entry STAGED or sets it OPEN. -/
  | hopInstall (r : Request)
  /-- HOP_REPLY_RECEIVED (R209): A Damya's reply to a hop install, close or prepare reaches the root, letting the phase proceed. -/
  | hopReplyReceived (position : Fin 33) (bytes : Bytes)
  /-- INSTALL_PHASE_TIMEOUT (R209): An install or prepare phase has waited 250 µs without all replies, and the root rolls back. -/
  | installPhaseTimeout (tid : Fin 1024)
  /-- TUNNEL_DESTROY (R212): TUNNEL_DESTROY at the root sets the ends CLOSING, drains, removes the entries and returns the charges. -/
  | tunnelDestroy (r : Request)
  /-- TUNNEL_CLOSE (R210): A Close packet sets an entry CLOSING or removes it. -/
  | tunnelClose (r : Request)
  /-- TUNNEL_DRAIN_END (R212): PAUSE_US after setting a tunnel CLOSING, the root removes its entries. -/
  | tunnelDrainEnd (tid : Fin 1024)
  /-- TUNNEL_RETUNE (R213): TUNNEL_RETUNE at the root admits new rates and sends prepare records with an apply time. -/
  | tunnelRetune (r : Request)
  /-- RETUNE_PREPARE (R210): A Prepare packet holds new tunnel values for application at the apply time. -/
  | retunePrepare (r : Request)
  /-- RETUNE_CANCEL (R210): A Cancel packet drops a prepared retune. -/
  | retuneCancel (r : Request)
  /-- RETUNE_APPLY (R214): At the first epoch at or after its apply time, a Damya applies a prepared retune and increments GEN. -/
  | retuneApply (tid : Fin 1024)
  /-- TUNNEL_QUERY (R211): TUNNEL_QUERY returns the entry image and, at the root, path, charges and pending retune. -/
  | tunnelQuery (r : Request)
  /-- ROUTE_SET_LINE (R195): ROUTE_SET op LINE sets N and the ring flag on every Damya by a ROUTE_CHANGE record. -/
  | routeSetLine (r : Request)
  /-- ROUTE_SET_CUT (R195): ROUTE_SET op CUT cuts a link by a ROUTE_CHANGE record applied at T_r. -/
  | routeSetCut (r : Request)
  /-- ROUTE_SET_RESTORE (R195): ROUTE_SET op RESTORE clears a link's cut by a ROUTE_CHANGE record applied at T_r. -/
  | routeSetRestore (r : Request)
  /-- AUDIT (R216): AUDIT runs a job that checks the conserved quantities at quiescent points, locally or across the line. -/
  | audit (r : Request)
  /-- AUDIT_STATION_TIMEOUT (R216): A station that does not answer a line-wide AUDIT within 50 ms is marked as a mismatch. -/
  | auditStationTimeout (position : Fin 33)
  /-- TRUNK_ENABLE (R173): TRUNK_ENABLE enables a trunk and moves its lanes to DETECT, or DARK in IDLE. -/
  | trunkEnable (r : Request)
  /-- TRUNK_DISABLE (R173): TRUNK_DISABLE replies and schedules the trunk's disabling. -/
  | trunkDisable (r : Request)
  /-- TRUNK_DISABLE_TAKE_EFFECT (R174): 10 µs after the reply is handed over, the trunk is disabled and its link goes DOWN. -/
  | trunkDisableTakeEffect
  /-- KEY_LOAD (R564): KEY_LOAD loads a volatile key slot, unwrapping the key under the session. -/
  | keyLoad (r : Request)
  /-- KEY_CLEAR (R562): KEY_CLEAR erases a loaded key slot. -/
  | keyClear (r : Request)
  /-- KEY_INFO (R562): KEY_INFO returns a slot's ATTR and key check value. -/
  | keyInfo (r : Request)
  /-- ATTEST (R574): ATTEST returns a signed 224-byte attestation report. -/
  | attest (r : Request)
  /-- LC_ADVANCE (R570): LC_ADVANCE runs a job that moves the life-cycle state and zeroizes as required. -/
  | lcAdvance (r : Request)
  /-- CRYPTO_HMAC (R562): CRYPTO_HMAC returns an HMAC-SHA-256 of the data under a slot key. -/
  | cryptoHmac (r : Request)
  /-- CRYPTO_SEAL (R562): CRYPTO_SEAL encrypts under AES-256-GCM with a Damya-drawn IV. -/
  | cryptoSeal (r : Request)
  /-- CRYPTO_OPEN (R562): CRYPTO_OPEN decrypts and verifies AES-256-GCM data. -/
  | cryptoOpen (r : Request)
  /-- OTP_PROGRAM_KEY (R565): OTP_PROGRAM OP 0 programs a key, ATTR and check word into an OTP slot and loads it. -/
  | otpProgramKey (r : Request)
  /-- OTP_PROGRAM_PASSWORD (R565): OTP_PROGRAM OP 1 programs the service password salt and verifier. -/
  | otpProgramPassword (r : Request)
  /-- OTP_PROGRAM_RETIRE (R565): OTP_PROGRAM OP 2 blows an OTP slot's retire bits and clears its key. -/
  | otpProgramRetire (r : Request)
  /-- ENTROPY_HEALTH_FAIL (R563): The entropy source fails its health test and random-value commands return HW_ERROR until the next boot. -/
  | entropyHealthFail
  /-- TAMPER_ASSERT (R572): TAMPER_N low for 1 µs sets the tamper latch, erases all slots, closes sessions and raises TAMPER. -/
  | tamperAssert
  /-- TAMPER_RELEASE (R572): TAMPER_N rises again and TAMPER is raised with the release event. -/
  | tamperRelease
  /-- FW_BEGIN (R591): FW_BEGIN runs a job that marks a flash slot EMPTY and erases it for a new image. -/
  | fwBegin (r : Request)
  /-- FW_WRITE_BLOCK (R592): FW_WRITE_BLOCK programs one image block and reads it back. -/
  | fwWriteBlock (r : Request)
  /-- FW_VERIFY (R591): FW_VERIFY reads the whole image and checks it, setting the slot VERIFIED. -/
  | fwVerify (r : Request)
  /-- FW_ACTIVATE (R591): FW_ACTIVATE sets the verified slot TRIAL and schedules a hitless restart or reset as MODE asks. -/
  | fwActivate (r : Request)
  /-- FW_ACTIVATE_TAKE_EFFECT (R591): 10 µs after the FW_ACTIVATE reply is handed over, the hitless restart or the reset starts. -/
  | fwActivateTakeEffect
  /-- FW_STATUS (R591): FW_STATUS returns the firmware update registers. -/
  | fwStatus (r : Request)
  /-- FW_CONFIRM (R591): FW_CONFIRM sets the running trial slot CONFIRMED. -/
  | fwConfirm (r : Request)
  /-- TRIAL_CONFIRM_TIMEOUT (R588): A trial runs CONFIRM_S seconds without FW_CONFIRM and Scribe performs RESET TYPE 0. -/
  | trialConfirmTimeout
  /-- SETTINGS_READ (R597): SETTINGS_READ returns a setting as read at the last start. -/
  | settingsRead (r : Request)
  /-- SETTINGS_WRITE (R597): SETTINGS_WRITE runs a job that writes a complete new settings copy. -/
  | settingsWrite (r : Request)
  /-- TIME_GET (R459): TIME_GET returns Meridian state and a reading of one raw value. -/
  | timeGet (r : Request)
  /-- TIME_SET_OFFSET (R459): TIME_SET_OFFSET steps Meridian by an absolute value or a delta at the master. -/
  | timeSetOffset (r : Request)
  /-- TIME_SET_RATE (R459): TIME_SET_RATE sets a pending rate applied 1 ms later. -/
  | timeSetRate (r : Request)
  /-- TIME_MASTER_SET (R459): TIME_MASTER_SET at the root names the time master and increments MGEN. -/
  | timeMasterSet (r : Request)
  /-- TIO_CONFIG (R463): TIO_CONFIG disarms a time pin and writes its configuration as one action. -/
  | tioConfig (r : Request)
  /-- TIO_ARM (R463): TIO_ARM arms or disarms a pin's trigger schedule from START. -/
  | tioArm (r : Request)
  /-- TIO_REGISTER_WRITE (R467): A write to TIO_CFGn, TIO_PERn, TIO_PERFn or TIO_WIDn disarms the pin as TIO_CONFIG does. -/
  | tioRegisterWrite (n : Fin 16) (k : Fin 4) (v : Word)
  /-- OP_SET (R547): OP_SET sets the target operating point and replies when the change completes. -/
  | opSet (r : Request)
  /-- PWR_STATUS (R547): PWR_STATUS returns the power, wake, refusal, reset-cause, clock and temperature registers. -/
  | pwrStatus (r : Request)
  /-- WAKE_CONFIG (R547): WAKE_CONFIG writes the wake masks and alarm as one action. -/
  | wakeConfig (r : Request)
  /-- EFUSE_CONTROL_OFF (R520): EFUSE_CONTROL OFF removes the command request of a channel. -/
  | efuseControlOff (r : Request)
  /-- EFUSE_CONTROL_ON (R520): EFUSE_CONTROL ON sets the command request of a channel. -/
  | efuseControlOn (r : Request)
  /-- EFUSE_CONTROL_CLEAR (R520): EFUSE_CONTROL CLEAR resets the retry counts and releases a latched channel, clearing FET_SHORT if gone. -/
  | efuseControlClear (r : Request)
  /-- EFUSE_CONTROL_STATUS (R520): EFUSE_CONTROL STATUS returns the channel's registers without change. -/
  | efuseControlStatus (r : Request)
  /-- EFUSE_CONTROL_TEST (R520): EFUSE_CONTROL TEST measures sense offset, fires the fast comparator and tests the pull-down on a channel under test. -/
  | efuseControlTest (r : Request)
  /-- EFUSE_CURVE_LOAD (R517): EFUSE_CURVE_LOAD checks a 168-byte profile and takes it as the channel's shadow. -/
  | efuseCurveLoad (r : Request)
  /-- PD_TABLE_LOAD (R480): PD_TABLE_LOAD checks the policy table, applies the budget at once and lets ports take their entries at safe points. -/
  | pdTableLoad (r : Request)
  /-- PD_PORT_CONTROL_DISABLE (R492): PD_PORT_CONTROL DISABLE removes Rp, switches the port off, discharges and frees its power. -/
  | pdPortControlDisable (r : Request)
  /-- PD_PORT_CONTROL_ENABLE (R492): PD_PORT_CONTROL ENABLE returns a disabled port to UNATTACHED. -/
  | pdPortControlEnable (r : Request)
  /-- PD_PORT_CONTROL_REOFFER (R492): PD_PORT_CONTROL REOFFER sends Source_Capabilities now. -/
  | pdPortControlReoffer (r : Request)
  /-- PD_PORT_CONTROL_HARD_RESET (R492): PD_PORT_CONTROL HARD_RESET sends Hard Reset on the port. -/
  | pdPortControlHardReset (r : Request)
  /-- PD_PORT_CONTROL_STATUS (R492): PD_PORT_CONTROL STATUS returns the port state and budget. -/
  | pdPortControlStatus (r : Request)
  /-- DIAG_SERVICE_ENTER (R548): DIAG_SERVICE_ENTER replies and schedules the named units to enter test. -/
  | diagServiceEnter (r : Request)
  /-- DIAG_SERVICE_EXIT (R548): DIAG_SERVICE_EXIT returns every unit under test to service. -/
  | diagServiceExit (r : Request)
  /-- PATTERN_CONFIG (R137): PATTERN_CONFIG sets pattern generators and checkers on trunk lanes. -/
  | patternConfig (r : Request)
  /-- LOOPBACK_SET (R137): LOOPBACK_SET sets or clears a trunk loop. -/
  | loopbackSet (r : Request)
  /-- ERROR_INJECT (R137): ERROR_INJECT injects single, burst or rate symbol errors, or stops injection. -/
  | errorInject (r : Request)
  /-- ERROR_INJECT_INTERVAL (R135): In RATE injection, each INTERVAL of symbols injects the next error. -/
  | errorInjectInterval (t : Fin 2)
  /-- COMET_CONFIG (R617): COMET_CONFIG writes a Comet selector, acting from the next epoch. -/
  | cometConfig (r : Request)
  /-- SAMPLE_CONFIG (R278): SAMPLE_CONFIG writes a sampler's registers, starting at the next epoch. -/
  | sampleConfig (r : Request)
  /-- RX_CLOCK_VALID (R103): A received forwarded clock becomes valid and the direction moves from DETECT to CLOCK_LOCK. -/
  | rxClockValid (t : Fin 2)
  /-- RX_CLOCK_LOST (R103): A received clock has no transition for 32 periods or stays out of window for 1 µs; the direction goes to DETECT. -/
  | rxClockLost (t : Fin 2)
  /-- CLOCK_SOURCE_REVERT (R105): A lower-distance clock candidate has held for CLK_REVERT_S seconds and becomes the source. -/
  | clockSourceRevert (t : Fin 2)
  /-- POISON_HOLD_END (R106): The 500 µs poison hold ends and the station selects a source by R105. -/
  | poisonHoldEnd
  /-- CLOCK_LOCK_ACHIEVED (R113): The receive phase paths lock to the received clock and training moves to BIT_LOCK. -/
  | clockLockAchieved (t : Fin 2)
  /-- BIT_LOCK_ACHIEVED (R113): A lane locks and good lane ordered sets arrive, moving training to EXCHANGE. -/
  | bitLockAchieved (t : Fin 2) (locked inverted : BitVec 5)
  /-- TRAIN_A (R111): A TRAIN_A lane ordered set is received, carrying role, width and clock distance for EXCHANGE. -/
  | trainA (t : Fin 2) (sets : List Bytes)
  /-- TRAIN_B (R111): A TRAIN_B lane ordered set carries coefficient requests and EQ_DONE for EQUALIZE. -/
  | trainB (t : Fin 2) (sets : List Bytes) (done steep : BitVec 5)
  /-- ALIGN (R111): An ALIGN lane ordered set delivers clock distance, width, lane health and a back-channel operation. -/
  | alignOs (t : Fin 2) (sets : List Bytes) (skewed : BitVec 5) (same : Bool)
  /-- STEER (R123): A STEER lane ordered set performs a steering step such as MIRROR_START or DATA_RELEASE. -/
  | steerOs (t : Fin 2) (sets : List Bytes) (same : Bool)
  /-- HUSH_ENTER (R120): HUSH_ENTER sets count down the entry of a direction into HUSH. -/
  | hushEnter (t : Fin 2) (sets : List Bytes)
  /-- DARK_ENTER (R120): DARK_ENTER sets count down the entry of a direction into DARK. -/
  | darkEnter (t : Fin 2) (sets : List Bytes)
  /-- LANE_OS_INTERVAL (R112): Every 262,144 UI the transmitter sends a lane ordered set on all five lanes. -/
  | laneOsInterval (t : Fin 2)
  /-- LANE_STATE_EXIT_DONE (R120): A HUSH or DARK exit completes and the direction returns to ON. -/
  | laneStateExitDone (t : Fin 2) (tx : Bool)
  /-- CONFIRM_WINDOW_END (R113): The CONFIRM window of 2^24 UI ends; clean lanes go to ON and the link enters INIT. -/
  | confirmWindowEnd (t : Fin 2) (counts : List Nat)
  /-- TRAINING_STATE_TIMEOUT (R113): A training state reaches its timeout and takes its timeout action. -/
  | trainingStateTimeout (t : Fin 2) (bad : BitVec 5)
  /-- TRAIN_FAIL_BACKOFF_END (R114): The 1 s wait between training attempts after TRAIN_FAIL ends. -/
  | trainFailBackoffEnd (t : Fin 2)
  /-- RECAL_PERIOD_DUE (R123): RECAL_PERIOD seconds pass and a recalibration round starts with MIRROR_REQ. -/
  | recalPeriodDue (t : Fin 2)
  /-- RECAL_ADAPT_DONE (R123): Lane adaptation converges or 1 ms passes, and the receiver sends RETURN_REQ. -/
  | recalAdaptDone (t : Fin 2) (converged : Bool)
  /-- LANE_LOCK_LOST (R125): A lane's phase detector loses lock and the lane is marked FAILED. -/
  | laneLockLost (t : Fin 2) (p : Fin 5)
  /-- LANE_ERROR_WINDOW_END (R125): A 2^24 UI error window ends; lanes above 2048 corrected bytes fail and above 256 are marginal. -/
  | laneErrorWindowEnd (t : Fin 2)
  /-- FAST_RETRAIN_COMPLETE (R129): FAST_RETRAIN finishes and the direction returns to ON at its new width. -/
  | fastRetrainComplete (t : Fin 2) (tx : Bool)
  /-- FAILED_LANE_CLEAN_PERIOD (R130): A FAILED lane runs 10 s without checker error and is retrained alone, and restored if it passes. -/
  | failedLaneCleanPeriod (t : Fin 2) (p : Fin 5) (clean : Bool)
  /-- RX_FLIT (R150): A flit is received; link fields are taken and DATA is accepted, NAKed or discarded as a duplicate. -/
  | rxFlit (t : Fin 2) (wire : Bytes)
  /-- TX_FLIT_SLOT (R158): At each flit slot the transmit engine sends the first ready item by priority, choosing the VC for new DATA. -/
  | txFlitSlot (t : Fin 2)
  /-- LINK_INIT (R168): A LINK_INIT set is received; INIT_SEEN is set and the link enters ACTIVE with its credits. -/
  | linkInit (t : Fin 2) (b : Bytes)
  /-- CREDIT_MOVE (R164): A CREDIT_MOVE set adds each DELTA to CREDIT and is answered with CREDIT_MOVE_ACK. -/
  | creditMove (t : Fin 2) (b : Bytes)
  /-- CREDIT_MOVE_ACK (R165): A CREDIT_MOVE_ACK lowers shrinking allotments and clears PENDING. -/
  | creditMoveAck (t : Fin 2) (b : Bytes)
  /-- LINK_RESET (R169): A received LINK_RESET set starts a link reset at this end. -/
  | linkReset (t : Fin 2)
  /-- CREDIT_REPORT (R166): A CREDIT_REPORT is evaluated against local credit books for AUDIT. -/
  | creditReport (t : Fin 2) (b : Bytes)
  /-- REPLAY_TIMEOUT (R153): The replay timer reaches REPLAY_TO and the transmitter replays; the replay limit may force a link reset. -/
  | replayTimeout (t : Fin 2)
  /-- NAK_REARM_TIMEOUT (R151): REPLAY_TO passes after a NAK without acceptance, and the receiver may send another NAK. -/
  | nakRearmTimeout (t : Fin 2)
  /-- HOLD_TIMEOUT (R156): HOLD has stayed set for more than 1 ms and the link resets. -/
  | holdTimeout (t : Fin 2)
  /-- CREDIT_MOVE_RESEND (R165): Every 5 µs an unacknowledged CREDIT_MOVE is resent. -/
  | creditMoveResend (t : Fin 2)
  /-- CREDIT_MOVE_TIMEOUT (R165): A CREDIT_MOVE unacknowledged for 100 µs causes a link reset. -/
  | creditMoveTimeout (t : Fin 2)
  /-- LINK_INIT_TIMEOUT (R167): INIT does not complete within 100 µs and the link resets; four timeouts send both directions to DETECT. -/
  | linkInitTimeout (t : Fin 2)
  /-- HUSH_IDLE_EXPIRY (R171): Both ends have had nothing to send for HUSH_IDLE µs and the direction enters HUSH. -/
  | hushIdleExpiry (t : Fin 2)
  /-- LINK_RESET_COMMAND (R177): Writing TLK_CTRL.LRESET starts a link reset with reason command. -/
  | linkResetCommand (t : Fin 2)
  /-- ASSIGN (R191): An ASSIGN record gives a station without position its position, which then announces and passes on ASSIGN. -/
  | assignRecord (t : Fin 2) (record : Bytes) (hop : BitVec 6)
  /-- ANNOUNCE (R192): An ANNOUNCE record at the root counts the station and reinstalls its tunnel entries. -/
  | announceRecord (t : Fin 2) (record : Bytes) (hop : BitVec 6)
  /-- HEAL (R197): A HEAL record sets a link's cut bit, recomputes routes and is forwarded. -/
  | healRecord (t : Fin 2) (record : Bytes) (hop : BitVec 6)
  /-- ROUTE_CHANGE (R195): A ROUTE_CHANGE record is stored and forwarded for application at T_r. -/
  | routeChange (t : Fin 2) (record : Bytes) (hop : BitVec 6)
  /-- CLEAR (R193): A CLEAR record makes a station forget its position and cut set, and for a root restart removes host tunnels. -/
  | clearRecord (t : Fin 2) (record : Bytes) (hop : BitVec 6)
  /-- ROUTE_CHANGE_APPLY (R195): At T_r each Damya applies a route change and starts the ingress pause. -/
  | routeChangeApply (number : BitVec 16)
  /-- ROUTE_PAUSE_END (R196): PAUSE_US after a route change, held segments are sent on the new route. -/
  | routePauseEnd (tid : Fin 1024)
  /-- CUT_DEBOUNCE_END (R197): A link DOWN for HEAL_DEB_US is declared cut; routes are recomputed and HEAL is sent. -/
  | cutDebounceEnd (t : Fin 2)
  /-- HEAL_REPEAT (R197): 500 µs and 1000 µs after a cut, the HEAL record is sent again. -/
  | healRepeat (t : Fin 2)
  /-- SEGMENT_ADMISSION (R223): The first cell of a segment reaches an input and the whole segment is admitted, discarded or dropped. -/
  | segmentAdmission (p : Fin 32)
  /-- CONTEXT_SEGMENT_START (R237): A free class context starts the segment that the scheduler chooses once eligibility, credit and room allow. -/
  | contextSegmentStart (o : Fin 32) (c : Fin 4) (room : Bool)
  /-- MULTICAST_HEAD_REPLICATE (R242): A multicast head that is eligible starts copies on ready outputs and moves other copies to the residue store. -/
  | multicastHeadReplicate (port : Fin 32) (c : Fin 4)
  /-- RESIDUE_AGE_EXPIRY (R243): A residue entry toward a non-trunk output waits more than AGE_US and is discarded. -/
  | residueAgeExpiry (port : Fin 32)
  /-- WRED_AVG_UPDATE (R234): Every 256 core cycles the WRED average of every queue is updated. -/
  | wredAvgUpdate
  /-- DESCRIPTOR_AGE_SWEEP (R255): Every 32,768 core cycles a sweep sets the age extension on descriptors. -/
  | descriptorAgeSweep
  /-- SWC_SHLOW_CLR (R250): Writing SWC_SHLOW.CLR sets LOW to the present free count. -/
  | swcShlowClr
  /-- POLICER_SNAPSHOT (R282): A write to SCH_POLSEL latches a snapshot of the selected policer. -/
  | policerSnapshot (v : Word)
  /-- URG_STATE_CLEAR_TIMEOUT (R272): No request of a fetch tunnel arrives for CLEAR_US and the root clears its urgent state. -/
  | urgStateClearTimeout (tid : Fin 1024)
  /-- URG_LONG_EXPIRY (R275): A fetch tunnel stays promoted longer than LONG_MS and URG_LONG is raised. -/
  | urgLongExpiry (tid : Fin 1024)
  /-- PCIE_UPSTREAM_RESET (R287): A fundamental or hot reset on the root's x8 link resets the virtual switch config, prefetch, outstanding table and lock. -/
  | pcieUpstreamReset
  /-- PCIE_LINK_CHANGE (R285): A PCIe port's link trains, narrows or goes down, raising PCIE_LINK. -/
  | pcieLinkChange (port : Fin 3) (lstate width speed : BitVec 4) (dl : Bool)
  /-- VDP_DOWN_TIMEOUT (R290): The route to a bound position has been DROP for DOWN_MS and Link Active falls. -/
  | vdpDownTimeout (v : Fin 64)
  /-- HOST_TLP_RECEIVED (R292): A TLP from the host is routed at the root, prefetched, parked or wrapped into its tunnel. -/
  | hostTlpReceived (b : Bytes) (good : Bool)
  /-- DEVICE_TLP_RECEIVED (R298): A TLP from a station device or function is wrapped as a PCIE segment. -/
  | deviceTlpReceived (n : Fin 2) (b : Bytes) (good : Bool)
  /-- PREFETCH_LINE_ARRIVAL (R304): A prefetched line arrives at the root and completes host reads it covers. -/
  | prefetchLineArrival (b : Bytes)
  /-- PREFETCH_LINE_AGE (R305): A prefetch line reaches PF_AGE × 10 µs and is discarded and recorded. -/
  | prefetchLineAge (tag : Fin 1024)
  /-- PREFETCH_WINDOW_WRITE (R303): Writing a prefetch window's first word discards the lines held for it. -/
  | prefetchWindowWrite (n : Fin 8) (v : Word)
  /-- COMPLETION_TIMEOUT (R296): A station function request has no final completion after CTO_MS; its tag is freed. -/
  | completionTimeout (tag : Fin 1024)
  /-- FUNCTION_LEVEL_RESET (R297): A Function Level Reset stops the station function's requesters and waits for completions. -/
  | functionLevelReset
  /-- FLR_DRAIN_END (R297): After completions return or CTO_MS passes, tags are freed and the function's state reset. -/
  | flrDrainEnd
  /-- NP_CREDIT_RETURN (R300): A link partner returns non-posted credit and parked requests are sent in arrival order. -/
  | npCreditReturn (n : Fin 2) (k : Nat)
  /-- LOCKED_READ (R307): An MRdLk acquires the line semaphore and holds device non-posted requests. -/
  | lockedRead (n : Fin 2) (b : Bytes)
  /-- UNLOCK (R307): The Unlock message releases the semaphore and waiting device requests are wrapped. -/
  | unlockMsg (n : Fin 2) (b : Bytes)
  /-- LOCK_TIMEOUT (R309): A semaphore held for LOCK_MS is released and LOCK_TIMEOUT raised. -/
  | lockTimeout (n : Fin 2)
  /-- LEVELS (R313): A LEVELS sideband message drives slot, link and INTx state of a virtual downstream port. -/
  | levelsMsg (v : Fin 64) (b : Bytes)
  /-- CONTROL (R312): A CONTROL sideband message drives PERST, link disable, slot power and resets at a station. -/
  | controlMsg (b : Bytes)
  /-- SIDEBAND_REFRESH (R312): Every 1 ms each end resends its full sideband state. -/
  | sidebandRefresh
  /-- LATCH_EDGE (R331): At the first blanking line, DSP_FRAME increments and a pending set is checked and latched. -/
  | latchEdge (p : Fin 2)
  /-- DSP_COMMIT (R332): Writing DSP_COMMIT.COMMIT sets PENDING for the next latch edge. -/
  | dspCommit (p : Fin 2)
  /-- PIPE_ENABLE (R336): DSP_CTRL.EN rising starts the raster at a latch edge or target edge. -/
  | pipeEnable (p : Fin 2)
  /-- ACTIVE_LINE_START (R328): At each active line start the pipe scans out a complete line or sends underrun color. -/
  | activeLineStart (p : Fin 2)
  /-- FETCH_COMPLETION (R326): A fetch completion fills the line buffer and the pipe requests further lines. -/
  | fetchCompletion (p : Fin 2) (a : Nat) (b : Bytes) (good : Bool)
  /-- DSP_FILLMIN_CLR (R353): Writing DSP_FILLMIN.CLR sets MIN to FILL. -/
  | dspFillminClr (p : Fin 2)
  /-- PROOF_MIS_CLR (R353): Writing DSP_PRr_MIS.CLR sets MISMATCHES to 0. -/
  | proofMisClr (p : Fin 2) (r : Fin 8)
  /-- DP_HPD_RISE (R347): HPD rises on an enabled output; DPCD is read and the link trained. -/
  | dpHpdRise (k : Fin 4)
  /-- DP_HPD_FALL (R356): HPD falls and the output reports unplugged. -/
  | dpHpdFall (k : Fin 4)
  /-- DP_IRQ_HPD (R347): An IRQ_HPD reads link status and retrains or leaves it for host software. -/
  | dpIrqHpd (k : Fin 4) (lost : Bool)
  /-- DP_TRAINING_DONE (R347): DisplayPort link training completes or fails; video starts at the next latch edge. -/
  | dpTrainingDone (k : Fin 4) (ok : Bool) (rate lanes : BitVec 2)
  /-- DPO_RETRAIN (R354): Writing DPO_CTRLk.RETRAIN retrains the output now. -/
  | dpoRetrain (k : Fin 4)
  /-- AUX_START (R349): Writing DPO_AUXCMDk.START sends one AUX transaction, held while Damya uses AUX. -/
  | auxStart (k : Fin 4) (v : Word)
  /-- AUX_REPLY (R349): An AUX reply completes the transaction or a DEFER is retried up to 7 times. -/
  | auxReply (k : Fin 4) (reply : Fin 5) (data : Bytes)
  /-- AUX_REPLY_TIMEOUT (R349): No AUX reply arrives within 400 µs. -/
  | auxReplyTimeout (k : Fin 4)
  /-- USB_MICROFRAME_START (R374): At each (micro)frame boundary SOF is sent, port blocks read and interrupt, control and bulk transactions scheduled. -/
  | usbMicroframeStart (mem : HostMem) (babble : BitVec 8)
  /-- USBH_KICK (R361): Writing USBH_KICK makes the engine read the named ports' blocks now. -/
  | usbhKick (ports : BitVec 8) (mem : HostMem)
  /-- RING_ENABLE (R361): RING_EN rising samples the port control block and resets TD_CONS and BSEQ. -/
  | ringEnable (n : Fin 8) (mem : HostMem)
  /-- RING_DISABLE (R361): RING_EN falling completes fetched descriptors with ABORTED. -/
  | ringDisable (n : Fin 8)
  /-- TD_CONTROL (R362): A CONTROL descriptor runs a whole control transfer. -/
  | tdControl (n : Fin 8) (index : BitVec 16) (mem : HostMem)
  /-- TD_BULK (R362): A BULK descriptor moves LEN bytes on its context. -/
  | tdBulk (n : Fin 8) (index : BitVec 16) (mem : HostMem)
  /-- TD_INTERRUPT (R364): An INTERRUPT descriptor moves LEN bytes on its polled interrupt endpoint. -/
  | tdInterrupt (n : Fin 8) (index : BitVec 16) (mem : HostMem)
  /-- TD_NOP (R362): A NOP descriptor produces a burst with status OK. -/
  | tdNop (n : Fin 8) (index : BitVec 16)
  /-- EP_CONFIG (R371): An EP_CONFIG descriptor binds a context and carves endpoint memory. -/
  | epConfig (n : Fin 8) (index : BitVec 16)
  /-- EP_RELEASE (R371): An EP_RELEASE descriptor aborts the context's descriptors, frees its region and unbinds it. -/
  | epRelease (n : Fin 8) (index : BitVec 16)
  /-- EP_CLEAR (R369): An EP_CLEAR descriptor clears a context's halt and resets its toggle. -/
  | epClear (n : Fin 8) (index : BitVec 16)
  /-- USB_TRANSACTION_END (R374): A bus transaction ends with its handshake, NAK or error, advancing or finishing its descriptor. -/
  | usbTransactionEnd (n : Fin 8) (r : Fin 4) (data : Bytes) (room : Bool)
  /-- USB_PORT_RESET (R376): Writing RESET ends the packet in progress, completes fetched descriptors with RESET and drives reset. -/
  | usbPortReset (n : Fin 8)
  /-- USB_PORT_RESET_END (R376): After 50 ms of reset and the chirp, the port is enabled with its speed and C_RESET set. -/
  | usbPortResetEnd (n : Fin 8) (speed : Fin 3)
  /-- USB_PORT_SUSPEND (R378): Writing SUSPEND stops SOF at the next boundary and sets SUSPENDED. -/
  | usbPortSuspend (n : Fin 8)
  /-- USB_PORT_RESUME (R378): Writing RESUME drives K for 20 ms on a suspended port. -/
  | usbPortResume (n : Fin 8)
  /-- USB_RESUME_END (R378): The resume K ends and SOF restarts, clearing SUSPENDED and setting C_PORT_SUSPEND. -/
  | usbResumeEnd (n : Fin 8)
  /-- USB_DEVICE_REMOTE_WAKE (R378): A device drives K for 2.5 µs on a suspended port, answered as a remote wake when WAKE_EN is 1. -/
  | usbDeviceRemoteWake (n : Fin 8)
  /-- USB_PORT_DISABLE (R377): Writing DISABLE clears ENABLED and completes descriptors with PORT_DISABLED. -/
  | usbPortDisable (n : Fin 8)
  /-- USB_CONNECT_CHANGE (R377): A device connects or disconnects; a disconnect disables the port and sets C_CONNECT. -/
  | usbConnectChange (n : Fin 8) (present : Bool)
  /-- USB_OVERCURRENT (R358): USBHn_OC_N low for 100 µs or an eFuse trip removes port power and sets OVERCURRENT. -/
  | usbOvercurrent (n : Fin 8) (high : Bool)
  /-- USB_RING_FULL_TIMEOUT (R390): A burst ring stays full for more than 100 ms and USB_RING is raised. -/
  | usbRingFullTimeout (n : Fin 8)
  /-- USBS_VBUS_CHANGE (R381): VBUS on TCS appears or goes, connecting or removing the USBS pull-up. -/
  | usbsVbusChange (present : Bool) (rp : Fin 3)
  /-- USBS_CONTROL_REQUEST (R381): A standard USB chapter 9 request on EP0 is answered in hardware. -/
  | usbsControlRequest (setup data : Bytes) (done : Bool)
  /-- USBS_BUS_RESET (R383): SE0 for 2.5 µs abandons control transfers, deconfigures, discards partial requests and sets BUS_RESET. -/
  | usbsBusReset (hs : Bool)
  /-- USBS_SUSPEND (R384): After 3 ms of bus idle the USBS controller enters suspend. -/
  | usbsSuspend
  /-- USBS_REMOTE_WAKE_START (R384): With all conditions met, the controller starts driving remote-wake K in slices. -/
  | usbsRemoteWakeStart (hostK : Bool)
  /-- USBS_WAKE_SLICE_END (R385): A 250 µs K slice ends, the bus is released and sampled for host resume collision. -/
  | usbsWakeSliceEnd (hostK : Bool)
  /-- USBS_HOST_RESUME (R385): The host resumes the bus and suspend ends. -/
  | usbsHostResume
  /-- USBS_EP3_POLL (R382): An EP3 IN poll receives a queued status report or a NAK. -/
  | usbsEp3Poll
  /-- ETH_FRAME_RECEIVED (R394): A received frame is stamped, sent to the point engine, or classified and wrapped into its tunnel. -/
  | ethFrameReceived (n : Fin 8) (f : Bytes) (corrected uncorrected : Nat)
  /-- PAUSE_TIME_END (R392): The pause time of a received PAUSE frame ends and transmission resumes. -/
  | pauseTimeEnd (n : Fin 8)
  /-- ETH_TX_START (R404): An egress queue starts a frame when its gate allows the whole wire time. -/
  | ethTxStart (n : Fin 8)
  /-- GATE_ENTRY_ADVANCE (R403): A gate list entry's interval ends and the next entry takes effect. -/
  | gateEntryAdvance (n : Fin 4)
  /-- GATE_COMMIT (R405): Writing ETH_GCTL.COMMIT copies the admin list to a pending set with a change time. -/
  | gateCommit (n : Fin 4)
  /-- GATE_CHANGE_TIME (R405): At the change time the pending gate list becomes operational. -/
  | gateChangeTime (n : Fin 4)
  /-- ETH_TSF_POP (R400): A four-word REG_READ at ETH_TSF0 returns and removes the oldest stamp. -/
  | ethTsfPop (n : Fin 8)
  /-- ETH_PTP_CLR_LOST (R406): Writing ETH_PTP.CLR_LOST sets LOST to 0. -/
  | ethPtpClrLost (n : Fin 8)
  /-- MDIO_START (R393): Writing ETH_MDIO.START sends one MDIO frame, ignored while BUSY. -/
  | mdioStart (v : Word)
  /-- MDIO_FRAME_DONE (R393): An MDIO frame completes and BUSY clears with any read data. -/
  | mdioFrameDone (data : BitVec 16)
  /-- ETH_LINK_CHANGE (R408): A port's link or fault state changes and ETH_LINK is raised. -/
  | ethLinkChange (n : Fin 8) (link : Bool) (speed : BitVec 2) (lock localF remoteF : Bool)
  /-- VNIC_ENABLE (R407): A virtual NIC queue's EN rising samples its control block. -/
  | vnicEnable (q : Fin 8) (mem : HostMem)
  /-- VNIC_POLL (R398): Every POLL_US the virtual NIC reads its producer fields and starts transmit or posts receive buffers. -/
  | vnicPoll (q : Fin 8) (mem : HostMem)
  /-- POINT_ENABLE (R423): PNT_CTRL.EN rising samples lengths, bases, BASE and PERIOD_N, clears the buffers and checks the set. -/
  | pointEnable (mem : HostMem)
  /-- POINT_LOAD_GO (R416): Writing PNT_LD_CTRL.GO starts a descriptor load from host memory. -/
  | pointLoadGo
  /-- POINT_LOAD_COMPLETION (R416): Descriptor read completions are stored, and at the end DONE is set and POINT_LOAD raised. -/
  | pointLoadCompletion (b : Bytes) (good : Bool)
  /-- POINT_FETCH_START (R424): At T_k − FETCH_LEAD the output fetch for cycle k starts. -/
  | pointFetchStart
  /-- POINT_FETCH_DATA_ARRIVAL (R411): Fetch completions fill the inactive output buffer or fail the fetch. -/
  | pointFetchDataArrival (mem : HostMem) (failed : Bool)
  /-- POINT_CYCLE_START (R424): At T_k the output buffers swap or go stale, a pending set latches, the window opens and the scatter walk starts. -/
  | pointCycleStart
  /-- POINT_INPUT_FRAME (R422): An input point frame is checked and its points are written to the building buffer. -/
  | pointInputFrame (n : Fin 8) (f : Bytes)
  /-- POINT_WINDOW_CLOSE (R427): At T_k + CLOSE_OFF the window closes, the scatter walk stops and the loss pass runs. -/
  | pointWindowClose
  /-- POINT_LOSS_PASS_END (R424): The loss pass ends and, if the previous writes are done, the input buffers swap and the image and record are written. -/
  | pointLossPassEnd
  /-- POINT_COMMIT (R432): Writing PNT_COMMIT sets PENDING for latch at the next cycle start. -/
  | pointCommit
  /-- HOP (R451): A HOP message measures round-trip delay and offset, adopts MGEN and disciplines the follower. -/
  | hopMsg (t : Fin 2) (payload : Bytes)
  /-- HOP_PERIODIC_SEND (R449): After XCHG_N lane ordered sets on an ACTIVE trunk, a HOP is sent. -/
  | hopPeriodicSend (t : Fin 2)
  /-- PARENT_LOSS_TIMEOUT (R447): No valid HOP from the parent within LOSS_MS, so the parent is dropped and FREERUN entered. -/
  | parentLossTimeout
  /-- PARENT_CANDIDATE_HOLD_END (R447): A lower-distance candidate has held for 100 ms and becomes the parent. -/
  | parentCandidateHoldEnd
  /-- PARENT_HOLDOFF_END (R447): The 1 ms no-parent hold after a parent loss or new MGEN ends. -/
  | parentHoldoffEnd
  /-- RATE_CHANGE_APPLY (R455): The reading reaches RATE_AT and the pending rate is applied by re-anchoring. -/
  | rateChangeApply
  /-- MGEN_WINDOW_END (R445): 1 ms after the root's first link is ACTIVE, it sets MGEN from those received. -/
  | mgenWindowEnd
  /-- MER_SNAP (R466): Writing MER_SNAP.SNAP latches RAW and its reading from one core cycle. -/
  | merSnap
  /-- TIO_CAPTURE_EDGE (R460): A selected edge on a capture pin is timed and queued as a capture entry. -/
  | tioCaptureEdge (n : Fin 16) (falling : Bool) (frac : BitVec 19) (full : Bool)
  /-- TIO_TRIGGER_EDGE (R462): An armed pin's scheduled edge time arrives and the pin is driven, or the edge is missed. -/
  | tioTriggerEdge (n : Fin 16)
  /-- TYPEC_RD_DETECT (R472): Rd is seen on an unattached source port and ATTACH_WAIT starts. -/
  | typecRdDetect (n : Fin 4) (cc2 ra : Bool)
  /-- TYPEC_ATTACH (R476): The attach debounce ends; the port takes an Rp level within budget and enters IMPLICIT or NO_BUDGET. -/
  | typecAttach (n : Fin 4)
  /-- TYPEC_DETACH (R473): CC open for DETACH_DEB_MS declares detach; the channel goes off and discharge starts. -/
  | typecDetach (n : Fin 4)
  /-- VBUS_DISCHARGED (R473): TCPn_VBUS falls below 0.8 V and the port enters UNATTACHED. -/
  | vbusDischarged (n : Fin 4)
  /-- PD_REQUEST (R478): A sink Request is accepted or rejected against the offer and free budget. -/
  | pdRequest (n : Fin 4) (pos : BitVec 4) (current : BitVec 10)
  /-- HARD_RESET_RECEIVED (R484): A Hard Reset from the partner takes VBUS to vSafe0V and frees the contract. -/
  | hardResetReceived (n : Fin 5)
  /-- SOFT_RESET (R470): A Soft_Reset from the partner resets the protocol layer. -/
  | softReset (n : Fin 5)
  /-- ROLE_SWAP_REQUEST (R470): A PR_Swap or DR_Swap is answered Reject. -/
  | roleSwapRequest (n : Fin 5) (data : Bool)
  /-- VCONN_SWAP_REQUEST (R488): A VCONN_Swap is rejected or accepted and run by the PD specification. -/
  | vconnSwapRequest (n : Fin 5)
  /-- PARTNER_PS_RDY (R488): The partner's PS_RDY in a VCONN swap lets Damya turn its VCONN off. -/
  | partnerPsRdy (n : Fin 4)
  /-- CABLE_DISCOVER_IDENTITY (R487): The cable answers SOP' Discover Identity, setting CABLE_5A when it reports 5 A. -/
  | cableDiscoverIdentity (n : Fin 4) (five : Bool)
  /-- SRC_TRANSITION_END (R483): tSrcTransition after Accept ends and VSEL moves to the new voltage. -/
  | srcTransitionEnd (n : Fin 4)
  /-- POWER_GOOD_TIMEOUT (R483): No power-good PG_TO_MS after VSEL changed, so Hard Reset is sent. -/
  | powerGoodTimeout (n : Fin 4)
  /-- HARD_RESET_RECOVER (R484): After tSrcRecover the port restores 5 V and restarts from IMPLICIT, or after three enters ERROR_RECOVERY. -/
  | hardResetRecover (n : Fin 5)
  /-- VCONN_OVERCURRENT (R487): An overcurrent on VCONN turns VCONN off while the contract stays. -/
  | vconnOvercurrent (n : Fin 4)
  /-- TCS_SOURCE_CAPABILITIES (R490): Source_Capabilities on TCS make the sink request the best allowed PDO. -/
  | tcsSourceCapabilities (rp : Fin 3) (pdos : List (Nat × Nat))
  /-- EFUSE_REQUEST_CHANGE (R499): A channel's control source requests it on or removes the request. -/
  | efuseRequestChange (n : Fin 8) (on : Bool)
  /-- EFUSE_INPUT_WINDOW_CHANGE (R500): A channel's input enters or leaves its window, moving the channel toward INSERT or back to WAIT. -/
  | efuseInputWindowChange (n : Fin 8) (x : FuseSample)
  /-- EFUSE_PRESENCE_CHANGE (R500): A channel's presence input changes, moving the channel toward INSERT or back to WAIT. -/
  | efusePresenceChange (n : Fin 8) (present : Bool)
  /-- EFUSE_INSERT_DELAY_END (R500): Insertion holds for INS_DELAY_MS and the channel enters PRECHECK. -/
  | efuseInsertDelayEnd (n : Fin 8)
  /-- EFUSE_PRECHECK_END (R502): The output falls to 10 % of VIN or 100 ms passes, and RAMP starts. -/
  | efusePrecheckEnd (n : Fin 8) (x : FuseSample)
  /-- EFUSE_RAMP_DONE (R503): VDS drops below 300 mV in RAMP and the channel enters ON. -/
  | efuseRampDone (n : Fin 8) (x : FuseSample)
  /-- EFUSE_RAMP_TIMEOUT (R503): The ramp is not done within RAMP_TO_MS and the channel trips. -/
  | efuseRampTimeout (n : Fin 8) (x : FuseSample)
  /-- EFUSE_PG_RISE (R504): Power-good conditions hold for PG_DELAY_MS and PG is reported. -/
  | efusePgRise (n : Fin 8) (x : FuseSample)
  /-- EFUSE_CURVE_TRIP (R506): A curve point's timer reaches its time and the channel trips with cause CURVE. -/
  | efuseCurveTrip (n : Fin 8) (k : Fin 16) (x : FuseSample)
  /-- EFUSE_FAST_TRIP (R507): Current above FAST_MA pulls the gate down within 300 ns, tripping with cause FAST. -/
  | efuseFastTrip (n : Fin 8) (x : FuseSample)
  /-- EFUSE_SOA_TRIP (R508): The SOA integrator reaches E_MAX and the channel trips with cause SOA. -/
  | efuseSoaTrip (n : Fin 8) (x : FuseSample)
  /-- EFUSE_RETRY_DECISION (R512): Within 50 µs of a trip the Nib starts a hold or latches the channel. -/
  | efuseRetryDecision (n : Fin 8)
  /-- EFUSE_HOLD_END (R514): The hold time ends and the channel goes to WAIT, or OFF if no longer requested. -/
  | efuseHoldEnd (n : Fin 8)
  /-- RETRY_CLEAR_EXPIRY (R515): PG holds for RETRY_CLEAR_MS and the retry counts reset, raising EFUSE_RETRY_CLEAR. -/
  | retryClearExpiry (n : Fin 8)
  /-- EFUSE_DAMAGE_DETECT (R511): A FET_SHORT, HIGH_VDS or GATE condition lasts its time and the channel latches. -/
  | efuseDamageDetect (n : Fin 8) (cause : Fin 3) (x : FuseSample)
  /-- PROFILE_SAFE_POINT (R518): A channel reaches its safe point and takes its shadow profile, raising EFUSE_PROFILE. -/
  | profileSafePoint (n : Fin 8) (x : FuseSample)
  /-- PERF_SNAP (R607): Writing PERF_CTRL.SNAP copies all counters and the time into the snapshot bank. -/
  | perfSnap
  /-- PERF_CLEAR (R608): Writing PERF_CTRL.CLEAR clears a range of live counters or only their OVF bits. -/
  | perfClear (first n : BitVec 10) (ovfOnly : Bool)
  /-- CMT_SEED_WRITE (R614): Writing CMT_SEED replaces the Comet LFSR seed. -/
  | cmtSeedWrite (v : Word)
  /-- COMET_EXPIRY (R615): A Comet not ended 268 ms after S0 ends with outcome EXPIRED. -/
  | cometExpiry (id : Word)
  /-- EFUSE_PG_FALL (R504): In ON, VDS rises above VDS_MAX_MV or the output leaves its window while the input stays in its window, and PG clears at once. -/
  | efusePgFall (n : Fin 8) (x : FuseSample)
  /-- RAIL_PG_FALL (R526): During a rail takedown, the PS_PG of the rail above falls, or 2 ms pass, and the Nib disables the next rail in descending order. -/
  | railPgFall
  /-- RAILS_OFF_MIN_END (R545): OFF_MIN_MS after the hub rails went down, a pending power cycle or wake may bring the rails up again. -/
  | railsOffMinEnd
  /-- TCS_PATH_SETTLE_END (R526): 1 ms after the Nib drives TCS_PATH_EN on TCS power, it starts bringing the hub rails up. -/
  | tcsPathSettleEnd
  /-- VCONN_SOURCE_ON_END (R488): tVCONNSourceOn after Damya turns VCONN on in an accepted VCONN swap, it sends PS_RDY and VCONN_SWAP is raised. -/
  | vconnSourceOnEnd (n : Fin 4)
deriving DecidableEq, Repr

end Sys2Proof
end

