-- ==== Sys2Proof/Decode.lean ====
section
/-!
DEFINITION. Decoding of words.  The table of operations gives no row any bits: Damya's commands are packets, register
writes and events, and no instruction word spells one.
-/

namespace Sys2Proof

/-- The command that a word spells by the table's bits: none, since no row has bits. -/
def decodeTableWord (_nbits _w : Nat) : Option Instr := none

end Sys2Proof
end

