-- ==== Sys2Proof/Machine/Bits.lean ====
section
/-!
DEFINITION. Bit fields, byte order and number forms: the helpers every layout of the manual is written with.
-/

namespace Sys2Proof.Machine

/-- A field of a register: the register's address, the field's lowest bit and its width (R12). -/
structure Fld where
  addr : Nat
  lo : Nat
  width : Nat
deriving DecidableEq, Repr

/-- The field's value in a register word. -/
def Fld.get (f : Fld) (w : Word) : Nat := (w.extractLsb' f.lo f.width).toNat

/-- The word's bits that belong to the field. -/
def Fld.mask (f : Fld) : Word := (BitVec.allOnes f.width).setWidth 32 <<< f.lo

/-- The word with the field set to `v`, taken modulo the field's width; every other bit is kept. -/
def Fld.put (f : Fld) (w : Word) (v : Nat) : Word :=
  (w &&& ~~~f.mask) ||| ((BitVec.ofNat f.width v).setWidth 32 <<< f.lo)

/-- The bits `[hi:lo]` of a number. -/
def bits (n hi lo : Nat) : Nat := (n / 2 ^ lo) % 2 ^ (hi + 1 - lo)

/-- Bit `k` of a number. -/
def bit (n k : Nat) : Bool := n.testBit k

/-- 1 for true, 0 for false: how a flag stands in a register or a record. -/
def b2n (b : Bool) : Nat := if b then 1 else 0

/-- The number with bit `k` set. -/
def setBit (n k : Nat) : Nat := n ||| 2 ^ k

/-- The number with bit `k` clear. -/
def clearBit (n k : Nat) : Nat := if n.testBit k then n - 2 ^ k else n

/-- The number with bit `k` equal to `b`. -/
def putBit (n k : Nat) (b : Bool) : Nat := if b then setBit n k else clearBit n k

/-- `n` bytes of a number, least significant first (R48). -/
def le (n v : Nat) : Bytes := (List.range n).map fun i => BitVec.ofNat 8 (v / 2 ^ (8 * i))

/-- `n` bytes of a number, most significant first. -/
def be (n v : Nat) : Bytes := (le n v).reverse

/-- The number a little-endian byte string spells. -/
def ofLe : Bytes → Nat
  | [] => 0
  | b :: r => b.toNat + 256 * ofLe r

/-- The number a big-endian byte string spells. -/
def ofBe (b : Bytes) : Nat := ofLe b.reverse

/-- `n` bytes from offset `i`; bytes beyond the end of the string read as nothing. -/
def slice (b : Bytes) (i n : Nat) : Bytes := (b.drop i).take n

/-- The little-endian number in `n` bytes from offset `i`. -/
def leAt (b : Bytes) (i n : Nat) : Nat := ofLe (slice b i n)

/-- `n` zero bytes. -/
def zeros (n : Nat) : Bytes := List.replicate n 0

/-- The string cut or filled with zero bytes to `n` bytes. -/
def padTo (n : Nat) (b : Bytes) : Bytes := b.take n ++ zeros (n - b.length)

/-- One byte of a number. -/
def byte (n : Nat) : Byte := BitVec.ofNat 8 n

/-- The ASCII bytes of a label (R71). -/
def ascii (t : String) : Bytes := t.toList.map fun c => byte c.toNat

/-- Adds and stops at the largest value (R612). -/
def satAdd (max a b : Nat) : Nat := min max (a + b)

/-- The signed value of the low `w` bits, two's complement. -/
def toSigned (w n : Nat) : Int :=
  let m := n % 2 ^ w
  if m < 2 ^ (w - 1) then (m : Int) else (m : Int) - (2 ^ w : Nat)

/-- The low `w` bits of a signed value, two's complement. -/
def ofSigned (w : Nat) (i : Int) : Nat := (i % ((2 ^ w : Nat) : Int)).toNat

/-- The signed value held within the limits of `w` bits, two's complement. -/
def satSigned (w : Nat) (i : Int) : Nat :=
  ofSigned w (max (-((2 ^ (w - 1) : Nat) : Int)) (min i ((2 ^ (w - 1) - 1 : Nat) : Int)))

/-- A quotient rounded up. -/
def ceilDiv (a b : Nat) : Nat := (a + b - 1) / b

/-- A value held between two bounds. -/
def clamp (lo hi v : Nat) : Nat := max lo (min hi v)

/-- 0 acts as 1, in the fields whose description says so. -/
def orOne (v : Nat) : Nat := if v = 0 then 1 else v

end Sys2Proof.Machine
end

