-- ==== Sys2Proof/Machine/Crypto.lean ====
section
/-!
DEFINITION. The cryptographic functions and check codes the manual names: SHA-256, HMAC, PBKDF2, AES-256-GCM (R71, R73,
R75, R562, R583) and the CRC-32 of R141.  The manual names the algorithms and not their steps, which are PRESUMED from
the public standards (log entry 8).
-/

namespace Sys2Proof.Machine

/-- `n` words packed in a number, the first in the lowest 32 bits. -/
def unpackWords (n v : Nat) : List Word := (List.range n).map fun i => BitVec.ofNat 32 (v >>> (32 * i))

/-- The round constants of SHA-256 in order, four to a row. -/
def shaRows : List Nat := [
  0xe9b5dba5b5c0fbcf71374491428a2f98, 0xab1c5ed5923f82a459f111f13956c25b,
  0x550c7dc3243185be12835b01d807aa98, 0xc19bf1749bdc06a780deb1fe72be5d74,
  0x240ca1cc0fc19dc6efbe4786e49b69c1, 0x76f988da5cb0a9dc4a7484aa2de92c6f,
  0xbf597fc7b00327c8a831c66d983e5152, 0x1429296706ca6351d5a79147c6e00bf3,
  0x53380d134d2c6dfc2e1b213827b70a85, 0x92722c8581c2c92e766a0abb650a7354,
  0xc76c51a3c24b8b70a81a664ba2bfe8a1, 0x106aa070f40e3585d6990624d192e819,
  0x34b0bcb52748774c1e376c0819a4c116, 0x682e6ff35b9cca4f4ed8aa4a391c0cb3,
  0x8cc7020884c8781478a5636f748f82ee, 0xc67178f2bef9a3f7a4506ceb90befffa]

/-- The 64 of them. -/
def shaK : List Word := shaRows.flatMap (unpackWords 4)

/-- The initial hash value of SHA-256. -/
def shaH : List Word := unpackWords 8
  0x5be0cd191f83d9ab9b05688c510e527fa54ff53a3c6ef372bb67ae856a09e667

/-- A big-endian word string as words. -/
def wordsBe : Bytes → List Word
  | a :: b :: c :: d :: r => (a ++ b ++ c ++ d : BitVec 32) :: wordsBe r
  | _ => []

/-- Extends a message schedule held newest first by `n` words. -/
def shaSchedule : Nat → List Word → List Word
  | 0, w => w
  | n + 1, w =>
    let s0 := w.getD 14 0
    let s1 := w.getD 1 0
    let a := s0.rotateRight 7 ^^^ s0.rotateRight 18 ^^^ (s0 >>> 3)
    let b := s1.rotateRight 17 ^^^ s1.rotateRight 19 ^^^ (s1 >>> 10)
    shaSchedule n ((w.getD 15 0 + a + w.getD 6 0 + b) :: w)

/-- One round of the compression function on the eight working words. -/
def shaRound (v : List Word) (kw : Word) : List Word :=
  match v with
  | [a, b, c, d, e, f, g, h] =>
    let s1 := e.rotateRight 6 ^^^ e.rotateRight 11 ^^^ e.rotateRight 25
    let t1 := h + s1 + ((e &&& f) ^^^ (~~~e &&& g)) + kw
    let s0 := a.rotateRight 2 ^^^ a.rotateRight 13 ^^^ a.rotateRight 22
    let t2 := s0 + ((a &&& b) ^^^ (a &&& c) ^^^ (b &&& c))
    [t1 + t2, a, b, c, d + t1, e, f, g]
  | v => v

/-- One 64-byte block. -/
def shaBlock (h : List Word) (block : Bytes) : List Word :=
  let w := (shaSchedule 48 (wordsBe block).reverse).reverse
  let v := (List.zipWith (· + ·) shaK w).foldl shaRound h
  List.zipWith (· + ·) h v

/-- The blocks of a padded message. -/
def shaBlocks : Nat → Bytes → List Word → List Word
  | 0, _, h => h
  | n + 1, m, h => shaBlocks n (m.drop 64) (shaBlock h (m.take 64))

/-- SHA-256. -/
def sha256 (m : Bytes) : Bytes :=
  let n := m.length
  let k := (55 - (n % 64 : Int)) % 64
  let p := m ++ [0x80] ++ zeros k.toNat ++ be 8 (8 * n)
  ((shaBlocks (p.length / 64) p shaH).map fun w => be 4 w.toNat).flatten

/-- HMAC-SHA-256. -/
def hmac (key m : Bytes) : Bytes :=
  let k := padTo 64 (if key.length > 64 then sha256 key else key)
  let x (v : Byte) := k.map (· ^^^ v)
  sha256 (x 0x5c ++ sha256 (x 0x36 ++ m))

/-- Byte-wise exclusive or. -/
def xorBytes (a b : Bytes) : Bytes := List.zipWith (· ^^^ ·) a b

/-- The iterations of PBKDF2 after the first: the exclusive or of the chain. -/
def pbkdf2Loop (pw : Bytes) : Nat → Bytes → Bytes → Bytes
  | 0, _, acc => acc
  | n + 1, u, acc => let u' := hmac pw u; pbkdf2Loop pw n u' (xorBytes acc u')

/-- PBKDF2-HMAC-SHA-256 with 10,000 iterations and 32 bytes of result (R75). -/
def pbkdf2 (pw salt : Bytes) : Bytes :=
  let u := hmac pw (salt ++ be 4 1)
  pbkdf2Loop pw 9999 u u

/-- Doubling in the AES field. -/
def aesX (b : Byte) : Byte := (b <<< 1) ^^^ (if b.msb then 0x1b else 0)

/-- The AES substitution table: row k holds the substitutes of 16 k to 16 k + 15, the first in the lowest byte. -/
def aesTable : List Nat := [
  0x76abd7fe2b670130c56f6bf27b777c63, 0xc072a49cafa2d4adf04759fa7dc982ca,
  0x1531d871f1e5a534ccf73f362693fdb7, 0x75b227ebe28012079a059618c323c704,
  0x842fe329b3d63b52a05a6e1b1a2c8309, 0xcf584c4a39becb6a5bb1fc20ed00d153,
  0xa89f3c507f02f94585334d43fbaaefd0, 0xd2f3ff1021dab6bcf5389d928f40a351,
  0x73195d643d7ea7c41744975fec130ccd, 0xdb0b5ede14b8ee4688902a22dc4f8160,
  0x79e4959162acd3c25c2406490a3a32e0, 0x08ae7a65eaf4566ca94ed58d6d37c8e7,
  0x8a8bbd4b1f74dde8c6b4a61c2e2578ba, 0x9e1dc186b95735610ef6034866b53e70,
  0xdf2855cee9871e9b948ed9691198f8e1, 0x16bb54b00f2d99416842e6bf0d89a18c]

/-- The AES substitution. -/
def aesSub (a : Byte) : Byte := BitVec.ofNat 8 (aesTable.getD (a.toNat / 16) 0 >>> (8 * (a.toNat % 16)))

/-- The key schedule of AES-256 held newest word first; `i` counts the words made. -/
def aesExpand : Nat → Nat → Byte → List Bytes → List Bytes
  | 0, _, _, w => w
  | n + 1, i, rc, w =>
    let last := w.headD []
    let t := if i % 8 = 0 then
        match (last.rotateLeft 1).map aesSub with
        | a :: r => (a ^^^ rc) :: r
        | [] => []
      else if i % 8 = 4 then last.map aesSub else last
    aesExpand n (i + 1) (if i % 8 = 0 then aesX rc else rc) (xorBytes (w.getD 7 []) t :: w)

/-- The string cut into pieces of `k` bytes, at most `n` of them. -/
def chunks (k : Nat) : Nat → Bytes → List Bytes
  | 0, _ => []
  | n + 1, b => if b.isEmpty then [] else b.take k :: chunks k n (b.drop k)

/-- The fifteen round keys of AES-256. -/
def aesKeys (key : Bytes) : List Bytes :=
  let w := (aesExpand 52 8 1 (chunks 4 8 key).reverse).reverse
  chunks 16 15 w.flatten

/-- The shift of the state's rows; the state is held column by column. -/
def aesShift (s : Bytes) : Bytes := (List.range 16).map fun i => s.getD ((i + 4 * (i % 4)) % 16) 0

/-- The mixing of one column. -/
def aesMix (c : Bytes) : Bytes :=
  match c with
  | [a, b, d, e] =>
    let t := a ^^^ b ^^^ d ^^^ e
    [a ^^^ t ^^^ aesX (a ^^^ b), b ^^^ t ^^^ aesX (b ^^^ d), d ^^^ t ^^^ aesX (d ^^^ e), e ^^^ t ^^^ aesX (e ^^^ a)]
  | c => c

/-- The rounds after the first key addition. -/
def aesRounds : List Bytes → Bytes → Bytes
  | [], s => s
  | [k], s => xorBytes (aesShift (s.map aesSub)) k
  | k :: r, s => aesRounds r (xorBytes ((chunks 4 4 (aesShift (s.map aesSub))).map aesMix).flatten k)

/-- AES-256 on one block, with the round keys. -/
def aesBlock (keys : List Bytes) (b : Bytes) : Bytes :=
  match keys with
  | k :: r => aesRounds r (xorBytes b k)
  | [] => b

/-- Multiplication in the GHASH field over `n` bits of `x`, most significant first. -/
def ghashMulN : Nat → BitVec 128 → BitVec 128 → BitVec 128 → BitVec 128
  | 0, _, _, z => z
  | n + 1, x, v, z =>
    let z := if x.msb then z ^^^ v else z
    let v := (v >>> 1) ^^^ (if v.getLsbD 0 then (0xe1 : BitVec 128) <<< 120 else 0)
    ghashMulN n (x <<< 1) v z

/-- GHASH over whole blocks. -/
def ghash (h : BitVec 128) (blocks : List Bytes) : BitVec 128 :=
  blocks.foldl (fun y b => ghashMulN 128 (y ^^^ BitVec.ofNat 128 (ofBe (padTo 16 b))) h 0) 0

/-- The counter-mode key stream over `n` blocks from counter `c`. -/
def gcmStream (keys : List Bytes) (iv : Bytes) : Nat → Nat → Bytes
  | 0, _ => []
  | n + 1, c => aesBlock keys (iv ++ be 4 c) ++ gcmStream keys iv n (c + 1)

/-- Counter-mode encryption, which is its own inverse. -/
def gcmCrypt (keys : List Bytes) (iv m : Bytes) : Bytes := xorBytes m (gcmStream keys iv (ceilDiv m.length 16) 2)

/-- The GCM tag of ciphertext `c`. -/
def gcmTag (keys : List Bytes) (iv aad c : Bytes) : Bytes :=
  let h := BitVec.ofNat 128 (ofBe (aesBlock keys (zeros 16)))
  let cut (b : Bytes) := chunks 16 (ceilDiv b.length 16) b
  let y := ghash h (cut aad ++ cut c ++ [be 8 (8 * aad.length) ++ be 8 (8 * c.length)])
  xorBytes (be 16 y.toNat) (aesBlock keys (iv ++ be 4 1))

/-- AES-256-GCM encryption: ciphertext and tag. -/
def gcmSeal (key iv aad m : Bytes) : Bytes × Bytes :=
  let k := aesKeys key
  let c := gcmCrypt k iv m
  (c, gcmTag k iv aad c)

/-- AES-256-GCM decryption: the plaintext where the tag verifies. -/
def gcmOpen (key iv aad c tag : Bytes) : Option Bytes :=
  let k := aesKeys key
  if gcmTag k iv aad c = tag then some (gcmCrypt k iv c) else none

/-- A reflected CRC over the bits of one byte. -/
def crcBits (poly : Nat) : Nat → Nat → Nat
  | 0, c => c
  | n + 1, c => crcBits poly n (if c % 2 = 1 then (c / 2) ^^^ poly else c / 2)

/-- A reflected CRC over a byte string. -/
def crcReflected (poly init : Nat) (b : Bytes) : Nat := b.foldl (fun c x => crcBits poly 8 (c ^^^ x.toNat)) init

end Sys2Proof.Machine
end

