-- ==== Sys2Proof/Machine/Coding.lean ====
section
/-!
DEFINITION. The line codes of the trunk: CRC-32 (R141), CRC-16 (R110), and the Reed–Solomon code RS(136,128) over
GF(2^8) of R140 with its interleaving into a flit of 272 bytes (R139).
-/

namespace Sys2Proof.Machine

/-- CRC-32 of R141. -/
def crc32 (b : Bytes) : Nat := crcReflected 0xEDB88320 0xFFFFFFFF b ^^^ 0xFFFFFFFF

/-- One byte through CRC-16 of R110, most significant bit first. -/
def crc16Bits : Nat → Nat → Nat
  | 0, c => c
  | n + 1, c => crc16Bits n (if c.testBit 15 then (c * 2 % 65536) ^^^ 0x1021 else c * 2 % 65536)

/-- CRC-16 of R110: x^16 + x^12 + x^5 + 1, initial value 0xFFFF, no reflection and no final inversion. -/
def crc16 (b : Bytes) : Nat := b.foldl (fun c x => crc16Bits 8 (c ^^^ (x.toNat * 256))) 0xFFFF

/-! GF(2^8) with x^8 + x^4 + x^3 + x^2 + 1 -/

/-- Multiplication by α = 2. -/
def gfX (a : Nat) : Nat := if a.testBit 7 then (a * 2 % 256) ^^^ 0x1D else a * 2

/-- Multiplication, by the bits of the second factor from the lowest. -/
def gfMulN : Nat → Nat → Nat → Nat
  | 0, _, _ => 0
  | n + 1, a, b => (if b % 2 = 1 then a else 0) ^^^ gfMulN n (gfX a) (b / 2)

/-- Multiplication. -/
def gfMul (a b : Nat) : Nat := gfMulN 8 a b

/-- Powers. -/
def gfPow (a : Nat) : Nat → Nat
  | 0 => 1
  | n + 1 => gfMul a (gfPow a n)

/-- The inverse, a^254. -/
def gfInv (a : Nat) : Nat :=
  let a2 := gfMul a a
  let a4 := gfMul a2 a2
  let a8 := gfMul a4 a4
  let a16 := gfMul a8 a8
  let a32 := gfMul a16 a16
  let a64 := gfMul a32 a32
  let a128 := gfMul a64 a64
  gfMul a2 (gfMul a4 (gfMul a8 (gfMul a16 (gfMul a32 (gfMul a64 a128)))))

/-- The value at x of the polynomial with these coefficients, lowest degree first. -/
def gfEval (p : List Nat) (x : Nat) : Nat := p.foldr (fun c acc => c ^^^ gfMul acc x) 0

/-- The sum of two polynomials. -/
def gfAdd : List Nat → List Nat → List Nat
  | [], q => q
  | p, [] => p
  | a :: p, b :: q => (a ^^^ b) :: gfAdd p q

/-- A polynomial times a constant. -/
def gfScale (k : Nat) (p : List Nat) : List Nat := p.map (gfMul k)

/-- The generator g(x) without its leading 1, highest degree first: one factor x + α^i after another. -/
def rsGenerator : List Nat :=
  let g := (List.range 8).foldl (fun g i => gfAdd (0 :: g) (gfScale (gfPow 2 i) g)) [1]
  g.reverse.drop 1

/-- The eight parity symbols of a message, from the highest degree down: the remainder of division by g(x). -/
def rsParity (m : List Nat) : List Nat :=
  m.foldl (fun r c =>
    let k := c ^^^ r.headD 0
    List.zipWith (· ^^^ ·) (r.drop 1 ++ [0]) (gfScale k rsGenerator)) (List.replicate 8 0)

/-- The eight syndromes of a codeword given from the highest degree down: its values at α^0 to α^7. -/
def rsSyndromes (c : List Nat) : List Nat :=
  (List.range 8).map fun i => c.foldl (fun acc x => gfMul acc (gfPow 2 i) ^^^ x) 0

/-- The error locator from the syndromes, by the Berlekamp–Massey steps, lowest degree first, with its length. -/
structure Locator where
  c : List Nat := [1]
  b : List Nat := [1]
  len : Nat := 0
  gap : Nat := 1
  last : Nat := 1

/-- One step, for syndrome n. -/
def Locator.step (s : List Nat) (x : Locator) (n : Nat) : Locator :=
  let d := (List.range (x.len + 1)).foldl (fun acc i => acc ^^^ gfMul (x.c.getD i 0) (s.getD (n - i) 0)) 0
  if d == 0 then { x with gap := x.gap + 1 }
  else
    let c := gfAdd x.c (List.replicate x.gap 0 ++ gfScale (gfMul d (gfInv x.last)) x.b)
    if 2 * x.len ≤ n then { c := c, b := x.c, len := n + 1 - x.len, gap := 1, last := d }
    else { x with c := c, gap := x.gap + 1 }

/-- The codeword's corrected symbols and the places corrected, counted from the highest degree; none where it cannot be
corrected: a codeword has up to four byte errors (R140). -/
def rsCorrect (w : List Nat) : Option (List Nat × List Nat) :=
  let s := rsSyndromes w
  if s.all (· == 0) then some (w, [])
  else
    let x := (List.range 8).foldl (Locator.step s) {}
    let n := w.length
    let places := (List.range n).filter fun i => gfEval x.c (gfInv (gfPow 2 (n - 1 - i))) == 0
    if 4 < x.len || places.length != x.len then none
    else
      let omega := (List.range 8).map fun k =>
        (List.range (k + 1)).foldl (fun acc i => acc ^^^ gfMul (x.c.getD i 0) (s.getD (k - i) 0)) 0
      let deriv := (List.range 4).flatMap fun k => [x.c.getD (2 * k + 1) 0, 0]
      let fix := places.map fun i =>
        let l := gfPow 2 (n - 1 - i)
        let inv := gfInv l
        (i, gfMul l (gfMul (gfEval omega inv) (gfInv (gfEval deriv inv))))
      let v := fix.foldl (fun v e => v.set e.1 (v.getD e.1 0 ^^^ e.2)) w
      if (rsSyndromes v).all (· == 0) then some (v, places) else none

/-! The flit on the wire (R139, R140) -/

/-- The wire bytes of codeword A (0) or B (1), in ascending order: the groups of its parity. -/
def flitIndices (w : Nat) : List Nat :=
  ((List.range 68).filter fun g => g % 2 == w).flatMap fun g => [4 * g, 4 * g + 1, 4 * g + 2, 4 * g + 3]

/-- A body of 252 bytes as 272 wire bytes: with its CRC-32 and both codewords' parity. -/
def flitWire (body : Bytes) : Bytes :=
  let b := body ++ le 4 (crc32 body)
  let v := b.map (·.toNat)
  let part (w : Nat) : List Nat := rsParity ((flitIndices w).take 128 |>.map fun i => v.getD i 0)
  let pa := (part 0).map byte
  let pb := (part 1).map byte
  b ++ pa.take 4 ++ pb.take 4 ++ pa.drop 4 ++ pb.drop 4

/-- What a receiver makes of 272 wire bytes: the body after correction, the wire places corrected, and whether its CRC-32
holds; none where a codeword cannot be corrected or the flit was cut short (R142, R147). -/
def flitRead (wire : Bytes) : Option (Bytes × List Nat × Bool) :=
  if wire.length != 272 then none
  else
    let v := wire.map (·.toNat)
    let ia := flitIndices 0
    let ib := flitIndices 1
    match rsCorrect (ia.map fun i => v.getD i 0), rsCorrect (ib.map fun i => v.getD i 0) with
    | some (a, ea), some (b, eb) =>
      let put (v : List Nat) (ix : List Nat) (c : List Nat) : List Nat :=
        (ix.zip c).foldl (fun v e => v.set e.1 e.2) v
      let body := (put (put v ia a) ib b).map byte
      some (body.take 252, (ea.map fun k => ia.getD k 0) ++ (eb.map fun k => ib.getD k 0),
        leAt body 252 4 == crc32 (body.take 252))
    | _, _ => none

/-- A lane ordered set with its CRC-16, high byte first (R110). -/
def laneSetWire (b : Bytes) : Bytes :=
  let b := padTo 30 b
  b ++ be 2 (crc16 (b.drop 4))

/-- A lane ordered set's CRC is right. -/
def laneSetGood (b : Bytes) : Bool := b.length == 32 && ofBe (b.drop 30) == crc16 (slice b 4 26)

end Sys2Proof.Machine
end

