-- ==== Sys2Proof/Config.lean ====
section
/-!
DEFINITION. What an implementation fixes or the manual leaves open.  Every constant here is opaque: no proof can see a
value of it, so a statement that holds, holds whatever it is.  The assumption log names each one.
-/

namespace Sys2Proof.Config

/-- The k-th free number: a value the manual leaves open, drawn in order of the counter `State.fresh` (log entry 3). -/
opaque freeNat : Nat → Nat

/-- The k-th free byte: random bytes (nonces, initialization vectors, generator output; R71, R562, R563). -/
opaque freeByte : Nat → Byte

/-- The keys Grarex programs into OTP slots 0 and 1 and does not publish (R656). -/
opaque factoryKey : Nat → Bytes

/-- SHA-256 of the ROM: M_ROM of R574. -/
opaque romDigest : Bytes

/-- The symbols of QPRBS13 by their place: IEEE 802.3 defines them (R134). -/
opaque qprbs13 : Nat → Nat

end Sys2Proof.Config
end

