-- ==== Sys2Proof/Machine/Table.lean ====
section
/-!
DEFINITION. Sparse maps in one canonical form: keys strictly rising, and no entry equal to what an unlisted key reads
as.  Registers, counters, buffers and every other numbered collection of the machine are held so; equal contents are
then equal data.
-/

namespace Sys2Proof.Table

/-- The value at key `k`: the first entry for `k`, or the default. -/
def get {α : Type} (d : Nat → α) (t : Table α) (k : Nat) : α :=
  match t.find? (fun e => e.1 == k) with
  | some e => e.2
  | none => d k

/-- Puts an entry for `k` in its place, in rising order of key. -/
def insert {α : Type} (k : Nat) (v : α) : Table α → Table α
  | [] => [(k, v)]
  | e :: r => if k < e.1 then (k, v) :: e :: r else if k = e.1 then (k, v) :: r else e :: insert k v r

/-- Writes `v` at key `k`; a value equal to the default removes the entry. -/
def set {α : Type} [DecidableEq α] (d : Nat → α) (t : Table α) (k : Nat) (v : α) : Table α :=
  if v = d k then t.filter (fun e => e.1 != k) else insert k v t

/-- The canonical form. -/
def wf {α : Type} [DecidableEq α] (d : Nat → α) : Table α → Bool
  | [] => true
  | [e] => decide (e.2 ≠ d e.1)
  | e :: f :: r => decide (e.2 ≠ d e.1) && decide (e.1 < f.1) && wf d (f :: r)

/-- Removes every entry whose key does not satisfy `p`: those keys read as the default again. -/
def keep {α : Type} (p : Nat → Bool) (t : Table α) : Table α := t.filter (fun e => p e.1)

/-- Writes consecutive keys from `k` up. -/
def setFrom {α : Type} [DecidableEq α] (d : Nat → α) (t : Table α) (k : Nat) : List α → Table α
  | [] => t
  | v :: r => setFrom d (set d t k v) (k + 1) r

/-- The values at `n` consecutive keys from `k` up. -/
def range {α : Type} (d : Nat → α) (t : Table α) (k n : Nat) : List α :=
  (List.range n).map fun i => get d t (k + i)

end Sys2Proof.Table
end

