-- ==== Sys2Proof/Machine/RegMap.lean ====
section
/-!
DEFINITION. The register map: every register of the manual's register tables with its fields, their access types and
their reset values (R13 to R18, R82), and one name per field.  Reserved fields are the bits no field names: they read 0
and ignore what is written (R15).
-/

namespace Sys2Proof.Machine

/-- The access types of R13. -/
inductive Access where
  | rw | ro | w1c | wo | rws | rwl
deriving DecidableEq, Repr

/-- One field of a register row: bits `[hi:lo]`, its access type and its reset value.  Where the value depends on the
register's own index, the list holds one value per index; a list of one value holds for all. -/
structure FieldDef where
  hi : Nat
  lo : Nat
  acc : Access
  resets : List Nat
deriving DecidableEq, Repr

/-- One register or register array: its first address, the strides and counts of its indices (the outermost first) and
its fields. -/
structure RegRow where
  base : Nat
  dims : List (Nat × Nat)
  fields : List FieldDef
deriving DecidableEq, Repr

/-- The last index that the offset `off` spells in the row's strides; none where the offset is no register of it. -/
def dimIndex (off : Nat) : List (Nat × Nat) → Nat → Option Nat
  | [], last => if off = 0 then some last else none
  | (st, ct) :: r, _ =>
    let i := off / st
    if r.isEmpty then (if off % st = 0 ∧ i < ct then some i else none)
    else if i < ct then dimIndex (off - st * i) r i else none

/-- The index of the register of this row at address `a`. -/
def RegRow.index (r : RegRow) (a : Nat) : Option Nat := if a < r.base then none else dimIndex (a - r.base) r.dims 0

/-- The field's reset value in the register of index `i`. -/
def FieldDef.reset (f : FieldDef) (i : Nat) : Nat :=
  match f.resets with
  | [v] => v
  | l => l.getD i 0

/-- The field as a place in the register at address `a`. -/
def FieldDef.at (f : FieldDef) (a : Nat) : Fld := ⟨a, f.lo, f.hi + 1 - f.lo⟩

/-- The SYS block (R9, R33, R34). -/
def rowsSys : List RegRow := [
  ⟨0x0, [], [⟨31, 16, .ro, [18472]⟩, ⟨15, 8, .ro, [1]⟩, ⟨7, 0, .ro, [1]⟩]⟩,
  ⟨0x10, [], [⟨21, 16, .ro, [0]⟩, ⟨12, 12, .ro, [0]⟩, ⟨11, 11, .ro, [0]⟩, ⟨10, 10, .ro, [0]⟩, ⟨9, 9, .ro, [0]⟩, ⟨8, 8, .ro, [0]⟩, ⟨7, 4, .ro, [2]⟩, ⟨3, 0, .ro, [2]⟩]⟩,
  ⟨0x14, [], [⟨22, 22, .ro, [0]⟩, ⟨21, 21, .ro, [0]⟩, ⟨20, 20, .ro, [0]⟩, ⟨19, 12, .ro, [0]⟩, ⟨11, 8, .ro, [0]⟩, ⟨7, 6, .ro, [0]⟩, ⟨5, 4, .ro, [0]⟩, ⟨3, 2, .ro, [0]⟩, ⟨1, 0, .ro, [0]⟩]⟩]

/-- The QUE block (R90, R92). -/
def rowsQue : List RegRow := [
  ⟨0xD20000, [(0x40, 4)], [⟨28, 16, .rw, [0]⟩, ⟨2, 2, .rw, [1]⟩, ⟨1, 1, .rw, [0]⟩, ⟨0, 0, .rw, [1]⟩]⟩,
  ⟨0xD20004, [(0x40, 4)], [⟨31, 16, .ro, [0]⟩, ⟨15, 0, .ro, [0]⟩]⟩,
  ⟨0xD20008, [(0x40, 4)], [⟨31, 16, .ro, [0]⟩, ⟨15, 0, .ro, [0]⟩]⟩,
  ⟨0xD2000C, [(0x40, 4)], [⟨15, 0, .ro, [0]⟩]⟩,
  ⟨0xD20010, [(0x40, 4)], [⟨31, 12, .rw, [0]⟩]⟩,
  ⟨0xD20014, [(0x40, 4)], [⟨31, 0, .rw, [0]⟩]⟩,
  ⟨0xD20018, [(0x40, 4)], [⟨31, 16, .ro, [512, 4096, 2048, 1024]⟩, ⟨15, 8, .ro, [32, 16, 64, 16]⟩, ⟨2, 2, .w1c, [0]⟩, ⟨1, 1, .ro, [1]⟩, ⟨0, 0, .ro, [0]⟩]⟩]

/-- The TRL block (R132, R133), part 1. -/
def rowsTrl1 : List RegRow := [
  ⟨0x100000, [(0x20000, 2)], [⟨31, 24, .rw, [10]⟩, ⟨23, 16, .rw, [10]⟩, ⟨5, 5, .rw, [1]⟩, ⟨4, 4, .rw, [1]⟩, ⟨3, 2, .rw, [2]⟩]⟩,
  ⟨0x100004, [(0x20000, 2)], [⟨31, 28, .ro, [0]⟩, ⟨27, 26, .ro, [0]⟩, ⟨25, 24, .ro, [0]⟩, ⟨23, 18, .ro, [63]⟩, ⟨17, 17, .ro, [0]⟩, ⟨16, 16, .ro, [0]⟩, ⟨15, 15, .ro, [0]⟩, ⟨14, 14, .ro, [0]⟩, ⟨12, 8, .ro, [0]⟩, ⟨7, 0, .ro, [0]⟩]⟩,
  ⟨0x100008, [(0x20000, 2)], [⟨20, 20, .ro, [0]⟩, ⟨17, 16, .ro, [0]⟩, ⟨14, 12, .ro, [3]⟩, ⟨10, 8, .ro, [2]⟩, ⟨6, 4, .ro, [1]⟩, ⟨2, 0, .ro, [0]⟩]⟩,
  ⟨0x10000C, [(0x20000, 2)], [⟨28, 24, .ro, [0]⟩, ⟨20, 16, .ro, [0]⟩, ⟨15, 8, .ro, [0]⟩, ⟨7, 0, .ro, [0]⟩]⟩,
  ⟨0x100010, [(0x20000, 2)], [⟨21, 16, .ro, [63]⟩, ⟨9, 8, .ro, [0]⟩, ⟨0, 0, .ro, [0]⟩]⟩,
  ⟨0x100014, [(0x20000, 2)], [⟨1, 0, .ro, [0]⟩]⟩,
  ⟨0x100200, [(0x20000, 2)], [⟨31, 0, .rw, [0]⟩]⟩,
  ⟨0x100204, [(0x20000, 2)], [⟨31, 0, .rw, [0]⟩]⟩,
  ⟨0x100100, [(0x20000, 2), (0x20, 5)], [⟨29, 24, .ro, [0]⟩, ⟨21, 16, .ro, [0]⟩, ⟨12, 8, .ro, [0]⟩, ⟨3, 0, .ro, [8]⟩]⟩,
  ⟨0x100104, [(0x20000, 2), (0x20, 5)], [⟨28, 24, .ro, [0]⟩, ⟨18, 16, .ro, [0]⟩, ⟨15, 8, .ro, [0]⟩, ⟨0, 0, .ro, [0]⟩]⟩,
  ⟨0x100108, [(0x20000, 2), (0x20, 5)], [⟨29, 24, .ro, [0]⟩, ⟨21, 16, .ro, [0]⟩]⟩,
  ⟨0x10010C, [(0x20000, 2), (0x20, 5)], [⟨15, 0, .ro, [0]⟩]⟩]

/-- The TRL block (R132, R133), part 2. -/
def rowsTrl2 : List RegRow := [
  ⟨0x100110, [(0x20000, 2), (0x20, 5)], [⟨10, 8, .ro, [0]⟩, ⟨4, 4, .ro, [0]⟩, ⟨3, 3, .ro, [0]⟩, ⟨1, 1, .ro, [0]⟩, ⟨0, 0, .ro, [0]⟩]⟩,
  ⟨0x100114, [(0x20000, 2), (0x20, 5)], [⟨31, 24, .ro, [0]⟩, ⟨0, 0, .ro, [0]⟩]⟩,
  ⟨0x100118, [(0x20000, 2), (0x20, 5)], [⟨31, 0, .ro, [0]⟩]⟩]

/-- The TRL block (R132, R133). -/
def rowsTrl : List RegRow := rowsTrl1 ++ rowsTrl2

/-- The TLK block (R177). -/
def rowsTlk : List RegRow := [
  ⟨0x110000, [(0x20000, 2)], [⟨31, 24, .rw, [40]⟩, ⟨23, 20, .rw, [4]⟩, ⟨15, 8, .rw, [0]⟩, ⟨1, 1, .wo, [0]⟩, ⟨0, 0, .ro, [0]⟩]⟩,
  ⟨0x110004, [(0x20000, 2)], [⟨31, 29, .ro, [0]⟩, ⟨28, 28, .ro, [0]⟩, ⟨27, 27, .ro, [0]⟩, ⟨23, 18, .ro, [63]⟩, ⟨15, 8, .ro, [0]⟩, ⟨7, 0, .ro, [0]⟩]⟩,
  ⟨0x110008, [(0x20000, 2)], [⟨27, 16, .ro, [0]⟩, ⟨11, 0, .ro, [0]⟩]⟩,
  ⟨0x11000C, [(0x20000, 2)], [⟨31, 28, .ro, [0]⟩, ⟨24, 16, .ro, [0]⟩, ⟨11, 0, .ro, [4095]⟩]⟩,
  ⟨0x110010, [(0x20000, 2)], [⟨16, 16, .ro, [0]⟩, ⟨15, 8, .ro, [0]⟩, ⟨7, 0, .ro, [0]⟩]⟩,
  ⟨0x110020, [(0x20000, 2), (0x4, 4)], [⟨28, 16, .ro, [1024]⟩, ⟨12, 0, .rws, [1024]⟩]⟩,
  ⟨0x110030, [(0x20000, 2), (0x4, 4)], [⟨31, 16, .ro, [0]⟩, ⟨13, 0, .ro, [0]⟩]⟩,
  ⟨0x110040, [(0x20000, 2), (0x4, 4)], [⟨29, 16, .ro, [0]⟩, ⟨12, 0, .ro, [0]⟩]⟩]

/-- The TUN block (R200, R217), part 1. -/
def rowsTun1 : List RegRow := [
  ⟨0x204000, [(0x10, 1024)], [⟨31, 31, .ro, [0]⟩, ⟨30, 29, .ro, [0]⟩, ⟨28, 26, .ro, [0]⟩, ⟨25, 24, .ro, [0]⟩, ⟨23, 23, .ro, [0]⟩, ⟨21, 16, .ro, [0]⟩, ⟨13, 8, .ro, [0]⟩, ⟨7, 0, .ro, [0]⟩]⟩,
  ⟨0x204004, [(0x10, 1024)], [⟨31, 24, .ro, [255]⟩, ⟨23, 16, .ro, [0]⟩, ⟨9, 8, .ro, [0]⟩]⟩,
  ⟨0x204008, [(0x10, 1024)], [⟨17, 0, .ro, [0]⟩]⟩,
  ⟨0x20400C, [(0x10, 1024)], [⟨17, 0, .ro, [0]⟩]⟩,
  ⟨0x200000, [], [⟨31, 16, .rw, [200]⟩, ⟨15, 8, .rw, [10]⟩, ⟨1, 1, .ro, [0]⟩, ⟨0, 0, .ro, [1]⟩]⟩,
  ⟨0x200004, [], [⟨26, 16, .ro, [0]⟩, ⟨5, 0, .ro, [0]⟩]⟩,
  ⟨0x200008, [], [⟨31, 0, .ro, [0]⟩]⟩,
  ⟨0x20000C, [], [⟨0, 0, .ro, [0]⟩]⟩,
  ⟨0x200010, [], [⟨23, 16, .rw, [90]⟩, ⟨15, 8, .rw, [20]⟩, ⟨7, 0, .rw, [13]⟩]⟩,
  ⟨0x200020, [], [⟨23, 16, .ro, [0]⟩, ⟨15, 8, .ro, [0]⟩, ⟨7, 0, .ro, [0]⟩]⟩,
  ⟨0x200024, [], [⟨31, 0, .ro, [0]⟩]⟩,
  ⟨0x200028, [], [⟨0, 0, .ro, [0]⟩]⟩]

/-- The TUN block (R200, R217), part 2. -/
def rowsTun2 : List RegRow := [
  ⟨0x200100, [(0x4, 33)], [⟨15, 10, .ro, [0]⟩, ⟨2, 2, .ro, [0]⟩, ⟨1, 0, .ro, [3]⟩]⟩,
  ⟨0x208000, [(0x4, 1024)], [⟨31, 16, .ro, [0]⟩, ⟨15, 8, .ro, [0]⟩, ⟨7, 0, .ro, [0]⟩]⟩]

/-- The TUN block (R200, R217). -/
def rowsTun : List RegRow := rowsTun1 ++ rowsTun2

/-- The SWC block (R250), part 1. -/
def rowsSwc1 : List RegRow := [
  ⟨0x300000, [], [⟨31, 24, .rw, [5]⟩, ⟨19, 16, .rw, [4]⟩, ⟨0, 0, .rw, [1]⟩]⟩,
  ⟨0x300004, [], [⟨31, 16, .rw, [100]⟩]⟩,
  ⟨0x300008, [], [⟨17, 0, .ro, [229376]⟩]⟩,
  ⟨0x30000C, [], [⟨17, 0, .ro, [0]⟩]⟩,
  ⟨0x300010, [], [⟨17, 0, .ro, [208384]⟩]⟩,
  ⟨0x300014, [], [⟨17, 0, .ro, [0]⟩]⟩,
  ⟨0x300018, [], [⟨31, 31, .wo, [0]⟩, ⟨17, 0, .ro, [208384]⟩]⟩,
  ⟨0x30001C, [], [⟨30, 16, .ro, [8192]⟩, ⟨14, 0, .rws, [8192]⟩]⟩,
  ⟨0x300020, [], [⟨30, 16, .ro, [4096]⟩, ⟨14, 0, .ro, [4096]⟩]⟩,
  ⟨0x300024, [], [⟨31, 24, .rw, [4]⟩, ⟨23, 16, .rw, [8]⟩, ⟨15, 8, .rw, [32]⟩, ⟨7, 0, .rw, [64]⟩]⟩,
  ⟨0x300028, [], [⟨17, 0, .ro, [0]⟩]⟩,
  ⟨0x300040, [(0x8, 12)], [⟨31, 16, .rw, [0, 0, 64, 0, 0, 256, 0, 4096, 256, 16384, 2048, 64]⟩, ⟨15, 0, .rw, [0, 0, 16, 0, 0, 64, 0, 1024, 64, 4096, 512, 16]⟩]⟩]

/-- The SWC block (R250), part 2. -/
def rowsSwc2 : List RegRow := [
  ⟨0x300044, [(0x8, 12)], [⟨7, 0, .rw, [0, 0, 255, 0, 0, 255, 0, 32, 255, 16, 64, 255]⟩]⟩,
  ⟨0x300100, [(0x4, 32)], [⟨27, 16, .ro, [0, 0, 0, 0, 256, 256, 256, 256, 256, 256, 256, 256, 256, 256, 256, 256, 256, 256, 256, 256, 256, 256, 0, 0, 0, 0, 0, 0, 0, 0, 0, 0]⟩, ⟨11, 0, .rws, [0, 0, 0, 0, 256, 256, 256, 256, 256, 256, 256, 256, 256, 256, 256, 256, 256, 256, 256, 256, 256, 256, 0, 0, 0, 0, 0, 0, 0, 0, 0, 0]⟩]⟩,
  ⟨0x300180, [(0x4, 32)], [⟨31, 23, .ro, [0]⟩, ⟨17, 0, .ro, [0]⟩]⟩,
  ⟨0x308000, [(0x8, 4096)], [⟨17, 0, .ro, [0]⟩]⟩,
  ⟨0x308004, [(0x8, 4096)], [⟨21, 0, .ro, [0]⟩]⟩]

/-- The SWC block (R250). -/
def rowsSwc : List RegRow := rowsSwc1 ++ rowsSwc2

/-- The SCH block (R282), part 1. -/
def rowsSch1 : List RegRow := [
  ⟨0x310000, [], [⟨4, 4, .rw, [1]⟩, ⟨3, 0, .rw, [15]⟩]⟩,
  ⟨0x310004, [], [⟨31, 0, .ro, [0]⟩]⟩,
  ⟨0x310008, [], [⟨28, 24, .ro, [16]⟩, ⟨20, 16, .ro, [16]⟩, ⟨12, 8, .rws, [16]⟩, ⟨4, 0, .rws, [16]⟩]⟩,
  ⟨0x31000C, [], [⟨15, 8, .rw, [100]⟩, ⟨7, 0, .rw, [20]⟩]⟩,
  ⟨0x310010, [], [⟨22, 16, .ro, [0]⟩, ⟨1, 1, .ro, [0]⟩, ⟨0, 0, .ro, [0]⟩]⟩,
  ⟨0x310020, [(0x4, 2)], [⟨31, 16, .ro, [1024]⟩, ⟨15, 0, .ro, [1024]⟩]⟩,
  ⟨0x310040, [], [⟨10, 1, .rw, [0]⟩, ⟨0, 0, .rw, [0]⟩]⟩,
  ⟨0x310044, [], [⟨17, 0, .ro, [0]⟩]⟩,
  ⟨0x310048, [], [⟨17, 0, .ro, [0]⟩]⟩,
  ⟨0x31004C, [], [⟨28, 16, .ro, [0]⟩, ⟨12, 0, .ro, [0]⟩]⟩,
  ⟨0x310050, [], [⟨30, 0, .ro, [0]⟩]⟩,
  ⟨0x310054, [], [⟨30, 0, .ro, [0]⟩]⟩]

/-- The SCH block (R282), part 2. -/
def rowsSch2 : List RegRow := [
  ⟨0x310058, [], [⟨31, 0, .ro, [0]⟩]⟩,
  ⟨0x31005C, [], [⟨31, 0, .ro, [0]⟩]⟩,
  ⟨0x310060, [], [⟨31, 0, .ro, [0]⟩]⟩,
  ⟨0x310064, [], [⟨31, 0, .ro, [0]⟩]⟩,
  ⟨0x310068, [], [⟨31, 0, .ro, [0]⟩]⟩,
  ⟨0x31006C, [], [⟨31, 0, .ro, [0]⟩]⟩,
  ⟨0x310070, [], [⟨31, 31, .ro, [0]⟩, ⟨1, 0, .ro, [0]⟩]⟩,
  ⟨0x310100, [(0x4, 32)], [⟨7, 0, .rws, [0, 0, 0, 0, 2, 2, 0, 0, 0, 0, 0, 12, 12, 12, 12, 12, 12, 12, 12, 0, 0, 0, 0, 0, 0, 0, 0, 0, 0, 0, 0, 0]⟩]⟩,
  ⟨0x310180, [(0x4, 32)], [⟨23, 16, .rws, [8]⟩, ⟨15, 8, .rws, [8]⟩, ⟨7, 0, .rws, [8]⟩]⟩,
  ⟨0x310300, [(0x8, 8)], [⟨31, 31, .rw, [0]⟩, ⟨30, 29, .rw, [0]⟩, ⟨23, 16, .rw, [255]⟩, ⟨15, 8, .rw, [0]⟩, ⟨1, 0, .rw, [0]⟩]⟩,
  ⟨0x310304, [(0x8, 8)], [⟨31, 16, .rw, [1]⟩, ⟨15, 0, .rw, [0]⟩]⟩,
  ⟨0x310400, [(0x20, 32), (0x8, 3)], [⟨31, 31, .rws, [0]⟩, ⟨17, 0, .rws, [0]⟩]⟩]

/-- The SCH block (R282), part 3. -/
def rowsSch3 : List RegRow := [
  ⟨0x310404, [(0x20, 32), (0x8, 3)], [⟨12, 0, .rws, [64]⟩]⟩]

/-- The SCH block (R282). -/
def rowsSch : List RegRow := rowsSch1 ++ rowsSch2 ++ rowsSch3

/-- The PCIE block (R314). -/
def rowsPcie : List RegRow := [
  ⟨0x400000, [(0x10000, 2)], [⟨31, 24, .rw, [20]⟩, ⟨23, 16, .rw, [10]⟩, ⟨15, 8, .rw, [20]⟩, ⟨3, 2, .rw, [3]⟩, ⟨1, 1, .rw, [0]⟩, ⟨0, 0, .rw, [1]⟩]⟩,
  ⟨0x400004, [(0x10000, 2)], [⟨19, 16, .ro, [0]⟩, ⟨11, 8, .ro, [0]⟩, ⟨7, 4, .ro, [0]⟩, ⟨0, 0, .ro, [0]⟩]⟩,
  ⟨0x400008, [(0x10000, 2)], [⟨27, 16, .ro, [0]⟩, ⟨11, 0, .ro, [256]⟩]⟩,
  ⟨0x40000C, [(0x10000, 2)], [⟨11, 0, .ro, [0]⟩]⟩,
  ⟨0x400010, [(0x10000, 2)], [⟨31, 31, .ro, [0]⟩, ⟨13, 8, .ro, [0]⟩, ⟨7, 0, .ro, [0]⟩]⟩,
  ⟨0x400040, [(0x10000, 2), (0x10, 8)], [⟨31, 12, .rw, [0]⟩, ⟨11, 11, .rw, [0]⟩, ⟨10, 8, .rw, [3]⟩, ⟨5, 0, .rw, [0]⟩]⟩,
  ⟨0x400044, [(0x10000, 2), (0x10, 8)], [⟨31, 0, .rw, [0]⟩]⟩,
  ⟨0x400048, [(0x10000, 2), (0x10, 8)], [⟨5, 0, .rw, [12]⟩]⟩,
  ⟨0x4000C0, [(0x10000, 2)], [⟨31, 8, .ro, [0]⟩, ⟨7, 7, .ro, [0]⟩, ⟨5, 0, .ro, [0]⟩]⟩,
  ⟨0x4000C4, [(0x10000, 2)], [⟨31, 0, .ro, [0]⟩]⟩,
  ⟨0x4000C8, [(0x10000, 2)], [⟨7, 0, .ro, [0]⟩]⟩]

/-- The SFN block (R315). -/
def rowsSfn : List RegRow := [
  ⟨0x420000, [], [⟨23, 16, .rw, [10]⟩, ⟨1, 1, .ro, [0]⟩, ⟨0, 0, .ro, [0]⟩]⟩,
  ⟨0x420004, [], [⟨6, 4, .ro, [0]⟩, ⟨3, 3, .ro, [0]⟩, ⟨2, 2, .ro, [0]⟩]⟩,
  ⟨0x420010, [(0x4, 5)], [⟨25, 16, .ro, [0]⟩, ⟨9, 0, .rw, [256, 256, 64, 96, 32]⟩]⟩]

/-- The DSP block (R353), part 1. -/
def rowsDsp1 : List RegRow := [
  ⟨0x500000, [(0x1000, 2)], [⟨4, 4, .rw, [0]⟩, ⟨3, 3, .rws, [0]⟩, ⟨2, 2, .rws, [0]⟩, ⟨1, 1, .rws, [0]⟩, ⟨0, 0, .rw, [0]⟩]⟩,
  ⟨0x500004, [(0x1000, 2)], [⟨0, 0, .wo, [0]⟩]⟩,
  ⟨0x500008, [(0x1000, 2)], [⟨31, 16, .ro, [0]⟩, ⟨8, 8, .ro, [0]⟩, ⟨7, 0, .ro, [0]⟩]⟩,
  ⟨0x50000C, [(0x1000, 2)], [⟨29, 24, .ro, [32]⟩, ⟨21, 16, .ro, [0]⟩, ⟨13, 12, .ro, [0]⟩, ⟨9, 9, .ro, [0]⟩, ⟨8, 8, .ro, [0]⟩, ⟨5, 5, .w1c, [0]⟩, ⟨4, 4, .w1c, [0]⟩, ⟨3, 3, .w1c, [0]⟩, ⟨2, 2, .w1c, [0]⟩, ⟨1, 1, .w1c, [0]⟩, ⟨0, 0, .w1c, [0]⟩]⟩,
  ⟨0x500010, [(0x1000, 2)], [⟨5, 0, .rw, [0]⟩]⟩,
  ⟨0x500014, [(0x1000, 2)], [⟨31, 0, .ro, [0]⟩]⟩,
  ⟨0x500018, [(0x1000, 2)], [⟨11, 0, .ro, [0]⟩]⟩,
  ⟨0x500020, [(0x1000, 2)], [⟨31, 16, .rws, [2200]⟩, ⟨15, 0, .rws, [1920]⟩]⟩,
  ⟨0x500024, [(0x1000, 2)], [⟨31, 31, .rws, [1]⟩, ⟨30, 16, .rws, [44]⟩, ⟨15, 0, .rws, [88]⟩]⟩,
  ⟨0x500028, [(0x1000, 2)], [⟨31, 16, .rws, [1125]⟩, ⟨15, 0, .rws, [1080]⟩]⟩,
  ⟨0x50002C, [(0x1000, 2)], [⟨31, 31, .rws, [1]⟩, ⟨30, 16, .rws, [5]⟩, ⟨15, 0, .rws, [4]⟩]⟩,
  ⟨0x500030, [(0x1000, 2)], [⟨19, 0, .rws, [148500]⟩]⟩]

/-- The DSP block (R353), part 2. -/
def rowsDsp2 : List RegRow := [
  ⟨0x500040, [(0x1000, 2)], [⟨31, 8, .rws, [0]⟩]⟩,
  ⟨0x500044, [(0x1000, 2)], [⟨31, 0, .rws, [0]⟩]⟩,
  ⟨0x500048, [(0x1000, 2)], [⟨15, 0, .rws, [30]⟩]⟩,
  ⟨0x500050, [(0x1000, 2)], [⟨31, 8, .rws, [0]⟩]⟩,
  ⟨0x500054, [(0x1000, 2)], [⟨31, 0, .rws, [0]⟩]⟩,
  ⟨0x500058, [(0x1000, 2)], [⟨15, 0, .rws, [0]⟩]⟩,
  ⟨0x50005C, [(0x1000, 2)], [⟨31, 16, .rws, [0]⟩, ⟨15, 0, .rws, [0]⟩]⟩,
  ⟨0x500060, [(0x1000, 2)], [⟨31, 16, .rws, [0]⟩, ⟨15, 0, .rws, [0]⟩]⟩,
  ⟨0x500064, [(0x1000, 2)], [⟨8, 8, .rws, [0]⟩, ⟨7, 0, .rws, [255]⟩]⟩,
  ⟨0x500070, [(0x1000, 2)], [⟨31, 8, .rws, [0]⟩]⟩,
  ⟨0x500074, [(0x1000, 2)], [⟨31, 0, .rws, [0]⟩]⟩,
  ⟨0x500078, [(0x1000, 2)], [⟨31, 16, .rws, [0]⟩, ⟨15, 0, .rws, [0]⟩]⟩]

/-- The DSP block (R353), part 3. -/
def rowsDsp3 : List RegRow := [
  ⟨0x500080, [(0x1000, 2)], [⟨29, 0, .rw, [1072694271]⟩]⟩,
  ⟨0x500084, [(0x1000, 2)], [⟨29, 0, .rw, [1023]⟩]⟩,
  ⟨0x500088, [(0x1000, 2)], [⟨12, 8, .rw, [8]⟩, ⟨4, 0, .rw, [4]⟩]⟩,
  ⟨0x50008C, [(0x1000, 2)], [⟨31, 31, .wo, [0]⟩, ⟨5, 0, .ro, [32]⟩]⟩,
  ⟨0x500090, [(0x1000, 2)], [⟨31, 0, .rw, [16666667]⟩]⟩,
  ⟨0x500094, [(0x1000, 2)], [⟨15, 0, .rw, [0]⟩]⟩,
  ⟨0x500098, [(0x1000, 2)], [⟨31, 0, .rw, [0]⟩]⟩,
  ⟨0x50009C, [(0x1000, 2)], [⟨3, 0, .rw, [2]⟩]⟩,
  ⟨0x5000A0, [(0x1000, 2)], [⟨31, 0, .ro, [0]⟩]⟩,
  ⟨0x500400, [(0x1000, 2), (0x20, 8)], [⟨31, 16, .rws, [0]⟩, ⟨15, 0, .rws, [0]⟩]⟩,
  ⟨0x500404, [(0x1000, 2), (0x20, 8)], [⟨31, 16, .rws, [0]⟩, ⟨15, 0, .rws, [0]⟩]⟩,
  ⟨0x500408, [(0x1000, 2), (0x20, 8)], [⟨1, 0, .rws, [0]⟩]⟩]

/-- The DSP block (R353), part 4. -/
def rowsDsp4 : List RegRow := [
  ⟨0x50040C, [(0x1000, 2), (0x20, 8)], [⟨31, 0, .rws, [0]⟩]⟩,
  ⟨0x500410, [(0x1000, 2), (0x20, 8)], [⟨31, 0, .ro, [0]⟩]⟩,
  ⟨0x500414, [(0x1000, 2), (0x20, 8)], [⟨31, 16, .ro, [0]⟩, ⟨1, 1, .ro, [0]⟩, ⟨0, 0, .ro, [0]⟩]⟩,
  ⟨0x500418, [(0x1000, 2), (0x20, 8)], [⟨31, 31, .wo, [0]⟩, ⟨15, 0, .ro, [0]⟩]⟩]

/-- The DSP block (R353). -/
def rowsDsp : List RegRow := rowsDsp1 ++ rowsDsp2 ++ rowsDsp3 ++ rowsDsp4

/-- The DPO block (R354). -/
def rowsDpo : List RegRow := [
  ⟨0x510000, [(0x100, 4)], [⟨10, 10, .wo, [0]⟩, ⟨9, 9, .rw, [0]⟩, ⟨8, 8, .rw, [0]⟩, ⟨7, 6, .rw, [2]⟩, ⟨5, 4, .rw, [3]⟩, ⟨2, 1, .rw, [0]⟩, ⟨0, 0, .rw, [0]⟩]⟩,
  ⟨0x510004, [(0x100, 4)], [⟨10, 10, .w1c, [0]⟩, ⟨9, 9, .w1c, [0]⟩, ⟨8, 8, .w1c, [0]⟩, ⟨7, 6, .ro, [0]⟩, ⟨5, 4, .ro, [0]⟩, ⟨2, 2, .ro, [0]⟩, ⟨1, 1, .ro, [0]⟩, ⟨0, 0, .ro, [0]⟩]⟩,
  ⟨0x510010, [(0x100, 4)], [⟨31, 31, .wo, [0]⟩, ⟨30, 28, .rw, [0]⟩, ⟨27, 24, .rw, [0]⟩, ⟨19, 0, .rw, [0]⟩]⟩,
  ⟨0x510014, [(0x100, 4)], [⟨8, 4, .ro, [0]⟩, ⟨3, 1, .ro, [0]⟩, ⟨0, 0, .ro, [0]⟩]⟩,
  ⟨0x510020, [(0x100, 4), (0x4, 4)], [⟨31, 0, .rw, [0]⟩]⟩]

/-- The USBH block (R387). -/
def rowsUsbh : List RegRow := [
  ⟨0x600000, [], [⟨23, 16, .rw, [20]⟩, ⟨1, 1, .rw, [0]⟩, ⟨0, 0, .rw, [0]⟩]⟩,
  ⟨0x600004, [], [⟨24, 16, .ro, [0]⟩, ⟨7, 0, .ro, [0]⟩]⟩,
  ⟨0x600008, [], [⟨13, 11, .ro, [0]⟩, ⟨10, 0, .ro, [0]⟩]⟩,
  ⟨0x600010, [], [⟨31, 12, .rw, [0]⟩]⟩,
  ⟨0x600014, [], [⟨31, 0, .rw, [0]⟩]⟩,
  ⟨0x600018, [], [⟨7, 0, .wo, [0]⟩]⟩,
  ⟨0x600100, [(0x10, 8)], [⟨7, 7, .rw, [0]⟩, ⟨6, 6, .rw, [0]⟩, ⟨5, 5, .rw, [0]⟩, ⟨3, 3, .wo, [0]⟩, ⟨2, 2, .wo, [0]⟩, ⟨1, 1, .wo, [0]⟩, ⟨0, 0, .wo, [0]⟩]⟩,
  ⟨0x600104, [(0x10, 8)], [⟨15, 15, .w1c, [0]⟩, ⟨14, 14, .w1c, [0]⟩, ⟨13, 13, .w1c, [0]⟩, ⟨12, 12, .w1c, [0]⟩, ⟨11, 11, .w1c, [0]⟩, ⟨10, 10, .w1c, [0]⟩, ⟨9, 9, .w1c, [0]⟩, ⟨7, 7, .ro, [0]⟩, ⟨6, 6, .ro, [0]⟩, ⟨5, 4, .ro, [3]⟩, ⟨3, 3, .ro, [0]⟩, ⟨2, 2, .ro, [0]⟩, ⟨1, 1, .ro, [0]⟩, ⟨0, 0, .ro, [0]⟩]⟩,
  ⟨0x600108, [(0x10, 8)], [⟨31, 16, .ro, [0]⟩, ⟨15, 0, .ro, [0]⟩]⟩,
  ⟨0x60010C, [(0x10, 8)], [⟨28, 16, .ro, [0]⟩, ⟨3, 0, .ro, [0]⟩]⟩]

/-- The USBS block (R388). -/
def rowsUsbs : List RegRow := [
  ⟨0x610000, [], [⟨2, 2, .rw, [1]⟩, ⟨1, 1, .rw, [1]⟩, ⟨0, 0, .rw, [1]⟩]⟩,
  ⟨0x610004, [], [⟨17, 17, .w1c, [0]⟩, ⟨16, 16, .w1c, [0]⟩, ⟨14, 8, .ro, [0]⟩, ⟨6, 6, .ro, [0]⟩, ⟨5, 5, .ro, [0]⟩, ⟨4, 4, .ro, [0]⟩, ⟨3, 3, .ro, [0]⟩, ⟨2, 0, .ro, [0]⟩]⟩,
  ⟨0x610008, [], [⟨31, 16, .ro, [0]⟩, ⟨15, 0, .ro, [0]⟩]⟩]

/-- The USBMEM block (R388). -/
def rowsUsbmem : List RegRow := [
  ⟨0x620000, [], [⟨12, 0, .ro, [4096]⟩]⟩,
  ⟨0x620004, [], [⟨12, 0, .ro, [0]⟩]⟩,
  ⟨0x620100, [(0x4, 256)], [⟨31, 31, .ro, [0]⟩, ⟨30, 28, .ro, [0]⟩, ⟨27, 16, .ro, [0]⟩, ⟨10, 0, .ro, [0]⟩]⟩]

/-- The ETH block (R406, R407), part 1. -/
def rowsEth1 : List RegRow := [
  ⟨0x700000, [(0x1000, 8)], [⟨9, 9, .rw, [0]⟩, ⟨8, 8, .rw, [0]⟩, ⟨7, 7, .rw, [1]⟩, ⟨6, 6, .rw, [1]⟩, ⟨5, 4, .rw, [0]⟩, ⟨3, 3, .rw, [0]⟩, ⟨0, 0, .rw, [0]⟩]⟩,
  ⟨0x700004, [(0x1000, 8)], [⟨5, 4, .ro, [3]⟩, ⟨3, 3, .ro, [0]⟩, ⟨2, 2, .ro, [0]⟩, ⟨1, 1, .ro, [0]⟩, ⟨0, 0, .ro, [0]⟩]⟩,
  ⟨0x700008, [(0x1000, 8)], [⟨31, 16, .rw, [34984]⟩, ⟨15, 13, .rw, [0]⟩, ⟨11, 0, .rw, [1]⟩]⟩,
  ⟨0x70000C, [(0x1000, 8)], [⟨23, 0, .rw, [16434824]⟩]⟩,
  ⟨0x700010, [(0x1000, 8)], [⟨31, 16, .ro, [0]⟩, ⟨14, 8, .ro, [0]⟩, ⟨3, 3, .rw, [0]⟩, ⟨2, 1, .rw, [0]⟩, ⟨0, 0, .wo, [0]⟩]⟩,
  ⟨0x700014, [(0x1000, 8)], [⟨31, 16, .rw, [0]⟩, ⟨15, 0, .rw, [0]⟩]⟩,
  ⟨0x700018, [(0x1000, 8)], [⟨31, 31, .rw, [0]⟩, ⟨9, 0, .rw, [0]⟩]⟩,
  ⟨0x700020, [(0x1000, 8)], [⟨31, 0, .ro, [0]⟩]⟩,
  ⟨0x700024, [(0x1000, 8)], [⟨31, 16, .ro, [0]⟩, ⟨15, 0, .ro, [0]⟩]⟩,
  ⟨0x700028, [(0x1000, 8)], [⟨31, 31, .ro, [0]⟩, ⟨30, 30, .ro, [0]⟩, ⟨29, 0, .ro, [0]⟩]⟩,
  ⟨0x70002C, [(0x1000, 8)], [⟨31, 16, .ro, [0]⟩, ⟨15, 12, .ro, [0]⟩, ⟨7, 0, .ro, [0]⟩]⟩,
  ⟨0x700040, [(0x1000, 8)], [⟨31, 31, .wo, [0]⟩, ⟨30, 30, .ro, [0]⟩, ⟨29, 29, .ro, [0]⟩, ⟨28, 28, .rw, [0]⟩, ⟨13, 8, .ro, [0]⟩, ⟨6, 0, .rws, [1]⟩]⟩]

/-- The ETH block (R406, R407), part 2. -/
def rowsEth2 : List RegRow := [
  ⟨0x700044, [(0x1000, 8)], [⟨31, 0, .rws, [1000000]⟩]⟩,
  ⟨0x700048, [(0x1000, 8)], [⟨31, 0, .rws, [0]⟩]⟩,
  ⟨0x70004C, [(0x1000, 8)], [⟨15, 0, .rws, [0]⟩]⟩,
  ⟨0x700050, [(0x1000, 8)], [⟨29, 0, .rws, [0]⟩]⟩,
  ⟨0x700054, [(0x1000, 8)], [⟨31, 0, .ro, [0]⟩]⟩,
  ⟨0x700058, [(0x1000, 8)], [⟨15, 0, .ro, [0]⟩]⟩,
  ⟨0x70005C, [(0x1000, 8)], [⟨29, 0, .ro, [0]⟩]⟩,
  ⟨0x700100, [(0x1000, 8), (0x10, 32)], [⟨31, 31, .rw, [0]⟩, ⟨30, 29, .rw, [0]⟩, ⟨28, 28, .rw, [0]⟩, ⟨27, 16, .rw, [0]⟩, ⟨9, 0, .rw, [0]⟩]⟩,
  ⟨0x700104, [(0x1000, 8), (0x10, 32)], [⟨31, 0, .rw, [0]⟩]⟩,
  ⟨0x700108, [(0x1000, 8), (0x10, 32)], [⟨15, 0, .rw, [0]⟩]⟩,
  ⟨0x700400, [(0x1000, 8), (0x4, 64)], [⟨31, 24, .rws, [255]⟩, ⟨23, 0, .rws, [1000000]⟩]⟩,
  ⟨0x700500, [(0x1000, 8), (0x4, 64)], [⟨31, 24, .ro, [255]⟩, ⟨23, 0, .ro, [1000000]⟩]⟩]

/-- The ETH block (R406, R407), part 3. -/
def rowsEth3 : List RegRow := [
  ⟨0x708000, [], [⟨23, 16, .rw, [10]⟩, ⟨15, 8, .rw, [20]⟩, ⟨7, 0, .rw, [0]⟩]⟩,
  ⟨0x708004, [], [⟨31, 12, .rw, [0]⟩]⟩,
  ⟨0x708008, [], [⟨31, 0, .rw, [0]⟩]⟩,
  ⟨0x708010, [(0x4, 8)], [⟨31, 16, .ro, [0]⟩, ⟨15, 0, .ro, [0]⟩]⟩,
  ⟨0x709000, [], [⟨31, 31, .wo, [0]⟩, ⟨30, 30, .ro, [0]⟩, ⟨29, 27, .rw, [0]⟩, ⟨26, 22, .rw, [0]⟩, ⟨21, 17, .rw, [0]⟩, ⟨15, 0, .rw, [0]⟩]⟩]

/-- The ETH block (R406, R407). -/
def rowsEth : List RegRow := rowsEth1 ++ rowsEth2 ++ rowsEth3

/-- The PNT block (R436, R437), part 1. -/
def rowsPnt1 : List RegRow := [
  ⟨0x800000, [], [⟨31, 16, .rw, [34997]⟩, ⟨10, 8, .rw, [2]⟩, ⟨1, 1, .rw, [0]⟩, ⟨0, 0, .rw, [0]⟩]⟩,
  ⟨0x800004, [], [⟨9, 8, .ro, [0]⟩, ⟨5, 5, .w1c, [0]⟩, ⟨4, 4, .w1c, [0]⟩, ⟨3, 3, .w1c, [0]⟩, ⟨2, 2, .w1c, [0]⟩, ⟨1, 1, .w1c, [0]⟩, ⟨0, 0, .w1c, [0]⟩]⟩,
  ⟨0x800008, [], [⟨11, 0, .rw, [8]⟩]⟩,
  ⟨0x80000C, [], [⟨31, 0, .rw, [0]⟩]⟩,
  ⟨0x800010, [], [⟨15, 0, .rw, [0]⟩]⟩,
  ⟨0x800014, [], [⟨29, 0, .rw, [0]⟩]⟩,
  ⟨0x800018, [], [⟨27, 16, .rw, [2048]⟩, ⟨11, 0, .rw, [2048]⟩]⟩,
  ⟨0x80001C, [], [⟨31, 12, .rw, [0]⟩]⟩,
  ⟨0x800020, [], [⟨31, 0, .rw, [0]⟩]⟩,
  ⟨0x800024, [], [⟨31, 0, .rw, [0]⟩]⟩,
  ⟨0x800028, [], [⟨15, 0, .rw, [0]⟩]⟩,
  ⟨0x800030, [], [⟨25, 0, .rws, [40000]⟩]⟩]

/-- The PNT block (R436, R437), part 2. -/
def rowsPnt2 : List RegRow := [
  ⟨0x800034, [], [⟨25, 0, .rws, [100000]⟩]⟩,
  ⟨0x800038, [], [⟨25, 0, .rws, [180000]⟩]⟩,
  ⟨0x80003C, [], [⟨0, 0, .wo, [0]⟩]⟩,
  ⟨0x800040, [], [⟨31, 16, .ro, [0]⟩, ⟨8, 8, .ro, [0]⟩, ⟨7, 0, .ro, [0]⟩]⟩,
  ⟨0x800044, [], [⟨3, 0, .ro, [0]⟩]⟩,
  ⟨0x800048, [], [⟨31, 0, .ro, [0]⟩]⟩,
  ⟨0x80004C, [], [⟨31, 0, .ro, [0]⟩]⟩,
  ⟨0x800050, [], [⟨18, 0, .ro, [0]⟩]⟩,
  ⟨0x800054, [], [⟨18, 0, .ro, [262144]⟩]⟩,
  ⟨0x800058, [], [⟨31, 0, .ro, [0]⟩]⟩,
  ⟨0x80005C, [], [⟨31, 0, .ro, [0]⟩]⟩,
  ⟨0x800060, [], [⟨31, 0, .ro, [0]⟩]⟩]

/-- The PNT block (R436, R437), part 3. -/
def rowsPnt3 : List RegRow := [
  ⟨0x800064, [], [⟨31, 0, .ro, [0]⟩]⟩,
  ⟨0x800070, [], [⟨31, 3, .rw, [0]⟩]⟩,
  ⟨0x800074, [], [⟨31, 0, .rw, [0]⟩]⟩,
  ⟨0x800078, [], [⟨17, 0, .rw, [0]⟩]⟩,
  ⟨0x80007C, [], [⟨18, 0, .rw, [0]⟩]⟩,
  ⟨0x800080, [], [⟨31, 31, .wo, [0]⟩, ⟨30, 30, .ro, [0]⟩, ⟨29, 29, .w1c, [0]⟩, ⟨28, 28, .w1c, [0]⟩, ⟨27, 27, .w1c, [0]⟩, ⟨18, 0, .ro, [0]⟩]⟩,
  ⟨0x800084, [], [⟨31, 31, .ro, [0]⟩, ⟨17, 0, .ro, [0]⟩]⟩,
  ⟨0x8000C0, [(0x4, 16)], [⟨31, 0, .rw, [0]⟩]⟩,
  ⟨0x801000, [(0x20, 64)], [⟨31, 31, .rws, [0]⟩, ⟨30, 28, .rws, [0]⟩, ⟨27, 27, .rws, [1]⟩, ⟨26, 26, .rws, [0]⟩, ⟨25, 23, .rws, [7]⟩, ⟨22, 20, .rws, [2]⟩, ⟨11, 0, .rws, [0]⟩]⟩,
  ⟨0x801004, [(0x20, 64)], [⟨31, 0, .rws, [0]⟩]⟩,
  ⟨0x801008, [(0x20, 64)], [⟨15, 0, .rws, [0]⟩]⟩,
  ⟨0x80100C, [(0x20, 64)], [⟨17, 0, .rws, [0]⟩]⟩]

/-- The PNT block (R436, R437), part 4. -/
def rowsPnt4 : List RegRow := [
  ⟨0x801010, [(0x20, 64)], [⟨31, 18, .rws, [0]⟩, ⟨17, 0, .rws, [0]⟩]⟩,
  ⟨0x801014, [(0x20, 64)], [⟨17, 0, .rws, [0]⟩]⟩,
  ⟨0x801018, [(0x20, 64)], [⟨31, 18, .rws, [0]⟩, ⟨17, 0, .rws, [0]⟩]⟩,
  ⟨0x80101C, [(0x20, 64)], [⟨31, 24, .ro, [0]⟩, ⟨23, 16, .ro, [0]⟩, ⟨15, 0, .ro, [0]⟩]⟩]

/-- The PNT block (R436, R437). -/
def rowsPnt : List RegRow := rowsPnt1 ++ rowsPnt2 ++ rowsPnt3 ++ rowsPnt4

/-- The MER block (R466), part 1. -/
def rowsMer1 : List RegRow := [
  ⟨0x900000, [], [⟨31, 24, .rw, [16]⟩, ⟨23, 20, .rw, [6]⟩, ⟨15, 8, .rw, [2]⟩]⟩,
  ⟨0x900004, [], [⟨31, 16, .rw, [1000]⟩, ⟨15, 0, .rw, [1000]⟩]⟩,
  ⟨0x900008, [], [⟨31, 24, .ro, [0]⟩, ⟨23, 18, .ro, [0]⟩, ⟨17, 12, .ro, [63]⟩, ⟨9, 8, .ro, [0]⟩, ⟨5, 5, .ro, [0]⟩, ⟨4, 4, .ro, [0]⟩, ⟨2, 0, .ro, [0]⟩]⟩,
  ⟨0x90000C, [], [⟨7, 0, .ro, [0]⟩]⟩,
  ⟨0x900010, [], [⟨31, 0, .ro, [0]⟩]⟩,
  ⟨0x900014, [], [⟨31, 0, .ro, [0]⟩]⟩,
  ⟨0x900018, [], [⟨31, 0, .ro, [0]⟩]⟩,
  ⟨0x90001C, [], [⟨15, 0, .ro, [0]⟩]⟩,
  ⟨0x900020, [], [⟨29, 0, .ro, [0]⟩]⟩,
  ⟨0x900024, [], [⟨0, 0, .wo, [0]⟩]⟩,
  ⟨0x900028, [], [⟨31, 0, .ro, [0]⟩]⟩,
  ⟨0x90002C, [], [⟨31, 0, .ro, [0]⟩]⟩]

/-- The MER block (R466), part 2. -/
def rowsMer2 : List RegRow := [
  ⟨0x900030, [], [⟨15, 0, .ro, [0]⟩]⟩,
  ⟨0x900034, [], [⟨31, 0, .ro, [0]⟩]⟩,
  ⟨0x900038, [], [⟨15, 0, .ro, [0]⟩]⟩,
  ⟨0x90003C, [], [⟨29, 0, .ro, [0]⟩]⟩,
  ⟨0x900040, [], [⟨15, 0, .ro, [0]⟩]⟩,
  ⟨0x900044, [], [⟨31, 0, .ro, [0]⟩]⟩,
  ⟨0x900048, [], [⟨31, 0, .ro, [0]⟩]⟩,
  ⟨0x90004C, [], [⟨31, 16, .ro, [0]⟩, ⟨15, 0, .ro, [0]⟩]⟩,
  ⟨0x900100, [(0x20, 2)], [⟨31, 0, .ro, [0]⟩]⟩,
  ⟨0x900104, [(0x20, 2)], [⟨31, 0, .ro, [0]⟩]⟩,
  ⟨0x900108, [(0x20, 2)], [⟨31, 0, .rw, [0]⟩]⟩,
  ⟨0x90010C, [(0x20, 2)], [⟨31, 0, .ro, [0]⟩]⟩]

/-- The MER block (R466), part 3. -/
def rowsMer3 : List RegRow := [
  ⟨0x900110, [(0x20, 2)], [⟨31, 31, .ro, [0]⟩, ⟨30, 30, .ro, [0]⟩, ⟨29, 29, .ro, [0]⟩, ⟨23, 16, .ro, [0]⟩, ⟨13, 8, .ro, [63]⟩, ⟨7, 7, .ro, [0]⟩, ⟨2, 0, .ro, [0]⟩]⟩]

/-- The MER block (R466). -/
def rowsMer : List RegRow := rowsMer1 ++ rowsMer2 ++ rowsMer3

/-- The TIO block (R467). -/
def rowsTio : List RegRow := [
  ⟨0x910000, [], [⟨15, 0, .ro, [0]⟩]⟩,
  ⟨0x910100, [(0x40, 16)], [⟨10, 8, .rw, [0]⟩, ⟨5, 4, .rw, [1]⟩, ⟨0, 0, .rw, [1]⟩]⟩,
  ⟨0x910104, [(0x40, 16)], [⟨15, 0, .rw, [0]⟩]⟩,
  ⟨0x910108, [(0x40, 16)], [⟨31, 0, .rw, [1000000]⟩]⟩,
  ⟨0x91010C, [(0x40, 16)], [⟨15, 0, .rw, [0]⟩]⟩,
  ⟨0x910110, [(0x40, 16)], [⟨31, 31, .rw, [0]⟩, ⟨29, 0, .rw, [1000]⟩]⟩,
  ⟨0x910114, [(0x40, 16)], [⟨31, 31, .ro, [0]⟩, ⟨30, 30, .ro, [0]⟩, ⟨29, 29, .w1c, [0]⟩, ⟨28, 28, .w1c, [0]⟩, ⟨15, 0, .ro, [0]⟩]⟩,
  ⟨0x910118, [(0x40, 16)], [⟨31, 0, .ro, [0]⟩]⟩,
  ⟨0x91011C, [(0x40, 16)], [⟨15, 0, .ro, [0]⟩]⟩,
  ⟨0x910120, [(0x40, 16)], [⟨29, 0, .ro, [0]⟩]⟩,
  ⟨0x910124, [(0x40, 16)], [⟨31, 0, .ro, [0]⟩]⟩]

/-- The TCPD block (R494). -/
def rowsTcpd : List RegRow := [
  ⟨0xA00000, [], [⟨17, 0, .ro, [0]⟩]⟩,
  ⟨0xA00004, [], [⟨17, 0, .ro, [0]⟩]⟩,
  ⟨0xA00008, [], [⟨31, 31, .ro, [0]⟩, ⟨15, 8, .ro, [0]⟩, ⟨7, 0, .ro, [0]⟩]⟩,
  ⟨0xA0000C, [], [⟨24, 16, .rw, [250]⟩, ⟨4, 0, .rw, [10]⟩]⟩,
  ⟨0xA00100, [(0x20, 4)], [⟨31, 28, .ro, [0]⟩, ⟨27, 26, .ro, [3]⟩, ⟨25, 25, .ro, [0]⟩, ⟨24, 24, .ro, [0]⟩, ⟨23, 23, .ro, [0]⟩, ⟨22, 22, .ro, [0]⟩, ⟨21, 21, .ro, [0]⟩, ⟨20, 20, .ro, [0]⟩, ⟨19, 18, .ro, [0]⟩, ⟨17, 17, .ro, [0]⟩, ⟨11, 8, .ro, [0]⟩, ⟨1, 0, .ro, [0]⟩]⟩,
  ⟨0xA00104, [(0x20, 4)], [⟨9, 0, .ro, [0]⟩]⟩,
  ⟨0xA00108, [(0x20, 4)], [⟨17, 0, .ro, [0]⟩]⟩,
  ⟨0xA0010C, [(0x20, 4)], [⟨17, 0, .ro, [0]⟩]⟩,
  ⟨0xA00110, [(0x20, 4)], [⟨17, 0, .ro, [0]⟩]⟩,
  ⟨0xA00200, [], [⟨31, 28, .ro, [0]⟩, ⟨27, 26, .ro, [3]⟩, ⟨25, 25, .ro, [0]⟩, ⟨24, 24, .ro, [0]⟩, ⟨19, 18, .ro, [0]⟩, ⟨13, 0, .ro, [0]⟩]⟩]

/-- The words of the ROM default profile (R519), which CH0 and CH1 run from power-on. -/
def romWords : List Nat := [
  65536768, 6555600, 235933400, 373561000, 3276848, 16384010, 30000,
  2000, 600000, 0, 10000, 10000000, 15000, 1000000,
  20000, 100000, 25000, 1000, 0, 0, 0,
  0, 0, 0, 0, 0, 0, 0,
  0, 0, 0, 0, 0, 0, 0,
  0, 0, 0, 0, 0, 0, 0]

/-- The EFU block (R522). -/
def rowsEfu : List RegRow := [
  ⟨0xA10000, [], [⟨15, 0, .rw, [1000]⟩]⟩,
  ⟨0xA10004, [], [⟨31, 31, .ro, [0]⟩, ⟨30, 30, .ro, [0]⟩, ⟨29, 29, .ro, [0]⟩, ⟨15, 0, .ro, [0]⟩]⟩,
  ⟨0xA10008, [], [⟨8, 8, .ro, [0]⟩, ⟨7, 0, .ro, [0]⟩]⟩,
  ⟨0xA10100, [(0x20, 8)], [⟨3, 3, .rw, [0, 1, 1, 1, 0, 0, 0, 0]⟩, ⟨2, 2, .ro, [0]⟩, ⟨1, 0, .rw, [3, 3, 1, 1, 2, 2, 2, 2]⟩]⟩,
  ⟨0xA10104, [(0x20, 8)], [⟨31, 28, .ro, [2, 2, 1, 1, 1, 1, 1, 1]⟩, ⟨27, 24, .ro, [0]⟩, ⟨23, 20, .ro, [0]⟩, ⟨11, 11, .ro, [0]⟩, ⟨10, 10, .ro, [0]⟩, ⟨9, 9, .ro, [0]⟩, ⟨8, 8, .ro, [0]⟩, ⟨7, 0, .ro, [0]⟩]⟩,
  ⟨0xA10108, [(0x20, 8)], [⟨31, 16, .ro, [0]⟩, ⟨11, 8, .ro, [3, 3, 0, 0, 0, 0, 0, 0]⟩, ⟨7, 4, .ro, [3, 3, 0, 0, 0, 0, 0, 0]⟩, ⟨3, 0, .ro, [0]⟩]⟩,
  ⟨0xA1010C, [(0x20, 8)], [⟨31, 16, .ro, [0]⟩, ⟨15, 0, .ro, [0]⟩]⟩,
  ⟨0xA10110, [(0x20, 8)], [⟨31, 16, .ro, [0]⟩, ⟨15, 0, .ro, [0]⟩]⟩,
  ⟨0xA10114, [(0x20, 8)], [⟨23, 0, .ro, [0]⟩]⟩,
  ⟨0xA11000, [(0x4, 42)], [⟨31, 0, .ro, romWords⟩]⟩,
  ⟨0xA11100, [(0x4, 42)], [⟨31, 0, .ro, romWords⟩]⟩,
  ⟨0xA11200, [(0x100, 6), (0x4, 42)], [⟨31, 0, .ro, [0]⟩]⟩]

/-- The PWR block (R554). -/
def rowsPwr : List RegRow := [
  ⟨0x10000, [], [⟨15, 8, .rw, [10]⟩, ⟨7, 0, .rw, [20]⟩]⟩,
  ⟨0x10004, [], [⟨21, 16, .ro, [0]⟩, ⟨10, 8, .ro, [0]⟩, ⟨7, 7, .w1c, [0]⟩, ⟨6, 6, .ro, [0]⟩, ⟨5, 5, .ro, [1]⟩, ⟨4, 4, .ro, [0]⟩, ⟨3, 0, .ro, [0]⟩]⟩,
  ⟨0x10008, [], [⟨31, 16, .rw, [7938]⟩, ⟨15, 0, .rw, [31]⟩]⟩,
  ⟨0x1000C, [], [⟨20, 16, .ro, [0]⟩, ⟨15, 0, .ro, [0]⟩]⟩,
  ⟨0x10010, [], [⟨31, 0, .rw, [0]⟩]⟩,
  ⟨0x10014, [], [⟨28, 28, .ro, [0]⟩, ⟨27, 24, .ro, [0]⟩, ⟨23, 16, .ro, [0]⟩, ⟨15, 0, .ro, [0]⟩]⟩,
  ⟨0x10018, [], [⟨15, 0, .ro, [0]⟩]⟩,
  ⟨0x1001C, [], [⟨31, 16, .ro, [0]⟩, ⟨15, 8, .ro, [0]⟩, ⟨7, 0, .ro, [1]⟩]⟩,
  ⟨0x10020, [], [⟨15, 0, .ro, [0]⟩]⟩]

/-- The CLK block (R555). -/
def rowsClk : List RegRow := [
  ⟨0x20000, [], [⟨13, 13, .ro, [0]⟩, ⟨12, 12, .ro, [1]⟩, ⟨9, 8, .ro, [0]⟩, ⟨5, 4, .ro, [2]⟩, ⟨1, 0, .rw, [0]⟩]⟩,
  ⟨0x20004, [], [⟨22, 16, .rw, [64]⟩, ⟨15, 8, .rw, [100]⟩, ⟨0, 0, .rw, [1]⟩]⟩,
  ⟨0x20008, [], [⟨11, 0, .ro, [1025]⟩]⟩,
  ⟨0x2000C, [], [⟨24, 24, .rw, [1]⟩, ⟨23, 16, .rw, [115]⟩, ⟨15, 8, .ro, [0]⟩, ⟨7, 0, .ro, [0]⟩]⟩]

/-- The INK block (R576). -/
def rowsInk : List RegRow := [
  ⟨0xB00000, [], [⟨31, 31, .ro, [0]⟩, ⟨30, 30, .ro, [0]⟩, ⟨23, 16, .ro, [0]⟩, ⟨6, 0, .ro, [0]⟩]⟩,
  ⟨0xB00004, [], [⟨15, 0, .ro, [0]⟩]⟩,
  ⟨0xB00008, [], [⟨15, 0, .ro, [0]⟩]⟩,
  ⟨0xB00100, [(0x4, 64)], [⟨31, 0, .ro, [0]⟩]⟩]

/-- The LCS block (R577). -/
def rowsLcs : List RegRow := [
  ⟨0xB10000, [], [⟨19, 16, .ro, [0]⟩, ⟨7, 7, .ro, [0]⟩, ⟨2, 0, .ro, [0]⟩]⟩,
  ⟨0xB10004, [], [⟨31, 0, .ro, [0]⟩]⟩,
  ⟨0xB10008, [], [⟨31, 0, .ro, [0]⟩]⟩,
  ⟨0xB1000C, [], [⟨17, 17, .ro, [0]⟩, ⟨15, 0, .ro, [0]⟩]⟩]

/-- The FWU block (R602). -/
def rowsFwu : List RegRow := [
  ⟨0xC00000, [], [⟨31, 0, .ro, [0]⟩]⟩,
  ⟨0xC00004, [], [⟨27, 24, .ro, [0]⟩, ⟨23, 20, .ro, [0]⟩, ⟨16, 16, .ro, [0]⟩, ⟨8, 8, .ro, [0]⟩, ⟨0, 0, .ro, [0]⟩]⟩,
  ⟨0xC00008, [], [⟨31, 28, .ro, [0]⟩, ⟨27, 26, .ro, [0]⟩]⟩,
  ⟨0xC0000C, [], [⟨31, 28, .ro, [0]⟩, ⟨27, 26, .ro, [0]⟩]⟩,
  ⟨0xC00010, [], [⟨31, 0, .ro, [0]⟩]⟩,
  ⟨0xC00014, [], [⟨31, 0, .ro, [0]⟩]⟩,
  ⟨0xC00018, [], [⟨27, 16, .ro, [0]⟩, ⟨11, 0, .ro, [0]⟩]⟩,
  ⟨0xC0001C, [], [⟨31, 16, .ro, [0]⟩, ⟨15, 0, .ro, [0]⟩]⟩,
  ⟨0xC00020, [], [⟨31, 16, .ro, [0]⟩, ⟨1, 1, .ro, [0]⟩, ⟨0, 0, .ro, [0]⟩]⟩]

/-- The PERF block (R618). -/
def rowsPerf : List RegRow := [
  ⟨0xD00000, [], [⟨31, 31, .wo, [0]⟩, ⟨30, 30, .wo, [0]⟩, ⟨29, 29, .wo, [0]⟩, ⟨25, 16, .rw, [768]⟩, ⟨9, 0, .rw, [0]⟩]⟩,
  ⟨0xD00004, [], [⟨7, 0, .ro, [0]⟩]⟩,
  ⟨0xD00008, [], [⟨31, 0, .ro, [0]⟩]⟩,
  ⟨0xD0000C, [], [⟨15, 0, .ro, [0]⟩]⟩,
  ⟨0xD00010, [], [⟨29, 0, .ro, [0]⟩]⟩,
  ⟨0xD00014, [], [⟨31, 31, .rw, [0]⟩, ⟨11, 8, .rwl, [15]⟩, ⟨3, 0, .rwl, [1]⟩]⟩,
  ⟨0xD00040, [(0x4, 24)], [⟨31, 0, .ro, [0]⟩]⟩,
  ⟨0xD01000, [(0x8, 768)], [⟨31, 0, .ro, [0]⟩]⟩,
  ⟨0xD01004, [(0x8, 768)], [⟨31, 31, .ro, [0]⟩, ⟨15, 0, .ro, [0]⟩]⟩]

/-- The CMT block (R619). -/
def rowsCmt : List RegRow := [
  ⟨0xD10000, [], [⟨20, 16, .ro, [0]⟩]⟩,
  ⟨0xD10004, [], [⟨31, 0, .ro, [0]⟩]⟩,
  ⟨0xD10008, [], [⟨31, 0, .wo, [0]⟩]⟩,
  ⟨0xD10100, [(0x8, 4)], [⟨31, 31, .rw, [0]⟩, ⟨30, 30, .rw, [1]⟩, ⟨25, 16, .rw, [0]⟩, ⟨15, 8, .rw, [255]⟩, ⟨7, 4, .rw, [15]⟩]⟩,
  ⟨0xD10104, [(0x8, 4)], [⟨20, 16, .rw, [10]⟩, ⟨15, 8, .rw, [255]⟩, ⟨0, 0, .rw, [0]⟩]⟩]

/-- The rows of the 64 KiB block that starts at `b` × 0x1_0000 (R82); none for an address in no block. -/
def blockRows (b : Nat) : List RegRow :=
  match b with
  | 0x0 => rowsSys
  | 0x1 => rowsPwr
  | 0x2 => rowsClk
  | 0x10 => rowsTrl
  | 0x11 => rowsTlk
  | 0x12 => rowsTrl
  | 0x13 => rowsTlk
  | 0x20 => rowsTun
  | 0x30 => rowsSwc
  | 0x31 => rowsSch
  | 0x40 => rowsPcie
  | 0x41 => rowsPcie
  | 0x42 => rowsSfn
  | 0x50 => rowsDsp
  | 0x51 => rowsDpo
  | 0x60 => rowsUsbh
  | 0x61 => rowsUsbs
  | 0x62 => rowsUsbmem
  | 0x70 => rowsEth
  | 0x80 => rowsPnt
  | 0x90 => rowsMer
  | 0x91 => rowsTio
  | 0xA0 => rowsTcpd
  | 0xA1 => rowsEfu
  | 0xB0 => rowsInk
  | 0xB1 => rowsLcs
  | 0xC0 => rowsFwu
  | 0xD0 => rowsPerf
  | 0xD1 => rowsCmt
  | 0xD2 => rowsQue
  | _ => []

/-- The row and index of the register at address `a`; none where the address is unassigned or no multiple of four
(R11, R16). -/
def regRow (a : Nat) : Option (RegRow × Nat) :=
  if a % 4 = 0 then
    (blockRows (a / 0x10000)).findSome? fun r => (r.index a).map fun i => (r, i)
  else none

/-- The word the register at `a` holds after the reset that clears it (the Reset columns; R18).  An unassigned
address has the word 0. -/
def regReset (a : Nat) : Word :=
  match regRow a with
  | some (r, i) => r.fields.foldl (fun w f => (f.at a).put w (f.reset i)) 0
  | none => 0

/-- The block of address `a` lies on the power die (R82): PWR, TCPD and EFU. -/
def onPowerDie (a : Nat) : Bool := a / 0x10000 = 0x01 || a / 0x10000 = 0xA0 || a / 0x10000 = 0xA1


namespace Reg

/-- The address of SYS_ID. -/
def SYS_ID_A : Nat := 0x0
/-- SYS_ID.PART [31:16], RO. -/
def SYS_ID_PART : Fld := ⟨0x0, 16, 16⟩
/-- SYS_ID.MAJOR [15:8], RO. -/
def SYS_ID_MAJOR : Fld := ⟨0x0, 8, 8⟩
/-- SYS_ID.MINOR [7:0], RO. -/
def SYS_ID_MINOR : Fld := ⟨0x0, 0, 8⟩
/-- The address of SYS_MODE. -/
def SYS_MODE_A : Nat := 0x10
/-- SYS_MODE.POSITION [21:16], RO. -/
def SYS_MODE_POSITION : Fld := ⟨0x10, 16, 6⟩
/-- SYS_MODE.FORCE_REC [12:12], RO. -/
def SYS_MODE_FORCE_REC : Fld := ⟨0x10, 12, 1⟩
/-- SYS_MODE.ROLE [11:11], RO. -/
def SYS_MODE_ROLE : Fld := ⟨0x10, 11, 1⟩
/-- SYS_MODE.INTAKE_OK [10:10], RO. -/
def SYS_MODE_INTAKE_OK : Fld := ⟨0x10, 10, 1⟩
/-- SYS_MODE.DEGR [9:9], RO. -/
def SYS_MODE_DEGR : Fld := ⟨0x10, 9, 1⟩
/-- SYS_MODE.TRANS [8:8], RO. -/
def SYS_MODE_TRANS : Fld := ⟨0x10, 8, 1⟩
/-- SYS_MODE.TARGET [7:4], RO. -/
def SYS_MODE_TARGET : Fld := ⟨0x10, 4, 4⟩
/-- SYS_MODE.MODE [3:0], RO. -/
def SYS_MODE_MODE : Fld := ⟨0x10, 0, 4⟩
/-- The address of SYS_UNITS_OUT. -/
def SYS_UNITS_OUT_A : Nat := 0x14
/-- SYS_UNITS_OUT.PNT [22:22], RO. -/
def SYS_UNITS_OUT_PNT : Fld := ⟨0x14, 22, 1⟩
/-- SYS_UNITS_OUT.USBS [21:21], RO. -/
def SYS_UNITS_OUT_USBS : Fld := ⟨0x14, 21, 1⟩
/-- SYS_UNITS_OUT.USBH [20:20], RO. -/
def SYS_UNITS_OUT_USBH : Fld := ⟨0x14, 20, 1⟩
/-- SYS_UNITS_OUT.ETH [19:12], RO. -/
def SYS_UNITS_OUT_ETH : Fld := ⟨0x14, 12, 8⟩
/-- SYS_UNITS_OUT.DP [11:8], RO. -/
def SYS_UNITS_OUT_DP : Fld := ⟨0x14, 8, 4⟩
/-- SYS_UNITS_OUT.PIPE [7:6], RO. -/
def SYS_UNITS_OUT_PIPE : Fld := ⟨0x14, 6, 2⟩
/-- SYS_UNITS_OUT.PCIE [5:4], RO. -/
def SYS_UNITS_OUT_PCIE : Fld := ⟨0x14, 4, 2⟩
/-- SYS_UNITS_OUT.TRK_DOWN [3:2], RO. -/
def SYS_UNITS_OUT_TRK_DOWN : Fld := ⟨0x14, 2, 2⟩
/-- SYS_UNITS_OUT.TRK_NARROW [1:0], RO. -/
def SYS_UNITS_OUT_TRK_NARROW : Fld := ⟨0x14, 0, 2⟩
/-- The address of QUE_CFG. -/
def QUE_CFG_A (q : Nat) : Nat := 0xD20000 + 0x40 * q
/-- QUE_CFG.LEVEL [28:16], RW. -/
def QUE_CFG_LEVEL (q : Nat) : Fld := ⟨0xD20000 + 0x40 * q, 16, 13⟩
/-- QUE_CFG.INT_EN [2:2], RW. -/
def QUE_CFG_INT_EN (q : Nat) : Fld := ⟨0xD20000 + 0x40 * q, 2, 1⟩
/-- QUE_CFG.MODE [1:1], RW. -/
def QUE_CFG_MODE (q : Nat) : Fld := ⟨0xD20000 + 0x40 * q, 1, 1⟩
/-- QUE_CFG.ENABLE [0:0], RW. -/
def QUE_CFG_ENABLE (q : Nat) : Fld := ⟨0xD20000 + 0x40 * q, 0, 1⟩
/-- The address of QUE_PROD. -/
def QUE_PROD_A (q : Nat) : Nat := 0xD20004 + 0x40 * q
/-- QUE_PROD.F [31:16], RO. -/
def QUE_PROD_F (q : Nat) : Fld := ⟨0xD20004 + 0x40 * q, 16, 16⟩
/-- QUE_PROD.W [15:0], RO. -/
def QUE_PROD_W (q : Nat) : Fld := ⟨0xD20004 + 0x40 * q, 0, 16⟩
/-- The address of QUE_CONS. -/
def QUE_CONS_A (q : Nat) : Nat := 0xD20008 + 0x40 * q
/-- QUE_CONS.M [31:16], RO. -/
def QUE_CONS_M (q : Nat) : Fld := ⟨0xD20008 + 0x40 * q, 16, 16⟩
/-- QUE_CONS.C [15:0], RO. -/
def QUE_CONS_C (q : Nat) : Fld := ⟨0xD20008 + 0x40 * q, 0, 16⟩
/-- The address of QUE_LOST. -/
def QUE_LOST_A (q : Nat) : Nat := 0xD2000C + 0x40 * q
/-- QUE_LOST.LOST [15:0], RO. -/
def QUE_LOST_LOST (q : Nat) : Fld := ⟨0xD2000C + 0x40 * q, 0, 16⟩
/-- The address of QUE_RINGLO. -/
def QUE_RINGLO_A (q : Nat) : Nat := 0xD20010 + 0x40 * q
/-- QUE_RINGLO.ADDR_LO [31:12], RW. -/
def QUE_RINGLO_ADDR_LO (q : Nat) : Fld := ⟨0xD20010 + 0x40 * q, 12, 20⟩
/-- The address of QUE_RINGHI. -/
def QUE_RINGHI_A (q : Nat) : Nat := 0xD20014 + 0x40 * q
/-- QUE_RINGHI.ADDR_HI [31:0], RW. -/
def QUE_RINGHI_ADDR_HI (q : Nat) : Fld := ⟨0xD20014 + 0x40 * q, 0, 32⟩
/-- The address of QUE_STAT. -/
def QUE_STAT_A (q : Nat) : Nat := 0xD20018 + 0x40 * q
/-- QUE_STAT.CAPACITY [31:16], RO. -/
def QUE_STAT_CAPACITY (q : Nat) : Fld := ⟨0xD20018 + 0x40 * q, 16, 16⟩
/-- QUE_STAT.ENTRY_BYTES [15:8], RO. -/
def QUE_STAT_ENTRY_BYTES (q : Nat) : Fld := ⟨0xD20018 + 0x40 * q, 8, 8⟩
/-- QUE_STAT.INTEG [2:2], W1C. -/
def QUE_STAT_INTEG (q : Nat) : Fld := ⟨0xD20018 + 0x40 * q, 2, 1⟩
/-- QUE_STAT.ARMED [1:1], RO. -/
def QUE_STAT_ARMED (q : Nat) : Fld := ⟨0xD20018 + 0x40 * q, 1, 1⟩
/-- QUE_STAT.FULL [0:0], RO. -/
def QUE_STAT_FULL (q : Nat) : Fld := ⟨0xD20018 + 0x40 * q, 0, 1⟩
/-- The address of TRL_CTRL. -/
def TRL_CTRL_A (t : Nat) : Nat := 0x100000 + 0x20000 * t
/-- TRL_CTRL.RECAL_PERIOD [31:24], RW. -/
def TRL_CTRL_RECAL_PERIOD (t : Nat) : Fld := ⟨0x100000 + 0x20000 * t, 24, 8⟩
/-- TRL_CTRL.CLK_REVERT_S [23:16], RW. -/
def TRL_CTRL_CLK_REVERT_S (t : Nat) : Fld := ⟨0x100000 + 0x20000 * t, 16, 8⟩
/-- TRL_CTRL.UPGRADE_EN [5:5], RW. -/
def TRL_CTRL_UPGRADE_EN (t : Nat) : Fld := ⟨0x100000 + 0x20000 * t, 5, 1⟩
/-- TRL_CTRL.PRECODE_ALLOW [4:4], RW. -/
def TRL_CTRL_PRECODE_ALLOW (t : Nat) : Fld := ⟨0x100000 + 0x20000 * t, 4, 1⟩
/-- TRL_CTRL.WIDTH_MAX [3:2], RW. -/
def TRL_CTRL_WIDTH_MAX (t : Nat) : Fld := ⟨0x100000 + 0x20000 * t, 2, 2⟩
/-- The address of TRL_STAT. -/
def TRL_STAT_A (t : Nat) : Nat := 0x100004 + 0x20000 * t
/-- TRL_STAT.TSTATE [31:28], RO. -/
def TRL_STAT_TSTATE (t : Nat) : Fld := ⟨0x100004 + 0x20000 * t, 28, 4⟩
/-- TRL_STAT.RX_WIDTH [27:26], RO. -/
def TRL_STAT_RX_WIDTH (t : Nat) : Fld := ⟨0x100004 + 0x20000 * t, 26, 2⟩
/-- TRL_STAT.TX_WIDTH [25:24], RO. -/
def TRL_STAT_TX_WIDTH (t : Nat) : Fld := ⟨0x100004 + 0x20000 * t, 24, 2⟩
/-- TRL_STAT.CLK_DIST_RX [23:18], RO. -/
def TRL_STAT_CLK_DIST_RX (t : Nat) : Fld := ⟨0x100004 + 0x20000 * t, 18, 6⟩
/-- TRL_STAT.CLK_VALID [17:17], RO. -/
def TRL_STAT_CLK_VALID (t : Nat) : Fld := ⟨0x100004 + 0x20000 * t, 17, 1⟩
/-- TRL_STAT.PRECODE_TX [16:16], RO. -/
def TRL_STAT_PRECODE_TX (t : Nat) : Fld := ⟨0x100004 + 0x20000 * t, 16, 1⟩
/-- TRL_STAT.PRECODE_RX [15:15], RO. -/
def TRL_STAT_PRECODE_RX (t : Nat) : Fld := ⟨0x100004 + 0x20000 * t, 15, 1⟩
/-- TRL_STAT.REVERSED [14:14], RO. -/
def TRL_STAT_REVERSED (t : Nat) : Fld := ⟨0x100004 + 0x20000 * t, 14, 1⟩
/-- TRL_STAT.POLARITY [12:8], RO. -/
def TRL_STAT_POLARITY (t : Nat) : Fld := ⟨0x100004 + 0x20000 * t, 8, 5⟩
/-- TRL_STAT.TRAIN_FAILS [7:0], RO. -/
def TRL_STAT_TRAIN_FAILS (t : Nat) : Fld := ⟨0x100004 + 0x20000 * t, 0, 8⟩
/-- The address of TRL_MAP. -/
def TRL_MAP_A (t : Nat) : Nat := 0x100008 + 0x20000 * t
/-- TRL_MAP.RECAL_ACTIVE [20:20], RO. -/
def TRL_MAP_RECAL_ACTIVE (t : Nat) : Fld := ⟨0x100008 + 0x20000 * t, 20, 1⟩
/-- TRL_MAP.SPARE_STATE [17:16], RO. -/
def TRL_MAP_SPARE_STATE (t : Nat) : Fld := ⟨0x100008 + 0x20000 * t, 16, 2⟩
/-- TRL_MAP.MAP3 [14:12], RO. -/
def TRL_MAP_MAP3 (t : Nat) : Fld := ⟨0x100008 + 0x20000 * t, 12, 3⟩
/-- TRL_MAP.MAP2 [10:8], RO. -/
def TRL_MAP_MAP2 (t : Nat) : Fld := ⟨0x100008 + 0x20000 * t, 8, 3⟩
/-- TRL_MAP.MAP1 [6:4], RO. -/
def TRL_MAP_MAP1 (t : Nat) : Fld := ⟨0x100008 + 0x20000 * t, 4, 3⟩
/-- TRL_MAP.MAP0 [2:0], RO. -/
def TRL_MAP_MAP0 (t : Nat) : Fld := ⟨0x100008 + 0x20000 * t, 0, 3⟩
/-- The address of TRL_HEALTH. -/
def TRL_HEALTH_A (t : Nat) : Nat := 0x10000C + 0x20000 * t
/-- TRL_HEALTH.FAILED [28:24], RO. -/
def TRL_HEALTH_FAILED (t : Nat) : Fld := ⟨0x10000C + 0x20000 * t, 24, 5⟩
/-- TRL_HEALTH.MARGINAL [20:16], RO. -/
def TRL_HEALTH_MARGINAL (t : Nat) : Fld := ⟨0x10000C + 0x20000 * t, 16, 5⟩
/-- TRL_HEALTH.RECAL_ROUNDS [15:8], RO. -/
def TRL_HEALTH_RECAL_ROUNDS (t : Nat) : Fld := ⟨0x10000C + 0x20000 * t, 8, 8⟩
/-- TRL_HEALTH.RECAL_ABORTS [7:0], RO. -/
def TRL_HEALTH_RECAL_ABORTS (t : Nat) : Fld := ⟨0x10000C + 0x20000 * t, 0, 8⟩
/-- The address of TRL_CLK. -/
def TRL_CLK_A (t : Nat) : Nat := 0x100010 + 0x20000 * t
/-- TRL_CLK.DIST_TX [21:16], RO. -/
def TRL_CLK_DIST_TX (t : Nat) : Fld := ⟨0x100010 + 0x20000 * t, 16, 6⟩
/-- TRL_CLK.SOURCE [9:8], RO. -/
def TRL_CLK_SOURCE (t : Nat) : Fld := ⟨0x100010 + 0x20000 * t, 8, 2⟩
/-- TRL_CLK.POISON [0:0], RO. -/
def TRL_CLK_POISON (t : Nat) : Fld := ⟨0x100010 + 0x20000 * t, 0, 1⟩
/-- The address of TRL_LOOP. -/
def TRL_LOOP_A (t : Nat) : Nat := 0x100014 + 0x20000 * t
/-- TRL_LOOP.LOOP [1:0], RO. -/
def TRL_LOOP_LOOP (t : Nat) : Fld := ⟨0x100014 + 0x20000 * t, 0, 2⟩
/-- The address of TRL_USERLO. -/
def TRL_USERLO_A (t : Nat) : Nat := 0x100200 + 0x20000 * t
/-- TRL_USERLO.PAT_LO [31:0], RW. -/
def TRL_USERLO_PAT_LO (t : Nat) : Fld := ⟨0x100200 + 0x20000 * t, 0, 32⟩
/-- The address of TRL_USERHI. -/
def TRL_USERHI_A (t : Nat) : Nat := 0x100204 + 0x20000 * t
/-- TRL_USERHI.PAT_HI [31:0], RW. -/
def TRL_USERHI_PAT_HI (t : Nat) : Fld := ⟨0x100204 + 0x20000 * t, 0, 32⟩
/-- The address of TRL_TXEQ. -/
def TRL_TXEQ_A (t : Nat) (p : Nat) : Nat := 0x100100 + 0x20000 * t + 0x20 * p
/-- TRL_TXEQ.CM1 [29:24], RO. -/
def TRL_TXEQ_CM1 (t : Nat) (p : Nat) : Fld := ⟨0x100100 + 0x20000 * t + 0x20 * p, 24, 6⟩
/-- TRL_TXEQ.CP1 [21:16], RO. -/
def TRL_TXEQ_CP1 (t : Nat) (p : Nat) : Fld := ⟨0x100100 + 0x20000 * t + 0x20 * p, 16, 6⟩
/-- TRL_TXEQ.CP2 [12:8], RO. -/
def TRL_TXEQ_CP2 (t : Nat) (p : Nat) : Fld := ⟨0x100100 + 0x20000 * t + 0x20 * p, 8, 5⟩
/-- TRL_TXEQ.SWING [3:0], RO. -/
def TRL_TXEQ_SWING (t : Nat) (p : Nat) : Fld := ⟨0x100100 + 0x20000 * t + 0x20 * p, 0, 4⟩
/-- The address of TRL_RXEQ. -/
def TRL_RXEQ_A (t : Nat) (p : Nat) : Nat := 0x100104 + 0x20000 * t + 0x20 * p
/-- TRL_RXEQ.CTLE_PEAK [28:24], RO. -/
def TRL_RXEQ_CTLE_PEAK (t : Nat) (p : Nat) : Fld := ⟨0x100104 + 0x20000 * t + 0x20 * p, 24, 5⟩
/-- TRL_RXEQ.CTLE_DC [18:16], RO. -/
def TRL_RXEQ_CTLE_DC (t : Nat) (p : Nat) : Fld := ⟨0x100104 + 0x20000 * t + 0x20 * p, 16, 3⟩
/-- TRL_RXEQ.DFE_H1 [15:8], RO. -/
def TRL_RXEQ_DFE_H1 (t : Nat) (p : Nat) : Fld := ⟨0x100104 + 0x20000 * t + 0x20 * p, 8, 8⟩
/-- TRL_RXEQ.PRECODE [0:0], RO. -/
def TRL_RXEQ_PRECODE (t : Nat) (p : Nat) : Fld := ⟨0x100104 + 0x20000 * t + 0x20 * p, 0, 1⟩
/-- The address of TRL_PHASE. -/
def TRL_PHASE_A (t : Nat) (p : Nat) : Nat := 0x100108 + 0x20000 * t + 0x20 * p
/-- TRL_PHASE.COARSE [29:24], RO. -/
def TRL_PHASE_COARSE (t : Nat) (p : Nat) : Fld := ⟨0x100108 + 0x20000 * t + 0x20 * p, 24, 6⟩
/-- TRL_PHASE.FINE [21:16], RO. -/
def TRL_PHASE_FINE (t : Nat) (p : Nat) : Fld := ⟨0x100108 + 0x20000 * t + 0x20 * p, 16, 6⟩
/-- The address of TRL_WIN. -/
def TRL_WIN_A (t : Nat) (p : Nat) : Nat := 0x10010C + 0x20000 * t + 0x20 * p
/-- TRL_WIN.CORRECTED [15:0], RO. -/
def TRL_WIN_CORRECTED (t : Nat) (p : Nat) : Fld := ⟨0x10010C + 0x20000 * t + 0x20 * p, 0, 16⟩
/-- The address of TRL_PAT. -/
def TRL_PAT_A (t : Nat) (p : Nat) : Nat := 0x100110 + 0x20000 * t + 0x20 * p
/-- TRL_PAT.PATTERN [10:8], RO. -/
def TRL_PAT_PATTERN (t : Nat) (p : Nat) : Fld := ⟨0x100110 + 0x20000 * t + 0x20 * p, 8, 3⟩
/-- TRL_PAT.PRECODE [4:4], RO. -/
def TRL_PAT_PRECODE (t : Nat) (p : Nat) : Fld := ⟨0x100110 + 0x20000 * t + 0x20 * p, 4, 1⟩
/-- TRL_PAT.INVERT [3:3], RO. -/
def TRL_PAT_INVERT (t : Nat) (p : Nat) : Fld := ⟨0x100110 + 0x20000 * t + 0x20 * p, 3, 1⟩
/-- TRL_PAT.CHK_EN [1:1], RO. -/
def TRL_PAT_CHK_EN (t : Nat) (p : Nat) : Fld := ⟨0x100110 + 0x20000 * t + 0x20 * p, 1, 1⟩
/-- TRL_PAT.GEN_EN [0:0], RO. -/
def TRL_PAT_GEN_EN (t : Nat) (p : Nat) : Fld := ⟨0x100110 + 0x20000 * t + 0x20 * p, 0, 1⟩
/-- The address of TRL_CHK. -/
def TRL_CHK_A (t : Nat) (p : Nat) : Nat := 0x100114 + 0x20000 * t + 0x20 * p
/-- TRL_CHK.RELOCK [31:24], RO. -/
def TRL_CHK_RELOCK (t : Nat) (p : Nat) : Fld := ⟨0x100114 + 0x20000 * t + 0x20 * p, 24, 8⟩
/-- TRL_CHK.LOCKED [0:0], RO. -/
def TRL_CHK_LOCKED (t : Nat) (p : Nat) : Fld := ⟨0x100114 + 0x20000 * t + 0x20 * p, 0, 1⟩
/-- The address of TRL_CHKERR. -/
def TRL_CHKERR_A (t : Nat) (p : Nat) : Nat := 0x100118 + 0x20000 * t + 0x20 * p
/-- TRL_CHKERR.ERRORS [31:0], RO. -/
def TRL_CHKERR_ERRORS (t : Nat) (p : Nat) : Fld := ⟨0x100118 + 0x20000 * t + 0x20 * p, 0, 32⟩
/-- The address of TLK_CTRL. -/
def TLK_CTRL_A (t : Nat) : Nat := 0x110000 + 0x20000 * t
/-- TLK_CTRL.REPLAY_TO [31:24], RW. -/
def TLK_CTRL_REPLAY_TO (t : Nat) : Fld := ⟨0x110000 + 0x20000 * t, 24, 8⟩
/-- TLK_CTRL.REPLAY_LIMIT [23:20], RW. -/
def TLK_CTRL_REPLAY_LIMIT (t : Nat) : Fld := ⟨0x110000 + 0x20000 * t, 20, 4⟩
/-- TLK_CTRL.HUSH_IDLE [15:8], RW. -/
def TLK_CTRL_HUSH_IDLE (t : Nat) : Fld := ⟨0x110000 + 0x20000 * t, 8, 8⟩
/-- TLK_CTRL.LRESET [1:1], WO. -/
def TLK_CTRL_LRESET (t : Nat) : Fld := ⟨0x110000 + 0x20000 * t, 1, 1⟩
/-- TLK_CTRL.ENABLED [0:0], RO. -/
def TLK_CTRL_ENABLED (t : Nat) : Fld := ⟨0x110000 + 0x20000 * t, 0, 1⟩
/-- The address of TLK_STAT. -/
def TLK_STAT_A (t : Nat) : Nat := 0x110004 + 0x20000 * t
/-- TLK_STAT.LSTATE [31:29], RO. -/
def TLK_STAT_LSTATE (t : Nat) : Fld := ⟨0x110004 + 0x20000 * t, 29, 3⟩
/-- TLK_STAT.HOLD_TX [28:28], RO. -/
def TLK_STAT_HOLD_TX (t : Nat) : Fld := ⟨0x110004 + 0x20000 * t, 28, 1⟩
/-- TLK_STAT.HOLD_RX [27:27], RO. -/
def TLK_STAT_HOLD_RX (t : Nat) : Fld := ⟨0x110004 + 0x20000 * t, 27, 1⟩
/-- TLK_STAT.PEER_POS [23:18], RO. -/
def TLK_STAT_PEER_POS (t : Nat) : Fld := ⟨0x110004 + 0x20000 * t, 18, 6⟩
/-- TLK_STAT.INIT_ID [15:8], RO. -/
def TLK_STAT_INIT_ID (t : Nat) : Fld := ⟨0x110004 + 0x20000 * t, 8, 8⟩
/-- TLK_STAT.RESETS [7:0], RO. -/
def TLK_STAT_RESETS (t : Nat) : Fld := ⟨0x110004 + 0x20000 * t, 0, 8⟩
/-- The address of TLK_SEQ. -/
def TLK_SEQ_A (t : Nat) : Nat := 0x110008 + 0x20000 * t
/-- TLK_SEQ.TX_NEXT [27:16], RO. -/
def TLK_SEQ_TX_NEXT (t : Nat) : Fld := ⟨0x110008 + 0x20000 * t, 16, 12⟩
/-- TLK_SEQ.RX_EXPECT [11:0], RO. -/
def TLK_SEQ_RX_EXPECT (t : Nat) : Fld := ⟨0x110008 + 0x20000 * t, 0, 12⟩
/-- The address of TLK_REPLAY. -/
def TLK_REPLAY_A (t : Nat) : Nat := 0x11000C + 0x20000 * t
/-- TLK_REPLAY.NOPROG [31:28], RO. -/
def TLK_REPLAY_NOPROG (t : Nat) : Fld := ⟨0x11000C + 0x20000 * t, 28, 4⟩
/-- TLK_REPLAY.OUTSTANDING [24:16], RO. -/
def TLK_REPLAY_OUTSTANDING (t : Nat) : Fld := ⟨0x11000C + 0x20000 * t, 16, 9⟩
/-- TLK_REPLAY.ACKED [11:0], RO. -/
def TLK_REPLAY_ACKED (t : Nat) : Fld := ⟨0x11000C + 0x20000 * t, 0, 12⟩
/-- The address of TLK_MOVE. -/
def TLK_MOVE_A (t : Nat) : Nat := 0x110010 + 0x20000 * t
/-- TLK_MOVE.PENDING [16:16], RO. -/
def TLK_MOVE_PENDING (t : Nat) : Fld := ⟨0x110010 + 0x20000 * t, 16, 1⟩
/-- TLK_MOVE.MOVE_ID [15:8], RO. -/
def TLK_MOVE_MOVE_ID (t : Nat) : Fld := ⟨0x110010 + 0x20000 * t, 8, 8⟩
/-- TLK_MOVE.DONE [7:0], RO. -/
def TLK_MOVE_DONE (t : Nat) : Fld := ⟨0x110010 + 0x20000 * t, 0, 8⟩
/-- The address of TLK_ALLOT. -/
def TLK_ALLOT_A (t : Nat) (v : Nat) : Nat := 0x110020 + 0x20000 * t + 0x4 * v
/-- TLK_ALLOT.ACTIVE [28:16], RO. -/
def TLK_ALLOT_ACTIVE (t : Nat) (v : Nat) : Fld := ⟨0x110020 + 0x20000 * t + 0x4 * v, 16, 13⟩
/-- TLK_ALLOT.ALLOT [12:0], RWS. -/
def TLK_ALLOT_ALLOT (t : Nat) (v : Nat) : Fld := ⟨0x110020 + 0x20000 * t + 0x4 * v, 0, 13⟩
/-- The address of TLK_CRED. -/
def TLK_CRED_A (t : Nat) (v : Nat) : Nat := 0x110030 + 0x20000 * t + 0x4 * v
/-- TLK_CRED.CREDIT [31:16], RO. -/
def TLK_CRED_CREDIT (t : Nat) (v : Nat) : Fld := ⟨0x110030 + 0x20000 * t + 0x4 * v, 16, 16⟩
/-- TLK_CRED.SEEN_CUM [13:0], RO. -/
def TLK_CRED_SEEN_CUM (t : Nat) (v : Nat) : Fld := ⟨0x110030 + 0x20000 * t + 0x4 * v, 0, 14⟩
/-- The address of TLK_OCC. -/
def TLK_OCC_A (t : Nat) (v : Nat) : Nat := 0x110040 + 0x20000 * t + 0x4 * v
/-- TLK_OCC.FREED_CUM [29:16], RO. -/
def TLK_OCC_FREED_CUM (t : Nat) (v : Nat) : Fld := ⟨0x110040 + 0x20000 * t + 0x4 * v, 16, 14⟩
/-- TLK_OCC.OCC [12:0], RO. -/
def TLK_OCC_OCC (t : Nat) (v : Nat) : Fld := ⟨0x110040 + 0x20000 * t + 0x4 * v, 0, 13⟩
/-- The address of TUN_ENTRY_W0. -/
def TUN_ENTRY_W0_A (t : Nat) : Nat := 0x204000 + 0x10 * t
/-- TUN_ENTRY_W0.VALID [31:31], RO. -/
def TUN_ENTRY_W0_VALID (t : Nat) : Fld := ⟨0x204000 + 0x10 * t, 31, 1⟩
/-- TUN_ENTRY_W0.STATE [30:29], RO. -/
def TUN_ENTRY_W0_STATE (t : Nat) : Fld := ⟨0x204000 + 0x10 * t, 29, 2⟩
/-- TUN_ENTRY_W0.TTYPE [28:26], RO. -/
def TUN_ENTRY_W0_TTYPE (t : Nat) : Fld := ⟨0x204000 + 0x10 * t, 26, 3⟩
/-- TUN_ENTRY_W0.CLASS [25:24], RO. -/
def TUN_ENTRY_W0_CLASS (t : Nat) : Fld := ⟨0x204000 + 0x10 * t, 24, 2⟩
/-- TUN_ENTRY_W0.RING_PROT [23:23], RO. -/
def TUN_ENTRY_W0_RING_PROT (t : Nat) : Fld := ⟨0x204000 + 0x10 * t, 23, 1⟩
/-- TUN_ENTRY_W0.POS_A [21:16], RO. -/
def TUN_ENTRY_W0_POS_A (t : Nat) : Fld := ⟨0x204000 + 0x10 * t, 16, 6⟩
/-- TUN_ENTRY_W0.POS_B [13:8], RO. -/
def TUN_ENTRY_W0_POS_B (t : Nat) : Fld := ⟨0x204000 + 0x10 * t, 8, 6⟩
/-- TUN_ENTRY_W0.GEN [7:0], RO. -/
def TUN_ENTRY_W0_GEN (t : Nat) : Fld := ⟨0x204000 + 0x10 * t, 0, 8⟩
/-- The address of TUN_ENTRY_W1. -/
def TUN_ENTRY_W1_A (t : Nat) : Nat := 0x204004 + 0x10 * t
/-- TUN_ENTRY_W1.UNIT [31:24], RO. -/
def TUN_ENTRY_W1_UNIT (t : Nat) : Fld := ⟨0x204004 + 0x10 * t, 24, 8⟩
/-- TUN_ENTRY_W1.SUB [23:16], RO. -/
def TUN_ENTRY_W1_SUB (t : Nat) : Fld := ⟨0x204004 + 0x10 * t, 16, 8⟩
/-- TUN_ENTRY_W1.ROLE [9:8], RO. -/
def TUN_ENTRY_W1_ROLE (t : Nat) : Fld := ⟨0x204004 + 0x10 * t, 8, 2⟩
/-- The address of TUN_ENTRY_W2. -/
def TUN_ENTRY_W2_A (t : Nat) : Nat := 0x204008 + 0x10 * t
/-- TUN_ENTRY_W2.CIR_AB [17:0], RO. -/
def TUN_ENTRY_W2_CIR_AB (t : Nat) : Fld := ⟨0x204008 + 0x10 * t, 0, 18⟩
/-- The address of TUN_ENTRY_W3. -/
def TUN_ENTRY_W3_A (t : Nat) : Nat := 0x20400C + 0x10 * t
/-- TUN_ENTRY_W3.CIR_BA [17:0], RO. -/
def TUN_ENTRY_W3_CIR_BA (t : Nat) : Fld := ⟨0x20400C + 0x10 * t, 0, 18⟩
/-- The address of TUN_CTRL. -/
def TUN_CTRL_A : Nat := 0x200000
/-- TUN_CTRL.PAUSE_US [31:16], RW. -/
def TUN_CTRL_PAUSE_US : Fld := ⟨0x200000, 16, 16⟩
/-- TUN_CTRL.HEAL_DEB_US [15:8], RW. -/
def TUN_CTRL_HEAL_DEB_US : Fld := ⟨0x200000, 8, 8⟩
/-- TUN_CTRL.RING [1:1], RO. -/
def TUN_CTRL_RING : Fld := ⟨0x200000, 1, 1⟩
/-- TUN_CTRL.LINE_AUTO [0:0], RO. -/
def TUN_CTRL_LINE_AUTO : Fld := ⟨0x200000, 0, 1⟩
/-- The address of TUN_LINE. -/
def TUN_LINE_A : Nat := 0x200004
/-- TUN_LINE.TUNNELS [26:16], RO. -/
def TUN_LINE_TUNNELS : Fld := ⟨0x200004, 16, 11⟩
/-- TUN_LINE.STATIONS [5:0], RO. -/
def TUN_LINE_STATIONS : Fld := ⟨0x200004, 0, 6⟩
/-- The address of TUN_CUT_LO. -/
def TUN_CUT_LO_A : Nat := 0x200008
/-- TUN_CUT_LO.CUT [31:0], RO. -/
def TUN_CUT_LO_CUT : Fld := ⟨0x200008, 0, 32⟩
/-- The address of TUN_CUT_HI. -/
def TUN_CUT_HI_A : Nat := 0x20000C
/-- TUN_CUT_HI.CUT32 [0:0], RO. -/
def TUN_CUT_HI_CUT32 : Fld := ⟨0x20000C, 0, 1⟩
/-- The address of TUN_LIMIT. -/
def TUN_LIMIT_A : Nat := 0x200010
/-- TUN_LIMIT.ADMIT_PCT [23:16], RW. -/
def TUN_LIMIT_ADMIT_PCT : Fld := ⟨0x200010, 16, 8⟩
/-- TUN_LIMIT.EXPRESS_PCT [15:8], RW. -/
def TUN_LIMIT_EXPRESS_PCT : Fld := ⟨0x200010, 8, 8⟩
/-- TUN_LIMIT.LOOP [7:0], RW. -/
def TUN_LIMIT_LOOP : Fld := ⟨0x200010, 0, 8⟩
/-- The address of TUN_AUDIT. -/
def TUN_AUDIT_A : Nat := 0x200020
/-- TUN_AUDIT.NOQUIET [23:16], RO. -/
def TUN_AUDIT_NOQUIET : Fld := ⟨0x200020, 16, 8⟩
/-- TUN_AUDIT.MISMATCH [15:8], RO. -/
def TUN_AUDIT_MISMATCH : Fld := ⟨0x200020, 8, 8⟩
/-- TUN_AUDIT.CHECKED [7:0], RO. -/
def TUN_AUDIT_CHECKED : Fld := ⟨0x200020, 0, 8⟩
/-- The address of TUN_AUDIT_POS_LO. -/
def TUN_AUDIT_POS_LO_A : Nat := 0x200024
/-- TUN_AUDIT_POS_LO.POS [31:0], RO. -/
def TUN_AUDIT_POS_LO_POS : Fld := ⟨0x200024, 0, 32⟩
/-- The address of TUN_AUDIT_POS_HI. -/
def TUN_AUDIT_POS_HI_A : Nat := 0x200028
/-- TUN_AUDIT_POS_HI.POS32 [0:0], RO. -/
def TUN_AUDIT_POS_HI_POS32 : Fld := ⟨0x200028, 0, 1⟩
/-- The address of TUN_ROUTE. -/
def TUN_ROUTE_A (d : Nat) : Nat := 0x200100 + 0x4 * d
/-- TUN_ROUTE.HOPS [15:10], RO. -/
def TUN_ROUTE_HOPS (d : Nat) : Fld := ⟨0x200100 + 0x4 * d, 10, 6⟩
/-- TUN_ROUTE.ALT [2:2], RO. -/
def TUN_ROUTE_ALT (d : Nat) : Fld := ⟨0x200100 + 0x4 * d, 2, 1⟩
/-- TUN_ROUTE.EGRESS [1:0], RO. -/
def TUN_ROUTE_EGRESS (d : Nat) : Fld := ⟨0x200100 + 0x4 * d, 0, 2⟩
/-- The address of TUN_TSTAT. -/
def TUN_TSTAT_A (t : Nat) : Nat := 0x208000 + 0x4 * t
/-- TUN_TSTAT.GAPS [31:16], RO. -/
def TUN_TSTAT_GAPS (t : Nat) : Fld := ⟨0x208000 + 0x4 * t, 16, 16⟩
/-- TUN_TSTAT.RX_NEXT [15:8], RO. -/
def TUN_TSTAT_RX_NEXT (t : Nat) : Fld := ⟨0x208000 + 0x4 * t, 8, 8⟩
/-- TUN_TSTAT.TX_NEXT [7:0], RO. -/
def TUN_TSTAT_TX_NEXT (t : Nat) : Fld := ⟨0x208000 + 0x4 * t, 0, 8⟩
/-- The address of SWC_CTRL. -/
def SWC_CTRL_A : Nat := 0x300000
/-- SWC_CTRL.LOW_PCT [31:24], RW. -/
def SWC_CTRL_LOW_PCT : Fld := ⟨0x300000, 24, 8⟩
/-- SWC_CTRL.WRED_W [19:16], RW. -/
def SWC_CTRL_WRED_W : Fld := ⟨0x300000, 16, 4⟩
/-- SWC_CTRL.CT_EN [0:0], RW. -/
def SWC_CTRL_CT_EN : Fld := ⟨0x300000, 0, 1⟩
/-- The address of SWC_MCAST. -/
def SWC_MCAST_A : Nat := 0x300004
/-- SWC_MCAST.AGE_US [31:16], RW. -/
def SWC_MCAST_AGE_US : Fld := ⟨0x300004, 16, 16⟩
/-- The address of SWC_FREE. -/
def SWC_FREE_A : Nat := 0x300008
/-- SWC_FREE.FREE [17:0], RO. -/
def SWC_FREE_FREE : Fld := ⟨0x300008, 0, 18⟩
/-- The address of SWC_ALLOC. -/
def SWC_ALLOC_A : Nat := 0x30000C
/-- SWC_ALLOC.ALLOCATED [17:0], RO. -/
def SWC_ALLOC_ALLOCATED : Fld := ⟨0x30000C, 0, 18⟩
/-- The address of SWC_SHSIZE. -/
def SWC_SHSIZE_A : Nat := 0x300010
/-- SWC_SHSIZE.SIZE [17:0], RO. -/
def SWC_SHSIZE_SIZE : Fld := ⟨0x300010, 0, 18⟩
/-- The address of SWC_SHUSE. -/
def SWC_SHUSE_A : Nat := 0x300014
/-- SWC_SHUSE.USED [17:0], RO. -/
def SWC_SHUSE_USED : Fld := ⟨0x300014, 0, 18⟩
/-- The address of SWC_SHLOW. -/
def SWC_SHLOW_A : Nat := 0x300018
/-- SWC_SHLOW.CLR [31:31], WO. -/
def SWC_SHLOW_CLR : Fld := ⟨0x300018, 31, 1⟩
/-- SWC_SHLOW.LOW [17:0], RO. -/
def SWC_SHLOW_LOW : Fld := ⟨0x300018, 0, 18⟩
/-- The address of SWC_TRKLIM. -/
def SWC_TRKLIM_A : Nat := 0x30001C
/-- SWC_TRKLIM.LIMIT_ACT [30:16], RO. -/
def SWC_TRKLIM_LIMIT_ACT : Fld := ⟨0x30001C, 16, 15⟩
/-- SWC_TRKLIM.LIMIT [14:0], RWS. -/
def SWC_TRKLIM_LIMIT : Fld := ⟨0x30001C, 0, 15⟩
/-- The address of SWC_TRKRES. -/
def SWC_TRKRES_A : Nat := 0x300020
/-- SWC_TRKRES.TRK1 [30:16], RO. -/
def SWC_TRKRES_TRK1 : Fld := ⟨0x300020, 16, 15⟩
/-- SWC_TRKRES.TRK0 [14:0], RO. -/
def SWC_TRKRES_TRK0 : Fld := ⟨0x300020, 0, 15⟩
/-- The address of SWC_ALPHA. -/
def SWC_ALPHA_A : Nat := 0x300024
/-- SWC_ALPHA.ALPHA3 [31:24], RW. -/
def SWC_ALPHA_ALPHA3 : Fld := ⟨0x300024, 24, 8⟩
/-- SWC_ALPHA.ALPHA2 [23:16], RW. -/
def SWC_ALPHA_ALPHA2 : Fld := ⟨0x300024, 16, 8⟩
/-- SWC_ALPHA.ALPHA1 [15:8], RW. -/
def SWC_ALPHA_ALPHA1 : Fld := ⟨0x300024, 8, 8⟩
/-- SWC_ALPHA.ALPHA0 [7:0], RW. -/
def SWC_ALPHA_ALPHA0 : Fld := ⟨0x300024, 0, 8⟩
/-- The address of SWC_MCXFER. -/
def SWC_MCXFER_A : Nat := 0x300028
/-- SWC_MCXFER.CELLS [17:0], RO. -/
def SWC_MCXFER_CELLS : Fld := ⟨0x300028, 0, 18⟩
/-- The address of SWC_WRED0. -/
def SWC_WRED0_A (k : Nat) : Nat := 0x300040 + 0x8 * k
/-- SWC_WRED0.MAX_TH [31:16], RW. -/
def SWC_WRED0_MAX_TH (k : Nat) : Fld := ⟨0x300040 + 0x8 * k, 16, 16⟩
/-- SWC_WRED0.MIN_TH [15:0], RW. -/
def SWC_WRED0_MIN_TH (k : Nat) : Fld := ⟨0x300040 + 0x8 * k, 0, 16⟩
/-- The address of SWC_WRED1. -/
def SWC_WRED1_A (k : Nat) : Nat := 0x300044 + 0x8 * k
/-- SWC_WRED1.MAX_P [7:0], RW. -/
def SWC_WRED1_MAX_P (k : Nat) : Fld := ⟨0x300044 + 0x8 * k, 0, 8⟩
/-- The address of SWC_INMIN. -/
def SWC_INMIN_A (p : Nat) : Nat := 0x300100 + 0x4 * p
/-- SWC_INMIN.MIN_ACT [27:16], RO. -/
def SWC_INMIN_MIN_ACT (p : Nat) : Fld := ⟨0x300100 + 0x4 * p, 16, 12⟩
/-- SWC_INMIN.MIN [11:0], RWS. -/
def SWC_INMIN_MIN (p : Nat) : Fld := ⟨0x300100 + 0x4 * p, 0, 12⟩
/-- The address of SWC_INHELD. -/
def SWC_INHELD_A (p : Nat) : Nat := 0x300180 + 0x4 * p
/-- SWC_INHELD.RESIDUE [31:23], RO. -/
def SWC_INHELD_RESIDUE (p : Nat) : Fld := ⟨0x300180 + 0x4 * p, 23, 9⟩
/-- SWC_INHELD.HELD [17:0], RO. -/
def SWC_INHELD_HELD (p : Nat) : Fld := ⟨0x300180 + 0x4 * p, 0, 18⟩
/-- The address of SWC_VOQ_DEPTH. -/
def SWC_VOQ_DEPTH_A (d : Nat) : Nat := 0x308000 + 0x8 * d
/-- SWC_VOQ_DEPTH.DEPTH [17:0], RO. -/
def SWC_VOQ_DEPTH_DEPTH (d : Nat) : Fld := ⟨0x308000 + 0x8 * d, 0, 18⟩
/-- The address of SWC_VOQ_AVG. -/
def SWC_VOQ_AVG_A (d : Nat) : Nat := 0x308004 + 0x8 * d
/-- SWC_VOQ_AVG.AVG [21:0], RO. -/
def SWC_VOQ_AVG_AVG (d : Nat) : Fld := ⟨0x308004 + 0x8 * d, 0, 22⟩
/-- The address of SCH_CTRL. -/
def SCH_CTRL_A : Nat := 0x310000
/-- SCH_CTRL.URG_EN [4:4], RW. -/
def SCH_CTRL_URG_EN : Fld := ⟨0x310000, 4, 1⟩
/-- SCH_CTRL.RED_DROP [3:0], RW. -/
def SCH_CTRL_RED_DROP : Fld := ⟨0x310000, 0, 4⟩
/-- The address of SCH_EPOCH. -/
def SCH_EPOCH_A : Nat := 0x310004
/-- SCH_EPOCH.EPOCHS [31:0], RO. -/
def SCH_EPOCH_EPOCHS : Fld := ⟨0x310004, 0, 32⟩
/-- The address of SCH_XCFG. -/
def SCH_XCFG_A : Nat := 0x310008
/-- SCH_XCFG.XB_ACT [28:24], RO. -/
def SCH_XCFG_XB_ACT : Fld := ⟨0x310008, 24, 5⟩
/-- SCH_XCFG.XL_ACT [20:16], RO. -/
def SCH_XCFG_XL_ACT : Fld := ⟨0x310008, 16, 5⟩
/-- SCH_XCFG.XB [12:8], RWS. -/
def SCH_XCFG_XB : Fld := ⟨0x310008, 8, 5⟩
/-- SCH_XCFG.XL [4:0], RWS. -/
def SCH_XCFG_XL : Fld := ⟨0x310008, 0, 5⟩
/-- The address of SCH_URG. -/
def SCH_URG_A : Nat := 0x31000C
/-- SCH_URG.LONG_MS [15:8], RW. -/
def SCH_URG_LONG_MS : Fld := ⟨0x31000C, 8, 8⟩
/-- SCH_URG.CLEAR_US [7:0], RW. -/
def SCH_URG_CLEAR_US : Fld := ⟨0x31000C, 0, 8⟩
/-- The address of SCH_URGSTAT. -/
def SCH_URGSTAT_A : Nat := 0x310010
/-- SCH_URGSTAT.ROOT_URG [22:16], RO. -/
def SCH_URGSTAT_ROOT_URG : Fld := ⟨0x310010, 16, 7⟩
/-- SCH_URGSTAT.PIPEB [1:1], RO. -/
def SCH_URGSTAT_PIPEB : Fld := ⟨0x310010, 1, 1⟩
/-- SCH_URGSTAT.PIPEA [0:0], RO. -/
def SCH_URGSTAT_PIPEA : Fld := ⟨0x310010, 0, 1⟩
/-- The address of SCH_XSTAT. -/
def SCH_XSTAT_A (t : Nat) : Nat := 0x310020 + 0x4 * t
/-- SCH_XSTAT.REG_TOK [31:16], RO. -/
def SCH_XSTAT_REG_TOK (t : Nat) : Fld := ⟨0x310020 + 0x4 * t, 16, 16⟩
/-- SCH_XSTAT.GATE_TOK [15:0], RO. -/
def SCH_XSTAT_GATE_TOK (t : Nat) : Fld := ⟨0x310020 + 0x4 * t, 0, 16⟩
/-- The address of SCH_POLSEL. -/
def SCH_POLSEL_A : Nat := 0x310040
/-- SCH_POLSEL.TID [10:1], RW. -/
def SCH_POLSEL_TID : Fld := ⟨0x310040, 1, 10⟩
/-- SCH_POLSEL.DIR [0:0], RW. -/
def SCH_POLSEL_DIR : Fld := ⟨0x310040, 0, 1⟩
/-- The address of SCH_POLCIR. -/
def SCH_POLCIR_A : Nat := 0x310044
/-- SCH_POLCIR.CIR [17:0], RO. -/
def SCH_POLCIR_CIR : Fld := ⟨0x310044, 0, 18⟩
/-- The address of SCH_POLPIR. -/
def SCH_POLPIR_A : Nat := 0x310048
/-- SCH_POLPIR.PIR [17:0], RO. -/
def SCH_POLPIR_PIR : Fld := ⟨0x310048, 0, 18⟩
/-- The address of SCH_POLBKT. -/
def SCH_POLBKT_A : Nat := 0x31004C
/-- SCH_POLBKT.PBS [28:16], RO. -/
def SCH_POLBKT_PBS : Fld := ⟨0x31004C, 16, 13⟩
/-- SCH_POLBKT.CBS [12:0], RO. -/
def SCH_POLBKT_CBS : Fld := ⟨0x31004C, 0, 13⟩
/-- The address of SCH_POLTC. -/
def SCH_POLTC_A : Nat := 0x310050
/-- SCH_POLTC.TC [30:0], RO. -/
def SCH_POLTC_TC : Fld := ⟨0x310050, 0, 31⟩
/-- The address of SCH_POLTP. -/
def SCH_POLTP_A : Nat := 0x310054
/-- SCH_POLTP.TP [30:0], RO. -/
def SCH_POLTP_TP : Fld := ⟨0x310054, 0, 31⟩
/-- The address of SCH_POLADDC. -/
def SCH_POLADDC_A : Nat := 0x310058
/-- SCH_POLADDC.ADDED_CUM [31:0], RO. -/
def SCH_POLADDC_ADDED_CUM : Fld := ⟨0x310058, 0, 32⟩
/-- The address of SCH_POLSPENTC. -/
def SCH_POLSPENTC_A : Nat := 0x31005C
/-- SCH_POLSPENTC.SPENT_CUM [31:0], RO. -/
def SCH_POLSPENTC_SPENT_CUM : Fld := ⟨0x31005C, 0, 32⟩
/-- The address of SCH_POLCLIPC. -/
def SCH_POLCLIPC_A : Nat := 0x310060
/-- SCH_POLCLIPC.CLIPPED_CUM [31:0], RO. -/
def SCH_POLCLIPC_CLIPPED_CUM : Fld := ⟨0x310060, 0, 32⟩
/-- The address of SCH_POLADDP. -/
def SCH_POLADDP_A : Nat := 0x310064
/-- SCH_POLADDP.ADDED_CUM [31:0], RO. -/
def SCH_POLADDP_ADDED_CUM : Fld := ⟨0x310064, 0, 32⟩
/-- The address of SCH_POLSPENTP. -/
def SCH_POLSPENTP_A : Nat := 0x310068
/-- SCH_POLSPENTP.SPENT_CUM [31:0], RO. -/
def SCH_POLSPENTP_SPENT_CUM : Fld := ⟨0x310068, 0, 32⟩
/-- The address of SCH_POLCLIPP. -/
def SCH_POLCLIPP_A : Nat := 0x31006C
/-- SCH_POLCLIPP.CLIPPED_CUM [31:0], RO. -/
def SCH_POLCLIPP_CLIPPED_CUM : Fld := ⟨0x31006C, 0, 32⟩
/-- The address of SCH_POLSTAT. -/
def SCH_POLSTAT_A : Nat := 0x310070
/-- SCH_POLSTAT.ACTIVE [31:31], RO. -/
def SCH_POLSTAT_ACTIVE : Fld := ⟨0x310070, 31, 1⟩
/-- SCH_POLSTAT.CLASS [1:0], RO. -/
def SCH_POLSTAT_CLASS : Fld := ⟨0x310070, 0, 2⟩
/-- The address of SCH_OUT. -/
def SCH_OUT_A (p : Nat) : Nat := 0x310100 + 0x4 * p
/-- SCH_OUT.OVH [7:0], RWS. -/
def SCH_OUT_OVH (p : Nat) : Fld := ⟨0x310100 + 0x4 * p, 0, 8⟩
/-- The address of SCH_INWGT. -/
def SCH_INWGT_A (p : Nat) : Nat := 0x310180 + 0x4 * p
/-- SCH_INWGT.W3 [23:16], RWS. -/
def SCH_INWGT_W3 (p : Nat) : Fld := ⟨0x310180 + 0x4 * p, 16, 8⟩
/-- SCH_INWGT.W2 [15:8], RWS. -/
def SCH_INWGT_W2 (p : Nat) : Fld := ⟨0x310180 + 0x4 * p, 8, 8⟩
/-- SCH_INWGT.W1 [7:0], RWS. -/
def SCH_INWGT_W1 (p : Nat) : Fld := ⟨0x310180 + 0x4 * p, 0, 8⟩
/-- The address of SCH_SMP_A. -/
def SCH_SMP_A_A (s : Nat) : Nat := 0x310300 + 0x8 * s
/-- SCH_SMP_A.EN [31:31], RW. -/
def SCH_SMP_A_EN (s : Nat) : Fld := ⟨0x310300 + 0x8 * s, 31, 1⟩
/-- SCH_SMP_A.MODE [30:29], RW. -/
def SCH_SMP_A_MODE (s : Nat) : Fld := ⟨0x310300 + 0x8 * s, 29, 2⟩
/-- SCH_SMP_A.INPUT [23:16], RW. -/
def SCH_SMP_A_INPUT (s : Nat) : Fld := ⟨0x310300 + 0x8 * s, 16, 8⟩
/-- SCH_SMP_A.OUTPUT [15:8], RW. -/
def SCH_SMP_A_OUTPUT (s : Nat) : Fld := ⟨0x310300 + 0x8 * s, 8, 8⟩
/-- SCH_SMP_A.CLASS [1:0], RW. -/
def SCH_SMP_A_CLASS (s : Nat) : Fld := ⟨0x310300 + 0x8 * s, 0, 2⟩
/-- The address of SCH_SMP_B. -/
def SCH_SMP_B_A (s : Nat) : Nat := 0x310304 + 0x8 * s
/-- SCH_SMP_B.PERIOD_N [31:16], RW. -/
def SCH_SMP_B_PERIOD_N (s : Nat) : Fld := ⟨0x310304 + 0x8 * s, 16, 16⟩
/-- SCH_SMP_B.THRESH [15:0], RW. -/
def SCH_SMP_B_THRESH (s : Nat) : Fld := ⟨0x310304 + 0x8 * s, 0, 16⟩
/-- The address of SCH_SHP0. -/
def SCH_SHP0_A (p : Nat) (c : Nat) : Nat := 0x310400 + 0x20 * p + 0x8 * c
/-- SCH_SHP0.EN [31:31], RWS. -/
def SCH_SHP0_EN (p : Nat) (c : Nat) : Fld := ⟨0x310400 + 0x20 * p + 0x8 * c, 31, 1⟩
/-- SCH_SHP0.RATE [17:0], RWS. -/
def SCH_SHP0_RATE (p : Nat) (c : Nat) : Fld := ⟨0x310400 + 0x20 * p + 0x8 * c, 0, 18⟩
/-- The address of SCH_SHP1. -/
def SCH_SHP1_A (p : Nat) (c : Nat) : Nat := 0x310404 + 0x20 * p + 0x8 * c
/-- SCH_SHP1.BURST [12:0], RWS. -/
def SCH_SHP1_BURST (p : Nat) (c : Nat) : Fld := ⟨0x310404 + 0x20 * p + 0x8 * c, 0, 13⟩
/-- The address of PCIE_CTRL. -/
def PCIE_CTRL_A (u : Nat) : Nat := 0x400000 + 0x10000 * u
/-- PCIE_CTRL.DOWN_MS [31:24], RW. -/
def PCIE_CTRL_DOWN_MS (u : Nat) : Fld := ⟨0x400000 + 0x10000 * u, 24, 8⟩
/-- PCIE_CTRL.LOCK_MS [23:16], RW. -/
def PCIE_CTRL_LOCK_MS (u : Nat) : Fld := ⟨0x400000 + 0x10000 * u, 16, 8⟩
/-- PCIE_CTRL.PF_AGE [15:8], RW. -/
def PCIE_CTRL_PF_AGE (u : Nat) : Fld := ⟨0x400000 + 0x10000 * u, 8, 8⟩
/-- PCIE_CTRL.MAX_SPEED [3:2], RW. -/
def PCIE_CTRL_MAX_SPEED (u : Nat) : Fld := ⟨0x400000 + 0x10000 * u, 2, 2⟩
/-- PCIE_CTRL.SRIS [1:1], RW. -/
def PCIE_CTRL_SRIS (u : Nat) : Fld := ⟨0x400000 + 0x10000 * u, 1, 1⟩
/-- PCIE_CTRL.PORT_EN [0:0], RW. -/
def PCIE_CTRL_PORT_EN (u : Nat) : Fld := ⟨0x400000 + 0x10000 * u, 0, 1⟩
/-- The address of PCIE_STAT. -/
def PCIE_STAT_A (u : Nat) : Nat := 0x400004 + 0x10000 * u
/-- PCIE_STAT.LSTATE [19:16], RO. -/
def PCIE_STAT_LSTATE (u : Nat) : Fld := ⟨0x400004 + 0x10000 * u, 16, 4⟩
/-- PCIE_STAT.WIDTH [11:8], RO. -/
def PCIE_STAT_WIDTH (u : Nat) : Fld := ⟨0x400004 + 0x10000 * u, 8, 4⟩
/-- PCIE_STAT.SPEED [7:4], RO. -/
def PCIE_STAT_SPEED (u : Nat) : Fld := ⟨0x400004 + 0x10000 * u, 4, 4⟩
/-- PCIE_STAT.DL_ACTIVE [0:0], RO. -/
def PCIE_STAT_DL_ACTIVE (u : Nat) : Fld := ⟨0x400004 + 0x10000 * u, 0, 1⟩
/-- The address of PCIE_NP. -/
def PCIE_NP_A (u : Nat) : Nat := 0x400008 + 0x10000 * u
/-- PCIE_NP.PARK_USED [27:16], RO. -/
def PCIE_NP_PARK_USED (u : Nat) : Fld := ⟨0x400008 + 0x10000 * u, 16, 12⟩
/-- PCIE_NP.PARK_SIZE [11:0], RO. -/
def PCIE_NP_PARK_SIZE (u : Nat) : Fld := ⟨0x400008 + 0x10000 * u, 0, 12⟩
/-- The address of PCIE_OUTST. -/
def PCIE_OUTST_A (u : Nat) : Nat := 0x40000C + 0x10000 * u
/-- PCIE_OUTST.USED [11:0], RO. -/
def PCIE_OUTST_USED (u : Nat) : Fld := ⟨0x40000C + 0x10000 * u, 0, 12⟩
/-- The address of PCIE_LOCK. -/
def PCIE_LOCK_A (u : Nat) : Nat := 0x400010 + 0x10000 * u
/-- PCIE_LOCK.HELD [31:31], RO. -/
def PCIE_LOCK_HELD (u : Nat) : Fld := ⟨0x400010 + 0x10000 * u, 31, 1⟩
/-- PCIE_LOCK.VDP [13:8], RO. -/
def PCIE_LOCK_VDP (u : Nat) : Fld := ⟨0x400010 + 0x10000 * u, 8, 6⟩
/-- PCIE_LOCK.WAITING [7:0], RO. -/
def PCIE_LOCK_WAITING (u : Nat) : Fld := ⟨0x400010 + 0x10000 * u, 0, 8⟩
/-- The address of PCIE_PFWIN_A. -/
def PCIE_PFWIN_A_A (u : Nat) (n : Nat) : Nat := 0x400040 + 0x10000 * u + 0x10 * n
/-- PCIE_PFWIN_A.BASE_LO [31:12], RW. -/
def PCIE_PFWIN_A_BASE_LO (u : Nat) (n : Nat) : Fld := ⟨0x400040 + 0x10000 * u + 0x10 * n, 12, 20⟩
/-- PCIE_PFWIN_A.PREFETCH [11:11], RW. -/
def PCIE_PFWIN_A_PREFETCH (u : Nat) (n : Nat) : Fld := ⟨0x400040 + 0x10000 * u + 0x10 * n, 11, 1⟩
/-- PCIE_PFWIN_A.DEPTH [10:8], RW. -/
def PCIE_PFWIN_A_DEPTH (u : Nat) (n : Nat) : Fld := ⟨0x400040 + 0x10000 * u + 0x10 * n, 8, 3⟩
/-- PCIE_PFWIN_A.VDP [5:0], RW. -/
def PCIE_PFWIN_A_VDP (u : Nat) (n : Nat) : Fld := ⟨0x400040 + 0x10000 * u + 0x10 * n, 0, 6⟩
/-- The address of PCIE_PFWIN_B. -/
def PCIE_PFWIN_B_A (u : Nat) (n : Nat) : Nat := 0x400044 + 0x10000 * u + 0x10 * n
/-- PCIE_PFWIN_B.BASE_HI [31:0], RW. -/
def PCIE_PFWIN_B_BASE_HI (u : Nat) (n : Nat) : Fld := ⟨0x400044 + 0x10000 * u + 0x10 * n, 0, 32⟩
/-- The address of PCIE_PFWIN_C. -/
def PCIE_PFWIN_C_A (u : Nat) (n : Nat) : Nat := 0x400048 + 0x10000 * u + 0x10 * n
/-- PCIE_PFWIN_C.SIZE_LOG2 [5:0], RW. -/
def PCIE_PFWIN_C_SIZE_LOG2 (u : Nat) (n : Nat) : Fld := ⟨0x400048 + 0x10000 * u + 0x10 * n, 0, 6⟩
/-- The address of PCIE_PFDISC_LO. -/
def PCIE_PFDISC_LO_A (u : Nat) : Nat := 0x4000C0 + 0x10000 * u
/-- PCIE_PFDISC_LO.ADDR_LO [31:8], RO. -/
def PCIE_PFDISC_LO_ADDR_LO (u : Nat) : Fld := ⟨0x4000C0 + 0x10000 * u, 8, 24⟩
/-- PCIE_PFDISC_LO.VALID [7:7], RO. -/
def PCIE_PFDISC_LO_VALID (u : Nat) : Fld := ⟨0x4000C0 + 0x10000 * u, 7, 1⟩
/-- PCIE_PFDISC_LO.VDP [5:0], RO. -/
def PCIE_PFDISC_LO_VDP (u : Nat) : Fld := ⟨0x4000C0 + 0x10000 * u, 0, 6⟩
/-- The address of PCIE_PFDISC_HI. -/
def PCIE_PFDISC_HI_A (u : Nat) : Nat := 0x4000C4 + 0x10000 * u
/-- PCIE_PFDISC_HI.ADDR_HI [31:0], RO. -/
def PCIE_PFDISC_HI_ADDR_HI (u : Nat) : Fld := ⟨0x4000C4 + 0x10000 * u, 0, 32⟩
/-- The address of PCIE_PFPOOL. -/
def PCIE_PFPOOL_A (u : Nat) : Nat := 0x4000C8 + 0x10000 * u
/-- PCIE_PFPOOL.HELD [7:0], RO. -/
def PCIE_PFPOOL_HELD (u : Nat) : Fld := ⟨0x4000C8 + 0x10000 * u, 0, 8⟩
/-- The address of SFN_CTRL. -/
def SFN_CTRL_A : Nat := 0x420000
/-- SFN_CTRL.CTO_MS [23:16], RW. -/
def SFN_CTRL_CTO_MS : Fld := ⟨0x420000, 16, 8⟩
/-- SFN_CTRL.TAG10 [1:1], RO. -/
def SFN_CTRL_TAG10 : Fld := ⟨0x420000, 1, 1⟩
/-- SFN_CTRL.BME [0:0], RO. -/
def SFN_CTRL_BME : Fld := ⟨0x420000, 0, 1⟩
/-- The address of SFN_STAT. -/
def SFN_STAT_A : Nat := 0x420004
/-- SFN_STAT.MSI_MME [6:4], RO. -/
def SFN_STAT_MSI_MME : Fld := ⟨0x420004, 4, 3⟩
/-- SFN_STAT.MSI_EN [3:3], RO. -/
def SFN_STAT_MSI_EN : Fld := ⟨0x420004, 3, 1⟩
/-- SFN_STAT.FLR_BUSY [2:2], RO. -/
def SFN_STAT_FLR_BUSY : Fld := ⟨0x420004, 2, 1⟩
/-- The address of SFN_TAG. -/
def SFN_TAG_A (r : Nat) : Nat := 0x420010 + 0x4 * r
/-- SFN_TAG.INUSE [25:16], RO. -/
def SFN_TAG_INUSE (r : Nat) : Fld := ⟨0x420010 + 0x4 * r, 16, 10⟩
/-- SFN_TAG.MAX [9:0], RW. -/
def SFN_TAG_MAX (r : Nat) : Fld := ⟨0x420010 + 0x4 * r, 0, 10⟩
/-- The address of DSP_CTRL. -/
def DSP_CTRL_A (pp : Nat) : Nat := 0x500000 + 0x1000 * pp
/-- DSP_CTRL.LOCK_EN [4:4], RW. -/
def DSP_CTRL_LOCK_EN (pp : Nat) : Fld := ⟨0x500000 + 0x1000 * pp, 4, 1⟩
/-- DSP_CTRL.CUR_EN [3:3], RWS. -/
def DSP_CTRL_CUR_EN (pp : Nat) : Fld := ⟨0x500000 + 0x1000 * pp, 3, 1⟩
/-- DSP_CTRL.OVL_EN [2:2], RWS. -/
def DSP_CTRL_OVL_EN (pp : Nat) : Fld := ⟨0x500000 + 0x1000 * pp, 2, 1⟩
/-- DSP_CTRL.FMT [1:1], RWS. -/
def DSP_CTRL_FMT (pp : Nat) : Fld := ⟨0x500000 + 0x1000 * pp, 1, 1⟩
/-- DSP_CTRL.EN [0:0], RW. -/
def DSP_CTRL_EN (pp : Nat) : Fld := ⟨0x500000 + 0x1000 * pp, 0, 1⟩
/-- The address of DSP_COMMIT. -/
def DSP_COMMIT_A (pp : Nat) : Nat := 0x500004 + 0x1000 * pp
/-- DSP_COMMIT.COMMIT [0:0], WO. -/
def DSP_COMMIT_COMMIT (pp : Nat) : Fld := ⟨0x500004 + 0x1000 * pp, 0, 1⟩
/-- The address of DSP_COMMIT_STAT. -/
def DSP_COMMIT_STAT_A (pp : Nat) : Nat := 0x500008 + 0x1000 * pp
/-- DSP_COMMIT_STAT.LATCH_FRAME [31:16], RO. -/
def DSP_COMMIT_STAT_LATCH_FRAME (pp : Nat) : Fld := ⟨0x500008 + 0x1000 * pp, 16, 16⟩
/-- DSP_COMMIT_STAT.PENDING [8:8], RO. -/
def DSP_COMMIT_STAT_PENDING (pp : Nat) : Fld := ⟨0x500008 + 0x1000 * pp, 8, 1⟩
/-- DSP_COMMIT_STAT.LATCH_CNT [7:0], RO. -/
def DSP_COMMIT_STAT_LATCH_CNT (pp : Nat) : Fld := ⟨0x500008 + 0x1000 * pp, 0, 8⟩
/-- The address of DSP_STAT. -/
def DSP_STAT_A (pp : Nat) : Nat := 0x50000C + 0x1000 * pp
/-- DSP_STAT.CAPACITY [29:24], RO. -/
def DSP_STAT_CAPACITY (pp : Nat) : Fld := ⟨0x50000C + 0x1000 * pp, 24, 6⟩
/-- DSP_STAT.FILL [21:16], RO. -/
def DSP_STAT_FILL (pp : Nat) : Fld := ⟨0x50000C + 0x1000 * pp, 16, 6⟩
/-- DSP_STAT.LOCK_STATE [13:12], RO. -/
def DSP_STAT_LOCK_STATE (pp : Nat) : Fld := ⟨0x50000C + 0x1000 * pp, 12, 2⟩
/-- DSP_STAT.VBLANK [9:9], RO. -/
def DSP_STAT_VBLANK (pp : Nat) : Fld := ⟨0x50000C + 0x1000 * pp, 9, 1⟩
/-- DSP_STAT.LOW [8:8], RO. -/
def DSP_STAT_LOW (pp : Nat) : Fld := ⟨0x50000C + 0x1000 * pp, 8, 1⟩
/-- DSP_STAT.LOCK_CHG [5:5], W1C. -/
def DSP_STAT_LOCK_CHG (pp : Nat) : Fld := ⟨0x50000C + 0x1000 * pp, 5, 1⟩
/-- DSP_STAT.CFG_ERR [4:4], W1C. -/
def DSP_STAT_CFG_ERR (pp : Nat) : Fld := ⟨0x50000C + 0x1000 * pp, 4, 1⟩
/-- DSP_STAT.PROOF_FAIL [3:3], W1C. -/
def DSP_STAT_PROOF_FAIL (pp : Nat) : Fld := ⟨0x50000C + 0x1000 * pp, 3, 1⟩
/-- DSP_STAT.CURSOR_LATE [2:2], W1C. -/
def DSP_STAT_CURSOR_LATE (pp : Nat) : Fld := ⟨0x50000C + 0x1000 * pp, 2, 1⟩
/-- DSP_STAT.UNDERRUN [1:1], W1C. -/
def DSP_STAT_UNDERRUN (pp : Nat) : Fld := ⟨0x50000C + 0x1000 * pp, 1, 1⟩
/-- DSP_STAT.LATCHED [0:0], W1C. -/
def DSP_STAT_LATCHED (pp : Nat) : Fld := ⟨0x50000C + 0x1000 * pp, 0, 1⟩
/-- The address of DSP_IRQ. -/
def DSP_IRQ_A (pp : Nat) : Nat := 0x500010 + 0x1000 * pp
/-- DSP_IRQ.EN [5:0], RW. -/
def DSP_IRQ_EN (pp : Nat) : Fld := ⟨0x500010 + 0x1000 * pp, 0, 6⟩
/-- The address of DSP_FRAME. -/
def DSP_FRAME_A (pp : Nat) : Nat := 0x500014 + 0x1000 * pp
/-- DSP_FRAME.FRAME [31:0], RO. -/
def DSP_FRAME_FRAME (pp : Nat) : Fld := ⟨0x500014 + 0x1000 * pp, 0, 32⟩
/-- The address of DSP_LINE. -/
def DSP_LINE_A (pp : Nat) : Nat := 0x500018 + 0x1000 * pp
/-- DSP_LINE.LINE [11:0], RO. -/
def DSP_LINE_LINE (pp : Nat) : Fld := ⟨0x500018 + 0x1000 * pp, 0, 12⟩
/-- The address of DSP_H0. -/
def DSP_H0_A (pp : Nat) : Nat := 0x500020 + 0x1000 * pp
/-- DSP_H0.HTOTAL [31:16], RWS. -/
def DSP_H0_HTOTAL (pp : Nat) : Fld := ⟨0x500020 + 0x1000 * pp, 16, 16⟩
/-- DSP_H0.HACTIVE [15:0], RWS. -/
def DSP_H0_HACTIVE (pp : Nat) : Fld := ⟨0x500020 + 0x1000 * pp, 0, 16⟩
/-- The address of DSP_H1. -/
def DSP_H1_A (pp : Nat) : Nat := 0x500024 + 0x1000 * pp
/-- DSP_H1.HPOL [31:31], RWS. -/
def DSP_H1_HPOL (pp : Nat) : Fld := ⟨0x500024 + 0x1000 * pp, 31, 1⟩
/-- DSP_H1.HSYNC [30:16], RWS. -/
def DSP_H1_HSYNC (pp : Nat) : Fld := ⟨0x500024 + 0x1000 * pp, 16, 15⟩
/-- DSP_H1.HFP [15:0], RWS. -/
def DSP_H1_HFP (pp : Nat) : Fld := ⟨0x500024 + 0x1000 * pp, 0, 16⟩
/-- The address of DSP_V0. -/
def DSP_V0_A (pp : Nat) : Nat := 0x500028 + 0x1000 * pp
/-- DSP_V0.VTOTAL [31:16], RWS. -/
def DSP_V0_VTOTAL (pp : Nat) : Fld := ⟨0x500028 + 0x1000 * pp, 16, 16⟩
/-- DSP_V0.VACTIVE [15:0], RWS. -/
def DSP_V0_VACTIVE (pp : Nat) : Fld := ⟨0x500028 + 0x1000 * pp, 0, 16⟩
/-- The address of DSP_V1. -/
def DSP_V1_A (pp : Nat) : Nat := 0x50002C + 0x1000 * pp
/-- DSP_V1.VPOL [31:31], RWS. -/
def DSP_V1_VPOL (pp : Nat) : Fld := ⟨0x50002C + 0x1000 * pp, 31, 1⟩
/-- DSP_V1.VSYNC [30:16], RWS. -/
def DSP_V1_VSYNC (pp : Nat) : Fld := ⟨0x50002C + 0x1000 * pp, 16, 15⟩
/-- DSP_V1.VFP [15:0], RWS. -/
def DSP_V1_VFP (pp : Nat) : Fld := ⟨0x50002C + 0x1000 * pp, 0, 16⟩
/-- The address of DSP_PCLK. -/
def DSP_PCLK_A (pp : Nat) : Nat := 0x500030 + 0x1000 * pp
/-- DSP_PCLK.KHZ [19:0], RWS. -/
def DSP_PCLK_KHZ (pp : Nat) : Fld := ⟨0x500030 + 0x1000 * pp, 0, 20⟩
/-- The address of DSP_BASE_LO. -/
def DSP_BASE_LO_A (pp : Nat) : Nat := 0x500040 + 0x1000 * pp
/-- DSP_BASE_LO.ADDR_LO [31:8], RWS. -/
def DSP_BASE_LO_ADDR_LO (pp : Nat) : Fld := ⟨0x500040 + 0x1000 * pp, 8, 24⟩
/-- The address of DSP_BASE_HI. -/
def DSP_BASE_HI_A (pp : Nat) : Nat := 0x500044 + 0x1000 * pp
/-- DSP_BASE_HI.ADDR_HI [31:0], RWS. -/
def DSP_BASE_HI_ADDR_HI (pp : Nat) : Fld := ⟨0x500044 + 0x1000 * pp, 0, 32⟩
/-- The address of DSP_BASE_STRIDE. -/
def DSP_BASE_STRIDE_A (pp : Nat) : Nat := 0x500048 + 0x1000 * pp
/-- DSP_BASE_STRIDE.STRIDE [15:0], RWS. -/
def DSP_BASE_STRIDE_STRIDE (pp : Nat) : Fld := ⟨0x500048 + 0x1000 * pp, 0, 16⟩
/-- The address of DSP_OVL_LO. -/
def DSP_OVL_LO_A (pp : Nat) : Nat := 0x500050 + 0x1000 * pp
/-- DSP_OVL_LO.ADDR_LO [31:8], RWS. -/
def DSP_OVL_LO_ADDR_LO (pp : Nat) : Fld := ⟨0x500050 + 0x1000 * pp, 8, 24⟩
/-- The address of DSP_OVL_HI. -/
def DSP_OVL_HI_A (pp : Nat) : Nat := 0x500054 + 0x1000 * pp
/-- DSP_OVL_HI.ADDR_HI [31:0], RWS. -/
def DSP_OVL_HI_ADDR_HI (pp : Nat) : Fld := ⟨0x500054 + 0x1000 * pp, 0, 32⟩
/-- The address of DSP_OVL_STRIDE. -/
def DSP_OVL_STRIDE_A (pp : Nat) : Nat := 0x500058 + 0x1000 * pp
/-- DSP_OVL_STRIDE.STRIDE [15:0], RWS. -/
def DSP_OVL_STRIDE_STRIDE (pp : Nat) : Fld := ⟨0x500058 + 0x1000 * pp, 0, 16⟩
/-- The address of DSP_OVL_POS. -/
def DSP_OVL_POS_A (pp : Nat) : Nat := 0x50005C + 0x1000 * pp
/-- DSP_OVL_POS.Y [31:16], RWS. -/
def DSP_OVL_POS_Y (pp : Nat) : Fld := ⟨0x50005C + 0x1000 * pp, 16, 16⟩
/-- DSP_OVL_POS.X [15:0], RWS. -/
def DSP_OVL_POS_X (pp : Nat) : Fld := ⟨0x50005C + 0x1000 * pp, 0, 16⟩
/-- The address of DSP_OVL_SIZE. -/
def DSP_OVL_SIZE_A (pp : Nat) : Nat := 0x500060 + 0x1000 * pp
/-- DSP_OVL_SIZE.H [31:16], RWS. -/
def DSP_OVL_SIZE_H (pp : Nat) : Fld := ⟨0x500060 + 0x1000 * pp, 16, 16⟩
/-- DSP_OVL_SIZE.W [15:0], RWS. -/
def DSP_OVL_SIZE_W (pp : Nat) : Fld := ⟨0x500060 + 0x1000 * pp, 0, 16⟩
/-- The address of DSP_OVL_BLEND. -/
def DSP_OVL_BLEND_A (pp : Nat) : Nat := 0x500064 + 0x1000 * pp
/-- DSP_OVL_BLEND.FMT [8:8], RWS. -/
def DSP_OVL_BLEND_FMT (pp : Nat) : Fld := ⟨0x500064 + 0x1000 * pp, 8, 1⟩
/-- DSP_OVL_BLEND.GALPHA [7:0], RWS. -/
def DSP_OVL_BLEND_GALPHA (pp : Nat) : Fld := ⟨0x500064 + 0x1000 * pp, 0, 8⟩
/-- The address of DSP_CUR_LO. -/
def DSP_CUR_LO_A (pp : Nat) : Nat := 0x500070 + 0x1000 * pp
/-- DSP_CUR_LO.ADDR_LO [31:8], RWS. -/
def DSP_CUR_LO_ADDR_LO (pp : Nat) : Fld := ⟨0x500070 + 0x1000 * pp, 8, 24⟩
/-- The address of DSP_CUR_HI. -/
def DSP_CUR_HI_A (pp : Nat) : Nat := 0x500074 + 0x1000 * pp
/-- DSP_CUR_HI.ADDR_HI [31:0], RWS. -/
def DSP_CUR_HI_ADDR_HI (pp : Nat) : Fld := ⟨0x500074 + 0x1000 * pp, 0, 32⟩
/-- The address of DSP_CUR_POS. -/
def DSP_CUR_POS_A (pp : Nat) : Nat := 0x500078 + 0x1000 * pp
/-- DSP_CUR_POS.Y [31:16], RWS. -/
def DSP_CUR_POS_Y (pp : Nat) : Fld := ⟨0x500078 + 0x1000 * pp, 16, 16⟩
/-- DSP_CUR_POS.X [15:0], RWS. -/
def DSP_CUR_POS_X (pp : Nat) : Fld := ⟨0x500078 + 0x1000 * pp, 0, 16⟩
/-- The address of DSP_UCOLOR. -/
def DSP_UCOLOR_A (pp : Nat) : Nat := 0x500080 + 0x1000 * pp
/-- DSP_UCOLOR.COLOR [29:0], RW. -/
def DSP_UCOLOR_COLOR (pp : Nat) : Fld := ⟨0x500080 + 0x1000 * pp, 0, 30⟩
/-- The address of DSP_PCOLOR. -/
def DSP_PCOLOR_A (pp : Nat) : Nat := 0x500084 + 0x1000 * pp
/-- DSP_PCOLOR.COLOR [29:0], RW. -/
def DSP_PCOLOR_COLOR (pp : Nat) : Fld := ⟨0x500084 + 0x1000 * pp, 0, 30⟩
/-- The address of DSP_WM. -/
def DSP_WM_A (pp : Nat) : Nat := 0x500088 + 0x1000 * pp
/-- DSP_WM.LOW [12:8], RW. -/
def DSP_WM_LOW (pp : Nat) : Fld := ⟨0x500088 + 0x1000 * pp, 8, 5⟩
/-- DSP_WM.GUARD [4:0], RW. -/
def DSP_WM_GUARD (pp : Nat) : Fld := ⟨0x500088 + 0x1000 * pp, 0, 5⟩
/-- The address of DSP_FILLMIN. -/
def DSP_FILLMIN_A (pp : Nat) : Nat := 0x50008C + 0x1000 * pp
/-- DSP_FILLMIN.CLR [31:31], WO. -/
def DSP_FILLMIN_CLR (pp : Nat) : Fld := ⟨0x50008C + 0x1000 * pp, 31, 1⟩
/-- DSP_FILLMIN.MIN [5:0], RO. -/
def DSP_FILLMIN_MIN (pp : Nat) : Fld := ⟨0x50008C + 0x1000 * pp, 0, 6⟩
/-- The address of DSP_LOCK_PER. -/
def DSP_LOCK_PER_A (pp : Nat) : Nat := 0x500090 + 0x1000 * pp
/-- DSP_LOCK_PER.NS [31:0], RW. -/
def DSP_LOCK_PER_NS (pp : Nat) : Fld := ⟨0x500090 + 0x1000 * pp, 0, 32⟩
/-- The address of DSP_LOCK_PFRAC. -/
def DSP_LOCK_PFRAC_A (pp : Nat) : Nat := 0x500094 + 0x1000 * pp
/-- DSP_LOCK_PFRAC.FRAC [15:0], RW. -/
def DSP_LOCK_PFRAC_FRAC (pp : Nat) : Fld := ⟨0x500094 + 0x1000 * pp, 0, 16⟩
/-- The address of DSP_LOCK_PH. -/
def DSP_LOCK_PH_A (pp : Nat) : Nat := 0x500098 + 0x1000 * pp
/-- DSP_LOCK_PH.NS [31:0], RW. -/
def DSP_LOCK_PH_NS (pp : Nat) : Fld := ⟨0x500098 + 0x1000 * pp, 0, 32⟩
/-- The address of DSP_LOCK_CFG. -/
def DSP_LOCK_CFG_A (pp : Nat) : Nat := 0x50009C + 0x1000 * pp
/-- DSP_LOCK_CFG.MAXLINES [3:0], RW. -/
def DSP_LOCK_CFG_MAXLINES (pp : Nat) : Fld := ⟨0x50009C + 0x1000 * pp, 0, 4⟩
/-- The address of DSP_LOCK_ERR. -/
def DSP_LOCK_ERR_A (pp : Nat) : Nat := 0x5000A0 + 0x1000 * pp
/-- DSP_LOCK_ERR.ERR [31:0], RO. -/
def DSP_LOCK_ERR_ERR (pp : Nat) : Fld := ⟨0x5000A0 + 0x1000 * pp, 0, 32⟩
/-- The address of DSP_PR_POS. -/
def DSP_PR_POS_A (pp : Nat) (r : Nat) : Nat := 0x500400 + 0x1000 * pp + 0x20 * r
/-- DSP_PR_POS.Y [31:16], RWS. -/
def DSP_PR_POS_Y (pp : Nat) (r : Nat) : Fld := ⟨0x500400 + 0x1000 * pp + 0x20 * r, 16, 16⟩
/-- DSP_PR_POS.X [15:0], RWS. -/
def DSP_PR_POS_X (pp : Nat) (r : Nat) : Fld := ⟨0x500400 + 0x1000 * pp + 0x20 * r, 0, 16⟩
/-- The address of DSP_PR_SIZE. -/
def DSP_PR_SIZE_A (pp : Nat) (r : Nat) : Nat := 0x500404 + 0x1000 * pp + 0x20 * r
/-- DSP_PR_SIZE.H [31:16], RWS. -/
def DSP_PR_SIZE_H (pp : Nat) (r : Nat) : Fld := ⟨0x500404 + 0x1000 * pp + 0x20 * r, 16, 16⟩
/-- DSP_PR_SIZE.W [15:0], RWS. -/
def DSP_PR_SIZE_W (pp : Nat) (r : Nat) : Fld := ⟨0x500404 + 0x1000 * pp + 0x20 * r, 0, 16⟩
/-- The address of DSP_PR_CFG. -/
def DSP_PR_CFG_A (pp : Nat) (r : Nat) : Nat := 0x500408 + 0x1000 * pp + 0x20 * r
/-- DSP_PR_CFG.ACTION [1:0], RWS. -/
def DSP_PR_CFG_ACTION (pp : Nat) (r : Nat) : Fld := ⟨0x500408 + 0x1000 * pp + 0x20 * r, 0, 2⟩
/-- The address of DSP_PR_EXP. -/
def DSP_PR_EXP_A (pp : Nat) (r : Nat) : Nat := 0x50040C + 0x1000 * pp + 0x20 * r
/-- DSP_PR_EXP.EXP [31:0], RWS. -/
def DSP_PR_EXP_EXP (pp : Nat) (r : Nat) : Fld := ⟨0x50040C + 0x1000 * pp + 0x20 * r, 0, 32⟩
/-- The address of DSP_PR_CRC. -/
def DSP_PR_CRC_A (pp : Nat) (r : Nat) : Nat := 0x500410 + 0x1000 * pp + 0x20 * r
/-- DSP_PR_CRC.CRC [31:0], RO. -/
def DSP_PR_CRC_CRC (pp : Nat) (r : Nat) : Fld := ⟨0x500410 + 0x1000 * pp + 0x20 * r, 0, 32⟩
/-- The address of DSP_PR_RES. -/
def DSP_PR_RES_A (pp : Nat) (r : Nat) : Nat := 0x500414 + 0x1000 * pp + 0x20 * r
/-- DSP_PR_RES.FRAME [31:16], RO. -/
def DSP_PR_RES_FRAME (pp : Nat) (r : Nat) : Fld := ⟨0x500414 + 0x1000 * pp + 0x20 * r, 16, 16⟩
/-- DSP_PR_RES.MATCH [1:1], RO. -/
def DSP_PR_RES_MATCH (pp : Nat) (r : Nat) : Fld := ⟨0x500414 + 0x1000 * pp + 0x20 * r, 1, 1⟩
/-- DSP_PR_RES.VALID [0:0], RO. -/
def DSP_PR_RES_VALID (pp : Nat) (r : Nat) : Fld := ⟨0x500414 + 0x1000 * pp + 0x20 * r, 0, 1⟩
/-- The address of DSP_PR_MIS. -/
def DSP_PR_MIS_A (pp : Nat) (r : Nat) : Nat := 0x500418 + 0x1000 * pp + 0x20 * r
/-- DSP_PR_MIS.CLR [31:31], WO. -/
def DSP_PR_MIS_CLR (pp : Nat) (r : Nat) : Fld := ⟨0x500418 + 0x1000 * pp + 0x20 * r, 31, 1⟩
/-- DSP_PR_MIS.MISMATCHES [15:0], RO. -/
def DSP_PR_MIS_MISMATCHES (pp : Nat) (r : Nat) : Fld := ⟨0x500418 + 0x1000 * pp + 0x20 * r, 0, 16⟩
/-- The address of DPO_CTRL. -/
def DPO_CTRL_A (k : Nat) : Nat := 0x510000 + 0x100 * k
/-- DPO_CTRL.RETRAIN [10:10], WO. -/
def DPO_CTRL_RETRAIN (k : Nat) : Fld := ⟨0x510000 + 0x100 * k, 10, 1⟩
/-- DPO_CTRL.SSC [9:9], RW. -/
def DPO_CTRL_SSC (k : Nat) : Fld := ⟨0x510000 + 0x100 * k, 9, 1⟩
/-- DPO_CTRL.BPC [8:8], RW. -/
def DPO_CTRL_BPC (k : Nat) : Fld := ⟨0x510000 + 0x100 * k, 8, 1⟩
/-- DPO_CTRL.MAX_LANES [7:6], RW. -/
def DPO_CTRL_MAX_LANES (k : Nat) : Fld := ⟨0x510000 + 0x100 * k, 6, 2⟩
/-- DPO_CTRL.MAX_RATE [5:4], RW. -/
def DPO_CTRL_MAX_RATE (k : Nat) : Fld := ⟨0x510000 + 0x100 * k, 4, 2⟩
/-- DPO_CTRL.SRC [2:1], RW. -/
def DPO_CTRL_SRC (k : Nat) : Fld := ⟨0x510000 + 0x100 * k, 1, 2⟩
/-- DPO_CTRL.EN [0:0], RW. -/
def DPO_CTRL_EN (k : Nat) : Fld := ⟨0x510000 + 0x100 * k, 0, 1⟩
/-- The address of DPO_STAT. -/
def DPO_STAT_A (k : Nat) : Nat := 0x510004 + 0x100 * k
/-- DPO_STAT.BW_SHORT [10:10], W1C. -/
def DPO_STAT_BW_SHORT (k : Nat) : Fld := ⟨0x510004 + 0x100 * k, 10, 1⟩
/-- DPO_STAT.IRQ_HPD [9:9], W1C. -/
def DPO_STAT_IRQ_HPD (k : Nat) : Fld := ⟨0x510004 + 0x100 * k, 9, 1⟩
/-- DPO_STAT.LINK_LOSS [8:8], W1C. -/
def DPO_STAT_LINK_LOSS (k : Nat) : Fld := ⟨0x510004 + 0x100 * k, 8, 1⟩
/-- DPO_STAT.LANES [7:6], RO. -/
def DPO_STAT_LANES (k : Nat) : Fld := ⟨0x510004 + 0x100 * k, 6, 2⟩
/-- DPO_STAT.RATE [5:4], RO. -/
def DPO_STAT_RATE (k : Nat) : Fld := ⟨0x510004 + 0x100 * k, 4, 2⟩
/-- DPO_STAT.VIDEO [2:2], RO. -/
def DPO_STAT_VIDEO (k : Nat) : Fld := ⟨0x510004 + 0x100 * k, 2, 1⟩
/-- DPO_STAT.TRAINED [1:1], RO. -/
def DPO_STAT_TRAINED (k : Nat) : Fld := ⟨0x510004 + 0x100 * k, 1, 1⟩
/-- DPO_STAT.HPD [0:0], RO. -/
def DPO_STAT_HPD (k : Nat) : Fld := ⟨0x510004 + 0x100 * k, 0, 1⟩
/-- The address of DPO_AUXCMD. -/
def DPO_AUXCMD_A (k : Nat) : Nat := 0x510010 + 0x100 * k
/-- DPO_AUXCMD.START [31:31], WO. -/
def DPO_AUXCMD_START (k : Nat) : Fld := ⟨0x510010 + 0x100 * k, 31, 1⟩
/-- DPO_AUXCMD.CMD [30:28], RW. -/
def DPO_AUXCMD_CMD (k : Nat) : Fld := ⟨0x510010 + 0x100 * k, 28, 3⟩
/-- DPO_AUXCMD.LEN [27:24], RW. -/
def DPO_AUXCMD_LEN (k : Nat) : Fld := ⟨0x510010 + 0x100 * k, 24, 4⟩
/-- DPO_AUXCMD.ADDR [19:0], RW. -/
def DPO_AUXCMD_ADDR (k : Nat) : Fld := ⟨0x510010 + 0x100 * k, 0, 20⟩
/-- The address of DPO_AUXSTAT. -/
def DPO_AUXSTAT_A (k : Nat) : Nat := 0x510014 + 0x100 * k
/-- DPO_AUXSTAT.COUNT [8:4], RO. -/
def DPO_AUXSTAT_COUNT (k : Nat) : Fld := ⟨0x510014 + 0x100 * k, 4, 5⟩
/-- DPO_AUXSTAT.REPLY [3:1], RO. -/
def DPO_AUXSTAT_REPLY (k : Nat) : Fld := ⟨0x510014 + 0x100 * k, 1, 3⟩
/-- DPO_AUXSTAT.BUSY [0:0], RO. -/
def DPO_AUXSTAT_BUSY (k : Nat) : Fld := ⟨0x510014 + 0x100 * k, 0, 1⟩
/-- The address of DPO_AUXDATA. -/
def DPO_AUXDATA_A (k : Nat) (j : Nat) : Nat := 0x510020 + 0x100 * k + 0x4 * j
/-- DPO_AUXDATA.DATA [31:0], RW. -/
def DPO_AUXDATA_DATA (k : Nat) (j : Nat) : Fld := ⟨0x510020 + 0x100 * k + 0x4 * j, 0, 32⟩
/-- The address of USBH_CTRL. -/
def USBH_CTRL_A : Nat := 0x600000
/-- USBH_CTRL.MOD_US [23:16], RW. -/
def USBH_CTRL_MOD_US : Fld := ⟨0x600000, 16, 8⟩
/-- USBH_CTRL.IRQ_EN [1:1], RW. -/
def USBH_CTRL_IRQ_EN : Fld := ⟨0x600000, 1, 1⟩
/-- USBH_CTRL.EN [0:0], RW. -/
def USBH_CTRL_EN : Fld := ⟨0x600000, 0, 1⟩
/-- The address of USBH_STAT. -/
def USBH_STAT_A : Nat := 0x600004
/-- USBH_STAT.CTX_USED [24:16], RO. -/
def USBH_STAT_CTX_USED : Fld := ⟨0x600004, 16, 9⟩
/-- USBH_STAT.PORT_EVT [7:0], RO. -/
def USBH_STAT_PORT_EVT : Fld := ⟨0x600004, 0, 8⟩
/-- The address of USBH_FRAME. -/
def USBH_FRAME_A : Nat := 0x600008
/-- USBH_FRAME.MICRO [13:11], RO. -/
def USBH_FRAME_MICRO : Fld := ⟨0x600008, 11, 3⟩
/-- USBH_FRAME.FRNUM [10:0], RO. -/
def USBH_FRAME_FRNUM : Fld := ⟨0x600008, 0, 11⟩
/-- The address of USBH_PCB_LO. -/
def USBH_PCB_LO_A : Nat := 0x600010
/-- USBH_PCB_LO.ADDR_LO [31:12], RW. -/
def USBH_PCB_LO_ADDR_LO : Fld := ⟨0x600010, 12, 20⟩
/-- The address of USBH_PCB_HI. -/
def USBH_PCB_HI_A : Nat := 0x600014
/-- USBH_PCB_HI.ADDR_HI [31:0], RW. -/
def USBH_PCB_HI_ADDR_HI : Fld := ⟨0x600014, 0, 32⟩
/-- The address of USBH_KICK. -/
def USBH_KICK_A : Nat := 0x600018
/-- USBH_KICK.PORTS [7:0], WO. -/
def USBH_KICK_PORTS : Fld := ⟨0x600018, 0, 8⟩
/-- The address of USBH_PORT_CTRL. -/
def USBH_PORT_CTRL_A (n : Nat) : Nat := 0x600100 + 0x10 * n
/-- USBH_PORT_CTRL.RING_EN [7:7], RW. -/
def USBH_PORT_CTRL_RING_EN (n : Nat) : Fld := ⟨0x600100 + 0x10 * n, 7, 1⟩
/-- USBH_PORT_CTRL.WAKE_EN [6:6], RW. -/
def USBH_PORT_CTRL_WAKE_EN (n : Nat) : Fld := ⟨0x600100 + 0x10 * n, 6, 1⟩
/-- USBH_PORT_CTRL.POWER [5:5], RW. -/
def USBH_PORT_CTRL_POWER (n : Nat) : Fld := ⟨0x600100 + 0x10 * n, 5, 1⟩
/-- USBH_PORT_CTRL.RESUME [3:3], WO. -/
def USBH_PORT_CTRL_RESUME (n : Nat) : Fld := ⟨0x600100 + 0x10 * n, 3, 1⟩
/-- USBH_PORT_CTRL.SUSPEND [2:2], WO. -/
def USBH_PORT_CTRL_SUSPEND (n : Nat) : Fld := ⟨0x600100 + 0x10 * n, 2, 1⟩
/-- USBH_PORT_CTRL.DISABLE [1:1], WO. -/
def USBH_PORT_CTRL_DISABLE (n : Nat) : Fld := ⟨0x600100 + 0x10 * n, 1, 1⟩
/-- USBH_PORT_CTRL.RESET [0:0], WO. -/
def USBH_PORT_CTRL_RESET (n : Nat) : Fld := ⟨0x600100 + 0x10 * n, 0, 1⟩
/-- The address of USBH_PORT_STAT. -/
def USBH_PORT_STAT_A (n : Nat) : Nat := 0x600104 + 0x10 * n
/-- USBH_PORT_STAT.BABBLE_EOF [15:15], W1C. -/
def USBH_PORT_STAT_BABBLE_EOF (n : Nat) : Fld := ⟨0x600104 + 0x10 * n, 15, 1⟩
/-- USBH_PORT_STAT.WAKE_SEEN [14:14], W1C. -/
def USBH_PORT_STAT_WAKE_SEEN (n : Nat) : Fld := ⟨0x600104 + 0x10 * n, 14, 1⟩
/-- USBH_PORT_STAT.C_OVERCURRENT [13:13], W1C. -/
def USBH_PORT_STAT_C_OVERCURRENT (n : Nat) : Fld := ⟨0x600104 + 0x10 * n, 13, 1⟩
/-- USBH_PORT_STAT.C_RESET [12:12], W1C. -/
def USBH_PORT_STAT_C_RESET (n : Nat) : Fld := ⟨0x600104 + 0x10 * n, 12, 1⟩
/-- USBH_PORT_STAT.C_PORT_SUSPEND [11:11], W1C. -/
def USBH_PORT_STAT_C_PORT_SUSPEND (n : Nat) : Fld := ⟨0x600104 + 0x10 * n, 11, 1⟩
/-- USBH_PORT_STAT.C_ENABLE [10:10], W1C. -/
def USBH_PORT_STAT_C_ENABLE (n : Nat) : Fld := ⟨0x600104 + 0x10 * n, 10, 1⟩
/-- USBH_PORT_STAT.C_CONNECT [9:9], W1C. -/
def USBH_PORT_STAT_C_CONNECT (n : Nat) : Fld := ⟨0x600104 + 0x10 * n, 9, 1⟩
/-- USBH_PORT_STAT.RESUMING [7:7], RO. -/
def USBH_PORT_STAT_RESUMING (n : Nat) : Fld := ⟨0x600104 + 0x10 * n, 7, 1⟩
/-- USBH_PORT_STAT.RESETTING [6:6], RO. -/
def USBH_PORT_STAT_RESETTING (n : Nat) : Fld := ⟨0x600104 + 0x10 * n, 6, 1⟩
/-- USBH_PORT_STAT.SPEED [5:4], RO. -/
def USBH_PORT_STAT_SPEED (n : Nat) : Fld := ⟨0x600104 + 0x10 * n, 4, 2⟩
/-- USBH_PORT_STAT.OVERCURRENT [3:3], RO. -/
def USBH_PORT_STAT_OVERCURRENT (n : Nat) : Fld := ⟨0x600104 + 0x10 * n, 3, 1⟩
/-- USBH_PORT_STAT.SUSPENDED [2:2], RO. -/
def USBH_PORT_STAT_SUSPENDED (n : Nat) : Fld := ⟨0x600104 + 0x10 * n, 2, 1⟩
/-- USBH_PORT_STAT.ENABLED [1:1], RO. -/
def USBH_PORT_STAT_ENABLED (n : Nat) : Fld := ⟨0x600104 + 0x10 * n, 1, 1⟩
/-- USBH_PORT_STAT.CONNECT [0:0], RO. -/
def USBH_PORT_STAT_CONNECT (n : Nat) : Fld := ⟨0x600104 + 0x10 * n, 0, 1⟩
/-- The address of USBH_PORT_SEQ. -/
def USBH_PORT_SEQ_A (n : Nat) : Nat := 0x600108 + 0x10 * n
/-- USBH_PORT_SEQ.BSEQ [31:16], RO. -/
def USBH_PORT_SEQ_BSEQ (n : Nat) : Fld := ⟨0x600108 + 0x10 * n, 16, 16⟩
/-- USBH_PORT_SEQ.REL [15:0], RO. -/
def USBH_PORT_SEQ_REL (n : Nat) : Fld := ⟨0x600108 + 0x10 * n, 0, 16⟩
/-- The address of USBH_PORT_RING. -/
def USBH_PORT_RING_A (n : Nat) : Nat := 0x60010C + 0x10 * n
/-- USBH_PORT_RING.OUTSTANDING [28:16], RO. -/
def USBH_PORT_RING_OUTSTANDING (n : Nat) : Fld := ⟨0x60010C + 0x10 * n, 16, 13⟩
/-- USBH_PORT_RING.RING_LOG2 [3:0], RO. -/
def USBH_PORT_RING_RING_LOG2 (n : Nat) : Fld := ⟨0x60010C + 0x10 * n, 0, 4⟩
/-- The address of USBS_CTRL. -/
def USBS_CTRL_A : Nat := 0x610000
/-- USBS_CTRL.WAKE_ALLOW [2:2], RW. -/
def USBS_CTRL_WAKE_ALLOW : Fld := ⟨0x610000, 2, 1⟩
/-- USBS_CTRL.HS_EN [1:1], RW. -/
def USBS_CTRL_HS_EN : Fld := ⟨0x610000, 1, 1⟩
/-- USBS_CTRL.EN [0:0], RW. -/
def USBS_CTRL_EN : Fld := ⟨0x610000, 0, 1⟩
/-- The address of USBS_STAT. -/
def USBS_STAT_A : Nat := 0x610004
/-- USBS_STAT.ABANDONED [17:17], W1C. -/
def USBS_STAT_ABANDONED : Fld := ⟨0x610004, 17, 1⟩
/-- USBS_STAT.BUS_RESET [16:16], W1C. -/
def USBS_STAT_BUS_RESET : Fld := ⟨0x610004, 16, 1⟩
/-- USBS_STAT.ADDRESS [14:8], RO. -/
def USBS_STAT_ADDRESS : Fld := ⟨0x610004, 8, 7⟩
/-- USBS_STAT.VBUS [6:6], RO. -/
def USBS_STAT_VBUS : Fld := ⟨0x610004, 6, 1⟩
/-- USBS_STAT.HS [5:5], RO. -/
def USBS_STAT_HS : Fld := ⟨0x610004, 5, 1⟩
/-- USBS_STAT.RWAKE_EN [4:4], RO. -/
def USBS_STAT_RWAKE_EN : Fld := ⟨0x610004, 4, 1⟩
/-- USBS_STAT.SUSPENDED [3:3], RO. -/
def USBS_STAT_SUSPENDED : Fld := ⟨0x610004, 3, 1⟩
/-- USBS_STAT.STATE [2:0], RO. -/
def USBS_STAT_STATE : Fld := ⟨0x610004, 0, 3⟩
/-- The address of USBS_WAKE. -/
def USBS_WAKE_A : Nat := 0x610008
/-- USBS_WAKE.DELIVERED [31:16], RO. -/
def USBS_WAKE_DELIVERED : Fld := ⟨0x610008, 16, 16⟩
/-- USBS_WAKE.COLLIDED [15:0], RO. -/
def USBS_WAKE_COLLIDED : Fld := ⟨0x610008, 0, 16⟩
/-- The address of USBMEM_FREE. -/
def USBMEM_FREE_A : Nat := 0x620000
/-- USBMEM_FREE.FREE [12:0], RO. -/
def USBMEM_FREE_FREE : Fld := ⟨0x620000, 0, 13⟩
/-- The address of USBMEM_ALLOC. -/
def USBMEM_ALLOC_A : Nat := 0x620004
/-- USBMEM_ALLOC.ALLOCATED [12:0], RO. -/
def USBMEM_ALLOC_ALLOCATED : Fld := ⟨0x620004, 0, 13⟩
/-- The address of USBMEM_CTX. -/
def USBMEM_CTX_A (c : Nat) : Nat := 0x620100 + 0x4 * c
/-- USBMEM_CTX.VALID [31:31], RO. -/
def USBMEM_CTX_VALID (c : Nat) : Fld := ⟨0x620100 + 0x4 * c, 31, 1⟩
/-- USBMEM_CTX.PORT [30:28], RO. -/
def USBMEM_CTX_PORT (c : Nat) : Fld := ⟨0x620100 + 0x4 * c, 28, 3⟩
/-- USBMEM_CTX.OFF [27:16], RO. -/
def USBMEM_CTX_OFF (c : Nat) : Fld := ⟨0x620100 + 0x4 * c, 16, 12⟩
/-- USBMEM_CTX.SIZE [10:0], RO. -/
def USBMEM_CTX_SIZE (c : Nat) : Fld := ⟨0x620100 + 0x4 * c, 0, 11⟩
/-- The address of ETH_CTRL. -/
def ETH_CTRL_A (n : Nat) : Nat := 0x700000 + 0x1000 * n
/-- ETH_CTRL.STRIP [9:9], RW. -/
def ETH_CTRL_STRIP (n : Nat) : Fld := ⟨0x700000 + 0x1000 * n, 9, 1⟩
/-- ETH_CTRL.INSERT [8:8], RW. -/
def ETH_CTRL_INSERT (n : Nat) : Fld := ⟨0x700000 + 0x1000 * n, 8, 1⟩
/-- ETH_CTRL.PAUSE_RX [7:7], RW. -/
def ETH_CTRL_PAUSE_RX (n : Nat) : Fld := ⟨0x700000 + 0x1000 * n, 7, 1⟩
/-- ETH_CTRL.FEC [6:6], RW. -/
def ETH_CTRL_FEC (n : Nat) : Fld := ⟨0x700000 + 0x1000 * n, 6, 1⟩
/-- ETH_CTRL.MODE [5:4], RW. -/
def ETH_CTRL_MODE (n : Nat) : Fld := ⟨0x700000 + 0x1000 * n, 4, 2⟩
/-- ETH_CTRL.POINT_EN [3:3], RW. -/
def ETH_CTRL_POINT_EN (n : Nat) : Fld := ⟨0x700000 + 0x1000 * n, 3, 1⟩
/-- ETH_CTRL.EN [0:0], RW. -/
def ETH_CTRL_EN (n : Nat) : Fld := ⟨0x700000 + 0x1000 * n, 0, 1⟩
/-- The address of ETH_STAT. -/
def ETH_STAT_A (n : Nat) : Nat := 0x700004 + 0x1000 * n
/-- ETH_STAT.SPEED [5:4], RO. -/
def ETH_STAT_SPEED (n : Nat) : Fld := ⟨0x700004 + 0x1000 * n, 4, 2⟩
/-- ETH_STAT.FEC_LOCK [3:3], RO. -/
def ETH_STAT_FEC_LOCK (n : Nat) : Fld := ⟨0x700004 + 0x1000 * n, 3, 1⟩
/-- ETH_STAT.LOCAL_FAULT [2:2], RO. -/
def ETH_STAT_LOCAL_FAULT (n : Nat) : Fld := ⟨0x700004 + 0x1000 * n, 2, 1⟩
/-- ETH_STAT.REMOTE_FAULT [1:1], RO. -/
def ETH_STAT_REMOTE_FAULT (n : Nat) : Fld := ⟨0x700004 + 0x1000 * n, 1, 1⟩
/-- ETH_STAT.LINK [0:0], RO. -/
def ETH_STAT_LINK (n : Nat) : Fld := ⟨0x700004 + 0x1000 * n, 0, 1⟩
/-- The address of ETH_VLAN. -/
def ETH_VLAN_A (n : Nat) : Nat := 0x700008 + 0x1000 * n
/-- ETH_VLAN.TPID2 [31:16], RW. -/
def ETH_VLAN_TPID2 (n : Nat) : Fld := ⟨0x700008 + 0x1000 * n, 16, 16⟩
/-- ETH_VLAN.PRIO [15:13], RW. -/
def ETH_VLAN_PRIO (n : Nat) : Fld := ⟨0x700008 + 0x1000 * n, 13, 3⟩
/-- ETH_VLAN.PVID [11:0], RW. -/
def ETH_VLAN_PVID (n : Nat) : Fld := ⟨0x700008 + 0x1000 * n, 0, 12⟩
/-- The address of ETH_PCPMAP. -/
def ETH_PCPMAP_A (n : Nat) : Nat := 0x70000C + 0x1000 * n
/-- ETH_PCPMAP.MAP [23:0], RW. -/
def ETH_PCPMAP_MAP (n : Nat) : Fld := ⟨0x70000C + 0x1000 * n, 0, 24⟩
/-- The address of ETH_PTP. -/
def ETH_PTP_A (n : Nat) : Nat := 0x700010 + 0x1000 * n
/-- ETH_PTP.LOST [31:16], RO. -/
def ETH_PTP_LOST (n : Nat) : Fld := ⟨0x700010 + 0x1000 * n, 16, 16⟩
/-- ETH_PTP.LEVEL [14:8], RO. -/
def ETH_PTP_LEVEL (n : Nat) : Fld := ⟨0x700010 + 0x1000 * n, 8, 7⟩
/-- ETH_PTP.ONESTEP [3:3], RW. -/
def ETH_PTP_ONESTEP (n : Nat) : Fld := ⟨0x700010 + 0x1000 * n, 3, 1⟩
/-- ETH_PTP.MODE [2:1], RW. -/
def ETH_PTP_MODE (n : Nat) : Fld := ⟨0x700010 + 0x1000 * n, 1, 2⟩
/-- ETH_PTP.CLR_LOST [0:0], WO. -/
def ETH_PTP_CLR_LOST (n : Nat) : Fld := ⟨0x700010 + 0x1000 * n, 0, 1⟩
/-- The address of ETH_ASYM. -/
def ETH_ASYM_A (n : Nat) : Nat := 0x700014 + 0x1000 * n
/-- ETH_ASYM.TX_DELAY [31:16], RW. -/
def ETH_ASYM_TX_DELAY (n : Nat) : Fld := ⟨0x700014 + 0x1000 * n, 16, 16⟩
/-- ETH_ASYM.RX_DELAY [15:0], RW. -/
def ETH_ASYM_RX_DELAY (n : Nat) : Fld := ⟨0x700014 + 0x1000 * n, 0, 16⟩
/-- The address of ETH_DEFTID. -/
def ETH_DEFTID_A (n : Nat) : Nat := 0x700018 + 0x1000 * n
/-- ETH_DEFTID.VALID [31:31], RW. -/
def ETH_DEFTID_VALID (n : Nat) : Fld := ⟨0x700018 + 0x1000 * n, 31, 1⟩
/-- ETH_DEFTID.TID [9:0], RW. -/
def ETH_DEFTID_TID (n : Nat) : Fld := ⟨0x700018 + 0x1000 * n, 0, 10⟩
/-- The address of ETH_TSF0. -/
def ETH_TSF0_A (n : Nat) : Nat := 0x700020 + 0x1000 * n
/-- ETH_TSF0.SEC_LO [31:0], RO. -/
def ETH_TSF0_SEC_LO (n : Nat) : Fld := ⟨0x700020 + 0x1000 * n, 0, 32⟩
/-- The address of ETH_TSF1. -/
def ETH_TSF1_A (n : Nat) : Nat := 0x700024 + 0x1000 * n
/-- ETH_TSF1.SEQ_ID [31:16], RO. -/
def ETH_TSF1_SEQ_ID (n : Nat) : Fld := ⟨0x700024 + 0x1000 * n, 16, 16⟩
/-- ETH_TSF1.SEC_HI [15:0], RO. -/
def ETH_TSF1_SEC_HI (n : Nat) : Fld := ⟨0x700024 + 0x1000 * n, 0, 16⟩
/-- The address of ETH_TSF2. -/
def ETH_TSF2_A (n : Nat) : Nat := 0x700028 + 0x1000 * n
/-- ETH_TSF2.VALID [31:31], RO. -/
def ETH_TSF2_VALID (n : Nat) : Fld := ⟨0x700028 + 0x1000 * n, 31, 1⟩
/-- ETH_TSF2.DIR [30:30], RO. -/
def ETH_TSF2_DIR (n : Nat) : Fld := ⟨0x700028 + 0x1000 * n, 30, 1⟩
/-- ETH_TSF2.NSEC [29:0], RO. -/
def ETH_TSF2_NSEC (n : Nat) : Fld := ⟨0x700028 + 0x1000 * n, 0, 30⟩
/-- The address of ETH_TSF3. -/
def ETH_TSF3_A (n : Nat) : Nat := 0x70002C + 0x1000 * n
/-- ETH_TSF3.FRAC [31:16], RO. -/
def ETH_TSF3_FRAC (n : Nat) : Fld := ⟨0x70002C + 0x1000 * n, 16, 16⟩
/-- ETH_TSF3.MSG_TYPE [15:12], RO. -/
def ETH_TSF3_MSG_TYPE (n : Nat) : Fld := ⟨0x70002C + 0x1000 * n, 12, 4⟩
/-- ETH_TSF3.DOMAIN [7:0], RO. -/
def ETH_TSF3_DOMAIN (n : Nat) : Fld := ⟨0x70002C + 0x1000 * n, 0, 8⟩
/-- The address of ETH_GCTL. -/
def ETH_GCTL_A (n : Nat) : Nat := 0x700040 + 0x1000 * n
/-- ETH_GCTL.COMMIT [31:31], WO. -/
def ETH_GCTL_COMMIT (n : Nat) : Fld := ⟨0x700040 + 0x1000 * n, 31, 1⟩
/-- ETH_GCTL.PENDING [30:30], RO. -/
def ETH_GCTL_PENDING (n : Nat) : Fld := ⟨0x700040 + 0x1000 * n, 30, 1⟩
/-- ETH_GCTL.WAIT [29:29], RO. -/
def ETH_GCTL_WAIT (n : Nat) : Fld := ⟨0x700040 + 0x1000 * n, 29, 1⟩
/-- ETH_GCTL.GATE_EN [28:28], RW. -/
def ETH_GCTL_GATE_EN (n : Nat) : Fld := ⟨0x700040 + 0x1000 * n, 28, 1⟩
/-- ETH_GCTL.ENTRY [13:8], RO. -/
def ETH_GCTL_ENTRY (n : Nat) : Fld := ⟨0x700040 + 0x1000 * n, 8, 6⟩
/-- ETH_GCTL.LEN [6:0], RWS. -/
def ETH_GCTL_LEN (n : Nat) : Fld := ⟨0x700040 + 0x1000 * n, 0, 7⟩
/-- The address of ETH_GCYCLE. -/
def ETH_GCYCLE_A (n : Nat) : Nat := 0x700044 + 0x1000 * n
/-- ETH_GCYCLE.CYCLE_NS [31:0], RWS. -/
def ETH_GCYCLE_CYCLE_NS (n : Nat) : Fld := ⟨0x700044 + 0x1000 * n, 0, 32⟩
/-- The address of ETH_GBASE_SL. -/
def ETH_GBASE_SL_A (n : Nat) : Nat := 0x700048 + 0x1000 * n
/-- ETH_GBASE_SL.SEC_LO [31:0], RWS. -/
def ETH_GBASE_SL_SEC_LO (n : Nat) : Fld := ⟨0x700048 + 0x1000 * n, 0, 32⟩
/-- The address of ETH_GBASE_SH. -/
def ETH_GBASE_SH_A (n : Nat) : Nat := 0x70004C + 0x1000 * n
/-- ETH_GBASE_SH.SEC_HI [15:0], RWS. -/
def ETH_GBASE_SH_SEC_HI (n : Nat) : Fld := ⟨0x70004C + 0x1000 * n, 0, 16⟩
/-- The address of ETH_GBASE_NS. -/
def ETH_GBASE_NS_A (n : Nat) : Nat := 0x700050 + 0x1000 * n
/-- ETH_GBASE_NS.NSEC [29:0], RWS. -/
def ETH_GBASE_NS_NSEC (n : Nat) : Fld := ⟨0x700050 + 0x1000 * n, 0, 30⟩
/-- The address of ETH_GCHG_SL. -/
def ETH_GCHG_SL_A (n : Nat) : Nat := 0x700054 + 0x1000 * n
/-- ETH_GCHG_SL.SEC_LO [31:0], RO. -/
def ETH_GCHG_SL_SEC_LO (n : Nat) : Fld := ⟨0x700054 + 0x1000 * n, 0, 32⟩
/-- The address of ETH_GCHG_SH. -/
def ETH_GCHG_SH_A (n : Nat) : Nat := 0x700058 + 0x1000 * n
/-- ETH_GCHG_SH.SEC_HI [15:0], RO. -/
def ETH_GCHG_SH_SEC_HI (n : Nat) : Fld := ⟨0x700058 + 0x1000 * n, 0, 16⟩
/-- The address of ETH_GCHG_NS. -/
def ETH_GCHG_NS_A (n : Nat) : Nat := 0x70005C + 0x1000 * n
/-- ETH_GCHG_NS.NSEC [29:0], RO. -/
def ETH_GCHG_NS_NSEC (n : Nat) : Fld := ⟨0x70005C + 0x1000 * n, 0, 30⟩
/-- The address of ETH_CLS_A. -/
def ETH_CLS_A_A (n : Nat) (k : Nat) : Nat := 0x700100 + 0x1000 * n + 0x10 * k
/-- ETH_CLS_A.VALID [31:31], RW. -/
def ETH_CLS_A_VALID (n : Nat) (k : Nat) : Fld := ⟨0x700100 + 0x1000 * n + 0x10 * k, 31, 1⟩
/-- ETH_CLS_A.VMATCH [30:29], RW. -/
def ETH_CLS_A_VMATCH (n : Nat) (k : Nat) : Fld := ⟨0x700100 + 0x1000 * n + 0x10 * k, 29, 2⟩
/-- ETH_CLS_A.MAC_EN [28:28], RW. -/
def ETH_CLS_A_MAC_EN (n : Nat) (k : Nat) : Fld := ⟨0x700100 + 0x1000 * n + 0x10 * k, 28, 1⟩
/-- ETH_CLS_A.VID [27:16], RW. -/
def ETH_CLS_A_VID (n : Nat) (k : Nat) : Fld := ⟨0x700100 + 0x1000 * n + 0x10 * k, 16, 12⟩
/-- ETH_CLS_A.TID [9:0], RW. -/
def ETH_CLS_A_TID (n : Nat) (k : Nat) : Fld := ⟨0x700100 + 0x1000 * n + 0x10 * k, 0, 10⟩
/-- The address of ETH_CLS_B. -/
def ETH_CLS_B_A (n : Nat) (k : Nat) : Nat := 0x700104 + 0x1000 * n + 0x10 * k
/-- ETH_CLS_B.MAC_LO [31:0], RW. -/
def ETH_CLS_B_MAC_LO (n : Nat) (k : Nat) : Fld := ⟨0x700104 + 0x1000 * n + 0x10 * k, 0, 32⟩
/-- The address of ETH_CLS_C. -/
def ETH_CLS_C_A (n : Nat) (k : Nat) : Nat := 0x700108 + 0x1000 * n + 0x10 * k
/-- ETH_CLS_C.MAC_HI [15:0], RW. -/
def ETH_CLS_C_MAC_HI (n : Nat) (k : Nat) : Fld := ⟨0x700108 + 0x1000 * n + 0x10 * k, 0, 16⟩
/-- The address of ETH_GADM. -/
def ETH_GADM_A (n : Nat) (i : Nat) : Nat := 0x700400 + 0x1000 * n + 0x4 * i
/-- ETH_GADM.GATES [31:24], RWS. -/
def ETH_GADM_GATES (n : Nat) (i : Nat) : Fld := ⟨0x700400 + 0x1000 * n + 0x4 * i, 24, 8⟩
/-- ETH_GADM.INTERVAL [23:0], RWS. -/
def ETH_GADM_INTERVAL (n : Nat) (i : Nat) : Fld := ⟨0x700400 + 0x1000 * n + 0x4 * i, 0, 24⟩
/-- The address of ETH_GOPR. -/
def ETH_GOPR_A (n : Nat) (i : Nat) : Nat := 0x700500 + 0x1000 * n + 0x4 * i
/-- ETH_GOPR.GATES [31:24], RO. -/
def ETH_GOPR_GATES (n : Nat) (i : Nat) : Fld := ⟨0x700500 + 0x1000 * n + 0x4 * i, 24, 8⟩
/-- ETH_GOPR.INTERVAL [23:0], RO. -/
def ETH_GOPR_INTERVAL (n : Nat) (i : Nat) : Fld := ⟨0x700500 + 0x1000 * n + 0x4 * i, 0, 24⟩
/-- The address of ETH_VNIC_CTRL. -/
def ETH_VNIC_CTRL_A : Nat := 0x708000
/-- ETH_VNIC_CTRL.POLL_US [23:16], RW. -/
def ETH_VNIC_CTRL_POLL_US : Fld := ⟨0x708000, 16, 8⟩
/-- ETH_VNIC_CTRL.MOD_US [15:8], RW. -/
def ETH_VNIC_CTRL_MOD_US : Fld := ⟨0x708000, 8, 8⟩
/-- ETH_VNIC_CTRL.EN [7:0], RW. -/
def ETH_VNIC_CTRL_EN : Fld := ⟨0x708000, 0, 8⟩
/-- The address of ETH_VNIC_CB_LO. -/
def ETH_VNIC_CB_LO_A : Nat := 0x708004
/-- ETH_VNIC_CB_LO.ADDR_LO [31:12], RW. -/
def ETH_VNIC_CB_LO_ADDR_LO : Fld := ⟨0x708004, 12, 20⟩
/-- The address of ETH_VNIC_CB_HI. -/
def ETH_VNIC_CB_HI_A : Nat := 0x708008
/-- ETH_VNIC_CB_HI.ADDR_HI [31:0], RW. -/
def ETH_VNIC_CB_HI_ADDR_HI : Fld := ⟨0x708008, 0, 32⟩
/-- The address of ETH_VNIC_SEQ. -/
def ETH_VNIC_SEQ_A (q : Nat) : Nat := 0x708010 + 0x4 * q
/-- ETH_VNIC_SEQ.CSEQ [31:16], RO. -/
def ETH_VNIC_SEQ_CSEQ (q : Nat) : Fld := ⟨0x708010 + 0x4 * q, 16, 16⟩
/-- ETH_VNIC_SEQ.REL [15:0], RO. -/
def ETH_VNIC_SEQ_REL (q : Nat) : Fld := ⟨0x708010 + 0x4 * q, 0, 16⟩
/-- The address of ETH_MDIO. -/
def ETH_MDIO_A : Nat := 0x709000
/-- ETH_MDIO.START [31:31], WO. -/
def ETH_MDIO_START : Fld := ⟨0x709000, 31, 1⟩
/-- ETH_MDIO.BUSY [30:30], RO. -/
def ETH_MDIO_BUSY : Fld := ⟨0x709000, 30, 1⟩
/-- ETH_MDIO.OP [29:27], RW. -/
def ETH_MDIO_OP : Fld := ⟨0x709000, 27, 3⟩
/-- ETH_MDIO.PHYAD [26:22], RW. -/
def ETH_MDIO_PHYAD : Fld := ⟨0x709000, 22, 5⟩
/-- ETH_MDIO.REG [21:17], RW. -/
def ETH_MDIO_REG : Fld := ⟨0x709000, 17, 5⟩
/-- ETH_MDIO.DATA [15:0], RW. -/
def ETH_MDIO_DATA : Fld := ⟨0x709000, 0, 16⟩
/-- The address of PNT_CTRL. -/
def PNT_CTRL_A : Nat := 0x800000
/-- PNT_CTRL.ETYPE [31:16], RW. -/
def PNT_CTRL_ETYPE : Fld := ⟨0x800000, 16, 16⟩
/-- PNT_CTRL.STALE_HOLD [10:8], RW. -/
def PNT_CTRL_STALE_HOLD : Fld := ⟨0x800000, 8, 3⟩
/-- PNT_CTRL.IRQ_EN [1:1], RW. -/
def PNT_CTRL_IRQ_EN : Fld := ⟨0x800000, 1, 1⟩
/-- PNT_CTRL.EN [0:0], RW. -/
def PNT_CTRL_EN : Fld := ⟨0x800000, 0, 1⟩
/-- The address of PNT_STAT. -/
def PNT_STAT_A : Nat := 0x800004
/-- PNT_STAT.STATE [9:8], RO. -/
def PNT_STAT_STATE : Fld := ⟨0x800004, 8, 2⟩
/-- PNT_STAT.CFG_ERR [5:5], W1C. -/
def PNT_STAT_CFG_ERR : Fld := ⟨0x800004, 5, 1⟩
/-- PNT_STAT.SKIP [4:4], W1C. -/
def PNT_STAT_SKIP : Fld := ⟨0x800004, 4, 1⟩
/-- PNT_STAT.SCATTER_LATE [3:3], W1C. -/
def PNT_STAT_SCATTER_LATE : Fld := ⟨0x800004, 3, 1⟩
/-- PNT_STAT.OUT_STALE [2:2], W1C. -/
def PNT_STAT_OUT_STALE : Fld := ⟨0x800004, 2, 1⟩
/-- PNT_STAT.ISL_DOWN [1:1], W1C. -/
def PNT_STAT_ISL_DOWN : Fld := ⟨0x800004, 1, 1⟩
/-- PNT_STAT.PUBLISHED [0:0], W1C. -/
def PNT_STAT_PUBLISHED : Fld := ⟨0x800004, 0, 1⟩
/-- The address of PNT_PERIOD. -/
def PNT_PERIOD_A : Nat := 0x800008
/-- PNT_PERIOD.PERIOD_N [11:0], RW. -/
def PNT_PERIOD_PERIOD_N : Fld := ⟨0x800008, 0, 12⟩
/-- The address of PNT_BASE_SL. -/
def PNT_BASE_SL_A : Nat := 0x80000C
/-- PNT_BASE_SL.SEC_LO [31:0], RW. -/
def PNT_BASE_SL_SEC_LO : Fld := ⟨0x80000C, 0, 32⟩
/-- The address of PNT_BASE_SH. -/
def PNT_BASE_SH_A : Nat := 0x800010
/-- PNT_BASE_SH.SEC_HI [15:0], RW. -/
def PNT_BASE_SH_SEC_HI : Fld := ⟨0x800010, 0, 16⟩
/-- The address of PNT_BASE_NS. -/
def PNT_BASE_NS_A : Nat := 0x800014
/-- PNT_BASE_NS.NSEC [29:0], RW. -/
def PNT_BASE_NS_NSEC : Fld := ⟨0x800014, 0, 30⟩
/-- The address of PNT_IMG. -/
def PNT_IMG_A : Nat := 0x800018
/-- PNT_IMG.OUT_LEN [27:16], RW. -/
def PNT_IMG_OUT_LEN : Fld := ⟨0x800018, 16, 12⟩
/-- PNT_IMG.IN_LEN [11:0], RW. -/
def PNT_IMG_IN_LEN : Fld := ⟨0x800018, 0, 12⟩
/-- The address of PNT_CB_LO. -/
def PNT_CB_LO_A : Nat := 0x80001C
/-- PNT_CB_LO.ADDR_LO [31:12], RW. -/
def PNT_CB_LO_ADDR_LO : Fld := ⟨0x80001C, 12, 20⟩
/-- The address of PNT_CB_HI. -/
def PNT_CB_HI_A : Nat := 0x800020
/-- PNT_CB_HI.ADDR_HI [31:0], RW. -/
def PNT_CB_HI_ADDR_HI : Fld := ⟨0x800020, 0, 32⟩
/-- The address of PNT_SMAC_LO. -/
def PNT_SMAC_LO_A : Nat := 0x800024
/-- PNT_SMAC_LO.MAC_LO [31:0], RW. -/
def PNT_SMAC_LO_MAC_LO : Fld := ⟨0x800024, 0, 32⟩
/-- The address of PNT_SMAC_HI. -/
def PNT_SMAC_HI_A : Nat := 0x800028
/-- PNT_SMAC_HI.MAC_HI [15:0], RW. -/
def PNT_SMAC_HI_MAC_HI : Fld := ⟨0x800028, 0, 16⟩
/-- The address of PNT_FETCH_LEAD. -/
def PNT_FETCH_LEAD_A : Nat := 0x800030
/-- PNT_FETCH_LEAD.NS [25:0], RWS. -/
def PNT_FETCH_LEAD_NS : Fld := ⟨0x800030, 0, 26⟩
/-- The address of PNT_APPLY_OFF. -/
def PNT_APPLY_OFF_A : Nat := 0x800034
/-- PNT_APPLY_OFF.NS [25:0], RWS. -/
def PNT_APPLY_OFF_NS : Fld := ⟨0x800034, 0, 26⟩
/-- The address of PNT_CLOSE_OFF. -/
def PNT_CLOSE_OFF_A : Nat := 0x800038
/-- PNT_CLOSE_OFF.NS [25:0], RWS. -/
def PNT_CLOSE_OFF_NS : Fld := ⟨0x800038, 0, 26⟩
/-- The address of PNT_COMMIT. -/
def PNT_COMMIT_A : Nat := 0x80003C
/-- PNT_COMMIT.COMMIT [0:0], WO. -/
def PNT_COMMIT_COMMIT : Fld := ⟨0x80003C, 0, 1⟩
/-- The address of PNT_COMMIT_STAT. -/
def PNT_COMMIT_STAT_A : Nat := 0x800040
/-- PNT_COMMIT_STAT.LATCH_CYCLE [31:16], RO. -/
def PNT_COMMIT_STAT_LATCH_CYCLE : Fld := ⟨0x800040, 16, 16⟩
/-- PNT_COMMIT_STAT.PENDING [8:8], RO. -/
def PNT_COMMIT_STAT_PENDING : Fld := ⟨0x800040, 8, 1⟩
/-- PNT_COMMIT_STAT.LATCH_CNT [7:0], RO. -/
def PNT_COMMIT_STAT_LATCH_CNT : Fld := ⟨0x800040, 0, 8⟩
/-- The address of PNT_CFGERR. -/
def PNT_CFGERR_A : Nat := 0x800044
/-- PNT_CFGERR.REASON [3:0], RO. -/
def PNT_CFGERR_REASON : Fld := ⟨0x800044, 0, 4⟩
/-- The address of PNT_CYCLE_LO. -/
def PNT_CYCLE_LO_A : Nat := 0x800048
/-- PNT_CYCLE_LO.K_LO [31:0], RO. -/
def PNT_CYCLE_LO_K_LO : Fld := ⟨0x800048, 0, 32⟩
/-- The address of PNT_CYCLE_HI. -/
def PNT_CYCLE_HI_A : Nat := 0x80004C
/-- PNT_CYCLE_HI.K_HI [31:0], RO. -/
def PNT_CYCLE_HI_K_HI : Fld := ⟨0x80004C, 0, 32⟩
/-- The address of PNT_MAPUSED. -/
def PNT_MAPUSED_A : Nat := 0x800050
/-- PNT_MAPUSED.USED [18:0], RO. -/
def PNT_MAPUSED_USED : Fld := ⟨0x800050, 0, 19⟩
/-- The address of PNT_MAPLIM. -/
def PNT_MAPLIM_A : Nat := 0x800054
/-- PNT_MAPLIM.LIMIT [18:0], RO. -/
def PNT_MAPLIM_LIMIT : Fld := ⟨0x800054, 0, 19⟩
/-- The address of PNT_LOST_LO. -/
def PNT_LOST_LO_A : Nat := 0x800058
/-- PNT_LOST_LO.LOST [31:0], RO. -/
def PNT_LOST_LO_LOST : Fld := ⟨0x800058, 0, 32⟩
/-- The address of PNT_LOST_HI. -/
def PNT_LOST_HI_A : Nat := 0x80005C
/-- PNT_LOST_HI.LOST [31:0], RO. -/
def PNT_LOST_HI_LOST : Fld := ⟨0x80005C, 0, 32⟩
/-- The address of PNT_DOWN_LO. -/
def PNT_DOWN_LO_A : Nat := 0x800060
/-- PNT_DOWN_LO.DOWN [31:0], RO. -/
def PNT_DOWN_LO_DOWN : Fld := ⟨0x800060, 0, 32⟩
/-- The address of PNT_DOWN_HI. -/
def PNT_DOWN_HI_A : Nat := 0x800064
/-- PNT_DOWN_HI.DOWN [31:0], RO. -/
def PNT_DOWN_HI_DOWN : Fld := ⟨0x800064, 0, 32⟩
/-- The address of PNT_LD_ADDR_LO. -/
def PNT_LD_ADDR_LO_A : Nat := 0x800070
/-- PNT_LD_ADDR_LO.ADDR_LO [31:3], RW. -/
def PNT_LD_ADDR_LO_ADDR_LO : Fld := ⟨0x800070, 3, 29⟩
/-- The address of PNT_LD_ADDR_HI. -/
def PNT_LD_ADDR_HI_A : Nat := 0x800074
/-- PNT_LD_ADDR_HI.ADDR_HI [31:0], RW. -/
def PNT_LD_ADDR_HI_ADDR_HI : Fld := ⟨0x800074, 0, 32⟩
/-- The address of PNT_LD_FIRST. -/
def PNT_LD_FIRST_A : Nat := 0x800078
/-- PNT_LD_FIRST.FIRST [17:0], RW. -/
def PNT_LD_FIRST_FIRST : Fld := ⟨0x800078, 0, 18⟩
/-- The address of PNT_LD_COUNT. -/
def PNT_LD_COUNT_A : Nat := 0x80007C
/-- PNT_LD_COUNT.COUNT [18:0], RW. -/
def PNT_LD_COUNT_COUNT : Fld := ⟨0x80007C, 0, 19⟩
/-- The address of PNT_LD_CTRL. -/
def PNT_LD_CTRL_A : Nat := 0x800080
/-- PNT_LD_CTRL.GO [31:31], WO. -/
def PNT_LD_CTRL_GO : Fld := ⟨0x800080, 31, 1⟩
/-- PNT_LD_CTRL.BUSY [30:30], RO. -/
def PNT_LD_CTRL_BUSY : Fld := ⟨0x800080, 30, 1⟩
/-- PNT_LD_CTRL.DONE [29:29], W1C. -/
def PNT_LD_CTRL_DONE : Fld := ⟨0x800080, 29, 1⟩
/-- PNT_LD_CTRL.ERR [28:28], W1C. -/
def PNT_LD_CTRL_ERR : Fld := ⟨0x800080, 28, 1⟩
/-- PNT_LD_CTRL.DMA_ERR [27:27], W1C. -/
def PNT_LD_CTRL_DMA_ERR : Fld := ⟨0x800080, 27, 1⟩
/-- PNT_LD_CTRL.BAD [18:0], RO. -/
def PNT_LD_CTRL_BAD : Fld := ⟨0x800080, 0, 19⟩
/-- The address of PNT_LD_FIRSTBAD. -/
def PNT_LD_FIRSTBAD_A : Nat := 0x800084
/-- PNT_LD_FIRSTBAD.VALID [31:31], RO. -/
def PNT_LD_FIRSTBAD_VALID : Fld := ⟨0x800084, 31, 1⟩
/-- PNT_LD_FIRSTBAD.INDEX [17:0], RO. -/
def PNT_LD_FIRSTBAD_INDEX : Fld := ⟨0x800084, 0, 18⟩
/-- The address of PNT_SUBST. -/
def PNT_SUBST_A (j : Nat) : Nat := 0x8000C0 + 0x4 * j
/-- PNT_SUBST.VALUE [31:0], RW. -/
def PNT_SUBST_VALUE (j : Nat) : Fld := ⟨0x8000C0 + 0x4 * j, 0, 32⟩
/-- The address of PNT_ISL_CFG. -/
def PNT_ISL_CFG_A (i : Nat) : Nat := 0x801000 + 0x20 * i
/-- PNT_ISL_CFG.EN [31:31], RWS. -/
def PNT_ISL_CFG_EN (i : Nat) : Fld := ⟨0x801000 + 0x20 * i, 31, 1⟩
/-- PNT_ISL_CFG.PORT [30:28], RWS. -/
def PNT_ISL_CFG_PORT (i : Nat) : Fld := ⟨0x801000 + 0x20 * i, 28, 3⟩
/-- PNT_ISL_CFG.MAC_CHK [27:27], RWS. -/
def PNT_ISL_CFG_MAC_CHK (i : Nat) : Fld := ⟨0x801000 + 0x20 * i, 27, 1⟩
/-- PNT_ISL_CFG.TAG [26:26], RWS. -/
def PNT_ISL_CFG_TAG (i : Nat) : Fld := ⟨0x801000 + 0x20 * i, 26, 1⟩
/-- PNT_ISL_CFG.PCP [25:23], RWS. -/
def PNT_ISL_CFG_PCP (i : Nat) : Fld := ⟨0x801000 + 0x20 * i, 23, 3⟩
/-- PNT_ISL_CFG.MISS_HOLD [22:20], RWS. -/
def PNT_ISL_CFG_MISS_HOLD (i : Nat) : Fld := ⟨0x801000 + 0x20 * i, 20, 3⟩
/-- PNT_ISL_CFG.VID [11:0], RWS. -/
def PNT_ISL_CFG_VID (i : Nat) : Fld := ⟨0x801000 + 0x20 * i, 0, 12⟩
/-- The address of PNT_ISL_MACLO. -/
def PNT_ISL_MACLO_A (i : Nat) : Nat := 0x801004 + 0x20 * i
/-- PNT_ISL_MACLO.MAC_LO [31:0], RWS. -/
def PNT_ISL_MACLO_MAC_LO (i : Nat) : Fld := ⟨0x801004 + 0x20 * i, 0, 32⟩
/-- The address of PNT_ISL_MACHI. -/
def PNT_ISL_MACHI_A (i : Nat) : Nat := 0x801008 + 0x20 * i
/-- PNT_ISL_MACHI.MAC_HI [15:0], RWS. -/
def PNT_ISL_MACHI_MAC_HI (i : Nat) : Fld := ⟨0x801008 + 0x20 * i, 0, 16⟩
/-- The address of PNT_ISL_OFIRST. -/
def PNT_ISL_OFIRST_A (i : Nat) : Nat := 0x80100C + 0x20 * i
/-- PNT_ISL_OFIRST.FIRST [17:0], RWS. -/
def PNT_ISL_OFIRST_FIRST (i : Nat) : Fld := ⟨0x80100C + 0x20 * i, 0, 18⟩
/-- The address of PNT_ISL_OCNT. -/
def PNT_ISL_OCNT_A (i : Nat) : Nat := 0x801010 + 0x20 * i
/-- PNT_ISL_OCNT.BYTES [31:18], RWS. -/
def PNT_ISL_OCNT_BYTES (i : Nat) : Fld := ⟨0x801010 + 0x20 * i, 18, 14⟩
/-- PNT_ISL_OCNT.COUNT [17:0], RWS. -/
def PNT_ISL_OCNT_COUNT (i : Nat) : Fld := ⟨0x801010 + 0x20 * i, 0, 18⟩
/-- The address of PNT_ISL_IFIRST. -/
def PNT_ISL_IFIRST_A (i : Nat) : Nat := 0x801014 + 0x20 * i
/-- PNT_ISL_IFIRST.FIRST [17:0], RWS. -/
def PNT_ISL_IFIRST_FIRST (i : Nat) : Fld := ⟨0x801014 + 0x20 * i, 0, 18⟩
/-- The address of PNT_ISL_ICNT. -/
def PNT_ISL_ICNT_A (i : Nat) : Nat := 0x801018 + 0x20 * i
/-- PNT_ISL_ICNT.BYTES [31:18], RWS. -/
def PNT_ISL_ICNT_BYTES (i : Nat) : Fld := ⟨0x801018 + 0x20 * i, 18, 14⟩
/-- PNT_ISL_ICNT.COUNT [17:0], RWS. -/
def PNT_ISL_ICNT_COUNT (i : Nat) : Fld := ⟨0x801018 + 0x20 * i, 0, 18⟩
/-- The address of PNT_ISL_STAT. -/
def PNT_ISL_STAT_A (i : Nat) : Nat := 0x80101C + 0x20 * i
/-- PNT_ISL_STAT.ISTATUS [31:24], RO. -/
def PNT_ISL_STAT_ISTATUS (i : Nat) : Fld := ⟨0x80101C + 0x20 * i, 24, 8⟩
/-- PNT_ISL_STAT.MISSES [23:16], RO. -/
def PNT_ISL_STAT_MISSES (i : Nat) : Fld := ⟨0x80101C + 0x20 * i, 16, 8⟩
/-- PNT_ISL_STAT.LAST_OK [15:0], RO. -/
def PNT_ISL_STAT_LAST_OK (i : Nat) : Fld := ⟨0x80101C + 0x20 * i, 0, 16⟩
/-- The address of MER_CTRL. -/
def MER_CTRL_A : Nat := 0x900000
/-- MER_CTRL.XCHG_N [31:24], RW. -/
def MER_CTRL_XCHG_N : Fld := ⟨0x900000, 24, 8⟩
/-- MER_CTRL.FILT_LOG2 [23:20], RW. -/
def MER_CTRL_FILT_LOG2 : Fld := ⟨0x900000, 20, 4⟩
/-- MER_CTRL.LOSS_MS [15:8], RW. -/
def MER_CTRL_LOSS_MS : Fld := ⟨0x900000, 8, 8⟩
/-- The address of MER_SERVO. -/
def MER_SERVO_A : Nat := 0x900004
/-- MER_SERVO.STEP_THR [31:16], RW. -/
def MER_SERVO_STEP_THR : Fld := ⟨0x900004, 16, 16⟩
/-- MER_SERVO.SLEW_PPB [15:0], RW. -/
def MER_SERVO_SLEW_PPB : Fld := ⟨0x900004, 0, 16⟩
/-- The address of MER_STAT. -/
def MER_STAT_A : Nat := 0x900008
/-- MER_STAT.MGEN [31:24], RO. -/
def MER_STAT_MGEN : Fld := ⟨0x900008, 24, 8⟩
/-- MER_STAT.MASTER_POS [23:18], RO. -/
def MER_STAT_MASTER_POS : Fld := ⟨0x900008, 18, 6⟩
/-- MER_STAT.DIST [17:12], RO. -/
def MER_STAT_DIST : Fld := ⟨0x900008, 12, 6⟩
/-- MER_STAT.PARENT [9:8], RO. -/
def MER_STAT_PARENT : Fld := ⟨0x900008, 8, 2⟩
/-- MER_STAT.RATE_PEND [5:5], RO. -/
def MER_STAT_RATE_PEND : Fld := ⟨0x900008, 5, 1⟩
/-- MER_STAT.RUN [4:4], RO. -/
def MER_STAT_RUN : Fld := ⟨0x900008, 4, 1⟩
/-- MER_STAT.STATE [2:0], RO. -/
def MER_STAT_STATE : Fld := ⟨0x900008, 0, 3⟩
/-- The address of MER_GEN. -/
def MER_GEN_A : Nat := 0x90000C
/-- MER_GEN.GEN [7:0], RO. -/
def MER_GEN_GEN : Fld := ⟨0x90000C, 0, 8⟩
/-- The address of MER_RATE. -/
def MER_RATE_A : Nat := 0x900010
/-- MER_RATE.RATE_ADJ [31:0], RO. -/
def MER_RATE_RATE_ADJ : Fld := ⟨0x900010, 0, 32⟩
/-- The address of MER_RATE_NEXT. -/
def MER_RATE_NEXT_A : Nat := 0x900014
/-- MER_RATE_NEXT.RATE_NEXT [31:0], RO. -/
def MER_RATE_NEXT_RATE_NEXT : Fld := ⟨0x900014, 0, 32⟩
/-- The address of MER_RATE_AT_SL. -/
def MER_RATE_AT_SL_A : Nat := 0x900018
/-- MER_RATE_AT_SL.SEC_LO [31:0], RO. -/
def MER_RATE_AT_SL_SEC_LO : Fld := ⟨0x900018, 0, 32⟩
/-- The address of MER_RATE_AT_SH. -/
def MER_RATE_AT_SH_A : Nat := 0x90001C
/-- MER_RATE_AT_SH.SEC_HI [15:0], RO. -/
def MER_RATE_AT_SH_SEC_HI : Fld := ⟨0x90001C, 0, 16⟩
/-- The address of MER_RATE_AT_NS. -/
def MER_RATE_AT_NS_A : Nat := 0x900020
/-- MER_RATE_AT_NS.NSEC [29:0], RO. -/
def MER_RATE_AT_NS_NSEC : Fld := ⟨0x900020, 0, 30⟩
/-- The address of MER_SNAP. -/
def MER_SNAP_A : Nat := 0x900024
/-- MER_SNAP.SNAP [0:0], WO. -/
def MER_SNAP_SNAP : Fld := ⟨0x900024, 0, 1⟩
/-- The address of MER_SNAP_RAW0. -/
def MER_SNAP_RAW0_A : Nat := 0x900028
/-- MER_SNAP_RAW0.RAW [31:0], RO. -/
def MER_SNAP_RAW0_RAW : Fld := ⟨0x900028, 0, 32⟩
/-- The address of MER_SNAP_RAW1. -/
def MER_SNAP_RAW1_A : Nat := 0x90002C
/-- MER_SNAP_RAW1.RAW [31:0], RO. -/
def MER_SNAP_RAW1_RAW : Fld := ⟨0x90002C, 0, 32⟩
/-- The address of MER_SNAP_RAW2. -/
def MER_SNAP_RAW2_A : Nat := 0x900030
/-- MER_SNAP_RAW2.RAW [15:0], RO. -/
def MER_SNAP_RAW2_RAW : Fld := ⟨0x900030, 0, 16⟩
/-- The address of MER_SNAP_SL. -/
def MER_SNAP_SL_A : Nat := 0x900034
/-- MER_SNAP_SL.SEC_LO [31:0], RO. -/
def MER_SNAP_SL_SEC_LO : Fld := ⟨0x900034, 0, 32⟩
/-- The address of MER_SNAP_SH. -/
def MER_SNAP_SH_A : Nat := 0x900038
/-- MER_SNAP_SH.SEC_HI [15:0], RO. -/
def MER_SNAP_SH_SEC_HI : Fld := ⟨0x900038, 0, 16⟩
/-- The address of MER_SNAP_NS. -/
def MER_SNAP_NS_A : Nat := 0x90003C
/-- MER_SNAP_NS.NSEC [29:0], RO. -/
def MER_SNAP_NS_NSEC : Fld := ⟨0x90003C, 0, 30⟩
/-- The address of MER_SNAP_FR. -/
def MER_SNAP_FR_A : Nat := 0x900040
/-- MER_SNAP_FR.FRAC [15:0], RO. -/
def MER_SNAP_FR_FRAC : Fld := ⟨0x900040, 0, 16⟩
/-- The address of MER_ERR. -/
def MER_ERR_A : Nat := 0x900044
/-- MER_ERR.ERR [31:0], RO. -/
def MER_ERR_ERR : Fld := ⟨0x900044, 0, 32⟩
/-- The address of MER_PEND. -/
def MER_PEND_A : Nat := 0x900048
/-- MER_PEND.PEND [31:0], RO. -/
def MER_PEND_PEND : Fld := ⟨0x900048, 0, 32⟩
/-- The address of MER_CAL. -/
def MER_CAL_A : Nat := 0x90004C
/-- MER_CAL.TX_CAL [31:16], RO. -/
def MER_CAL_TX_CAL : Fld := ⟨0x90004C, 16, 16⟩
/-- MER_CAL.RX_CAL [15:0], RO. -/
def MER_CAL_RX_CAL : Fld := ⟨0x90004C, 0, 16⟩
/-- The address of MER_TRK_DLY. -/
def MER_TRK_DLY_A (t : Nat) : Nat := 0x900100 + 0x20 * t
/-- MER_TRK_DLY.DLY [31:0], RO. -/
def MER_TRK_DLY_DLY (t : Nat) : Fld := ⟨0x900100 + 0x20 * t, 0, 32⟩
/-- The address of MER_TRK_RTT. -/
def MER_TRK_RTT_A (t : Nat) : Nat := 0x900104 + 0x20 * t
/-- MER_TRK_RTT.RTT [31:0], RO. -/
def MER_TRK_RTT_RTT (t : Nat) : Fld := ⟨0x900104 + 0x20 * t, 0, 32⟩
/-- The address of MER_TRK_ASYM. -/
def MER_TRK_ASYM_A (t : Nat) : Nat := 0x900108 + 0x20 * t
/-- MER_TRK_ASYM.ASYM [31:0], RW. -/
def MER_TRK_ASYM_ASYM (t : Nat) : Fld := ⟨0x900108 + 0x20 * t, 0, 32⟩
/-- The address of MER_TRK_OFS. -/
def MER_TRK_OFS_A (t : Nat) : Nat := 0x90010C + 0x20 * t
/-- MER_TRK_OFS.OFS [31:0], RO. -/
def MER_TRK_OFS_OFS (t : Nat) : Fld := ⟨0x90010C + 0x20 * t, 0, 32⟩
/-- The address of MER_TRK_STAT. -/
def MER_TRK_STAT_A (t : Nat) : Nat := 0x900110 + 0x20 * t
/-- MER_TRK_STAT.VALID [31:31], RO. -/
def MER_TRK_STAT_VALID (t : Nat) : Fld := ⟨0x900110 + 0x20 * t, 31, 1⟩
/-- MER_TRK_STAT.HOLD [30:30], RO. -/
def MER_TRK_STAT_HOLD (t : Nat) : Fld := ⟨0x900110 + 0x20 * t, 30, 1⟩
/-- MER_TRK_STAT.EXCL [29:29], RO. -/
def MER_TRK_STAT_EXCL (t : Nat) : Fld := ⟨0x900110 + 0x20 * t, 29, 1⟩
/-- MER_TRK_STAT.SAMPLES [23:16], RO. -/
def MER_TRK_STAT_SAMPLES (t : Nat) : Fld := ⟨0x900110 + 0x20 * t, 16, 8⟩
/-- MER_TRK_STAT.FAR_DIST [13:8], RO. -/
def MER_TRK_STAT_FAR_DIST (t : Nat) : Fld := ⟨0x900110 + 0x20 * t, 8, 6⟩
/-- MER_TRK_STAT.FAR_RUN [7:7], RO. -/
def MER_TRK_STAT_FAR_RUN (t : Nat) : Fld := ⟨0x900110 + 0x20 * t, 7, 1⟩
/-- MER_TRK_STAT.FAR_STATE [2:0], RO. -/
def MER_TRK_STAT_FAR_STATE (t : Nat) : Fld := ⟨0x900110 + 0x20 * t, 0, 3⟩
/-- The address of TIO_LEVEL. -/
def TIO_LEVEL_A : Nat := 0x910000
/-- TIO_LEVEL.LEVEL [15:0], RO. -/
def TIO_LEVEL_LEVEL : Fld := ⟨0x910000, 0, 16⟩
/-- The address of TIO_CFG. -/
def TIO_CFG_A (n : Nat) : Nat := 0x910100 + 0x40 * n
/-- TIO_CFG.MODE [10:8], RW. -/
def TIO_CFG_MODE (n : Nat) : Fld := ⟨0x910100 + 0x40 * n, 8, 3⟩
/-- TIO_CFG.EDGE [5:4], RW. -/
def TIO_CFG_EDGE (n : Nat) : Fld := ⟨0x910100 + 0x40 * n, 4, 2⟩
/-- TIO_CFG.POL [0:0], RW. -/
def TIO_CFG_POL (n : Nat) : Fld := ⟨0x910100 + 0x40 * n, 0, 1⟩
/-- The address of TIO_DLY. -/
def TIO_DLY_A (n : Nat) : Nat := 0x910104 + 0x40 * n
/-- TIO_DLY.DLY [15:0], RW. -/
def TIO_DLY_DLY (n : Nat) : Fld := ⟨0x910104 + 0x40 * n, 0, 16⟩
/-- The address of TIO_PER. -/
def TIO_PER_A (n : Nat) : Nat := 0x910108 + 0x40 * n
/-- TIO_PER.PER_NS [31:0], RW. -/
def TIO_PER_PER_NS (n : Nat) : Fld := ⟨0x910108 + 0x40 * n, 0, 32⟩
/-- The address of TIO_PERF. -/
def TIO_PERF_A (n : Nat) : Nat := 0x91010C + 0x40 * n
/-- TIO_PERF.PER_FR [15:0], RW. -/
def TIO_PERF_PER_FR (n : Nat) : Fld := ⟨0x91010C + 0x40 * n, 0, 16⟩
/-- The address of TIO_WID. -/
def TIO_WID_A (n : Nat) : Nat := 0x910110 + 0x40 * n
/-- TIO_WID.LEVEL [31:31], RW. -/
def TIO_WID_LEVEL (n : Nat) : Fld := ⟨0x910110 + 0x40 * n, 31, 1⟩
/-- TIO_WID.WIDTH_NS [29:0], RW. -/
def TIO_WID_WIDTH_NS (n : Nat) : Fld := ⟨0x910110 + 0x40 * n, 0, 30⟩
/-- The address of TIO_STAT. -/
def TIO_STAT_A (n : Nat) : Nat := 0x910114 + 0x40 * n
/-- TIO_STAT.ARMED [31:31], RO. -/
def TIO_STAT_ARMED (n : Nat) : Fld := ⟨0x910114 + 0x40 * n, 31, 1⟩
/-- TIO_STAT.WAIT [30:30], RO. -/
def TIO_STAT_WAIT (n : Nat) : Fld := ⟨0x910114 + 0x40 * n, 30, 1⟩
/-- TIO_STAT.MISSED [29:29], W1C. -/
def TIO_STAT_MISSED (n : Nat) : Fld := ⟨0x910114 + 0x40 * n, 29, 1⟩
/-- TIO_STAT.OVERRUN [28:28], W1C. -/
def TIO_STAT_OVERRUN (n : Nat) : Fld := ⟨0x910114 + 0x40 * n, 28, 1⟩
/-- TIO_STAT.COUNT [15:0], RO. -/
def TIO_STAT_COUNT (n : Nat) : Fld := ⟨0x910114 + 0x40 * n, 0, 16⟩
/-- The address of TIO_NEXT_SL. -/
def TIO_NEXT_SL_A (n : Nat) : Nat := 0x910118 + 0x40 * n
/-- TIO_NEXT_SL.SEC_LO [31:0], RO. -/
def TIO_NEXT_SL_SEC_LO (n : Nat) : Fld := ⟨0x910118 + 0x40 * n, 0, 32⟩
/-- The address of TIO_NEXT_SH. -/
def TIO_NEXT_SH_A (n : Nat) : Nat := 0x91011C + 0x40 * n
/-- TIO_NEXT_SH.SEC_HI [15:0], RO. -/
def TIO_NEXT_SH_SEC_HI (n : Nat) : Fld := ⟨0x91011C + 0x40 * n, 0, 16⟩
/-- The address of TIO_NEXT_NS. -/
def TIO_NEXT_NS_A (n : Nat) : Nat := 0x910120 + 0x40 * n
/-- TIO_NEXT_NS.NSEC [29:0], RO. -/
def TIO_NEXT_NS_NSEC (n : Nat) : Fld := ⟨0x910120 + 0x40 * n, 0, 30⟩
/-- The address of TIO_REM. -/
def TIO_REM_A (n : Nat) : Nat := 0x910124 + 0x40 * n
/-- TIO_REM.REM [31:0], RO. -/
def TIO_REM_REM (n : Nat) : Fld := ⟨0x910124 + 0x40 * n, 0, 32⟩
/-- The address of TCPD_BUDGET. -/
def TCPD_BUDGET_A : Nat := 0xA00000
/-- TCPD_BUDGET.BUDGET_MW [17:0], RO. -/
def TCPD_BUDGET_BUDGET_MW : Fld := ⟨0xA00000, 0, 18⟩
/-- The address of TCPD_FREE. -/
def TCPD_FREE_A : Nat := 0xA00004
/-- TCPD_FREE.FREE_MW [17:0], RO. -/
def TCPD_FREE_FREE_MW : Fld := ⟨0xA00004, 0, 18⟩
/-- The address of TCPD_TABLE. -/
def TCPD_TABLE_A : Nat := 0xA00008
/-- TCPD_TABLE.PENDING [31:31], RO. -/
def TCPD_TABLE_PENDING : Fld := ⟨0xA00008, 31, 1⟩
/-- TCPD_TABLE.VERSION [15:8], RO. -/
def TCPD_TABLE_VERSION : Fld := ⟨0xA00008, 8, 8⟩
/-- TCPD_TABLE.LOADS [7:0], RO. -/
def TCPD_TABLE_LOADS : Fld := ⟨0xA00008, 0, 8⟩
/-- The address of TCPD_CTRL. -/
def TCPD_CTRL_A : Nat := 0xA0000C
/-- TCPD_CTRL.PG_TO_MS [24:16], RW. -/
def TCPD_CTRL_PG_TO_MS : Fld := ⟨0xA0000C, 16, 9⟩
/-- TCPD_CTRL.DETACH_DEB_MS [4:0], RW. -/
def TCPD_CTRL_DETACH_DEB_MS : Fld := ⟨0xA0000C, 0, 5⟩
/-- The address of TCPD_PORT_STAT. -/
def TCPD_PORT_STAT_A (n : Nat) : Nat := 0xA00100 + 0x20 * n
/-- TCPD_PORT_STAT.STATE [31:28], RO. -/
def TCPD_PORT_STAT_STATE (n : Nat) : Fld := ⟨0xA00100 + 0x20 * n, 28, 4⟩
/-- TCPD_PORT_STAT.RP [27:26], RO. -/
def TCPD_PORT_STAT_RP (n : Nat) : Fld := ⟨0xA00100 + 0x20 * n, 26, 2⟩
/-- TCPD_PORT_STAT.VCONN_ON [25:25], RO. -/
def TCPD_PORT_STAT_VCONN_ON (n : Nat) : Fld := ⟨0xA00100 + 0x20 * n, 25, 1⟩
/-- TCPD_PORT_STAT.VCONN_PARTNER [24:24], RO. -/
def TCPD_PORT_STAT_VCONN_PARTNER (n : Nat) : Fld := ⟨0xA00100 + 0x20 * n, 24, 1⟩
/-- TCPD_PORT_STAT.CABLE_5A [23:23], RO. -/
def TCPD_PORT_STAT_CABLE_5A (n : Nat) : Fld := ⟨0xA00100 + 0x20 * n, 23, 1⟩
/-- TCPD_PORT_STAT.RA [22:22], RO. -/
def TCPD_PORT_STAT_RA (n : Nat) : Fld := ⟨0xA00100 + 0x20 * n, 22, 1⟩
/-- TCPD_PORT_STAT.CC2 [21:21], RO. -/
def TCPD_PORT_STAT_CC2 (n : Nat) : Fld := ⟨0xA00100 + 0x20 * n, 21, 1⟩
/-- TCPD_PORT_STAT.PG [20:20], RO. -/
def TCPD_PORT_STAT_PG (n : Nat) : Fld := ⟨0xA00100 + 0x20 * n, 20, 1⟩
/-- TCPD_PORT_STAT.VSEL [19:18], RO. -/
def TCPD_PORT_STAT_VSEL (n : Nat) : Fld := ⟨0xA00100 + 0x20 * n, 18, 2⟩
/-- TCPD_PORT_STAT.TRIMMED [17:17], RO. -/
def TCPD_PORT_STAT_TRIMMED (n : Nat) : Fld := ⟨0xA00100 + 0x20 * n, 17, 1⟩
/-- TCPD_PORT_STAT.PDO [11:8], RO. -/
def TCPD_PORT_STAT_PDO (n : Nat) : Fld := ⟨0xA00100 + 0x20 * n, 8, 4⟩
/-- TCPD_PORT_STAT.HR_COUNT [1:0], RO. -/
def TCPD_PORT_STAT_HR_COUNT (n : Nat) : Fld := ⟨0xA00100 + 0x20 * n, 0, 2⟩
/-- The address of TCPD_PORT_REQ. -/
def TCPD_PORT_REQ_A (n : Nat) : Nat := 0xA00104 + 0x20 * n
/-- TCPD_PORT_REQ.CURRENT [9:0], RO. -/
def TCPD_PORT_REQ_CURRENT (n : Nat) : Fld := ⟨0xA00104 + 0x20 * n, 0, 10⟩
/-- The address of TCPD_PORT_CONTRACT. -/
def TCPD_PORT_CONTRACT_A (n : Nat) : Nat := 0xA00108 + 0x20 * n
/-- TCPD_PORT_CONTRACT.MW [17:0], RO. -/
def TCPD_PORT_CONTRACT_MW (n : Nat) : Fld := ⟨0xA00108 + 0x20 * n, 0, 18⟩
/-- The address of TCPD_PORT_PEND. -/
def TCPD_PORT_PEND_A (n : Nat) : Nat := 0xA0010C + 0x20 * n
/-- TCPD_PORT_PEND.MW [17:0], RO. -/
def TCPD_PORT_PEND_MW (n : Nat) : Fld := ⟨0xA0010C + 0x20 * n, 0, 18⟩
/-- The address of TCPD_PORT_LIM. -/
def TCPD_PORT_LIM_A (n : Nat) : Nat := 0xA00110 + 0x20 * n
/-- TCPD_PORT_LIM.MAX_MW [17:0], RO. -/
def TCPD_PORT_LIM_MAX_MW (n : Nat) : Fld := ⟨0xA00110 + 0x20 * n, 0, 18⟩
/-- The address of TCPD_TCS_STAT. -/
def TCPD_TCS_STAT_A : Nat := 0xA00200
/-- TCPD_TCS_STAT.STATE [31:28], RO. -/
def TCPD_TCS_STAT_STATE : Fld := ⟨0xA00200, 28, 4⟩
/-- TCPD_TCS_STAT.RP_SEEN [27:26], RO. -/
def TCPD_TCS_STAT_RP_SEEN : Fld := ⟨0xA00200, 26, 2⟩
/-- TCPD_TCS_STAT.DEAD_BATT [25:25], RO. -/
def TCPD_TCS_STAT_DEAD_BATT : Fld := ⟨0xA00200, 25, 1⟩
/-- TCPD_TCS_STAT.SOURCE [24:24], RO. -/
def TCPD_TCS_STAT_SOURCE : Fld := ⟨0xA00200, 24, 1⟩
/-- TCPD_TCS_STAT.PDO [19:18], RO. -/
def TCPD_TCS_STAT_PDO : Fld := ⟨0xA00200, 18, 2⟩
/-- TCPD_TCS_STAT.CONTRACT_MW [13:0], RO. -/
def TCPD_TCS_STAT_CONTRACT_MW : Fld := ⟨0xA00200, 0, 14⟩
/-- The address of EFU_CTRL. -/
def EFU_CTRL_A : Nat := 0xA10000
/-- EFU_CTRL.RETRY_CLEAR_MS [15:0], RW. -/
def EFU_CTRL_RETRY_CLEAR_MS : Fld := ⟨0xA10000, 0, 16⟩
/-- The address of EFU_INTAKE. -/
def EFU_INTAKE_A : Nat := 0xA10004
/-- EFU_INTAKE.OK [31:31], RO. -/
def EFU_INTAKE_OK : Fld := ⟨0xA10004, 31, 1⟩
/-- EFU_INTAKE.UV [30:30], RO. -/
def EFU_INTAKE_UV : Fld := ⟨0xA10004, 30, 1⟩
/-- EFU_INTAKE.OV [29:29], RO. -/
def EFU_INTAKE_OV : Fld := ⟨0xA10004, 29, 1⟩
/-- EFU_INTAKE.VIN [15:0], RO. -/
def EFU_INTAKE_VIN : Fld := ⟨0xA10004, 0, 16⟩
/-- The address of EFU_ALARM. -/
def EFU_ALARM_A : Nat := 0xA10008
/-- EFU_ALARM.ALARM [8:8], RO. -/
def EFU_ALARM_ALARM : Fld := ⟨0xA10008, 8, 1⟩
/-- EFU_ALARM.SHORT [7:0], RO. -/
def EFU_ALARM_SHORT : Fld := ⟨0xA10008, 0, 8⟩
/-- The address of EFU_CH_CTRL. -/
def EFU_CH_CTRL_A (n : Nat) : Nat := 0xA10100 + 0x20 * n
/-- EFU_CH_CTRL.PRES_EN [3:3], RW. -/
def EFU_CH_CTRL_PRES_EN (n : Nat) : Fld := ⟨0xA10100 + 0x20 * n, 3, 1⟩
/-- EFU_CH_CTRL.REQ [2:2], RO. -/
def EFU_CH_CTRL_REQ (n : Nat) : Fld := ⟨0xA10100 + 0x20 * n, 2, 1⟩
/-- EFU_CH_CTRL.SRC [1:0], RW. -/
def EFU_CH_CTRL_SRC (n : Nat) : Fld := ⟨0xA10100 + 0x20 * n, 0, 2⟩
/-- The address of EFU_CH_STAT. -/
def EFU_CH_STAT_A (n : Nat) : Nat := 0xA10104 + 0x20 * n
/-- EFU_CH_STAT.STATE [31:28], RO. -/
def EFU_CH_STAT_STATE (n : Nat) : Fld := ⟨0xA10104 + 0x20 * n, 28, 4⟩
/-- EFU_CH_STAT.CAUSE [27:24], RO. -/
def EFU_CH_STAT_CAUSE (n : Nat) : Fld := ⟨0xA10104 + 0x20 * n, 24, 4⟩
/-- EFU_CH_STAT.POINT [23:20], RO. -/
def EFU_CH_STAT_POINT (n : Nat) : Fld := ⟨0xA10104 + 0x20 * n, 20, 4⟩
/-- EFU_CH_STAT.PROF_PEND [11:11], RO. -/
def EFU_CH_STAT_PROF_PEND (n : Nat) : Fld := ⟨0xA10104 + 0x20 * n, 11, 1⟩
/-- EFU_CH_STAT.WINDOW [10:10], RO. -/
def EFU_CH_STAT_WINDOW (n : Nat) : Fld := ⟨0xA10104 + 0x20 * n, 10, 1⟩
/-- EFU_CH_STAT.PRES [9:9], RO. -/
def EFU_CH_STAT_PRES (n : Nat) : Fld := ⟨0xA10104 + 0x20 * n, 9, 1⟩
/-- EFU_CH_STAT.PG [8:8], RO. -/
def EFU_CH_STAT_PG (n : Nat) : Fld := ⟨0xA10104 + 0x20 * n, 8, 1⟩
/-- EFU_CH_STAT.PROF_VER [7:0], RO. -/
def EFU_CH_STAT_PROF_VER (n : Nat) : Fld := ⟨0xA10104 + 0x20 * n, 0, 8⟩
/-- The address of EFU_CH_RETRY. -/
def EFU_CH_RETRY_A (n : Nat) : Nat := 0xA10108 + 0x20 * n
/-- EFU_CH_RETRY.HOLD_LEFT_MS [31:16], RO. -/
def EFU_CH_RETRY_HOLD_LEFT_MS (n : Nat) : Fld := ⟨0xA10108 + 0x20 * n, 16, 16⟩
/-- EFU_CH_RETRY.LIMIT [11:8], RO. -/
def EFU_CH_RETRY_LIMIT (n : Nat) : Fld := ⟨0xA10108 + 0x20 * n, 8, 4⟩
/-- EFU_CH_RETRY.LEFT [7:4], RO. -/
def EFU_CH_RETRY_LEFT (n : Nat) : Fld := ⟨0xA10108 + 0x20 * n, 4, 4⟩
/-- EFU_CH_RETRY.USED [3:0], RO. -/
def EFU_CH_RETRY_USED (n : Nat) : Fld := ⟨0xA10108 + 0x20 * n, 0, 4⟩
/-- The address of EFU_CH_IOUT. -/
def EFU_CH_IOUT_A (n : Nat) : Nat := 0xA1010C + 0x20 * n
/-- EFU_CH_IOUT.PEAK [31:16], RO. -/
def EFU_CH_IOUT_PEAK (n : Nat) : Fld := ⟨0xA1010C + 0x20 * n, 16, 16⟩
/-- EFU_CH_IOUT.I [15:0], RO. -/
def EFU_CH_IOUT_I (n : Nat) : Fld := ⟨0xA1010C + 0x20 * n, 0, 16⟩
/-- The address of EFU_CH_VOLT. -/
def EFU_CH_VOLT_A (n : Nat) : Nat := 0xA10110 + 0x20 * n
/-- EFU_CH_VOLT.VIN [31:16], RO. -/
def EFU_CH_VOLT_VIN (n : Nat) : Fld := ⟨0xA10110 + 0x20 * n, 16, 16⟩
/-- EFU_CH_VOLT.VOUT [15:0], RO. -/
def EFU_CH_VOLT_VOUT (n : Nat) : Fld := ⟨0xA10110 + 0x20 * n, 0, 16⟩
/-- The address of EFU_CH_SOA. -/
def EFU_CH_SOA_A (n : Nat) : Nat := 0xA10114 + 0x20 * n
/-- EFU_CH_SOA.Q [23:0], RO. -/
def EFU_CH_SOA_Q (n : Nat) : Fld := ⟨0xA10114 + 0x20 * n, 0, 24⟩
/-- The address of EFU_CH_PROF. -/
def EFU_CH_PROF_A (n : Nat) (w : Nat) : Nat := 0xA11000 + 0x100 * n + 0x4 * w
/-- EFU_CH_PROF.WORD [31:0], RO. -/
def EFU_CH_PROF_WORD (n : Nat) (w : Nat) : Fld := ⟨0xA11000 + 0x100 * n + 0x4 * w, 0, 32⟩
/-- The address of PWR_CTRL. -/
def PWR_CTRL_A : Nat := 0x10000
/-- PWR_CTRL.OFF_MIN_MS [15:8], RW. -/
def PWR_CTRL_OFF_MIN_MS : Fld := ⟨0x10000, 8, 8⟩
/-- PWR_CTRL.ASK_MS [7:0], RW. -/
def PWR_CTRL_ASK_MS : Fld := ⟨0x10000, 0, 8⟩
/-- The address of PWR_STAT. -/
def PWR_STAT_A : Nat := 0x10004
/-- PWR_STAT.RAIL_PG [21:16], RO. -/
def PWR_STAT_RAIL_PG : Fld := ⟨0x10004, 16, 6⟩
/-- PWR_STAT.RAIL [10:8], RO. -/
def PWR_STAT_RAIL : Fld := ⟨0x10004, 8, 3⟩
/-- PWR_STAT.RAIL_FAULT [7:7], W1C. -/
def PWR_STAT_RAIL_FAULT : Fld := ⟨0x10004, 7, 1⟩
/-- PWR_STAT.RC_ON [6:6], RO. -/
def PWR_STAT_RC_ON : Fld := ⟨0x10004, 6, 1⟩
/-- PWR_STAT.XTAL_OK [5:5], RO. -/
def PWR_STAT_XTAL_OK : Fld := ⟨0x10004, 5, 1⟩
/-- PWR_STAT.TCS_PATH [4:4], RO. -/
def PWR_STAT_TCS_PATH : Fld := ⟨0x10004, 4, 1⟩
/-- PWR_STAT.SEQ [3:0], RO. -/
def PWR_STAT_SEQ : Fld := ⟨0x10004, 0, 4⟩
/-- The address of PWR_WAKE_EN. -/
def PWR_WAKE_EN_A : Nat := 0x10008
/-- PWR_WAKE_EN.IDLE [31:16], RW. -/
def PWR_WAKE_EN_IDLE : Fld := ⟨0x10008, 16, 16⟩
/-- PWR_WAKE_EN.STBY [15:0], RW. -/
def PWR_WAKE_EN_STBY : Fld := ⟨0x10008, 0, 16⟩
/-- The address of PWR_WAKE_STAT. -/
def PWR_WAKE_STAT_A : Nat := 0x1000C
/-- PWR_WAKE_STAT.LAST [20:16], RO. -/
def PWR_WAKE_STAT_LAST : Fld := ⟨0x1000C, 16, 5⟩
/-- PWR_WAKE_STAT.PENDING [15:0], RO. -/
def PWR_WAKE_STAT_PENDING : Fld := ⟨0x1000C, 0, 16⟩
/-- The address of PWR_ALARM. -/
def PWR_ALARM_A : Nat := 0x10010
/-- PWR_ALARM.SECONDS [31:0], RW. -/
def PWR_ALARM_SECONDS : Fld := ⟨0x10010, 0, 32⟩
/-- The address of PWR_REFUSE_CNT. -/
def PWR_REFUSE_CNT_A : Nat := 0x10014
/-- PWR_REFUSE_CNT.KIND [28:28], RO. -/
def PWR_REFUSE_CNT_KIND : Fld := ⟨0x10014, 28, 1⟩
/-- PWR_REFUSE_CNT.TARGET [27:24], RO. -/
def PWR_REFUSE_CNT_TARGET : Fld := ⟨0x10014, 24, 4⟩
/-- PWR_REFUSE_CNT.UNIT [23:16], RO. -/
def PWR_REFUSE_CNT_UNIT : Fld := ⟨0x10014, 16, 8⟩
/-- PWR_REFUSE_CNT.COUNT [15:0], RO. -/
def PWR_REFUSE_CNT_COUNT : Fld := ⟨0x10014, 0, 16⟩
/-- The address of PWR_WAKE_LATE. -/
def PWR_WAKE_LATE_A : Nat := 0x10018
/-- PWR_WAKE_LATE.COUNT [15:0], RO. -/
def PWR_WAKE_LATE_COUNT : Fld := ⟨0x10018, 0, 16⟩
/-- The address of PWR_RSTCAUSE. -/
def PWR_RSTCAUSE_A : Nat := 0x1001C
/-- PWR_RSTCAUSE.COUNT [31:16], RO. -/
def PWR_RSTCAUSE_COUNT : Fld := ⟨0x1001C, 16, 16⟩
/-- PWR_RSTCAUSE.DETAIL [15:8], RO. -/
def PWR_RSTCAUSE_DETAIL : Fld := ⟨0x1001C, 8, 8⟩
/-- PWR_RSTCAUSE.CAUSE [7:0], RO. -/
def PWR_RSTCAUSE_CAUSE : Fld := ⟨0x1001C, 0, 8⟩
/-- The address of PWR_WDOG. -/
def PWR_WDOG_A : Nat := 0x10020
/-- PWR_WDOG.HITLESS [15:0], RO. -/
def PWR_WDOG_HITLESS : Fld := ⟨0x10020, 0, 16⟩
/-- The address of CLK_OP. -/
def CLK_OP_A : Nat := 0x20000
/-- CLK_OP.THROTTLE [13:13], RO. -/
def CLK_OP_THROTTLE : Fld := ⟨0x20000, 13, 1⟩
/-- CLK_OP.FORCED [12:12], RO. -/
def CLK_OP_FORCED : Fld := ⟨0x20000, 12, 1⟩
/-- CLK_OP.STEP [9:8], RO. -/
def CLK_OP_STEP : Fld := ⟨0x20000, 8, 2⟩
/-- CLK_OP.CUR [5:4], RO. -/
def CLK_OP_CUR : Fld := ⟨0x20000, 4, 2⟩
/-- CLK_OP.TARGET [1:0], RW. -/
def CLK_OP_TARGET : Fld := ⟨0x20000, 0, 2⟩
/-- The address of CLK_VR. -/
def CLK_VR_A : Nat := 0x20004
/-- CLK_VR.PMBUS_ADDR [22:16], RW. -/
def CLK_VR_PMBUS_ADDR : Fld := ⟨0x20004, 16, 7⟩
/-- CLK_VR.SETTLE_US [15:8], RW. -/
def CLK_VR_SETTLE_US : Fld := ⟨0x20004, 8, 8⟩
/-- CLK_VR.IF [0:0], RW. -/
def CLK_VR_IF : Fld := ⟨0x20004, 0, 1⟩
/-- The address of CLK_UNITS. -/
def CLK_UNITS_A : Nat := 0x20008
/-- CLK_UNITS.RUN [11:0], RO. -/
def CLK_UNITS_RUN : Fld := ⟨0x20008, 0, 12⟩
/-- The address of CLK_TEMP. -/
def CLK_TEMP_A : Nat := 0x2000C
/-- CLK_TEMP.THROTTLE_EN [24:24], RW. -/
def CLK_TEMP_THROTTLE_EN : Fld := ⟨0x2000C, 24, 1⟩
/-- CLK_TEMP.WARN [23:16], RW. -/
def CLK_TEMP_WARN : Fld := ⟨0x2000C, 16, 8⟩
/-- CLK_TEMP.MAX [15:8], RO. -/
def CLK_TEMP_MAX : Fld := ⟨0x2000C, 8, 8⟩
/-- CLK_TEMP.TJ [7:0], RO. -/
def CLK_TEMP_TJ : Fld := ⟨0x2000C, 0, 8⟩
/-- The address of INK_STAT. -/
def INK_STAT_A : Nat := 0xB00000
/-- INK_STAT.TAMPER_LATCH [31:31], RO. -/
def INK_STAT_TAMPER_LATCH : Fld := ⟨0xB00000, 31, 1⟩
/-- INK_STAT.TAMPER_IN [30:30], RO. -/
def INK_STAT_TAMPER_IN : Fld := ⟨0xB00000, 30, 1⟩
/-- INK_STAT.ZEROIZES [23:16], RO. -/
def INK_STAT_ZEROIZES : Fld := ⟨0xB00000, 16, 8⟩
/-- INK_STAT.LOADED [6:0], RO. -/
def INK_STAT_LOADED : Fld := ⟨0xB00000, 0, 7⟩
/-- The address of INK_OTPERR. -/
def INK_OTPERR_A : Nat := 0xB00004
/-- INK_OTPERR.ERR [15:0], RO. -/
def INK_OTPERR_ERR : Fld := ⟨0xB00004, 0, 16⟩
/-- The address of INK_RETIRED. -/
def INK_RETIRED_A : Nat := 0xB00008
/-- INK_RETIRED.RETIRED [15:0], RO. -/
def INK_RETIRED_RETIRED : Fld := ⟨0xB00008, 0, 16⟩
/-- The address of INK_ATTR. -/
def INK_ATTR_A (s : Nat) : Nat := 0xB00100 + 0x4 * s
/-- INK_ATTR.ATTR [31:0], RO. -/
def INK_ATTR_ATTR (s : Nat) : Fld := ⟨0xB00100 + 0x4 * s, 0, 32⟩
/-- The address of LCS_STATE. -/
def LCS_STATE_A : Nat := 0xB10000
/-- LCS_STATE.RETURNS [19:16], RO. -/
def LCS_STATE_RETURNS : Fld := ⟨0xB10000, 16, 4⟩
/-- LCS_STATE.BUSY [7:7], RO. -/
def LCS_STATE_BUSY : Fld := ⟨0xB10000, 7, 1⟩
/-- LCS_STATE.STATE [2:0], RO. -/
def LCS_STATE_STATE : Fld := ⟨0xB10000, 0, 3⟩
/-- The address of LCS_DEVID_LO. -/
def LCS_DEVID_LO_A : Nat := 0xB10004
/-- LCS_DEVID_LO.ID_LO [31:0], RO. -/
def LCS_DEVID_LO_ID_LO : Fld := ⟨0xB10004, 0, 32⟩
/-- The address of LCS_DEVID_HI. -/
def LCS_DEVID_HI_A : Nat := 0xB10008
/-- LCS_DEVID_HI.ID_HI [31:0], RO. -/
def LCS_DEVID_HI_ID_HI : Fld := ⟨0xB10008, 0, 32⟩
/-- The address of LCS_OTP. -/
def LCS_OTP_A : Nat := 0xB1000C
/-- LCS_OTP.PW_SET [17:17], RO. -/
def LCS_OTP_PW_SET : Fld := ⟨0xB1000C, 17, 1⟩
/-- LCS_OTP.PROGRAMMED [15:0], RO. -/
def LCS_OTP_PROGRAMMED : Fld := ⟨0xB1000C, 0, 16⟩
/-- The address of FWU_RUN. -/
def FWU_RUN_A : Nat := 0xC00000
/-- FWU_RUN.VERSION [31:0], RO. -/
def FWU_RUN_VERSION : Fld := ⟨0xC00000, 0, 32⟩
/-- The address of FWU_STAT. -/
def FWU_STAT_A : Nat := 0xC00004
/-- FWU_STAT.REC_REASON [27:24], RO. -/
def FWU_STAT_REC_REASON : Fld := ⟨0xC00004, 24, 4⟩
/-- FWU_STAT.FALLBACK [23:20], RO. -/
def FWU_STAT_FALLBACK : Fld := ⟨0xC00004, 20, 4⟩
/-- FWU_STAT.UPDATE [16:16], RO. -/
def FWU_STAT_UPDATE : Fld := ⟨0xC00004, 16, 1⟩
/-- FWU_STAT.TRIAL [8:8], RO. -/
def FWU_STAT_TRIAL : Fld := ⟨0xC00004, 8, 1⟩
/-- FWU_STAT.RUN_SLOT [0:0], RO. -/
def FWU_STAT_RUN_SLOT : Fld := ⟨0xC00004, 0, 1⟩
/-- The address of FWU_SLOTA. -/
def FWU_SLOTA_A : Nat := 0xC00008
/-- FWU_SLOTA.STATE [31:28], RO. -/
def FWU_SLOTA_STATE : Fld := ⟨0xC00008, 28, 4⟩
/-- FWU_SLOTA.ATTEMPTS [27:26], RO. -/
def FWU_SLOTA_ATTEMPTS : Fld := ⟨0xC00008, 26, 2⟩
/-- The address of FWU_SLOTB. -/
def FWU_SLOTB_A : Nat := 0xC0000C
/-- FWU_SLOTB.STATE [31:28], RO. -/
def FWU_SLOTB_STATE : Fld := ⟨0xC0000C, 28, 4⟩
/-- FWU_SLOTB.ATTEMPTS [27:26], RO. -/
def FWU_SLOTB_ATTEMPTS : Fld := ⟨0xC0000C, 26, 2⟩
/-- The address of FWU_VERA. -/
def FWU_VERA_A : Nat := 0xC00010
/-- FWU_VERA.VERSION [31:0], RO. -/
def FWU_VERA_VERSION : Fld := ⟨0xC00010, 0, 32⟩
/-- The address of FWU_VERB. -/
def FWU_VERB_A : Nat := 0xC00014
/-- FWU_VERB.VERSION [31:0], RO. -/
def FWU_VERB_VERSION : Fld := ⟨0xC00014, 0, 32⟩
/-- The address of FWU_UPD. -/
def FWU_UPD_A : Nat := 0xC00018
/-- FWU_UPD.WRITTEN [27:16], RO. -/
def FWU_UPD_WRITTEN : Fld := ⟨0xC00018, 16, 12⟩
/-- FWU_UPD.TOTAL [11:0], RO. -/
def FWU_UPD_TOTAL : Fld := ⟨0xC00018, 0, 12⟩
/-- The address of FWU_RESTART. -/
def FWU_RESTART_A : Nat := 0xC0001C
/-- FWU_RESTART.DUR_MS [31:16], RO. -/
def FWU_RESTART_DUR_MS : Fld := ⟨0xC0001C, 16, 16⟩
/-- FWU_RESTART.COUNT [15:0], RO. -/
def FWU_RESTART_COUNT : Fld := ⟨0xC0001C, 0, 16⟩
/-- The address of FWU_SET. -/
def FWU_SET_A : Nat := 0xC00020
/-- FWU_SET.FORMAT [31:16], RO. -/
def FWU_SET_FORMAT : Fld := ⟨0xC00020, 16, 16⟩
/-- FWU_SET.NEWER [1:1], RO. -/
def FWU_SET_NEWER : Fld := ⟨0xC00020, 1, 1⟩
/-- FWU_SET.DEFAULTS [0:0], RO. -/
def FWU_SET_DEFAULTS : Fld := ⟨0xC00020, 0, 1⟩
/-- The address of PERF_CTRL. -/
def PERF_CTRL_A : Nat := 0xD00000
/-- PERF_CTRL.SNAP [31:31], WO. -/
def PERF_CTRL_SNAP : Fld := ⟨0xD00000, 31, 1⟩
/-- PERF_CTRL.CLEAR [30:30], WO. -/
def PERF_CTRL_CLEAR : Fld := ⟨0xD00000, 30, 1⟩
/-- PERF_CTRL.OVF_ONLY [29:29], WO. -/
def PERF_CTRL_OVF_ONLY : Fld := ⟨0xD00000, 29, 1⟩
/-- PERF_CTRL.COUNT [25:16], RW. -/
def PERF_CTRL_COUNT : Fld := ⟨0xD00000, 16, 10⟩
/-- PERF_CTRL.FIRST [9:0], RW. -/
def PERF_CTRL_FIRST : Fld := ⟨0xD00000, 0, 10⟩
/-- The address of PERF_GEN. -/
def PERF_GEN_A : Nat := 0xD00004
/-- PERF_GEN.GEN [7:0], RO. -/
def PERF_GEN_GEN : Fld := ⟨0xD00004, 0, 8⟩
/-- The address of PERF_SNAP_SL. -/
def PERF_SNAP_SL_A : Nat := 0xD00008
/-- PERF_SNAP_SL.SEC_LO [31:0], RO. -/
def PERF_SNAP_SL_SEC_LO : Fld := ⟨0xD00008, 0, 32⟩
/-- The address of PERF_SNAP_SH. -/
def PERF_SNAP_SH_A : Nat := 0xD0000C
/-- PERF_SNAP_SH.SEC_HI [15:0], RO. -/
def PERF_SNAP_SH_SEC_HI : Fld := ⟨0xD0000C, 0, 16⟩
/-- The address of PERF_SNAP_NS. -/
def PERF_SNAP_NS_A : Nat := 0xD00010
/-- PERF_SNAP_NS.NSEC [29:0], RO. -/
def PERF_SNAP_NS_NSEC : Fld := ⟨0xD00010, 0, 30⟩
/-- The address of PERF_ACCESS. -/
def PERF_ACCESS_A : Nat := 0xD00014
/-- PERF_ACCESS.LOCK [31:31], RW. -/
def PERF_ACCESS_LOCK : Fld := ⟨0xD00014, 31, 1⟩
/-- PERF_ACCESS.READ [11:8], RWL. -/
def PERF_ACCESS_READ : Fld := ⟨0xD00014, 8, 4⟩
/-- PERF_ACCESS.CLEAR [3:0], RWL. -/
def PERF_ACCESS_CLEAR : Fld := ⟨0xD00014, 0, 4⟩
/-- The address of PERF_OVF. -/
def PERF_OVF_A (w : Nat) : Nat := 0xD00040 + 0x4 * w
/-- PERF_OVF.OVF [31:0], RO. -/
def PERF_OVF_OVF (w : Nat) : Fld := ⟨0xD00040 + 0x4 * w, 0, 32⟩
/-- The address of PERF_CNT_LO. -/
def PERF_CNT_LO_A (i : Nat) : Nat := 0xD01000 + 0x8 * i
/-- PERF_CNT_LO.VALUE [31:0], RO. -/
def PERF_CNT_LO_VALUE (i : Nat) : Fld := ⟨0xD01000 + 0x8 * i, 0, 32⟩
/-- The address of PERF_CNT_HI. -/
def PERF_CNT_HI_A (i : Nat) : Nat := 0xD01004 + 0x8 * i
/-- PERF_CNT_HI.OVF [31:31], RO. -/
def PERF_CNT_HI_OVF (i : Nat) : Fld := ⟨0xD01004 + 0x8 * i, 31, 1⟩
/-- PERF_CNT_HI.VALUE [15:0], RO. -/
def PERF_CNT_HI_VALUE (i : Nat) : Fld := ⟨0xD01004 + 0x8 * i, 0, 16⟩
/-- The address of CMT_STAT. -/
def CMT_STAT_A : Nat := 0xD10000
/-- CMT_STAT.ACTIVE [20:16], RO. -/
def CMT_STAT_ACTIVE : Fld := ⟨0xD10000, 16, 5⟩
/-- The address of CMT_NEXT_ID. -/
def CMT_NEXT_ID_A : Nat := 0xD10004
/-- CMT_NEXT_ID.ID [31:0], RO. -/
def CMT_NEXT_ID_ID : Fld := ⟨0xD10004, 0, 32⟩
/-- The address of CMT_SEED. -/
def CMT_SEED_A : Nat := 0xD10008
/-- CMT_SEED.SEED [31:0], WO. -/
def CMT_SEED_SEED : Fld := ⟨0xD10008, 0, 32⟩
/-- The address of CMT_SEL_A. -/
def CMT_SEL_A_A (s : Nat) : Nat := 0xD10100 + 0x8 * s
/-- CMT_SEL_A.EN [31:31], RW. -/
def CMT_SEL_A_EN (s : Nat) : Fld := ⟨0xD10100 + 0x8 * s, 31, 1⟩
/-- CMT_SEL_A.TID_ANY [30:30], RW. -/
def CMT_SEL_A_TID_ANY (s : Nat) : Fld := ⟨0xD10100 + 0x8 * s, 30, 1⟩
/-- CMT_SEL_A.TID [25:16], RW. -/
def CMT_SEL_A_TID (s : Nat) : Fld := ⟨0xD10100 + 0x8 * s, 16, 10⟩
/-- CMT_SEL_A.INPUT [15:8], RW. -/
def CMT_SEL_A_INPUT (s : Nat) : Fld := ⟨0xD10100 + 0x8 * s, 8, 8⟩
/-- CMT_SEL_A.CLASSES [7:4], RW. -/
def CMT_SEL_A_CLASSES (s : Nat) : Fld := ⟨0xD10100 + 0x8 * s, 4, 4⟩
/-- The address of CMT_SEL_B. -/
def CMT_SEL_B_A (s : Nat) : Nat := 0xD10104 + 0x8 * s
/-- CMT_SEL_B.RATE_LOG2 [20:16], RW. -/
def CMT_SEL_B_RATE_LOG2 (s : Nat) : Fld := ⟨0xD10104 + 0x8 * s, 16, 5⟩
/-- CMT_SEL_B.OUTPUT [15:8], RW. -/
def CMT_SEL_B_OUTPUT (s : Nat) : Fld := ⟨0xD10104 + 0x8 * s, 8, 8⟩
/-- CMT_SEL_B.DROPS_ONLY [0:0], RW. -/
def CMT_SEL_B_DROPS_ONLY (s : Nat) : Fld := ⟨0xD10104 + 0x8 * s, 0, 1⟩

end Reg

end Sys2Proof.Machine
end

