-- ==== Sys2Proof/Machine/Types/Cmd.lean ====
section
/-!
DEFINITION. The state of the command interface: transports, input queue, jobs, sessions (R47 to R82, R651, R652), and
of the standard queues (R83 to R92).
-/

namespace Sys2Proof

/-- A session handle's state (R69 to R77, R652). -/
inductive SessionPhase where
  | free | halfOpen | opened
deriving DecidableEq, Repr

/-- A session: its transport, world and key slot (0xFE for one opened by password), the nonces of its opening, its key,
and on an open session the kept SEQ and the kept reply (R52), whether the kept request is still the SESSION_PROVE that
opened the session (R50 step 4), and the run of AUTH_FAILs (R74). -/
structure Session where
  phase : SessionPhase := .free
  via : Transport := .mailbox
  world : Nat := 0
  slot : Nat := 0xFF
  nc : Bytes := []
  nd : Bytes := []
  slotKey : Bytes := []
  key : Bytes := []
  keptSeq : Nat := 0
  keptProve : Bool := false
  keptReply : Bytes := []
  authFails : Nat := 0
deriving DecidableEq, Repr

/-- What a running job will do at its end (R67).  Each carries what the command's parameters named; an audit that the
root's Scribe asked for carries the packet it will answer. -/
inductive JobKind where
  | mapIn (unit : Nat)
  | selftest (unit : Nat)
  | audit (scope where_ : Nat) (req : Option Request)
  | lcAdvance (target : Nat)
  | otpKey (slot : Nat) (key : Bytes) (attr : Nat)
  | otpPassword (salt verifier : Bytes)
  | otpRetire (slot : Nat)
  | fwBegin (slot len : Nat)
  | fwBlock (slot index : Nat) (data : Bytes)
  | fwVerify (slot : Nat)
  | settingsWrite (resetAll : Bool) (records : List (Nat × Bytes))
deriving DecidableEq, Repr

/-- A job under way. -/
structure Job where
  num : Nat
  opcode : Nat
  kind : JobKind
  aborted : Bool := false
  /-- A job that ended during a hitless restart: its status waits for the restart's end (R568). -/
  result : Option Nat := none
deriving DecidableEq, Repr

/-- A password derivation under way (R75, R76): the request it will answer, the caller's nonce and the password. -/
structure Derivation where
  req : Request
  nc : Bytes
  password : Bytes
deriving DecidableEq, Repr

/-- An action that waits for its reply to be handed over, or for the 10 µs after that (R651); `ahead` counts the replies
on TID 0 that leave before its own. -/
structure Waiting where
  via : Transport
  act : Deferred
  ahead : Nat := 0
  handed : Bool := false
deriving DecidableEq, Repr

/-- A REG_POLL that waits (R81): its request, what it compares, and the raw value at which it times out. -/
structure Poll where
  req : Request
  addr : Nat
  mask : Word
  value : Word
  deadline : Nat
deriving DecidableEq, Repr

/-- The command interface. -/
structure Cmd where
  /-- Requests Scribe has not yet taken (R65), oldest first. -/
  input : List Request := []
  /-- The transport served last, in the numbering of R652; the transports are served in turn (R65). -/
  turn : Nat := 3
  /-- Sessions by handle, 1 to 8. -/
  sessions : Table Session := []
  jobs : List Job := []
  /-- The number of the last job accepted, 0 before any (R67). -/
  lastJob : Nat := 0
  derivation : Option Derivation := none
  /-- The REG_POLL under way: Scribe executes one command at a time (R66). -/
  poll : Option Poll := none
  waiting : List Waiting := []
  /-- The mailbox region's registers and buffers (R54 to R57). -/
  mbxIrqEn : Bool := false
  mbxReplyLen : Nat := 0
  mbxOverrun : Bool := false
  mbxDone : Bool := false
  mbxBusy : Bool := false
  mbxTarget : Nat := 0
  mbxRequest : Table Byte := []
  mbxReply : Table Byte := []
  /-- The relayed request under way at the root, as read at GO, and its position (R58, R59). -/
  relay : Option (Nat × Request) := none
  /-- Replies on TID 0 whose last symbol has not left (R651). -/
  tid0Replies : Nat := 0
  /-- MGMT: the held reply and how much of it has been read (R60, R62); whether a request is held. -/
  mgmtReply : Option Bytes := none
  mgmtBusy : Bool := false
  /-- USBS: the reply not yet read and a request held behind it (R63). -/
  usbsReply : Option Bytes := none
  usbsHeld : Option Bytes := none
  usbsBusy : Bool := false
  /-- A hitless restart is under way (R68, R593). -/
  restarting : Bool := false
  /-- A hitless restart that waits for the foreground command under way (R68): its cause and slot. -/
  restartDue : Option (Nat × Nat) := none
deriving DecidableEq, Repr

/-- One standard queue (R83 to R92): the four indices, each held twice (R87), the slots in use, the count of lost
entries, the level interrupt's state, and MODE and ring base as sampled when ENABLE rose (R90). -/
structure Queue where
  w : Nat := 0
  f : Nat := 0
  c : Nat := 0
  m : Nat := 0
  w2 : Nat := 0
  f2 : Nat := 0
  c2 : Nat := 0
  m2 : Nat := 0
  slots : Table Bytes := []
  lost : Nat := 0
  armed : Bool := true
  pendingIrq : Bool := false
  integ : Bool := false
  dma : Bool := false
  ring : Nat := 0
deriving DecidableEq, Repr

end Sys2Proof
end

