-- ==== Sys2Proof/Machine/Types/Display.lean ====
section
/-!
DEFINITION. The state of the scan-out pipes and the DisplayPort outputs (chapter 9).
-/

namespace Sys2Proof

/-- What a fetch read brings: part k of the cursor image, of a line's base pixels, or of its overlay pixels; or data of a
line that has been passed. -/
inductive FetchDest where
  | cursor (k : Nat)
  | base (n k : Nat)
  | overlay (n k : Nat)
  | passed
deriving DecidableEq, Repr

/-- A line held or in flight (R325): its number, the parts still to come, and the 256-byte parts of each plane. -/
structure PipeLine where
  n : Nat
  left : List FetchDest := []
  base : Table Bytes := []
  overlay : Table Bytes := []
deriving DecidableEq, Repr

/-- A proof rectangle in the present frame (R342 to R344): the running CRC, and whether the next mismatch is the first. -/
structure Proof where
  crc : Nat := 0xFFFFFFFF
  armed : Bool := true
deriving DecidableEq, Repr

/-- A pipe. -/
structure Pipe where
  running : Bool := false
  /-- A start that waits for its target edge (R336), in 2^−16 ns. -/
  startAt : Option Int := none
  /-- The next active line to begin, the next to request, the raw value of the last latch edge. -/
  next : Nat := 0
  ask : Nat := 0
  edgeRaw : Nat := 0
  lines : List PipeLine := []
  /-- Reads under way: address and what they bring. -/
  reads : List (Nat × FetchDest) := []
  /-- Whether the shadow holds a write to the cursor's address, and whether a latched set asks for the image. -/
  curWritten : Bool := false
  curDue : Bool := false
  curLeft : List Nat := []
  curImage : Option (Table Bytes) := none
  curShown : Bool := false
  proofs : Table Proof := []
  /-- A rectangle with ACTION 2 has mismatched in this frame; the clones show DSP_PCOLOR. -/
  failed : Bool := false
  substitute : Bool := false
  /-- Consecutive edges within 2 pixel clocks, and beyond 8 (R340); lines added to this frame (R339). -/
  good : Nat := 0
  bad : Nat := 0
  added : Int := 0
  /-- The first line that has underrun since DISPLAY_UNDERRUN was last raised (R356). -/
  under : Option Nat := none
deriving DecidableEq, Repr

/-- A DisplayPort output. -/
structure DpOut where
  /-- The pipe cloned since its last latch edge (R346). -/
  src : Nat := 0
  training : Bool := false
  /-- The training under way follows a loss of lock; down-spread as applied at the last training. -/
  lost : Bool := false
  ssc : Bool := false
  /-- The AUX transaction under way: DEFERs so far; one that waits for Damya's own use of the channel. -/
  aux : Option Nat := none
  auxHeld : Bool := false
deriving DecidableEq, Repr

/-- The display block. -/
structure Display where
  pipes : Table Pipe := []
  outs : Table DpOut := []
deriving DecidableEq, Repr

end Sys2Proof
end

