-- ==== Sys2Proof/Machine/Types/Eth.lean ====
section
/-!
DEFINITION. The state of the Ethernet ports and the virtual NIC (chapter 11), and of the point engine (chapter 12).
-/

namespace Sys2Proof

/-- An entry of a port's stamp FIFO (R400): the stamp in 2^−16 ns, its direction, and what identifies the message. -/
structure PtpStamp where
  time : Nat
  tx : Bool
  seq : Nat
  kind : Nat
  domain : Nat
deriving DecidableEq, Repr

/-- A gate list (R403): its length, its cycle and base in ns, and its entries as ETH_GADMi holds them. -/
structure GateList where
  len : Nat := 1
  cycle : Nat := 1000000
  base : Nat := 0
  words : List Word := []
deriving DecidableEq, Repr

/-- One port (R391 to R405). -/
structure EthPort where
  /-- The egress store: frames by queue, 0 to 7, oldest first. -/
  queues : Table (List Bytes) := []
  /-- A received PAUSE stops transmission, for so many quanta. -/
  paused : Option Nat := none
  fifo : List PtpStamp := []
  /-- The operational list, but for its entries, which ETH_GOPRi holds. -/
  oper : GateList := {}
  /-- The pending set and its change time in ns. -/
  next : Option (GateList × Nat) := none
deriving DecidableEq, Repr

/-- A transmit descriptor that has been fetched: index, BUF, LEN, FLAGS. -/
structure VnicTx where
  index : Nat
  buf : Nat
  len : Nat
  flags : Nat
deriving DecidableEq, Repr

/-- A virtual NIC queue (R398): what EN's rise sampled, the consumer indices, descriptors fetched and not used, and
completions that wait for room in the ring: bytes 2 to 15 and whether they ask for the MSI. -/
structure Vnic where
  on : Bool := false
  /-- EN has been written 1 and its rise has not been acted on. -/
  due : Bool := false
  txBase : Nat := 0
  rxBase : Nat := 0
  cplBase : Nat := 0
  log2 : Nat := 4
  txCons : Nat := 0
  rxCons : Nat := 0
  tx : List VnicTx := []
  /-- Index, BUF and SIZE of the buffers posted. -/
  rx : List (Nat × Nat × Nat) := []
  held : List (Bytes × Bool) := []
deriving DecidableEq, Repr

/-- MSI moderation: the raw value of the last MSI, and one that waits. -/
structure Moderation where
  last : Option Nat := none
  due : Bool := false
deriving DecidableEq, Repr

/-- Ethernet. -/
structure Eth where
  ports : Table EthPort := []
  vnics : Table Vnic := []
  msi : Moderation := {}
  /-- The MDIO frame in progress is a read. -/
  mdioRead : Bool := false
deriving DecidableEq, Repr

/-- One island's part in the present cycle, and its losses (R422, R427). -/
structure Island where
  next : Nat := 0
  block : Bytes := []
  complete : Bool := false
  /-- A frame broke the block, or STALE was set. -/
  spoiled : Bool := false
deriving DecidableEq, Repr

/-- An output fetch under way (R411): its cycle, OUT_SEL and OUT_TAG once they are read, the 256-byte parts still to come,
and whether a read failed. -/
structure PointFetch where
  k : Nat
  head : Option (Nat × Nat) := none
  left : List Nat := []
  failed : Bool := false
deriving DecidableEq, Repr

/-- Where the cycle stands (R424). -/
inductive PointPhase where
  /-- No window is open. -/
  | idle
  /-- The gather window is open. -/
  | open_
  /-- The loss pass runs. -/
  | loss
deriving DecidableEq, Repr

/-- A map load under way (R416): the next index, the first index after it, the next address. -/
structure PointLoad where
  next : Nat
  stop : Nat
  first : Nat
  addr : Nat
  dmaErr : Bool := false
  /-- Reads that have completed before their turn: address, data, and whether they succeeded. -/
  early : List (Nat × Bytes × Bool) := []
deriving DecidableEq, Repr

/-- The point engine (R409 to R434). -/
structure Point where
  /-- EN has risen and the checks of R433 have passed; EN has been written 1 and its rise has not been acted on. -/
  on : Bool := false
  due : Bool := false
  /-- Descriptors by index; the output and input images in 256-byte parts: keys 2048 × buffer + part. -/
  map : Table Nat := []
  outImg : Table Bytes := []
  inImg : Table Bytes := []
  /-- The active output buffer, and the input buffer being built. -/
  outSel : Nat := 0
  inSel : Nat := 0
  /-- Sampled at EN's rise: lengths in 256-byte units, bases, BASE in ns, PERIOD_N, EtherType. -/
  outLen : Nat := 2048
  inLen : Nat := 2048
  outBase : List Nat := []
  inBase : List Nat := []
  base : Nat := 0
  period : Nat := 8
  etype : Nat := 0x88B5
  /-- The next cycle to start, and the cycle in progress. -/
  next : Nat := 0
  k : Nat := 0
  /-- The first cycle at whose start the pending set may latch: a commit in the core cycle of T_k waits for T_{k+1} (R425). -/
  commitFrom : Nat := 0
  phase : PointPhase := .idle
  fetch : Option PointFetch := none
  /-- OUT_TAG of the fetch that supplied the outputs, and the run of stale cycles. -/
  outTag : Nat := 0
  staleRun : Nat := 0
  islands : Table Island := []
  /-- Islands that the scatter walk has not reached, and those whose frames wait for room in the port's store. -/
  unreached : List Nat := []
  backlog : List (Nat × Nat × Nat × Bytes) := []
  /-- FLAGS of the record to come, and its LOST mask. -/
  flagStale : Bool := false
  flagSubst : Bool := false
  flagLate : Bool := false
  lateNext : Bool := false
  flagInSubst : Bool := false
  lost : Nat := 0
  /-- Cycles not published since the last record, and the IN_SEL that comes next. -/
  skipped : Nat := 0
  hostSel : Nat := 0
  load : Option PointLoad := none
deriving DecidableEq, Repr

end Sys2Proof
end

