-- ==== Sys2Proof/Machine/Types/Line.lean ====
section
/-!
DEFINITION. The state of the line: segments, the switch core and its scheduler (chapters 6 and 7), tunnels and routes
(chapter 5), the trunk link engines (chapter 4) and the trunk lanes (chapter 3).
-/

namespace Sys2Proof

/-- A tunnel segment (R184): the header's fields, and the payload bytes that have arrived so far. -/
structure Segment where
  ttype : Nat := 0
  sys : Bool := false
  urg : Bool := false
  mc : Bool := false
  color : Nat := 0
  tid : Nat := 0
  dst : Nat := 0
  src : Nat := 0
  hop : Nat := 33
  len : Nat := 8
  sseq : Nat := 0
  payload : Bytes := []
deriving DecidableEq, Repr

/-- A segment in the packet buffer, or one whose first cell has reached an input (R221, R223). -/
structure Held where
  seg : Segment := {}
  input : Nat := 0
  /-- The effective class (R222). -/
  cls : Nat := 0
  /-- Cells of the segment, and those taken from the free list and not yet freed. -/
  cells : Nat := 0
  taken : Nat := 0
  /-- The last cell is in the buffer. -/
  whole : Bool := true
  /-- The trunk by which this Damya's own TIME message or line record leaves (R182, R189). -/
  forced : Option Nat := none
  /-- Arrival in core cycles, the age extension of R255, and the raw value at arrival. -/
  arrival : Nat := 0
  ext : Bool := false
  raw : Nat := 0
  /-- Outputs whose copy has not crossed (R241). -/
  dests : List Nat := []
  /-- The cells have moved from a trunk region to the shared pool (R245). -/
  moved : Bool := false
  /-- It was held by the local gate (R277). -/
  gated : Bool := false
deriving DecidableEq, Repr

/-- A residue entry (R242): the segment, the output and class of the copy, and the raw value at its entry. -/
structure Residue where
  id : Nat
  output : Nat
  cls : Nat
  entered : Nat
deriving DecidableEq, Repr

/-- A class context that carries a segment (R236): the segment, its input, whether it is its only copy, and the cells that
have crossed. -/
structure Crossing where
  id : Nat
  input : Nat
  unicast : Bool
  sent : Nat := 0
deriving DecidableEq, Repr

/-- A token bucket: tokens and the raw value up to which it is filled. -/
structure Bucket where
  tok : Int
  at_ : Nat
deriving DecidableEq, Repr

/-- Weighted fair queuing of one class at one output (R257): virtual time, and for each input the start tag and whether
it has a candidate. -/
structure Wfq where
  v : Nat := 0
  start : Table Nat := []
  busy : List Nat := []
deriving DecidableEq, Repr

/-- One bucket of a policer (R261, R264), in 1/256 byte, with the fraction carried inside the fill. -/
structure PolicerBucket where
  rate : Nat := 0
  size : Nat := 0
  tokens : Nat := 0
  added : Nat := 0
  spent : Nat := 0
  clipped : Nat := 0
  frac : Nat := 0
deriving DecidableEq, Repr

/-- A policer: its two buckets, the burst sizes in KiB, its class, and the raw value up to which it is filled. -/
structure Policer where
  c : PolicerBucket
  p : PolicerBucket
  cls : Nat
  at_ : Nat
deriving DecidableEq, Repr

/-- The switch core and the scheduler. -/
structure SwitchCore where
  /-- Core cycles since hub-die reset (R255). -/
  cycle : Nat := 0
  nextId : Nat := 0
  held : Table (Option Held) := []
  /-- Segments whose first cell has reached input p and whose admission is still to be decided. -/
  arriving : Table (List Nat) := []
  /-- Virtual output queues by 128 × input + 4 × output + class, and multicast queues by 4 × input + class. -/
  voq : Table (List Nat) := []
  mcq : Table (List Nat) := []
  residue : Table (List Residue) := []
  /-- The class contexts by 4 × output + class, and the output that input i last sent a cell of class c to by 4 × i + c
  (R236). -/
  contexts : Table (Option Crossing) := []
  turns : Table Nat := []
  /-- The shaper and regulator holds in force, by 4 × output + class (R260, R265). -/
  holds : List Nat := []
  mcDepth : Table Nat := []
  mcAvg : Table Nat := []
  lfsr : Nat := 0xACE1
  lowArmed : Bool := true
  wfq : Table Wfq := []
  shapers : Table (Option Bucket) := []
  regulators : Table (Option Bucket) := []
  gates : Table (Option Bucket) := []
  policers : Table (Option Policer) := []
  /-- Starts counted, or epochs counted, by each sampler (R276), and the samplers in force since an epoch. -/
  sampleCount : Table Nat := []
  sampleA : Table Word := []
  sampleB : Table Word := []
  /-- Root: the fetch tunnels in urgent state (R272), those for which URG_LONG has been raised, and for a station the
  pipes for which it has been raised. -/
  urgent : List Nat := []
  urgLong : List Nat := []
  /-- TLK_ALLOT writes that wait for their epoch and have been refused once, by trunk (R228). -/
  allotRefused : List Nat := []
deriving DecidableEq, Repr

/-- Rates and bursts of a tunnel, in the layout of TUNNEL_CREATE bytes 12–35 (R207). -/
structure Rates where
  cirAb : Nat := 0
  cirBa : Nat := 0
  pirAb : Nat := 0
  pirBa : Nat := 0
  cbsAb : Nat := 0
  cbsBa : Nat := 0
  pbsAb : Nat := 0
  pbsBa : Nat := 0
deriving DecidableEq, Repr

/-- A prepared retune (R210, R214): the new values, T_apply in ns, and which directions have been applied: 0 A to B,
1 B to A. -/
structure Prepared where
  rates : Rates
  at_ : Nat
  done : List Nat := []
deriving DecidableEq, Repr

/-- What a Damya keeps of a tunnel beside its entry: rates in force, taps, a prepared retune. -/
structure TunnelInfo where
  rates : Rates := {}
  taps : List Nat := []
  prep : Option Prepared := none
deriving DecidableEq, Repr

/-- A tunnel in the root's books (R203, R209). -/
structure BookEntry where
  ttype : Nat
  cls : Nat
  ringProt : Bool
  posA : Nat
  posB : Nat
  unitA : Nat
  subA : Nat
  unitB : Nat
  subB : Nat
  taps : List Nat
  /-- The UNIT byte of each tap. -/
  tapUnits : List Nat := []
  rates : Rates
  gen : Nat := 0
  /-- The retune pending and its T_apply in ns. -/
  retune : Option (Rates × Nat) := none
deriving DecidableEq, Repr

/-- What the root's Scribe waits for on behalf of a host command (R209, R212, R213). -/
inductive PhaseKind where
  | stage | open_ | closing | drain | remove | prepare
deriving DecidableEq, Repr

/-- A phase under way: the tunnel, the request, the positions still to answer, those that answered OK, and the first
other status. -/
structure Phase where
  kind : PhaseKind
  tid : Nat
  /-- SEQ of the packets sent, by which replies are known. -/
  seq : Nat
  /-- The host's request; none for the reinstallation of R192. -/
  req : Option Request
  waiting : List Nat
  ok : List Nat := []
  /-- Those that answered OK in the phase before (R209). -/
  staged : List Nat := []
  failed : Option Nat := none
  /-- The entry being made, or the new rates and T_apply of a retune. -/
  entry : Option BookEntry := none
  retune : Option (Rates × Nat) := none
deriving DecidableEq, Repr

/-- A route change that waits for T_r (R195), or one whose ingress pause runs. -/
structure RouteChange where
  op : Nat
  value : Nat
  ring : Bool
  at_ : Nat
  number : Nat
deriving DecidableEq, Repr

/-- A line-wide AUDIT under way at the root (R216): its job, the SEQ of its packets, and the stations that have not
answered. -/
structure LineAudit where
  job : Nat
  seq : Nat
  waiting : List Nat
deriving DecidableEq, Repr

/-- Tunnels, routes and the root's books. -/
structure Tunnels where
  info : Table TunnelInfo := []
  /-- N and the ring flag in force (R194); at the root STATIONS counts the ANNOUNCEs. -/
  n : Nat := 0
  /-- Positions whose ANNOUNCE the root has received, with SYS_ID (R192). -/
  announced : Table Nat := []
  books : Table (Option BookEntry) := []
  phases : List Phase := []
  /-- Entries to be installed again at a position, by TID, once the tunnel's phase under way has ended (R192). -/
  reinstall : List (Nat × Nat) := []
  seq : Nat := 0
  /-- Records already applied (R190). -/
  heals : List (Nat × Nat) := []
  changes : List Nat := []
  lastClear : Option Nat := none
  changeNumber : Nat := 0
  pendingChanges : List RouteChange := []
  /-- Tunnels whose new segments are held at the ingress, with the raw value at T_r (R196). -/
  paused : List (Nat × Nat) := []
  /-- HEAL records to be repeated: link, trunk and the next repeat number (R197). -/
  repeats : List (Nat × Nat × Nat) := []
  /-- The root has flooded the CLEAR of its restart (R192). -/
  cleared : Bool := false
  /-- An ASSIGN or a reply of POSITION_SET waits for its 1 ms (R193). -/
  assignDue : Bool := false
  assignWaiters : List Request := []
  /-- A trunk direction whose OVERCOMMIT has been raised and still holds (R205). -/
  oversold : List Nat := []
  audit : Option LineAudit := none
deriving DecidableEq, Repr

/-- The stored fields of a DATA flit (R144). -/
structure Flit where
  seq : Nat
  vc : Nat
  fill : Nat
  first : Nat
  payload : Bytes
  /-- Segments that end in the payload. -/
  ends : Nat := 0
deriving DecidableEq, Repr

/-- One channel of the transmit engine: bytes that have crossed and wait for flits, the offsets at which segments start
and end in them, the segment whose cells are still to come, the core cycle at which the bytes from each offset on were staged, and the
offset at which a flit must end because an abandoned segment stood there (R240). -/
structure TxChannel where
  stage : Bytes := []
  starts : List (Nat × Nat) := []
  ends : List (Nat × Nat) := []
  cur : Option Nat := none
  stamps : List (Nat × Nat) := []
  brk : Option Nat := none
deriving DecidableEq, Repr

/-- One channel of the receive engine (R146): the bytes of the segment in progress that precede its header's end, the
buffered segment they belong to, and the bytes still to come. -/
structure RxChannel where
  head : Bytes := []
  id : Option Nat := none
  got : Nat := 0
  len : Nat := 0
  active : Bool := false
deriving DecidableEq, Repr

/-- The link engines of one trunk (R139 to R178). -/
structure Link where
  tx : Table TxChannel := []
  rx : Table RxChannel := []
  replay : List Flit := []
  /-- The next flit of a replay in progress, by index in the replay buffer. -/
  replayAt : Option Nat := none
  nakArmed : Bool := true
  nakDue : Bool := false
  crv : Nat := 0
  /-- ACK and the CRCUM of each channel as last sent (R171). -/
  sentAck : Nat := 0xFFF
  sentFreed : Table Nat := []
  /-- Slots since the last link ordered set (R158). -/
  sinceSet : Nat := 16
  /-- NAKs ignored since their ACK was the last SEQ sent (R152). -/
  idleNaks : Nat := 0
  /-- The last good flit received told of nothing sent, acknowledged or freed at the far end (R171). -/
  farIdle : Bool := false
  /-- A LINK_INIT is due: one in each microsecond (R158); `initAt` is the raw value of the last. -/
  initAt : Option Nat := none
  /-- INIT: a LINK_INIT has been received, one with INIT_SEEN has been, and one with INIT_SEEN has been sent. -/
  initSeen : Bool := false
  farSeen : Bool := false
  seenSent : Bool := false
  initFails : Nat := 0
  /-- GRANT and position of the last LINK_INIT received. -/
  grants : List Nat := []
  farPos : Nat := 63
  /-- LINK_RESET sets still to be sent, and their reason. -/
  resets : Nat := 0
  resetReason : Nat := 0
  sentCum : Table Nat := []
  recvCum : Table Nat := []
  /-- The allotments that the far end last granted (R274). -/
  granted : Table Nat := []
  /-- The CREDIT_MOVE pending: DELTA and new ALLOT per channel; whether it waits for its slot; a CREDIT_MOVE_ACK that
  waits for its slot; the MOVE_ID applied last here. -/
  move : Option (List Int × List Nat) := none
  moveDue : Bool := false
  moveAck : Option Nat := none
  lastMove : Option Nat := none
  /-- A CREDIT_REPORT to be sent, one received that waits for its DATA flit, and the result of the last one (R166). -/
  reportDue : Bool := false
  reportId : Nat := 0
  report : Option Bytes := none
  audited : Option Bool := none
  /-- The link has been ACTIVE since the trunk was enabled (R36), and since it was last declared cut (R197). -/
  reached : Bool := false
  served : Bool := false
  /-- The core cycle at which a state that R172 excludes was last left or entered. -/
  exclAt : Nat := 0
deriving DecidableEq, Repr

/-- A place in a pattern (R134): the last 31 bits, newest lowest, and the number of symbols passed. -/
structure Place where
  hist : Nat := 0x7FFFFFFF
  pos : Nat := 0
deriving DecidableEq, Repr

/-- A pattern checker (R134): its place, the correct symbols in a row while it hunts, which of the last 64 symbols were in
error while it is locked, and the last symbol received. -/
structure Checker where
  place : Place := {}
  run : Nat := 0
  recent : List Bool := []
  prev : Nat := 0
deriving DecidableEq, Repr

/-- A lane's receive settings (R108, R133): TRL_RXEQp, TRL_PHASEp and the taps h2 to h12. -/
structure LaneSettings where
  rxeq : Word := 0
  phase : Word := 0
  taps : List Nat := []
deriving DecidableEq, Repr

/-- A recalibration of one logical lane (R123): the step reached, its lane and home lane, checks failed, whether it is being
abandoned (R127), and the settings saved before adaptation. -/
structure Recal where
  lane : Nat
  /-- 1 MIRROR_REQ asked, 2 mirrored, 3 RELEASE asked, 4 adapting, 5 RETURN_REQ asked, 6 both carry, 7 UNMIRROR asked. -/
  step : Nat
  fails : Nat := 0
  home : Nat
  abandon : Bool := false
  saved : Option LaneSettings := none
deriving DecidableEq, Repr

/-- Error injection on a trunk (R135, R137). -/
structure Injection where
  lanes : Nat
  kind : Nat
  form : Nat
  count : Nat
  interval : Nat
deriving DecidableEq, Repr

/-- The lanes of one trunk (R96 to R138). -/
structure Lanes where
  /-- The transmit direction's state in the TRL_STAT.TSTATE encoding. -/
  txState : Nat := 0
  /-- SEQ of the next lane ordered set. -/
  seq : Nat := 0
  /-- Receive pairs locked in BIT_LOCK, the good TRAIN_A sets seen in EXCHANGE, and those sent while the far end saw them. -/
  locked : Nat := 0
  goodA : Nat := 0
  sentA : Nat := 0
  farWidth : Nat := 2
  farPrecode : Bool := false
  /-- ROLE_CONFLICT has been raised for the far end's HELD (R116). -/
  conflict : Bool := false
  /-- EQ_DONE by lane of this receiver and of the far one; lanes for which the far end asks for precoding, and for which
  this receiver does (R115); the answer to the last coefficient request. -/
  eqDone : Nat := 0
  farEqDone : Nat := 0
  precodeTx : Nat := 0
  precodeRx : Nat := 0
  answer : Nat := 0
  /-- DESKEW has been retried at the narrower width. -/
  deskewRetried : Bool := false
  /-- The 1 s wait of R114 runs. -/
  backoff : Bool := false
  /-- Consecutive sets with a wrong CRC on each physical lane (R125), and the corrected bytes of the present window. -/
  badSets : Table Nat := []
  window : Table Nat := []
  /-- Steering to be sent in the next sets: STEER's OP and logical lane. -/
  steer : List (Nat × Nat) := []
  /-- The transmit direction: the logical lane on each physical lane, 15 for none; the physical lanes FAILED at the far
  receiver (HEALTH); the logical lane on the spare with the spare's number; a logical lane released from its own physical
  lane. -/
  carry : List Nat := [0, 1, 2, 3, 15]
  farFailed : Nat := 0
  mirror : Option (Nat × Nat) := none
  released : Option (Nat × Nat) := none
  /-- Bytes striped since the last lane ordered set, the scramblers by logical lane, and the precoders and the injected
  symbols still to come by physical lane (R99 to R101, R135). -/
  stripe : Nat := 0
  scr : Table Nat := []
  pre : Table Nat := []
  hits : Table (Nat × Bool) := []
  /-- Pattern generators and checkers by physical lane (R134). -/
  places : Table Place := []
  checkers : Table Checker := []
  /-- The DFE taps h2 to h12 by physical lane, in 1/128, two's complement (R108). -/
  taps : Table (List Nat) := []
  /-- Back-channel operations to be sent in the next ALIGNs: BC_OP and BC_LANE. -/
  back : List (Nat × Nat) := []
  recal : Option Recal := none
  /-- Logical lanes still to be done in the round, and a round that waits for its condition to end (R124). -/
  round : List Nat := []
  roundDue : Bool := false
  /-- A lane has been marginal, so that its next recalibration is brought forward (R125). -/
  early : Bool := false
  /-- Failed lanes that wait for the spare, or for the far end's MIRROR_START: logical lane, physical lane. -/
  failSteer : List (Nat × Nat) := []
  /-- The receive width asked for by RETRAIN_REQ, and the transmit width the far end has asked for. -/
  retrainRx : Option Nat := none
  retrainTx : Option Nat := none
  /-- HUSH_ENTER or DARK_ENTER sets still to be sent: the state being entered and how many. -/
  enter : Option (Nat × Nat) := none
  /-- The transmit direction is leaving HUSH or DARK; it is to enter DARK as soon as it may. -/
  leaving : Bool := false
  darkDue : Bool := false
  /-- Raw value and Tj at entry to DARK of the receive and the transmit direction; none without stored phases (R121). -/
  darkRx : Option (Nat × Nat) := none
  darkTx : Option (Nat × Nat) := none
  /-- Sets sent since the last HOP (R449). -/
  sinceHop : Nat := 0
  inject : Option Injection := none
  /-- A FAILED lane being retrained alone, and a widening that waits for its 10 s (R130). -/
  probe : Option Nat := none
  upgrade : Bool := false
  /-- Raw value of the receive direction's last width change (R130), and of the last LANE_MARGINAL of each lane (R125). -/
  widthAt : Option Nat := none
  marginalAt : Table Nat := []
deriving DecidableEq, Repr

/-- Clock source selection (R104 to R106). -/
structure Clocking where
  /-- A trunk of lower distance than the present source, which is being held (R105). -/
  candidate : Option Nat := none
deriving DecidableEq, Repr

end Sys2Proof
end

