-- ==== Sys2Proof/Machine/Types/Pcie.lean ====
section
/-!
DEFINITION. The state of the PCI Express ports, the virtual switch and the station function (chapter 8).
-/

namespace Sys2Proof

/-- What a requester of the station function asks for (R295): a memory write, a memory read, or a vector of its MSI
capability (R294). -/
inductive SfnKind where
  | write (addr : Nat) (data : Bytes)
  | read (addr len : Nat)
  | vector (v : Nat)
deriving DecidableEq, Repr

/-- A request that waits in its requester, SUB 0 to 4. -/
structure SfnReq where
  sub : Nat
  kind : SfnKind
deriving DecidableEq, Repr

/-- A tag in use: the requester that holds it, the read it stands for, and what its completions have brought. -/
structure SfnTag where
  tag : Nat
  sub : Nat
  addr : Nat
  len : Nat
  data : Bytes := []
deriving DecidableEq, Repr

/-- A virtual downstream port at the root (R289, R290, R312, R313). -/
structure Vdp where
  bound : Bool := false
  position : Nat := 0
  unit : Nat := 0
  /-- Link Active, and that the route has been DROP for DOWN_MS. -/
  active : Bool := false
  dropped : Bool := false
  /-- The last LEVELS bytes 2 to 4; none before the first. -/
  levels : Option Bytes := none
  hotResets : Nat := 0
  retrains : Nat := 0
  /-- SIDEBAND_NONE has been raised for this binding. -/
  noted : Bool := false
deriving DecidableEq, Repr

/-- A host request in the outstanding table (R291): requester, tag, virtual downstream port, and whether it is locked. -/
structure Outstanding where
  requester : Nat
  tag : Nat
  vdp : Nat
  locked : Bool := false
deriving DecidableEq, Repr

/-- A prefetch line (R304, R305), held or in flight: its address, port and tag, the window that fetched it, the raw value
and contents at its arrival, its completion status and completer, and the bytes the host has read. -/
structure PfLine where
  addr : Nat
  vdp : Nat
  window : Nat
  tag : Nat
  arrived : Option Nat := none
  data : Bytes := []
  status : Nat := 0
  completer : Nat := 0
  read : Nat := 0
deriving DecidableEq, Repr

/-- A host read that waits for lines: its TLP, address and length. -/
structure PfRead where
  tlp : Bytes
  addr : Nat
  len : Nat
  vdp : Nat
deriving DecidableEq, Repr

/-- What a station root port, or the root's upstream port, keeps at its link side (R300, R301, R307, R312). -/
structure PortSide where
  /-- Non-posted requests the link partner will take, and those parked. -/
  credit : Nat := 0
  park : List Bytes := []
  /-- Device requests that wait for the lock (R307). -/
  waiting : List Bytes := []
  /-- INTA to INTD as the device asserts them, and WAKE. -/
  intx : Nat := 0
  wake : Bool := false
  present : Bool := false
  powerFault : Bool := false
  /-- The last CONTROL acted on: bytes 2, 3, 6 and 7. -/
  control : Nat := 0
  speed : Nat := 0
  hotResets : Nat := 0
  retrains : Nat := 0
  noted : Bool := false
  /-- PME_Turn_Off has been sent and not acknowledged. -/
  pme : Bool := false
deriving DecidableEq, Repr

/-- PCI Express. -/
structure Pcie where
  /-- Configuration space by function and dword: 64 × 16 words for each; at the root function 0 is the upstream port
  function and 1 + v is virtual downstream port v, at a station function 0 is the station function. -/
  cfg : Table Word := []
  /-- Bus, device and function numbers of function 0, as captured. -/
  self : Nat := 0
  vdps : Table Vdp := []
  outst : List Outstanding := []
  /-- The completion route table: tunnel by requester ID × 1024 + tag. -/
  routes : Table Nat := []
  lines : List PfLine := []
  reads : List PfRead := []
  lineTag : Nat := 0
  /-- The semaphore: virtual downstream port at the root, 0 at a station, and the raw value at its acquisition. -/
  lock : Option (Nat × Nat) := none
  /-- Locked reads of the host that wait for the semaphore. -/
  lockWait : List Bytes := []
  /-- Non-posted requests of the host, with their port, that found the outstanding table full, and the non-posted header
  credits not yet returned to the host (R291). -/
  npWait : List (Nat × Bytes) := []
  creditOwed : Nat := 0
  ports : Table PortSide := []
  /-- INTA to INTD as the upstream port has sent them. -/
  intx : Nat := 0
  /-- The station function's requests and tags. -/
  want : List SfnReq := []
  /-- Vectors that wait behind a pending bit of the MSI capability (R294). -/
  pendingMsi : List Nat := []
  tags : List SfnTag := []
deriving DecidableEq, Repr

end Sys2Proof
end

