-- ==== Sys2Proof/Machine/Types/Power.lean ====
section
/-!
DEFINITION. The state of the Nib, the mode sequencer, the straps and the input balls, and the temperature, clock and
operating-point sequencing (chapters 1 and 16).
-/

namespace Sys2Proof

/-- The encoding of SYS_MODE.MODE (R33). -/
inductive Mode where
  | recovery | standby | idle | run | degraded | service
deriving DecidableEq, Repr

/-- How far the hub die is up. -/
inductive HubStage where
  /-- Rails down. -/
  | off
  /-- Rails rising: the Nib enables them in ascending order (R526). -/
  | rising
  /-- Rails up, power-on reset held (R526, R654). -/
  | held
  /-- Reset released: the ROM has chosen an image and authenticates it (R589). -/
  | rom
  /-- The Scribe section runs and reads the settings (R589). -/
  | scribe
  /-- The boot has completed, or the ROM serves RECOVERY. -/
  | up
  /-- Rails falling, in descending order (R526). -/
  | falling
deriving DecidableEq, Repr

/-- What the Nib does once the rails are down. -/
inductive AfterDown where
  | standby
  /-- After a rail fault (R527): the hub die stays unpowered until the next wake. -/
  | faulted
  | powerCycle
  | recoveryOnTcs
  | returnToIntake
deriving DecidableEq, Repr

/-- The mode sequencer (R542, R545): the transition under way and the step it waits in. -/
inductive Sequencer where
  | none
  /-- Ask phase toward IDLE or STANDBY. -/
  | ask (target : Mode)
  /-- Entry phase: wrapping stopped, waiting for the non-trunk output queues (step 2). -/
  | drain (target : Mode)
  /-- Entry phase: waiting for PME_TO_Ack of the station root ports named by the mask (step 4). -/
  | pmeWait (target : Mode) (ports : Nat)
  /-- Entry to IDLE: waiting for OP2 (step 5). -/
  | slow
  /-- IDLE to RUN: waiting for the point to change (step 1). -/
  | fast (cause : Nat)
  /-- IDLE to RUN: waiting for the trunks (step 4). -/
  | trunks (cause : Nat)
  /-- SERVICE entry: waiting for the 10 µs after the reply (R548). -/
  | serviceEntry
  /-- SERVICE exit: waiting for the units to return. -/
  | serviceExit
deriving DecidableEq, Repr

/-- The Nib, the mode sequencer and the thermal control. -/
structure Nib where
  /-- The power die runs (R653). -/
  on : Bool := true
  /-- The Nib's clock: time since the power die was powered, in the units of RAW (R440). -/
  clock : Nat := 0
  stage : HubStage := .off
  /-- Rails enabled: rails 0 to `rails` − 1. -/
  rails : Nat := 0
  /-- TCS_PATH_EN has been driven and its 1 ms has not passed (R526). -/
  pathSettling : Bool := false
  /-- A start on intake power waits for CH0's power-good (R526). -/
  startDue : Bool := true
  /-- HUB_VIN is fed from TCS (R40, R525). -/
  onTcs : Bool := false
  after : AfterDown := .standby
  /-- OFF_MIN_MS since the rails went down has not passed (R545). -/
  offMin : Bool := false
  /-- A wake or power cycle waits for OFF_MIN_MS. -/
  upDue : Bool := false
  /-- Damya stays in STANDBY: its rails went down and no start has followed (R42).  A start after a power-on or a
  hub-die reset ends no such stay. -/
  standby : Bool := false
  /-- STANDBY was entered by MODE_SET, so that the wake records STANDBY_EXIT (R549). -/
  standbyCmd : Bool := false
  /-- The boot under way ends a stay in STANDBY (R42), and whether a wake ended it. -/
  fromStandby : Option Bool := none
  /-- An entry was aborted since the last boot (R543, R552). -/
  aborted : Bool := false
  /-- A rail fault has happened since the last completed boot (R527). -/
  railNotice : Bool := false
  /-- A crystal stop has happened since the last completed boot (R531). -/
  xtalNotice : Bool := false
  /-- A thermal shutdown whose Tj has not yet read below 105 °C (R536). -/
  thermalHold : Bool := false
  /-- A recovery-domain start that waits for the thermal hold (R536). -/
  tcsDue : Bool := false
  /-- THERMAL for WARN is armed (R536). -/
  warnArmed : Bool := true
  seq : Sequencer := .none
  /-- The wake held during an ask or entry phase (R544): its source bit. -/
  heldWake : Option Nat := none
  /-- The wake being served: source bit, mode left, held during an entry (R557). -/
  wakeOf : Option (Nat × Nat × Bool) := none
  /-- Unit codes under test (R548). -/
  underTest : List Nat := []
  /-- Unit codes mapped out (R35). -/
  mappedOut : List Nat := []
  /-- The raw value at the last watchdog expiry (R551). -/
  watchdogAt : Option Nat := none
  /-- Wrong passwords in a row, held on the power die (R77), and the hold after the last. -/
  wrongPasswords : Nat := 0
  lockout : Bool := false
  /-- Handles of the sessions that the last hub-die reset closed, for SESSION_CLOSED with reason 3 (R74, R95). -/
  lostSessions : List Nat := []
  /-- The tamper latch (R573). -/
  tamperLatch : Bool := false
  /-- VOUT_COMMANDs refused in a row by the regulator (R533). -/
  pmbusNacks : Nat := 0
  /-- The point whose voltage VDD_CORE has, the point last commanded, and the cause OP_CHANGED will carry (R533,
  R557). -/
  volt : Nat := 2
  vCmd : Nat := 2
  opCause : Nat := 1
  /-- OP_SET requests that are answered when the change completes (R547). -/
  opWaiters : List Request := []
deriving DecidableEq, Repr

/-- Input balls whose level a rule reads, as last seen (R542, R572), and MGMT_MODE as sampled (R630). -/
structure Pins where
  mgmtI2c : Bool := false
  wakeN : Bool := true
  mgmtCsN : Bool := true
  tamperN : Bool := true
deriving DecidableEq, Repr

/-- What Meridian keeps for one trunk (R450 to R452): the delay samples, newest first; the last 64 launches and arrivals
of lane ordered sets by SEQ; the latest HOP. -/
structure MerTrunk where
  samples : List Int := []
  tx : List (Nat × Nat) := []
  rx : List (Nat × Nat) := []
  /-- The latest HOP: MGEN, DIST and the raw value at its arrival. -/
  hop : Option (Nat × Nat × Nat) := none
  /-- GEN of the latest HOP. -/
  farGen : Option Nat := none
  /-- This Damya's clock source has changed since its last HOP on this trunk (SRC_CHG). -/
  srcChanged : Bool := false
  /-- Sets sent in the count of R449, and the SEQ and raw value of the set that began it. -/
  sets : Nat := 0
  began : Nat × Nat := (0, 0)
  /-- A HOP is owed as the direction has left HUSH (R447). -/
  hopDue : Bool := false
deriving DecidableEq, Repr

/-- Meridian (R440 to R458): RAW in units of 2^−16 of a TCLK period, the anchors, the slew, the pending rate, and the
bookkeeping of the parent and the master. -/
structure Meridian where
  raw : Nat := 0
  anchorRaw : Nat := 0
  anchorTime : Int := 0
  rateAdj : Int := 0
  slewed : Int := 0
  /-- The correction still to be made when it was last set or folded, and the raw value of that moment (R443). -/
  pend : Int := 0
  pendRaw : Nat := 0
  /-- A pending rate and its apply time in whole ns (R455). -/
  rateNext : Option (Int × Nat) := none
  /-- Consecutive HOPs in ACQUIRE with |ε| ≤ 1 ns (R456). -/
  goodHops : Nat := 0
  /-- The 1 ms without a parent after a loss or a new MGEN runs (R447). -/
  holdoff : Bool := false
  /-- A candidate of lower distance that is being held (R447). -/
  candidate : Option Nat := none
  /-- The root's MGEN window is open, and the highest MGEN received in it (R445). -/
  mgenWindow : Bool := false
  mgenDone : Bool := false
  mgenSeen : Option Nat := none
  /-- The root's TIME_MASTER setting (R445). -/
  timeMaster : Nat := 0
  /-- The raw value of the last change of this Damya's own clock source (R452). -/
  srcRaw : Option Nat := none
  /-- The core cycle, by its RAW, of the last step, what the steps in it add up to, and how many they are (R464). -/
  stepRaw : Nat := 0
  stepBack : Int := 0
  stepCount : Nat := 0
  trunks : Table MerTrunk := []
deriving DecidableEq, Repr

/-- One TIO pin (R460 to R464): the schedule in force and the pulse under way, times in 2^−16 ns. -/
structure TioPin where
  armed : Bool := false
  start : Nat := 0
  /-- The next pulse of the schedule. -/
  k : Nat := 0
  /-- Pulses left; `none` without end. -/
  left : Option Nat := none
  /-- When the pulse under way ends. -/
  endAt : Option Nat := none
deriving DecidableEq, Repr

end Sys2Proof
end

