-- ==== Sys2Proof/Machine/Types/Secure.lean ====
section
/-!
DEFINITION. Keys, life cycle, OTP, flash and firmware state (chapters 17 and 18).
-/

namespace Sys2Proof

/-- What an Inkwell slot holds (R558, R559): the key and the ATTR bits a loader gave (USE, ALLOW_*, PERSIST). -/
structure KeySlot where
  key : Bytes
  attr : Nat
deriving DecidableEq, Repr

/-- One OTP key slot (R558, R565, R566).  `factory` marks the two slots Grarex programs, whose keys are not published
(R656). -/
structure OtpSlot where
  programmed : Bool := false
  retired : Bool := false
  factory : Bool := false
  key : Bytes := []
  attr : Nat := 0
  check : Bytes := []
deriving DecidableEq, Repr

/-- One copy of the settings area in flash (R594). -/
structure SettingsCopy where
  good : Bool := false
  format : Nat := 0
  seq : Nat := 0
  records : List (Nat × Bytes) := []
deriving DecidableEq, Repr

/-- The current entry of the boot record (R585, R586): state, attempts and version of slots A and B. -/
structure BootRecord where
  good : Bool := false
  seq : Nat := 0
  stA : Nat := 4
  stB : Nat := 4
  attA : Nat := 0
  attB : Nat := 0
  verA : Nat := 0
  verB : Nat := 0
  fallback : Nat := 0
deriving DecidableEq, Repr

/-- What OTP and flash hold: kept without power. -/
structure NonVol where
  otp : Table OtpSlot := []
  /-- The service password's salt and verifier (R75, R565); `pwPartial` marks one cut short (R567). -/
  password : Option (Bytes × Bytes) := none
  pwPartial : Bool := false
  /-- LCS_STATE.STATE and RETURNS as the ROM reads them from OTP (R569, R570). -/
  lifeCycle : Nat := 0
  returns : Nat := 0
  deviceId : Nat := 0
  calTx : Nat := 0
  calRx : Nat := 0
  /-- The flash answers its reads and writes (R600 reason 3). -/
  flashOk : Bool := true
  /-- Images by 4096-byte block (R581, R582). -/
  slotA : Table Bytes := []
  slotB : Table Bytes := []
  record : BootRecord := {}
  /-- A rejected trial that no completed boot has reported yet: slot, version, reason (R587, R604). -/
  fallbackDue : Option (Nat × Nat × Nat) := none
  copy0 : SettingsCopy := {}
  copy1 : SettingsCopy := {}
deriving DecidableEq, Repr

/-- Inkwell on the hub die. -/
structure Inkwell where
  slots : Table (Option KeySlot) := []
  otpErr : Nat := 0
  /-- The entropy source has failed its health test since the last boot (R563). -/
  drbgBad : Bool := false
  /-- Requests to the generator since it was last seeded (R563). -/
  draws : Nat := 0
deriving DecidableEq, Repr

/-- The running image and the update under way. -/
structure Firmware where
  /-- The slot the ROM chose and whether it runs as a trial (R587). -/
  slot : Nat := 0
  trial : Bool := false
  /-- The update under way: slot and IMAGE_LEN, and the hash of each block written (R591, R592). -/
  update : Option (Nat × Nat) := none
  written : Table Bytes := []
  /-- IMAGE_LEN of the last FW_BEGIN, for FWU_UPD.TOTAL (R602). -/
  length : Nat := 0
  /-- The settings in force, as read at the last start (R594, R597), and the reason of a SETTINGS_RESET to raise. -/
  settings : List (Nat × Bytes) := []
  settingsReset : Option (Nat × Nat) := none
  /-- Sub-processor sections as loaded: Nib, Tuner, scan-out sequencer, point engine (R590), and those that wait for
  their unit's safe point. -/
  loaded : Table Bytes := []
  waiting : Table Bytes := []
  /-- M_FW, M_SUB and M_CFG of R574. -/
  mFw : Bytes := []
  mSub : Bytes := []
  mCfg : Bytes := []
  /-- The hitless restart under way: its cause (R604) and the slot it loads. -/
  restart : Option (Nat × Nat) := none
deriving DecidableEq, Repr

/-- Comets: one segment followed from arrival to end (R613 to R616). -/
structure Comet where
  id : Nat
  /-- The buffered segment it follows. -/
  seg : Nat
  selector : Nat
  dropsOnly : Bool
  input : Nat
  output : Nat
  tid : Nat
  sseq : Nat
  cls : Nat
  color : Nat
  len : Nat
  hop : Nat
  flags : Nat
  gen : Nat
  start : Nat
  time : Int
  /-- Offsets of stages 1 to 8 in 2^−4 ns; unlisted stages were never reached. -/
  stages : Table Nat
  depth : Nat
deriving DecidableEq, Repr

/-- Counter snapshot bank and Comet unit (R607, R614 to R619). -/
structure Perf where
  bank : Table Nat := []
  bankOvf : List Nat := []
  /-- The Comet generator. -/
  lfsr : Nat := 1
  comets : List Comet := []
  /-- Selectors as in force since the last epoch: pairs of words A and B (R617). -/
  selA : Table Word := []
  selB : Table Word := []
deriving DecidableEq, Repr

end Sys2Proof
end

