-- ==== Sys2Proof/Machine/Types/Usb.lean ====
section
/-!
DEFINITION. The state of the USB host engine, its ports, and the service port USBS (chapter 10).
-/

namespace Sys2Proof

/-- A transfer descriptor that has been fetched and has not finished (R362). -/
structure UsbTd where
  index : Nat
  buf : Nat
  len : Nat
  type : Nat
  ctx : Nat
  flags : Nat
  setup : Bytes
  param : Bytes
  /-- It has reached the head of its context and has been started. -/
  started : Bool := false
  /-- CONTROL: 0 setup stage, 1 data stage, 2 status stage. -/
  stage : Nat := 0
  /-- Bytes moved, the bytes an IN transfer has brought, the bytes an OUT transfer sends. -/
  moved : Nat := 0
  got : Bytes := []
  out : Bytes := []
  /-- The zero-length packet that ends an OUT transfer is still to be sent. -/
  zlp : Bool := false
  short : Bool := false
deriving DecidableEq, Repr

/-- An endpoint context (R363), but for its port and region, which USBMEM_CTXc holds. -/
structure UsbCtx where
  addr : Nat := 0
  ep : Nat := 0
  isIn : Bool := false
  etype : Nat := 0
  speed : Nat := 0
  mps : Nat := 0
  interval : Nat := 0
  hubAddr : Nat := 0
  hubPort : Nat := 0
  tt : Nat := 0
  halted : Bool := false
  toggle : Bool := false
  /-- Consecutive transaction errors. -/
  errors : Nat := 0
deriving DecidableEq, Repr

/-- A host port. -/
structure UsbPort where
  /-- The rings are in use; RING_EN has been written 1 and its rise has not been acted on. -/
  on : Bool := false
  due : Bool := false
  tdBase : Nat := 0
  burstBase : Nat := 0
  log2 : Nat := 4
  tdCons : Nat := 0
  tds : List UsbTd := []
  /-- Bursts that wait for room: IN data with its address, bytes 2 to 15, IOC. -/
  held : List (Nat × Bytes × Bytes × Bool) := []
  frame : Nat := 0
  micro : Nat := 0
  /-- The context whose transaction is on the bus. -/
  busy : Option Nat := none
  /-- Interrupt contexts still to be served in this (micro)frame, control contexts that have had their turn with a NAK,
  the contexts served last, and whether time is left for another transaction before EOF1. -/
  polls : List Nat := []
  naked : List Nat := []
  lastControl : Nat := 255
  lastBulk : Nat := 255
  room : Bool := true
  /-- Bus time in ns that interrupt transactions have taken in this (micro)frame (R374). -/
  periodic : Nat := 0
  /-- A reset or a suspend that waits for the packet in progress or for the boundary. -/
  resetDue : Bool := false
  suspendDue : Bool := false
  /-- The resume in progress answers a remote wake; the port was suspended by the entry to IDLE (R380). -/
  waking : Bool := false
  byMode : Bool := false
deriving DecidableEq, Repr

/-- The service port's device controller (R381 to R385). -/
structure Usbs where
  /-- HS_EN as applied at the attach. -/
  hsAllowed : Bool := false
  /-- A control transfer in progress: its setup packet. -/
  ctrl : Option Bytes := none
  /-- The EP3 report that waits, and bytes 0 and 1 as last reported. -/
  ep3 : Option Bytes := none
  last : Nat × Nat := (1, 0)
  /-- The remote wake under way: slices driven. -/
  slices : Option Nat := none
  /-- Endpoints whose halt feature is set. -/
  halted : List Nat := []
deriving DecidableEq, Repr

/-- USB. -/
structure Usb where
  ports : Table UsbPort := []
  ctxs : Table UsbCtx := []
  msi : Moderation := {}
  dev : Usbs := {}
deriving DecidableEq, Repr

end Sys2Proof
end

