-- ==== Sys2Proof/Machine/State.lean ====
section
/-!
DEFINITION. The machine's state: every register, buffer, queue, timer and ball the manual gives Damya, as plain data,
and the queue of commands that wait.
-/

namespace Sys2Proof.Machine

/-- Why the machine stops. -/
inductive Fault where
  /-- Raised by no meaning: no run ends in it, so it is safe. -/
  | stopped
deriving DecidableEq, Repr

/-- Why a command is not run. -/
inductive Refusal where
  /-- The row has no meaning yet.  Raised by `exec`'s arms only; safe. -/
  | notModelled (mnemonic : String)
deriving DecidableEq, Repr

/-- Damya's state. -/
structure State where
  /-- The commands that wait, first in, first out. -/
  pending : List Instr := []
  /-- Every register of the register map (R11 to R18): the value a read returns, the shadow for an RWS field. -/
  regs : Table Word := []
  /-- The active copies of registers with RWS fields (R13). -/
  act : Table Word := []
  /-- The 768 event counters and their OVF bits (R605, R611). -/
  counters : Table Nat := []
  overflow : List Nat := []
  out : List Output := []
  fresh : Nat := 0
  limits : Table Limit := []
  nseq : Nat := 0
  pins : Pins := {}
  nib : Nib := {}
  cmd : Cmd := {}
  queues : Table Queue := []
  mer : Meridian := {}
  tio : Table TioPin := []
  nv : NonVol := {}
  ink : Inkwell := {}
  fw : Firmware := {}
  perf : Perf := {}
  sw : SwitchCore := {}
  tun : Tunnels := {}
  links : Table Link := []
  lanes : Table Lanes := []
  clk : Clocking := {}
  pcie : Pcie := {}
  eth : Eth := {}
  point : Point := {}
  dsp : Display := {}
  usb : Usb := {}
  fuses : Table Fuse := []
  tc : TypeC := {}
deriving DecidableEq, Repr

/-- The machine right after reset. -/
def State.reset : State := {}

end Sys2Proof.Machine
end

