-- ==== Sys2Proof/Machine/Ops.lean ====
section
/-!
DEFINITION. The named operations every meaning is written with: reading and writing register fields, the Meridian
reading, event counters, the standard queues' producer, notices, free values and the record of what leaves Damya.
-/

namespace Sys2Proof

open Sys2Proof.Machine

/-- The encoding of a mode (R33). -/
def Mode.code : Mode → Nat
  | .recovery => 0 | .standby => 1 | .idle => 2 | .run => 3 | .degraded => 4 | .service => 5

/-- Raw units turned into 2^−16 ns at the rate in force (R442). -/
def Meridian.ns16 (m : Meridian) (d : Int) : Int :=
  let e := (d * 16).tdiv 25
  e + (e * m.rateAdj) / (2 ^ 40 : Int)

/-- The slew applied so far since PEND was set: at most PEND, at SLEW_PPB (R443). -/
def Meridian.slewDone (m : Meridian) (ppb r : Nat) : Int :=
  let t := m.ns16 ((r : Int) - m.pendRaw)
  let k := (max 0 t * (orOne ppb : Nat)) / (1000000000 : Int)
  if m.pend < 0 then -(min k (-m.pend)) else min k m.pend

/-- Entries between F and an index (R84). -/
def Queue.dist (x : Queue) (i : Nat) : Nat := (i + 65536 - x.f) % 65536

/-- W − F (R84). -/
def Queue.occupancy (x : Queue) : Nat := x.dist x.w

/-- The two copies of every index agree (R87). -/
def Queue.agrees (x : Queue) : Bool := x.w == x.w2 && x.f == x.f2 && x.c == x.c2 && x.m == x.m2

/-- Both copies of the indices take new values, modulo 65,536 (R83, R87). -/
def Queue.move (x : Queue) (w f c m : Nat) : Queue :=
  let w := w % 65536
  let f := f % 65536
  let c := c % 65536
  let m := m % 65536
  { x with w := w, w2 := w, f := f, f2 := f, c := c, c2 := c, m := m, m2 := m }

/-- The reset of R87 and R91: the occupancy is added to LOST, every index is 0 and the level interrupt re-arms. -/
def Queue.reset (x : Queue) : Queue :=
  { (x.move 0 0 0 0) with lost := satAdd 0xFFFF x.lost x.occupancy, armed := true, pendingIrq := false, slots := [] }

/-- The producer's write of entry `e` at W in a queue of capacity `cap` (R85): a full queue frees its oldest entry first
and counts it in LOST, and C and M move on with F where they stood on it; in DMA mode they are not in use. -/
def Queue.push (x : Queue) (cap : Nat) (e : Bytes) : Queue :=
  let full := x.occupancy == cap
  let f' := if full then x.f + 1 else x.f
  let c' := if full && !x.dma && x.dist x.c < 1 then f' else x.c
  let m' := if full && !x.dma && x.dist x.m < 1 then f' else x.m
  { x.move (x.w + 1) f' c' m' with
    lost := if full then satAdd 0xFFFF x.lost 1 else x.lost
    slots := Table.set (fun _ => []) x.slots (x.w % cap) e }

end Sys2Proof

namespace Sys2Proof.Machine

/-- What a meaning answers. -/
abbrev Out := Host.Outcome State Fault Refusal

/-- The state an outcome answers; `s` where it answers none. -/
def stateOf (o : Out) (s : State) : State :=
  match o with
  | .next t => t
  | _ => s

/-! Registers -/

/-- The word a register holds: its current value, or the shadow for an RWS field (R13). -/
def State.reg (s : State) (a : Nat) : Word := Table.get regReset s.regs a

/-- The machine with the register's word replaced. -/
def State.setReg (s : State) (a : Nat) (w : Word) : State := { s with regs := Table.set regReset s.regs a w }

/-- A field's value. -/
def State.rd (s : State) (f : Fld) : Nat := f.get (s.reg f.addr)

/-- A one-bit field as a truth value. -/
def State.flag (s : State) (f : Fld) : Bool := s.rd f != 0

/-- Hardware sets a field; the register's other bits are kept. -/
def State.wr (s : State) (f : Fld) (v : Nat) : State := s.setReg f.addr (f.put (s.reg f.addr) v)

/-- Hardware sets a one-bit field. -/
def State.put (s : State) (f : Fld) (b : Bool) : State := s.wr f (b2n b)

/-- The active copy of a register with RWS fields. -/
def State.actReg (s : State) (a : Nat) : Word := Table.get regReset s.act a

/-- A field's value in the active copy. -/
def State.rdAct (s : State) (f : Fld) : Nat := f.get (s.actReg f.addr)

/-- The shadow of the register at `a` becomes active (R13). -/
def State.latchReg (s : State) (a : Nat) : State := { s with act := Table.set regReset s.act a (s.reg a) }

/-- The shadows of several registers become active together. -/
def State.latchRegs (s : State) (as : List Nat) : State := as.foldl State.latchReg s

/-- Adds to a field and stops at the field's largest value (R612). -/
def State.bump (s : State) (f : Fld) (n : Nat := 1) : State := s.wr f (satAdd (2 ^ f.width - 1) (s.rd f) n)

/-- Adds to a field, wrapping (R612). -/
def State.incr (s : State) (f : Fld) (n : Nat := 1) : State := s.wr f (s.rd f + n)

/-! Who and where -/

/-- The sampled role is the root (R2, SYS_MODE.ROLE). -/
def State.isRoot (s : State) : Bool := s.flag Reg.SYS_MODE_ROLE

/-- SYS_MODE.POSITION. -/
def State.position (s : State) : Nat := s.rd Reg.SYS_MODE_POSITION

/-- SYS_MODE.MODE. -/
def State.mode (s : State) : Nat := s.rd Reg.SYS_MODE_MODE

/-- The mode is RUN, DEGRADED or SERVICE: the data plane is in service (R30). -/
def State.inService (s : State) : Bool := s.mode == 3 || s.mode == 4 || s.mode == 5

/-- The hub die's power-on reset is released. -/
def State.hubOn (s : State) : Bool := s.nib.on && (s.nib.stage == .rom || s.nib.stage == .scribe || s.nib.stage == .up)

/-- Scribe, or the ROM in RECOVERY, serves commands. -/
def State.serving (s : State) : Bool := s.nib.on && s.nib.stage == .up

/-- A hub-die event: it acts while the hub die's power-on reset is released, and cannot occur otherwise. -/
def onHub (f : State → State) (s : State) : Out := .next (if s.hubOn then f s else s)

/-- A power-die event: it acts while the power die runs. -/
def onNib (f : State → State) (s : State) : Out := .next (if s.nib.on then f s else s)

/-! What leaves Damya -/

/-- Records something an observer sees. -/
def State.emit (s : State) (o : Output) : State := { s with out := s.out ++ [o] }

/-- Records several. -/
def State.emits (s : State) (o : List Output) : State := { s with out := s.out ++ o }

/-- Drives an output ball. -/
def State.pin (s : State) (name : String) (level : Nat) : State := s.emit (.pin name level)

/-! Free values -/

/-- A free number below 2^w, and the machine with the next one in turn (log entry 3). -/
def State.free (s : State) (w : Nat) : Nat × State := (Config.freeNat s.fresh % 2 ^ w, { s with fresh := s.fresh + 1 })

/-- `n` free bytes. -/
def State.freeBytes (s : State) (n : Nat) : Bytes × State :=
  ((List.range n).map fun i => Config.freeByte (s.fresh + i), { s with fresh := s.fresh + n })

/-! Meridian -/

/-- Raw units of one TCLK period of 640 ps (R440). -/
def rawPeriod : Nat := 65536

/-- Raw units in a number of nanoseconds, rounded down: 1 ns is 25/16 of a period (R440). -/
def rawOfNs (ns : Nat) : Nat := ns * 25 * rawPeriod / 16

/-- Raw units of one second. -/
def rawSecond : Nat := rawOfNs 1000000000

/-- The reading of raw value `r` in 2^−16 ns (R442). -/
def State.readingAt (s : State) (r : Nat) : Int :=
  let m := s.mer
  m.anchorTime + m.ns16 ((r : Int) - m.anchorRaw) + m.slewed + m.slewDone (s.rd Reg.MER_SERVO_SLEW_PPB) r

/-- The present reading. -/
def State.reading (s : State) : Int := s.readingAt s.mer.raw

/-- The SEC, NSEC and FRAC parts of a reading (R441). -/
def secOf (t : Int) : Nat := t.toNat / 65536 / 1000000000
def nsecOf (t : Int) : Nat := t.toNat / 65536 % 1000000000
def fracOf (t : Int) : Nat := t.toNat % 65536

/-- SEC, NSEC and FRAC as a record carries them: 6, 4 and 2 bytes, little-endian. -/
def timeBytes (t : Int) : Bytes := le 6 (secOf t) ++ le 4 (nsecOf t) ++ le 2 (fracOf t)

/-- The 2^−16 ns count that SEC, NSEC and FRAC spell. -/
def timeOf (sec nsec frac : Nat) : Nat := (sec * 1000000000 + nsec) * 65536 + frac

/-- MER_STAT.RUN (R457). -/
def State.merRun (s : State) : Bool := s.flag Reg.MER_STAT_RUN

/-- The reading a record carries: 0 while Meridian is not running (R93, R457). -/
def State.stamp (s : State) : Int := if s.merRun then s.reading else 0

/-! The standard queues -/

/-- Capacity and entry size of queue q (R83). -/
def queueCap (q : Nat) : Nat := [512, 4096, 2048, 1024].getD q 1
def queueBytes (q : Nat) : Nat := [32, 16, 64, 16].getD q 16

/-- Queue q. -/
def State.queue (s : State) (q : Nat) : Queue := Table.get (fun _ => {}) s.queues q

/-- The machine with queue q replaced. -/
def State.setQueue (s : State) (q : Nat) (x : Queue) : State := { s with queues := Table.set (fun _ => {}) s.queues q x }

/-- The level in force: 0 and values above capacity disable the interrupt (R90). -/
def State.queueLevel (s : State) (q : Nat) : Nat :=
  let l := s.rd (Reg.QUE_CFG_LEVEL q)
  if l > queueCap q then 0 else l

/-- Re-arms the level interrupt when occupancy has fallen below LEVEL (R86). -/
def State.rearm (s : State) (q : Nat) (x : Queue) : Queue :=
  if x.occupancy < s.queueLevel q then { x with armed := true, pendingIrq := false } else x

/-! Host memory and messages to the host (R89, R294, R295) -/

/-- A requester of the station function asks for something; it waits until the function issues it. -/
def State.sfnAsk (s : State) (sub : Nat) (k : SfnKind) : State :=
  { s with pcie := { s.pcie with want := s.pcie.want ++ [{ sub := sub, kind := k }] } }

/-- Damya writes host memory: at the root through the upstream port function, at a station through requester SUB. -/
def State.hostWrite (s : State) (sub addr : Nat) (data : Bytes) : State :=
  if s.isRoot then s.emit (.hostWrite addr data) else s.sfnAsk sub (.write addr data)

/-- What an unwritten dword of configuration space holds beside its constant bits: the severity of uncorrectable errors
and the mask of correctable errors of the AER capability have reset values of their own (PRESUMED, the PCI Express Base
Specification's, log entry 21), every other dword 0.  The key is 1024 times the function plus the dword. -/
def cfgDefault (k : Nat) : Word :=
  if k % 1024 = 0x43 then (if k / 1024 = 0 then 0x00062010 else 0x00062030)
  else if k % 1024 = 0x45 then 0x00002000
  else 0

/-- A word of function 0's configuration space as it is stored. -/
def State.cfgWord (s : State) (d : Nat) : Nat := (Table.get cfgDefault s.pcie.cfg d).toNat

/-- The requester that carries a vector (R294). -/
def vectorSub (v : Nat) : Nat :=
  if v == 0 then 4 else if v == 6 then 0 else if v == 7 then 1 else if v == 8 then 2 else 3

/-- Vector v, sent as n, is masked: its pending bit is set, and it goes when the mask bit is cleared (R294). -/
def State.msiPends (s : State) (v n : Nat) : State :=
  let w : Word := BitVec.ofNat 32 (setBit (s.cfgWord 0x25) n)
  let again := bit (s.cfgWord 0x25) n
  { s with pcie := { s.pcie with
    cfg := Table.set cfgDefault s.pcie.cfg 0x25 w
    pendingMsi := if again then s.pcie.pendingMsi else s.pcie.pendingMsi ++ [v] } }

/-- A vector fires (R294): at the root the MSI leaves where host software has enabled it and not masked the vector; at a
station the requester named for the vector carries it. -/
def State.sendMsi (s : State) (v : Nat) : State :=
  if !s.isRoot then s.sfnAsk (vectorSub v) (.vector v)
  else
    let c := s.cfgWord 0x20
    let n := v % 2 ^ bits c 22 20
    if !bit c 16 then s
    else if bit (s.cfgWord 0x24) n then s.msiPends v n
    else s.emit (.msi n)

/-- The ring's entry and trailer writes in DMA mode (R89).  The 10 bytes of the trailer behind W, F and LOST are written as
0 (DESIGN CHOICE, log entry 64). -/
def State.queueDma (s : State) (q : Nat) (x : Queue) (i : Nat) (e : Bytes) : State :=
  if x.dma then
    (s.hostWrite 3 (x.ring + i % queueCap q * queueBytes q) e).hostWrite 3 (x.ring + queueCap q * queueBytes q)
      (le 2 x.w ++ le 2 x.f ++ le 2 x.lost ++ zeros 10)
  else s

/-- The producer of R85 on a queue whose copies agree, without the QUEUE_LEVEL notice; the flag says that the level was
crossed. -/
def State.producePlain (s : State) (q : Nat) (e : Bytes) : State × Bool :=
  let x := s.queue q
  if !s.flag (Reg.QUE_CFG_ENABLE q) then
    (s.setQueue q { x with lost := satAdd 0xFFFF x.lost 1 }, false)
  else
    let y := x.push (queueCap q) e
    let level := s.queueLevel q
    let cross := level != 0 && y.occupancy == level && y.armed
    let irq := cross && s.flag (Reg.QUE_CFG_INT_EN q)
    let z := if cross then { y with armed := false, pendingIrq := y.pendingIrq || (irq && !y.dma) } else y
    let s := (s.setQueue q z).queueDma q z x.w e
    (if irq && z.dma then s.sendMsi (q + 1) else s, cross)

/-- A notice entry of R93 for the present instant. -/
def State.noticeEntry (s : State) (code : Nat) (detail : Bytes) : Bytes :=
  le 2 code ++ [byte s.position, 0] ++ le 2 s.nseq ++ [0, 0] ++ timeBytes s.stamp ++ padTo 12 detail

/-- A notice's entry goes into a notice queue whose copies agree (R93). -/
def State.noticePlain (s : State) (code : Nat) (detail : Bytes) : State :=
  ({ s with nseq := (s.nseq + 1) % 65536 }.producePlain 0 (s.noticeEntry code detail)).1

/-- The integrity reset of a queue whose copies differ (R87): the queue is reset, INTEG is set and QUEUE_INTEGRITY is
raised, for the notice queue as its first entry. -/
def State.integrityReset (s : State) (q : Nat) : State :=
  let y := (s.queue q).reset
  (s.setQueue q { y with integ := true }).noticePlain 0x0104 (byte q :: le 2 y.lost)

/-- The copies of the notice queue's indices are compared before an entry goes in (R87). -/
def State.noticeCompared (s : State) : State := if (s.queue 0).agrees then s else s.integrityReset 0

/-- The copies of queue q's indices are compared before an update of them (R87). -/
def State.compared (s : State) (q : Nat) : State :=
  if (s.queue q).agrees then s else if q == 0 then s.integrityReset 0 else s.noticeCompared.integrityReset q

/-- Raises a notice (R93, R94): one entry into queue 0, while the hub die runs. -/
def State.notice (s : State) (code : Nat) (detail : Bytes := []) : State :=
  if s.hubOn then s.noticeCompared.noticePlain code detail else s

/-- The producer of R85 on queue q, without the QUEUE_LEVEL notice; the flag says that the level was crossed. -/
def State.produceRaw (s : State) (q : Nat) (e : Bytes) : State × Bool := (s.compared q).producePlain q e

/-- The producer of R85 on queue q; for queues 1 to 3 an upward crossing raises QUEUE_LEVEL (R86). -/
def State.produce (s : State) (q : Nat) (e : Bytes) : State :=
  let (s, cross) := s.produceRaw q e
  if cross && q != 0 then s.notice 0x0103 (byte q :: le 2 (s.queue q).occupancy) else s

/-- Raises a notice at most once per second for each key; the detail is given how many events stand for it, the `n` that
call for it now included. -/
def State.limited (s : State) (key : Nat) (code : Nat) (detail : Nat → Bytes) (n : Nat := 1) : State :=
  let l := Table.get (fun _ => {}) s.limits key
  let put (s : State) (l : Limit) := { s with limits := Table.set (fun _ => {}) s.limits key l }
  let due := match l.last with
    | none => true
    | some t => s.mer.raw ≥ t + rawSecond
  if due then (put s { last := some s.mer.raw, count := 0 }).notice code (detail (satAdd 0xFFFF l.count n))
  else put s { l with count := satAdd 0xFFFF l.count n }

/-! Event counters -/

/-- Event counter i (R605). -/
def State.counter (s : State) (i : Nat) : Nat := Table.get (fun _ => 0) s.counters i

/-- Adds to event counter i; passing 2^48 − 1 wraps, sets OVF and raises COUNTER_WRAP, which names the first counter that
wrapped since the last one (R611, R620).  Nothing counts while
the hub die is unpowered (R605). -/
def State.count (s : State) (i : Nat) (n : Nat := 1) : State :=
  if !s.hubOn then s else
  let v := s.counter i + n
  let s := { s with counters := Table.set (fun _ => 0) s.counters i (v % 2 ^ 48) }
  if v < 2 ^ 48 then s
  else
    let l := Table.get (fun _ => {}) s.limits 0x0901_0000
    let first := if l.count == 0 then i else l.first
    ({ s with overflow := if s.overflow.contains i then s.overflow else i :: s.overflow
              limits := Table.set (fun _ => {}) s.limits 0x0901_0000 { l with first := first } }).limited 0x0901_0000 0x0901
      (fun k => le 2 first ++ le 2 k)

/-! Modes and degrading conditions -/

/-- Sets SYS_MODE.MODE and TARGET together, with no transition under way. -/
def State.setMode (s : State) (m : Nat) : State :=
  ((s.wr Reg.SYS_MODE_MODE m).wr Reg.SYS_MODE_TARGET m).put Reg.SYS_MODE_TRANS false

/-- Starts a transition: TRANS and TARGET (R33). -/
def State.beginMode (s : State) (m : Nat) : State := (s.wr Reg.SYS_MODE_TARGET m).put Reg.SYS_MODE_TRANS true

/-- Raises MODE_CHANGED (R42, R95). -/
def State.modeChanged (s : State) (old new cause : Nat) : State := s.notice 0x0101 [byte old, byte new, byte cause]

/-- SYS_UNITS_OUT has changed: DEGR follows it, and between RUN and DEGRADED the mode follows in the same core cycle
(R39, R41, R545).  A transition toward RUN shows DEGRADED as its target (R546); one toward IDLE, STANDBY or SERVICE goes
on to its target. -/
def State.degrade (s : State) : State :=
  let d := s.reg Reg.SYS_UNITS_OUT_A != 0
  let s := s.put Reg.SYS_MODE_DEGR d
  if s.flag Reg.SYS_MODE_TRANS then
    if s.rd Reg.SYS_MODE_TARGET == 3 && d then s.wr Reg.SYS_MODE_TARGET 4
    else if s.rd Reg.SYS_MODE_TARGET == 4 && !d then s.wr Reg.SYS_MODE_TARGET 3
    else if s.mode == 3 && d then (s.wr Reg.SYS_MODE_MODE 4).modeChanged 3 4 2
    else if s.mode == 4 && !d then (s.wr Reg.SYS_MODE_MODE 3).modeChanged 4 3 3
    else s
  else if s.mode == 3 && d then (s.setMode 4).modeChanged 3 4 2
  else if s.mode == 4 && !d then (s.setMode 3).modeChanged 4 3 3
  else s

/-! Settings -/

/-- The default of a setting (R595); none for a record without one. -/
def settingDefault (id : Nat) : Option Bytes :=
  match id with
  | 0x0001 => some [1]
  | 0x0002 => some [0xFF]
  | 0x0003 => some [1]
  | 0x0004 => some (le 2 300)
  | 0x0005 => some [0x5A]
  | 0x0006 => some (zeros 4)
  | 0x0007 => some [0]
  | 0x0008 => some [0]
  | 0x0009 => some [1, 0x40]
  | 0x000A => some (le 2 600)
  | _ => none

/-- The record of a setting in force. -/
def State.settingRecord (s : State) (id : Nat) : Option Bytes := (s.fw.settings.find? (fun r => r.1 == id)).map (·.2)

/-- A setting's value in force as a number (R594, R595). -/
def State.setting (s : State) (id : Nat) : Nat :=
  match s.settingRecord id with
  | some b => ofLe b
  | none => ofLe ((settingDefault id).getD [])

/-! Units -/

/-- The bit of SYS_UNITS_OUT that a mappable unit's code has (R34, R537); none for a unit without a mark in this
role. -/
def unitBit (root : Bool) (u : Nat) : Option Nat :=
  if u == 0x20 || u == 0x21 then (if root then none else some (u - 0x20 + 4))
  else if u == 0x30 || u == 0x31 then some (u - 0x30 + 6)
  else if 0x38 ≤ u && u ≤ 0x3B then some (u - 0x38 + 8)
  else if 0x48 ≤ u && u ≤ 0x4F then some (u - 0x48 + 12)
  else if u == 0x40 then some 20
  else if u == 0x41 then some 21
  else if u == 0x50 then some 22
  else none

/-- The unit is out of service: mapped out, or under test (R35, R548). -/
def State.unitOut (s : State) (u : Nat) : Bool := s.nib.mappedOut.contains u || s.nib.underTest.contains u

/-- Trunk t is under test (R548). -/
def State.trunkTest (s : State) (t : Nat) : Bool := s.nib.underTest.contains (0x10 + t)

end Sys2Proof.Machine
end

