-- ==== Sys2Proof/Machine/Fabric.lean ====
section
/-!
DEFINITION. Segments in the packet buffer: the segment header, wrapping, positions and routes, the buffer's books, and
what the switch core keeps of a segment from its arrival to its end (R184 to R188, R194, R219 to R230, R247).
-/

namespace Sys2Proof

open Sys2Proof.Machine

/-- The header word S (R184). -/
def Segment.word (g : Segment) : Nat :=
  g.ttype % 8 * 2 ^ 61 + b2n g.sys * 2 ^ 60 + b2n g.urg * 2 ^ 59 + b2n g.mc * 2 ^ 58 + g.color % 4 * 2 ^ 56 +
  g.tid % 1024 * 2 ^ 46 + g.dst % 64 * 2 ^ 40 + g.src % 64 * 2 ^ 34 + g.hop % 64 * 2 ^ 28 + g.len % 16384 * 2 ^ 14 +
  g.sseq % 256 * 2 ^ 6

/-- The segment's bytes as they stand in its cells and on a trunk. -/
def Segment.bytes (g : Segment) : Bytes := le 8 g.word ++ g.payload

/-- The segment whose header these 8 bytes are. -/
def Segment.ofHeader (b : Bytes) : Segment :=
  let w := leAt b 0 8
  { ttype := bits w 63 61, sys := bit w 60, urg := bit w 59, mc := bit w 58, color := bits w 57 56,
    tid := bits w 55 46, dst := bits w 45 40, src := bits w 39 34, hop := bits w 33 28, len := bits w 27 14,
    sseq := bits w 13 6 }

/-- The cells it takes (R221): at least the one that holds its header. -/
def Segment.cells (g : Segment) : Nat := ceilDiv (max 8 g.len) 64

end Sys2Proof

namespace Sys2Proof.Machine

/-! Places -/

/-- The machine with the switch core's state changed. -/
def State.withSw (s : State) (f : SwitchCore → SwitchCore) : State := { s with sw := f s.sw }

/-- The machine with the tunnel engine's state changed. -/
def State.withTun (s : State) (f : Tunnels → Tunnels) : State := { s with tun := f s.tun }

/-- This Damya holds a position: the root, or a station that has been assigned one (R191). -/
def State.placed (s : State) : Bool := s.isRoot || s.position != 0

/-- A position is held: the root's, or one whose ANNOUNCE has come (R192). -/
def State.positionHeld (s : State) (p : Nat) : Bool := p == 0 || (s.tun.announced.find? fun e => e.1 == p).isSome

/-- SRC of what this Damya wraps: 63 from a station without a position (R184). -/
def State.srcPos (s : State) : Nat := if s.placed then s.position else 63

/-- Trunk t's link is ACTIVE (R167). -/
def State.linkActive (s : State) (t : Nat) : Bool := s.rd (Reg.TLK_STAT_LSTATE t) == 2

/-- Crossbar port p is connected in this role (R219). -/
def connected (root : Bool) (p : Nat) : Bool := p ≤ 5 || (6 ≤ p && p ≤ 10 && !root) || (11 ≤ p && p ≤ 21)

/-- The connected inputs other than trunks. -/
def State.localInputs (s : State) : List Nat := (List.range 22).filter fun p => 4 ≤ p && connected s.isRoot p

/-- The crossbar port of a unit and SUB of R201 (R219, R220). -/
def unitPort (root : Bool) (unit sub : Nat) : Option Nat :=
  if unit == 0x00 then some 19
  else if unit == 0x01 then some 20
  else if unit == 0x10 then (if root then some (4 + sub % 2) else none)
  else if unit == 0x11 || unit == 0x12 then (if root then none else some (unit - 0x11 + 4))
  else if unit == 0x13 then (if root then none else if sub < 3 then some (6 + sub) else if sub < 5 then some 9 else none)
  else if 0x20 ≤ unit && unit ≤ 0x27 then some (unit - 0x20 + 11)
  else if unit == 0x28 then (if root then none else some 10)
  else none

/-- The code that R34 gives the unit of R201, when it can be mapped out. -/
def mapCode (unit sub : Nat) : Option Nat :=
  if unit == 0x11 || unit == 0x12 then some (unit - 0x11 + 0x20)
  else if unit == 0x13 && sub < 2 then some (0x30 + sub)
  else if unit == 0x13 && sub == 2 then some 0x50
  else if 0x20 ≤ unit && unit ≤ 0x27 then some (unit - 0x20 + 0x48)
  else none

/-! Routes (R194) -/

/-- The cut set: bit i for link i. -/
def State.cutSet (s : State) : Nat := s.rd Reg.TUN_CUT_LO_CUT + 2 ^ 32 * s.rd Reg.TUN_CUT_HI_CUT32

/-- Any cut among links lo to hi − 1. -/
def State.cutIn (s : State) (lo hi : Nat) : Bool := (List.range (hi - lo)).any fun i => s.cutSet.testBit (lo + i)

/-- The ring flag in force. -/
def State.ring (s : State) : Bool := s.flag Reg.TUN_CTRL_RING

/-- The trunk that leads toward rising positions, or toward falling ones. -/
def State.trunkToward (s : State) (south : Bool) : Nat := if south != s.isRoot then 1 else 0

/-- A route: local, out of a trunk (with the trunk crossings to go, and whether the other way round), or dropped. -/
inductive Route where
  | local_
  | trunk (t hops : Nat) (alt : Bool)
  | drop
deriving DecidableEq, Repr

/-- The egress for destination position d. -/
def State.route (s : State) (d : Nat) : Route :=
  let me := s.position
  if !s.placed then .drop
  else if d == me then .local_
  else if d > s.tun.n then .drop
  else
    let lo := min me d
    let hi := max me d
    let south : Bool := decide (me < d)
    if !s.cutIn lo hi then .trunk (s.trunkToward south) (hi - lo) false
    else if s.ring && !s.cutIn hi (s.tun.n + 1) && !s.cutIn 0 lo then
      .trunk (s.trunkToward (!south)) (s.tun.n + 1 - (hi - lo)) true
    else .drop

/-- The route of a TID 0 segment: a link that is marked cut but ACTIVE again carries TID 0 (R199). -/
def State.routeTid0 (s : State) (d : Nat) : Route :=
  match s.route d with
  | .drop =>
    let t := s.trunkToward (decide (s.position < d))
    if s.placed && d ≤ s.tun.n && s.linkActive t then .trunk t (max d s.position - min d s.position) false else .drop
  | r => r

/-! Tunnel entries (R200) -/

/-- The entry of a TID is valid. -/
def State.tidValid (s : State) (t : Nat) : Bool := s.flag (Reg.TUN_ENTRY_W0_VALID t)

/-- The entry is OPEN. -/
def State.tidOpen (s : State) (t : Nat) : Bool := s.tidValid t && s.rd (Reg.TUN_ENTRY_W0_STATE t) == 1

/-- The tunnel's class. -/
def State.tidClass (s : State) (t : Nat) : Nat := s.rd (Reg.TUN_ENTRY_W0_CLASS t)

/-- The role of this Damya in the tunnel: 0 transit, 1 end A, 2 end B, 3 tap. -/
def State.tidRole (s : State) (t : Nat) : Nat := s.rd (Reg.TUN_ENTRY_W1_ROLE t)

/-- What this Damya keeps of the tunnel beside the entry. -/
def State.tunInfo (s : State) (t : Nat) : TunnelInfo := Table.get (fun _ => {}) s.tun.info t

/-- The tunnels with a valid entry. -/
def State.validTids (s : State) : List Nat :=
  (s.regs.filter fun e => 0x204000 ≤ e.1 && e.1 < 0x208000 && e.1 % 16 == 0 && e.2.getLsbD 31).map fun e =>
    (e.1 - 0x204000) / 16

/-! Segments in the machine -/

/-- The segment with number `id`. -/
def State.seg? (s : State) (id : Nat) : Option Held := Table.get (fun _ => none) s.sw.held id

/-- The machine with it replaced, or gone. -/
def State.setSeg (s : State) (id : Nat) (h : Option Held) : State :=
  s.withSw fun w => { w with held := Table.set (fun _ => none) w.held id h }

/-- The first cell of a segment reaches an input; admission decides next (R223). -/
def State.arrive (s : State) (h : Held) : State × Nat :=
  let id := s.sw.nextId
  let h := { h with cells := h.seg.cells, arrival := s.sw.cycle, raw := s.mer.raw }
  (s.withSw fun w => { w with
    nextId := id + 1
    held := Table.set (fun _ => none) w.held id (some h)
    arriving := Table.set (fun _ => []) w.arriving h.input (Table.get (fun _ => []) w.arriving h.input ++ [id]) }, id)

/-- A unit of this Damya hands a segment to its crossbar port: HOP is 33, LEN follows from the payload, and SRC is this
Damya's position (R184, R185). -/
def State.wrap (s : State) (port : Nat) (g : Segment) (forced : Option Nat := none) (hop : Nat := 33) : State :=
  let g := { g with hop := hop, len := 8 + g.payload.length, src := s.srcPos }
  let s := if g.urg then s.count 0x112 else s
  (s.arrive { seg := g, input := port, forced := forced }).1

/-- The segment of a host tunnel (R181, R186, R187): none where the tunnel has no OPEN entry with this Damya as an end, or
its segment would pass the limits of R181. -/
def State.wrapTunnel (s : State) (tid port : Nat) (payload : Bytes) (urg : Bool := false) : Option State :=
  let role := s.tidRole tid
  if tid < 2 || !s.tidOpen tid || (role != 1 && role != 2) then none
  else if 9728 < 8 + payload.length || (s.tidClass tid == 0 && 4200 < 8 + payload.length) then none
  else
    let sseq := s.rd (Reg.TUN_TSTAT_TX_NEXT tid)
    let g : Segment :=
      { ttype := s.rd (Reg.TUN_ENTRY_W0_TTYPE tid), urg := urg, tid := tid
        mc := role == 1 && (s.tunInfo tid).taps != []
        dst := if role == 1 then s.rd (Reg.TUN_ENTRY_W0_POS_B tid) else s.rd (Reg.TUN_ENTRY_W0_POS_A tid)
        sseq := sseq, payload := payload }
    some ((s.wr (Reg.TUN_TSTAT_TX_NEXT tid) (sseq + 1)).wrap port g)

/-- A Meridian message leaves on trunk t on TID 1 (R182, R448). -/
def State.sendTime (s : State) (t : Nat) (payload : Bytes) : State :=
  s.wrap 20 { ttype := 3, tid := 1, dst := 63, payload := payload } (some t)

/-- A line record leaves by trunk t, or by its route where none is named (R189). -/
def State.sendRecord (s : State) (t : Option Nat) (dst : Nat) (rec_ : Bytes) (hop : Nat := 33) : State :=
  match t with
  | some t => if s.linkActive t then
      s.wrap 21 { ttype := 2, sys := true, tid := 0, dst := dst, payload := padTo 16 rec_ } (some t) hop
    else s
  | none => s.wrap 21 { ttype := 2, sys := true, tid := 0, dst := dst, payload := padTo 16 rec_ } none hop

/-- A command packet leaves Scribe on TID 0 (R59, R65, R210). -/
def State.sendCommand (s : State) (dst : Nat) (sys : Bool) (packet : Bytes) : State :=
  s.wrap 19 { ttype := 2, sys := sys, tid := 0, dst := dst, payload := packet }

/-! The buffer's books (R227, R247, R250) -/

/-- The shared pool's size by the partition in force. -/
def State.poolSize (s : State) : Nat :=
  229376 - 2 * s.rd Reg.SWC_TRKLIM_LIMIT_ACT - (s.localInputs.map fun p => s.rd (Reg.SWC_INMIN_MIN_ACT p)).foldl (· + ·) 0

/-- The shared pool's cells in use. -/
def State.poolUsed (s : State) : Nat :=
  (s.localInputs.map fun p => s.rd (Reg.SWC_INHELD_HELD p) - s.rd (Reg.SWC_INMIN_MIN_ACT p)).foldl (· + ·) 0 +
    s.rd Reg.SWC_MCXFER_CELLS

/-- SHSIZE, SHUSE and SHLOW follow the books; BUFFER_LOW is raised below LOW_PCT and re-armed above twice that (R251). -/
def State.poolSync (s : State) : State :=
  let size := s.poolSize
  let used := s.poolUsed
  let free := size - used
  let s := (s.wr Reg.SWC_SHSIZE_SIZE size).wr Reg.SWC_SHUSE_USED used
  let s := if free < s.rd Reg.SWC_SHLOW_LOW then s.wr Reg.SWC_SHLOW_LOW free else s
  let pct := s.rd Reg.SWC_CTRL_LOW_PCT
  if s.sw.lowArmed then
    if pct != 0 && free * 100 < pct * size then
      (s.withSw fun w => { w with lowArmed := false }).notice 0x0420 (le 3 free)
    else s
  else if 2 * pct * size < free * 100 then s.withSw fun w => { w with lowArmed := true }
  else s

/-- The pool as the role sampled at reset lays it out: a port that is not connected has no minimum (R219, R250). -/
def State.poolReset (s : State) : State :=
  let s := (List.range 32).foldl (fun s p =>
    if 4 ≤ p && connected s.isRoot p then s else (s.wr (Reg.SWC_INMIN_MIN_ACT p) 0).wr (Reg.SWC_INMIN_MIN p) 0) s
  let size := s.poolSize
  (s.wr Reg.SWC_SHSIZE_SIZE size).wr Reg.SWC_SHLOW_LOW size

/-- `n` cells pass from the free list to a segment that entered on port p (R226). -/
def State.takeCells (s : State) (p v n : Nat) : State :=
  let s := (s.wr Reg.SWC_FREE_FREE (s.rd Reg.SWC_FREE_FREE - n)).incr Reg.SWC_ALLOC_ALLOCATED n
  let s := s.incr (Reg.SWC_INHELD_HELD p) n
  if p < 4 then s.incr (Reg.TLK_OCC_OCC (p / 2) v) n else s.poolSync

/-- Cells of a trunk's channel are freed: FREED_CUM counts them (R160). -/
def State.creditBack (s : State) (t v n : Nat) : State :=
  s.wr (Reg.TLK_OCC_FREED_CUM t v) (s.rd (Reg.TLK_OCC_FREED_CUM t v) + n)

/-- `n` of the segment's cells return to the free list (R239). -/
def State.freeCells (s : State) (id n : Nat) : State :=
  match s.seg? id with
  | none => s
  | some h =>
    let n := min n h.taken
    let s := (s.setSeg id (some { h with taken := h.taken - n })).incr Reg.SWC_FREE_FREE n
    let s := s.wr Reg.SWC_ALLOC_ALLOCATED (s.rd Reg.SWC_ALLOC_ALLOCATED - n)
    if h.moved then (s.wr Reg.SWC_MCXFER_CELLS (s.rd Reg.SWC_MCXFER_CELLS - n)).poolSync
    else
      let s := s.wr (Reg.SWC_INHELD_HELD h.input) (s.rd (Reg.SWC_INHELD_HELD h.input) - n)
      if h.input < 4 then
        let t := h.input / 2
        (s.wr (Reg.TLK_OCC_OCC t h.cls) (s.rd (Reg.TLK_OCC_OCC t h.cls) - n)).creditBack t h.cls n
      else s.poolSync

/-- Cells of a segment that are still on their way on its trunk. -/
def unreceived (h : Held) : Nat := if h.whole then 0 else h.cells - ceilDiv (8 + h.seg.payload.length) 64

/-- The segment leaves the machine: whatever cells it still holds are freed.  Cells still to arrive count as received and
freed when they arrive (R160, R166). -/
def State.dropSeg (s : State) (id : Nat) : State :=
  match s.seg? id with
  | none => s
  | some h =>
    let s := (s.freeCells id h.taken).setSeg id none
    let u := unreceived h
    if u == 0 || 4 ≤ h.input then s
    else
      let t := h.input / 2
      let s := s.wr (Reg.TLK_OCC_FREED_CUM t h.cls) (s.rd (Reg.TLK_OCC_FREED_CUM t h.cls) + 16384 - u)
      let l := Table.get (fun _ => ({} : Link)) s.links t
      let n := (Table.get (fun _ => 0) l.recvCum h.cls + 2 ^ 32 - u) % 2 ^ 32
      { s with links := Table.set (fun _ => {}) s.links t { l with recvCum := Table.set (fun _ => 0) l.recvCum h.cls n } }

/-! Class contexts (R236) -/

/-- What the context of class c at output o carries. -/
def State.context (s : State) (o c : Nat) : Option Crossing := Table.get (fun _ => none) s.sw.contexts (4 * o + c)

/-- The machine with it replaced. -/
def State.setContext (s : State) (o c : Nat) (x : Option Crossing) : State :=
  s.withSw fun w => { w with contexts := Table.set (fun _ => none) w.contexts (4 * o + c) x }

/-- The outputs at which a copy of the segment is crossing. -/
def State.crossingAt (s : State) (id : Nat) : List Nat :=
  s.sw.contexts.filterMap fun e => match e.2 with
    | some x => if x.id == id then some (e.1 / 4) else none
    | none => none

/-- The segment stops crossing, wherever it does. -/
def State.stopCrossing (s : State) (id : Nat) : State :=
  s.withSw fun w => { w with contexts := w.contexts.filter fun e => match e.2 with
    | some x => x.id != id
    | none => true }

/-! Queues -/

/-- The key of a virtual output queue (R222, R250). -/
def voqKey (i o c : Nat) : Nat := 128 * i + 4 * o + c

/-- A virtual output queue, oldest first. -/
def State.voq (s : State) (i o c : Nat) : List Nat := Table.get (fun _ => []) s.sw.voq (voqKey i o c)

/-- The multicast queue of an input and class. -/
def State.mcq (s : State) (i c : Nat) : List Nat := Table.get (fun _ => []) s.sw.mcq (4 * i + c)

/-- The residue store of an input, oldest first. -/
def State.residue (s : State) (i : Nat) : List Residue := Table.get (fun _ => []) s.sw.residue i

/-- The machine with a virtual output queue replaced. -/
def State.setVoq (s : State) (i o c : Nat) (q : List Nat) : State :=
  s.withSw fun w => { w with voq := Table.set (fun _ => []) w.voq (voqKey i o c) q }

/-- The machine with a multicast queue replaced. -/
def State.setMcq (s : State) (i c : Nat) (q : List Nat) : State :=
  s.withSw fun w => { w with mcq := Table.set (fun _ => []) w.mcq (4 * i + c) q }

/-- The machine with a residue store replaced; RESIDUE shows its entries. -/
def State.setResidue (s : State) (i : Nat) (r : List Residue) : State :=
  (s.withSw fun w => { w with residue := Table.set (fun _ => []) w.residue i r }).wr (Reg.SWC_INHELD_RESIDUE i) r.length

/-- Enters a virtual output queue; DEPTH follows. -/
def State.enqueueSeg (s : State) (i o c id cells : Nat) : State :=
  (s.setVoq i o c (s.voq i o c ++ [id])).incr (Reg.SWC_VOQ_DEPTH_DEPTH (voqKey i o c)) cells

/-- Leaves it. -/
def State.dequeueSeg (s : State) (i o c id cells : Nat) : State :=
  let k := voqKey i o c
  (s.setVoq i o c ((s.voq i o c).filter (· != id))).wr (Reg.SWC_VOQ_DEPTH_DEPTH k)
    (s.rd (Reg.SWC_VOQ_DEPTH_DEPTH k) - cells)

/-- The depth of a multicast queue in cells. -/
def State.mcDepth (s : State) (i c : Nat) : Nat := Table.get (fun _ => 0) s.sw.mcDepth (4 * i + c)

/-- The machine with it replaced. -/
def State.setMcDepth (s : State) (i c d : Nat) : State :=
  s.withSw fun w => { w with mcDepth := Table.set (fun _ => 0) w.mcDepth (4 * i + c) d }

/-- The age of a segment in core cycles (R255). -/
def State.age (s : State) (h : Held) : Nat :=
  let d := s.sw.cycle - h.arrival
  if h.ext then min 65535 d else d % 65536

end Sys2Proof.Machine
end

