-- ==== Sys2Proof/Machine/Commands.lean ====
section
/-!
DEFINITION. The command pipeline: packets, the ordered checks of R50, replies and their delivery on each transport,
sessions and their closing, keys in use, and jobs.
-/

namespace Sys2Proof.Machine

/-! Status codes (R79) -/

namespace Status
abbrev ok : Nat := 0x00
abbrev started : Nat := 0x01
abbrev badVersion : Nat := 0x10
abbrev badLength : Nat := 0x11
abbrev badOpcode : Nat := 0x12
abbrev badParam : Nat := 0x13
abbrev badAddress : Nat := 0x14
abbrev noSession : Nat := 0x20
abbrev badSession : Nat := 0x21
abbrev authFail : Nat := 0x22
abbrev replay : Nat := 0x23
abbrev denied : Nat := 0x24
abbrev sessionFull : Nat := 0x25
abbrev lockout : Nat := 0x26
abbrev lcDenied : Nat := 0x27
abbrev keyAttr : Nat := 0x28
abbrev busy : Nat := 0x30
abbrev busyRestart : Nat := 0x31
abbrev wrongMode : Nat := 0x32
abbrev locked : Nat := 0x33
abbrev jobFull : Nat := 0x34
abbrev timeout : Nat := 0x35
abbrev unreachable : Nat := 0x36
abbrev aborted : Nat := 0x37
abbrev noResource : Nat := 0x40
abbrev notFound : Nat := 0x41
abbrev exists_ : Nat := 0x42
abbrev noBandwidth : Nat := 0x43
abbrev budget : Nat := 0x44
abbrev selftestFail : Nat := 0x50
abbrev auditMismatch : Nat := 0x51
abbrev imageInvalid : Nat := 0x52
abbrev flashError : Nat := 0x53
abbrev hwError : Nat := 0x54
abbrev notSupported : Nat := 0x55
end Status

/-! Packets -/

/-- The 16 header bytes exactly as sent (R49). -/
def headerBytes (p : Packet) : Bytes :=
  [byte (p.ver * 16 + p.flags)] ++ le 2 p.opcode ++ le 2 p.seq ++ [byte p.session] ++ le 2 p.len ++ [byte p.status] ++
    padTo 7 p.rsv

/-- FLAGS.TAG. -/
def hasTag (p : Packet) : Bool := p.flags.testBit 1

/-- The packet that a transport's bytes spell (R47, R49); `delivered` is their number. -/
def parsePacket (b : Bytes) : Packet :=
  let h := leAt b 0 1
  let len := leAt b 6 2
  { ver := h / 16, flags := h % 16, opcode := leAt b 1 2, seq := leAt b 3 2, session := leAt b 5 1, len := len,
    status := leAt b 8 1, rsv := slice b 9 7, params := slice b 16 len,
    tag := if h.testBit 1 then slice b (16 + len) 16 else [], delivered := b.length }

/-- LEN agrees with the delivered bytes and is at most 4160 (R50 step 2). -/
def lengthOk (p : Packet) : Bool :=
  p.len ≤ 4160 && p.delivered == 16 + p.len + (if hasTag p then 16 else 0) && p.params.length == p.len

/-- The tag of R73. -/
def packetTag (key : Bytes) (p : Packet) : Bytes := (hmac key (headerBytes p ++ p.params)).take 16

/-- A reply packet's bytes: tagged when a key is given (R51, R73). -/
def replyBytes (p : Packet) (status : Nat) (params : Bytes) (key : Option Bytes) : Bytes :=
  let q : Packet := { opcode := p.opcode, seq := p.seq, session := p.session, len := params.length, status := status,
                      params := params, flags := if key.isSome then 3 else 1 }
  headerBytes q ++ params ++ (match key with
    | some k => packetTag k q
    | none => [])

/-- The request with the row's opcode. -/
def requestWithOpcode (r : Request) (op : Nat) : Request := { r with pkt := { r.pkt with opcode := op } }

/-- The request with parameter byte `i` set to the row's operation code. -/
def requestWithByte (r : Request) (i v : Nat) : Request :=
  { r with pkt := { r.pkt with params := r.pkt.params.set i (byte v) } }

/-! Sessions -/

/-- The master bit of a transport in ATTR (R53, R559): ROOT_HOST 8, LOCAL_MGMT 9, USB_SERVICE 11. -/
def masterBit : Transport → Nat
  | .mailbox => 8 | .tid0 => 8 | .mgmt => 9 | .usbs => 11

/-- The number of a transport in SESSION_LIST and in the event counters (R652, R606). -/
def viaCode : Transport → Nat
  | .mailbox => 0 | .tid0 => 1 | .mgmt => 2 | .usbs => 3

/-- The session with handle h. -/
def State.session (s : State) (h : Nat) : Session := Table.get (fun _ => {}) s.cmd.sessions h

/-- The machine with session h replaced. -/
def State.setSession (s : State) (h : Nat) (x : Session) : State :=
  { s with cmd := { s.cmd with sessions := Table.set (fun _ => {}) s.cmd.sessions h x } }

/-- The handles 1 to 8. -/
def handles : List Nat := [1, 2, 3, 4, 5, 6, 7, 8]

/-- The lowest handle that is neither open nor half-open (R69). -/
def State.freeHandle (s : State) : Option Nat := handles.find? fun h => (s.session h).phase == .free

/-- The session the request names, when it is open on the request's transport. -/
def State.openSession (s : State) (r : Request) : Option Session :=
  if handles.contains r.pkt.session && (s.session r.pkt.session).phase == .opened &&
      (s.session r.pkt.session).via == r.via then some (s.session r.pkt.session) else none

/-- Frees a handle and raises SESSION_CLOSED with a reason (R74, R95). -/
def State.closeSession (s : State) (h reason : Nat) : State :=
  (s.setSession h {}).notice 0x0201 [byte h, byte reason]

/-! Replies -/

/-- Puts a reply in its transport (R54 to R63): the mailbox's reply buffer with DONE and its MSI, TID 0, MGMT's held
reply, or the USBS bulk IN endpoint.  A MGMT reply made while an earlier one is unread takes its place (DESIGN CHOICE, log
entry 64). -/
def State.deliver (s : State) (v : Transport) (b : Bytes) : State :=
  let s := if leAt b 8 1 ≤ 1 then s else s.count (0x004 + viaCode v)
  match v with
  | .mailbox =>
    let s := { s with cmd := { s.cmd with mbxReply := Table.setFrom (fun _ => 0) [] 0 b, mbxReplyLen := b.length,
                                          mbxDone := true, mbxBusy := false } }
    if s.cmd.mbxIrqEn then s.sendMsi 0 else s
  | .tid0 =>
    let s := { s with cmd := { s.cmd with tid0Replies := s.cmd.tid0Replies + 1 } }
    (s.emit (.tid0Reply b)).sendCommand 0 false b
  | .mgmt => { s with cmd := { s.cmd with mgmtReply := some b, mgmtBusy := false } }
  | .usbs => { s with cmd := { s.cmd with usbsReply := some b, usbsBusy := false } }

/-- The key that tags a reply: that of the open session the request names, except under BAD_SESSION and AUTH_FAIL
(R51). -/
def replyKey (x : Option Session) (status : Nat) : Option Bytes :=
  if status == Status.badSession || status == Status.authFail then none else x.map (·.key)

/-- Keeps a reply on the session that carried its request, while that request is the one whose SEQ is kept (R52). -/
def State.keepReply (s : State) (r : Request) (b : Bytes) : State :=
  match s.openSession r with
  | some x => if x.keptSeq == r.pkt.seq then s.setSession r.pkt.session { x with keptReply := b } else s
  | none => s

/-- Answers a request that Scribe has taken, on the session it came on: the reply is kept and delivered. -/
def State.answerOn (s : State) (x : Option Session) (r : Request) (status : Nat) (params : Bytes) : State :=
  let b := replyBytes r.pkt status params (replyKey x status)
  (s.keepReply r b).deliver r.via b

/-- Answers a request on the session it names. -/
def State.answer (s : State) (r : Request) (status : Nat) (params : Bytes := []) : State :=
  s.answerOn (s.openSession r) r status params

/-- Answers a request without taking it: nothing is kept (R52). -/
def State.refuse (s : State) (r : Request) (status : Nat) : State :=
  s.deliver r.via (replyBytes r.pkt status [] (replyKey (s.openSession r) status))

/-! Access -/

/-- The access classes of R78. -/
inductive OpAccess where
  | open_ | normal | secure
deriving DecidableEq, Repr

/-- The opcode table of R78. -/
def opcodeAccess (op : Nat) : Option OpAccess :=
  if [0x0100, 0x0101, 0x0200, 0x0201, 0x0202].contains op then some .open_
  else if [0x0105, 0x0107, 0x0500, 0x0501, 0x0504, 0x0508, 0x0600, 0x0601, 0x0602, 0x0603, 0x0605, 0x0607, 0x0804,
      0x0805].contains op then some .secure
  else if [0x0102, 0x0103, 0x0104, 0x0106, 0x0110, 0x0111, 0x0112, 0x0113, 0x0114, 0x0203, 0x0204, 0x0310, 0x0311,
      0x0312, 0x0313, 0x0400, 0x0401, 0x0402, 0x0403, 0x0404, 0x0405, 0x0406, 0x0407, 0x0502, 0x0503, 0x0505, 0x0506,
      0x0507, 0x0604, 0x0606, 0x0700, 0x0701, 0x0702, 0x0703, 0x0704, 0x0705, 0x0800, 0x0801, 0x0802, 0x0803, 0x0806,
      0x0900, 0x0901, 0x0902, 0x0903, 0x0904, 0x0905, 0x0906, 0x0907].contains op then some .normal
  else none

/-- The opcodes that the ROM accepts in RECOVERY (R599). -/
def romAccepts (op : Nat) : Bool :=
  [0x0100, 0x0101, 0x0200, 0x0201, 0x0202, 0x0203, 0x0105, 0x0106, 0x0111, 0x0112, 0x0113, 0x0114, 0x0310, 0x0502,
   0x0503, 0x0600, 0x0601, 0x0602, 0x0604].contains op

/-- Step 7 of R50: the ROM's set in RECOVERY (R78, R599), OP_SET not in IDLE (R547), and the trunk tests (R137). -/
def State.modeAllows (s : State) (op : Nat) : Bool :=
  if s.mode == 0 then romAccepts op
  else if op == 0x0800 then s.mode != 2
  else if op == 0x0902 then 3 ≤ s.mode
  else if op == 0x0903 || op == 0x0904 then s.mode == 5
  else true

/-- The session openers, which alone need no session in RECOVERY (R599). -/
def isOpener (op : Nat) : Bool := op == 0x0200 || op == 0x0201 || op == 0x0202

/-- SCRAPPED refuses groups 0x05 and 0x06 and the two session openers (R569). -/
def scrappedRefuses (op : Nat) : Bool := op / 256 == 5 || op / 256 == 6 || op == 0x0200 || op == 0x0202

/-- The packets of R210 pass step 8 without a session when the root's Scribe sent them, and are DENIED otherwise; the
host form of each is DENIED at a station (R208, R210).  Its AUDIT passes in the same way (R216).  A MODE that names
neither form is for step 9. -/
def State.tunnelAccess (s : State) (op : Nat) (r : Request) (cls : Option Nat) : Option Nat :=
  if 0x0400 ≤ op && op ≤ 0x0402 then
    let m := leAt r.pkt.params 0 1
    if m == 0 then (if cls.isNone && !s.isRoot then some Status.denied else cls)
    else if r.via == .tid0 && r.sys then none
    else if m == 1 || (m == 2 && op == 0x0401) then some Status.denied
    else cls
  else if op == 0x0405 && r.via == .tid0 && r.sys && !s.isRoot then none
  else cls

/-- Step 8 of R50: the session's access class, by R70, in RECOVERY by R599, and the life cycle's refusals (R569). -/
def State.accessStatus (s : State) (op : Nat) (a : OpAccess) (x : Option Session) (r : Request) : Option Nat :=
  let secure0 := s.nv.lifeCycle == 0
  let cls :=
    match x with
    | some y =>
      if s.mode != 0 && a == .secure && y.world == 0 then some Status.denied else none
    | none =>
      if secure0 then none
      else if s.mode == 0 then (if isOpener op then none else some Status.noSession)
      else if a == .open_ then none else some Status.noSession
  match s.tunnelAccess op r cls with
  | some c => some c
  | none => if s.nv.lifeCycle == 4 && scrappedRefuses op then some Status.lcDenied else none

/-- Steps 1 to 4 of R50: version, length, session and tag.  `none` passes. -/
def State.frameStatus (s : State) (r : Request) : Option Nat :=
  let p := r.pkt
  let x := s.session p.session
  let known := handles.contains p.session && x.via == r.via
  if p.ver != 1 then some Status.badVersion
  else if !lengthOk p then some Status.badLength
  else if p.session != 0 && !(known && (x.phase == .opened || (x.phase == .halfOpen && p.opcode == 0x0201))) then
    some Status.badSession
  else if p.session != 0 && x.phase == .opened then
    if p.opcode == 0x0201 && !hasTag p && p.seq == x.keptSeq && x.keptProve then none
    else if hasTag p && p.tag == packetTag x.key p then none
    else some Status.authFail
  else none

/-- What a command's body answers: a reply now, or a reply that comes later. -/
inductive Answer where
  | reply (s : State) (status : Nat) (params : Bytes)
  | later (s : State)

/-- A body: what an opcode does once every check before step 9 has passed. -/
abbrev Body := Request → State → Answer

/-- A refusal at step 9, which changes nothing. -/
def Answer.fail (s : State) (status : Nat) : Answer := .reply s status []

/-- OK with parameters. -/
def Answer.ok (s : State) (params : Bytes := []) : Answer := .reply s Status.ok params

/-- Steps 6 to 9 on a request that Scribe has taken (R50, R52).  A refusal at steps 6 to 8 carries no parameters,
REG_WRITE's included (DESIGN CHOICE, log entry 64). -/
def State.execute (s : State) (op : Nat) (r : Request) (body : Body) : State :=
  let x := s.openSession r
  match opcodeAccess op with
  | none => s.answerOn x r Status.badOpcode []
  | some a =>
    if !s.modeAllows op then s.answerOn x r Status.wrongMode []
    else match s.accessStatus op a x r with
      | some c => s.answerOn x r c []
      | none => match body r s with
        | .reply t status params => t.answerOn x r status params
        | .later t => t

/-- A request that passes step 5 restarts the idle timer, ends a run of AUTH_FAILs and gives the kept SEQ and opcode
(R52, R74); it is counted as executed (R606). -/
def State.take (s : State) (r : Request) : State :=
  let s := s.count (viaCode r.via)
  match s.openSession r with
  | some x => s.setSession r.pkt.session
      { x with keptSeq := r.pkt.seq, keptProve := false, keptReply := [], authFails := 0 }
  | none => s

/-- A request that fails on an open session at step 4 (R74): the eighth in a row closes the session. -/
def State.authFailed (s : State) (r : Request) : State :=
  match s.openSession r with
  | some x =>
    let s := s.refuse r Status.authFail
    if x.authFails + 1 ≥ 8 then s.closeSession r.pkt.session 2
    else s.setSession r.pkt.session { x with authFails := x.authFails + 1 }
  | none => s.refuse r Status.authFail

/-- A request enters Scribe's input queue (R65): BUSY for a full queue, or for a fifth on TID 0; BUSY_RESTART during a
hitless restart (R45). -/
def State.enqueue (s : State) (r : Request) : State :=
  if !s.serving then s
  else if s.cmd.restarting then s.refuse r Status.busyRestart
  else if s.cmd.input.length ≥ 16 || (r.via == .tid0 && (s.cmd.input.filter (fun q => q.via == .tid0)).length ≥ 4) then
    s.refuse r Status.busy
  else { s with cmd := { s.cmd with input := s.cmd.input ++ [r] } }

/-- A foreground command is under way (R66): a REG_POLL, a tunnel command that awaits the stations, an OP_SET that awaits
its change, or a POSITION_SET that awaits its reply. -/
def State.foreground (s : State) : Bool :=
  s.cmd.poll.isSome || s.tun.phases.any (fun p => p.req.isSome) || s.nib.opWaiters != [] || s.tun.assignWaiters != []

/-- Scribe takes no request: a foreground command is under way, or a hitless restart waits for its end (R66, R68). -/
def State.scribeBusy (s : State) : Bool := s.foreground || s.cmd.restartDue.isSome

/-- A request with the kept SEQ is answered with the kept reply, where there is one yet (R52).  It has passed step 5, so it
ends a run of AUTH_FAILs (R74). -/
def State.resend (s : State) (r : Request) (x : Session) : State :=
  let s := s.setSession r.pkt.session { x with authFails := 0 }
  if x.keptReply == [] then s else s.deliver r.via x.keptReply

/-- A command packet arrives and Scribe, or the ROM, handles it: the checks of R50 in their order, the replay rule of
R52, BUSY_RESTART during a hitless restart (R45), and then the opcode's own body.  While a foreground command is under
way, the request waits in the input queue (R65, R66). -/
def State.command (s : State) (op : Nat) (r : Request) (body : Body) : State :=
  let r := requestWithOpcode r op
  if !s.serving then s
  else if s.cmd.restarting then s.refuse r Status.busyRestart
  else if s.scribeBusy then s.enqueue r
  else match s.frameStatus r with
    | some c => if c == Status.authFail then s.authFailed r else s.refuse r c
    | none =>
      match s.openSession r with
      | some x =>
        if r.pkt.seq == x.keptSeq then s.resend r x
        else if (r.pkt.seq + 65536 - x.keptSeq) % 65536 ≤ 32767 then (s.take r).execute op r body
        else s.refuse r Status.replay
      | none => (s.take r).execute op r body

/-- A command row's meaning. -/
def runCommand (op : Nat) (body : Body) (r : Request) (s : State) : Out := .next (s.command op r body)

/-- Guards a body: fewer parameter bytes than the rule names is BAD_PARAM (log entry 12). -/
def takes (n : Nat) (body : Bytes → State → Answer) : Body := fun r s =>
  if r.pkt.params.length < n then .fail s Status.badParam else body r.pkt.params s

/-! Inkwell slots in use -/

/-- The key in slot i. -/
def State.keySlot (s : State) (i : Nat) : Option KeySlot := Table.get (fun _ => none) s.ink.slots i

/-- The machine with slot i replaced. -/
def State.setKeySlot (s : State) (i : Nat) (k : Option KeySlot) : State :=
  { s with ink := { s.ink with slots := Table.set (fun _ => none) s.ink.slots i k } }

/-- OTP slot i. -/
def State.otpSlot (s : State) (i : Nat) : OtpSlot := Table.get (fun _ => {}) s.nv.otp i

/-- The machine with OTP slot i replaced. -/
def State.setOtpSlot (s : State) (i : Nat) (o : OtpSlot) : State :=
  { s with nv := { s.nv with otp := Table.set (fun _ => {}) s.nv.otp i o } }

/-- The ATTR word of slot i (R559). -/
def State.attrWord (s : State) (i : Nat) : Nat :=
  let o := s.otpSlot i
  let base := match s.keySlot i with
    | some k => k.attr ||| 2 ^ 26
    | none => 0
  if i < 16 then base ||| 2 ^ 25 ||| 2 ^ 24 ||| (if o.retired then 2 ^ 27 else 0) else base

/-- The checks of R560 on slot i for one use: NOT_FOUND, then KEY_ATTR. -/
def State.keyFor (s : State) (i use master world : Nat) : Except Nat KeySlot :=
  match s.keySlot i with
  | none => .error Status.notFound
  | some k =>
    if bit k.attr use && bit k.attr master && bit k.attr (12 + world) && bit k.attr (16 + s.nv.lifeCycle) then .ok k
    else .error Status.keyAttr

/-- KEY_ATTR refusals are counted (R606). -/
def State.keyRefused (s : State) (c : Nat) : State := if c == Status.keyAttr then s.count 0x2E8 else s

/-- The world a request runs in: its session's, NORMAL on SESSION 0 (R560). -/
def State.worldOf (s : State) (r : Request) : Nat :=
  match s.openSession r with
  | some x => x.world
  | none => 0

/-- `n` random bytes from the DRBG, and its reseeding after 2^20 requests (R563). -/
def State.draw (s : State) (n : Nat) : Bytes × State :=
  let d := s.ink.draws + 1
  let s := if d ≥ 2 ^ 20 then { s with ink := { s.ink with draws := 0 } }.count 0x2EA
    else { s with ink := { s.ink with draws := d } }
  s.freeBytes n

/-! Jobs (R67) -/

/-- Starts a job: JOB_FULL with two running, else STARTED with its number. -/
def State.startJob (s : State) (op : Nat) (k : JobKind) : Answer :=
  if s.cmd.jobs.length ≥ 2 then .fail s Status.jobFull
  else
    let n := s.cmd.lastJob % 255 + 1
    let s := { s with cmd := { s.cmd with jobs := s.cmd.jobs ++ [{ num := n, opcode := op, kind := k }], lastJob := n } }
    .reply s Status.started [byte n, 0, 0, 0]

/-- A job of command group g runs. -/
def State.groupJob (s : State) (g : Nat) : Bool := s.cmd.jobs.any fun j => j.opcode / 256 == g

/-- The job ends: it leaves the list and JOB_DONE is raised (R67, R95).  FW_BEGIN's carries its slot (R591). -/
def State.jobDone (s : State) (j : Job) (status : Nat) : State :=
  let s := { s with cmd := { s.cmd with jobs := s.cmd.jobs.filter (fun k => k.num != j.num) } }
  let extra := match j.kind with
    | .fwBegin slot _ => [byte slot]
    | _ => []
  s.notice 0x0102 ([byte j.num] ++ le 2 j.opcode ++ [byte status] ++ extra)

/-- A deferred action is scheduled behind the reply on transport v (R651). -/
def State.schedule (s : State) (v : Transport) (a : Deferred) : State :=
  { s with cmd := { s.cmd with waiting := s.cmd.waiting ++ [{ via := v, act := a, ahead := s.cmd.tid0Replies }] } }

/-- A reply on transport v has been handed over (R651).  Replies on TID 0 leave in the order in which they were made, so
an action waits until those ahead of its own have left; the other transports hold one reply. -/
def State.handOver (s : State) (v : Transport) : State :=
  { s with cmd := { s.cmd with
      tid0Replies := if v == .tid0 then s.cmd.tid0Replies - 1 else s.cmd.tid0Replies
      waiting := s.cmd.waiting.map fun w =>
        if w.via != v then w
        else if v == .tid0 && w.ahead != 0 then { w with ahead := w.ahead - 1 }
        else { w with handed := true } } }

/-- Takes the first waiting action that `p` names and whose reply has been handed over. -/
def State.takeDeferred (s : State) (p : Deferred → Bool) : Option (Deferred × State) :=
  match s.cmd.waiting.find? (fun w => w.handed && p w.act) with
  | some w => some (w.act, { s with cmd := { s.cmd with waiting := s.cmd.waiting.erase w } })
  | none => none

end Sys2Proof.Machine
end

