-- ==== Sys2Proof/Machine/Efuse.lean ====
section
/-!
DEFINITION. The eFuse channels' state machine: profiles, requests, windows, power-good, trips and the retry policy
(R497 to R518).  The rows that bring its events are in Fuses.lean.
-/

namespace Sys2Proof.Machine

/-- What a channel holds beside its registers. -/
def State.fuse (s : State) (n : Nat) : Fuse := Table.get (fun _ => {}) s.fuses n

/-- The machine with it changed. -/
def State.withFuse (s : State) (n : Nat) (f : Fuse → Fuse) : State :=
  { s with fuses := Table.set (fun _ => {}) s.fuses n (f (s.fuse n)) }

/-! Profiles (R517, R519) -/

/-- The ROM default profile (R519). -/
def romProfile : Bytes := romWords.flatMap (le 4)

/-- A channel's active profile. -/
def State.fuseProfile (s : State) (n : Nat) : Option Bytes :=
  match (s.fuse n).prof with
  | some p => some p
  | none => if n < 2 then some romProfile else none

/-- Fields of a profile (R517). -/
def profLimit (p : Bytes) : Nat := leAt p 1 1
def profHold (p : Bytes) : Nat := leAt p 2 2
def profShunt (p : Bytes) : Nat := leAt p 4 2
def profUvOn (p : Bytes) : Nat := leAt p 8 2
def profUvOff (p : Bytes) : Nat := leAt p 10 2
def profOvOff (p : Bytes) : Nat := leAt p 12 2
def profOvOn (p : Bytes) : Nat := leAt p 14 2
def profVdsMax (p : Bytes) : Nat := leAt p 22 2
def profFast (p : Bytes) : Nat := leAt p 24 4
def profPCont (p : Bytes) : Nat := leAt p 28 4
def profEMax (p : Bytes) : Nat := leAt p 32 4
def profI (p : Bytes) (k : Nat) : Nat := leAt p (40 + 8 * k) 4
def profT (p : Bytes) (k : Nat) : Nat := leAt p (44 + 8 * k) 4

/-- The used curve points. -/
def profPoints (p : Bytes) : Nat := ((List.range 16).takeWhile fun k => profI p k != 0).length

/-- A value lies within its range. -/
def within (lo v hi : Nat) : Bool := lo ≤ v && v ≤ hi

/-- The checks of EFUSE_CURVE_LOAD on the profile (R517); the full scale is 75 mV across the shunt (R498). -/
def profileOk (n : Nat) (p : Bytes) : Bool :=
  let u := profPoints p
  p.length == 168 && profLimit p ≤ 15 && within 10 (profHold p) 60000 && within 500 (profShunt p) 50000 &&
  within 1 (leAt p 6 2) 5000 && within 1 (leAt p 16 2) 500 && within 1 (leAt p 18 2) 1000 && leAt p 20 2 ≤ 1000 &&
  within 50 (profVdsMax p) 2000 && within 100 (profPCont p) 50000 && within 1000 (profEMax p) 10000000 &&
  (4 ≤ n || ([8, 10, 12, 14].all (fun k => leAt p k 2 ≤ 6000) && profUvOff p < profUvOn p && profUvOn p < profOvOn p &&
    profOvOn p < profOvOff p)) &&
  u != 0 && (List.range 16).all (fun k => k < u || profI p k == 0) &&
  (List.range u).all (fun k => within 2 (profT p k) 60000000 &&
    (k == 0 || (profI p (k - 1) < profI p k && profT p k ≤ profT p (k - 1)))) &&
  profI p (u - 1) < profFast p && profFast p * profShunt p ≤ 75000000

/-- The profile as it is stored: bytes 36 to 39 are 0 (R517, R650). -/
def profileStored (p : Bytes) : Bytes := p.take 36 ++ zeros 4 ++ p.drop 40

/-! Measurements (R506, R522, R523) -/

/-- The full-scale current in mA: 75 mV across the shunt (R498). -/
def State.fullScale (s : State) (n : Nat) : Nat :=
  match s.fuseProfile n with
  | some p => 75000000 / orOne (profShunt p)
  | none => 655350

/-- The sense path measures a sample, which its registers show (R506, R522, R523). -/
def State.sensed (s : State) (n : Nat) (x : FuseSample) : State :=
  let i := min x.i (s.fullScale n)
  let s := s.withFuse n fun f => { f with sample := { x with i := i } }
  let s := if n == 0 then s.wr Reg.EFU_INTAKE_VIN (min 0xFFFF x.vin) else s
  let s := (s.wr (Reg.EFU_CH_VOLT_VIN n) (min 0xFFFF x.vin)).wr (Reg.EFU_CH_VOLT_VOUT n) (min 0xFFFF x.vout)
  (s.wr (Reg.EFU_CH_IOUT_I n) (i / 10)).wr (Reg.EFU_CH_IOUT_PEAK n) (max (i / 10) (s.rd (Reg.EFU_CH_IOUT_PEAK n)))

/-! The curve's timers and the SOA integrator (R506, R508) -/

/-- The timers of the used points after a sample of current i: each rises by 1 µs above its current and falls otherwise. -/
def curveTimers (p : Bytes) (i : Nat) (t : List Nat) : List Nat :=
  (List.range (profPoints p)).map fun k => if profI p k < i then t.getD k 0 + 1 else t.getD k 0 - 1

/-- The lowest point whose timer has reached its time. -/
def curveTripped (p : Bytes) (t : List Nat) : Option Nat := (List.range (profPoints p)).find? fun k => profT p k ≤ t.getD k 0

/-- Q after a sample, in pJ: it never exceeds E_MAX (R508, R523). -/
def soaNext (p : Bytes) (x : FuseSample) (q : Nat) : Nat :=
  min (profEMax p * 1000000) (q + x.vds * x.i - profPCont p * 1000)

/-- Q is set, and EFU_CHn_SOA shows it in µJ. -/
def State.setSoa (s : State) (n q : Nat) : State :=
  (s.withFuse n fun f => { f with q := q }).wr (Reg.EFU_CH_SOA_Q n) (q / 1000000)

/-- EFU_CHn_RETRY as it reads: HOLD_LEFT_MS is what is left of the hold (R512, R522). -/
def State.fuseRetry (s : State) (n : Nat) : Word :=
  let w := s.reg (Reg.EFU_CH_RETRY_A n)
  if s.rd (Reg.EFU_CH_STAT_STATE n) == 7 then
    (Reg.EFU_CH_RETRY_HOLD_LEFT_MS n).put w
      (clamp 1 (s.rd (Reg.EFU_CH_RETRY_HOLD_LEFT_MS n)) (ceilDiv ((s.fuse n).holdEnd - s.nib.clock) (rawOfNs 1000000)))
  else w

/-! Requests and insertion (R497, R499, R516, R548) -/

/-- Channel n's state (R500). -/
def State.fuseState (s : State) (n : Nat) : Nat := s.rd (Reg.EFU_CH_STAT_STATE n)

/-- Damya is in RECOVERY. -/
def State.inRecovery (s : State) : Bool := s.serving && s.mode == 0

/-- The channel is requested on by its control source.  Under test the request is removed; in RECOVERY CH2 to CH7 are
off, and on TCS power CH0 and CH1 are (R30, R40, R548). -/
def State.fuseRequested (s : State) (n : Nat) : Bool :=
  let x := s.fuse n
  let off : Bool := s.nib.underTest.contains (0x70 + n) || (2 ≤ n && s.inRecovery) || (n < 2 && s.nib.onTcs)
  !off && (match s.rd (Reg.EFU_CH_CTRL_SRC n) with
    | 0 => x.byCommand
    | 1 => x.byPcie
    | 2 => x.byPd
    | _ => true)

/-- The channel is inserted (R499). -/
def State.fuseInserted (s : State) (n : Nat) : Bool :=
  s.fuseRequested n && s.flag (Reg.EFU_CH_STAT_WINDOW n) &&
    (!s.flag (Reg.EFU_CH_CTRL_PRES_EN n) || s.flag (Reg.EFU_CH_STAT_PRES n))

/-- The gate ball.  With the gate off the sense path is taken to measure no current until a row brings another sample
(DESIGN CHOICE, log entry 71). -/
def State.fuseGate (s : State) (n level : Nat) : State :=
  let s := if level == 0 then s.withFuse n fun f => { f with sample := { f.sample with i := 0 } } else s
  s.pin ("EF" ++ toString n ++ "_GATE") level

/-- EFUSE_STATE (R524). -/
def State.fuseNotice (s : State) (n old new : Nat) : State :=
  s.notice 0x0842 [byte n, byte old, byte new, byte (b2n (s.flag (Reg.EFU_CH_STAT_PG n)))]

/-- PG changes; a source port's status shows it too (R494, R504). -/
def State.fusePg (s : State) (n : Nat) (pg : Bool) : State :=
  let s := s.put (Reg.EFU_CH_STAT_PG n) pg
  if 4 ≤ n then s.put (Reg.TCPD_PORT_STAT_PG (n - 4)) pg else s

/-- A channel takes a profile (R518). -/
def State.takeProfile (s : State) (n : Nat) (p : Bytes) : State :=
  let limit := profLimit p
  let used := min (s.rd (Reg.EFU_CH_RETRY_USED n)) limit
  let s := (List.range 42).foldl (fun (s : State) w => s.wr (Reg.EFU_CH_PROF_WORD n w) (leAt p (4 * w) 4))
    (s.withFuse n fun x => { x with prof := some p, shadow := none })
  let s := ((s.wr (Reg.EFU_CH_RETRY_LIMIT n) limit).wr (Reg.EFU_CH_RETRY_USED n) used).wr (Reg.EFU_CH_RETRY_LEFT n)
    (limit - used)
  let s := (s.put (Reg.EFU_CH_STAT_PROF_PEND n) false).wr (Reg.EFU_CH_STAT_PROF_VER n) (leAt p 0 1)
  let s := if s.fuseState n == 1 then s.wr (Reg.EFU_CH_STAT_STATE n) 0 else s
  (s.count (0x2C0 + n)).notice 0x0844 [byte n, byte (leAt p 0 1)]

/-- The states in which a profile is taken at once: OFF, NO_PROFILE, WAIT, HOLD and LATCHED (R518). -/
def fuseSafe (x : Nat) : Bool := x ≤ 2 || x == 7 || x == 8

/-- The channel enters a state: the gate follows it, leaving ON clears PG, EFUSE_STATE reports the entry to and the exit
from ON, and a waiting profile is taken where the state is safe (R500, R504, R518, R524). -/
def State.fuseGo (s : State) (n new : Nat) : State :=
  let old := s.fuseState n
  if old == new then s
  else
    let gated : Bool := (old == 5 || old == 6) && !(new == 5 || new == 6) && !(s.fuse n).deciding
    let s := s.wr (Reg.EFU_CH_STAT_STATE n) new
    let s := if gated then s.fuseGate n 0 else s
    let s := if old == 6 then (s.fusePg n false).withFuse n fun x => { x with moving := false } else s
    let s := if old == 6 || new == 6 then s.fuseNotice n old new else s
    match (s.fuse n).shadow with
    | some p => if fuseSafe new then s.takeProfile n p else s
    | none => s

/-- The channel follows its request, its window and its presence input (R500).  A trip that waits for its decision, HOLD,
LATCHED and NO_PROFILE are left alone; while VSEL moves in ON, the window is not applied (R505). -/
def State.fuseFollow (s : State) (n : Nat) : State :=
  let s := s.put (Reg.EFU_CH_CTRL_REQ n) (s.fuseRequested n)
  let st := s.fuseState n
  if (s.fuse n).deciding || st == 1 || 7 ≤ st then s
  else if !s.fuseRequested n then s.fuseGo n 0
  else
    let s := if st == 0 then s.fuseGo n 2 else s
    let st := s.fuseState n
    if st == 2 then (if s.fuseInserted n then s.fuseGo n 3 else s)
    else if s.fuseInserted n || (st == 6 && (s.fuse n).moving) then s
    else (s.count (0x286 + 8 * n)).fuseGo n 2

/-- The window of VSEL, in 10 mV (R505). -/
def vselWindow (v : Nat) : Nat × Nat := [(475, 550), (855, 945), (1425, 1575), (1900, 2100)].getD v (475, 550)

/-- The VSEL in force for channel n of CH4 to CH7. -/
def State.fuseVsel (s : State) (n : Nat) : Nat := s.rd (Reg.TCPD_PORT_STAT_VSEL (n - 4))

/-- Whether the input lies within the window after a measurement of VIN (R501, R505). -/
def State.fuseWindow (s : State) (n vin : Nat) : Bool :=
  if 4 ≤ n then
    let (lo, hi) := vselWindow (s.fuseVsel n)
    within lo vin hi
  else match s.fuseProfile n with
    | none => false
    | some p =>
      if s.flag (Reg.EFU_CH_STAT_WINDOW n) then within (profUvOff p) vin (profOvOff p)
      else profUvOn p < vin && vin < profOvOn p

/-- The output lies within the channel's window (R504). -/
def State.fuseOutputOk (s : State) (n vout : Nat) : Bool :=
  if 4 ≤ n then
    let (lo, hi) := vselWindow (s.fuseVsel n)
    within lo vout hi
  else match s.fuseProfile n with
    | none => false
    | some p => within (profUvOff p) vout (profOvOff p)

/-- The input is measured against its window, and the channel follows (R501, R505).  A VIN above 22.0 V takes a channel of
CH4 to CH7 to WAIT at any time. -/
def State.fuseInput (s : State) (n vin : Nat) : State :=
  let s := s.put (Reg.EFU_CH_STAT_WINDOW n) (s.fuseWindow n vin)
  let s := if 4 ≤ n && vin > 2200 then s.withFuse n fun x => { x with moving := false } else s
  s.fuseFollow n

/-- VSEL of a source port has moved: in ON, PG clears and the window waits for PG; otherwise the new window applies
(R505). -/
def State.fuseVselMoved (s : State) (n : Nat) : State :=
  if s.fuseState n == 6 && !(s.fuse n).deciding then
    let pg := s.flag (Reg.EFU_CH_STAT_PG n)
    let s := (s.fusePg n false).withFuse n fun x => { x with moving := true }
    let s := if pg then s.fuseNotice n 6 6 else s
    s.put (Reg.EFU_CH_STAT_WINDOW n) (s.fuseWindow n (s.rd (Reg.EFU_CH_VOLT_VIN n)))
  else s.fuseInput n (s.rd (Reg.EFU_CH_VOLT_VIN n))

/-- The PCIe power controller or the PD engine asks for the channel or releases it. -/
def State.fuseAsk (s : State) (n : Nat) (f : Fuse → Fuse) : State := (s.withFuse n f).fuseFollow n

/-- Every request on the channel is removed (R545, R549). -/
def State.channelRequestOff (s : State) (n : Nat) : State :=
  s.fuseAsk n fun x => { x with byCommand := false, byPcie := false }

/-- Every channel follows its request: the mode, the source of power or the units under test have changed. -/
def State.fusesFollow (s : State) : State := (List.range 8).foldl State.fuseFollow s

/-- A profile is loaded (R518, R519): the active one again changes nothing. -/
def State.loadProfile (s : State) (n : Nat) (p : Bytes) : State :=
  let p := profileStored p
  if s.fuseProfile n == some p then s
  else if fuseSafe (s.fuseState n) then (s.takeProfile n p).fuseFollow n
  else (s.withFuse n fun x => { x with shadow := some p }).put (Reg.EFU_CH_STAT_PROF_PEND n) true

/-! Trips and retries (R510 to R513) -/

/-- A trip: the gate is pulled down, USED rises unless it is at LIMIT, CAUSE and POINT are recorded and PG clears. -/
def State.fuseTrip (s : State) (n cause : Nat) (point : Option Nat) (x : FuseSample) : State :=
  let s := (s.sensed n x).fuseGate n 0
  let used := s.rd (Reg.EFU_CH_RETRY_USED n)
  let s := if used < s.rd (Reg.EFU_CH_RETRY_LIMIT n) then s.wr (Reg.EFU_CH_RETRY_USED n) (used + 1) else s
  let s := s.wr (Reg.EFU_CH_STAT_CAUSE n) cause
  let s := match point with
    | some k => s.wr (Reg.EFU_CH_STAT_POINT n) k
    | none => s
  let pg := s.flag (Reg.EFU_CH_STAT_PG n)
  let s := (s.fusePg n false).withFuse n fun f =>
    { f with deciding := true, moving := false, tripI := min x.i (s.fullScale n) / 10, tripV := min 0xFFFF x.vout }
  let s := if pg then s.fuseNotice n (s.fuseState n) (s.fuseState n) else s
  s.count (0x280 + 8 * n + (cause - 1))

/-- The Nib's retry decision (R512). -/
def State.fuseDecide (s : State) (n : Nat) : State :=
  let left := s.rd (Reg.EFU_CH_RETRY_LEFT n)
  let p := (s.fuseProfile n).getD []
  let s := if left == 0 then (s.fuseGo n 8).count (0x285 + 8 * n)
    else (((s.wr (Reg.EFU_CH_RETRY_LEFT n) (left - 1)).wr (Reg.EFU_CH_RETRY_HOLD_LEFT_MS n) (profHold p)).fuseGo n 7).count
      (0x284 + 8 * n)
  let s := s.withFuse n fun f => { f with deciding := false, holdEnd := s.nib.clock + profHold p * rawOfNs 1000000 }
  let f := s.fuse n
  s.notice 0x0840 ([byte n, byte (s.rd (Reg.EFU_CH_STAT_CAUSE n)), byte (s.rd (Reg.EFU_CH_STAT_POINT n))] ++
    le 2 f.tripI ++ le 2 f.tripV ++ [byte (s.rd (Reg.EFU_CH_RETRY_USED n)), byte (s.rd (Reg.EFU_CH_RETRY_LEFT n)),
    byte (b2n (left == 0))])

/-- USED returns to 0 and LEFT to LIMIT (R515, R520). -/
def State.fuseCountsReset (s : State) (n : Nat) : State :=
  (s.wr (Reg.EFU_CH_RETRY_USED n) 0).wr (Reg.EFU_CH_RETRY_LEFT n) (s.rd (Reg.EFU_CH_RETRY_LIMIT n))

/-- FET_SHORT is detected at the last sample: with the gate off, VOUT ≥ 90 % of VIN, or I > 5 % of FAST_MA (R511). -/
def State.fuseShorted (s : State) (n : Nat) : Bool :=
  let fast : Bool := match s.fuseProfile n with
    | some p => decide (s.rd (Reg.EFU_CH_IOUT_I n) * 200 > profFast p)
    | none => false
  s.rd (Reg.EFU_CH_VOLT_VOUT n) * 10 ≥ s.rd (Reg.EFU_CH_VOLT_VIN n) * 9 || fast

/-- EFU_ALARM, and EF_ALARM_N driven low while any channel has FET_SHORT (R511). -/
def State.fuseAlarm (s : State) (m : Nat) : State :=
  let was := s.flag Reg.EFU_ALARM_ALARM
  let s := (s.wr Reg.EFU_ALARM_SHORT m).put Reg.EFU_ALARM_ALARM (m != 0)
  if was == (m != 0) then s else s.pin "EF_ALARM_N" (b2n (m == 0))

end Sys2Proof.Machine
end

