-- ==== Sys2Proof/Machine/TypeC.lean ====
section
/-!
DEFINITION. The Type-C source ports and their power budget: attach, offers, contracts, hard resets, VCONN, the policy
table and port control (R470 to R489, R492).  The rows that bring their events are in Delivery.lean.
-/

namespace Sys2Proof.Machine

/-- What source port n holds beside its registers. -/
def State.tcPort (s : State) (n : Nat) : TcPort := Table.get (fun _ => {}) s.tc.ports n

/-- The machine with it changed. -/
def State.withTcPort (s : State) (n : Nat) (f : TcPort → TcPort) : State :=
  { s with tc := { s.tc with ports := Table.set (fun _ => {}) s.tc.ports n (f (s.tcPort n)) } }

/-- Port n's state (R472). -/
def State.tcState (s : State) (n : Nat) : Nat := s.rd (Reg.TCPD_PORT_STAT_STATE n)

/-- The machine with it changed. -/
def State.tcGo (s : State) (n st : Nat) : State := s.wr (Reg.TCPD_PORT_STAT_STATE n) st

/-- Fields of a table entry (R480). -/
def entryEn (e : Bytes) : Bool := bit (leAt e 0 1) 0
def entryReoffer (e : Bytes) : Bool := bit (leAt e 0 1) 1
def entrySwap (e : Bytes) : Bool := bit (leAt e 0 1) 2
def entryVconn (e : Bytes) : Bool := bit (leAt e 0 1) 3
def entryRp (e : Bytes) : Nat := leAt e 1 1
def entryMax (e : Bytes) : Nat := leAt e 4 4
def entryI (e : Bytes) (k : Nat) : Nat := leAt e (8 + 2 * k) 2

/-- Port n's entry of an 80-byte table. -/
def tableEntry (t : Bytes) (n : Nat) : Bytes := slice t (8 + 16 * n) 16

/-- The four voltages, and the power of each Rp level (R476). -/
def pdoVolts (k : Nat) : Nat := [5, 9, 15, 20].getD k 5
def rpMw (l : Nat) : Nat := [2500, 7500, 15000].getD l 2500

/-- The free budget, and the machine with it changed (R474). -/
def State.freeMw (s : State) : Nat := s.rd Reg.TCPD_FREE_FREE_MW
def State.setFreeMw (s : State) (v : Nat) : State := s.wr Reg.TCPD_FREE_FREE_MW v

/-- PD_BUDGET (R496). -/
def State.budgetNotice (s : State) (n why : Nat) : State := s.notice 0x0824 ([byte n, byte why] ++ le 3 s.freeMw)

/-! VSEL, VBUS and VCONN (R471, R483, R487) -/

/-- The voltage setting of the port's regulator. -/
def State.tcVsel (s : State) (n k : Nat) : State :=
  if s.rd (Reg.TCPD_PORT_STAT_VSEL n) == k then s
  else ((s.wr (Reg.TCPD_PORT_STAT_VSEL n) k).pin ("TCP" ++ toString n ++ "_VSEL") k).fuseVselMoved (4 + n)

/-- VBUS on or off through the port's eFuse channel. -/
def State.tcVbus (s : State) (n : Nat) (on : Bool) : State := s.fuseAsk (4 + n) fun x => { x with byPd := on }

/-- The discharge sink. -/
def State.tcSink (s : State) (n : Nat) (on : Bool) : State := s.emit (.pd n "DISCHARGE" [b2n on] [])

/-- VCONN on or off. -/
def State.tcVconn (s : State) (n : Nat) (on : Bool) : State :=
  if s.flag (Reg.TCPD_PORT_STAT_VCONN_ON n) == on then s
  else (s.put (Reg.TCPD_PORT_STAT_VCONN_ON n) on).emit (.pd n "VCONN" [b2n on] [])

/-- VCONN turns on with VBUS where VCONN_EN is set and Ra is seen, and the cable is asked on SOP' (R487). -/
def State.tcVconnStart (s : State) (n : Nat) : State :=
  if entryVconn (s.tcPort n).entry && s.flag (Reg.TCPD_PORT_STAT_RA n) then
    (s.tcVconn n true).emit (.pd n "DISCOVER_IDENTITY" [] [])
  else s

/-- Rp of a level, or none (3). -/
def State.tcRp (s : State) (n l : Nat) : State := (s.wr (Reg.TCPD_PORT_STAT_RP n) l).emit (.pd n "RP" [l] [])

/-! Offers (R477) -/

/-- The PDOs that the port would offer under a power limit: voltage index and current. -/
def State.offerUnder (s : State) (n lim : Nat) : List (Nat × Nat) :=
  let x := s.tcPort n
  let own5 : Nat := if s.rd (Reg.TCPD_PORT_STAT_PDO n) == 0 then s.rd (Reg.TCPD_PORT_CONTRACT_MW n) / 50
    else if x.volt == 0 then s.rd (Reg.TCPD_PORT_REQ_CURRENT n) else 0
  [0, 1, 2, 3].filterMap fun k =>
    let t := entryI x.entry k
    if t == 0 then none
    else
      let i := if t > 300 && !s.flag (Reg.TCPD_PORT_STAT_CABLE_5A n) then 300 else t
      let i := min i (lim / (pdoVolts k * 10))
      if k == 0 then some (k, max (max i own5) 50) else if i < 50 then none else some (k, i)

/-- The offer of the moment. -/
def State.offerNow (s : State) (n : Nat) : List (Nat × Nat) :=
  s.offerUnder n (min (entryMax (s.tcPort n).entry) s.freeMw)

/-- Source_Capabilities are sent; TRIMMED shows a PDO lowered or omitted because of FREE_MW. -/
def State.sendOffer (s : State) (n : Nat) : State :=
  let o := s.offerNow n
  let trimmed := o != s.offerUnder n (entryMax (s.tcPort n).entry)
  let s := (s.withTcPort n fun x => { x with offer := o, offered := true }).put (Reg.TCPD_PORT_STAT_TRIMMED n) trimmed
  let s := s.emit (.pd n "SOURCE_CAPABILITIES" (o.flatMap fun p => [pdoVolts p.1, p.2]) [])
  if trimmed then s.budgetNotice n 1 else s

/-! Attach and the budget (R476, R479) -/

/-- The highest Rp level that RP_MAX, MAX_MW and the free budget allow. -/
def State.rpLevel (s : State) (n : Nat) : Option Nat :=
  let e := (s.tcPort n).entry
  [2, 1, 0].find? fun l => l ≤ entryRp e && rpMw l ≤ entryMax e && rpMw l ≤ s.freeMw

/-- The port takes its power and enters IMPLICIT with VBUS at 5 V, or enters NO_BUDGET. -/
def State.tcTake (s : State) (n : Nat) : State :=
  match s.rpLevel n with
  | some l =>
    let s := ((s.tcGo n 4).wr (Reg.TCPD_PORT_CONTRACT_MW n) (rpMw l)).setFreeMw (s.freeMw - rpMw l)
    let s := (s.wr (Reg.TCPD_PORT_STAT_PDO n) 0).withTcPort n fun x => { x with volt := 0 }
    (((s.tcRp n l).tcVbus n true).tcVconnStart n).sendOffer n
  | none => if s.tcState n == 3 then s else ((s.tcGo n 3).tcRp n 0).budgetNotice n 0

/-- FREE_MW has risen: ports in NO_BUDGET first, then READY ports whose offer was trimmed. -/
def State.serveBudget (s : State) : State :=
  let s := [0, 1, 2, 3].foldl (fun (s : State) n => if s.tcState n == 3 then s.tcTake n else s) s
  [0, 1, 2, 3].foldl (fun (s : State) n =>
    if s.tcState n == 5 && s.flag (Reg.TCPD_PORT_STAT_TRIMMED n) && entryReoffer (s.tcPort n).entry then s.sendOffer n
    else s) s

/-- The contract and what is pending return to the free budget (R484 to R486). -/
def State.tcRelease (s : State) (n : Nat) : State :=
  let v := s.rd (Reg.TCPD_PORT_CONTRACT_MW n) + s.rd (Reg.TCPD_PORT_PEND_MW n)
  let s := ((s.wr (Reg.TCPD_PORT_CONTRACT_MW n) 0).wr (Reg.TCPD_PORT_PEND_MW n) 0).setFreeMw (s.freeMw + v)
  let s := (s.wr (Reg.TCPD_PORT_STAT_PDO n) 0).wr (Reg.TCPD_PORT_REQ_CURRENT n) 0
  (s.withTcPort n fun x => { x with offer := [], offered := false, volt := 0, next := none, waitPg := false, swap := 0 }).put
    (Reg.TCPD_PORT_STAT_TRIMMED n) false

/-! Table entries and the disabled state (R481, R482, R492, R548) -/

/-- The port may be in use: its entry has EN, no DISABLE is in force, it is not under test, and Damya is not in
RECOVERY. -/
def State.tcEnabled (s : State) (n : Nat) : Bool :=
  let x := s.tcPort n
  entryEn x.entry && !x.disabled && !s.nib.underTest.contains (0x60 + n) && !s.inRecovery

/-- The cable's marks go with the partner. -/
def State.tcForget (s : State) (n : Nat) : State :=
  let s := ((s.put (Reg.TCPD_PORT_STAT_CABLE_5A n) false).put (Reg.TCPD_PORT_STAT_RA n) false).put
    (Reg.TCPD_PORT_STAT_CC2 n) false
  (s.put (Reg.TCPD_PORT_STAT_VCONN_PARTNER n) false).wr (Reg.TCPD_PORT_STAT_HR_COUNT n) 0

/-- The port comes to rest: UNATTACHED with Rp, or DISABLED without. -/
def State.tcRest (s : State) (n : Nat) : State :=
  let s := s.tcForget n
  if s.tcEnabled n then (s.tcGo n 1).tcRp n 0 else (s.tcGo n 0).tcRp n 3

/-- The channel goes off, VSEL to 5 V, VCONN off, the sink on, and the port to DISCHARGE (R473). -/
def State.tcDischarge (s : State) (n : Nat) : State :=
  ((((s.tcVbus n false).tcVsel n 0).tcVconn n false).tcSink n true).tcGo n 9

/-- The port is switched off as DISABLE does it: Rp removed, then a discharge where VBUS is on (R492).  A port in
ERROR_RECOVERY or DISCHARGE comes to DISABLED when it leaves that state. -/
def State.tcOff (s : State) (n : Nat) : State :=
  let st := s.tcState n
  if st == 0 || st == 8 || st == 9 then s
  else if st ≤ 3 then s.tcRest n
  else (((s.tcRelease n).tcDischarge n).tcRp n 3).serveBudget

/-- The port follows what enables it. -/
def State.tcFollow (s : State) (n : Nat) : State :=
  if !s.tcEnabled n then s.tcOff n else if s.tcState n == 0 then s.tcRest n else s

/-- Every source port follows. -/
def State.tcFollowAll (s : State) : State := [0, 1, 2, 3].foldl State.tcFollow s

/-- The port is at a safe point for a new entry (R481): READY needs no message exchange in progress. -/
def State.tcSafe (s : State) (n : Nat) : Bool :=
  let st := s.tcState n
  st == 0 || st == 1 || st == 2 || st == 3 || st == 4 || (st == 5 && (s.tcPort n).swap == 0 && !(s.tcPort n).offered)

/-- PENDING ends when every port has taken the table, and PD_TABLE is raised (R481). -/
def State.tableDone (s : State) : State :=
  if s.flag Reg.TCPD_TABLE_PENDING && [0, 1, 2, 3].all (fun n => !(s.tcPort n).stale) then
    let v := leAt s.tc.table 1 1
    ((s.put Reg.TCPD_TABLE_PENDING false).wr Reg.TCPD_TABLE_VERSION v).notice 0x0826
      (byte v :: le 3 (s.rd Reg.TCPD_BUDGET_BUDGET_MW))
  else s

/-- The port takes its entry of the shadow table; an offer that changes is sent again, and EN = 0 disables the port. -/
def State.takeEntry (s : State) (n : Nat) : State :=
  if !(s.tcPort n).stale then s
  else
    let e := tableEntry s.tc.table n
    let s := (s.withTcPort n fun x => { x with entry := e, stale := false }).wr (Reg.TCPD_PORT_LIM_MAX_MW n) (entryMax e)
    let s := s.tcFollow n
    let st := s.tcState n
    let s := if (st == 4 || st == 5) && s.offerNow n != (s.tcPort n).offer then s.sendOffer n
      else if st == 3 then s.tcTake n else s
    s.tableDone

/-- The port's entry, where the port is at a safe point. -/
def State.entryIfSafe (s : State) (n : Nat) : State := if s.tcSafe n then s.takeEntry n else s

/-- PD_PORT_CONTROL DISABLE (R492, R545). -/
def State.tcpDisable (s : State) (n : Nat) : State := (s.withTcPort n fun x => { x with disabled := true }).tcFollow n

/-- A port in TRANSITION or HARD_RESET (R542). -/
def State.tcpBusy (s : State) (n : Nat) : Bool := s.tcState n == 6 || s.tcState n == 7

/-- The ranges of the table's fields (R480). -/
def tableOk (t : Bytes) : Bool :=
  t.length == 80 && leAt t 4 4 ≤ 180000 && [0, 1, 2, 3].all fun n =>
    let e := tableEntry t n
    entryRp e ≤ 2 && entryMax e ≤ 100000 && within 50 (entryI e 0) 300 &&
      [1, 2, 3].all fun k => entryI e k == 0 || within 50 (entryI e k) 500

/-- Σ CONTRACT.MW + Σ PEND.MW. -/
def State.countedMw (s : State) : Nat :=
  ([0, 1, 2, 3].map fun n => s.rd (Reg.TCPD_PORT_CONTRACT_MW n) + s.rd (Reg.TCPD_PORT_PEND_MW n)).sum

/-- A table as Damya stores and shows it: SAVE, the fields, and 0 in what R480 reserves (R650). -/
def tableStored (t : Bytes) : Bytes :=
  [byte (leAt t 0 1 % 2), byte (leAt t 1 1), 0, 0] ++ slice t 4 4 ++
    ([0, 1, 2, 3].flatMap fun n =>
      let e := tableEntry t n
      [byte (leAt e 0 1 % 16), byte (entryRp e), 0, 0] ++ slice e 4 12) ++ byte (leAt t 72 1 % 4) :: zeros 7

/-- A table that passed its checks (R481): the budget at once, and each port's entry at its safe point. -/
def State.acceptTable (s : State) (t : Bytes) : State :=
  let budget := leAt t 4 4
  let rises : Bool := s.rd Reg.TCPD_BUDGET_BUDGET_MW < budget
  let s := (s.wr Reg.TCPD_BUDGET_BUDGET_MW budget).setFreeMw (budget - s.countedMw)
  let s := ((s.incr Reg.TCPD_TABLE_LOADS).put Reg.TCPD_TABLE_PENDING true)
  let s := { s with tc := { s.tc with table := t, tflags := leAt t 72 1 } }
  let s := [0, 1, 2, 3].foldl (fun (s : State) n => s.withTcPort n fun x => { x with stale := true }) s
  let s := [0, 1, 2, 3].foldl State.entryIfSafe s
  if rises then s.serveBudget else s

/-- The table that Scribe loads at a start (R482): the active one again changes nothing. -/
def State.pdLoadSaved (s : State) (t : Bytes) : State :=
  let active := if s.tc.table == [] then zeros 80 else s.tc.table
  if t.drop 1 == active.drop 1 || leAt t 4 4 < s.countedMw then s else s.acceptTable t

/-! Contracts (R478, R483) -/

/-- A port has left TRANSITION, HARD_RESET, ERROR_RECOVERY or DISCHARGE: the shadow entry is taken (R481). -/
def State.tcLeft (s : State) (n : Nat) : State := s.takeEntry n

/-- PS_RDY: the new contract is in force and the old value returns to the free budget (R474, R478, R483). -/
def State.psRdy (s : State) (n : Nat) : State :=
  match (s.tcPort n).next with
  | none => s
  | some (pos, k, i, mw) =>
    let old := s.rd (Reg.TCPD_PORT_CONTRACT_MW n)
    let pend := s.rd (Reg.TCPD_PORT_PEND_MW n)
    let s := (s.tcSink n false).emit (.pd n "PS_RDY" [] [])
    let s := ((s.wr (Reg.TCPD_PORT_CONTRACT_MW n) mw).wr (Reg.TCPD_PORT_PEND_MW n) 0).setFreeMw (s.freeMw + old + pend - mw)
    let s := ((s.wr (Reg.TCPD_PORT_STAT_PDO n) pos).wr (Reg.TCPD_PORT_REQ_CURRENT n) i).wr (Reg.TCPD_PORT_STAT_HR_COUNT n) 0
    let s := (s.withTcPort n fun x => { x with next := none, waitPg := false, volt := k }).tcGo n 5
    let s := s.notice 0x0821 ([byte n, byte pos] ++ le 2 i ++ le 3 mw ++ le 3 s.freeMw)
    (s.tcLeft n).serveBudget

/-- The port's channel has reported power-good (R483). -/
def State.tcPowerGood (s : State) (n : Nat) : State :=
  if s.tcState n == 6 && (s.tcPort n).waitPg then s.psRdy n else s

/-- A Reject; for want of budget the offer may follow again (R478). -/
def State.pdReject (s : State) (n : Nat) (budget : Bool) : State :=
  let s := ((s.withTcPort n fun x => { x with offered := false }).emit (.pd n "REJECT" [] [])).count (0x25B + 8 * n)
  let s := if budget then s.budgetNotice n 2 else s
  let s := if budget && entryReoffer (s.tcPort n).entry then s.sendOffer n else s
  s.entryIfSafe n

/-- An Accept: TRANSITION with `pend` of the free budget taken. -/
def State.pdAccept (s : State) (n pos k i mw pend : Nat) : State :=
  let s := (s.emit (.pd n "ACCEPT" [] [])).withTcPort n fun x =>
    { x with offered := false, next := some (pos, k, i, mw), waitPg := false }
  ((s.wr (Reg.TCPD_PORT_PEND_MW n) pend).setFreeMw (s.freeMw - pend)).tcGo n 6

/-- A sink's Request (R478). -/
def State.pdRequest (s : State) (n pos i : Nat) : State :=
  let x := s.tcPort n
  let st := s.tcState n
  if st != 4 && st != 5 then s
  else
    let o : Option (Nat × Nat) := if pos == 0 then none else x.offer[pos - 1]?
    match o with
    | none => s.pdReject n false
    | some (k, most) =>
      if i > most then s.pdReject n false
      else
        let mw := pdoVolts k * i * 10
        if k == x.volt && mw ≤ s.rd (Reg.TCPD_PORT_CONTRACT_MW n) then s.pdAccept n pos k i mw 0
        else if mw ≤ s.freeMw then s.pdAccept n pos k i mw mw
        else s.pdReject n true

/-- tSrcTransition has passed (R483): VSEL moves, and PS_RDY waits for power-good at the new voltage. -/
def State.srcTransition (s : State) (n : Nat) : State :=
  match (s.tcPort n).next with
  | some (_, k, _, _) =>
    if s.tcState n != 6 || (s.tcPort n).waitPg then s
    else
      let was := s.rd (Reg.TCPD_PORT_STAT_VSEL n)
      let s := s.withTcPort n fun x => { x with waitPg := true }
      let s := if k < was then s.tcSink n true else s
      let s := s.tcVsel n k
      if s.flag (Reg.TCPD_PORT_STAT_PG n) then s.psRdy n else s
  | none => s

/-! Hard resets, trips, detach (R473, R484 to R486, R489) -/

/-- A Hard Reset, sent or received: VBUS goes to vSafe0V and VCONN off, and the budget returns. -/
def State.pdHardReset (s : State) (n cause : Nat) : State :=
  let swap := (s.tcPort n).swap != 0
  let s := if cause == 1 then s else s.emit (.pd n "HARD_RESET" [] [])
  let s := ((s.tcRelease n).tcVbus n false).tcVsel n 0
  let s := ((s.tcVconn n false).put (Reg.TCPD_PORT_STAT_VCONN_PARTNER n) false).tcSink n true
  let s := ((s.wr (Reg.TCPD_PORT_STAT_HR_COUNT n) (min 3 (s.rd (Reg.TCPD_PORT_STAT_HR_COUNT n) + 1))).tcGo n 7).count
    (0x25C + 8 * n)
  let s := s.notice 0x0823 [byte n, byte cause, byte (b2n swap), byte (s.rd (Reg.TCPD_PORT_STAT_HR_COUNT n))]
  s.serveBudget

/-- The port is attached with VBUS on: IMPLICIT, READY or TRANSITION. -/
def State.tcLive (s : State) (n : Nat) : Bool := 4 ≤ s.tcState n && s.tcState n ≤ 6

/-- tSrcRecover has passed (R484): 5 V again through R476, or ERROR_RECOVERY after the third hard reset. -/
def State.hardResetRecover (s : State) (n : Nat) : State :=
  let s := s.tcSink n false
  if s.rd (Reg.TCPD_PORT_STAT_HR_COUNT n) == 3 then ((s.tcGo n 8).tcRp n 3).tcLeft n
  else if !s.tcEnabled n then ((s.tcRest n).tcLeft n)
  else (s.tcTake n).tcLeft n

/-- ERROR_RECOVERY ends. -/
def State.errorRecovered (s : State) (n : Nat) : State := if s.tcState n == 8 then (s.tcRest n).tcLeft n else s

/-- The port's channel has tripped (R485). -/
def State.tcTripped (s : State) (n : Nat) : State :=
  let s := ((s.tcRelease n).tcVbus n false).tcVsel n 0
  let s := ((s.tcVconn n false).tcGo n 8).tcRp n 3
  (s.notice 0x0825 [byte n, 1]).serveBudget

/-- The tripped channel has entered WAIT or OFF (R516). -/
def State.tcChannelBack (s : State) (n : Nat) : State :=
  if s.fuseState (4 + n) == 0 || s.fuseState (4 + n) == 2 then s.errorRecovered n else s

/-- Detach is declared (R473, R486). -/
def State.tcDetach (s : State) (n : Nat) : State :=
  let st := s.tcState n
  if st == 2 then s.tcRest n
  else if st < 3 || 8 ≤ st then s
  else
    let x := s.tcPort n
    let goal : Nat := match x.next with
      | some (_, k, _, _) => k
      | none => x.volt
    let old := s.rd (Reg.TCPD_PORT_CONTRACT_MW n)
    let pend := s.rd (Reg.TCPD_PORT_PEND_MW n)
    let flags := b2n (s.flag (Reg.TCPD_PORT_STAT_RA n)) + 2 * b2n (s.flag (Reg.TCPD_PORT_STAT_CC2 n))
    let rp := s.rd (Reg.TCPD_PORT_STAT_RP n)
    let s := (s.tcRelease n).tcDischarge n
    let s := if st == 6 then (s.count (0x25A + 8 * n)).notice 0x0822 ([byte n, byte x.volt, byte goal] ++ le 3 old ++ le 3 pend)
      else (s.count (0x259 + 8 * n)).notice 0x0820 [byte n, 0, byte rp, byte flags]
    s.serveBudget

end Sys2Proof.Machine
end

