-- ==== Sys2Proof/Machine/Nib.lean ====
section
/-!
DEFINITION. The Nib and the mode sequencer's shared operations: rails, reset causes, what a hub-die reset clears, the
operating-point engine, and the wakes (R525 to R557).
-/

namespace Sys2Proof.Machine

/-- The machine with the Nib's state changed. -/
def State.withNib (s : State) (f : Nib → Nib) : State := { s with nib := f s.nib }

/-- The machine with the command interface changed. -/
def State.withCmd (s : State) (f : Cmd → Cmd) : State := { s with cmd := f s.cmd }

/-- EFU_INTAKE.OK: the intake lies within CH0's window (R501). -/
def State.intakeOk (s : State) : Bool := s.flag Reg.EFU_INTAKE_OK

/-- TCS allows the recovery domain: an advertisement of 1.5 A or 3.0 A, or a contract of at least 7.5 W (R40). -/
def State.tcsLevel (s : State) : Bool :=
  s.rd Reg.TCPD_TCS_STAT_STATE != 0 &&
    (s.rd Reg.TCPD_TCS_STAT_RP_SEEN == 1 || s.rd Reg.TCPD_TCS_STAT_RP_SEEN == 2 ||
      s.rd Reg.TCPD_TCS_STAT_CONTRACT_MW ≥ 7500)

/-! Rails (R526) -/

/-- Enables the first rail. -/
def State.railsRise (s : State) : State :=
  ((s.withNib fun n => { n with stage := .rising, rails := 1, startDue := false, upDue := false }).wr
    Reg.PWR_STAT_SEQ 1).emit (.power "rail on" [0])

/-- Starts bringing the hub rails up: on TCS, TCS_PATH_EN and its 1 ms; on the intake, once CH0 reports power-good.
A start within OFF_MIN_MS waits for its end (R545). -/
def State.startUp (s : State) : State :=
  if s.nib.stage != .off then s
  else if s.nib.offMin then s.withNib fun n => { n with upDue := true }
  else if s.nib.onTcs then
    ((s.withNib fun n => { n with pathSettling := true }).put Reg.PWR_STAT_TCS_PATH true).pin "TCS_PATH_EN" 1
  else if s.flag (Reg.EFU_CH_STAT_PG 0) then s.railsRise
  else s.withNib fun n => { n with startDue := true }

/-- A start that waits for CH0's power-good (R526). -/
def State.nibStep (s : State) : State :=
  if s.nib.startDue && s.nib.stage == .off && !s.nib.onTcs && !s.nib.offMin && s.flag (Reg.EFU_CH_STAT_PG 0) then
    s.railsRise
  else s

/-! Resets -/

/-- Records a reset cause in PWR_RSTCAUSE (R552). -/
def State.recordCause (s : State) (cause : Nat) (detail : Nat := 0) : State :=
  ((s.wr Reg.PWR_RSTCAUSE_CAUSE cause).wr Reg.PWR_RSTCAUSE_DETAIL detail).bump Reg.PWR_RSTCAUSE_COUNT

/-- Counts and records a refused or aborted entry (R543). -/
def State.recordRefusal (s : State) (kind target unit : Nat) : State :=
  (((s.wr Reg.PWR_REFUSE_CNT_KIND kind).wr Reg.PWR_REFUSE_CNT_TARGET target).wr Reg.PWR_REFUSE_CNT_UNIT unit).bump
    Reg.PWR_REFUSE_CNT_COUNT

/-- The detail of PWR_REFUSED (R557). -/
def State.refusalDetail (s : State) : Bytes :=
  [byte (s.rd Reg.PWR_REFUSE_CNT_TARGET), byte (s.rd Reg.PWR_REFUSE_CNT_UNIT), byte (s.rd Reg.PWR_REFUSE_CNT_KIND)] ++
    le 2 (s.rd Reg.PWR_REFUSE_CNT_COUNT)

/-- The sequencer is in an ask or entry phase toward IDLE or STANDBY. -/
def State.inEntry (s : State) : Bool :=
  match s.nib.seq with
  | .ask _ | .drain _ | .pmeWait _ _ | .slow => true
  | _ => false

/-- An entry cut short is counted with kind 1 and unit 0xFE or 0xFF (R543). -/
def State.abortEntry (s : State) (unit : Nat) : State :=
  if s.inEntry then
    (s.recordRefusal 1 (s.rd Reg.SYS_MODE_TARGET) unit).withNib fun n => { n with aborted := true }
  else s

/-- An OTP job cut short leaves only some bits of its word programmed (R567): the slot reads as programmed and fails
its check, the password stays unusable, and any retire bit counts.  An LC_ADVANCE to SCRAPPED counts from its first
bit (R570). -/
def cutJob (n : NonVol) (k : JobKind) : NonVol :=
  match k with
  | .otpKey slot key attr =>
    { n with otp := Table.set (fun _ => {}) n.otp slot { programmed := true, key := key, attr := attr, check := [] } }
  | .otpPassword salt verifier => { n with password := some (salt, verifier), pwPartial := true }
  | .otpRetire slot =>
    { n with otp := Table.set (fun _ => {}) n.otp slot { (Table.get (fun _ => {}) n.otp slot) with retired := true } }
  | .lcAdvance target => if target == 4 then { n with lifeCycle := 4 } else n
  | _ => n

/-- What the hub die keeps of Inkwell across a reset (R571): with the rails kept, the volatile slots with PERSIST. -/
def keptSlots (k : Inkwell) (rails : Bool) : Inkwell :=
  { slots := if rails then k.slots.filter (fun e => e.1 ≥ 16 && (match e.2 with
      | some x => bit x.attr 24
      | none => false)) else [] }

/-- The hub die's power-on reset (R549): every hub-die block and structure takes its reset value; what the power die,
OTP, flash and the outside hold stays.  NSEQ starts at 0 again, and the first notice carries 0 (DESIGN CHOICE, log entry
64). -/
def State.hubClear (s : State) (rails : Bool) : State :=
  { pending := s.pending
    regs := Table.keep onPowerDie s.regs
    act := Table.keep onPowerDie s.act
    out := s.out
    fresh := s.fresh
    pins := s.pins
    nib := { s.nib with
      seq := .none, heldWake := none, wakeOf := none, underTest := [], mappedOut := [], watchdogAt := none,
      warnArmed := true, opWaiters := [], volt := 2, vCmd := 2, pmbusNacks := 0
      lostSessions := handles.filter fun h => s.nib.lostSessions.contains h || (s.session h).phase != .free }
    nv := s.cmd.jobs.foldl (fun n j => cutJob n j.kind) s.nv
    ink := keptSlots s.ink rails
    fw := { loaded := if rails then s.fw.loaded else s.fw.loaded.filter fun e => e.1 == 2 }
    fuses := s.fuses
    tc := s.tc }

/-- A hub-die reset with the rails kept (R549, R654): the cause is recorded, an entry under way is aborted, and the
power-on reset is held. -/
def State.hubReset (s : State) (cause : Nat) (detail : Nat := 0) : State :=
  (((s.abortEntry 0xFE).recordCause cause detail).hubClear true).withNib fun n =>
    { n with stage := .held, fromStandby := none }

/-- The rails are taken down (R526): the power-on reset is asserted first, and the highest rail is disabled.  Where they
are falling already, only what follows changes. -/
def State.railsDown (s : State) (after : AfterDown) : State :=
  let r := s.nib.rails
  let falling : Bool := s.nib.stage == .falling
  let s := (s.hubClear false).withNib fun n =>
    { n with after := after, startDue := false, upDue := false, pathSettling := false, fromStandby := none }
  if falling then s
  else if r == 0 then (s.withNib fun n => { n with stage := .off }).wr Reg.PWR_STAT_SEQ 0
  else ((s.withNib fun n => { n with stage := .falling, rails := r - 1 }).wr Reg.PWR_STAT_SEQ 3).emit
    (.power "rail off" [r - 1])

/-- A rail fault (R527). -/
def State.railFault (s : State) (rail : Nat) : State :=
  let s := (s.count 0x2C8).abortEntry 0xFE
  let s := ((s.put Reg.PWR_STAT_RAIL_FAULT true).wr Reg.PWR_STAT_RAIL rail).recordCause 0x0B
  (s.withNib fun n => { n with railNotice := true, standbyCmd := false }).railsDown .faulted

/-! Operating points (R533 to R536) -/

/-- The point that the requests, the forcing and the throttle together name. -/
def State.pointWanted (s : State) : Nat :=
  if s.flag Reg.CLK_OP_FORCED then 2
  else
    let t := min 2 (s.rd Reg.CLK_OP_TARGET)
    if s.flag Reg.CLK_OP_THROTTLE then min 2 (t + 1) else t

/-- The regulator command for a point (R533): the VID balls with IF 1, else VOUT_COMMAND on PMBus. -/
def State.commandVoltage (s : State) (p : Nat) : State :=
  let s := s.withNib fun n => { n with vCmd := p, pmbusNacks := 0 }
  if s.flag Reg.CLK_VR_IF then s.pin "VR_VID" p
  else s.emit (.power "VOUT_COMMAND" [s.rd Reg.CLK_VR_PMBUS_ADDR, 0x21, [800, 700, 650].getD p 650])

/-- The next step of a change (R534): a higher voltage first, then the frequency, then a lower voltage.  STEP shows it,
and 0 when nothing is left to do. -/
def State.opAdvance (s : State) : State :=
  let t := s.pointWanted
  let c := s.rd Reg.CLK_OP_CUR
  if t < s.nib.volt then (s.wr Reg.CLK_OP_STEP 1).commandVoltage t
  else if c != t then s.wr Reg.CLK_OP_STEP 2
  else if s.nib.volt < t then (s.wr Reg.CLK_OP_STEP 1).commandVoltage t
  else s.wr Reg.CLK_OP_STEP 0

/-- A change is asked for; one under way finishes its step first (R534). -/
def State.opChange (s : State) (cause : Nat) : State :=
  let s := s.withNib fun n => { n with opCause := cause }
  if s.rd Reg.CLK_OP_STEP == 0 then s.opAdvance else s

/-! Units (R35, R537) -/

/-- Sets or clears a unit's bit of SYS_UNITS_OUT and follows with DEGR and the mode. -/
def State.showUnit (s : State) (u : Nat) (out : Bool) : State :=
  match unitBit s.isRoot u with
  | some k =>
    (s.setReg Reg.SYS_UNITS_OUT_A
      (BitVec.ofNat 32 (putBit (s.reg Reg.SYS_UNITS_OUT_A).toNat k out))).degrade
  | none => s

/-- A unit is mapped out. -/
def State.mapOut (s : State) (u : Nat) : State :=
  if s.nib.mappedOut.contains u then s
  else (s.withNib fun n => { n with mappedOut := n.mappedOut ++ [u] }).showUnit u true

/-- A unit returns to service. -/
def State.mapIn (s : State) (u : Nat) : State :=
  (s.withNib fun n => { n with mappedOut := n.mappedOut.filter (· != u) }).showUnit u false

/-! Wakes (R539 to R544) -/

/-- The source acts in STANDBY, or in IDLE (R539). -/
def actsInStandby (b : Nat) : Bool := b ≤ 4
def actsInIdle (b : Nat) : Bool := b == 0 || b == 1 || b == 5 || (8 ≤ b && b ≤ 13)

/-- The mask of a mode enables source b, and the source acts there. -/
def State.wakeEnabled (s : State) (target b : Nat) : Bool :=
  if target == 1 then actsInStandby b && bit (s.rd Reg.PWR_WAKE_EN_STBY) b
  else actsInIdle b && bit (s.rd Reg.PWR_WAKE_EN_IDLE) b

/-- Source b is held pending. -/
def State.holdWake (s : State) (b : Nat) : State :=
  s.wr Reg.PWR_WAKE_STAT_PENDING (setBit (s.rd Reg.PWR_WAKE_STAT_PENDING) b)

/-- Source b is served: LAST shows it, and no source is pending any more, since Damya leaves the mode in which they were
held (DESIGN CHOICE, log entry 63). -/
def State.wakeServed (s : State) (b left : Nat) (held : Bool) : State :=
  let s := (s.wr Reg.PWR_WAKE_STAT_PENDING 0).wr Reg.PWR_WAKE_STAT_LAST b
  let s := if held then s.bump Reg.PWR_WAKE_LATE_COUNT else s
  (s.withNib fun n => { n with wakeOf := some (b, left, held) }).count (0x2CC + b)

/-- The stay in STANDBY ends, where there was one; `wake` says whether a wake ends it (R42). -/
def State.leaveStandby (s : State) (wake : Bool) : State :=
  s.withNib fun n => { n with fromStandby := if n.standby then some wake else none, standby := false, standbyCmd := false }

/-- STANDBY ends: the rails come up, and the boot will record STANDBY_EXIT after a commanded stay (R539, R549). -/
def State.wakeStandby (s : State) (b : Nat) (held : Bool) : State :=
  let s := (s.withNib fun n => { n with heldWake := none }).wakeServed b 1 held
  let s := if s.nib.standbyCmd then s.recordCause 0x02 else s
  (s.leaveStandby true).startUp

/-- The supply of the Nib is TCS, or the intake again: a change is counted and raises TCS_SOURCE (R491, R496). -/
def State.tcsSource (s : State) (tcs : Bool) : State :=
  if s.flag Reg.TCPD_TCS_STAT_SOURCE == tcs then s
  else
    let s := (s.put Reg.TCPD_TCS_STAT_SOURCE tcs).count 0x278
    s.notice 0x0828 ([byte (s.rd Reg.TCPD_TCS_STAT_SOURCE), byte (s.rd Reg.TCPD_TCS_STAT_PDO)] ++
      le 2 (s.rd Reg.TCPD_TCS_STAT_CONTRACT_MW))

/-- TCS_PATH_EN is released, and HUB_VIN is fed from the intake again. -/
def State.tcsPathOff (s : State) : State :=
  let driven := s.flag Reg.PWR_STAT_TCS_PATH
  let s := (s.withNib fun n => { n with onTcs := false, pathSettling := false }).put Reg.PWR_STAT_TCS_PATH false
  (if driven then s.pin "TCS_PATH_EN" 0 else s).fusesFollow

/-- The recovery domain starts on TCS power (R40), or waits for the thermal hold (R536). -/
def State.startOnTcs (s : State) : State :=
  let s := s.tcsSource true
  if s.nib.thermalHold then s.withNib fun n => { n with tcsDue := true }
  else (((s.withNib fun n => { n with onTcs := true, tcsDue := false, startDue := false }).leaveStandby false).fusesFollow).startUp

/-- A held STANDBY source is served once the intake is in its window and Tj allows it (R541); the flag of WAKE says
whether it was held during an entry (R544). -/
def State.servePending (s : State) : State :=
  if s.nib.stage == .off && !s.nib.thermalHold then
    if s.nib.tcsDue && !s.intakeOk && s.tcsLevel then s.startOnTcs
    else if s.intakeOk then
      match [0, 1, 2, 3, 4].find? (fun b => bit (s.rd Reg.PWR_WAKE_STAT_PENDING) b) with
      | some b => s.wakeStandby b (s.nib.heldWake == some b)
      | none => s
    else s
  else s

/-- The intake lies in its window in STANDBY (R529 step 3, R541): the INTAKE source acts as a wake where its mask enables
it, and a pending wake is served. -/
def State.intakeWakes (s : State) : State :=
  if s.wakeEnabled 1 3 && !s.nib.thermalHold then s.wakeStandby 3 false
  else (if s.wakeEnabled 1 3 then s.holdWake 3 else s).servePending

end Sys2Proof.Machine
end

