-- ==== Sys2Proof/Machine/Comets.lean ====
section
/-!
DEFINITION. Comets: selection at admission, stages, outcomes and records (R613 to R617), and the counter snapshot bank
(R607, R608).
-/

namespace Sys2Proof.Machine

/-- The machine with the performance block's state changed. -/
def State.withPerf (s : State) (f : Perf → Perf) : State := { s with perf := f s.perf }

/-- CMT_STAT.ACTIVE follows the Comets in flight. -/
def State.setComets (s : State) (l : List Comet) : State :=
  (s.withPerf fun p => { p with comets := l }).wr Reg.CMT_STAT_ACTIVE l.length

/-- The next value of the 32-bit Galois LFSR (R614). -/
def galois32 (l : Nat) : Nat := if l % 2 = 1 then (l / 2) ^^^ 0x80200003 else l / 2

/-- The words of selector k in force since the last epoch (R617). -/
def State.selector (s : State) (k : Nat) : Word × Word :=
  (Table.get (fun _ => regReset (Reg.CMT_SEL_A_A 0)) s.perf.selA k,
   Table.get (fun _ => regReset (Reg.CMT_SEL_B_A 0)) s.perf.selB k)

/-- Selector k matches a segment toward the outputs `dests`. -/
def State.selects (s : State) (h : Held) (dests : List Nat) (k : Nat) : Bool :=
  let (a, b) := s.selector k
  let inp := (Reg.CMT_SEL_A_INPUT 0).get a
  let out := (Reg.CMT_SEL_B_OUTPUT 0).get b
  (Reg.CMT_SEL_A_EN 0).get a == 1 && (inp == 0xFF || inp == h.input) && (out == 0xFF || dests.contains out) &&
    ((Reg.CMT_SEL_A_TID_ANY 0).get a == 1 || (Reg.CMT_SEL_A_TID 0).get a == h.seg.tid) &&
    bit ((Reg.CMT_SEL_A_CLASSES 0).get a) h.cls

/-- The offset of the present moment from raw value r, in 2^−4 ns. -/
def State.cometOffset (s : State) (r : Nat) : Nat :=
  min 0xFFFFFFFE (s.mer.ns16 ((s.mer.raw : Int) - r) / (4096 : Int)).toNat

/-- A segment is tagged as a Comet when its selector's draw says so (R614). -/
def State.cometSelect (s : State) (id : Nat) (h : Held) (dests : List Nat) (depth : Nat) : State :=
  match [0, 1, 2, 3].find? (s.selects h dests) with
  | none => s
  | some k =>
    let l := galois32 s.perf.lfsr
    let s := s.withPerf fun p => { p with lfsr := l }
    let (_, b) := s.selector k
    if l % 2 ^ min 20 ((Reg.CMT_SEL_B_RATE_LOG2 0).get b) != 0 then s
    else if s.perf.comets.length ≥ 16 then s.count 0x2F9
    else
      let o := s.cometOffset h.raw
      let c : Comet :=
        { id := s.rd Reg.CMT_NEXT_ID_ID, seg := id, selector := k, dropsOnly := (Reg.CMT_SEL_B_DROPS_ONLY 0).get b == 1
          input := h.input, output := dests.headD 0xFF, tid := h.seg.tid, sseq := h.seg.sseq, cls := h.cls
          color := h.seg.color, len := h.seg.len, hop := h.seg.hop
          flags := b2n h.seg.urg + 2 * b2n (decide (1 < dests.length)) + 8 * b2n h.seg.sys
          gen := s.rd Reg.MER_GEN_GEN, start := h.raw, time := if s.merRun then s.readingAt h.raw else 0
          stages := [(1, 0), (2, o)] ++ (if h.whole then [(5, o)] else []), depth := depth }
      ((s.setComets (s.perf.comets ++ [c])).incr Reg.CMT_NEXT_ID_ID).count 0x2F8

/-- A Comet reaches stages (R613); a stage that it has reached already keeps its moment. -/
def State.cometStage (s : State) (id : Nat) (stages : List Nat) : State :=
  if s.perf.comets.any (fun c => c.seg == id) then
    s.setComets (s.perf.comets.map fun c =>
      if c.seg == id then
        { c with stages := stages.foldl (fun t j =>
            if (t.find? (fun e => e.1 == j)).isSome then t
            else Table.insert j (s.cometOffset c.start) t) c.stages }
      else c)
  else s

/-- What a Comet learns when its copy starts: the output and whether it leaves by cut-through. -/
def State.cometLeaves (s : State) (id output : Nat) (cut : Bool) (color : Nat) : State :=
  if s.perf.comets.any (fun c => c.seg == id) then
    (s.setComets (s.perf.comets.map fun c =>
      if c.seg == id then { c with output := output, color := color, flags := if cut then setBit c.flags 2 else c.flags }
      else c)).cometStage id [3, 4]
  else s

/-- The comet queue's entry (R616). -/
def cometEntry (c : Comet) (outcome : Nat) : Bytes :=
  [1, byte (c.flags + 16 * c.selector), byte c.input, byte c.output] ++ le 2 c.tid ++
  [byte c.sseq, byte (c.cls + 4 * c.color + 16 * outcome)] ++ le 2 c.len ++ [byte c.hop, byte c.gen] ++
  timeBytes c.time ++ le 4 c.id ++
  (List.range 8).flatMap (fun j => le 4 (((c.stages.find? (fun e => e.1 == j + 1)).map (·.2)).getD 0xFFFFFFFF)) ++
  le 2 (min 0xFFFF c.depth) ++ [0, 0]

/-- A Comet ends with an outcome (R615). -/
def State.cometEnd (s : State) (id outcome : Nat) : State :=
  match s.perf.comets.find? (fun c => c.seg == id) with
  | none => s
  | some c =>
    let s := s.setComets (s.perf.comets.filter fun x => x.id != c.id)
    let s := if outcome == 8 then s.count 0x2FB else s
    if outcome == 0 && c.dropsOnly then s else (s.count 0x2FA).produce 2 (cometEntry c outcome)

/-- COMET_EXPIRY (R615): the Comet with this number has not ended 268 ms after S0. -/
def execCometExpiry (id : Word) (s : State) : Out :=
  onHub (fun s => match s.perf.comets.find? (fun c => c.id == id.toNat) with
    | some c => s.cometEnd c.seg 8
    | none => s) s

/-- CMT_SEED_WRITE (R614, R619). -/
def execCmtSeedWrite (v : Word) (s : State) : Out :=
  onHub (fun s => s.withPerf fun p => { p with lfsr := orOne v.toNat }) s

/-- The snapshot of R607: every counter, its OVF bit and the reading of the same core cycle. -/
def State.perfSnap (s : State) : State :=
  let t := s.stamp
  let s := s.withPerf fun p => { p with bank := s.counters, bankOvf := s.overflow }
  ((((s.incr Reg.PERF_GEN_GEN).wr Reg.PERF_SNAP_SL_SEC_LO (secOf t)).wr Reg.PERF_SNAP_SH_SEC_HI (secOf t / 2 ^ 32)).wr
    Reg.PERF_SNAP_NS_NSEC (nsecOf t)).count 0x2FC

/-- The clear of R608 on counters `first` to `first` + `n` − 1. -/
def State.perfClear (s : State) (first n : Nat) (ovfOnly : Bool) : State :=
  if first > 767 then s
  else
    let hit (i : Nat) : Bool := first ≤ i && i < first + n && i ≤ 767
    let s := { s with overflow := s.overflow.filter fun i => !hit i
                      counters := if ovfOnly then s.counters else s.counters.filter fun e => !hit e.1 }
    s.count 0x2FD

/-- A write of PERF_CTRL (R607, R608): with SNAP and CLEAR together the snapshot is taken first. -/
def State.perfCtrl (s : State) (w : Word) : State :=
  let s := (s.wr Reg.PERF_CTRL_COUNT (Reg.PERF_CTRL_COUNT.get w)).wr Reg.PERF_CTRL_FIRST (Reg.PERF_CTRL_FIRST.get w)
  let s := if Reg.PERF_CTRL_SNAP.get w == 1 then s.perfSnap else s
  if Reg.PERF_CTRL_CLEAR.get w == 1 then
    s.perfClear (Reg.PERF_CTRL_FIRST.get w) (Reg.PERF_CTRL_COUNT.get w) (Reg.PERF_CTRL_OVF_ONLY.get w == 1)
  else s

/-- PERF_SNAP (R607). -/
def execPerfSnap (s : State) : Out := onHub State.perfSnap s

/-- PERF_CLEAR (R608): a write of PERF_CTRL with CLEAR at 1 and SNAP at 0. -/
def execPerfClear (first : BitVec 10) (n : BitVec 10) (ovfOnly : Bool) (s : State) : Out :=
  onHub (fun s =>
    ((s.wr Reg.PERF_CTRL_COUNT n.toNat).wr Reg.PERF_CTRL_FIRST first.toNat).perfClear first.toNat n.toNat ovfOnly) s

end Sys2Proof.Machine
end

