-- ==== Sys2Proof/Machine/Switch.lean ====
section
/-!
DEFINITION. The switch core's decisions at an input: policers and color marking, WRED, buffer space and admission
(R223 to R235, R261 to R264), and the periodic sweeps.
-/

namespace Sys2Proof

open Sys2Proof.Machine

/-- A bucket filled over `r` raw units: 1 Mb/s is one 3,200,000th of 1/256 byte per raw unit, and the fraction stays
inside the fill. -/
def PolicerBucket.fill (b : PolicerBucket) (r : Nat) : PolicerBucket :=
  let n := b.rate * r + b.frac
  let add := n / 3200000
  let room := b.size - b.tokens
  { b with tokens := b.tokens + min add room, added := (b.added + add) % 2 ^ 32
           clipped := (b.clipped + (add - room)) % 2 ^ 32, frac := n % 3200000 }

/-- Tokens leave the bucket. -/
def PolicerBucket.spend (b : PolicerBucket) (n : Nat) : PolicerBucket :=
  { b with tokens := b.tokens - n, spent := (b.spent + n) % 2 ^ 32 }

/-- The bucket takes a new rate and size; tokens above a smaller size are clipped (R263). -/
def PolicerBucket.retune (b : PolicerBucket) (rate kib : Nat) : PolicerBucket :=
  let size := kib * 262144
  { b with rate := rate, size := size, tokens := min b.tokens size
           clipped := (b.clipped + (b.tokens - size)) % 2 ^ 32 }

/-- The policer filled up to the present. -/
def Policer.fill (p : Policer) (raw : Nat) : Policer :=
  { p with c := p.c.fill (raw - p.at_), p := p.p.fill (raw - p.at_), at_ := raw }

/-- The rates of direction d: CIR, PIR, CBS, PBS; for EXPRESS the peak pair is the committed pair (R262). -/
def Rates.dir (x : Rates) (d cls : Nat) : Nat × Nat × Nat × Nat :=
  let (cir, pir, cbs, pbs) := if d == 0 then (x.cirAb, x.pirAb, x.cbsAb, x.pbsAb) else (x.cirBa, x.pirBa, x.cbsBa, x.pbsBa)
  if cls == 0 then (cir, cir, cbs, cbs) else (cir, pir, cbs, pbs)

end Sys2Proof

namespace Sys2Proof.Machine

/-! Policers (R231, R261 to R264) -/

/-- The policer of a tunnel direction: 0 A to B, 1 B to A. -/
def State.policer (s : State) (tid d : Nat) : Option Policer := Table.get (fun _ => none) s.sw.policers (2 * tid + d)

/-- The machine with it replaced, or emptied. -/
def State.setPolicer (s : State) (tid d : Nat) (p : Option Policer) : State :=
  s.withSw fun w => { w with policers := Table.set (fun _ => none) w.policers (2 * tid + d) p }

/-- The policer is loaded with full buckets as its entry becomes OPEN (R263); the first fill stands in ADDED_CUM, so that
the balance of R264 holds (log entry 13). -/
def State.loadPolicer (s : State) (tid d cls : Nat) (r : Rates) : State :=
  let (cir, pir, cbs, pbs) := Rates.dir r d cls
  let full (rate kib : Nat) : PolicerBucket :=
    { rate := rate, size := kib * 262144, tokens := kib * 262144, added := kib * 262144 }
  s.setPolicer tid d (some { c := full cir cbs, p := full pir pbs, cls := cls, at_ := s.mer.raw })

/-- The policer takes a retune's values (R214, R263). -/
def State.retunePolicer (s : State) (tid d cls : Nat) (r : Rates) : State :=
  match s.policer tid d with
  | none => s
  | some p =>
    let p := p.fill s.mer.raw
    let (cir, pir, cbs, pbs) := Rates.dir r d cls
    s.setPolicer tid d (some { p with c := p.c.retune cir cbs, p := p.p.retune pir pbs })

/-- The meter of R231 on a segment of `n` bytes: the color, and whether the policer drops it. -/
def State.meter (s : State) (tid n : Nat) : Nat × Bool × State :=
  let role := s.tidRole tid
  if !s.tidOpen tid || (role != 1 && role != 2) then (0, false, s)
  else match s.policer tid (role - 1) with
    | none => (0, false, s)
    | some p =>
      let p := p.fill s.mer.raw
      let b := 256 * n
      let (color, p) :=
        if p.p.tokens < b then (2, p)
        else if p.c.tokens < b then (1, { p with p := p.p.spend b })
        else (0, { p with p := p.p.spend b, c := p.c.spend b })
      let s := (s.setPolicer tid (role - 1) (some p)).count (0x120 + 3 * p.cls + color)
      let drops := color == 2 && (p.cls == 0 || bit (s.rd Reg.SCH_CTRL_RED_DROP) p.cls)
      (color, drops, if drops then s.count (0x12C + p.cls) else s)

/-- POLICER_SNAPSHOT (R264, R282): the policer that SCH_POLSEL names, as it stands at one core-cycle boundary. -/
def State.policerSnapshot (s : State) (w : Word) : State :=
  let s := (s.wr Reg.SCH_POLSEL_TID (Reg.SCH_POLSEL_TID.get w)).wr Reg.SCH_POLSEL_DIR (Reg.SCH_POLSEL_DIR.get w)
  let tid := s.rd Reg.SCH_POLSEL_TID
  let d := s.rd Reg.SCH_POLSEL_DIR
  let p := if s.tidOpen tid && s.tidRole tid == d + 1 then (s.policer tid d).map fun p => p.fill s.mer.raw else none
  let s := match p with
    | some p => s.setPolicer tid d (some p)
    | none => s
  let g (f : Policer → Nat) : Nat := (p.map f).getD 0
  let s := (s.wr Reg.SCH_POLCIR_CIR (g (·.c.rate))).wr Reg.SCH_POLPIR_PIR (g (·.p.rate))
  let s := (s.wr Reg.SCH_POLBKT_PBS (g (·.p.size / 262144))).wr Reg.SCH_POLBKT_CBS (g (·.c.size / 262144))
  let s := (s.wr Reg.SCH_POLTC_TC (g (·.c.tokens))).wr Reg.SCH_POLTP_TP (g (·.p.tokens))
  let s := ((s.wr Reg.SCH_POLADDC_ADDED_CUM (g (·.c.added))).wr Reg.SCH_POLSPENTC_SPENT_CUM (g (·.c.spent))).wr
    Reg.SCH_POLCLIPC_CLIPPED_CUM (g (·.c.clipped))
  let s := ((s.wr Reg.SCH_POLADDP_ADDED_CUM (g (·.p.added))).wr Reg.SCH_POLSPENTP_SPENT_CUM (g (·.p.spent))).wr
    Reg.SCH_POLCLIPP_CLIPPED_CUM (g (·.p.clipped))
  (s.put Reg.SCH_POLSTAT_ACTIVE p.isSome).wr Reg.SCH_POLSTAT_CLASS (g (·.cls))

/-- POLICER_SNAPSHOT: a write of `v` to SCH_POLSEL. -/
def execPolicerSnapshot (v : Word) (s : State) : Out := onHub (fun s => s.policerSnapshot v) s

/-! WRED (R233, R234) -/

/-- The next value of the 16-bit Fibonacci LFSR x^16 + x^14 + x^13 + x^11 + 1. -/
def fib16 (l : Nat) : Nat :=
  l / 2 + 2 ^ 15 * b2n ((l.testBit 0 != l.testBit 2) != (l.testBit 3 != l.testBit 5))

/-- WRED drops a segment of this class and color at an average of `avg` sixteenths of a cell. -/
def State.wred (s : State) (cls color avg : Nat) : Bool × State :=
  let k := 3 * cls + color
  let mx := s.rd (Reg.SWC_WRED0_MAX_TH k)
  let mn := s.rd (Reg.SWC_WRED0_MIN_TH k)
  let maxP := s.rd (Reg.SWC_WRED1_MAX_P k)
  if color > 2 || mx == 0 then (false, s)
  else if 16 * mx ≤ avg then (true, s)
  else if mx ≤ mn || avg < 16 * mn || maxP * (avg - 16 * mn) == 0 then (false, s)
  else
    let r := fib16 s.sw.lfsr
    (decide (r * 256 * (16 * (mx - mn)) < maxP * (avg - 16 * mn) * 65536), s.withSw fun w => { w with lfsr := r })

/-- One update of an average (R234).  The manual does not say how the quotient is rounded to its four fractional bits:
where it is not exact, a free bit decides between the two neighbors (log entry 14). -/
def State.avgStep (s : State) (avg depth : Nat) : Nat × State :=
  let w := min 10 (s.rd Reg.SWC_CTRL_WRED_W)
  let d : Int := (16 * depth : Nat) - (avg : Int)
  let q := d / (2 ^ w : Nat)
  if d % (2 ^ w : Nat) == 0 then ((avg + q : Int).toNat, s)
  else
    let (up, s) := s.free 1
    ((avg + q + up : Int).toNat, s)

/-- WRED_AVG_UPDATE (R234): the average of every unicast and multicast queue, which takes place every 256 core cycles. -/
def State.wredUpdate (s : State) : State :=
  let keys := ((s.regs.filter fun e => 0x308000 ≤ e.1 && e.1 < 0x310000).map fun e => (e.1 - 0x308000) / 8).eraseDups
  let s := keys.foldl (fun (s : State) k =>
    let (a, s) := s.avgStep (s.rd (Reg.SWC_VOQ_AVG_AVG k)) (s.rd (Reg.SWC_VOQ_DEPTH_DEPTH k))
    s.wr (Reg.SWC_VOQ_AVG_AVG k) a) s
  let mk := ((s.sw.mcDepth.map (·.1)) ++ (s.sw.mcAvg.map (·.1))).eraseDups
  mk.foldl (fun (s : State) k =>
    let (a, s) := s.avgStep (Table.get (fun _ => 0) s.sw.mcAvg k) (Table.get (fun _ => 0) s.sw.mcDepth k)
    s.withSw fun w => { w with mcAvg := Table.set (fun _ => 0) w.mcAvg k a }) s

/-- WRED_AVG_UPDATE. -/
def execWredAvgUpdate (s : State) : Out := onHub State.wredUpdate s

/-- DESCRIPTOR_AGE_SWEEP (R255): every 32,768 core cycles each descriptor that has waited so long takes its age
extension. -/
def execDescriptorAgeSweep (s : State) : Out :=
  onHub (fun s => s.withSw fun w => { w with held := w.held.map fun e =>
    (e.1, e.2.map fun h => if 32768 ≤ w.cycle - h.arrival then { h with ext := true } else h) }) s

/-- SWC_SHLOW_CLR (R250): LOW takes the present free count of the shared pool. -/
def execSwcShlowClr (s : State) : Out :=
  onHub (fun s => s.wr Reg.SWC_SHLOW_LOW (s.poolSize - s.poolUsed)) s

/-! Admission (R223) -/

/-- Where a segment goes, or the index in the tunnel engine's counters of the reason for which it is discarded, with the
port whose mapped-out unit it was for. -/
inductive Target where
  | outputs (l : List Nat)
  | discard (counter : Nat)
  | mappedOut (port : Nat)
  /-- A tap's unit is out of service: the segment goes on by the trunk output alone (R37, R202). -/
  | tapOut (out port : Nat)
deriving DecidableEq, Repr

/-- A line record (R189): TID 0, SYS, byte 0 in 0xE1 to 0xEF. -/
def isRecord (g : Segment) : Bool :=
  g.tid == 0 && g.sys && decide (0xE1 ≤ leAt g.payload 0 1) && decide (leAt g.payload 0 1 ≤ 0xEF)

/-- The record has been applied here before, or this Damya is its originator (R190). -/
def State.recordSeen (s : State) (b : Bytes) : Bool :=
  match leAt b 0 1 with
  | 0xE3 => s.tun.heals.contains (leAt b 1 1, leAt b 2 1) || (s.placed && leAt b 2 1 == s.position)
  | 0xE4 => s.tun.changes.contains (leAt b 14 2)
  | 0xE5 => s.tun.lastClear == some (leAt b 2 2)
  | _ => false

/-- The trunk port of a virtual channel (R220). -/
def trunkPort (t cls : Nat) : Nat := 2 * t + cls / 2

/-- The local unit's port of a tunnel, or its being mapped out or under test. -/
def State.localTarget (s : State) (tid : Nat) : Target :=
  let u := s.rd (Reg.TUN_ENTRY_W1_UNIT tid)
  let sub := s.rd (Reg.TUN_ENTRY_W1_SUB tid)
  match unitPort s.isRoot u sub with
  | none => .discard 0x054
  | some p =>
    match mapCode u sub with
    | some c => if s.unitOut c then .mappedOut p else .outputs [p]
    | none => .outputs [p]

/-- The route of a tunnel's segments: one with taps keeps to the chain direction (R202). -/
def State.tunnelRoute (s : State) (tid d : Nat) : Route :=
  match s.route d with
  | .trunk t hops true => if (s.tunInfo tid).taps == [] then .trunk t hops true else .drop
  | r => r

/-- Steps 1 to 3 of R223 for a segment that entered on trunk `tin`, or on another port. -/
def State.target (s : State) (h : Held) (tin : Option Nat) : Target :=
  let g := h.seg
  match h.forced with
  | some t => if g.hop == 0 then .discard 0x053 else .outputs [trunkPort t 0]
  | none =>
    if g.tid == 1 then (if g.ttype == 3 then .outputs [20] else .discard 0x051)
    else if g.tid == 0 && g.ttype != 2 then .discard 0x051
    else if g.tid == 0 && isRecord g && tin.isSome && g.dst == 63 then
      let t := 1 - tin.getD 0
      if leAt g.payload 0 1 != 0xE1 && !s.recordSeen g.payload && s.linkActive t && g.hop != 0 then
        .outputs [21, trunkPort t 0]
      else .outputs [21]
    else if g.tid != 0 && !s.tidValid g.tid then .discard 0x050
    else if g.tid != 0 && s.rd (Reg.TUN_ENTRY_W0_TTYPE g.tid) != g.ttype then .discard 0x051
    else
      match (if g.tid == 0 then s.routeTid0 g.dst else s.tunnelRoute g.tid g.dst) with
      | .trunk t _ _ =>
        if tin == some t then .discard 0x052
        else if g.hop == 0 then .discard 0x053
        else
          let out := trunkPort t h.cls
          let tap := g.mc && tin.isSome && s.tidRole g.tid == 3
          match (if tap then s.localTarget g.tid else .discard 0) with
          | .outputs [p] => .outputs [out, p]
          | .mappedOut p => .tapOut out p
          | _ => .outputs [out]
      | .local_ =>
        if g.tid == 0 then .outputs [if isRecord g then 21 else 19]
        else s.localTarget g.tid
      | .drop => .discard 0x054

/-- Step 6: room in the buffer for `n` cells toward a queue of this depth (R225, R230). -/
def State.room (s : State) (p cls n depth : Nat) : Bool :=
  let held := s.rd (Reg.SWC_INHELD_HELD p)
  let mn := s.rd (Reg.SWC_INMIN_MIN_ACT p)
  let alpha := orOne (s.rd ([Reg.SWC_ALPHA_ALPHA0, Reg.SWC_ALPHA_ALPHA1, Reg.SWC_ALPHA_ALPHA2].getD cls
    Reg.SWC_ALPHA_ALPHA3))
  let free := s.poolSize - s.poolUsed
  p < 4 || held + n ≤ mn || ((held + n - max mn held ≤ free) && ((depth + n) * 8 ≤ alpha * free))

/-- A queue that had no candidate for an input has one: the input starts at the present virtual time (R257). -/
def State.wfqWake (s : State) (i o c : Nat) : State :=
  let k := 4 * o + c
  let x := Table.get (fun _ => {}) s.sw.wfq k
  if c == 0 || x.busy.contains i then s
  else
    let x := { x with start := Table.set (fun _ => 0) x.start i x.v, busy := x.busy ++ [i] }
    s.withSw fun w => { w with wfq := Table.set (fun _ => {}) w.wfq k x }

/-- The copies of a multicast segment that have neither started nor entered the residue store. -/
def State.headCopies (s : State) (id : Nat) (h : Held) : List Nat :=
  let under := s.crossingAt id
  h.dests.filter fun o => !under.contains o && !(s.residue h.input).any fun r => r.id == id && r.output == o

/-- The inputs that have a candidate, each with its output and class (R256). -/
def State.offers (s : State) : List (Nat × Nat × Nat) :=
  (s.sw.voq.filter fun e => e.2 != []).map (fun e => (e.1 / 128, e.1 / 4 % 32, e.1 % 4)) ++
  s.sw.residue.flatMap (fun e => e.2.map fun r => (e.1, r.output, r.cls)) ++
  s.sw.mcq.flatMap fun e => match e.2 with
    | id :: _ => (match s.seg? id with
      | some h => (s.headCopies id h).map fun o => (e.1 / 4, o, e.1 % 4)
      | none => [])
    | [] => []

/-- Weighted fair queuing follows the candidates (R257): an input without one is no longer busy, and one that has one anew
wakes. -/
def State.wfqSettle (s : State) : State :=
  let l := s.offers
  let s := s.sw.wfq.foldl (fun (s : State) e =>
    let x := { e.2 with busy := e.2.busy.filter fun i => l.contains (i, e.1 / 4, e.1 % 4) }
    s.withSw fun w => { w with wfq := Table.set (fun _ => {}) w.wfq e.1 x }) s
  l.foldl (fun (s : State) k => s.wfqWake k.1 k.2.1 k.2.2) s

/-- The receive engine's count of cells received on a channel (R166). -/
def State.received (s : State) (t v n : Nat) : State :=
  let l := Table.get (fun _ => ({} : Link)) s.links t
  let l := { l with recvCum := Table.set (fun _ => 0) l.recvCum v ((Table.get (fun _ => 0) l.recvCum v + n) % 2 ^ 32) }
  { s with links := Table.set (fun _ => {}) s.links t l }

/-- A segment is discarded or dropped at admission: a trunk's cells count as freed (R223). -/
def State.reject (s : State) (id : Nat) (h : Held) (counter outcome : Nat) : State :=
  let s := (s.count (0x060 + 8 * h.input + counter)).cometEnd id outcome
  let n := h.cells - unreceived h
  let s := if h.input < 4 then (s.received (h.input / 2) h.cls n).creditBack (h.input / 2) h.cls n else s
  s.setSeg id none

/-- The segment takes its cells and enters its queue (R226, R241). -/
def State.admitted (s : State) (id : Nat) (h : Held) (dests : List Nat) : State :=
  let s := (s.setSeg id (some { h with taken := h.cells, dests := dests })).takeCells h.input h.cls h.cells
  let s := if h.input < 4 then s.received (h.input / 2) h.cls h.cells else s
  let s := s.count (0x060 + 8 * h.input)
  match dests with
  | [o] => (s.enqueueSeg h.input o h.cls id h.cells).wfqSettle
  | _ =>
    let s := (s.count 0x111).setMcq h.input h.cls (s.mcq h.input h.cls ++ [id])
    (s.setMcDepth h.input h.cls (s.mcDepth h.input h.cls + h.cells)).wfqSettle

/-- The depth of the queue a segment would enter, and its WRED average (R230, R234, R241). -/
def State.targetQueue (s : State) (h : Held) (dests : List Nat) : Nat × Nat :=
  match dests with
  | [o] =>
    let k := voqKey h.input o h.cls
    (s.rd (Reg.SWC_VOQ_DEPTH_DEPTH k), s.rd (Reg.SWC_VOQ_AVG_AVG k))
  | _ => (s.mcDepth h.input h.cls, Table.get (fun _ => 0) s.sw.mcAvg (4 * h.input + h.cls))

/-- Steps 4 to 6 of R223 for a segment with these destinations. -/
def State.admission (s : State) (id : Nat) (h : Held) (tin : Option Nat) (dests : List Nat) : State :=
  let system := h.seg.tid < 2 || h.seg.sys
  let (depth, avg) := s.targetQueue h dests
  let s := s.cometSelect id h dests depth
  let (color, drops, s) := if tin.isSome || system then (if system then 0 else h.seg.color, false, s)
    else s.meter h.seg.tid h.seg.len
  let h := { h with seg := { h.seg with color := color } }
  if drops then s.reject id h 2 2
  else
    let (red, s) := if system then (false, s) else s.wred h.cls color avg
    if red then s.reject id h 3 3
    else if !s.room h.input h.cls h.cells depth then s.reject id h 4 4
    else s.admitted id h dests

/-- The admission decision on segment `id` (R223 to R226). -/
def State.decide_ (s : State) (id : Nat) (h : Held) : State :=
  let tin := if h.input < 4 then some (h.input / 2) else none
  let cls := if h.input < 4 then h.cls else if h.seg.urg || h.seg.tid < 2 then 0 else s.tidClass h.seg.tid
  let h := { h with cls := cls }
  let away (s : State) (p : Nat) : State := s.count (0x060 + 8 * p + 5) h.cells
  match s.target h tin with
  | .discard c => ((s.count c).cometSelect id h [] 0).reject id h 1 1
  | .mappedOut p => ((away s p).cometSelect id h [p] 0).reject id h 1 1
  | .tapOut o p => (away s p).admission id h tin [o]
  | .outputs dests => s.admission id h tin dests

/-- The oldest segment whose first cell has reached input p is admitted, discarded or dropped, whole. -/
def State.admitAt (s : State) (p : Nat) : State :=
  match Table.get (fun _ => []) s.sw.arriving p with
  | [] => s
  | id :: rest =>
    let s := s.withSw fun w => { w with arriving := Table.set (fun _ => []) w.arriving p rest }
    match s.seg? id with
    | some h => s.decide_ id h
    | none => s

/-- The admissions of one core cycle at the first `n` ports, in ascending order: each sees the cells that those before it have
taken (R226). -/
def State.admitTo (s : State) (n : Nat) : State :=
  if s.sw.arriving == [] then s else (List.range n).foldl State.admitAt s

/-- The admissions of one core cycle. -/
def State.admitAll (s : State) : State := s.admitTo 22

/-- SEGMENT_ADMISSION (R223, R226): the segment whose first cell has reached input p is decided, after those of the inputs
before it. -/
def execSegmentAdmission (p : Fin 32) (s : State) : Out := onHub (fun s => s.admitTo (p + 1)) s

end Sys2Proof.Machine
end

