-- ==== Sys2Proof/Machine/Sched.lean ====
section
/-!
DEFINITION. The scheduler: shapers, the EXPRESS regulator and the local gate, the order of EXPRESS, weighted fair queuing,
the start of a segment at an output, multicast replication and the residue store, and the samplers (R236 to R246, R252 to
R278).
-/

namespace Sys2Proof

/-- Bytes that have crossed wait for flits. -/
def TxChannel.push (x : TxChannel) (b : Bytes) (cycle : Nat) : TxChannel :=
  { x with
    stage := x.stage ++ b
    stamps := if b == [] then x.stamps else x.stamps ++ [(x.stage.length, cycle)] }

end Sys2Proof

namespace Sys2Proof.Machine

/-! Token buckets of R260, R265 and R266 -/

/-- Units of a bucket in one byte: 1 Mb/s adds one unit per raw unit. -/
def byteUnits : Nat := 819200000

/-- A bucket filled at `rate` Mb/s up to the present, at most `size` bytes. -/
def State.bucketNow (s : State) (b : Option Bucket) (rate size : Nat) : Bucket :=
  let full : Int := (size * byteUnits : Nat)
  match b with
  | some b => ⟨min full (b.tok + (rate * (s.mer.raw - b.at_) : Nat)), s.mer.raw⟩
  | none => ⟨full, s.mer.raw⟩

/-- Tokens of the bucket leave it. -/
def spendBytes (b : Bucket) (n : Int) : Bucket := { b with tok := b.tok - n * (byteUnits : Nat) }

/-- The regulator of a trunk's output, and its local gate: 50,210 Mb/s up to XB_ACT and XL_ACT units of 64 bytes. -/
def State.regulator (s : State) (t : Nat) : Bucket :=
  s.bucketNow (Table.get (fun _ => none) s.sw.regulators t) 50210 (64 * s.rd Reg.SCH_XCFG_XB_ACT)

/-- The local gate. -/
def State.gate (s : State) (t : Nat) : Bucket :=
  s.bucketNow (Table.get (fun _ => none) s.sw.gates t) 50210 (64 * s.rd Reg.SCH_XCFG_XL_ACT)

/-- The shaper of an output and class is enabled. -/
def State.shaperOn (s : State) (o c : Nat) : Bool := c != 0 && s.rdAct (Reg.SCH_SHP0_EN o (c - 1)) == 1

/-- The shaper's bucket. -/
def State.shaper (s : State) (o c : Nat) : Bucket :=
  s.bucketNow (Table.get (fun _ => none) s.sw.shapers (4 * o + c)) (s.rdAct (Reg.SCH_SHP0_RATE o (c - 1)))
    (1024 * clamp 1 4096 (s.rdAct (Reg.SCH_SHP1_BURST o (c - 1))))

/-- The counted length (R258). -/
def State.counted (s : State) (o len : Nat) : Int := (len : Int) + toSigned 8 (s.rdAct (Reg.SCH_OUT_OVH o))

/-! Samples (R276, R277) -/

/-- A sample queue entry. -/
def State.sampleEntry (s : State) (kind sampler o flags input tid value : Nat) : Bytes :=
  [byte kind, byte sampler, byte o, byte flags, byte input, 0] ++ le 2 tid ++ le 4 value ++ le 4 (nsecOf s.stamp)

/-- The words of sampler k in force since an epoch (R278). -/
def State.sampler (s : State) (k : Nat) : Word × Word :=
  (Table.get (fun _ => regReset (Reg.SCH_SMP_A_A 0)) s.sw.sampleA k,
   Table.get (fun _ => regReset (Reg.SCH_SMP_B_A 0)) s.sw.sampleB k)

/-- Sampler k counts one more, and says whether its period is full. -/
def State.sampleTick (s : State) (k : Nat) : Bool × State :=
  let n := Table.get (fun _ => 0) s.sw.sampleCount k + 1
  let due := (Reg.SCH_SMP_B_PERIOD_N 0).get (s.sampler k).2 ≤ n
  (due, s.withSw fun w => { w with sampleCount := Table.set (fun _ => 0) w.sampleCount k (if due then 0 else n) })

/-- The DELAY samplers see a start. -/
def State.sampleDelay (s : State) (o c : Nat) (h : Held) : State :=
  (List.range 8).foldl (fun (s : State) k =>
    let (a, b) := s.sampler k
    let inp := (Reg.SCH_SMP_A_INPUT 0).get a
    if (Reg.SCH_SMP_A_EN 0).get a == 1 && (Reg.SCH_SMP_A_MODE 0).get a == 2 && (Reg.SCH_SMP_A_OUTPUT 0).get a == o &&
        (Reg.SCH_SMP_A_CLASS 0).get a == c && (inp == 0xFF || inp == h.input) then
      let (due, s) := s.sampleTick k
      let v := min 65535 (s.age h)
      if due && (Reg.SCH_SMP_B_THRESH 0).get b ≤ v then
        s.produce 3 (s.sampleEntry 2 k o (c + 4 * b2n h.seg.urg + 8 * b2n h.gated) h.input h.seg.tid v)
      else s
    else s) s

/-- The DEPTH samplers sample at an epoch. -/
def State.sampleDepth (s : State) : State :=
  (List.range 8).foldl (fun (s : State) k =>
    let (a, b) := s.sampler k
    if (Reg.SCH_SMP_A_EN 0).get a == 1 && (Reg.SCH_SMP_A_MODE 0).get a == 1 then
      let (due, s) := s.sampleTick k
      let o := (Reg.SCH_SMP_A_OUTPUT 0).get a
      let c := (Reg.SCH_SMP_A_CLASS 0).get a
      let inp := (Reg.SCH_SMP_A_INPUT 0).get a
      let depth (i : Nat) : Nat := s.rd (Reg.SWC_VOQ_DEPTH_DEPTH (voqKey i o c))
      let v := if inp == 0xFF then ((List.range 32).map depth).foldl (· + ·) 0 else depth inp
      if due && (Reg.SCH_SMP_B_THRESH 0).get b ≤ v then s.produce 3 (s.sampleEntry 1 k o c inp 0xFFFF v) else s
    else s) s

/-- The part of the EXPRESS bound between the pipelines is passed (R270). -/
def State.expressLate (s : State) (o : Nat) (h : Held) : State :=
  let t := o / 2
  let wait := s.age h
  if wait ≤ (if s.rd (Reg.TRL_STAT_TX_WIDTH t) == 0 then 894 else 582) then s
  else
    let l := Table.get (fun _ => ({} : Link)) s.links t
    let excl := h.arrival < l.exclAt || !s.linkActive t || s.flag (Reg.TLK_STAT_HOLD_RX t) ||
      s.flag (Reg.TLK_STAT_HOLD_TX t) || l.replayAt.isSome
    let s := s.count (0x114 + o)
    let s := s.produce 3 (s.sampleEntry 3 0xFF o (h.cls + 4 * b2n h.seg.urg + 8 * b2n h.gated + 16 * b2n excl) h.input
      h.seg.tid wait)
    s.limited (0x0440_0000 + o) 0x0440 fun n =>
      [byte o] ++ le 2 h.seg.tid ++ le 2 (min 0xFFFF wait) ++ le 2 n ++ [byte (b2n excl)]

/-! Choosing (R253 to R257) -/

/-- Where a candidate stands. -/
inductive Source where
  | residue | unicast | multicast
deriving DecidableEq, Repr

/-- A candidate of an input for an output and class. -/
structure Candidate where
  id : Nat
  held : Held
  source : Source
deriving DecidableEq, Repr

/-- The multicast head of input i when it has a copy for output o. -/
def State.mcHead (s : State) (i o c : Nat) : Option Candidate :=
  match s.mcq i c with
  | id :: _ => match s.seg? id with
    | some h => if (s.headCopies id h).contains o then some ⟨id, h, .multicast⟩ else none
    | none => none
  | [] => none

/-- The oldest residue entry of input i for output o and class c. -/
def State.residueHead (s : State) (i o c : Nat) : Option Candidate :=
  match (s.residue i).find? (fun r => r.output == o && r.cls == c) with
  | some r => (s.seg? r.id).map fun h => ⟨r.id, h, .residue⟩
  | none => none

/-- The head of the unicast queue. -/
def State.voqHead (s : State) (i o c : Nat) : Option Candidate :=
  match s.voq i o c with
  | id :: _ => (s.seg? id).map fun h => ⟨id, h, .unicast⟩
  | [] => none

/-- The one candidate of input i (R256): the residue entry, else whichever head arrived earlier. -/
def State.candidate (s : State) (i o c : Nat) : Option Candidate :=
  match s.residueHead i o c with
  | some r => some r
  | none => match s.voqHead i o c, s.mcHead i o c with
    | some u, some m => if m.held.arrival < u.held.arrival then some m else some u
    | some u, none => some u
    | none, m => m

/-- The candidate is eligible at output o (R196, R238). -/
def State.eligible (s : State) (o : Nat) (k : Candidate) : Bool :=
  let h := k.held
  if 4 ≤ h.input && s.tun.paused.any (fun e => e.1 == h.seg.tid && e.2 ≤ h.raw) then false
  else h.whole || (k.source == .unicast && h.input < 4 && o < 4 && s.flag Reg.SWC_CTRL_CT_EN &&
    s.rd (Reg.TRL_STAT_TX_WIDTH (o / 2)) ≤ s.rd (Reg.TRL_STAT_RX_WIDTH (h.input / 2)))

/-- The candidates of class c at output o that are eligible. -/
def State.candidates (s : State) (o c : Nat) : List Candidate :=
  let all := (List.range 22).flatMap fun i =>
    if c == 0 then
      (match s.residueHead i o c with
       | some r => [r]
       | none => (s.mcHead i o c).toList) ++ (s.voqHead i o c).toList
    else (s.candidate i o c).toList
  all.filter (s.eligible o)

/-- The finish tag a candidate would have (R257, R259). -/
def State.finishTag (s : State) (o c : Nat) (k : Candidate) : Nat :=
  let x := Table.get (fun _ => ({} : Wfq)) s.sw.wfq (4 * o + c)
  let i := k.held.input
  let w := orOne (s.rdAct ([Reg.SCH_INWGT_W1 i, Reg.SCH_INWGT_W2 i].getD (c - 1) (Reg.SCH_INWGT_W3 i)))
  (Table.get (fun _ => 0) x.start i + (s.counted o k.held.seg.len).toNat * 256 / w) % 2 ^ 32

/-- Weighted fair queuing's pick: the lowest finish tag by signed difference, the lower input on a tie. -/
def State.wfqPick (s : State) (o c : Nat) (l : List Candidate) : Option Candidate :=
  l.foldl (fun best k => match best with
    | none => some k
    | some b =>
      if toSigned 32 (s.finishTag o c k + 2 ^ 32 - s.finishTag o c b) < 0 then some k else some b) none

/-- EXPRESS's order: without URG before with URG, then the oldest, then the lower input (R255). -/
def State.expressBefore (s : State) (a b : Candidate) : Bool :=
  if a.held.seg.urg != b.held.seg.urg then !a.held.seg.urg
  else if s.age a.held != s.age b.held then s.age b.held < s.age a.held
  else if a.held.input != b.held.input then a.held.input < b.held.input
  else a.source == .residue

/-- The first of a list in that order. -/
def State.expressFirst (s : State) (l : List Candidate) : Option Candidate :=
  l.foldl (fun best k => match best with
    | none => some k
    | some b => if s.expressBefore k b then some k else some b) none

/-- An EXPRESS segment without URG is held at a trunk output by the regulator or the local gate (R265, R266). -/
def State.heldBack (s : State) (o : Nat) (h : Held) : Bool × Bool :=
  if o < 4 && h.cls == 0 && !h.seg.urg then
    ((s.regulator (o / 2)).tok < 0, 4 ≤ h.input && (s.gate (o / 2)).tok < 0)
  else (false, false)

/-- The channel of the transmit engine. -/
def State.txChannel (s : State) (t v : Nat) : TxChannel :=
  Table.get (fun _ => {}) (Table.get (fun _ => ({} : Link)) s.links t).tx v

/-- The machine with a trunk's link engines changed. -/
def State.withLink (s : State) (t : Nat) (f : Link → Link) : State :=
  { s with links := Table.set (fun _ => {}) s.links t (f (Table.get (fun _ => {}) s.links t)) }

/-- A trunk's link engines. -/
def State.link (s : State) (t : Nat) : Link := Table.get (fun _ => {}) s.links t

/-- The machine with a channel of the transmit engine replaced. -/
def State.setTx (s : State) (t v : Nat) (x : TxChannel) : State :=
  s.withLink t fun l => { l with tx := Table.set (fun _ => {}) l.tx v x }

/-- The credit this transmitter holds (R159, R177). -/
def State.credit (s : State) (t v : Nat) : Int := toSigned 16 (s.rd (Reg.TLK_CRED_CREDIT t v))

/-- The machine with it replaced. -/
def State.setCredit (s : State) (t v : Nat) (n : Int) : State := s.wr (Reg.TLK_CRED_CREDIT t v) (ofSigned 16 n)

/-- Trunk t's transmit engine may start the segment (R159, R237, R274): the context is free and the credit suffices. -/
def State.trunkMayStart (s : State) (t v : Nat) (h : Held) : Bool :=
  let ls := s.rd (Reg.TLK_STAT_LSTATE t)
  let left := s.credit t v - (h.cells : Nat)
  (ls == 2 || ls == 3 || ls == 5) && (s.txChannel t v).cur.isNone && 0 ≤ left &&
    (!h.seg.urg || v != 0 || (ceilDiv (Table.get (fun _ => 0) (s.link t).granted 0) 2 : Nat) ≤ left)

/-! Crossing (R236, R239, R245) -/

/-- The copies that could not be kept are discarded and reported (R243 to R245). -/
def State.aged (s : State) (h : Held) (outs : List Nat) : State :=
  outs.foldl (fun (s : State) o =>
    (s.count (0x060 + 8 * o + 7)).limited (0x0422_0000 + h.seg.tid) 0x0422 fun n =>
      le 2 h.seg.tid ++ [byte o] ++ le 2 n) s

/-- A copy for output o has crossed or has been discarded: the cells are freed with the last one, and when only copies
for other outputs than trunks remain they move from the trunk region to the shared pool (R239, R245). -/
def State.copyGone (s : State) (id o : Nat) : State :=
  match s.seg? id with
  | none => s
  | some h =>
    let rest := h.dests.filter (· != o)
    let h' := { h with dests := rest }
    let s := s.setSeg id (some h')
    if rest == [] then s.dropSeg id
    else if h.input < 4 && !h.moved && o < 4 && rest.all (4 ≤ ·) then
      if s.poolSize - s.poolUsed < h.taken then
        let s := s.aged h rest
        let s := (s.setResidue h.input ((s.residue h.input).filter fun r => r.id != id)).stopCrossing id
        let s := if (s.mcq h.input h.cls).contains id then
            (s.setMcq h.input h.cls ((s.mcq h.input h.cls).filter (· != id))).setMcDepth h.input h.cls
              (s.mcDepth h.input h.cls - h.cells)
          else s
        s.dropSeg id
      else
        let t := h.input / 2
        let s := s.wr (Reg.TLK_OCC_OCC t h.cls) (s.rd (Reg.TLK_OCC_OCC t h.cls) - h.taken)
        let s := s.wr (Reg.SWC_INHELD_HELD h.input) (s.rd (Reg.SWC_INHELD_HELD h.input) - h.taken)
        let s := (s.creditBack t h.cls h.taken).incr Reg.SWC_MCXFER_CELLS h.taken
        (s.setSeg id (some { h' with moved := true })).poolSync
    else s

/-- Starts a copy at a trunk output (R159, R265, R266): credit, regulator and gate are debited. -/
def State.startTrunk (s : State) (o id : Nat) (k : Candidate) : State :=
  let h := k.held
  let t := o / 2
  let v := h.cls
  let s := s.setCredit t v (s.credit t v - (h.cells : Nat))
  let s := s.withLink t fun l => { l with
    sentCum := Table.set (fun _ => 0) l.sentCum v ((Table.get (fun _ => 0) l.sentCum v + h.cells) % 2 ^ 32) }
  let s :=
    if v == 0 && !h.seg.urg then
      let s := s.withSw fun w => { w with
        regulators := Table.set (fun _ => none) w.regulators t (some (spendBytes (s.regulator t) h.seg.len)) }
      let s := if 4 ≤ h.input then s.withSw fun w => { w with
          gates := Table.set (fun _ => none) w.gates t (some (spendBytes (s.gate t) h.seg.len)) }
        else s
      s.expressLate o h
    else s
  let x := s.txChannel t v
  s.setTx t v { x with starts := x.starts ++ [(x.stage.length, id)], cur := some id }

/-- A candidate's queue gives it up as its copy for output o starts. -/
def State.takeCandidate (s : State) (o c : Nat) (k : Candidate) : State :=
  match k.source with
  | .unicast => s.dequeueSeg k.held.input o c k.id k.held.cells
  | .residue => s.setResidue k.held.input ((s.residue k.held.input).filter fun r => !(r.id == k.id && r.output == o))
  | .multicast => s

/-- Virtual time and tags after a start in class 1 to 3 (R257); whether the input has a further candidate shows when the
copy has left its queue. -/
def State.wfqServe (s : State) (o c : Nat) (k : Candidate) (tag : Nat) : State :=
  if c == 0 then s
  else
    let key := 4 * o + c
    let x := Table.get (fun _ => ({} : Wfq)) s.sw.wfq key
    let i := k.held.input
    let x := { x with v := Table.get (fun _ => 0) x.start i, start := Table.set (fun _ => 0) x.start i tag }
    s.withSw fun w => { w with wfq := Table.set (fun _ => {}) w.wfq key x }

/-- A port unit's acceptance of a whole segment, and its room for one: what the port units' chapters give. -/
structure Units where
  room : State → Nat → Held → Bool
  accept : State → Nat → Held → State

/-- The segments on their way to output o. -/
def State.onTheWay (s : State) (o : Nat) : List Held :=
  [0, 1, 2, 3].filterMap fun c => match s.context o c with
    | some x => s.seg? x.id
    | none => none

/-- The copy may start at output o (R237): credit at a trunk, and room for the whole segment at a port unit, beside those on
their way to it. -/
def State.mayStart (s : State) (u : Units) (o : Nat) (h : Held) : Bool :=
  if o < 4 then s.trunkMayStart (o / 2) h.cls h
  else u.room ((s.onTheWay o).foldl (fun (s : State) g => u.accept s o g) s) o h

/-- The segment that the scheduler chooses for the context of class c at output o, where it may start (R237, R253, R255 to
R257, R260, R265, R266). -/
def State.choose (s : State) (u : Units) (o c : Nat) : Option Candidate :=
  if (s.context o c).isSome || (s.shaperOn o c && (s.shaper o c).tok < 0) then none
  else
    let free := (s.candidates o c).filter fun k => !(s.heldBack o k.held).1 && !(s.heldBack o k.held).2
    match (if c == 0 then s.expressFirst free else s.wfqPick o c free) with
    | some k => if s.mayStart u o k.held then some k else none
    | none => none

/-- Starts candidate k at output o, class c: samples, tags, shaper; its cells cross from now on. -/
def State.startCandidate (s : State) (o c : Nat) (k : Candidate) : State :=
  let tag := s.finishTag o c k
  let s := (s.takeCandidate o c k).wfqServe o c k tag
  let b := spendBytes (s.shaper o c) (s.counted o k.held.seg.len)
  let s := if s.shaperOn o c then
      s.withSw fun w => { w with shapers := Table.set (fun _ => none) w.shapers (4 * o + c) (some b) }
    else s
  let s := s.sampleDelay o c k.held
  let s := s.cometLeaves k.id o (!k.held.whole) k.held.seg.color
  let s := if o < 4 then s.startTrunk o k.id k else s
  (s.setContext o c (some { id := k.id, input := k.held.input, unicast := k.source == .unicast })).wfqSettle

/-- A Comet whose followed copy is aged or evicted ends (R615). -/
def State.cometAged (s : State) (id o : Nat) : State :=
  if s.perf.comets.any (fun c => c.seg == id && c.output == o) then s.cometEnd id 6 else s

/-- The residue store of input i takes a copy: a full store first discards its oldest entry whose output is not a trunk
(R244).  `none`: every entry is bound for a trunk. -/
def State.residueRoom (s : State) (i : Nat) : Option State :=
  if (s.residue i).length < 256 then some s
  else match (s.residue i).find? (fun r => 4 ≤ r.output) with
    | none => none
    | some r =>
      let t := s.setResidue i ((s.residue i).filter fun x => !(x.id == r.id && x.output == r.output))
      match s.seg? r.id with
      | some h => some (((t.aged h [r.output]).cometAged r.id r.output).copyGone r.id r.output)
      | none => some t

/-- The multicast head of input i and class c replicates, ready outputs first (R242, R244): an output is ready where its
scheduler chooses the head now. -/
def State.replicate (s : State) (u : Units) (i c : Nat) : State :=
  match s.mcq i c with
  | [] => s
  | id :: rest => match s.seg? id with
    | none => s.setMcq i c rest
    | some h =>
      if !h.whole then s
      else
        let (s, left) := (s.headCopies id h).foldl (fun (acc : State × List Nat) o =>
          let (s, left) := acc
          match s.choose u o c with
          | some k => if k.id == id then (s.startCandidate o c k, left) else (s, left ++ [o])
          | none => (s, left ++ [o])) (s, [])
        let (s, stuck) := left.foldl (fun (acc : State × Bool) o =>
          let (s, stuck) := acc
          if !(s.headCopies id h).contains o then (s, stuck)
          else match s.residueRoom i with
            | some s => (s.setResidue i (s.residue i ++ [⟨id, o, c, s.mer.raw⟩]), stuck)
            | none => (s, true)) (s, false)
        if stuck || !(s.mcq i c).contains id then s
        else ((s.setMcq i c ((s.mcq i c).filter (· != id))).setMcDepth i c (s.mcDepth i c - h.cells)).wfqSettle

/-- A hold begins or ends: it is counted as it begins (log entry 68). -/
def State.noteHold (s : State) (key counter : Nat) (b : Bool) : State :=
  if s.sw.holds.contains key == b then s
  else if b then (s.withSw fun w => { w with holds := w.holds ++ [key] }).count counter
  else s.withSw fun w => { w with holds := w.holds.filter (· != key) }

/-- The holds at a free context: its shaper's, and for EXPRESS at a trunk the regulator's and the local gate's (R260, R265,
R266). -/
def State.noteHolds (s : State) (o c : Nat) : State :=
  let l := s.candidates o c
  if c != 0 then s.noteHold (4 * o + c) (0x118 + (c - 1)) (l != [] && s.shaperOn o c && (s.shaper o c).tok < 0)
  else if 4 ≤ o then s
  else
    let s := s.noteHold (4 * o) 0x11B (l.any fun k => (s.heldBack o k.held).1)
    let gated := (l.filter fun k => (s.heldBack o k.held).2 && !k.held.gated).map (·.id)
    let mark (e : Nat × Option Held) : Nat × Option Held :=
      if gated.contains e.1 then (e.1, e.2.map fun h => { h with gated := true }) else e
    if gated == [] then s
    else (s.count 0x11C gated.length).withSw fun w => { w with held := w.held.map mark }

/-- The class context of output o, when free, starts the segment that the scheduler chooses (R237). -/
def State.contextStart (s : State) (u : Units) (o c : Nat) : State :=
  if (s.context o c).isSome then s
  else
    let s := s.noteHolds o c
    match s.choose u o c with
    | none => s
    | some k => if k.source == .multicast then s.replicate u k.held.input c else s.startCandidate o c k

/-! Crossing (R236, R238, R239) -/

/-- A segment's bytes as they leave by output o: HOP falls by one on a trunk (R185). -/
def leavingBytes (o : Nat) (h : Held) : Bytes := (if o < 4 then { h.seg with hop := h.seg.hop - 1 } else h.seg).bytes

/-- The next cell of a crossing is in the buffer. -/
def cellReady (x : Crossing) (h : Held) : Bool := h.whole || 64 * (x.sent + 1) ≤ 8 + h.seg.payload.length

/-- The context of class c at output o carries a segment of input i whose next cell is ready. -/
def State.readyFrom (s : State) (i o c : Nat) : Bool :=
  match s.context o c with
  | some x => x.input == i && (match s.seg? x.id with
      | some h => cellReady x h
      | none => true)
  | none => false

/-- One cell crosses (R236, R239): to the transmit engine of a trunk, or toward a port unit, which takes the segment with
its last cell.  A unicast cell is freed as it crosses. -/
def State.crossCell (s : State) (u : Units) (o c : Nat) : State :=
  match s.context o c with
  | none => s
  | some x => match s.seg? x.id with
    | none => s.setContext o c none
    | some h =>
      let last : Bool := h.cells ≤ x.sent + 1
      let rest := (leavingBytes o h).drop (64 * x.sent)
      let s := s.setContext o c (if last then none else some { x with sent := x.sent + 1 })
      let s := s.withSw fun w => { w with turns := Table.set (fun _ => 0) w.turns (4 * x.input + c) o }
      let s := if 4 ≤ o then s
        else
          let y := s.txChannel (o / 2) c
          let b := if last then rest else rest.take 64
          s.setTx (o / 2) c { y.push b s.sw.cycle with
            cur := if last then none else some x.id
            ends := if last then y.ends ++ [(y.stage.length + b.length, x.id)] else y.ends }
      let s := if x.unicast then s.freeCells x.id 1 else s
      if !last then s
      else if o < 4 then (s.cometStage x.id [6]).copyGone x.id o
      else (((u.accept s o h).cometStage x.id [6, 7, 8]).cometEnd x.id 0).copyGone x.id o

/-- The cut-through stalls of a core cycle are counted at their outputs (R238). -/
def State.countStalls (s : State) : State :=
  s.sw.contexts.foldl (fun (s : State) e => match e.2 with
    | some x => (match s.seg? x.id with
      | some h => if cellReady x h then s else s.count (0x060 + 8 * (e.1 / 4) + 6)
      | none => s)
    | none => s) s

/-- The cells that cross in one core cycle (R236, R253): the lowest class first, at most one from each input and at most one to
each output, and from one input the outputs of a class in turn.  An output whose lowest class waits for an input that sends
elsewhere takes its next class (DESIGN CHOICE, log entry 68). -/
def State.crossCycle (s : State) (u : Units) : State :=
  let s := s.countStalls
  let step (acc : State × List Nat) (k : Nat × Nat) : State × List Nat :=
    let (s, used) := acc
    let (c, i) := k
    let ready := (List.range 22).filter fun o => !used.contains o && s.readyFrom i o c
    let turn := Table.get (fun _ => 0) s.sw.turns (4 * i + c)
    match (match ready.find? (turn < ·) with
      | some o => some o
      | none => ready.head?) with
    | some o => if used.contains (32 + i) then acc else (s.crossCell u o c, used ++ [o, 32 + i])
    | none => acc
  (([0, 1, 2, 3].flatMap fun c => (List.range 22).map fun i => (c, i)).foldl step (s, [])).1

/-- The Comets whose segment is at the head of its queue and eligible for one of its outputs reach HEAD (R613). -/
def State.cometHeads (s : State) : State :=
  s.perf.comets.foldl (fun (s : State) c =>
    match s.seg? c.seg with
    | some h => if h.dests.any (fun o => (s.candidates o h.cls).any fun k => k.id == c.seg) then s.cometStage c.seg [3] else s
    | none => s) s

/-- The switch core in one core cycle (R252): admissions, multicast heads, context starts, and the cells that cross. -/
def State.switchCycle (s : State) (u : Units) : State :=
  let s := s.admitAll.cometHeads
  let s := s.sw.mcq.foldl (fun (s : State) e => s.replicate u (e.1 / 4) (e.1 % 4)) s
  let s := if s.offers == [] then s
    else (List.range 22).foldl (fun (s : State) o => [0, 1, 2, 3].foldl (fun (s : State) c => s.contextStart u o c) s) s
  if s.sw.contexts == [] then s else s.crossCycle u

/-- RESIDUE_AGE_EXPIRY (R243): entries toward other outputs than trunks that have waited more than AGE_US are
discarded. -/
def execResidueAgeExpiry (i : Fin 32) (s : State) : Out :=
  onHub (fun s =>
    let us := s.rd Reg.SWC_MCAST_AGE_US
    if us == 0 then s
    else
      let old := (s.residue i.val).filter fun r => 4 ≤ r.output && r.entered + rawOfNs (1000 * us) < s.mer.raw
      old.foldl (fun (s : State) r =>
        let t := s.setResidue i.val ((s.residue i.val).filter fun x => !(x.id == r.id && x.output == r.output))
        match s.seg? r.id with
        | some h => ((t.aged h [r.output]).cometAged r.id r.output).copyGone r.id r.output
        | none => t) s |>.wfqSettle) s

end Sys2Proof.Machine
end

