-- ==== Sys2Proof/Machine/Sessions.lean ====
section
/-!
DEFINITION. Transports and sessions: requests arriving and replies leaving on the mailbox, TID 0, MGMT and USBS
(R53 to R65, R651), and the session commands with their timers (R69 to R77, R652).
-/

namespace Sys2Proof.Machine

/-! Requests arriving -/

/-- The mailbox's request: the bytes its LEN names, from the request buffer of 4192 bytes (R54, R58). -/
def State.mailboxRequest (s : State) : Request :=
  let b := Table.range (fun _ => (0 : Byte)) s.cmd.mbxRequest 0 4192
  let p := parsePacket b
  { via := .mailbox, pkt := { p with delivered := min 4192 (16 + p.len + (if hasTag p then 16 else 0)) } }

/-- MBX_CTRL is written with GO at 1 and IRQ_EN as given (R55, R56, R58).  While BUSY, the GO is ignored and OVERRUN is
set.  Otherwise DONE and REPLY_LEN clear, BUSY is set, and the request goes to Scribe, or at the root to the station that
MBX_TARGET names (R57, R59).  A GO while DONE is 1 clears DONE and REPLY_LEN, and hands nothing over: host software has
not cleared DONE (DESIGN CHOICE, log entry 64).  The root's own answer to a relayed request takes the tag of the root's
session of that number, where there is one (DESIGN CHOICE, log entry 64). -/
def State.mailboxGo (s : State) (irqEn : Bool) : State :=
  let s := { s with cmd := { s.cmd with mbxIrqEn := irqEn } }
  if s.cmd.mbxBusy then { s with cmd := { s.cmd with mbxOverrun := true } }
  else
    let s := { s with cmd := { s.cmd with mbxBusy := true, mbxDone := false, mbxReplyLen := 0 } }
    let r := s.mailboxRequest
    let target := if s.isRoot then s.cmd.mbxTarget else 0
    if target == 0 || s.cmd.restarting then s.enqueue r
    else if !s.positionHeld target then s.refuse r Status.unreachable
    else
      let b := Table.range (fun _ => (0 : Byte)) s.cmd.mbxRequest 0 r.pkt.delivered
      let s := { s with cmd := { s.cmd with relay := some (target, r) } }
      (s.emit (.relay target b)).sendCommand target false b

/-- MAILBOX_GO. -/
def execMailboxGo (irqEn : Bool) (s : State) : Out := onHub (fun s => s.mailboxGo irqEn) s

/-- RELAY_TIMEOUT (R59): the root completes the mailbox with TIMEOUT and forgets the request. -/
def execRelayTimeout (s : State) : Out :=
  onHub (fun s => match s.cmd.relay with
    | some (_, r) => { s with cmd := { s.cmd with relay := none } }.refuse r Status.timeout
    | none => s) s

/-- A reply of the station at `position` to a relayed request completes the mailbox as it came; a reply to no relayed
request is discarded (R59). -/
def State.relayedReply (s : State) (position : Nat) (bytes : Bytes) : State :=
  match s.cmd.relay with
  | some (p, r) =>
    let q := parsePacket bytes
    if p == position && q.seq == r.pkt.seq && q.opcode == r.pkt.opcode then
      { s with cmd := { s.cmd with relay := none } }.deliver .mailbox bytes
    else s
  | none => s

/-- RELAYED_REPLY_ARRIVAL (R59). -/
def execRelayedReplyArrival (position : Fin 33) (bytes : Bytes) (s : State) : Out :=
  onHub (fun s => s.relayedReply position.val bytes) s

/-- The transaction is Damya's: on SPI the one with CS_N low, on I²C the one at its address (R60), which setting 0x0005
holds. -/
def State.mgmtAddressed (s : State) (addr : BitVec 7) : Bool := !s.pins.mgmtI2c || addr.toNat == s.setting 0x0005

/-- A transaction with frame byte `frame` and `bytes` behind it (R60, R62): 0xA1 carries one packet, and one sent while
REQ_FREE is 0 is discarded and counted; a byte other than 0xA1 to 0xA3 is ignored and counted. -/
def State.mgmtRequest (s : State) (addr : BitVec 7) (frame : Byte) (bytes : Bytes) : State :=
  if !s.mgmtAddressed addr then s
  else if frame == 0xA1 then
    if !s.serving then s
    else if s.cmd.mgmtBusy then s.count 0x009
    else { s with cmd := { s.cmd with mgmtBusy := true } }.enqueue { via := .mgmt, pkt := parsePacket bytes }
  else if frame == 0xA2 || frame == 0xA3 then s
  else s.count 0x008

/-- A queue in COMMAND mode has its level interrupt pending (R61, R86). -/
def State.noticeLevel (s : State) : Bool :=
  [0, 1, 2, 3].any fun q => (s.queue q).pendingIrq && !(s.queue q).dma

/-- MGMT_INT_N is driven low (R62). -/
def State.mgmtIntLow (s : State) : Bool := s.hubOn && (s.cmd.mgmtReply.isSome || s.noticeLevel)

/-- The MGMT status byte (R61); 0x00 while neither Scribe nor the ROM answers (R635). -/
def State.mgmtStatus (s : State) : Nat :=
  if s.serving then
    8 * b2n s.cmd.restarting + 4 * b2n s.noticeLevel + 2 * b2n s.cmd.mgmtReply.isSome + b2n (!s.cmd.mgmtBusy)
  else 0

/-- MGMT drives its reply: in SPI mode the ball is read in any case, and I²C gets no acknowledgement until Scribe or the ROM
serves it (R635). -/
def State.mgmtAnswers (s : State) : Bool := !s.pins.mgmtI2c || s.serving

/-- `n` bytes are read behind frame byte 0xA2 (R60, R61).  Reading the whole reply clears REPLY_READY and hands the reply
over (R651); bytes beyond it, or with no reply held, read 0x00. -/
def State.mgmtReplyRead (s : State) (addr : BitVec 7) (n : Nat) : State :=
  if !s.mgmtAddressed addr || !s.mgmtAnswers then s else match s.cmd.mgmtReply with
  | some b =>
    let s := s.emit (.mgmt (padTo n b))
    if n ≥ b.length then { s with cmd := { s.cmd with mgmtReply := none } }.handOver .mgmt else s
  | none => s.emit (.mgmt (zeros n))

/-- The status byte is read behind frame byte 0xA3 (R61, R635). -/
def State.mgmtStatusRead (s : State) : State :=
  if s.mgmtAnswers then s.emit (.mgmt [byte s.mgmtStatus]) else s

/-- TID0_REQUEST (R65); `sys` says that it came over a trunk with SYS = 1 and SRC 0 (R210). -/
def execTid0Request (sys : Bool) (bytes : Bytes) (s : State) : Out :=
  onHub (fun s => s.enqueue { via := .tid0, pkt := parsePacket bytes, sys := sys }) s

/-- A bulk or interrupt endpoint of USBS answers: the host has configured the controller and not halted the endpoint
(R381). -/
def State.usbsServes (s : State) (ep : Nat) : Bool := s.rd Reg.USBS_STAT_STATE == 4 && !s.usb.dev.halted.contains ep

/-- What it does otherwise: STALL where it is halted, and nothing before configuration. -/
def State.usbsRefuses (s : State) (ep : Nat) : State :=
  if s.rd Reg.USBS_STAT_STATE == 4 then s.emit (.usb 8 "stall" [ep % 16] []) else s

/-- USBS_REQUEST (R63): held while the previous reply has not been read.  A second one takes the held one's place (DESIGN
CHOICE, log entry 64). -/
def execUsbsRequest (bytes : Bytes) (s : State) : Out :=
  onHub (fun s =>
    if !s.usbsServes 0x01 then s.usbsRefuses 0x01
    else if !s.serving then s
    else
      let s := s.count 0x1A8
      if s.cmd.usbsReply.isSome || s.cmd.usbsBusy then { s with cmd := { s.cmd with usbsHeld := some bytes } }
      else { s with cmd := { s.cmd with usbsBusy := true } }.enqueue { via := .usbs, pkt := parsePacket bytes }) s

/-- USBS_REPLY_READ (R63, R651): the reply leaves by bulk IN and is handed over, and a held request goes to Scribe. -/
def execUsbsReplyRead (s : State) : Out :=
  onHub (fun s => if !s.usbsServes 0x82 then s.usbsRefuses 0x82 else match s.cmd.usbsReply with
    | some b =>
      let s := ({ s with cmd := { s.cmd with usbsReply := none } }.emit (.usb 8 "bulk in" [] b)).count 0x1A9
      let s := s.handOver .usbs
      match s.cmd.usbsHeld with
      | some q =>
        { s with cmd := { s.cmd with usbsHeld := none, usbsBusy := true } }.enqueue { via := .usbs, pkt := parsePacket q }
      | none => s
    | none => s) s

/-- REPLY_HANDED_OVER (R651): the moment for one transport.  On the mailbox with `cleared`, host software has cleared
MBX_STAT.DONE; otherwise the 100 ms have passed, or on TID 0 the last symbol has left. -/
def execReplyHandedOver (v : Transport) (cleared : Bool) (s : State) : Out :=
  onHub (fun s =>
    let s := if v == .mailbox && cleared then { s with cmd := { s.cmd with mbxDone := false } } else s
    s.handOver v) s

/-! Session commands -/

/-- OPEN_SESSION's body (R71). -/
def openSessionBody : Body := fun r s => takes 20 (fun p s =>
  let slot := leAt p 0 1
  let world := leAt p 1 1
  let nc := slice p 4 16
  if slot > 63 || world > 1 then .fail s Status.badParam
  else match s.keyFor slot 0 (masterBit r.via) world with
    | .error c => .fail (s.keyRefused c) c
    | .ok k => match s.freeHandle with
      | none => .fail s Status.sessionFull
      | some h =>
        if s.ink.drbgBad then .fail s Status.hwError
        else
          let (nd, s) := s.draw 16
          let s := s.setSession h { phase := .halfOpen, via := r.via, world := world, slot := slot, nc := nc, nd := nd,
                                    slotKey := k.key }
          .ok s ([byte h, 0, 0, 0] ++ nd ++ hmac k.key (ascii "GXDEV" ++ nc ++ nd ++ [byte h]))) r s

/-- OPEN_SESSION. -/
def execOpenSession (r : Request) (s : State) : Out := runCommand 0x0200 openSessionBody r s

/-- SESSION_PROVE's body (R71, R72): the right proof opens the session, and its tagged reply is the first kept reply; a
wrong one closes it with AUTH_FAIL and SESSION_CLOSED with reason 5.  On an open session, or on SESSION 0,
BAD_SESSION.  Fewer than 32 bytes are a wrong proof (DESIGN CHOICE, log entry 64). -/
def sessionProveBody : Body := fun r s =>
  let h := r.pkt.session
  let x := s.session h
  if !(handles.contains h && x.phase == .halfOpen && x.via == r.via) then .fail s Status.badSession
  else if r.pkt.params.take 32 == hmac x.slotKey (ascii "GXHOST" ++ x.nd ++ x.nc ++ [byte h]) then
    let key := hmac x.slotKey (ascii "GXSES" ++ x.nc ++ x.nd)
    let s := s.setSession h { x with phase := .opened, key := key, keptSeq := r.pkt.seq, keptProve := true }
    .later ((s.count 0x2E0).answer r Status.ok)
  else .reply (s.closeSession h 5) Status.authFail []

/-- SESSION_PROVE. -/
def execSessionProve (r : Request) (s : State) : Out := runCommand 0x0201 sessionProveBody r s

/-- OPEN_SESSION_PW's body (R75 to R77): its checks in order, then the derivation.  The crypto engine runs one at a time;
a second is BUSY (DESIGN CHOICE, log entry 62). -/
def openSessionPwBody : Body := fun r s =>
  let p := r.pkt.params
  let n := leAt p 16 1
  if r.via != .usbs then .fail s Status.denied
  else if s.nv.password.isNone || s.nv.pwPartial then .fail s Status.notSupported
  else if p.length < 17 || n < 1 || n > 64 || p.length != 17 + n then .fail s Status.badParam
  else if s.nib.lockout then .fail s Status.lockout
  else match s.freeHandle with
    | none => .fail s Status.sessionFull
    | some _ =>
      if s.ink.drbgBad then .fail s Status.hwError
      else if s.cmd.derivation.isSome then .fail s Status.busy
      else .later { s with cmd := { s.cmd with
        derivation := some { req := r, nc := slice p 0 16, password := slice p 17 n } } }

/-- OPEN_SESSION_PW. -/
def execOpenSessionPw (r : Request) (s : State) : Out := runCommand 0x0202 openSessionPwBody r s

/-- The session that a right password opens under handle `h` (R75). -/
def passwordSession (d : Derivation) (nd key reply : Bytes) : Session :=
  { phase := .opened, via := .usbs, world := 0, slot := 0xFE, nc := d.nc, nd := nd, key := key
    keptSeq := d.req.pkt.seq, keptReply := reply }

/-- The derivation's end, with the password right or wrong (R75, R77).  The session takes the handle that is the lowest free
one at this moment; its reply is kept on the session that carried the request too (R52).  With no handle left by then,
SESSION_FULL (DESIGN CHOICE, log entry 62). -/
def State.passwordResult (s : State) (d : Derivation) (key : Bytes) (right : Bool) : State :=
  let s := { s with cmd := { s.cmd with derivation := none } }
  if right then
    let s := { s with nib := { s.nib with wrongPasswords := 0 } }
    match s.freeHandle with
    | none => s.answer d.req Status.sessionFull
    | some h =>
      let (nd, s) := s.draw 16
      let ks := hmac key (ascii "GXSES" ++ d.nc ++ nd)
      let b := replyBytes d.req.pkt Status.ok ([byte h, 0, 0, 0] ++ nd) (some ks)
      (((s.keepReply d.req b).setSession h (passwordSession d nd ks b)).count 0x2E1).deliver .usbs b
  else
    let n := s.nib.wrongPasswords + 1
    let s := { s with nib := { s.nib with wrongPasswords := n, lockout := true } }
    (s.notice 0x0202 [byte (min n 255)]).answer d.req Status.authFail

/-- PASSWORD_DERIVATION_DONE (R75, R76): SHA-256(DK) is compared with the verifier in OTP. -/
def execPasswordDerivationDone (s : State) : Out :=
  onHub (fun s => match s.cmd.derivation, s.nv.password with
    | some d, some (salt, verifier) =>
      let dk := pbkdf2 d.password salt
      s.passwordResult d dk (sha256 dk == verifier)
    | _, _ => s) s

/-- PASSWORD_LOCKOUT_END (R77): the hold expires. -/
def execPasswordLockoutEnd (s : State) : Out := onNib (fun s => { s with nib := { s.nib with lockout := false } }) s

/-- CLOSE_SESSION's body (R74): a session, open or half-open, of the request's transport.  The reply is tagged with the
key of the session that carries the request. -/
def closeSessionBody : Body := fun r s => takes 4 (fun p s =>
  let h := leAt p 0 1
  let x := s.session h
  if handles.contains h && x.phase != .free && x.via == r.via then
    .ok (s.setSession h {})
  else .fail s Status.notFound) r s

/-- CLOSE_SESSION. -/
def execCloseSession (r : Request) (s : State) : Out := runCommand 0x0203 closeSessionBody r s

/-- One entry of SESSION_LIST (R652). -/
def sessionEntry (x : Session) : Bytes :=
  match x.phase with
  | .free => [0, 0, 0, 0xFF]
  | .halfOpen => [1, byte (viaCode x.via), byte x.world, byte x.slot]
  | .opened => [2, byte (viaCode x.via), byte x.world, byte x.slot]

/-- SESSION_LIST (R652). -/
def execSessionList (r : Request) (s : State) : Out :=
  runCommand 0x0204 (fun _ s => .ok s (handles.flatMap fun h => sessionEntry (s.session h))) r s

/-- HALF_OPEN_SESSION_TIMEOUT (R72): no correct SESSION_PROVE within 1 s. -/
def execHalfOpenSessionTimeout (h : Fin 9) (s : State) : Out :=
  onHub (fun s => if (s.session h).phase == .halfOpen then s.closeSession h 5 else s) s

/-- SESSION_IDLE_TIMEOUT (R74): SESSION_IDLE_S seconds without an authenticated request; 0 disables the closure. -/
def execSessionIdleTimeout (h : Fin 9) (s : State) : Out :=
  onHub (fun s => if (s.session h).phase == .opened && s.setting 0x0004 != 0 then s.closeSession h 1 else s) s

/-- NOP (R78): echoes its parameters. -/
def execNop (r : Request) (s : State) : Out := runCommand 0x0100 (fun r s => .ok s r.pkt.params) r s

/-- The 64-bit device identity (R574). -/
def State.deviceId (s : State) : Bytes := le 8 s.nv.deviceId

/-- The version of the running image; 0 from the ROM (R4, R574). -/
def State.fwVersion (s : State) : Nat := s.rd Reg.FWU_RUN_VERSION

/-- IDENTIFY's reply (R4). -/
def identifyReply (s : State) : Bytes :=
  [byte (s.rd Reg.SYS_MODE_ROLE), byte s.position, byte s.mode,
   byte (s.rd Reg.SYS_MODE_FORCE_REC + 2 * b2n (s.mode == 0))] ++
  le 4 (s.reg Reg.SYS_ID_A).toNat ++ s.deviceId ++ le 4 s.fwVersion

/-- IDENTIFY (R4). -/
def execIdentify (r : Request) (s : State) : Out := runCommand 0x0101 (fun _ s => .ok s (identifyReply s)) r s

/-- JOB_STATUS (R67). -/
def execJobStatus (r : Request) (s : State) : Out :=
  runCommand 0x0106 (takes 4 fun p s =>
    match s.cmd.jobs.find? (fun j => j.num == leAt p 0 1) with
    | some j => .ok s ([byte j.num, 0] ++ le 2 j.opcode)
    | none => .fail s Status.notFound) r s

end Sys2Proof.Machine
end

