-- ==== Sys2Proof/Machine/Tlp.lean ====
section
/-!
DEFINITION. Transaction layer packets as byte strings: the header layout of the PCI Express Base Specification 4.0, which
the manual names and does not repeat (R284; PRESUMED, log entry 20).
-/

namespace Sys2Proof.Machine

/-- What a TLP is. -/
inductive TlpKind where
  | memRead | memReadLk | memWrite | ioRead | ioWrite | cfgRead | cfgWrite | completion | completionLk | message | atomic
  | other
deriving DecidableEq, Repr

/-- Fmt and Type in byte 0. -/
def tlpKind (b : Bytes) : TlpKind :=
  let f := leAt b 0 1 / 32
  let t := leAt b 0 1 % 32
  let data := f == 2 || f == 3
  if 4 ≤ f then .other
  else if t == 0 then (if data then .memWrite else .memRead)
  else if t == 1 then (if data then .other else .memReadLk)
  else if t == 2 then (if data then .ioWrite else .ioRead)
  else if t == 4 || t == 5 then (if data then .cfgWrite else .cfgRead)
  else if t == 10 then .completion
  else if t == 11 then .completionLk
  else if 12 ≤ t && t ≤ 14 then .atomic
  else if 16 ≤ t && t ≤ 23 then .message
  else .other

/-- A configuration request of type 1. -/
def tlpType1 (b : Bytes) : Bool := leAt b 0 1 % 32 == 5

/-- The header is 4 doublewords long. -/
def tlpLong (b : Bytes) : Bool := bit (leAt b 0 1) 5

/-- The header's bytes. -/
def tlpHeader (b : Bytes) : Nat := if tlpLong b then 16 else 12

/-- Length in bytes of the data the TLP carries or asks for, by doublewords. -/
def tlpLength (b : Bytes) : Nat :=
  let n := ofBe (slice b 2 2) % 1024
  4 * (if n == 0 then 1024 else n)

/-- Requester ID of a request. -/
def tlpRequester (b : Bytes) : Nat := ofBe (slice b 4 2)

/-- Tag of a request, 10 bits. -/
def tlpTag (b : Bytes) : Nat := leAt b 6 1 + 256 * b2n (bit (leAt b 1 1) 3) + 512 * b2n (bit (leAt b 1 1) 7)

/-- First and last byte enables. -/
def tlpFirstBe (b : Bytes) : Nat := leAt b 7 1 % 16
def tlpLastBe (b : Bytes) : Nat := leAt b 7 1 / 16

/-- The doubleword address of a memory or I/O request. -/
def tlpDwAddr (b : Bytes) : Nat := (if tlpLong b then ofBe (slice b 8 8) else ofBe (slice b 8 4)) / 4 * 4

/-- Zeros below the first byte enabled. -/
def beSkip (e : Nat) : Nat := if bit e 0 then 0 else if bit e 1 then 1 else if bit e 2 then 2 else if bit e 3 then 3 else 0

/-- Bytes above the last byte enabled. -/
def beTail (e : Nat) : Nat := if bit e 3 then 0 else if bit e 2 then 1 else if bit e 1 then 2 else if bit e 0 then 3 else 0

/-- The byte address of the first byte enabled. -/
def tlpAddr (b : Bytes) : Nat := tlpDwAddr b + beSkip (tlpFirstBe b)

/-- Bytes from the first to the last enabled. -/
def tlpBytes (b : Bytes) : Nat :=
  let n := tlpLength b
  let last := if n == 4 then tlpFirstBe b else tlpLastBe b
  n - beSkip (tlpFirstBe b) - beTail last

/-- The data. -/
def tlpData (b : Bytes) : Bytes := slice b (tlpHeader b) (tlpLength b)

/-- Bus, device and function that a configuration request names, and its register's doubleword. -/
def tlpTarget (b : Bytes) : Nat := ofBe (slice b 8 2)
def tlpCfgDw (b : Bytes) : Nat := (ofBe (slice b 10 2) % 4096) / 4

/-- A message's code. -/
def tlpMsgCode (b : Bytes) : Nat := leAt b 7 1

/-- Of a completion: status, completer, byte count, requester, tag. -/
def cplStatus (b : Bytes) : Nat := leAt b 6 1 / 32
def cplCompleter (b : Bytes) : Nat := ofBe (slice b 4 2)
def cplCount (b : Bytes) : Nat := ofBe (slice b 6 2) % 4096
def cplRequester (b : Bytes) : Nat := ofBe (slice b 8 2)
def cplTag (b : Bytes) : Nat := leAt b 10 1 + 256 * b2n (bit (leAt b 1 1) 3) + 512 * b2n (bit (leAt b 1 1) 7)
def cplHasData (b : Bytes) : Bool := bit (leAt b 0 1) 6

/-- The bytes of a read completion's data that answer the request. -/
def cplData (b : Bytes) : Bytes :=
  let skip := leAt b 11 1 % 4
  let n := if cplCount b == 0 then 4096 else cplCount b
  (slice b (12 + skip) (4 * (let k := ofBe (slice b 2 2) % 1024; if k == 0 then 1024 else k) - skip)).take n

/-- The completion is the request's last. -/
def cplFinal (b : Bytes) : Bool :=
  if !cplHasData b || cplStatus b != 0 then true
  else (if cplCount b == 0 then 4096 else cplCount b) ≤ (cplData b).length

/-- A request that wants a completion. -/
def tlpNonPosted (b : Bytes) : Bool :=
  match tlpKind b with
  | .memRead | .memReadLk | .ioRead | .ioWrite | .cfgRead | .cfgWrite | .atomic => true
  | _ => false

/-- A completion. -/
def tlpIsCompletion (b : Bytes) : Bool := tlpKind b == .completion || tlpKind b == .completionLk

/-- An End-End TLP Prefix stands first: the TLP is Malformed at every Damya port (R298). -/
def tlpPrefixed (b : Bytes) : Bool := 4 ≤ leAt b 0 1 / 32

/-- A message's routing: 0 to the root complex, 2 by ID, 3 broadcast from the root complex, 4 ends at the receiver. -/
def tlpRouting (b : Bytes) : Nat := leAt b 0 1 % 8

/-! The TLP digest (R284, R298) -/

/-- The TLP carries a digest. -/
def tlpHasDigest (b : Bytes) : Bool := bit (leAt b 2 1) 7

/-- The bytes that the digest covers: the header and the data. -/
def tlpCovered (b : Bytes) : Bytes := b.take (tlpHeader b + (if cplHasData b then tlpLength b else 0))

/-- The ECRC: the variant bits, bit 0 of Type and EP, count as 1. -/
def ecrcOf (b : Bytes) : Nat :=
  let c := tlpCovered b
  let v := byte (leAt c 0 1 ||| 1) :: slice c 1 1 ++ byte (leAt c 2 1 ||| 0x40) :: c.drop 3
  crcReflected 0xEDB88320 0xFFFFFFFF v ^^^ 0xFFFFFFFF

/-- The TLP with a digest. -/
def withEcrc (b : Bytes) : Bytes :=
  let c := tlpCovered b
  let m := c.take 2 ++ byte (leAt c 2 1 ||| 0x80) :: c.drop 3
  m ++ le 4 (ecrcOf m)

/-- There is no digest, or it is right. -/
def ecrcGood (b : Bytes) : Bool :=
  !tlpHasDigest b || leAt b (tlpCovered b).length 4 == ecrcOf b

/-! Packets Damya builds -/

/-- Byte 1 with a tag's bits 8 and 9. -/
def tagBits (tag : Nat) : Nat := 8 * (tag / 256 % 2) + 128 * (tag / 512 % 2)

/-- Byte enables of a request of n bytes at an address. -/
def byteEnables (addr n : Nat) : Nat :=
  let skip := addr % 4
  let dws := ceilDiv (skip + n) 4
  let tail := 4 * dws - skip - n
  let first := (15 * 2 ^ skip) % 16
  let last := 15 / 2 ^ tail
  if dws ≤ 1 then first &&& last else first + 16 * last

/-- A memory request's header. -/
def memHeader (write : Bool) (id tag addr n : Nat) : Bytes :=
  let long := 2 ^ 32 ≤ addr
  let dws := ceilDiv (addr % 4 + n) 4
  let f := b2n long + 2 * b2n write
  [byte (32 * f), byte (tagBits tag)] ++ be 2 (dws % 1024) ++ be 2 id ++ [byte tag, byte (byteEnables addr n)] ++
    be (if long then 8 else 4) (addr / 4 * 4)

/-- A memory read. -/
def memReadTlp (id tag addr n : Nat) : Bytes := memHeader false id tag addr n

/-- A memory write. -/
def memWriteTlp (id addr : Nat) (data : Bytes) : Bytes :=
  let skip := addr % 4
  memHeader true id 0 addr data.length ++ padTo (4 * ceilDiv (skip + data.length) 4) (zeros skip ++ data)

/-- A completion to a request, with data or without. -/
def completionTlp (locked : Bool) (completer status : Nat) (req : Bytes) (count low : Nat) (data : Option Bytes) : Bytes :=
  let f := if data.isSome then 2 else 0
  let body := match data with
    | some d => padTo (4 * ceilDiv (low % 4 + d.length) 4) (zeros (low % 4) ++ d)
    | none => []
  [byte (32 * f + (if locked then 11 else 10)), byte (tagBits (tlpTag req))] ++ be 2 (body.length / 4 % 1024) ++
    be 2 completer ++ be 2 (status * 8192 + count % 4096) ++ be 2 (tlpRequester req) ++ [byte (tlpTag req), byte (low % 128)] ++
    body

/-- A completion without data: status 1 is UR, 4 Completer Abort. -/
def statusCpl (completer status : Nat) (req : Bytes) : Bytes :=
  completionTlp (tlpKind req == .memReadLk) completer status req (if tlpNonPosted req then 4 else 0) 0 none

end Sys2Proof.Machine
end

