-- ==== Sys2Proof/Machine/Vdp.lean ====
section
/-!
DEFINITION. The virtual switch: configuration space, the binding of virtual downstream ports, Link Active, sideband
messages, the lock and the prefetch lines' bookkeeping (R287 to R293, R303 to R313).
-/

namespace Sys2Proof.Machine

/-- The machine with PCI Express changed. -/
def State.withPcie (s : State) (f : Pcie → Pcie) : State := { s with pcie := f s.pcie }

/-! Configuration space (R288, R294; capability offsets are the model's, log entry 21) -/

/-- Dwords of the PCI Express, MSI and bridge subsystem capabilities, and of the AER, ACS and Lane Margining extended
capabilities. -/
def capPcie : Nat := 0x10
def capMsi : Nat := 0x20
def capSub : Nat := 0x28
def capAer : Nat := 0x40
def capAcs : Nat := 0x50
def capMargin : Nat := 0x58

/-- Lanes that function class k can margin: the upstream port's, a downstream port's. -/
def marginLanes (k : Nat) : Nat := if k == 0 then 8 else if k == 1 then 4 else 0

/-- The dword is a lane's margining control and status. -/
def isMargin (k d : Nat) : Bool := capMargin + 2 ≤ d && d < capMargin + 2 + marginLanes k

/-- The uncorrectable errors a function of class k can report: Surprise Down and ACS Violation only a downstream port. -/
def aerErrors (k : Nat) : Nat := if k == 1 then 0x003FF030 else 0x001FF010

/-- The key of a dword of function f. -/
def cfgKey (f d : Nat) : Nat := 1024 * f + d

/-- The class of function f: 0 the upstream port function, 1 a virtual downstream port, 2 the station function. -/
def State.cfgClass (s : State) (f : Nat) : Nat := if !s.isRoot then 2 else if f == 0 then 0 else 1

/-- Subsystem Vendor ID and Subsystem ID: the setting's, or by default 0x1F4C and the Device ID (R288, R595). -/
def State.subsystem (s : State) (k : Nat) : Nat :=
  let v := s.setting 0x0006
  let id := [0x4828, 0x4829, 0x482A].getD k 0
  if v == 0 then 0x1F4C + 65536 * id else v

/-- The constant bits of a dword. -/
def State.cfgConst (s : State) (f d : Nat) : Nat :=
  let k := s.cfgClass f
  let rev := s.rd Reg.SYS_ID_MAJOR * 16 + s.rd Reg.SYS_ID_MINOR
  let header := if k == 0 then 0x010000 else if k == 1 then 0x810000 else 0
  if d == 0 then [0x48281F4C, 0x48291F4C, 0x482A1F4C].getD k 0
  else if d == 1 then 0x00100000
  else if d == 2 then (if k == 2 then 0x08800000 else 0x06040000) + rev
  else if d == 3 then header
  else if d == 4 then (if k == 1 then 0 else 4)
  else if d == 0xB && k == 2 then s.subsystem k
  else if d == 0xD then 0x40
  else if d == capPcie then 0x28010 + [5, 6, 0].getD k 0 * 0x100000 + (if k == 1 then 0x1000000 else 0)
  else if d == capPcie + 1 then 0x8025 + (if k == 2 then 0x10000000 else 0)
  else if d == capPcie + 3 then (if k == 0 then 0x884 else 0x844) + (if k == 1 then 0x100000 else 0)
  else if d == capPcie + 5 && k == 1 then 0x62
  else if d == capPcie + 9 then 0x30000 + (if k == 1 then 0x20 else 0) + (if k == 2 then 0 else 0x40)
  else if d == capPcie + 11 then 0x1E
  else if d == capMsi then 0x01800005 + (if k == 1 then 0 else 0x80000) + (if k == 2 then 0 else 0xA000)
  else if d == capSub && k != 2 then 0x0D
  else if d == capSub + 1 && k != 2 then s.subsystem k
  else if d == capAer then 0x00020001 + [0x16000000, 0x14000000, 0].getD k 0
  else if d == capAer + 6 then (if k == 1 then 0 else 0xA0)
  else if d == capAcs && k == 1 then 0x1601000D
  else if d == capMargin && k != 2 then 0x00010027
  else if d == capMargin + 1 && k != 2 then 0x00010000
  else if d == capAcs + 1 && k == 1 then 0x000C001F
  else 0

/-- The bits of a dword that a write changes, and those that a 1 written clears. -/
def State.cfgWritable (s : State) (f d : Nat) : Nat × Nat :=
  let k := s.cfgClass f
  if d == 1 then (0x0547, 0xF9000000)
  else if d == 3 then (0xFF, 0)
  else if d == 4 then (if k == 1 then 0 else 0xFFFF0000, 0)
  else if d == 5 then (if k == 1 then 0 else 0xFFFFFFFF, 0)
  else if d == 6 && k != 2 then (0xFFFFFF, 0)
  else if d == 7 && k != 2 then (0xF0F0, 0xF9000000)
  else if d == 8 && k != 2 then (0xFFF0FFF0, 0)
  else if d == 9 && k != 2 then (0xFFF0FFF0, 0)
  else if (d == 0xA || d == 0xB || d == 0xC) && k != 2 then (0xFFFFFFFF, 0)
  else if d == 0xF then (if k == 2 then 0xFF else 0x005F00FF, 0)
  else if d == capPcie + 2 then (0x7FFF, 0x000F0000)
  else if d == capPcie + 4 && k == 1 then (0x0FD3, 0xC0000000)
  else if d == capPcie + 6 && k == 1 then (0x1FFF, 0x011F0000)
  else if d == capPcie + 10 then (0x17FF, 0)
  else if d == capPcie + 12 then (0x000F, 0)
  else if d == capMsi then (0x00710000, 0)
  else if d == capMsi + 1 then (0xFFFFFFFC, 0)
  else if d == capMsi + 2 then (0xFFFFFFFF, 0)
  else if d == capMsi + 3 then (0xFFFF, 0)
  else if d == capMsi + 4 then (if k == 1 then 1 else 0xFFFF, 0)
  else if d == capAer + 1 then (0, aerErrors k)
  else if d == capAer + 2 || d == capAer + 3 then (aerErrors k, 0)
  else if d == capAer + 4 then (0, 0x31C1)
  else if d == capAer + 5 then (0x31C1, 0)
  else if d == capAer + 6 then (if k == 1 then 0 else 0x140, 0)
  else if d == capAcs + 1 && k == 1 then (0x00130000, 0)
  else if isMargin k d then (0xFF7F, 0)
  else (0, 0)

/-- A dword's stored bits. -/
def State.cfgStored (s : State) (f d : Nat) : Nat := (Table.get cfgDefault s.pcie.cfg (cfgKey f d)).toNat

/-- The machine with them replaced. -/
def State.setCfg (s : State) (f d v : Nat) : State :=
  let w : Word := BitVec.ofNat 32 v
  s.withPcie fun p => { p with cfg := Table.set cfgDefault p.cfg (cfgKey f d) w }

/-- A dword as it reads. -/
def State.cfgRead (s : State) (f d : Nat) : Nat :=
  let v := s.cfgConst f d ||| s.cfgStored f d
  if isMargin (s.cfgClass f) d && v == 0 then 0x9C38 else v

/-- An uncorrectable error is logged in function f's AER status: 19 ECRC, 21 ACS Violation. -/
def State.aerLog (s : State) (f k : Nat) : State := s.setCfg f (capAer + 1) (setBit (s.cfgStored f (capAer + 1)) k)

/-- Function 0 generates ECRC, and checks it, where host software has enabled that (R284). -/
def State.sealTlp (s : State) (b : Bytes) : Bytes := if bit (s.cfgStored 0 (capAer + 6)) 6 then withEcrc b else b
def State.ecrcFails (s : State) (b : Bytes) : Bool := bit (s.cfgStored 0 (capAer + 6)) 8 && !ecrcGood b

/-- The configuration space of function f takes its reset values. -/
def State.cfgReset (s : State) (f : Nat) : State :=
  s.withPcie fun p => { p with cfg := Table.keep (fun k => k / 1024 != f) p.cfg }

/-- Max_Payload_Size of function 0 in bytes. -/
def State.maxPayload (s : State) : Nat := 128 * 2 ^ min 5 (bits (s.cfgStored 0 (capPcie + 2)) 7 5)

/-! Virtual downstream ports (R288 to R290) -/

/-- Virtual downstream port v. -/
def State.vdp (s : State) (v : Nat) : Vdp := Table.get (fun _ => {}) s.pcie.vdps v

/-- The machine with it replaced. -/
def State.setVdp (s : State) (v : Nat) (x : Vdp) : State :=
  s.withPcie fun p => { p with vdps := Table.set (fun _ => {}) p.vdps v x }

/-- The side of port n toward its link. -/
def State.side (s : State) (n : Nat) : PortSide := Table.get (fun _ => {}) s.pcie.ports n

/-- The machine with it changed. -/
def State.withSide (s : State) (n : Nat) (f : PortSide → PortSide) : State :=
  s.withPcie fun p => { p with ports := Table.set (fun _ => {}) p.ports n (f (s.side n)) }

/-- The OPEN tunnels of a type that end at a unit of this Damya, with its SUB where one is given. -/
def State.unitTids (s : State) (ttype unit : Nat) (sub : Option Nat) : List Nat :=
  s.validTids.filter fun t => s.tidOpen t && s.rd (Reg.TUN_ENTRY_W0_TTYPE t) == ttype &&
    (s.tidRole t == 1 || s.tidRole t == 2) && s.rd (Reg.TUN_ENTRY_W1_UNIT t) == unit &&
    (match sub with
     | some k => s.rd (Reg.TUN_ENTRY_W1_SUB t) == k
     | none => true)

/-- Every PCIE or SIDEBAND tunnel whose entry names the upstream port with SUB v, whatever its state. -/
def State.vdpEntries (s : State) (ttype v : Nat) : List Nat :=
  s.validTids.filter fun t => s.rd (Reg.TUN_ENTRY_W0_TTYPE t) == ttype && s.rd (Reg.TUN_ENTRY_W1_UNIT t) == 0x10 &&
    s.rd (Reg.TUN_ENTRY_W1_SUB t) == v

/-- The far end of a tunnel of the upstream port: position, unit, SUB, as the books have it. -/
def State.farUnit (s : State) (t : Nat) : Option (Nat × Nat × Nat) :=
  match Table.get (fun _ => none) s.tun.books t with
  | some e => some (if s.tidRole t == 1 then (e.posB, e.unitB, e.subB) else (e.posA, e.unitA, e.subA))
  | none => none

/-- The tunnel that carries configuration to v's binding (R290): SUB 4 of a station function, the one of a root port. -/
def State.cfgTunnel (s : State) (v : Nat) : Option Nat :=
  (s.unitTids 0 0x10 (some v)).find? fun t => match s.farUnit t with
    | some (_, u, k) => u != 0x13 || k == 4
    | none => false

/-- A hot-plug event of port v under its Slot Control enables (R313): `enable` is the event's bit there. -/
def State.hotplug (s : State) (v enable : Nat) : State :=
  let c := s.cfgStored (1 + v) (capPcie + 6)
  if bit c 5 && bit c enable && bit (s.cfgStored (1 + v) capMsi) 16 then s.emit (.pcie 2 "HOTPLUG_MSI" [v] []) else s

/-- Sets and clears bits of Slot Status (upper half of the Slot Control dword). -/
def State.slotBits (s : State) (v set clear : Nat) : State :=
  let w := s.cfgStored (1 + v) (capPcie + 6)
  s.setCfg (1 + v) (capPcie + 6) ((w ||| set * 65536) - (w &&& clear * 65536 &&& (4294967295 - set * 65536)))

/-- A UR completion to the host that Damya makes (R291). -/
def State.urToHost (s : State) (completer requester tag : Nat) (locked : Bool := false) : State :=
  let req := memReadTlp requester tag 0 4
  let c := statusCpl completer 1 (if locked then 1 :: req.drop 1 else req)
  (s.count 0x134).emit (.pcie 2 "TLP" [] (if completer == s.pcie.self then s.sealTlp c else c))

/-- A request of the host is answered with UR. -/
def State.urFor (s : State) (completer : Nat) (b : Bytes) : State :=
  s.urToHost completer (tlpRequester b) (tlpTag b) (tlpKind b == .memReadLk)

/-- PCIE_OUTST.USED follows the outstanding table. -/
def State.setOutst (s : State) (l : List Outstanding) : State :=
  (s.withPcie fun p => { p with outst := l }).wr (Reg.PCIE_OUTST_USED 0) l.length

/-- PCIE_PFPOOL.HELD follows the pool. -/
def State.setLines (s : State) (l : List PfLine) : State :=
  (s.withPcie fun p => { p with lines := l }).wr (Reg.PCIE_PFPOOL_HELD 0) l.length

/-- A prefetch line is discarded, counted and recorded (R305); host reads that wait for it are forwarded no more: they end
in the requester's time-out. -/
def State.discardLine (s : State) (l : PfLine) : State :=
  let s := (s.setLines (s.pcie.lines.filter fun x => x.tag != l.tag)).count 0x146
  let s := ((s.wr (Reg.PCIE_PFDISC_LO_ADDR_LO 0) (l.addr / 256)).put (Reg.PCIE_PFDISC_LO_VALID 0) true).wr
    (Reg.PCIE_PFDISC_LO_VDP 0) l.vdp
  s.wr (Reg.PCIE_PFDISC_HI_ADDR_HI 0) (l.addr / 2 ^ 32)

/-- Every line that `p` names is discarded. -/
def State.discardLines (s : State) (p : PfLine → Bool) : State :=
  (s.pcie.lines.filter p).foldl (fun (s : State) l => s.discardLine l) s

/-- The bus, device and function of virtual downstream port v (R288). -/
def State.vdpId (s : State) (v : Nat) : Nat := bits (s.cfgStored 0 6) 15 8 * 256 + v / 2 * 8 + v % 2

/-! The lock (R307 to R309) -/

/-- PCIE_LOCK follows the semaphore. -/
def State.setLock (s : State) (n : Nat) (l : Option (Nat × Nat)) : State :=
  ((s.withPcie fun p => { p with lock := l }).put (Reg.PCIE_LOCK_HELD n) l.isSome).wr (Reg.PCIE_LOCK_VDP n)
    (if s.isRoot then (l.map (·.1)).getD 0 else 0)

/-! Sideband messages (R311, R312) -/

/-- The SIDEBAND tunnel of virtual downstream port v: its own, or for a station root port that has none the station
function's of the same position. -/
def State.vdpSideband (s : State) (v : Nat) : Option Nat :=
  let x := s.vdp v
  match s.unitTids 4 0x10 (some v) with
  | t :: _ => some t
  | [] =>
    if x.unit == 0x13 then none
    else (s.unitTids 4 0x10 none).find? fun t => match s.farUnit t with
      | some (p, u, _) => p == x.position && u == 0x13
      | none => false

/-- CONTROL as port v's registers have it. -/
def State.controlBytes (s : State) (v : Nat) : Bytes :=
  let x := s.vdp v
  let link := s.cfgStored (1 + v) (capPcie + 4)
  let power := !bit (s.cfgStored (1 + v) (capPcie + 6)) 10
  [0x81, byte x.unit, byte (b2n (!power) + 2 * b2n (bit link 4) + 4 * b2n power + 8 * b2n (bit link 1)),
   byte (bits (s.cfgStored (1 + v) (capPcie + 12)) 2 0), 0, 0, byte x.hotResets, byte x.retrains]

/-- CONTROL is sent to port v's binding; without a path it is dropped and counted (R311). -/
def State.sendControl (s : State) (v : Nat) : State :=
  let x := s.vdp v
  if !x.bound then s
  else match s.vdpSideband v with
    | some t => match s.wrapTunnel t (4 + v % 2) (s.controlBytes v) with
      | some s => s.count 0x135
      | none => s.count 0x136
    | none =>
      let s := s.count 0x136
      if x.noted then s else (s.setVdp v { x with noted := true }).notice 0x0B06 [0x10, 0x81]

/-! Link Active (R290, R291) -/

/-- VDP_STATE. -/
def State.vdpNotice (s : State) (v : Nat) (x : Vdp) (position unit : Nat) : State :=
  s.notice 0x0B02 [byte v, byte (b2n x.bound + 2 * b2n x.active), byte position, byte unit]

/-- The bit has fallen: outstanding host requests are completed with UR, the port's lines go, and a lock it holds is
released. -/
def State.vdpFell (s : State) (v : Nat) : State :=
  let gone := s.pcie.outst.filter fun o => o.vdp == v
  let s := s.setOutst (s.pcie.outst.filter fun o => o.vdp != v)
  let s := gone.foldl (fun (s : State) o => s.urToHost (s.vdpId v) o.requester o.tag o.locked) s
  let wait := s.pcie.npWait.filter fun x => x.1 == v
  let s := s.withPcie fun p => { p with npWait := p.npWait.filter fun x => x.1 != v }
  let s := wait.foldl (fun (s : State) x => s.urFor (s.vdpId v) x.2) s
  let reads := s.pcie.reads.filter fun r => r.vdp == v
  let s := s.withPcie fun p => { p with reads := p.reads.filter fun r => r.vdp != v }
  let s := reads.foldl (fun (s : State) r => s.urFor (s.vdpId v) r.tlp) s
  let s := s.discardLines fun l => l.vdp == v
  match s.pcie.lock with
  | some (w, _) => if w == v then s.setLock 0 none else s
  | none => s

/-- Link Active as R290 has it. -/
def State.vdpLink (s : State) (v : Nat) : Bool :=
  let x := s.vdp v
  let dl : Bool := match s.vdpSideband v, x.levels with
    | none, _ => true
    | some _, some b => bit (leAt b 0 1) 7
    | some _, none => false
  x.bound && (s.cfgTunnel v).isSome && !x.dropped && (x.unit == 0x13 || dl)

/-- Link Active follows its conditions; a change sets Data Link Layer State Changed and raises VDP_STATE. -/
def State.vdpUpdate (s : State) (v : Nat) : State :=
  let x := s.vdp v
  let now := s.vdpLink v
  if now == x.active then s
  else
    let x := { x with active := now }
    let s := (s.setVdp v x).slotBits v 0x100 0
    let link := s.cfgStored (1 + v) (capPcie + 4)
    let s := s.setCfg (1 + v) (capPcie + 4) (putBit link 29 now)
    let s := (s.vdpNotice v x x.position x.unit).hotplug v 12
    if now then s.sendControl v else s.vdpFell v

/-- The binding of virtual downstream port v follows its tunnels (R289). -/
def State.vdpSync (s : State) (v : Nat) : State :=
  let x := s.vdp v
  match s.vdpEntries 0 v with
  | [] =>
    if !x.bound then s
    else
      let s := if x.active then s.vdpFell v else s
      let s := (s.setVdp v {}).slotBits v 0x08 0x40
      let s := s.setCfg (1 + v) (capPcie + 4) (clearBit (s.cfgStored (1 + v) (capPcie + 4)) 29)
      (s.vdpNotice v {} x.position x.unit).hotplug v 3
  | _ =>
    if x.bound then s.vdpUpdate v
    else match (s.unitTids 0 0x10 (some v)).head?.bind s.farUnit with
      | none => s
      | some (p, u, _) =>
        let x : Vdp := { bound := true, position := p, unit := u }
        let s := (s.setVdp v x).slotBits v 0x48 0
        let s := s.hotplug v 3
        if s.vdpLink v then s.vdpUpdate v else s.vdpNotice v x p u

/-- Link Active of every bound port follows: a SIDEBAND tunnel may serve several. -/
def State.vdpsUpdate (s : State) : State :=
  (s.pcie.vdps.map (·.1)).foldl (fun (s : State) v => if (s.vdp v).bound then s.vdpUpdate v else s) s

/-- A tunnel of the upstream port has entered OPEN or CLOSING, or has been removed: a PCIE tunnel binds or unbinds its port
(R289), and Link Active follows (R290). -/
def State.vdpTunnel (s : State) (ttype unit sub : Nat) : State :=
  if !s.isRoot || unit != 0x10 then s
  else if ttype == 0 then s.vdpSync sub
  else if ttype == 4 then s.vdpsUpdate
  else s

/-- The same for an entry that stands. -/
def State.vdpChanged (s : State) (t : Nat) : State :=
  s.vdpTunnel (s.rd (Reg.TUN_ENTRY_W0_TTYPE t)) (s.rd (Reg.TUN_ENTRY_W1_UNIT t)) (s.rd (Reg.TUN_ENTRY_W1_SUB t))

end Sys2Proof.Machine
end

