-- ==== Sys2Proof/Machine/Tunnel.lean ====
section
/-!
DEFINITION. The tunnel engine: entries and their installation, allotments, retunes, line records, positions, routes and
healing, and the root's books (R180 to R218).
-/

namespace Sys2Proof

open Sys2Proof.Machine

/-- The rates of 24 bytes (R207 bytes 12–35). -/
def Rates.ofBytes (b : Bytes) : Rates :=
  { cirAb := leAt b 0 4, cirBa := leAt b 4 4, pirAb := leAt b 8 4, pirBa := leAt b 12 4
    cbsAb := leAt b 16 2, cbsBa := leAt b 18 2, pbsAb := leAt b 20 2, pbsBa := leAt b 22 2 }

/-- The 24 bytes of rates. -/
def Rates.bytes (r : Rates) : Bytes :=
  le 4 r.cirAb ++ le 4 r.cirBa ++ le 4 r.pirAb ++ le 4 r.pirBa ++ le 2 r.cbsAb ++ le 2 r.cbsBa ++ le 2 r.pbsAb ++
    le 2 r.pbsBa

/-- The rates lie within their values (R207). -/
def Rates.valid (r : Rates) : Bool :=
  r.cirAb ≤ 200000 && r.cirBa ≤ 200000 && r.cirAb ≤ r.pirAb && r.pirAb ≤ 200840 && r.cirBa ≤ r.pirBa &&
    r.pirBa ≤ 200840 && 1 ≤ r.cbsAb && r.cbsAb ≤ r.pbsAb && r.pbsAb ≤ 4096 && 1 ≤ r.cbsBa && r.cbsBa ≤ r.pbsBa &&
    r.pbsBa ≤ 4096

/-- What a charge needs of a tunnel: its ends, whether it is also charged the other way round a ring, and its CIRs. -/
structure Charge where
  a : Nat
  b : Nat
  round : Bool
  cls : Nat
  ab : Nat
  ba : Nat

/-- The rate charged on link `i` toward rising positions, or toward falling ones (R203). -/
def Charge.on (c : Charge) (ring : Bool) (n i : Nat) (south : Bool) : Nat :=
  let lo := min c.a c.b
  let hi := max c.a c.b
  let up : Bool := decide (c.a < c.b)
  if lo ≤ i && i < hi then (if south == up then c.ab else c.ba)
  else if ring && c.round && i ≤ n then (if south == up then c.ba else c.ab)
  else 0

/-- The charge of a tunnel in the books. -/
def BookEntry.charge (e : BookEntry) : Charge :=
  { a := e.posA, b := e.posB, round := e.cls ≤ 1 || e.ringProt, cls := e.cls
    ab := e.rates.cirAb, ba := e.rates.cirBa }

end Sys2Proof

namespace Sys2Proof.Machine

/-! Allotments and charges at this Damya (R203, R205, R206) -/

/-- The charge of an entry of this Damya. -/
def State.entryCharge (s : State) (t : Nat) : Charge :=
  { a := s.rd (Reg.TUN_ENTRY_W0_POS_A t), b := s.rd (Reg.TUN_ENTRY_W0_POS_B t), cls := s.tidClass t
    round := s.tidClass t ≤ 1 || s.flag (Reg.TUN_ENTRY_W0_RING_PROT t)
    ab := s.rd (Reg.TUN_ENTRY_W2_CIR_AB t), ba := s.rd (Reg.TUN_ENTRY_W3_CIR_BA t) }

/-- The link that trunk t meets, and the sense of the direction this Damya receives on it (R194). -/
def State.linkOf (s : State) (t : Nat) : Nat × Bool :=
  if s.isRoot then (if t == 0 then (0, false) else (s.tun.n, true))
  else if t == 0 then (s.position - 1, true) else (s.position, false)

/-- The CIRs of class v charged to a link direction by this Damya's entries. -/
def State.charged (s : State) (v i : Nat) (south : Bool) : Nat :=
  ((s.validTids.filter fun t => 2 ≤ t).map s.entryCharge).foldl
    (fun a c => if c.cls == v then a + c.on s.ring s.tun.n i south else a) 0

/-- Trunk t's link runs: ACTIVE, RETRAIN or LOWPOWER. -/
def State.linkRuns (s : State) (t : Nat) : Bool :=
  let l := s.rd (Reg.TLK_STAT_LSTATE t)
  l == 2 || l == 3 || l == 5

/-- OVERCOMMIT (R205), once while the condition holds. -/
def State.overcommit (s : State) (t : Nat) : State :=
  let (i, rx) := s.linkOf t
  let sum := ((List.range 4).map fun v => s.charged v i (!rx)).foldl (· + ·) 0
  let w := s.rd (Reg.TRL_STAT_TX_WIDTH t)
  let cap := [50210, 100420].getD w 200840
  let exceeds := s.placed && w < 2 && s.linkRuns t && cap < sum
  if exceeds && !s.tun.oversold.contains t then
    (s.withTun fun n => { n with oversold := n.oversold ++ [t] }).notice 0x0405 ([byte t, byte w] ++ le 4 sum)
  else if exceeds then s
  else s.withTun fun n => { n with oversold := n.oversold.filter (· != t) }

/-- The allotment of channel v of trunk t's receive direction (R206). -/
def State.allotment (s : State) (t v : Nat) : Nat :=
  let (i, rx) := s.linkOf t
  let r := s.charged v i rx + (if v == 0 then 1000 else 0)
  min 8191 (max 128 (ceilDiv (2 * r * (orOne (s.rd Reg.TUN_LIMIT_LOOP) + 10)) 5120))

/-- The allotments of R206 are written for both trunks, after an install, a retune, a removal or a change of width. -/
def State.allotments (s : State) : State :=
  let s := [0, 1].foldl (fun (s : State) t =>
    (List.range 4).foldl (fun (s : State) v =>
      (s.wr (Reg.TLK_ALLOT_ALLOT t v) (s.allotment t v)).withSw fun w =>
        { w with allotRefused := w.allotRefused.filter (· != t) }) s) s
  (s.overcommit 0).overcommit 1

/-! Entries (R200, R210) -/

/-- The machine with what it keeps of a tunnel replaced. -/
def State.setTunInfo (s : State) (t : Nat) (x : TunnelInfo) : State :=
  s.withTun fun n => { n with info := Table.set (fun _ => {}) n.info t x }

/-- The entry image (R200), W0 to W3. -/
def State.entryImage (s : State) (t : Nat) : Bytes :=
  (List.range 4).flatMap fun w => le 4 (s.reg (Reg.TUN_ENTRY_W0_A t + 4 * w)).toNat

/-- The fields of an entry image that hold something: the reserved bits read 0. -/
def entryMask : List Nat := [0xFFBF3FFF, 0xFFFF0300, 0x3FFFF, 0x3FFFF]

/-- The policer directions of which this Damya is the ingress endpoint. -/
def State.ingressDirs (s : State) (t : Nat) : List Nat :=
  if s.tidRole t == 1 then [0] else if s.tidRole t == 2 then [1] else []

/-- A STAGED entry is written (R210): an old entry is overwritten, and the SSEQ state and any prepared retune go. -/
def State.stageEntry (s : State) (t : Nat) (image : Bytes) (rates : Rates) (taps : List Nat) : State :=
  let word (w : Nat) : Nat := leAt image (4 * w) 4 &&& entryMask.getD w 0
  let w0 := (word 0 &&& 0x1FFFFFFF) ||| 0x80000000
  let s := (List.range 4).foldl (fun (s : State) w =>
    s.setReg (Reg.TUN_ENTRY_W0_A t + 4 * w) (BitVec.ofNat 32 (if w == 0 then w0 else word w))) s
  let s := (s.setTunInfo t { rates := rates, taps := taps }).setReg (Reg.TUN_TSTAT_A t) 0
  let s := s.withTun fun n => { n with paused := n.paused.filter (·.1 != t) }
  ((s.setPolicer t 0 none).setPolicer t 1 none).allotments

/-- The entry becomes OPEN: its policers are loaded (R263), and a PCIE tunnel at the upstream port binds its virtual
downstream port (R289). -/
def State.openEntry (s : State) (t : Nat) : State :=
  let s := s.wr (Reg.TUN_ENTRY_W0_STATE t) 1
  ((s.ingressDirs t).foldl (fun s d => s.loadPolicer t d (s.tidClass t) (s.tunInfo t).rates) s).vdpChanged t

/-- The entry becomes CLOSING (R210): nothing new is wrapped, and Link Active of its port follows (R290). -/
def State.closingEntry (s : State) (t : Nat) : State :=
  if s.tidValid t then (s.wr (Reg.TUN_ENTRY_W0_STATE t) 2).vdpChanged t else s

/-- The entry is removed (R210): VALID is 0, the policers are empty, a prepared retune goes and a binding ends. -/
def State.removeEntry (s : State) (t : Nat) : State :=
  if !s.tidValid t then s
  else
    let u := s.rd (Reg.TUN_ENTRY_W1_UNIT t)
    let sub := s.rd (Reg.TUN_ENTRY_W1_SUB t)
    let ttype := s.rd (Reg.TUN_ENTRY_W0_TTYPE t)
    let s := (List.range 4).foldl (fun (s : State) w =>
      let a := Reg.TUN_ENTRY_W0_A t + 4 * w
      s.setReg a (regReset a)) s
    let s := (s.setTunInfo t {}).setReg (Reg.TUN_TSTAT_A t) 0
    let s := ((s.setPolicer t 0 none).setPolicer t 1 none).withTun fun n => { n with paused := n.paused.filter (·.1 != t) }
    (s.vdpTunnel ttype u sub).allotments

/-- Hop install (R210). -/
def installBody : Bytes → State → Answer := fun p s =>
  let st := leAt p 1 1
  let t := leAt p 2 2
  let image := slice p 4 16
  if t < 2 || t > 1023 || st > 1 then .fail s Status.badParam
  else if st == 0 then
    .ok (s.stageEntry t image (Rates.ofBytes (slice p 20 24)) (((slice p 44 8).map (·.toNat)).filter (· != 0xFF)))
  else
    let same := (List.range 4).all fun w =>
      let m := if w == 0 then 0x1FBF3FFF else entryMask.getD w 0
      ((s.reg (Reg.TUN_ENTRY_W0_A t + 4 * w)).toNat &&& m) == (leAt image (4 * w) 4 &&& m)
    if s.tidValid t && s.rd (Reg.TUN_ENTRY_W0_STATE t) == 0 && same then .ok (s.openEntry t) else .fail s Status.notFound

/-- HOP_INSTALL. -/
def execHopInstall (r : Request) (s : State) : Out := runCommand 0x0400 (takes 52 installBody) (requestWithByte r 0 1) s

/-- Close (R210). -/
def closeBody : Bytes → State → Answer := fun p s =>
  let op := leAt p 1 1
  let t := leAt p 2 2
  if t < 2 || t > 1023 || op > 1 then .fail s Status.badParam
  else if op == 0 then .ok (s.closingEntry t)
  else .ok (s.removeEntry t)

/-- TUNNEL_CLOSE. -/
def execTunnelClose (r : Request) (s : State) : Out := runCommand 0x0402 (takes 4 closeBody) (requestWithByte r 0 1) s

/-- Prepare (R210, R214). -/
def State.prepareRetune (s : State) (t : Nat) (r : Rates) (at_ : Nat) : State :=
  s.setTunInfo t { s.tunInfo t with prep := some { rates := r, at_ := at_ } }

/-- The body of a Prepare packet. -/
def prepareBody : Bytes → State → Answer := fun p s =>
  let t := leAt p 2 2
  if t < 2 || t > 1023 then .fail s Status.badParam
  else if !s.tidValid t then .fail s Status.notFound
  else if (s.tunInfo t).prep.isSome then .fail s Status.busy
  else .ok (s.prepareRetune t (Rates.ofBytes (slice p 4 24)) (leAt p 28 6 * 1000000000 + leAt p 34 4))

/-- RETUNE_PREPARE. -/
def execRetunePrepare (r : Request) (s : State) : Out := runCommand 0x0401 (takes 38 prepareBody) (requestWithByte r 0 1) s

/-- RETUNE_CANCEL (R210). -/
def execRetuneCancel (r : Request) (s : State) : Out :=
  runCommand 0x0401 (takes 4 fun p s =>
    let t := leAt p 2 2
    .ok (s.setTunInfo t { s.tunInfo t with prep := none })) (requestWithByte r 0 2) s

/-- The time at which a Damya takes a direction's new values (R214): a downstream share takes a higher CIR at T_apply and a
lower one 20 µs later, the ingress policer the other way about.  With the CIR unchanged each takes them at T_apply (log entry
69). -/
def retunePart (old new : Nat) (ingress : Bool) (at_ : Nat) : Nat :=
  if old == new then at_ else if decide (old < new) == ingress then at_ + 20000 else at_

/-- The parts of tunnel t's prepared retune whose time has come are applied at this epoch (R214). -/
def State.retuneEpoch (s : State) (t : Nat) : State :=
  match (s.tunInfo t).prep with
  | none => s
  | some p =>
    let r := p.rates
    let cir (d : Nat) : Fld := if d == 0 then Reg.TUN_ENTRY_W2_CIR_AB t else Reg.TUN_ENTRY_W3_CIR_BA t
    let new (d : Nat) : Nat := if d == 0 then r.cirAb else r.cirBa
    let (s, p) := [0, 1].foldl (fun (acc : State × Prepared) d =>
      let (s, p) := acc
      let ingress := (s.ingressDirs t).contains d
      if p.done.contains d || s.reading < (retunePart (s.rd (cir d)) (new d) ingress p.at_ * 65536 : Nat) then (s, p)
      else ((if ingress then s.retunePolicer t d (s.tidClass t) r else s).wr (cir d) (new d),
        { p with done := p.done ++ [d] })) (s, p)
    if p.done.length == 2 then
      ((s.setTunInfo t { s.tunInfo t with rates := r, prep := none }).incr (Reg.TUN_ENTRY_W0_GEN t)).allotments
    else if p.done == [] then s
    else (s.setTunInfo t { s.tunInfo t with prep := some p }).allotments

/-- RETUNE_APPLY (R214): at an epoch, for the tunnel named. -/
def execRetuneApply (tid : Fin 1024) (s : State) : Out := onHub (fun s => s.retuneEpoch tid.val) s

/-! Egress (R187) -/

/-- The SSEQ check at the egress endpoint and at each tap. -/
def State.egressCheck (s : State) (g : Segment) : State :=
  if g.tid < 2 || !s.tidValid g.tid then s
  else
    let exp := s.rd (Reg.TUN_TSTAT_RX_NEXT g.tid)
    let s :=
      if g.sseq == exp then s
      else
        let s := (s.bump (Reg.TUN_TSTAT_GAPS g.tid) ((g.sseq + 256 - exp) % 256)).count 0x058 ((g.sseq + 256 - exp) % 256)
        s.limited (0x0406_0000 + g.tid) 0x0406 fun _ => le 2 g.tid ++ le 2 (s.rd (Reg.TUN_TSTAT_GAPS g.tid))
    s.wr (Reg.TUN_TSTAT_RX_NEXT g.tid) (g.sseq + 1)

/-! Positions and records (R189 to R193) -/

/-- A station takes, or forgets, its position. -/
def State.setPosition (s : State) (p : Nat) : State := s.wr Reg.SYS_MODE_POSITION p

/-- ASSIGN with position p leaves on trunk t. -/
def State.sendAssign (s : State) (t p : Nat) : State := s.sendRecord (some t) 63 [0xE1, byte p]

/-- What follows a change of routes, cut set or positions in the allotments. -/
def State.rerouted (s : State) : State := s.allotments

/-- ASSIGN received on trunk t (R191).  A station in RECOVERY forwards nothing (R598). -/
def State.assigned (s : State) (t : Nat) (b : Bytes) : State :=
  let p := leAt b 1 1
  if s.isRoot || t != 0 || s.position != 0 || p == 0 || 32 < p then s
  else
    let s := (s.setPosition p).rerouted
    let s := s.sendRecord none 0 ([0xE2, byte p] ++ le 4 (s.reg Reg.SYS_ID_A).toNat)
    if s.mode != 0 && p < 32 && s.linkActive 1 then s.sendAssign 1 (p + 1) else s

/-- The cut bit of link i changes. -/
def State.setCut (s : State) (i : Nat) (b : Bool) : State :=
  let c := putBit s.cutSet i b
  ((s.wr Reg.TUN_CUT_LO_CUT c).wr Reg.TUN_CUT_HI_CUT32 (c / 2 ^ 32)).rerouted

/-- A record goes on out of the trunk opposite the one it came on, when this Damya's tunnel engine forwards it (R190). -/
def State.forwardRecord (s : State) (t : Nat) (b : Bytes) (hop : Nat) (fwd : Bool) : State :=
  let s := s.count 0x056
  if fwd && hop != 0 && s.mode != 0 && s.linkActive (1 - t) then
    (s.count 0x057).sendRecord (some (1 - t)) 63 b hop
  else s

/-- HEAL received (R190, R197): one of a link and an originator is applied and forwarded once. -/
def State.healed (s : State) (t : Nat) (b : Bytes) (hop : Nat) (fwd : Bool) : State :=
  if s.recordSeen b then s
  else
    let s := s.withTun fun n => { n with heals := (leAt b 1 1, leAt b 2 1) :: n.heals }
    (if leAt b 1 1 ≤ 32 then s.setCut (leAt b 1 1) true else s).forwardRecord t b hop fwd

/-- A route change is kept for its time T_r, or applied at once where that has passed (R195). -/
def State.keepChange (s : State) (b : Bytes) : State :=
  let op := leAt b 1 1
  let c : RouteChange := { op := op, value := leAt b 2 1, ring := leAt b 3 1 != 0, number := leAt b 14 2
                           at_ := leAt b 4 6 * 1000000000 + leAt b 10 4 }
  s.withTun fun n => { n with changes := c.number :: n.changes, pendingChanges := n.pendingChanges ++ [c] }

/-- ROUTE_CHANGE received. -/
def State.changeRecord (s : State) (t : Nat) (b : Bytes) (hop : Nat) (fwd : Bool) : State :=
  if s.recordSeen b then s else (s.keepChange b).forwardRecord t b hop fwd

/-- A CLEAR is applied (R192, R193): op 1 first removes every host tunnel; a station forgets its position, N, the ring flag
and its cut set. -/
def State.applyClear (s : State) (op : Nat) : State :=
  let s := if op == 1 then (s.validTids.filter fun t => 2 ≤ t).foldl State.removeEntry s else s
  let s := if s.isRoot then s else s.setPosition 0
  let s := ((s.wr Reg.TUN_CUT_LO_CUT 0).wr Reg.TUN_CUT_HI_CUT32 0).put Reg.TUN_CTRL_RING false
  (s.wr Reg.TUN_LINE_STATIONS 0).withTun fun n => { n with n := 0, heals := [], changes := [], pendingChanges := [] }

/-- CLEAR received. -/
def State.clearReceived (s : State) (t : Nat) (b : Bytes) (hop : Nat) (fwd : Bool) : State :=
  if s.recordSeen b then s
  else
    let s := s.withTun fun n => { n with lastClear := some (leAt b 2 2) }
    (s.forwardRecord t b hop fwd).applyClear (leAt b 1 1)

/-- The root floods a CLEAR on every trunk whose link is ACTIVE; its number is a random one (R189, R190, R563). -/
def State.floodClear (s : State) (op : Nat) : State :=
  let (k, s) := s.free 16
  let s := s.withTun fun n => { n with lastClear := some k }
  let b : Bytes := [0xE5, byte op] ++ le 2 k
  (s.sendRecord (some 0) 63 b).sendRecord (some 1) 63 b

/-! Command packets that the root's Scribe sends (R209, R210) -/

/-- Sends a packet of R210 to a position, with the phase's SEQ. -/
def State.sendPacket (s : State) (pos op seq : Nat) (params : Bytes) : State :=
  s.sendCommand pos true (headerBytes { opcode := op, seq := seq, len := params.length } ++ params)

/-- The chain positions from A to B, both ends included, in order from A. -/
def chainPath (a b : Nat) : List Nat :=
  if a ≤ b then (List.range (b + 1 - a)).map (a + ·) else (List.range (a + 1 - b)).map (a - ·)

/-- The positions on the charged paths of a tunnel (R203, R209). -/
def State.chargedPositions (s : State) (e : BookEntry) : List Nat :=
  if s.ring && e.charge.round then List.range (s.tun.n + 1) else chainPath e.posA e.posB

/-- The entry image of a tunnel for the Damya at a position (R200).  The manual does not say which unit a tap names: that
byte is a free value, drawn when the tunnel enters the books (log entry 16). -/
def hopImage (e : BookEntry) (pos : Nat) : Bytes :=
  let (unit, sub, role) :=
    if pos == e.posA then (e.unitA, e.subA, 1) else if pos == e.posB then (e.unitB, e.subB, 2)
    else if e.taps.contains pos then (e.tapUnits.getD (e.taps.idxOf pos) 0xFF, 0, 3) else (0xFF, 0, 0)
  let w0 := 2 ^ 31 + e.ttype * 2 ^ 26 + e.cls * 2 ^ 24 + b2n e.ringProt * 2 ^ 23 + e.posA * 2 ^ 16 + e.posB * 2 ^ 8 + e.gen
  le 4 w0 ++ le 4 (unit * 2 ^ 24 + sub * 2 ^ 16 + role * 2 ^ 8) ++ le 4 e.rates.cirAb ++ le 4 e.rates.cirBa

/-- The taps as 8 bytes. -/
def tapBytes (l : List Nat) : Bytes := (l.map byte ++ List.replicate 8 0xFF).take 8

/-- A hop install to one position; the root makes its own entry at once. -/
def State.sendInstall (s : State) (e : BookEntry) (tid seq state pos : Nat) : State :=
  let image := hopImage e pos
  if pos == 0 then
    if state == 0 then s.stageEntry tid image e.rates e.taps
    else if s.tidValid tid && s.rd (Reg.TUN_ENTRY_W0_STATE tid) == 0 then s.openEntry tid else s
  else s.sendPacket pos 0x0400 seq ([1, byte state] ++ le 2 tid ++ image ++ e.rates.bytes ++ tapBytes e.taps)

/-- A Close to one position. -/
def State.sendClose (s : State) (tid seq op pos : Nat) : State :=
  if pos == 0 then
    if op == 1 then s.removeEntry tid else s.closingEntry tid
  else s.sendPacket pos 0x0402 seq ([1, byte op] ++ le 2 tid)

/-- A tunnel in the books. -/
def State.book (s : State) (t : Nat) : Option BookEntry := Table.get (fun _ => none) s.tun.books t

/-- The machine with it replaced, or gone: the charges follow. -/
def State.setBook (s : State) (t : Nat) (e : Option BookEntry) : State :=
  s.withTun fun n => { n with books := Table.set (fun _ => none) n.books t e }

/-- The phase of tunnel t. -/
def State.phaseOf (s : State) (t : Nat) : Option Phase := s.tun.phases.find? fun p => p.tid == t

/-- The machine with tunnel t's phase replaced, or gone. -/
def State.setPhase (s : State) (t : Nat) (p : Option Phase) : State :=
  s.withTun fun n => { n with phases := (n.phases.filter fun q => q.tid != t) ++ p.toList }

/-- The next SEQ of the root's own packets. -/
def State.nextSeq (s : State) : Nat × State :=
  let k := (s.tun.seq + 1) % 65536
  (k, s.withTun fun n => { n with seq := k })

/-- The two ends and any taps (R209). -/
def BookEnds (e : BookEntry) : List Nat := [e.posA, e.posB] ++ e.taps

/-- Answers the host's request of a phase, where there is one. -/
def State.answerPhase (s : State) (p : Phase) (status : Nat) (params : Bytes := []) : State :=
  match p.req with
  | some r => s.answer r status params
  | none => s

/-- A phase is begun: packets go to the positions other than the root's own, whose part is done at once. -/
def State.beginPhase (s : State) (kind : PhaseKind) (tid : Nat) (req : Option Request) (entry : Option BookEntry)
    (retune : Option (Rates × Nat)) (positions : List Nat) (send : State → Nat → Nat → State)
    (staged : List Nat := []) : State :=
  let (k, s) := s.nextSeq
  let s := positions.foldl (fun s p => send s k p) s
  s.setPhase tid (some { kind := kind, tid := tid, seq := k, req := req, waiting := positions.filter (· != 0)
                         ok := positions.filter (· == 0), staged := staged, entry := entry
                         retune := retune })

/-- A phase has all its answers, or its time has run out: the next one begins or the command ends (R209, R212,
R213). -/
def State.endPhase (s : State) (p : Phase) : State :=
  let failed := match p.failed with
    | some c => some c
    | none => if p.waiting == [] then none else some Status.timeout
  let t := p.tid
  let rollback (s : State) : State :=
    let (k, s) := s.nextSeq
    ((p.staged ++ p.ok).eraseDups.foldl (fun (s : State) q => s.sendClose t k 1 q) s).setPhase t none
  match p.kind, p.entry, failed with
  | .stage, some e, none =>
    s.beginPhase .open_ t p.req (some e) none
      (if p.req.isSome then BookEnds e else (BookEnds e).filter p.ok.contains) (fun s k q => s.sendInstall e t k 1 q) p.ok
  | .open_, some e, none => (s.setPhase t none).answerPhase p Status.ok (le 2 t ++ [byte e.gen])
  | .stage, _, some c | .open_, _, some c =>
    if p.req.isSome then ((rollback s).setBook t none).answerPhase p c else s.setPhase t none
  | .closing, some e, _ => s.setPhase t (some { p with kind := .drain, waiting := [], entry := some e })
  | .remove, _, _ => ((s.setBook t none).setPhase t none).answerPhase p Status.ok
  | .prepare, some e, none =>
    match p.retune with
    | some (r, at_) =>
      let e := { e with rates := r, gen := (e.gen + 1) % 256, retune := some (e.rates, at_) }
      ((s.setBook t (some e)).setPhase t none).answerPhase p Status.ok
        ([byte e.gen] ++ le 6 (at_ / 1000000000) ++ le 4 (at_ % 1000000000))
    | none => s.setPhase t none
  | .prepare, _, some c =>
    let (k, s) := s.nextSeq
    let s := p.ok.foldl (fun (s : State) q =>
      if q == 0 then s.setTunInfo t { s.tunInfo t with prep := none }
      else s.sendPacket q 0x0401 k ([2, 0] ++ le 2 t)) s
    (s.setPhase t none).answerPhase p c
  | _, _, _ => s

/-- With no phase of tunnel t under way, its entry is installed again at the next position that waits for it (R192). -/
def State.reinstallNext (s : State) (t : Nat) : State :=
  match s.phaseOf t, s.tun.reinstall.find? (fun x => x.1 == t) with
  | none, some (_, p) =>
    let s := s.withTun fun n => { n with reinstall := n.reinstall.filter (· != (t, p)) }
    match s.book t with
    | some e =>
      if p != 0 && (s.chargedPositions e).contains p then
        s.beginPhase .stage t none (some e) none [p] fun s k q => s.sendInstall e t k 0 q
      else s
    | none => s
  | _, _ => s

/-- Phases without a position left to wait for end at once, and a reinstallation that waited begins. -/
def State.settlePhase (s : State) (t : Nat) : State :=
  let s : State := match s.phaseOf t with
    | some p =>
      if p.waiting == [] && p.kind != .drain then
        let s := s.endPhase p
        match s.phaseOf t with
        | some q => if q.waiting == [] && q.kind != .drain && q.kind != p.kind then s.endPhase q else s
        | none => s
      else s
    | none => s
  s.reinstallNext t

/-- A Damya's reply to a packet of the root's Scribe (R209). -/
def State.hopReply (s : State) (pos : Nat) (b : Bytes) : State :=
  let q := parsePacket b
  match s.tun.phases.find? (fun p => p.seq == q.seq && p.waiting.contains pos) with
  | none => s
  | some p =>
    let good := q.status == Status.ok
    let p := { p with waiting := p.waiting.filter (· != pos), ok := if good then p.ok ++ [pos] else p.ok
                      failed := if good || p.failed.isSome then p.failed else some q.status }
    (s.setPhase p.tid (some p)).settlePhase p.tid

/-- HOP_REPLY_RECEIVED. -/
def execHopReplyReceived (position : Fin 33) (bytes : Bytes) (s : State) : Out :=
  onHub (fun s => s.hopReply position.val bytes) s

/-- INSTALL_PHASE_TIMEOUT (R209, R213). -/
def execInstallPhaseTimeout (tid : Fin 1024) (s : State) : Out :=
  onHub (fun s => match s.phaseOf tid.val with
    | some p => if p.kind == .drain then s else (s.endPhase p).settlePhase tid.val
    | none => s) s

/-- TUNNEL_DRAIN_END (R212): the entries are removed. -/
def execTunnelDrainEnd (tid : Fin 1024) (s : State) : Out :=
  onHub (fun s => match s.phaseOf tid.val with
    | some p => match p.kind, p.entry with
      | .drain, some e =>
        (s.beginPhase .remove tid.val p.req (some e) none (s.chargedPositions e)
          (fun s k q => s.sendClose tid.val k 1 q)).settlePhase tid.val
      | _, _ => s
    | none => s) s

/-! The books (R204, R207, R208) -/

/-- A unit and SUB exist at a position and accept a type (R201). -/
def unitTakes (pos unit sub ttype : Nat) : Bool :=
  let pcie := ttype == 0 || ttype == 4
  if unit == 0x10 then pos == 0 && pcie && sub ≤ 63
  else if unit == 0x11 || unit == 0x12 then pos != 0 && pcie && sub == 0
  else if unit == 0x13 then pos != 0 && pcie && sub ≤ 4
  else if 0x20 ≤ unit && unit ≤ 0x27 then ttype == 1 && sub == 0
  else unit == 0x28 && pos != 0 && ttype == 1 && sub ≤ 7

/-- The books' tunnels. -/
def State.bookList (s : State) : List BookEntry := s.tun.books.filterMap (·.2)

/-- The ends of a tunnel: position, unit, SUB. -/
def bookEnds3 (e : BookEntry) : List (Nat × Nat × Nat) := [(e.posA, e.unitA, e.subA), (e.posB, e.unitB, e.subB)]

/-- What R289 allows beside the tunnels there are: one PCIE tunnel and one SIDEBAND tunnel on a station root port, one
PCIE tunnel for each SUB and one SIDEBAND tunnel on SUB 3 of a station function, and one far end for each virtual
downstream port. -/
def State.bindingFits (s : State) (e : BookEntry) : Bool :=
  let others := s.bookList
  let far (x : BookEntry) (v : Nat) : Option (Nat × Nat) :=
    if (x.posA, x.unitA, x.subA) == (0, 0x10, v) then some (x.posB, x.unitB)
    else if (x.posB, x.unitB, x.subB) == (0, 0x10, v) then some (x.posA, x.unitA) else none
  (bookEnds3 e).all fun (pos, unit, sub) =>
    if unit == 0x11 || unit == 0x12 then
      !others.any fun x => x.ttype == e.ttype && (bookEnds3 x).contains (pos, unit, sub)
    else if unit == 0x13 then
      (e.ttype != 4 || sub == 3) && !others.any fun x => x.ttype == e.ttype && (bookEnds3 x).contains (pos, unit, sub)
    else if unit == 0x10 && (e.ttype == 0 || e.ttype == 4) then
      others.all fun x => (x.ttype != 0 && x.ttype != 4) || far x sub == none || far x sub == far e sub
    else true

/-- The request's tunnel (R207). -/
def bookOf (p : Bytes) : BookEntry :=
  { ttype := leAt p 1 1, cls := leAt p 2 1, ringProt := bit (leAt p 3 1) 0, posA := leAt p 6 1, posB := leAt p 7 1
    unitA := leAt p 8 1, subA := leAt p 9 1, unitB := leAt p 10 1, subB := leAt p 11 1
    taps := if bit (leAt p 3 1) 1 then ((slice p 36 8).map (·.toNat)).filter (· != 0xFF) else []
    rates := Rates.ofBytes (slice p 12 24) }

/-- The fields lie within their values and keep R201, R202, R208 and R289. -/
def State.createValid (s : State) (p : Bytes) (e : BookEntry) : Bool :=
  let tid := leAt p 4 2
  let between (q : Nat) : Bool := min e.posA e.posB < q && q < max e.posA e.posB
  s.positionHeld e.posA && s.positionHeld e.posB &&
  e.ttype ≤ 4 && e.cls ≤ 3 && leAt p 3 1 ≤ 3 && (tid == 0xFFFF || (2 ≤ tid && tid ≤ 1023)) && e.posA ≤ 32 &&
    e.posB ≤ 32 && e.posA != e.posB && unitTakes e.posA e.unitA e.subA e.ttype &&
    unitTakes e.posB e.unitB e.subB e.ttype && e.rates.valid &&
    (e.taps == [] || (e.ttype == 1 && !e.ringProt && e.taps.all between)) &&
    ((bookEnds3 e).all fun (_, u, sub) => !(e.ttype == 0 && u == 0x13 && sub ≤ 1 && e.cls != 1)) && s.bindingFits e

/-- The sum of the rates charged on a link direction, over all classes and over EXPRESS alone (R203, R204). -/
def chargeSums (l : List BookEntry) (ring : Bool) (n i : Nat) (south : Bool) : Nat × Nat :=
  l.foldl (fun (acc : Nat × Nat) e =>
    let c := e.charge.on ring n i south
    (acc.1 + c, if e.cls == 0 then acc.2 + c else acc.2)) (0, 0)

/-- R204 for a tunnel beside the others. -/
def State.admits (s : State) (others : List BookEntry) (e : BookEntry) : Bool :=
  let pct := s.rd Reg.TUN_LIMIT_ADMIT_PCT
  let pct := if pct < 50 || 95 < pct then 90 else pct
  let ex := min 24 (s.rd Reg.TUN_LIMIT_EXPRESS_PCT)
  (List.range 33).all fun i => [true, false].all fun south =>
    let c := e.charge.on s.ring s.tun.n i south
    if c == 0 then true
    else
      let (a, x) := chargeSums (e :: others) s.ring s.tun.n i south
      (a + 1000) * 100 ≤ 200840 * pct && (x + 1000) * 100 ≤ 200840 * ex

/-- A route joins A and B under the present cuts, and every position on the path is held (R208); a tapped tunnel keeps to the
chain direction (R202). -/
def State.reachable (s : State) (e : BookEntry) : Bool :=
  let lo := min e.posA e.posB
  let hi := max e.posA e.posB
  (chainPath e.posA e.posB).all s.positionHeld && hi ≤ s.tun.n &&
    (!s.cutIn lo hi || (s.ring && e.taps == [] && !s.cutIn hi (s.tun.n + 1) && !s.cutIn 0 lo))

/-- TUNNEL_CREATE (R207 to R209). -/
def execTunnelCreate (r : Request) (s : State) : Out :=
  runCommand 0x0400 (fun r s => (takes 44 fun p s =>
    let e := bookOf p
    let want := leAt p 4 2
    let used (t : Nat) : Bool := (s.book t).isSome || (s.phaseOf t).isSome
    let tid := if want == 0xFFFF then (((List.range 1022).map (· + 2)).find? fun t => !used t) else some want
    if !s.createValid p e then .fail s Status.badParam
    else match tid with
      | none => .fail s Status.noResource
      | some t =>
        if used t then .fail s Status.exists_
        else if !s.admits s.bookList e then .fail s Status.noBandwidth
        else if !s.reachable e then .fail s Status.unreachable
        else
          let (units, s) := s.freeBytes e.taps.length
          let e := { e with tapUnits := units.map (·.toNat) }
          let s := s.setBook t (some e)
          .later ((s.beginPhase .stage t (some r) (some e) none (s.chargedPositions e)
            (fun s k q => s.sendInstall e t k 0 q)).settlePhase t)) r s) (requestWithByte r 0 0) s

/-- TUNNEL_DESTROY (R212). -/
def execTunnelDestroy (r : Request) (s : State) : Out :=
  runCommand 0x0402 (fun r s => (takes 4 fun p s =>
    let t := leAt p 2 2
    if t < 2 || 1023 < t then .fail s Status.badParam
    else if (s.phaseOf t).isSome then .fail s Status.busy
    else match s.book t with
      | none => .fail s Status.notFound
      | some e => .later ((s.beginPhase .closing t (some r) (some e) none (BookEnds e)
          (fun s k q => s.sendClose t k 0 q)).settlePhase t)) r s) (requestWithByte r 0 0) s

/-- A tunnel's retune has not yet reached T_apply. -/
def State.retunePending (s : State) (e : BookEntry) : Bool :=
  match e.retune with
  | some (_, at_) => decide (s.reading < (at_ * 65536 : Nat))
  | none => false

/-- TUNNEL_RETUNE (R213). -/
def execTunnelRetune (r : Request) (s : State) : Out :=
  runCommand 0x0401 (fun r s => (takes 28 fun p s =>
    let t := leAt p 2 2
    let x := Rates.ofBytes (slice p 4 24)
    if t < 2 || 1023 < t || !x.valid then .fail s Status.badParam
    else match s.book t with
      | none => .fail s Status.notFound
      | some e =>
        let others := (s.tun.books.filter fun b => b.1 != t).filterMap (·.2)
        if (s.phaseOf t).isSome || s.retunePending e || (s.tunInfo t).prep.isSome then .fail s Status.busy
        else if !s.admits others { e with rates := x } then .fail s Status.noBandwidth
        else
          let at_ := (s.reading / (65536 : Int)).toNat + 1000000
          .later ((s.beginPhase .prepare t (some r) (some e) (some (x, at_)) (s.chargedPositions e) (fun s k q =>
            if q == 0 then s.prepareRetune t x at_
            else s.sendPacket q 0x0401 k ([1, 0] ++ le 2 t ++ x.bytes ++ le 6 (at_ / 1000000000) ++
              le 4 (at_ % 1000000000) ++ [0, 0]))).settlePhase t)) r s) (requestWithByte r 0 0) s

/-- The 108 bytes that follow the entry image in the root's reply (R211), `old` and `new` the rates in force and those of a
pending retune with its time. -/
def queryTail (old : Rates) (taps path : List Nat) (round : Bool) (new : Option (Rates × Nat)) : Bytes :=
  let at_ := (new.map (·.2)).getD 0
  old.bytes ++ tapBytes taps ++ [byte path.length, byte (b2n round + 2 * b2n new.isSome), 0, 0] ++
    (path.map byte ++ List.replicate 33 0xFF).take 33 ++ zeros 3 ++ le 6 (at_ / 1000000000) ++ le 4 (at_ % 1000000000) ++
    zeros 2 ++ ((new.map fun x => x.1.bytes).getD (zeros 24))

/-- TUNNEL_QUERY (R211).  TID 0 and TID 1 have no rates and no taps, and no two ends on a chain: their path is a free value of
2 to 33 positions (log entry 69). -/
def execTunnelQuery (r : Request) (s : State) : Out :=
  runCommand 0x0403 (takes 2 fun p s =>
    let t := leAt p 0 2
    if t > 1023 || !s.tidValid t then .fail s Status.notFound
    else if !s.isRoot then .ok s (s.entryImage t)
    else match s.book t with
      | none =>
        let (k, u) := s.free 5
        let (path, u) := u.freeBytes (k + 2)
        .ok u (s.entryImage t ++ queryTail { cbsAb := 0, cbsBa := 0, pbsAb := 0, pbsBa := 0 } []
          (path.map fun b => b.toNat % 33) false none)
      | some e =>
        let path := chainPath e.posA e.posB
        let round := s.ring && e.charge.round
        match s.retunePending e, e.retune with
        | true, some (old, at_) => .ok s (s.entryImage t ++ queryTail old e.taps path round (some (e.rates, at_)))
        | _, _ => .ok s (s.entryImage t ++ queryTail e.rates e.taps path round none)) r s

/-! Records as rows -/

/-- ASSIGN (R191). -/
def execAssignRecord (t : Fin 2) (record : Bytes) (hop : BitVec 6) (s : State) : Out :=
  onHub (fun s => let _ := hop; (s.count 0x056).assigned t.val record) s

/-- An ANNOUNCE at the root (R192): it is counted and reported, and the entries the books hold for the position are
installed again. -/
def State.announced (s : State) (b : Bytes) : State :=
  if !s.isRoot then s
  else
    let p := leAt b 1 1
    let id := leAt b 2 4
    let s := s.withTun fun n => { n with announced := Table.insert p id n.announced }
    let s := (s.wr Reg.TUN_LINE_STATIONS s.tun.announced.length).notice 0x0403 (byte p :: le 4 id)
    s.tun.books.foldl (fun (s : State) x => match x.2 with
      | some e =>
        if (s.chargedPositions e).contains p then
          (s.withTun fun n => { n with reinstall := (n.reinstall.filter (· != (x.1, p))) ++ [(x.1, p)] }).reinstallNext x.1
        else s
      | none => s) s

/-- ANNOUNCE (R192): a station sends it on along its route. -/
def execAnnounceRecord (t : Fin 2) (record : Bytes) (hop : BitVec 6) (s : State) : Out :=
  onHub (fun s => let _ := t
    if s.isRoot then (s.count 0x056).announced record else s.sendRecord none 0 record hop.toNat) s

/-- HEAL (R197). -/
def execHealRecord (t : Fin 2) (record : Bytes) (hop : BitVec 6) (s : State) : Out :=
  onHub (fun s => s.healed t.val record hop.toNat true) s

/-- ROUTE_CHANGE (R195). -/
def execRouteChange (t : Fin 2) (record : Bytes) (hop : BitVec 6) (s : State) : Out :=
  onHub (fun s => s.changeRecord t.val record hop.toNat true) s

/-- CLEAR (R192, R193). -/
def execClearRecord (t : Fin 2) (record : Bytes) (hop : BitVec 6) (s : State) : Out :=
  onHub (fun s => s.clearReceived t.val record hop.toNat true) s

/-- A line record that the crossbar hands to the tunnel engine; the switch core has replicated it (R190, R241). -/
def State.recordDelivered (s : State) (t : Nat) (g : Segment) : State :=
  match leAt g.payload 0 1 with
  | 0xE1 => (s.count 0x056).assigned t g.payload
  | 0xE2 => (s.count 0x056).announced g.payload
  | 0xE3 => s.healed t g.payload g.hop false
  | 0xE4 => s.changeRecord t g.payload g.hop false
  | 0xE5 => s.clearReceived t g.payload g.hop false
  | _ => s

/-! Route changes (R195, R196) -/

/-- The far end of a tunnel of which this Damya is an end. -/
def State.farEnd (s : State) (t : Nat) : Nat :=
  if s.tidRole t == 1 then s.rd (Reg.TUN_ENTRY_W0_POS_B t) else s.rd (Reg.TUN_ENTRY_W0_POS_A t)

/-- A route change is applied: N and the ring flag, or a cut bit; the ingress of each tunnel that gains a new route
pauses (R196). -/
def State.applyChange (s : State) (c : RouteChange) : State :=
  let ends := s.validTids.filter fun t => 2 ≤ t && (s.tidRole t == 1 || s.tidRole t == 2)
  let old := ends.map fun t => (t, s.tunnelRoute t (s.farEnd t))
  let s := s.withTun fun n => { n with pendingChanges := n.pendingChanges.filter fun x => x.number != c.number }
  let s :=
    if c.op == 2 then
      let s := (s.withTun fun n => { n with n := c.value }).put Reg.TUN_CTRL_RING c.ring
      (if s.isRoot then s else s.wr Reg.TUN_LINE_STATIONS c.value).rerouted
    else if c.value > 32 then s
    else if c.op == 0 then
      if bit s.cutSet c.value then s else (s.setCut c.value true).notice 0x0401 [byte c.value, 1]
    else if c.op == 1 then
      if bit s.cutSet c.value then
        ((s.setCut c.value false).withTun fun n => { n with heals := n.heals.filter fun h => h.1 != c.value }).notice
          0x0402 [byte c.value, 1]
      else s
    else s
  let moved := (old.filter fun x => s.tunnelRoute x.1 (s.farEnd x.1) != x.2).map (·.1)
  s.withTun fun n => { n with paused := n.paused ++
    (moved.filter fun t => !n.paused.any (·.1 == t)).map fun t => (t, s.mer.raw) }

/-- ROUTE_CHANGE_APPLY (R195): Meridian has reached T_r. -/
def execRouteChangeApply (number : BitVec 16) (s : State) : Out :=
  onHub (fun s => match s.tun.pendingChanges.find? (fun c => c.number == number.toNat) with
    | some c => if ((c.at_ * 65536 : Nat) : Int) ≤ s.reading then s.applyChange c else s
    | none => s) s

/-- ROUTE_PAUSE_END (R196). -/
def execRoutePauseEnd (tid : Fin 1024) (s : State) : Out :=
  onHub (fun s => s.withTun fun n => { n with paused := n.paused.filter (·.1 != tid.val) }) s

/-- The root sends a route change and keeps it for itself (R195); the reply carries its number and T_r. -/
def State.sendChange (s : State) (op value ring : Nat) : State × Bytes :=
  let k := (s.tun.changeNumber + 1) % 65536
  let at_ := (s.reading / (65536 : Int)).toNat + 1000000
  let time := le 6 (at_ / 1000000000) ++ le 4 (at_ % 1000000000)
  let b : Bytes := [0xE4, byte op, byte value, byte ring] ++ time ++ le 2 k
  let s := (s.withTun fun n => { n with changeNumber := k }).keepChange b
  ((s.sendRecord (some 0) 63 b).sendRecord (some 1) 63 b, le 2 k ++ time)

/-- Any host tunnel exists (R193, R195). -/
def State.hostTunnels (s : State) : Bool := s.bookList != [] || s.validTids.any fun t => 2 ≤ t

/-- ROUTE_SET op LINE (R195). -/
def execRouteSetLine (r : Request) (s : State) : Out :=
  runCommand 0x0404 (takes 4 fun p s =>
    let n := leAt p 1 1
    let ring := leAt p 2 1
    if !s.isRoot then .fail s Status.denied
    else if n == 0 || 32 < n || 1 < ring then .fail s Status.badParam
    else if ring == 1 && !s.linkActive 1 then .fail s Status.unreachable
    else if ring == 1 && s.rd (Reg.TLK_STAT_PEER_POS 1) != n then
      .fail (s.notice 0x0404 [byte n, byte (s.rd (Reg.TLK_STAT_PEER_POS 1))]) Status.badParam
    else if s.hostTunnels && (n < s.tun.n || (s.ring && ring == 0)) then .fail s Status.busy
    else
      let (s, b) := s.sendChange 2 n ring
      .ok s b) (requestWithByte r 0 2) s

/-- The two other operations of ROUTE_SET. -/
def routeSetLink (op : Nat) : Bytes → State → Answer := fun p s =>
  if !s.isRoot then .fail s Status.denied
  else if 32 < leAt p 1 1 then .fail s Status.badParam
  else
    let (s, b) := s.sendChange op (leAt p 1 1) 0
    .ok s b

/-- ROUTE_SET op CUT. -/
def execRouteSetCut (r : Request) (s : State) : Out :=
  runCommand 0x0404 (takes 4 (routeSetLink 0)) (requestWithByte r 0 0) s

/-- ROUTE_SET op RESTORE. -/
def execRouteSetRestore (r : Request) (s : State) : Out :=
  runCommand 0x0404 (takes 4 (routeSetLink 1)) (requestWithByte r 0 1) s

/-- POSITION_SET op ASSIGN (R193): the reply follows 1 ms later. -/
def execPositionSetAssign (r : Request) (s : State) : Out :=
  runCommand 0x0107 (fun r s =>
    if !s.isRoot then .fail s Status.denied
    else .later ((s.sendAssign 0 1).withTun fun n => { n with assignWaiters := n.assignWaiters ++ [r] }))
    (requestWithByte r 0 0) s

/-- POSITION_SET op CLEAR (R193). -/
def execPositionSetClear (r : Request) (s : State) : Out :=
  runCommand 0x0107 (fun _ s =>
    if !s.isRoot then .fail s Status.denied
    else if s.hostTunnels then .fail s Status.busy
    else if s.ink.drbgBad then .fail s Status.hwError
    else
      let s := (s.floodClear 0).applyClear 0
      .ok (s.withTun fun n => { n with announced := [], assignDue := s.setting 0x0003 == 1 }))
    (requestWithByte r 0 1) s

/-- POSITION_ASSIGN_DELAY_END (R193): the 1 ms after a CLEAR flood or after an ASSIGN has passed. -/
def execPositionAssignDelayEnd (s : State) : Out :=
  onHub (fun s =>
    let s := if s.tun.assignDue then s.sendAssign 0 1 else s
    let w := s.tun.assignWaiters
    let s := s.withTun fun n => { n with assignDue := false, assignWaiters := [] }
    w.foldl (fun s r => s.answer r Status.ok [byte (s.rd Reg.TUN_LINE_STATIONS)]) s) s

/-! Links that come and go (R191, R192, R197, R199) -/

/-- The cells queued for a dead trunk are discarded and counted (R197). -/
def State.flushTrunk (s : State) (t : Nat) : State :=
  let ids := (s.sw.held.filterMap fun e => match e.2 with
    | some h => if h.dests.any (fun o => o / 2 == t && o < 4 && !(s.crossingAt e.1).contains o) then some (e.1, h) else none
    | none => none)
  ids.foldl (fun (s : State) x =>
    let (id, h) := x
    let outs := h.dests.filter fun o => o / 2 == t && o < 4 && !(s.crossingAt id).contains o
    let s := s.count 0x055 h.cells
    let s := outs.foldl (fun (s : State) o =>
      let s := if h.dests.length == 1 then s.dequeueSeg h.input o h.cls id h.cells
        else s.setResidue h.input ((s.residue h.input).filter fun r => !(r.id == id && r.output == o))
      s.copyGone id o) (s.cometEnd id 7)
    match s.seg? id with
    | some _ => s
    | none => if (s.mcq h.input h.cls).contains id then
        (s.setMcq h.input h.cls ((s.mcq h.input h.cls).filter (· != id))).setMcDepth h.input h.cls
          (s.mcDepth h.input h.cls - h.cells)
      else s) s

/-- The cut index of the link that trunk t meets, when this Damya is on the line. -/
def State.cutIndex (s : State) (t : Nat) : Option Nat :=
  if !s.placed || (s.isRoot && t == 1 && s.tun.n == 0) then none else some (s.linkOf t).1

/-- CUT_DEBOUNCE_END (R197): the link has stayed DOWN for HEAL_DEB_US. -/
def execCutDebounceEnd (t : Fin 2) (s : State) : Out :=
  onHub (fun s =>
    if s.rd (Reg.TLK_STAT_LSTATE t) != 0 || !(s.link t).served then s
    else
      let s := (s.withLink t fun l => { l with served := false }).flushTrunk t
      match s.cutIndex t with
      | none => s
      | some i =>
        let s := (if bit s.cutSet i then s else s.setCut i true).notice 0x0401 [byte i, 0]
        let s := s.sendRecord (some (1 - t.val)) 63 [0xE3, byte i, byte s.position, 0]
        s.withTun fun n => { n with repeats := (n.repeats.filter fun x => x.2.1 != 1 - t.val) ++ [(i, 1 - t.val, 1)] }) s

/-- HEAL_REPEAT (R197): the record goes out of trunk t again with the next repeat number. -/
def execHealRepeat (t : Fin 2) (s : State) : Out :=
  onHub (fun s => match s.tun.repeats.find? (fun x => x.2.1 == t.val) with
    | none => s
    | some (i, u, k) =>
      let s := s.sendRecord (some u) 63 [0xE3, byte i, byte s.position, byte k]
      let rest := s.tun.repeats.filter fun x => x.2.1 != u
      s.withTun fun n => { n with repeats := if k < 2 then rest ++ [(i, u, k + 1)] else rest }) s

/-- The link of trunk t reaches ACTIVE (R191, R192, R199). -/
def State.lineUp (s : State) (t : Nat) : State :=
  let s := match s.cutIndex t with
    | some i => if bit s.cutSet i then s.notice 0x0402 [byte i, 0] else s
    | none => s
  let peer := s.rd (Reg.TLK_STAT_PEER_POS t)
  if s.isRoot then
    if t != 0 then s
    else
      let first := !s.tun.cleared
      let s := if first then (s.floodClear 1).withTun fun n => { n with cleared := true } else s
      if s.setting 0x0003 == 1 && (first || peer == 63) then s.sendAssign 0 1 else s
  else if t == 1 && s.position != 0 && s.position < 32 && peer == 63 && s.mode != 0 then s.sendAssign 1 (s.position + 1)
  else s

/-- The entry of TID 0 or TID 1 exists from boot (R182). -/
def State.baseTunnel (s : State) (t : Nat) : State :=
  let s := ((s.put (Reg.TUN_ENTRY_W0_VALID t) true).wr (Reg.TUN_ENTRY_W0_STATE t) 1).wr (Reg.TUN_ENTRY_W0_TTYPE t) (2 + t)
  (s.wr (Reg.TUN_ENTRY_W1_UNIT t) t).wr (Reg.TUN_ENTRY_W1_ROLE t) 1

/-- At boot the entries of TID 0 and TID 1 exist (R182). -/
def State.baseTunnels (s : State) : State := (s.baseTunnel 0).baseTunnel 1

end Sys2Proof.Machine
end

