-- ==== Sys2Proof/Machine/Pcie.lean ====
section
/-!
DEFINITION. The PCI Express ports, the virtual switch's routing and prefetching, the lock, sideband messages received, and
the station function's requesters (R284 to R317).
-/

namespace Sys2Proof.Machine

/-- Port units wrap foreign traffic: in service, and not in an entry to IDLE or STANDBY (R30, R545). -/
def State.wrapping (s : State) : Bool := s.inService && !s.inEntry

/-- A TLP leaves on the link of port n, or at the root on the x8 link. -/
def State.toLink (s : State) (n : Nat) (b : Bytes) : State := s.emit (.pcie (if s.isRoot then 2 else n) "TLP" [] b)

/-- The register block of port n: at the root the PCIE0 block. -/
def State.pcieBlock (s : State) (n : Nat) : Nat := if s.isRoot then 0 else n

/-! The egress toward a link: the park (R300, R301) -/

/-- PARK_USED follows the park. -/
def State.setPark (s : State) (n : Nat) (l : List Bytes) : State :=
  (s.withSide n fun x => { x with park := l }).wr (Reg.PCIE_NP_PARK_USED n) l.length

/-- A non-posted request goes to the link while the partner has credit for it and none is parked; else it is parked. -/
def State.sendNonPosted (s : State) (n : Nat) (b : Bytes) : State :=
  let x := s.side n
  if 0 < x.credit && x.park == [] then (s.withSide n fun x => { x with credit := x.credit - 1 }).toLink n b
  else (s.setPark n (x.park ++ [b])).count (0x132 + 8 * n)

/-- A TLP leaves the crossbar toward a link. -/
def State.egressTlp (s : State) (n : Nat) (b : Bytes) : State :=
  if tlpNonPosted b then s.sendNonPosted n b else s.toLink n b

/-- The park of port n is full. -/
def State.parkFull (s : State) (n : Nat) : Bool := s.rd (Reg.PCIE_NP_PARK_SIZE n) ≤ (s.side n).park.length

/-- Parked requests leave in arrival order as credit allows. -/
def State.unpark (n : Nat) : Nat → State → State
  | 0, s => s
  | k + 1, s =>
    match (s.side n).park with
    | [] => s
    | b :: rest =>
      if (s.side n).credit == 0 then s
      else
        let s := s.withSide n fun x => { x with credit := x.credit - 1 }
        State.unpark n k ((s.setPark n rest).toLink n b)

/-- NP_CREDIT_RETURN (R300): the link partner of port n returns credit for k non-posted requests. -/
def execNpCreditReturn (n : Fin 2) (k : Nat) (s : State) : Out :=
  onHub (fun s =>
    let n := s.pcieBlock n.val
    State.unpark n 2048 (s.withSide n fun x => { x with credit := x.credit + k })) s

/-! The mailbox region in BAR0 (R54 to R57, R288) -/

/-- A byte of BAR0. -/
def State.barByte (s : State) (a : Nat) : Byte :=
  let word (w : Nat) (k : Nat) : Byte := byte (w / 2 ^ (8 * k))
  if a < 4 then word (2 * b2n s.cmd.mbxIrqEn) a
  else if a < 8 then
    word (s.cmd.mbxReplyLen * 65536 + 4 * b2n s.cmd.mbxOverrun + 2 * b2n s.cmd.mbxDone + b2n s.cmd.mbxBusy) (a - 4)
  else if a < 12 then word (if s.isRoot then s.cmd.mbxTarget else 0) (a - 8)
  else if 0x40 ≤ a && a < 0x10A0 then Table.get (fun _ => 0) s.cmd.mbxRequest (a - 0x40)
  else if 0x2000 ≤ a && a < 0x3060 then Table.get (fun _ => 0) s.cmd.mbxReply (a - 0x2000)
  else 0

/-- Bytes of BAR0 are written; the registers act once the buffer bytes of the same write stand. -/
def State.barWrite (s : State) (a : Nat) (d : Bytes) : State :=
  let hit (r : Nat) : Option Nat := if a ≤ r && r < a + d.length then some (leAt d (r - a) 1) else none
  let s := d.zipIdx.foldl (fun (s : State) e =>
    let k := a + e.2
    if 0x40 ≤ k && k < 0x10A0 then
      s.withCmd fun c => { c with mbxRequest := Table.set (fun _ => 0) c.mbxRequest (k - 0x40) e.1 }
    else s) s
  let s := match hit 8 with
    | some v => if s.isRoot then s.withCmd fun c => { c with mbxTarget := v % 64 } else s
    | none => s
  let s := match hit 4 with
    | some v =>
      let s := if bit v 2 then s.withCmd fun c => { c with mbxOverrun := false } else s
      if bit v 1 && s.cmd.mbxDone then (s.withCmd fun c => { c with mbxDone := false }).handOver .mailbox else s
    | none => s
  match hit 0 with
  | some v => if bit v 0 then s.mailboxGo (bit v 1) else s.withCmd fun c => { c with mbxIrqEn := bit v 1 }
  | none => s

/-- The address lies in function 0's BAR0 of 64 KiB; answers the offset. -/
def State.inBar (s : State) (a : Nat) : Option Nat :=
  let base := s.cfgStored 0 4 / 65536 * 65536 + s.cfgStored 0 5 * 2 ^ 32
  if bit (s.cfgStored 0 1) 1 && base ≤ a && a < base + 65536 then some (a - base) else none

/-! Completions Damya makes -/

/-- Completions with data: split at Max_Payload_Size boundaries. -/
def readCompletions (locked : Bool) (completer maxp : Nat) (req : Bytes) : Nat → Nat → Bytes → List Bytes
  | 0, _, _ => []
  | k + 1, a, d =>
    if d == [] then []
    else
      let n := min d.length (orOne maxp - a % orOne maxp)
      completionTlp locked completer 0 req d.length a (some (d.take n)) ::
        readCompletions locked completer maxp req k (a + n) (d.drop n)

/-- A function answers a request with data or with a status. -/
def State.functionAnswer (s : State) (req : Bytes) (data : Option Bytes) (status : Nat) : List Bytes :=
  match data with
  | some d =>
    let a := match tlpKind req with
      | .memRead | .memReadLk => tlpAddr req
      | _ => 0
    (readCompletions false s.pcie.self s.maxPayload req 64 a d).map s.sealTlp
  | none => [s.sealTlp (statusCpl s.pcie.self status req)]

/-! Configuration requests (R288, R292, R313) -/

/-- A lane's margining command is answered in the upper half of its dword: the receiver, type and usage model that it names,
with No Command's own payload, or a free one where the result is the link's (log entry 21). -/
def State.marginStep (s : State) (f d new : Nat) : State :=
  let c := new % 65536
  if bits c 5 3 == 7 then s.setCfg f d (c + c * 65536)
  else
    let (p, s) := s.free 8
    s.setCfg f d (c + (c % 128 + 256 * p) * 65536)

/-- Vectors whose mask bit has been cleared are sent, and their pending bits go (R294). -/
def State.msiUnmasked (s : State) : State :=
  let mask := s.cfgStored 0 (capMsi + 4)
  let n (v : Nat) : Nat := v % 2 ^ bits (s.cfgStored 0 capMsi) 22 20
  let due := s.pcie.pendingMsi.filter fun v => !bit mask (n v)
  let s := s.withPcie fun p => { p with pendingMsi := p.pendingMsi.filter fun v => bit mask (n v) }
  let s := s.setCfg 0 (capMsi + 5) (s.cfgStored 0 (capMsi + 5) &&& mask)
  due.foldl (fun (s : State) v => s.sendMsi v) s

/-- What writing a dword of function f's configuration space changes beside its bits (R295, R297, R312, R313). -/
def State.cfgSide (s : State) (f d old new : Nat) : State :=
  let rises (k : Nat) : Bool := bit new k && !bit old k
  let s := if isMargin (s.cfgClass f) d then s.marginStep f d new else s
  match s.cfgClass f with
  | 1 =>
    let v := f - 1
    let s := if d == 0xF && rises 22 then s.setVdp v { s.vdp v with hotResets := ((s.vdp v).hotResets + 1) % 256 } else s
    let s := if d == capPcie + 4 && bit new 5 then
        (s.setVdp v { s.vdp v with retrains := ((s.vdp v).retrains + 1) % 256 }).setCfg f d (clearBit new 5)
      else s
    if d == 0xF || d == capPcie + 4 || d == capPcie + 6 || d == capPcie + 12 then s.sendControl v else s
  | 2 =>
    let s := if d == 1 then s.put Reg.SFN_CTRL_BME (bit new 2) else s
    let s := if d == capPcie + 10 then s.put Reg.SFN_CTRL_TAG10 (bit new 12) else s
    let s := if d == capMsi then (s.put Reg.SFN_STAT_MSI_EN (bit new 16)).wr Reg.SFN_STAT_MSI_MME (bits new 22 20) else s
    let s := if d == capMsi + 4 then s.msiUnmasked else s
    if d == capPcie + 2 && bit new 15 then s.put Reg.SFN_STAT_FLR_BUSY true else s
  | _ => if d == capMsi + 4 then s.msiUnmasked else s

/-- A dword is written under byte enables; a 1 clears the bits that a 1 clears. -/
def State.cfgWrite (s : State) (f d be v : Nat) : State :=
  let lanes := ([0, 1, 2, 3].filter fun k => bit be k).foldl (fun m k => m + 255 * 2 ^ (8 * k)) 0
  let (rw, w1c) := s.cfgWritable f d
  let rw := if s.cfgClass f == 2 && d == capPcie + 2 then rw ||| 0x8000 else rw
  let old := s.cfgStored f d
  let m := rw &&& lanes
  let new := (old - (old &&& m)) ||| (v &&& m)
  let new := new - (new &&& (v &&& w1c &&& lanes))
  (s.setCfg f d (if s.cfgClass f == 2 && d == capPcie + 2 then clearBit new 15 else new)).cfgSide f d old new

/-- A configuration request to function f of this Damya: the answer is a completion. -/
def State.cfgAccess (s : State) (f : Nat) (req : Bytes) : State × List Bytes :=
  let d := tlpCfgDw req
  if tlpKind req == .cfgWrite then
    let s := s.cfgWrite f d (tlpFirstBe req) (ofLe (tlpData req))
    (s, [s.sealTlp (statusCpl s.pcie.self 0 req)])
  else (s, [s.sealTlp (completionTlp false s.pcie.self 0 req 4 0 (some (le 4 (s.cfgRead f d))))])

/-! Routing at the root (R292) -/

/-- The window of a bridge: base and limit in units of 1 MiB, or of 4 KiB for I/O. -/
def inWindow (a base limit unit : Nat) : Bool := base ≤ limit && base * unit ≤ a && a < (limit + 1) * unit

/-- Port v's windows hold a memory address, or an I/O address. -/
def State.vdpClaims (s : State) (v a : Nat) (io : Bool) : Bool :=
  let f := 1 + v
  let w (d : Nat) : Nat := s.cfgStored f d
  if io then bit (w 1) 0 && inWindow a (bits (w 7) 7 4) (bits (w 7) 15 12) 0x1000
  else bit (w 1) 1 &&
    (inWindow a (bits (w 8) 15 4) (bits (w 8) 31 20) 0x100000 ||
     inWindow a (bits (w 9) 15 4 + w 0xA * 4096) (bits (w 9) 31 20 + w 0xB * 4096) 0x100000)

/-- The port that claims an address. -/
def State.vdpOf (s : State) (a : Nat) (io : Bool) : Option Nat := (List.range 64).find? fun v => s.vdpClaims v a io

/-- Wraps a TLP in tunnel t at crossbar port p, and counts it (R298). -/
def State.wrapTlp (s : State) (t p n : Nat) (b : Bytes) (urg : Bool := false) : State :=
  match s.wrapTunnel t p b urg with
  | some s => s.count (0x130 + 8 * n)
  | none => s.count (0x131 + 8 * n)

/-- The key of the completion route table. -/
def routeKey (requester tag : Nat) : Nat := requester * 1024 + tag

/-- A host request goes to its port's binding (R291, R292); the outstanding table takes a non-posted one, which waits while
the table is full. -/
def State.forward (s : State) (v : Nat) (b : Bytes) : State :=
  match s.cfgTunnel v with
  | none => s
  | some t =>
    if tlpNonPosted b && (2048 ≤ s.pcie.outst.length || s.pcie.npWait != []) then
      s.withPcie fun p => { p with npWait := p.npWait ++ [(v, b)] }
    else
      let s := if tlpNonPosted b then
          s.setOutst (s.pcie.outst ++
            [{ requester := tlpRequester b, tag := tlpTag b, vdp := v, locked := tlpKind b == .memReadLk }])
        else s
      s.wrapTlp t (4 + v % 2) 0 b

/-! Prefetch (R303 to R305) -/

/-- Window n: base, size in bytes, port, depth; none where PREFETCH is 0. -/
def State.pfWindow (s : State) (n : Nat) : Option (Nat × Nat × Nat × Nat) :=
  if !s.flag (Reg.PCIE_PFWIN_A_PREFETCH 0 n) then none
  else
    let size := 2 ^ clamp 12 48 (s.rd (Reg.PCIE_PFWIN_C_SIZE_LOG2 0 n))
    let base := s.rd (Reg.PCIE_PFWIN_A_BASE_LO 0 n) * 4096 + s.rd (Reg.PCIE_PFWIN_B_BASE_HI 0 n) * 2 ^ 32
    some (base / size * size, size, s.rd (Reg.PCIE_PFWIN_A_VDP 0 n), s.rd (Reg.PCIE_PFWIN_A_DEPTH 0 n) + 1)

/-- The window in which a read lies entirely. -/
def State.pfWindowOf (s : State) (a len : Nat) : Option Nat :=
  (List.range 8).find? fun n => match s.pfWindow n with
    | some (base, size, _, _) => base ≤ a && a + len ≤ base + size
    | none => false

/-- A line is held or in flight. -/
def State.hasLine (s : State) (a v : Nat) : Bool := s.pcie.lines.any fun l => l.addr == a && l.vdp == v

/-- One line is fetched with the upstream port function's requester ID; a full pool gives up its oldest line. -/
def State.fetchLine (s : State) (n v a : Nat) : State :=
  if s.hasLine a v then s
  else
    let s := match s.pcie.lines with
      | l :: _ => if 128 ≤ s.pcie.lines.length then s.discardLine l else s
      | [] => s
    let tag := s.pcie.lineTag
    let s := s.withPcie fun p => { p with lineTag := (tag + 1) % 1024 }
    let s := (s.setLines (s.pcie.lines ++ [{ addr := a, vdp := v, window := n, tag := tag }])).count 0x144
    match s.cfgTunnel v with
    | some t => s.wrapTlp t (4 + v % 2) 0 (s.sealTlp (memReadTlp s.pcie.self tag a 256))
    | none => s

/-- The line addresses that a read touches. -/
def linesOf (a len : Nat) : List Nat :=
  let first := a / 256
  (List.range ((a + max 1 len - 1) / 256 + 1 - first)).map fun k => (first + k) * 256

/-- The line with an address, where its data has arrived. -/
def State.readyLine (s : State) (a v : Nat) : Option PfLine :=
  s.pcie.lines.find? fun l => l.addr == a && l.vdp == v && l.arrived.isSome

/-- A host read is completed from its lines; a line of which every byte has been read is freed without count. -/
def State.completeRead (s : State) (r : PfRead) : State :=
  let ls := (linesOf r.addr r.len).filterMap fun a => s.readyLine a r.vdp
  let completer := (ls.head?.map (·.completer)).getD 0
  let cpls := match ls.find? (fun l => l.status != 0) with
    | some l => [statusCpl l.completer l.status r.tlp]
    | none =>
      let all := ls.flatMap (fun (l : PfLine) => l.data)
      readCompletions false completer s.maxPayload r.tlp 64 r.addr (slice all (r.addr % 256) r.len)
  let mark (l : PfLine) : PfLine :=
    if l.vdp != r.vdp || !(linesOf r.addr r.len).contains l.addr then l
    else
      let lo := max r.addr l.addr - l.addr
      let hi := min (r.addr + r.len) (l.addr + 256) - l.addr
      { l with read := l.read ||| (2 ^ hi - 2 ^ lo) }
  let lines := (s.pcie.lines.map mark).filter fun l => l.read != 2 ^ 256 - 1
  (s.setLines lines).emits (cpls.map fun b => .pcie 2 "TLP" [] b)

/-- The host reads that wait are completed as their lines have arrived. -/
def State.completeReads (s : State) : State :=
  let ready (s : State) (r : PfRead) : Bool := (linesOf r.addr r.len).all fun a => (s.readyLine a r.vdp).isSome
  s.pcie.reads.foldl (fun (s : State) r =>
    if ready s r then
      (s.withPcie fun p => { p with reads := p.reads.filter (· != r) }).completeRead r
    else s) s

/-- An eligible read (R304). -/
def State.prefetchRead (s : State) (n v a len : Nat) (b : Bytes) : State :=
  let touched := linesOf a len
  let hit := touched.all fun x => s.hasLine x v
  let s := if hit then s.count 0x145 else touched.foldl (fun (s : State) x => s.fetchLine n v x) s
  let top := touched.getLastD 0
  let s := match s.pfWindow n with
    | some (base, size, _, depth) =>
      (List.range depth).foldl (fun (s : State) k =>
        let x := top + 256 * (k + 1)
        if x + 256 ≤ base + size then s.fetchLine n v x else s) s
    | none => s
  (s.withPcie fun p => { p with reads := p.reads ++ [{ tlp := b, addr := a, len := len, vdp := v }] }).completeReads

/-- A prefetch line's completion: its data, or the status that it brings. -/
def State.lineArrived (s : State) (b : Bytes) : State :=
  let fill (l : PfLine) : PfLine :=
    if l.tag != cplTag b then l
    else
      let data := l.data ++ cplData b
      { l with
        data := if cplStatus b == 0 then data else l.data, status := cplStatus b, completer := cplCompleter b
        arrived := if cplFinal b then some s.mer.raw else l.arrived }
  (s.setLines (s.pcie.lines.map fill)).completeReads

/-- A request that is not eligible, or a posted one, goes to port v: the port's lines go first, and host reads that waited
for them are forwarded (R305). -/
def State.dropLinesFor (s : State) (v : Nat) : State :=
  let reads := s.pcie.reads.filter fun r => r.vdp == v
  let s := (s.discardLines fun l => l.vdp == v).withPcie fun p => { p with reads := p.reads.filter fun r => r.vdp != v }
  reads.foldl (fun (s : State) r => s.forward v r.tlp) s

/-! Requests of the host (R291, R292, R307) -/

/-- A locked read acquires the semaphore and goes on, or waits while it is held. -/
def State.lockedRead (s : State) (v : Nat) (b : Bytes) : State :=
  if s.pcie.lock.isSome then s.withPcie fun p => { p with lockWait := p.lockWait ++ [b] }
  else ((s.setLock 0 (some (v, s.mer.raw))).count 0x147).forward v b

/-- A request of the host for port v. -/
def State.toVdp (s : State) (v : Nat) (b : Bytes) : State :=
  if !(s.vdp v).active then
    if tlpNonPosted b then s.urFor (s.vdpId v) b else s
  else
    let a := tlpAddr b
    let eligible : Option Nat :=
      if tlpKind b == .memRead && s.pcie.lock.isNone then
        (s.pfWindowOf a (tlpBytes b)).filter fun n => (s.pfWindow n).any fun w => w.2.2.1 == v
      else none
    match eligible with
    | some n => s.prefetchRead n v a (tlpBytes b) b
    | none =>
      let s := s.dropLinesFor v
      if tlpKind b == .memReadLk then s.lockedRead v b else s.forward v b

/-- The lock ends: the next locked read that waits goes on. -/
def State.nextLocked (s : State) : State :=
  match s.pcie.lockWait with
  | [] => s
  | b :: rest =>
    let s := s.withPcie fun p => { p with lockWait := rest }
    match s.vdpOf (tlpAddr b) false with
    | some v => s.toVdp v b
    | none => s

/-- Requests that waited for an entry of the outstanding table go on, in order; the non-posted header credits owed are
returned while it is not full (R291). -/
def State.hostDrain (s : State) : State :=
  let l := s.pcie.npWait
  let s := l.foldl (fun (s : State) x => s.forward x.1 x.2) (s.withPcie fun p => { p with npWait := [] })
  if s.pcie.creditOwed == 0 || 2048 ≤ s.pcie.outst.length then s
  else (s.emit (.pcie 2 "NP_CREDIT" [s.pcie.creditOwed] [])).withPcie fun p => { p with creditOwed := 0 }

/-- The root releases the semaphore. -/
def State.releaseRoot (s : State) : State := (s.setLock 0 none).nextLocked

/-- The Unlock message of the host: it goes to the port that holds the lock, and the semaphore is free. -/
def State.hostUnlock (s : State) (b : Bytes) : State :=
  match s.pcie.lock with
  | some (v, _) => (s.forward v b).releaseRoot
  | none => s

/-- A request to function 0 of this Damya in its BAR0: the mailbox region. -/
def State.barAccess (s : State) (off : Nat) (b : Bytes) : State × List Bytes :=
  match tlpKind b with
  | .memRead => (s, s.functionAnswer b (some ((List.range (tlpBytes b)).map fun k => s.barByte (off + k))) 0)
  | .memWrite =>
    let d := slice (tlpData b) (beSkip (tlpFirstBe b)) (tlpBytes b)
    (s.barWrite off d, [])
  | _ => (s, if tlpNonPosted b then s.functionAnswer b none 1 else [])

/-- The port whose secondary to subordinate buses hold a bus. -/
def State.busOwner (s : State) (bus : Nat) : Option Nat :=
  (List.range 64).find? fun v =>
    let w := s.cfgStored (1 + v) 6
    bits w 15 8 != 0 && bits w 15 8 ≤ bus && bus ≤ bits w 23 16

/-- A configuration request of the host (R292): one of type 1 for a port's secondary bus becomes type 0, for device 0 alone
unless ARI Forwarding is enabled. -/
def State.hostCfg (s : State) (b : Bytes) : State :=
  let bdf := tlpTarget b
  let bus := bdf / 256
  let answer (x : State × List Bytes) : State := x.1.emits (x.2.map fun c => .pcie 2 "TLP" [] c)
  if !tlpType1 b then
    if bdf % 256 == 0 then answer ((s.withPcie fun p => { p with self := bdf }).cfgAccess 0 b)
    else s.urFor s.pcie.self b
  else if bus == bits (s.cfgStored 0 6) 15 8 && bus != 0 then
    let v := bdf / 8 % 32 * 2 + bdf % 8
    if bdf % 8 < 2 then answer (s.cfgAccess (1 + v) b) else s.urFor s.pcie.self b
  else
    match s.busOwner bus with
    | none => s.urFor s.pcie.self b
    | some v =>
      let direct := bus == bits (s.cfgStored (1 + v) 6) 15 8
      if direct && bdf / 8 % 32 != 0 && !bit (s.cfgStored (1 + v) (capPcie + 10)) 5 then s.urFor (s.vdpId v) b
      else s.toVdp v (if direct then byte (leAt b 0 1 - 1) :: b.drop 1 else b)

/-- A TLP of the host in RECOVERY (R30): the upstream port's own function and mailbox, and nothing behind them. -/
def State.hostRecovery (s : State) (b : Bytes) : State :=
  match tlpKind b with
  | .cfgRead | .cfgWrite =>
    if tlpType1 b then s.urFor s.pcie.self b else s.hostCfg b
  | .memRead | .memReadLk | .memWrite =>
    (match s.inBar (tlpAddr b) with
     | some off =>
       let (s, cpls) := s.barAccess off b
       s.emits (cpls.map fun c => .pcie 2 "TLP" [] c)
     | none => if tlpNonPosted b then s.urFor s.pcie.self b else s)
  | .completion | .completionLk | .other => s.count 0x131
  | _ => if tlpNonPosted b then s.urFor s.pcie.self b else s

/-- The tunnel of a host completion (R292): for a station function the completion route table's, else that of the port whose
buses hold the requester. -/
def State.completionTunnel (s : State) (b : Bytes) : Option Nat :=
  match s.pcie.routes.find? (fun e => e.1 == routeKey (cplRequester b) (cplTag b)) with
  | some e => some e.2
  | none => (s.busOwner (cplRequester b / 256)).bind fun v =>
    if (s.vdp v).unit == 0x13 || !(s.vdp v).active then none else s.cfgTunnel v

/-- A message of the host that goes on to the line (R298): by ID to one port, or by broadcast to every port whose link is
active; one that ends at its receiver is consumed. -/
def State.hostMessage (s : State) (b : Bytes) : State :=
  let pass (s : State) (v : Nat) : State := if (s.vdp v).active then s.forward v b else s
  match tlpRouting b with
  | 2 => match s.busOwner (tlpTarget b / 256) with
    | some v => pass s v
    | none => s.count 0x131
  | 3 => (List.range 64).foldl pass s
  | _ => s

/-- A TLP of the host at the root in service (R292). -/
def State.hostService (s : State) (b : Bytes) : State :=
  match tlpKind b with
  | .completion | .completionLk =>
    (match s.completionTunnel b with
     | some t => s.wrapTlp t (4 + s.rd (Reg.TUN_ENTRY_W1_SUB t) % 2) 0 b (s.sw.urgent.contains t)
     | none => s.count 0x131)
  | .cfgRead | .cfgWrite => s.hostCfg b
  | .message =>
    if tlpMsgCode b == 0x00 then s.hostUnlock b
    else if tlpMsgCode b == 0x19 then s.emit (.pcie 2 "PME_TO_ACK" [] [])
    else s.hostMessage b
  | .ioRead | .ioWrite =>
    (match s.vdpOf (tlpAddr b) true with
     | some v => s.toVdp v b
     | none => s.urFor s.pcie.self b)
  | .other => s.count 0x131
  | _ =>
    match s.inBar (tlpAddr b) with
    | some off =>
      let (s, cpls) := s.barAccess off b
      s.emits (cpls.map fun c => .pcie 2 "TLP" [] c)
    | none => match s.vdpOf (tlpAddr b) false with
      | some v => s.toVdp v b
      | none => if tlpNonPosted b then s.urFor s.pcie.self b else s

/-- The request is for function 0 of this root: a configuration request of type 0 or one that its BAR0 claims. -/
def State.forSelf (s : State) (b : Bytes) : Bool :=
  match tlpKind b with
  | .cfgRead | .cfgWrite => !tlpType1 b
  | .memRead | .memReadLk | .memWrite => (s.inBar (tlpAddr b)).isSome
  | _ => false

/-- A TLP of the host at the root; a non-posted request takes a header credit, which is returned while the outstanding table
is not full (R291).  One for function 0 whose ECRC is wrong is discarded (R284). -/
def State.hostTlp (s : State) (b : Bytes) : State :=
  let s := if tlpNonPosted b then s.withPcie fun p => { p with creditOwed := p.creditOwed + 1 } else s
  (if s.forSelf b && s.ecrcFails b then s.aerLog 0 19
   else if s.mode == 0 then s.hostRecovery b else s.hostService b).hostDrain

/-- HOST_TLP_RECEIVED (R292, R298): `good` false is a TLP that fails link checks or is malformed. -/
def execHostTlpReceived (b : Bytes) (good : Bool) (s : State) : Out :=
  onHub (fun s => if !s.isRoot then s else if good then s.hostTlp b else s.count 0x131) s

/-- LOCKED_READ (R307): at the root an MRdLk of the host; at a station one that reaches root port n. -/
def execLockedRead (n : Fin 2) (b : Bytes) (s : State) : Out :=
  onHub (fun s =>
    if tlpKind b != .memReadLk then s
    else if s.isRoot then s.hostTlp b
    else ((s.setLock n (some (0, s.mer.raw))).count 0x147).sendNonPosted n b) s

/-! Devices at a station (R298, R307, R308, R311 to R313) -/

/-- Slot presence and power fault of root port n, from its eFuse channel (R293). -/
def State.slotPresent (s : State) (n : Nat) : Bool := s.flag (Reg.EFU_CH_STAT_PRES (2 + n))
def State.slotFault (s : State) (n : Nat) : Bool :=
  s.rd (Reg.EFU_CH_STAT_STATE (2 + n)) == 7 || s.rd (Reg.EFU_CH_STAT_STATE (2 + n)) == 8

/-- LEVELS of root port n. -/
def State.levelsBytes (s : State) (n : Nat) : Bytes :=
  let x := s.side n
  [1, byte (0x11 + n),
   byte (x.intx % 16 + 16 * b2n x.wake + 32 * b2n (s.slotPresent n) + 64 * b2n (s.slotFault n) +
     128 * b2n (s.flag (Reg.PCIE_STAT_DL_ACTIVE n))),
   byte (s.rd (Reg.PCIE_STAT_WIDTH n) + 16 * s.rd (Reg.PCIE_STAT_SPEED n)), byte (s.rd (Reg.PCIE_STAT_LSTATE n)), 0, 0, 0]

/-- A station unit sends its sideband message: on the SIDEBAND tunnel bound with it, else on the station function's (R311). -/
def State.sendLevels (s : State) (n : Nat) : State :=
  if s.isRoot then s
  else
    let own := (s.unitTids 4 (0x11 + n) none).head?.map fun t => (t, 4 + n)
    let sfn := (s.unitTids 4 0x13 none).head?.map fun t => (t, 9)
    let drop (s : State) : State :=
      let s := s.count (0x136 + 8 * n)
      if (s.side n).noted then s
      else (s.withSide n fun x => { x with noted := true }).notice 0x0B06 [byte (0x11 + n), 0x01]
    match own.orElse fun _ => sfn with
    | some (t, p) => match s.wrapTunnel t p (s.levelsBytes n) with
      | some s => (s.count (0x135 + 8 * n)).withSide n fun x => { x with noted := false }
      | none => drop s
    | none => drop s

/-- A device's TLP is wrapped into its port's tunnel. -/
def State.wrapDevice (s : State) (n : Nat) (b : Bytes) : State :=
  match (s.unitTids 0 (0x11 + n) none).head? with
  | some t => s.wrapTlp t (4 + n) n b
  | none => s.count (0x131 + 8 * n)

/-- PCIE_LOCK.WAITING follows the queue. -/
def State.setWaiting (s : State) (n : Nat) (l : List Bytes) : State :=
  (s.withSide n fun x => { x with waiting := l }).wr (Reg.PCIE_LOCK_WAITING n) (min 255 l.length)

/-- The semaphore of root port n is free: the waiting device requests are wrapped in order. -/
def State.releaseStation (s : State) (n : Nat) : State :=
  let l := (s.side n).waiting
  l.foldl (fun (s : State) b => s.wrapDevice n b) ((s.setLock n none).setWaiting n [])

/-- A message of a device: INTx and PME become levels; the rest is wrapped. -/
def State.deviceMessage (s : State) (n : Nat) (b : Bytes) : State :=
  let c := tlpMsgCode b
  if 0x20 ≤ c && c ≤ 0x27 then
    (s.withSide n fun x => { x with intx := putBit x.intx (c % 4) (c < 0x24) }).sendLevels n
  else if c == 0x18 then
    ((s.withSide n fun x => { x with wake := true }).sendLevels n).withSide n fun x => { x with wake := false }
  else if c == 0x1B then s.withSide n fun x => { x with pme := false }
  else if tlpRouting b == 4 then s
  else s.wrapDevice n b

/-- A TLP of the device at root port `n` (R298); `good` false fails link checks or is malformed. -/
def State.deviceTlp (s : State) (n : Nat) (b : Bytes) (good : Bool) : State :=
  if s.isRoot then s
  else if !good || tlpPrefixed b then s.count (0x131 + 8 * n)
  else if !s.wrapping || s.unitOut (0x20 + n) then s
  else if tlpKind b == .message then s.deviceMessage n b
  else if tlpNonPosted b && s.flag (Reg.PCIE_LOCK_HELD n) then s.setWaiting n ((s.side n).waiting ++ [b])
  else s.wrapDevice n b

/-- The Unlock message reaches a station root port, which sends it on to its device. -/
def State.stationUnlock (s : State) (n : Nat) (b : Bytes) : State := (s.toLink n b).releaseStation n

/-- UNLOCK (R307). -/
def execUnlockMsg (n : Fin 2) (b : Bytes) (s : State) : Out :=
  onHub (fun s => if s.isRoot then s.hostUnlock b else s.stationUnlock n b) s

/-- LOCK_TIMEOUT (R309): at the root, or at the station root port that holds the semaphore, which does not know its virtual
downstream port and gives 0 (log entry 21). -/
def execLockTimeout (n : Fin 2) (s : State) : Out :=
  onHub (fun s => match s.pcie.lock with
    | none => s
    | some (v, _) =>
      if !s.isRoot && !s.flag (Reg.PCIE_LOCK_HELD n) then s
      else
        let s := (s.count 0x148).notice 0x0B04
          ([byte v] ++ le 2 (orOne (s.rd (Reg.PCIE_CTRL_LOCK_MS (s.pcieBlock n)))))
        if s.isRoot then s.releaseRoot else s.releaseStation n) s

/-! Sideband received -/

/-- INTA to INTD of the upstream port: the OR of its ports' lines, swizzled by device number (R313). -/
def State.intxSync (s : State) : State :=
  let lines := (List.range 64).foldl (fun (m : Nat) v =>
    match (s.vdp v).levels with
    | some b => [0, 1, 2, 3].foldl (fun m i => if bit (leAt b 0 1) i then setBit m ((i + v / 2) % 4) else m) m
    | none => m) 0
  let old := s.pcie.intx
  let changed := [0, 1, 2, 3].filter fun i => bit old i != bit lines i
  (s.withPcie fun p => { p with intx := lines }).emits
    (changed.map fun i => .pcie 2 (if bit lines i then "ASSERT_INTX" else "DEASSERT_INTX") [i] [])

/-- LEVELS of virtual downstream port v (R313). -/
def State.onLevels (s : State) (v : Nat) (b : Bytes) : State :=
  let x := s.vdp v
  if !x.bound then s
  else
    let old : Nat := match x.levels with
      | some l => leAt l 0 1
      | none => 0
    let new := leAt b 2 1
    let s := s.setVdp v { x with levels := some (slice b 2 3) }
    let pres := bit new 5
    let was := bit (s.cfgStored (1 + v) (capPcie + 6)) 22
    let s := if pres == was then s
      else (s.slotBits v (0x08 + (if pres then 0x40 else 0)) (if pres then 0 else 0x40)).hotplug v 3
    let s := if bit new 6 && !bit old 6 then (s.slotBits v 0x02 0).hotplug v 1 else s
    let link := s.cfgStored (1 + v) (capPcie + 4)
    let s := s.setCfg (1 + v) (capPcie + 4)
      (link % 65536 + link / 2 ^ 26 * 2 ^ 26 + bits (leAt b 3 1) 6 4 * 65536 + bits (leAt b 3 1) 3 0 * 2 ^ 20)
    let s := (s.vdpUpdate v).intxSync
    if bit new 4 && !bit old 4 then
      s.emit (.pcie 2 "PM_PME" [bits (s.cfgStored (1 + v) 6) 15 8 * 256] [])
    else s

/-- LEVELS (R312, R313). -/
def execLevelsMsg (v : Fin 64) (b : Bytes) (s : State) : Out :=
  onHub (fun s => if s.isRoot then s.onLevels v b else s) s

/-- Function Level Reset begins (R297). -/
def State.flrBegin (s : State) : State := s.put Reg.SFN_STAT_FLR_BUSY true

/-- PERST_N of port n. -/
def State.perst (s : State) (n level : Nat) : State := s.pin (if n == 0 then "PCIE0_PERST_N" else "PCIE1_PERST_N") level

/-- PERST_N of port n is released where Damya is in service, the port is enabled and CONTROL does not assert it (R286, R312,
R314). -/
def State.perstSync (s : State) (n : Nat) : State :=
  s.perst n (b2n (s.inService && s.flag (Reg.PCIE_CTRL_PORT_EN n) && !bit (s.side n).control 0))

/-- CONTROL at a station (R312): each field acts where it differs from what was acted on last. -/
def State.onControl (s : State) (b : Bytes) : State :=
  let u := leAt b 1 1
  if u == 0x13 then
    let x := s.side 2
    let s := s.withSide 2 fun x => { x with hotResets := leAt b 6 1 }
    if x.hotResets == leAt b 6 1 then s else s.flrBegin
  else if u != 0x11 && u != 0x12 then s
  else
    let n := u - 0x11
    let x := s.side n
    let c := leAt b 2 1
    let s := s.withSide n fun x => { x with
      control := c, speed := leAt b 3 1 % 8, hotResets := leAt b 6 1, retrains := leAt b 7 1 }
    let s := if bit c 0 == bit x.control 0 then s else s.perstSync n
    let s := if bit c 1 == bit x.control 1 then s
      else if bit c 1 then (s.wr (Reg.PCIE_STAT_LSTATE n) 7).put (Reg.PCIE_STAT_DL_ACTIVE n) false
      else s.wr (Reg.PCIE_STAT_LSTATE n) 0
    let s := if bit c 2 == bit x.control 2 then s else s.fuseAsk (2 + n) fun f => { f with byPcie := bit c 2 }
    let s := if x.hotResets == leAt b 6 1 then s
      else
        let s := if s.flag (Reg.PCIE_LOCK_HELD n) then s.releaseStation n else s
        ((s.wr (Reg.PCIE_STAT_LSTATE n) 8).put (Reg.PCIE_STAT_DL_ACTIVE n) false).emit (.pcie n "HOT_RESET" [] [])
    if x.retrains == leAt b 7 1 then s
    else (s.wr (Reg.PCIE_STAT_LSTATE n) 4).emit (.pcie n "RETRAIN" [leAt b 3 1 % 8] [])

/-- CONTROL. -/
def execControlMsg (b : Bytes) (s : State) : Out := onHub (fun s => if s.isRoot then s else s.onControl b) s

/-- SIDEBAND_REFRESH (R312): each end sends its full state again. -/
def execSidebandRefresh (s : State) : Out :=
  onHub (fun s =>
    if s.isRoot then (List.range 64).foldl (fun (s : State) v => s.sendControl v) s
    else (s.sendLevels 0).sendLevels 1) s

/-! Link events and resets -/

/-- PCIE_LINK_CHANGE (R285): port 2 is the root's x8 link. -/
def execPcieLinkChange (port : Fin 3) (lstate width speed : BitVec 4) (dl : Bool) (s : State) : Out :=
  onHub (fun s =>
    if s.isRoot != (port.val == 2) then s
    else
      let n := s.pcieBlock port.val
      let old := (s.rd (Reg.PCIE_STAT_DL_ACTIVE n), s.rd (Reg.PCIE_STAT_WIDTH n), s.rd (Reg.PCIE_STAT_SPEED n))
      let s := ((s.wr (Reg.PCIE_STAT_LSTATE n) lstate.toNat).wr (Reg.PCIE_STAT_WIDTH n) width.toNat).wr
        (Reg.PCIE_STAT_SPEED n) speed.toNat
      let s := s.put (Reg.PCIE_STAT_DL_ACTIVE n) dl
      let s := if dl then s else s.withSide n fun x => { x with credit := 0, intx := 0 }
      let s := if old == (b2n dl, width.toNat, speed.toNat) then s
        else s.notice 0x0B01 [byte port.val, byte (b2n dl), byte width.toNat, byte speed.toNat]
      let s := if !dl && !s.isRoot && s.flag (Reg.PCIE_LOCK_HELD n) then s.releaseStation n else s
      s.sendLevels n) s

/-- PCIE_UPSTREAM_RESET (R287). -/
def execPcieUpstreamReset (s : State) : Out :=
  onHub (fun s =>
    if !s.isRoot then s
    else
      let s := s.withPcie fun p => { p with cfg := [], reads := [], lockWait := [], npWait := [], intx := 0 }
      let s := (s.discardLines fun _ => true).setOutst []
      let s := s.setLock 0 none
      (List.range 64).foldl (fun (s : State) v =>
        let x := s.vdp v
        if !x.bound then s
        else
          let s := s.setVdp v { x with hotResets := (x.hotResets + 1) % 256 }
          let s := s.slotBits v 0x40 0
          (s.setCfg (1 + v) (capPcie + 4) (if x.active then 2 ^ 29 else 0)).sendControl v) s) s

/-- VDP_DOWN_TIMEOUT (R290): the route has been DROP for DOWN_MS. -/
def execVdpDownTimeout (v : Fin 64) (s : State) : Out :=
  onHub (fun s =>
    let x := s.vdp v
    if x.bound && s.route x.position == .drop then (s.setVdp v { x with dropped := true }).vdpUpdate v else s) s

/-- A route that is no longer DROP lets Link Active return. -/
def State.vdpRoutes (s : State) : State :=
  (s.pcie.vdps.map (·.1)).foldl (fun (s : State) v =>
    let x := s.vdp v
    if x.dropped && s.route x.position != .drop then (s.setVdp v { x with dropped := false }).vdpUpdate v else s) s

/-! Prefetch events -/

/-- PREFETCH_LINE_ARRIVAL (R304): a completion for a line. -/
def execPrefetchLineArrival (b : Bytes) (s : State) : Out := onHub (fun s => s.lineArrived b) s

/-- PREFETCH_LINE_AGE (R305). -/
def execPrefetchLineAge (tag : Fin 1024) (s : State) : Out :=
  onHub (fun s => s.discardLines fun l => l.tag == tag.val && (match l.arrived with
    | some r => decide (r + rawOfNs (orOne (s.rd (Reg.PCIE_CTRL_PF_AGE 0)) * 10000) ≤ s.mer.raw)
    | none => false)) s

/-- Window n's first word is written: its lines are discarded (R303). -/
def State.windowWritten (s : State) (n : Nat) : State := s.discardLines fun l => l.window == n

/-- PREFETCH_WINDOW_WRITE (R303). -/
def execPrefetchWindowWrite (n : Fin 8) (v : Word) (s : State) : Out :=
  onHub (fun s =>
    if !s.isRoot then s
    else (s.setReg (Reg.PCIE_PFWIN_A_A 0 n) (v &&& 0xFFFFFF3F)).windowWritten n) s

/-! The station function's requesters (R294 to R297) -/

/-- The limit of requester r. -/
def State.tagLimit (s : State) (r : Nat) : Nat := clamp 1 768 (s.rd (Reg.SFN_TAG_MAX r))

/-- A free tag for requester r. -/
def State.freeTag (s : State) (r : Nat) : Option Nat :=
  let used := s.pcie.tags
  if s.tagLimit r ≤ (used.filter fun t => t.sub == r).length then none
  else
    let pool := if s.flag Reg.SFN_CTRL_TAG10 then (List.range 768).map (256 + ·) else List.range 256
    pool.find? fun t => !used.any fun u => u.tag == t

/-- INUSE of each requester follows the tags. -/
def State.setTags (s : State) (l : List SfnTag) : State :=
  (List.range 5).foldl (fun (s : State) r => s.wr (Reg.SFN_TAG_INUSE r) (l.filter fun t => t.sub == r).length)
    (s.withPcie fun p => { p with tags := l })

/-- The PCIE tunnel of requester r. -/
def State.sfnTunnel (s : State) (r : Nat) : Option Nat := (s.unitTids 0 0x13 (some r)).head?

/-- The crossbar port of requester r (R219). -/
def sfnPort (r : Nat) : Nat := if r < 3 then 6 + r else 9

/-- A transfer cut at the multiples of `k`: the address and length of each part (at most `fuel` parts). -/
def parts (k : Nat) : Nat → Nat → Nat → List (Nat × Nat)
  | 0, _, _ => []
  | fuel + 1, a, n =>
    if n == 0 then []
    else
      let m := min n (k - a % k)
      (a, m) :: parts k fuel (a + m) (n - m)

/-- Max_Read_Request_Size of function 0 in bytes. -/
def State.maxReadRequest (s : State) : Nat := 128 * 2 ^ min 5 (bits (s.cfgStored 0 (capPcie + 2)) 14 12)

/-- A requester reads host memory: at the root over the x8 link, at a station by requests of at most 256 bytes that do
not cross a 256-byte boundary (R295, R411). -/
def State.hostRead (s : State) (sub a n : Nat) : State :=
  let k := min 256 s.maxReadRequest
  (parts k (n / k + 2) a n).foldl (fun (s : State) (x : Nat × Nat) =>
    if s.isRoot then s.emit (.hostRead sub x.1 x.2) else s.sfnAsk sub (.read x.1 x.2)) s

/-- A request is issued where it can be; the flag says that it was, or that nothing is left to issue. -/
def State.sfnIssueOne (s : State) (q : SfnReq) : Bool × State :=
  match s.sfnTunnel q.sub with
  | none => (false, s)
  | some t =>
    let send (s : State) (b : Bytes) (urg : Bool := false) : Bool × State :=
      match s.wrapTunnel t (sfnPort q.sub) (s.sealTlp b) urg with
      | some s => (true, s.count 0x140)
      | none => (false, s)
    match q.kind with
    | .write a d =>
      let k := s.maxPayload
      (parts k (d.length / k + 2) a d.length).foldl (fun (x : Bool × State) (y : Nat × Nat) =>
        if x.1 then send x.2 (memWriteTlp x.2.pcie.self y.1 (slice d (y.1 - a) y.2)) else x) (true, s)
    | .read a n => match s.freeTag q.sub with
      | none => (false, s)
      | some k =>
        let urg := q.sub < 2 && s.flag (Reg.DSP_STAT_LOW q.sub) && s.flag Reg.SCH_CTRL_URG_EN && s.tidClass t == 1
        let (ok, s') := send s (memReadTlp s.pcie.self k a n) urg
        if ok then (true, s'.setTags (s'.pcie.tags ++ [{ tag := k, sub := q.sub, addr := a, len := n }])) else (false, s)
    | .vector v =>
      let c := s.cfgStored 0 capMsi
      let n := v % 2 ^ bits c 22 20
      if !bit c 16 then (true, s)
      else if bit (s.cfgStored 0 (capMsi + 4)) n then
        (true, s.msiPends v n)
      else
        let a := s.cfgStored 0 (capMsi + 1) + s.cfgStored 0 (capMsi + 2) * 2 ^ 32
        let (ok, s) := send s (memWriteTlp s.pcie.self a (le 4 (s.cfgStored 0 (capMsi + 3) ||| n)))
        (ok, if ok then s.count 0x143 else s)

/-- The requesters issue what they can, each in order, while host software has enabled the function and no Function Level
Reset runs (R295, R297). -/
def State.sfnIssue (s : State) : State :=
  if s.isRoot || !s.flag Reg.SFN_CTRL_BME || s.flag Reg.SFN_STAT_FLR_BUSY then s
  else
    let want := s.pcie.want
    let (s, left) := want.foldl (fun (acc : State × List SfnReq) q =>
      let (s, left) := acc
      if left.any fun x => x.sub == q.sub then (s, left ++ [q])
      else
        let (done, s) := s.sfnIssueOne q
        (s, if done then left else left ++ [q])) (s, [])
    s.withPcie fun p => { p with want := left }

/-- A completion for a station function request: the final one frees its tag; a late one is discarded and counted.  With
the final one, or a status other than success, comes the read it ends: requester, address, length, and the data or none. -/
def State.sfnCompletion (s : State) (b : Bytes) : State × Option (SfnTag × Option Bytes) :=
  if s.ecrcFails b then (s.aerLog 0 19, none)
  else match s.pcie.tags.find? (fun t => t.tag == cplTag b) with
  | none => (s.count 0x142, none)
  | some t =>
    let rest := s.pcie.tags.filter fun x => x.tag != t.tag
    let d := t.data ++ cplData b
    if cplStatus b != 0 then (s.setTags rest, some (t, none))
    else if cplFinal b then (s.setTags rest, some (t, some d))
    else (s.setTags (rest ++ [{ t with data := d }]), none)

/-- The read of requester `sub` at address `a` has its data: the tag is free. -/
def State.sfnEnd (s : State) (sub a : Nat) : State :=
  match s.pcie.tags.find? (fun t => t.sub == sub && t.addr == a) with
  | some t => s.setTags (s.pcie.tags.erase t)
  | none => s

/-- A request to the station function, on tunnel t at crossbar port p: a configuration request reaches it as device 0,
function 0, of type 0 (R288). -/
def State.sfnRequest (s : State) (t p : Nat) (b : Bytes) : State :=
  let answer (x : State × List Bytes) : State := x.2.foldl (fun (s : State) c => (s.wrapTunnel t p c).getD s) x.1
  if s.ecrcFails b then s.aerLog 0 19
  else match tlpKind b with
  | .cfgRead | .cfgWrite =>
    if tlpType1 b || tlpTarget b % 256 != 0 then answer (s, [s.sealTlp (statusCpl s.pcie.self 1 b)])
    else answer ((s.withPcie fun q => { q with self := tlpTarget b }).cfgAccess 0 b)
  | .memRead | .memWrite =>
    (match s.inBar (tlpAddr b) with
     | some off => answer (s.barAccess off b)
     | none => if tlpNonPosted b then answer (s, s.functionAnswer b none 1) else s)
  | _ => if tlpNonPosted b then answer (s, s.functionAnswer b none 1) else s

/-- A tag whose request has timed out is freed, counted and reported (R296). -/
def State.tagTimeout (s : State) (t : SfnTag) : State :=
  ((s.setTags (s.pcie.tags.filter fun x => x.tag != t.tag)).count 0x141).limited (0x0B05_0000 + t.sub) 0x0B05 fun _ =>
    [byte t.sub] ++ le 2 t.tag

/-- FUNCTION_LEVEL_RESET (R297). -/
def execFunctionLevelReset (s : State) : Out := onHub (fun s => if s.isRoot then s else s.flrBegin) s

/-- FLR_DRAIN_END (R297): the tags are free, the mailbox registers and the configuration space are reset. -/
def execFlrDrainEnd (s : State) : Out :=
  onHub (fun s =>
    if !s.flag Reg.SFN_STAT_FLR_BUSY then s
    else
      let s := ((s.setTags []).cfgReset 0).withPcie fun p => { p with want := [], pendingMsi := [] }
      let s := s.withCmd fun c => { c with
        mbxIrqEn := false, mbxReplyLen := 0, mbxOverrun := false, mbxDone := false, mbxBusy := false }
      ((s.setReg Reg.SFN_STAT_A (regReset Reg.SFN_STAT_A)).put Reg.SFN_CTRL_BME false).put Reg.SFN_CTRL_TAG10 false) s

/-! What leaves the crossbar at a PCI Express port (R291, R292, R300, R307) -/

/-- The urgent state of a fetch tunnel is set or cleared; ROOT_URG counts those set (R272). -/
def State.setUrgent (s : State) (t : Nat) (on : Bool) : State :=
  let others := s.sw.urgent.filter (· != t)
  let s := { s with sw := { s.sw with
    urgent := if on then others ++ [t] else others
    urgLong := if on then s.sw.urgLong else s.sw.urgLong.filter (· != t) } }
  s.wr Reg.SCH_URGSTAT_ROOT_URG s.sw.urgent.length

/-- ACS at virtual downstream port v (R284): Source Validation stops a request whose requester is on none of the port's buses,
Translation Blocking a memory request that carries a translated address or asks for one. -/
def State.acsBlocks (s : State) (v : Nat) (b : Bytes) : Bool :=
  let c := s.cfgStored (1 + v) (capAcs + 1)
  let memory := match tlpKind b with
    | .memRead | .memReadLk | .memWrite | .atomic => true
    | _ => false
  !tlpIsCompletion b &&
    ((bit c 16 && s.busOwner (tlpRequester b / 256) != some v) || (bit c 17 && memory && bits (leAt b 2 1) 3 2 != 0))

/-- The completion route table takes a station function's request (R292): one entry for each requester ID and tag, 24,576 in
all.  Which entry a new one replaces where all are in use is a free value (log entry 69). -/
def State.learnRoute (s : State) (t : Nat) (b : Bytes) : State :=
  let k := routeKey (tlpRequester b) (tlpTag b)
  let u := (s.vdp (s.rd (Reg.TUN_ENTRY_W1_SUB t))).unit
  if u == 0x11 || u == 0x12 then s
  else if s.pcie.routes.length < 24576 || s.pcie.routes.any fun e => e.1 == k then
    s.withPcie fun p => { p with routes := Table.insert k t p.routes }
  else
    let (i, s) := s.free 15
    s.withPcie fun p => { p with routes := Table.insert k t (p.routes.eraseIdx (i % 24576)) }

/-- At the root, a TLP of a station on tunnel t. -/
def State.rootAccept (s : State) (t : Nat) (urg : Bool) (b : Bytes) : State :=
  let v := s.rd (Reg.TUN_ENTRY_W1_SUB t)
  if s.acsBlocks v b then
    let s := s.aerLog (1 + v) 21
    if tlpNonPosted b then s.wrapTlp t (4 + v % 2) 0 (statusCpl (s.vdpId v) 4 b) else s
  else if tlpIsCompletion b then
    if cplRequester b == s.pcie.self then (if s.ecrcFails b then s.aerLog 0 19 else s.lineArrived b)
    else match s.pcie.outst.find? (fun o => o.requester == cplRequester b && o.tag == cplTag b) with
      | none => s.count 0x133
      | some o =>
        let s := (if cplFinal b then s.setOutst (s.pcie.outst.erase o) else s).toLink 0 b
        (if tlpKind b == .completionLk && cplStatus b != 0 && (s.vdp o.vdp).unit == 0x13 then s.releaseRoot else s).hostDrain
  else
    let s := if tlpNonPosted b then s.learnRoute t b else s
    (s.setUrgent t urg).egressTlp 0 b

/-- At a station root port n, a TLP of the host. -/
def State.stationAccept (s : State) (n : Nat) (b : Bytes) : State :=
  if tlpKind b == .memReadLk then ((s.setLock n (some (0, s.mer.raw))).count 0x147).sendNonPosted n b
  else if tlpKind b == .message && tlpMsgCode b == 0 then s.stationUnlock n b
  else s.egressTlp n b

/-- A SIDEBAND segment reaches its unit. -/
def State.sidebandAccept (s : State) (src : Nat) (b : Bytes) : State :=
  if s.isRoot then
    match (List.range 64).find? (fun v => (s.vdp v).bound && (s.vdp v).position == src && (s.vdp v).unit == leAt b 1 1) with
    | some v => if leAt b 0 1 == 1 then s.onLevels v b else s
    | none => s
  else if leAt b 0 1 == 0x81 then s.onControl b else s

/-- A segment for a PCI Express port unit or the station function, crossbar ports 4 to 9; what a completion for the
station function ends comes with it. -/
def State.pcieAccept (s : State) (p : Nat) (h : Held) : State × Option (SfnTag × Option Bytes) :=
  let g := h.seg
  if g.ttype == 4 then (s.sidebandAccept g.src g.payload, none)
  else if s.isRoot then (s.rootAccept g.tid g.urg g.payload, none)
  else if p < 6 then (s.stationAccept (p - 4) g.payload, none)
  else if tlpIsCompletion g.payload then s.sfnCompletion g.payload
  else (s.sfnRequest g.tid p g.payload, none)

/-- The head of a queue for port n is a non-posted request that waits because the park is full (R301). -/
def State.parkBlocks (s : State) (n : Nat) (h : Held) : Bool :=
  h.seg.ttype == 0 && tlpNonPosted h.seg.payload && s.parkFull n && (s.side n).credit == 0

/-! Modes (R286, R545) -/

/-- The role sampled at reset gives the parks their sizes (R300). -/
def State.pcieRole (s : State) : State :=
  if s.isRoot then (s.wr (Reg.PCIE_NP_PARK_SIZE 0) 2048).wr (Reg.PCIE_NP_PARK_SIZE 1) 2048
  else (s.wr (Reg.PCIE_NP_PARK_SIZE 0) 256).wr (Reg.PCIE_NP_PARK_SIZE 1) 256

/-- Station root ports whose link is up send PME_Turn_Off; the root's upstream port enters L1. -/
def State.pcieSuspend (s : State) : State :=
  if s.isRoot then (if s.rd (Reg.PCIE_STAT_LSTATE 0) == 3 then s.wr (Reg.PCIE_STAT_LSTATE 0) 5 else s)
  else [0, 1].foldl (fun (s : State) n =>
    if s.flag (Reg.PCIE_STAT_DL_ACTIVE n) then
      (s.withSide n fun x => { x with pme := true }).emit (.pcie n "PME_TURN_OFF" [] [])
    else s.perst n 0) s

/-- The station root ports that will answer PME_Turn_Off. -/
def State.pmePorts (s : State) : Nat :=
  if s.isRoot then 0 else b2n (s.flag (Reg.PCIE_STAT_DL_ACTIVE 0)) + 2 * b2n (s.flag (Reg.PCIE_STAT_DL_ACTIVE 1))

/-- Port n's link goes to L2 and PERST_N is asserted. -/
def State.pcieToL2 (s : State) (n : Nat) : State :=
  let s := (s.withSide n fun x => { x with pme := false }).perst n 0
  ((s.wr (Reg.PCIE_STAT_LSTATE n) 6).put (Reg.PCIE_STAT_DL_ACTIVE n) false).sendLevels n

/-- Station root ports release PERST_N and train; the root's upstream port leaves L1. -/
def State.pcieResume (s : State) : State :=
  if s.isRoot then (if s.rd (Reg.PCIE_STAT_LSTATE 0) == 5 then s.wr (Reg.PCIE_STAT_LSTATE 0) 3 else s)
  else [0, 1].foldl (fun (s : State) n =>
    if s.flag (Reg.PCIE_CTRL_PORT_EN n) then (s.perst n (b2n (!bit (s.side n).control 0))).wr (Reg.PCIE_STAT_LSTATE n) 0
    else s) s

/-- PCIE_CTRL.PORT_EN of port n has been written: 0 holds the link in Detect, with PERST_N asserted at a station. -/
def State.portEnWritten (s : State) (n : Nat) : State :=
  if s.flag (Reg.PCIE_CTRL_PORT_EN n) then (if s.isRoot then s else s.perstSync n)
  else
    let s := (s.wr (Reg.PCIE_STAT_LSTATE n) 0).put (Reg.PCIE_STAT_DL_ACTIVE n) false
    (if s.isRoot then s else s.perst n 0).sendLevels n

/-- A root port leaves test: it re-initializes (R548). -/
def State.pcieRetrain (s : State) (n : Nat) : State :=
  (((s.wr (Reg.PCIE_STAT_LSTATE n) 0).put (Reg.PCIE_STAT_DL_ACTIVE n) false).emit (.pcie n "RETRAIN" [] [])).sendLevels n

end Sys2Proof.Machine
end

