-- ==== Sys2Proof/Machine/EthPort.lean ====
section
/-!
DEFINITION. What every Ethernet port does with frames: tags and addresses, the egress store, time stamps, and the
time-aware gates (R391, R392, R397 to R405).
-/

namespace Sys2Proof.Machine

/-! Frames -/

/-- A big-endian number in `n` bytes of a frame. -/
def beAt (b : Bytes) (i n : Nat) : Nat := ofBe (slice b i n)

/-- A frame with its FCS (PRESUMED, IEEE 802.3: the CRC-32 of the frame, least significant byte first). -/
def withFcs (b : Bytes) : Bytes := b ++ le 4 (crc32 b)

/-- A frame without its FCS. -/
def bare (f : Bytes) : Bytes := f.take (f.length - 4)

/-- The FCS is right. -/
def fcsGood (f : Bytes) : Bool := withFcs (bare f) == f

/-- A TPID the port knows as a VLAN tag's (R395). -/
def State.isTag (s : State) (n v : Nat) : Bool := v == 0x8100 || v == s.rd (Reg.ETH_VLAN_TPID2 n)

/-- The outer tag's control information: none for an untagged frame. -/
def State.outerTag (s : State) (n : Nat) (f : Bytes) : Option Nat :=
  if s.isTag n (beAt f 12 2) then some (beAt f 14 2) else none

/-- Where the EtherType stands after at most `k` tags. -/
def State.typeAt (s : State) (n : Nat) (f : Bytes) : Nat → Nat → Nat
  | 0, i => i
  | k + 1, i => if s.isTag n (beAt f i 2) then s.typeAt n f k (i + 4) else i

/-- An address in registers, bits [47:32] and [31:0], as the first byte sent is the most significant. -/
def macBytes (hi lo : Nat) : Bytes := be 6 (hi % 65536 * 2 ^ 32 + lo)

/-! Ports -/

/-- Port n. -/
def State.ethPort (s : State) (n : Nat) : EthPort := Table.get (fun _ => {}) s.eth.ports n

/-- The machine with it replaced. -/
def State.setEthPort (s : State) (n : Nat) (x : EthPort) : State :=
  { s with eth := { s.eth with ports := Table.set (fun _ => {}) s.eth.ports n x } }

/-- Event counter k of port n (R606). -/
def ethCounter (n k : Nat) : Nat := 0x1B0 + 0x10 * n + k

/-- The MAC runs: EN is 1, the unit is in service, and the mode is not one in which the MACs are stopped (R545). -/
def State.macOn (s : State) (n : Nat) : Bool :=
  s.flag (Reg.ETH_CTRL_EN n) && !s.unitOut (0x48 + n) && s.inService

/-- Egress queue q of port n. -/
def State.ethQueue (s : State) (n q : Nat) : List Bytes := Table.get (fun _ => []) (s.ethPort n).queues q

/-- The machine with it replaced. -/
def State.setEthQueue (s : State) (n q : Nat) (l : List Bytes) : State :=
  let x := s.ethPort n
  s.setEthPort n { x with queues := Table.set (fun _ => []) x.queues q l }

/-- Bytes held by queue q. -/
def State.ethHeld (s : State) (n q : Nat) : Nat := ((s.ethQueue n q).map fun (f : Bytes) => f.length).foldl (· + ·) 0

/-- A frame of `len` bytes has room in queue q: what the queues hold above their 10 KiB guarantees fits the 16 KiB shared
(R397). -/
def State.ethRoom (s : State) (n q len : Nat) : Bool :=
  let excess (i : Nat) : Nat := s.ethHeld n i + (if i == q then len else 0) - 10240
  excess q == 0 || ((List.range 8).map excess).foldl (· + ·) 0 ≤ 16384

/-- The egress queue of a priority (R397). -/
def State.pcpQueue (s : State) (n pcp : Nat) : Nat := bits (s.rd (Reg.ETH_PCPMAP_MAP n)) (3 * pcp + 2) (3 * pcp)

/-- The egress queue of a frame. -/
def State.frameQueue (s : State) (n : Nat) (f : Bytes) : Nat :=
  s.pcpQueue n (match s.outerTag n f with | some t => t / 8192 | none => s.rd (Reg.ETH_VLAN_PRIO n))

/-- A frame enters an egress queue. -/
def State.ethQueueFrame (s : State) (n q : Nat) (f : Bytes) : State := s.setEthQueue n q (s.ethQueue n q ++ [f])

/-- A frame from a tunnel has room at port n. -/
def State.ethFits (s : State) (n : Nat) (f : Bytes) : Bool := s.ethRoom n (s.frameQueue n f) f.length

/-- A frame from a tunnel enters port n's egress store; STRIP removes the port's own tag (R397). -/
def State.ethAccept (s : State) (n : Nat) (f : Bytes) : State :=
  let q := s.frameQueue n f
  let own := match s.outerTag n f with | some t => t % 4096 == s.rd (Reg.ETH_VLAN_PVID n) | none => false
  let g := if s.flag (Reg.ETH_CTRL_STRIP n) && own then withFcs (f.take 12 ++ (bare f).drop 16) else f
  s.ethQueueFrame n q g

/-! Time stamps (R399 to R402) -/

/-- The stamp of a message at this instant, in 2^−16 ns: the Meridian time in steps of 0.25 ns with an error that the
manual bounds by 1 ns on ETH0 to ETH3 and 2 ns on ETH4 to ETH7 and leaves free (R402, log entry 30). -/
def State.ethStamp (s : State) (n : Nat) (tx : Bool) : Nat × State :=
  let bound : Nat := if n < 4 then 4 else 8
  let (e, s) := s.free 8
  let quarter : Int := s.reading / 16384 + (e % (2 * bound + 1) : Nat) - bound
  let delay : Int := if tx then toSigned 16 (s.rd (Reg.ETH_ASYM_TX_DELAY n)) else -(toSigned 16 (s.rd (Reg.ETH_ASYM_RX_DELAY n)))
  ((quarter * 16384 + delay * 8192).toNat, s)

/-- Where the PTP message of a frame starts, when ETH_PTP.MODE selects its encapsulation (R399); the formats of UDP, IPv4,
IPv6 and IEEE 1588 are PRESUMED. -/
def State.ptpAt (s : State) (n : Nat) (f : Bytes) : Option (Nat × Bool) :=
  let i := s.typeAt n f 2 12
  let t := beAt f i 2
  let mode := s.rd (Reg.ETH_PTP_MODE n)
  let ip4 := i + 2 + 4 * (leAt f (i + 2) 1 % 16)
  let at_ : Option (Nat × Bool) :=
    if t == 0x88F7 && bit mode 0 then some (i + 2, false)
    else if t == 0x0800 && bit mode 1 && leAt f (i + 11) 1 == 17 && beAt f (ip4 + 2) 2 == 319 then some (ip4 + 8, true)
    else if t == 0x86DD && bit mode 1 && leAt f (i + 8) 1 == 17 && beAt f (i + 44) 2 == 319 then some (i + 50, true)
    else none
  match at_ with
  | some (p, u) => if leAt f p 1 % 16 ≤ 3 && p + 34 ≤ f.length - 4 then some (p, u) else none
  | none => none

/-- A stamp enters the FIFO; one that finds it full is lost and counted (R400). -/
def State.pushStamp (s : State) (n : Nat) (x : PtpStamp) : State :=
  let p := s.ethPort n
  if p.fifo.length < 64 then s.setEthPort n { p with fifo := p.fifo ++ [x] } else s.bump (Reg.ETH_PTP_LOST n)

/-- The stamp of a message that starts at `p` in a frame. -/
def ptpEntry (f : Bytes) (p time : Nat) (tx : Bool) : PtpStamp :=
  { time := time, tx := tx, seq := beAt f (p + 30) 2, kind := leAt f p 1 % 16, domain := leAt f (p + 4) 1 }

/-- A received frame is stamped where it is a PTP event message that MODE selects. -/
def State.stampReceived (s : State) (n : Nat) (f : Bytes) : State :=
  match s.ptpAt n f with
  | none => s
  | some (p, _) =>
    let (t, s) := s.ethStamp n false
    (s.count (ethCounter n 0xE)).pushStamp n (ptpEntry f p t false)

/-- A frame at its start on the wire: stamped, or corrected by the one-step rule (R401). -/
def State.stampSent (s : State) (n : Nat) (f : Bytes) : Bytes × State :=
  match s.ptpAt n f with
  | none => (f, s)
  | some (p, udp) =>
    let (t, s) := s.ethStamp n true
    let s := s.count (ethCounter n 0xE)
    let twoStep := bit (leAt f (p + 6) 1) 1
    if s.flag (Reg.ETH_PTP_ONESTEP n) && !udp && leAt f p 1 % 16 == 0 && !twoStep then
      let origin := timeOf (beAt f (p + 34) 6) (beAt f (p + 40) 4) 0
      let c := ofSigned 64 (toSigned 64 (beAt f (p + 8) 8) + (t : Int) - origin)
      (withFcs (f.take (p + 8) ++ be 8 c ++ (bare f).drop (p + 16)), s)
    else (f, s.pushStamp n (ptpEntry f p t true))

/-! Gates (R403 to R405) -/

/-- The spans of one cycle of a list, in ns: what is open and for how long; the last entry lasts to the cycle's end, and
the list is cut there. -/
def gateSpans : Nat → List Word → List (Nat × Nat)
  | _, [] => []
  | left, [w] => if left == 0 then [] else [(w.toNat / 2 ^ 24, left)]
  | left, w :: r =>
    if left == 0 then []
    else
      let d := min left (max 64 (w.toNat % 2 ^ 24))
      (w.toNat / 2 ^ 24, d) :: gateSpans (left - d) r

/-- The spans of port n's operational list. -/
def State.operSpans (s : State) (n : Nat) : List (Nat × Nat) :=
  let g := (s.ethPort n).oper
  gateSpans g.cycle ((List.range (clamp 1 64 g.len)).map fun i => s.reg (Reg.ETH_GOPR_A n i))

/-- The spans of a pending list. -/
def gateListSpans (g : GateList) : List (Nat × Nat) := gateSpans g.cycle (g.words.take (clamp 1 64 g.len))

/-- The entry in force at offset `o` in the cycle (2^−16 ns), and what is left of its span. -/
def entryAt : List (Nat × Nat) → Nat → Nat → Nat × Nat
  | [], _, i => (i - 1, 0)
  | (_, d) :: r, o, i => if o < d * 65536 then (i, d * 65536 - o) else entryAt r (o - d * 65536) (i + 1)

/-- How long queue q stays open through spans; the flag says that a closed one ends it. -/
def openFor (q : Nat) : List (Nat × Nat) → Nat × Bool
  | [] => (0, false)
  | (g, d) :: r =>
    if bit g q then
      let (t, c) := openFor q r
      (d * 65536 + t, c)
    else (0, true)

/-- When a list closes the gate of queue q, from time t on: `none` where it is closed at t, `some none` where it never
closes. -/
def gateEnd (spans : List (Nat × Nat)) (base cycle q : Nat) (t : Int) : Option (Option Int) :=
  let o := ((t - base * 65536) % ((orOne cycle * 65536 : Nat) : Int)).toNat
  let (i, left) := entryAt spans o 0
  match spans[i]? with
  | none => some none
  | some (g, _) =>
    if !bit g q then none
    else
      let (d, closes) := openFor q (spans.drop (i + 1) ++ spans.take (i + 1))
      some (if closes then some (t + left + d) else none)

/-- The gates of port n are in force (R403). -/
def State.gated (s : State) (n : Nat) : Bool := 4 ≤ n && s.flag (Reg.ETH_GCTL_GATE_EN n) && s.merRun

/-- When the gate of queue q next closes, a pending list's change included. -/
def State.gateCloses (s : State) (n q : Nat) : Option (Option Int) :=
  if !s.gated n then some none
  else
    let x := s.ethPort n
    match gateEnd (s.operSpans n) x.oper.base x.oper.cycle q s.reading with
    | none => none
    | some c =>
      match x.next with
      | none => some c
      | some (g, change) =>
        let at_ : Int := (change : Int) * 65536
        let first := match c with | some c => decide (c ≤ at_) | none => false
        if first then some c
        else some (match gateEnd (gateListSpans g) g.base g.cycle q at_ with | none => some at_ | some c => c)

/-- The longest open span of queue q in the operational list, in ns; none where the gate never closes (R404). -/
def State.longestOpen (s : State) (n q : Nat) : Option Nat :=
  let spans := s.operSpans n
  if spans.all fun x => bit x.1 q then none
  else
    let run := (spans ++ spans).foldl (fun (a : Nat × Nat) (x : Nat × Nat) =>
      let now := if bit x.1 q then a.1 + x.2 else 0
      (now, max a.2 now)) (0, 0)
    some run.2

/-- The port's present rate in Mb/s (R391, R406). -/
def State.ethRate (s : State) (n : Nat) : Nat :=
  let mode := s.rd (Reg.ETH_CTRL_MODE n)
  if n < 4 then (if mode == 1 then 10000 else 25000)
  else if mode == 1 then [10, 100, 1000, 1000].getD (s.rd (Reg.ETH_STAT_SPEED n)) 1000
  else 2500

/-- The wire time of a frame in 2^−16 ns: preamble, SFD and interframe gap included (R404). -/
def State.wireTime (s : State) (n len : Nat) : Nat := (len + 20) * 8 * 1000 * 65536 / s.ethRate n

/-- ENTRY follows the time (R403). -/
def State.gateEntry (s : State) (n : Nat) : State :=
  if !s.gated n then s
  else
    let g := (s.ethPort n).oper
    let o := ((s.reading - g.base * 65536) % ((orOne g.cycle * 65536 : Nat) : Int)).toNat
    s.wr (Reg.ETH_GCTL_ENTRY n) (entryAt (s.operSpans n) o 0).1

/-- A step of Meridian moves every list to the entry of the new time. -/
def State.gatesStepped (s : State) : State := [4, 5, 6, 7].foldl State.gateEntry s

/-- A frame of queue q may start now (R404). -/
def State.frameMayStart (s : State) (n q len : Nat) : Bool :=
  match s.gateCloses n q with
  | none => false
  | some none => true
  | some (some c) => decide (s.reading + s.wireTime n len ≤ c)

end Sys2Proof.Machine
end

