-- ==== Sys2Proof/Machine/Point.lean ====
section
/-!
DEFINITION. The point engine: the map and its loads, the images, the cycle with its fetch, scatter walk, gather window and
loss pass, publication, and commits (R409 to R439).
-/

namespace Sys2Proof.Machine

/-- The machine with the point engine changed. -/
def State.withPoint (s : State) (f : Point → Point) : State := { s with point := f s.point }

/-! Descriptors (R414, R415) -/

/-- Fields of a descriptor. -/
def dValid (d : Nat) : Bool := bit d 63
def dInput (d : Nat) : Bool := bit d 62
def dWidth (d : Nat) : Nat := [1, 8, 16, 32].getD (bits d 61 60) 1
def dTs (d : Nat) : Nat := bits d 59 58
def dLoss (d : Nat) : Nat := bits d 57 56
def dSub (d : Nat) : Nat := bits d 55 52
def dIsland (d : Nat) : Nat := bits d 51 46
def dFrm (d : Nat) : Nat := bits d 45 29
def dImg (d : Nat) : Nat := bits d 28 7

/-- Image bits that a point occupies: 64 with a stamp. -/
def dImgBits (d : Nat) : Nat := if dTs d != 0 then 64 else dWidth d

/-- The byte after the value in the block, where an island stamp stands. -/
def dStampAt (d : Nat) : Nat := ceilDiv (dFrm d + dWidth d) 8

/-- The byte after all that the point takes in the block. -/
def dEnd (d : Nat) : Nat := dStampAt d + (if dTs d == 1 then 4 else 0)

/-- A load stores the descriptor as it is (R416). -/
def dLoadable (d : Nat) : Bool :=
  d % 128 == 0 && dTs d != 3 && !(dTs d != 0 && !dInput d) &&
    (dWidth d == 1 || dFrm d % 8 == 0) && dImg d % dWidth d == 0 && (dTs d == 0 || dImg d % 64 == 0)

/-- Descriptor i of the map. -/
def State.descriptor (s : State) (i : Nat) : Nat := Table.get (fun _ => 0) s.point.map i

/-! Images (R409, R415) -/

/-- A byte of buffer b of an image. -/
def imgByte (t : Table Bytes) (b i : Nat) : Byte :=
  (Table.get (fun _ => zeros 256) t (2048 * b + i / 256)).getD (i % 256) 0

/-- The image with it replaced. -/
def setImgByte (t : Table Bytes) (b i : Nat) (v : Byte) : Table Bytes :=
  let k := 2048 * b + i / 256
  Table.set (fun _ => zeros 256) t k ((Table.get (fun _ => zeros 256) t k).set (i % 256) v)

/-- `n` bytes of buffer b. -/
def imgRead (t : Table Bytes) (b i n : Nat) : Nat := ofLe ((List.range n).map fun k => imgByte t b (i + k))

/-- The image with bytes written. -/
def imgWrite (t : Table Bytes) (b : Nat) : Nat → Bytes → Table Bytes
  | _, [] => t
  | i, v :: r => setImgByte (imgWrite t b (i + 1) r) b i v

/-- The value of `w` bits at bit offset `o`. -/
def imgGet (t : Table Bytes) (b o w : Nat) : Nat :=
  if w == 1 then b2n (bit (imgByte t b (o / 8)).toNat (o % 8)) else imgRead t b (o / 8) (w / 8)

/-- The image with a value of `w` bits at bit offset `o`. -/
def imgPut (t : Table Bytes) (b o w v : Nat) : Table Bytes :=
  if w == 1 then setImgByte t b (o / 8) (byte (putBit (imgByte t b (o / 8)).toNat (o % 8) (bit v 0)))
  else imgWrite t b (o / 8) (le (w / 8) v)

/-- A block with a value of `w` bits at bit offset `o`. -/
def blockPut (b : Bytes) (o w v : Nat) : Bytes :=
  if w == 1 then b.set (o / 8) (byte (putBit (b.getD (o / 8) 0).toNat (o % 8) (bit v 0)))
  else b.take (o / 8) ++ le (w / 8) v ++ b.drop (o / 8 + w / 8)

/-- The value of `w` bits at bit offset `o` of a block. -/
def blockGet (b : Bytes) (o w : Nat) : Nat :=
  if w == 1 then b2n (bit (b.getD (o / 8) 0).toNat (o % 8)) else leAt b (o / 8) (w / 8)

/-! Times (R423) -/

/-- P in ns. -/
def State.pointP (s : State) : Nat := s.point.period * 31250

/-- T_k in ns. -/
def State.pointT (s : State) (k : Nat) : Nat := s.point.base + k * s.pointP

/-- Meridian runs and has reached a time in ns. -/
def State.reached (s : State) (ns : Nat) : Bool := s.merRun && decide ((ns : Int) * 65536 ≤ s.reading)

/-- The control block's address (R410). -/
def State.pointCb (s : State) : Nat := s.rd Reg.PNT_CB_LO_ADDR_LO * 4096 + s.rd Reg.PNT_CB_HI_ADDR_HI * 2 ^ 32

/-- Cycles are skipped: a mode or a transition without wrapping, or the engine is out of service (R431). -/
def State.pointHalted (s : State) : Bool := !s.wrapping || s.unitOut 0x50

/-- STATE follows (R436). -/
def State.pointState (s : State) : State :=
  s.wr Reg.PNT_STAT_STATE (if !s.point.on then 0 else if s.pointHalted then 3 else if s.merRun then 2 else 1)

/-! Islands (R417) -/

/-- Island i of the active set. -/
def State.islandOn (s : State) (i : Nat) : Bool := s.rdAct (Reg.PNT_ISL_CFG_EN i) != 0

/-- The enabled islands, ascending. -/
def State.islands (s : State) : List Nat := (List.range 64).filter s.islandOn

/-- The engine's part of island i. -/
def State.island (s : State) (i : Nat) : Island := Table.get (fun _ => {}) s.point.islands i

/-- The machine with it replaced. -/
def State.setIsland (s : State) (i : Nat) (x : Island) : State :=
  s.withPoint fun p => { p with islands := Table.set (fun _ => {}) p.islands i x }

/-- Bit i of a pair of registers. -/
def State.pairBit (s : State) (lo hi : Fld) (i : Nat) : Bool := if i < 32 then bit (s.rd lo) i else bit (s.rd hi) (i - 32)

/-- The machine with it changed. -/
def State.setPairBit (s : State) (lo hi : Fld) (i : Nat) (b : Bool) : State :=
  if i < 32 then s.wr lo (putBit (s.rd lo) i b) else s.wr hi (putBit (s.rd hi) (i - 32) b)

/-- Island i is DOWN. -/
def State.islandDown (s : State) (i : Nat) : Bool := s.pairBit Reg.PNT_DOWN_LO_DOWN Reg.PNT_DOWN_HI_DOWN i

/-- The descriptors of a range that the walk takes, and how many are descriptor errors (R417).  A descriptor of the other
direction is passed over (log entry 31). -/
def State.walk (s : State) (i first count bytes imgLen : Nat) (input : Bool) : List Nat × Nat :=
  let ds := ((List.range count).map fun k => s.descriptor (first + k)).filter fun d => dValid d && dInput d == input
  let ok (d : Nat) : Bool := dIsland d == i && dEnd d ≤ bytes && dImg d + dImgBits d ≤ imgLen * 2048
  (ds.filter ok, (ds.filter fun d => !ok d).length)

/-- The output descriptors of island i. -/
def State.outWalk (s : State) (i : Nat) : List Nat × Nat :=
  s.walk i (s.rdAct (Reg.PNT_ISL_OFIRST_FIRST i)) (s.rdAct (Reg.PNT_ISL_OCNT_COUNT i)) (s.rdAct (Reg.PNT_ISL_OCNT_BYTES i))
    s.point.outLen false

/-- The input descriptors of island i. -/
def State.inWalk (s : State) (i : Nat) : List Nat × Nat :=
  s.walk i (s.rdAct (Reg.PNT_ISL_IFIRST_FIRST i)) (s.rdAct (Reg.PNT_ISL_ICNT_COUNT i)) (s.rdAct (Reg.PNT_ISL_ICNT_BYTES i))
    s.point.inLen true

/-- A descriptor's substitute value (R427). -/
def State.substitute (s : State) (d : Nat) : Nat :=
  if dLoss d == 1 then 0
  else if dLoss d == 2 then 2 ^ dWidth d - 1
  else s.rd (Reg.PNT_SUBST_VALUE (dSub d)) % 2 ^ dWidth d

/-! Skipped cycles (R431) -/

/-- `n` cycles from k on are skipped, or a publication is dropped. -/
def State.pointSkip (s : State) (k reason n : Nat) : State :=
  let s := s.withPoint fun p => { p with skipped := satAdd 0xFFFF p.skipped n }
  ((s.put Reg.PNT_STAT_SKIP true).count 0x242 n).limited 0x0F03_0000 0x0F03
    (fun m => le 4 k ++ [byte reason] ++ le 2 m) n

/-! The checks of a set (R430, R433) -/

/-- MAP_LIMIT for a period at the present operating point. -/
def State.mapLimit (s : State) (n : Nat) : Nat := min 262144 (32768 * n / 2 ^ s.rd Reg.CLK_OP_CUR)

/-- The period in force: sampled, or before EN's rise the register's. -/
def State.pointPeriod (s : State) : Nat := if s.point.on then s.point.period else s.rd Reg.PNT_PERIOD_PERIOD_N

/-- What reads a field of a set: the shadow or the active copy. -/
abbrev SetView := State → Fld → Nat

/-- MAP_USED of a set. -/
def State.mapUsed (s : State) (v : SetView) : Nat :=
  (((List.range 64).filter fun i => v s (Reg.PNT_ISL_CFG_EN i) != 0).map fun i =>
    v s (Reg.PNT_ISL_OCNT_COUNT i) + v s (Reg.PNT_ISL_ICNT_COUNT i)).foldl (· + ·) 0

/-- The reason for which a set is refused, in POINT_CONFIG's encoding; 0 when it is not. -/
def State.pointCheck (s : State) (v : SetView) (rise : Bool) : Nat :=
  let n := s.pointPeriod
  let p := n * 31250
  let beyond := (List.range 64).any fun i =>
    262144 < v s (Reg.PNT_ISL_OFIRST_FIRST i) + v s (Reg.PNT_ISL_OCNT_COUNT i) ||
      262144 < v s (Reg.PNT_ISL_IFIRST_FIRST i) + v s (Reg.PNT_ISL_ICNT_COUNT i)
  let apply := v s Reg.PNT_APPLY_OFF_NS
  let close := v s Reg.PNT_CLOSE_OFF_NS
  let len (f : Fld) : Bool := 1 ≤ s.rd f && s.rd f ≤ 2048
  if s.mapLimit n < s.mapUsed v then 1
  else if beyond then 2
  else if !(apply < close && close + 1000 ≤ p && v s Reg.PNT_FETCH_LEAD_NS ≤ p) then 3
  else if rise && !(1 ≤ n && n ≤ 2096) then 4
  else if rise && !(len Reg.PNT_IMG_OUT_LEN && len Reg.PNT_IMG_IN_LEN) then 5
  else 0

/-- A set is refused. -/
def State.pointRefuse (s : State) (v : SetView) (reason : Nat) : State :=
  ((s.put Reg.PNT_STAT_CFG_ERR true).wr Reg.PNT_CFGERR_REASON reason).notice 0x0F05 (byte reason :: le 3 (s.mapUsed v))

/-- The registers of the set: the three offsets and the island entries (R432, R437). -/
def pointSetRegs : List Nat :=
  [Reg.PNT_FETCH_LEAD_A, Reg.PNT_APPLY_OFF_A, Reg.PNT_CLOSE_OFF_A] ++
    (List.range 64).flatMap fun i => (List.range 7).map fun k => Reg.PNT_ISL_CFG_A i + 4 * k

/-- The pending set latches at cycle k, if it passes (R425, R432, R433). -/
def State.pointLatch (s : State) (k : Nat) : State :=
  if !s.flag Reg.PNT_COMMIT_STAT_PENDING || k < s.point.commitFrom then s
  else
    let s := s.put Reg.PNT_COMMIT_STAT_PENDING false
    let bad := s.pointCheck State.rd false
    if bad != 0 then s.pointRefuse State.rd bad
    else
      let s := (s.latchRegs pointSetRegs).wr Reg.PNT_MAPUSED_USED (s.mapUsed State.rd)
      (s.incr Reg.PNT_COMMIT_STAT_LATCH_CNT).wr Reg.PNT_COMMIT_STAT_LATCH_CYCLE k

/-- The pending set latches with the engine off: within 1 µs, here in the same step (R432). -/
def State.pointLatchOff (s : State) : State := (s.withPoint fun p => { p with commitFrom := 0 }).pointLatch s.point.k

/-- POINT_COMMIT (R425, R432): one that lands in the core cycle of T_k latches at T_{k+1}, and one while PENDING is 1
changes nothing more. -/
def execPointCommit (s : State) : Out :=
  onHub (fun s =>
    if s.flag Reg.PNT_COMMIT_STAT_PENDING then s
    else
      let s := s.put Reg.PNT_COMMIT_STAT_PENDING true
      if s.flag Reg.PNT_CTRL_EN then
        s.withPoint fun p => { p with commitFrom := p.next + b2n (p.on && s.reached (s.pointT p.next)) }
      else s.pointLatchOff) s

/-! EN (R409, R411, R423) -/

/-- POINT_ENABLE (R423): `mem` holds the control block.  While its bases cannot be read the engine stays OFF (log entry
32). -/
def execPointEnable (mem : HostMem) (s : State) : Out :=
  onHub (fun s =>
    if s.flag Reg.PNT_CTRL_EN && !s.point.due then s
    else
      let s := (s.put Reg.PNT_CTRL_EN true).withPoint fun p => { p with due := false, on := false }
      let bad := s.pointCheck State.rdAct true
      if bad != 0 then (s.pointRefuse State.rdAct bad).pointState
      else
        let s := s.hostRead 2 s.pointCb 32
        match mem.read s.pointCb 32 with
        | none => (s.withPoint fun p => { p with due := true }).pointState
        | some b =>
          let base : Nat := (s.rd Reg.PNT_BASE_SL_SEC_LO + s.rd Reg.PNT_BASE_SH_SEC_HI * 2 ^ 32) * 1000000000 + s.rd Reg.PNT_BASE_NS_NSEC
          let n := s.rd Reg.PNT_PERIOD_PERIOD_N
          let from_ : Int := -(-s.reading / 65536) + (s.rdAct Reg.PNT_FETCH_LEAD_NS : Nat) + 10000 - (base : Nat)
          let k := ceilDiv from_.toNat (orOne (n * 31250))
          let etype := s.rd Reg.PNT_CTRL_ETYPE
          let outLen := s.rd Reg.PNT_IMG_OUT_LEN
          let inLen := s.rd Reg.PNT_IMG_IN_LEN
          let s := s.withPoint fun p => { p with
            on := true, outImg := [], inImg := [], outSel := 0, inSel := 0, outLen := outLen, inLen := inLen
            outBase := [leAt b 0 8, leAt b 8 8], inBase := [leAt b 16 8, leAt b 24 8]
            base := base, period := n, etype := etype, next := k, phase := .idle, fetch := none, staleRun := 0
            outTag := 0, islands := [], unreached := [], backlog := [] }
          (s.wr Reg.PNT_MAPUSED_USED (s.mapUsed State.rdAct)).pointState) s

/-- EN has been written 0: the engine stops, and a set that was pending latches as R432 says of EN at 0. -/
def State.pointStop (s : State) : State :=
  (s.withPoint fun p => { p with
    on := false, due := false, phase := .idle, fetch := none, unreached := [], backlog := [] }).pointState.pointLatchOff

/-- A step of Meridian (R426). -/
def State.pointStepped (s : State) (fwd : Bool) : State :=
  let s := s.pointState
  if !s.point.on || !fwd then s
  else
    let past : Int := s.reading / 65536 - s.point.base
    let k := if past < 0 then 0 else past.toNat / orOne s.pointP + 1
    let next := s.point.next
    if k ≤ next then s
    else (s.withPoint fun p => { p with next := k, fetch := none }).pointSkip next 3 (k - next)

/-! Map loads (R416) -/

/-- The notice at a load's end. -/
def State.loadNotice (s : State) (first : Nat) (dma refused : Bool) : State :=
  s.notice 0x0F06 (le 3 first ++ le 3 (s.rd Reg.PNT_LD_CTRL_BAD) ++ [byte (b2n dma + 2 * b2n refused)])

/-- The load ends when its last descriptor has been dealt with. -/
def State.loadEnd (s : State) : State :=
  match s.point.load with
  | none => s
  | some l =>
    if l.next < l.stop then s
    else
      let s := s.withPoint fun p => { p with load := none }
      let s := (s.put Reg.PNT_LD_CTRL_BUSY false).put Reg.PNT_LD_CTRL_DONE true
      (if l.dmaErr then s.put Reg.PNT_LD_CTRL_DMA_ERR true else s).loadNotice l.first l.dmaErr false

/-- POINT_LOAD_GO (R416). -/
def execPointLoadGo (s : State) : Out :=
  onHub (fun s =>
    let first := s.rd Reg.PNT_LD_FIRST_FIRST
    let count := s.rd Reg.PNT_LD_COUNT_COUNT
    if s.flag Reg.PNT_LD_CTRL_BUSY || 262144 < first + count then
      (s.put Reg.PNT_LD_CTRL_ERR true).loadNotice first false true
    else
      let a := s.rd Reg.PNT_LD_ADDR_LO_ADDR_LO * 8 + s.rd Reg.PNT_LD_ADDR_HI_ADDR_HI * 2 ^ 32
      let s := ((s.put Reg.PNT_LD_CTRL_BUSY true).wr Reg.PNT_LD_CTRL_BAD 0).setReg Reg.PNT_LD_FIRSTBAD_A 0
      let s := s.withPoint fun p => { p with load := some { next := first, stop := first + count, first := first, addr := a } }
      (s.hostRead 2 a (8 * count)).loadEnd) s

/-- A descriptor is stored at index i. -/
def State.storeDescriptor (s : State) (i d : Nat) : State :=
  let good := dLoadable d
  let s := s.withPoint fun p => { p with map := Table.set (fun _ => 0) p.map i (if good then d else clearBit d 63) }
  if good then s
  else
    let s := if s.flag Reg.PNT_LD_FIRSTBAD_VALID then s
      else (s.put Reg.PNT_LD_FIRSTBAD_VALID true).wr Reg.PNT_LD_FIRSTBAD_INDEX i
    s.bump Reg.PNT_LD_CTRL_BAD

/-- The map load takes the next `n` descriptors in order from `b`, or the failure of the read that holds them, which are
then not written (R416). -/
def State.loadArrived (s : State) (b : Bytes) (good : Bool) (n : Nat) : State :=
  match s.point.load with
  | none => s
  | some l =>
    let n := min (l.stop - l.next) n
    let s := s.sfnEnd 2 l.addr
    let s := if good then (List.range n).foldl (fun (s : State) k => s.storeDescriptor (l.next + k) (leAt b (8 * k) 8)) s else s
    (s.withPoint fun p => { p with
      load := some { l with next := l.next + n, addr := l.addr + 8 * n, dmaErr := l.dmaErr || !good } }).loadEnd

/-- Reads of the map load that have completed are taken in the order of their addresses (at most `fuel`). -/
def State.loadEarly : Nat → State → State
  | 0, s => s
  | fuel + 1, s => match s.point.load with
    | none => s
    | some l => match l.early.find? fun e => e.1 == l.addr with
      | none => s
      | some e =>
        let s := s.withPoint fun p => { p with load := some { l with early := l.early.erase e } }
        State.loadEarly fuel (s.loadArrived e.2.1 e.2.2 (e.2.1.length / 8))

/-- POINT_LOAD_COMPLETION (R416): without `good` the read of up to 32 descriptors that comes next has failed. -/
def execPointLoadCompletion (b : Bytes) (good : Bool) (s : State) : Out :=
  onHub (fun s => match s.point.load with
    | none => s
    | some l => State.loadEarly 128 (s.loadArrived b good (if good then b.length / 8 else 32 - (l.next - l.first) % 32))) s

/-! The output fetch (R411) -/

/-- POINT_FETCH_START (R424). -/
def execPointFetchStart (s : State) : Out :=
  onHub (fun s =>
    let k := s.point.next
    let started := match s.point.fetch with | some f => f.k == k | none => false
    if !s.point.on || s.pointHalted || started || !s.reached (s.pointT k - s.rdAct Reg.PNT_FETCH_LEAD_NS) then s
    else
      let parts := List.range s.point.outLen
      (s.withPoint fun p => { p with fetch := some { k := k, left := parts } }).hostRead 2 (s.pointCb + 32) 8) s

/-- The output fetch (R411) takes `mem`, what completions have brought; a failed read fails the fetch (R413), and in the
core cycle of T_k the last completion is late (R425). -/
def State.fetchArrived (s : State) (mem : HostMem) (failed : Bool) : State :=
    match s.point.fetch with
    | none => s
    | some f =>
      let setF (s : State) (f : PointFetch) : State := s.withPoint fun p => { p with fetch := some f }
      if failed then setF s { f with failed := true }
      else
        let (f, s) := match f.head, mem.read (s.pointCb + 32) 8 with
          | none, some b =>
            let s := s.sfnEnd 2 (s.pointCb + 32)
            let sel := leAt b 0 1 % 2
            ({ f with head := some (sel, leAt b 4 4) }, s.hostRead 2 (s.point.outBase.getD sel 0) (256 * s.point.outLen))
          | _, _ => (f, s)
        match f.head with
        | none => setF s f
        | some (sel, _) =>
          let base := s.point.outBase.getD sel 0
          let buf := 1 - s.point.outSel
          let step (x : Table Bytes × List Nat) (c : Nat) : Table Bytes × List Nat :=
            match mem.read (base + 256 * c) 256 with
            | some b => (Table.set (fun _ => zeros 256) x.1 (2048 * buf + c) b, x.2)
            | none => (x.1, x.2 ++ [c])
          let (img, left) := f.left.foldl step (s.point.outImg, [])
          let s := (f.left.filter fun c => !left.contains c).foldl (fun (s : State) c => s.sfnEnd 2 (base + 256 * c)) s
          let late := left == [] && s.reached (s.pointT f.k)
          (setF s { f with left := if late then f.left else left }).withPoint fun p => { p with outImg := img }

/-- POINT_FETCH_DATA_ARRIVAL (R411). -/
def execPointFetchDataArrival (mem : HostMem) (failed : Bool) (s : State) : Out :=
  onHub (fun s => s.fetchArrived mem failed) s

/-! The scatter walk (R418 to R421) -/

/-- An island's address and the frame around a point header and its data. -/
def State.pointFrame (s : State) (i : Nat) (body : Bytes) : Bytes :=
  let dst := macBytes (s.rdAct (Reg.PNT_ISL_MACHI_MAC_HI i)) (s.rdAct (Reg.PNT_ISL_MACLO_MAC_LO i))
  let src := macBytes (s.rd Reg.PNT_SMAC_HI_MAC_HI) (s.rd Reg.PNT_SMAC_LO_MAC_LO)
  let tag := if s.rdAct (Reg.PNT_ISL_CFG_TAG i) == 0 then []
    else be 2 0x8100 ++ be 2 (s.rdAct (Reg.PNT_ISL_CFG_PCP i) * 8192 + s.rdAct (Reg.PNT_ISL_CFG_VID i))
  let f := dst ++ src ++ tag ++ be 2 s.point.etype ++ body
  withFcs (f ++ zeros (60 - f.length))

/-- The point header of frame f of F (R419). -/
def State.pointHeader (s : State) (i k f frags len : Nat) (stale subst : Bool) : Bytes :=
  let t := s.pointT k
  let flags := b2n (f + 1 == frags) + 2 * b2n stale + 4 * b2n subst
  [0x11, byte i, byte s.position, byte flags] ++ le 4 k ++ le 4 (t % 1000000000) ++
    le 4 ((t + s.rdAct Reg.PNT_APPLY_OFF_NS) % 1000000000) ++ [byte f, byte frags] ++ le 2 (1472 * f) ++ le 2 len ++ [0, 0]

/-- The output block of island i (R415, R428). -/
def State.outBlock (s : State) (ds : List Nat) (i : Nat) (subst : Bool) : Bytes :=
  ds.foldl (fun (b : Bytes) d =>
    let v := if subst && dLoss d != 0 then s.substitute d else imgGet s.point.outImg s.point.outSel (dImg d) (dWidth d)
    blockPut b (dFrm d) (dWidth d) v) (zeros (s.rdAct (Reg.PNT_ISL_OCNT_BYTES i)))

/-- The frames of a block (R420). -/
def State.blockFrames (s : State) (i k : Nat) (block : Bytes) (stale subst : Bool) : List Bytes :=
  let frags := max 1 (ceilDiv block.length 1472)
  (List.range frags).map fun f =>
    let d := slice block (1472 * f) 1472
    s.pointFrame i (s.pointHeader i k f frags d.length stale subst ++ d)

/-- Frames that wait enter their ports' stores as room allows, in order on each port. -/
def State.pointDrain (s : State) : State :=
  let (s, left) := s.point.backlog.foldl (fun (x : State × List (Nat × Nat × Nat × Bytes)) (e : Nat × Nat × Nat × Bytes) =>
    let (s, left) := x
    let (_, n, q, f) := e
    if left.any (fun y => y.2.1 == n) || !s.ethRoom n q f.length then (s, left ++ [e])
    else ((s.ethQueueFrame n q f).count 0x238, left)) (s, [])
  s.withPoint fun p => { p with backlog := left }

/-- One island of the scatter walk. -/
def State.scatter (s : State) (k : Nat) (stale subst : Bool) (i : Nat) : State :=
  let (ds, errors) := s.outWalk i
  let n := s.rdAct (Reg.PNT_ISL_CFG_PORT i)
  let pcp := if s.rdAct (Reg.PNT_ISL_CFG_TAG i) == 0 then s.rd (Reg.ETH_VLAN_PRIO n) else s.rdAct (Reg.PNT_ISL_CFG_PCP i)
  let frames := (s.blockFrames i k (s.outBlock ds i subst) stale subst).map fun f => (i, n, s.pcpQueue n pcp, f)
  (s.withPoint fun p => { p with backlog := p.backlog ++ frames }).count 0x23E errors

/-- The islands whose ranges the walk has covered by the close: two descriptors in a core cycle (R430). -/
def State.walkReach (s : State) : List Nat × List Nat :=
  let limit := rawOfNs (s.rdAct Reg.PNT_CLOSE_OFF_NS)
  let step (x : Nat × List Nat × List Nat) (i : Nat) : Nat × List Nat × List Nat :=
    let c := x.1 + s.rdAct (Reg.PNT_ISL_OCNT_COUNT i)
    let t := ceilDiv c 2 * (2 * 2 ^ s.rd Reg.CLK_OP_CUR) * rawPeriod
    if t ≤ limit then (c, x.2.1 ++ [i], x.2.2) else (c, x.2.1, x.2.2 ++ [i])
  (s.islands.foldl step (0, [], [])).2

/-! The cycle (R424, R425, R428) -/

/-- The outputs of cycle k: a complete fetch swaps the buffers, and anything else is stale. -/
def State.pointOutputs (s : State) (k : Nat) : State :=
  let got := match s.point.fetch with
    | some f => if f.k == k && !f.failed && f.left == [] then f.head else none
    | none => none
  let failed := match s.point.fetch with | some f => f.k == k && f.failed | none => false
  match got with
  | some (_, tag) =>
    s.withPoint fun p => { p with
      outSel := 1 - p.outSel, outTag := tag, staleRun := 0, flagStale := false, flagSubst := false, fetch := none }
  | none =>
    let run := s.point.staleRun + 1
    let subst : Bool := decide (s.rd Reg.PNT_CTRL_STALE_HOLD < run)
    let s := s.withPoint fun p => { p with staleRun := run, flagStale := true, flagSubst := subst, fetch := none }
    ((s.put Reg.PNT_STAT_OUT_STALE true).count 0x241).limited 0x0F04_0000 0x0F04 fun _ =>
      le 4 k ++ [if failed then 2 else 1, byte (b2n subst)]

/-- POINT_CYCLE_START (R424). -/
def execPointCycleStart (s : State) : Out :=
  onHub (fun s =>
    let k := s.point.next
    if !s.point.on || s.point.phase == .open_ || !s.reached (s.pointT k) then s
    else
      let s := if s.point.phase == .loss then s.pointSkip s.point.k 1 1 else s
      let s := s.withPoint fun p => { p with phase := .idle, next := k + 1 }
      if s.pointHalted then (s.withPoint fun p => { p with fetch := none }).pointState.pointSkip k 4 1
      else
        let s := (s.pointState.pointLatch k).pointOutputs k
        let (reach, miss) := s.walkReach
        let s := s.withPoint fun p => { p with
          k := k, phase := .open_, islands := [], flagLate := p.lateNext, lateNext := false, flagInSubst := false
          unreached := miss, backlog := [] }
        let s := (s.wr Reg.PNT_CYCLE_LO_K_LO k).wr Reg.PNT_CYCLE_HI_K_HI (k / 2 ^ 32)
        let s := reach.foldl (fun (s : State) i => s.scatter k s.point.flagStale s.point.flagSubst i) s
        (s.count 0x243).pointDrain) s

/-! Input frames (R422, R429) -/

/-- A value and its stamp enter the building buffer. -/
def State.putPoint (s : State) (d v stamp : Nat) : State :=
  let b := s.point.inSel
  let put (t : Table Bytes) : Table Bytes :=
    if dTs d == 0 then imgPut t b (dImg d) (dWidth d) v else imgWrite t b (dImg d / 8) (le 4 v ++ le 4 stamp)
  s.withPoint fun p => { p with inImg := put p.inImg }

/-- The points that end within the part of the block that has just arrived. -/
def State.gather (s : State) (ds : List Nat) (block : Bytes) (old stamp : Nat) : State :=
  ds.foldl (fun (s : State) d =>
    if dEnd d ≤ old || block.length < dEnd d then s
    else s.putPoint d (blockGet block (dFrm d) (dWidth d)) (if dTs d == 1 then leAt block (dStampAt d) 4 else stamp)) s

/-- The gather window is open: its close, whose core cycle makes a frame late, has not come (R424, R425). -/
def State.windowOpen (s : State) : Bool :=
  s.point.phase == .open_ && !s.reached (s.pointT s.point.k + s.rdAct Reg.PNT_CLOSE_OFF_NS)

/-- A point frame received on port n, with its receive stamp in ns: the checks of R422 in order. -/
def State.pointInput (s : State) (n : Nat) (f : Bytes) (stamp : Nat) : State :=
  let h := s.typeAt n f 1 12 + 2
  let s := s.count 0x239
  let at_ (i w : Nat) : Nat := leAt f (h + i) w
  let i := at_ 1 1
  let x := s.island i
  let addr := macBytes (s.rdAct (Reg.PNT_ISL_MACHI_MAC_HI i)) (s.rdAct (Reg.PNT_ISL_MACLO_MAC_LO i))
  if at_ 0 1 != 0x12 then s.count 0x23A
  else if 64 ≤ i || !s.islandOn i || s.rdAct (Reg.PNT_ISL_CFG_PORT i) != n ||
      (s.rdAct (Reg.PNT_ISL_CFG_MAC_CHK i) != 0 && slice f 6 6 != addr) then s.count 0x23B
  else if at_ 2 1 != s.position then s.count 0x23B
  else if !s.windowOpen || at_ 4 4 != s.point.k % 2 ^ 32 then
    (s.withPoint fun p => if s.windowOpen then { p with flagLate := true } else { p with lateNext := true }).count 0x23C
  else
    let bytes := s.rdAct (Reg.PNT_ISL_ICNT_BYTES i)
    let frag := at_ 16 1
    let len := min 1472 (bytes - 1472 * frag)
    if frag < x.next then s.count 0x23D
    else if frag != x.next || at_ 17 1 != ceilDiv bytes 1472 || at_ 18 2 != 1472 * frag || at_ 20 2 != len || len == 0 then
      (s.setIsland i { x with spoiled := true, complete := false }).count 0x23A
    else
      let stale := bit (at_ 3 1) 1
      let last := bit (at_ 3 1) 0
      let block := x.block ++ padTo len (slice f (h + 24) len)
      let spoiled := x.spoiled || stale
      let complete := last && !spoiled
      let (ds, errors) := s.inWalk i
      let s := if frag == 0 then s.count 0x23E errors else s
      let s := if stale then s else s.gather ds block x.block.length stamp
      let s := s.setIsland i { next := frag + 1, block := block, spoiled := spoiled, complete := complete }
      if complete then (s.wr (Reg.PNT_ISL_STAT_ISTATUS i) (at_ 22 1)).wr (Reg.PNT_ISL_STAT_LAST_OK i) s.point.k else s

/-- POINT_INPUT_FRAME (R422): a point frame reaches the engine from port n. -/
def execPointInputFrame (n : Fin 8) (f : Bytes) (s : State) : Out :=
  onHub (fun s =>
    let (t, s) := s.ethStamp n.val false
    s.pointInput n.val f (t / 65536 % 2 ^ 32)) s

/-! The close and the loss pass (R427) -/

/-- A lost island's point: held from the last publication, or substituted. -/
def State.losePoint (s : State) (down : Bool) (stamp d : Nat) : State :=
  if !down || dLoss d == 0 then
    let o := dImg d
    let b := s.point.inSel
    let copy (t : Table Bytes) : Table Bytes :=
      if dTs d == 0 then imgPut t b o (dWidth d) (imgGet t (1 - b) o (dWidth d))
      else imgWrite t b (o / 8) (le 8 (imgRead t (1 - b) (o / 8) 8))
    s.withPoint fun p => { p with inImg := copy p.inImg }
  else ((s.putPoint d (s.substitute d) stamp).withPoint fun p => { p with flagInSubst := true }).count 0x240

/-- The loss pass over island i, which has inputs. -/
def State.lossPass (s : State) (stamp i : Nat) : State :=
  let k := s.point.k
  let down := s.islandDown i
  if (s.island i).complete then
    let s := s.wr (Reg.PNT_ISL_STAT_MISSES i) 0
    if down then
      (s.setPairBit Reg.PNT_DOWN_LO_DOWN Reg.PNT_DOWN_HI_DOWN i false).notice 0x0F02 (byte i :: le 4 k)
    else s
  else
    let s := (s.withPoint fun p => { p with lost := setBit p.lost i }).count 0x23F
    let s := s.bump (Reg.PNT_ISL_STAT_MISSES i)
    let misses := s.rd (Reg.PNT_ISL_STAT_MISSES i)
    let falls : Bool := !down && decide (s.rdAct (Reg.PNT_ISL_CFG_MISS_HOLD i) < misses)
    let s := if falls then
        ((s.setPairBit Reg.PNT_DOWN_LO_DOWN Reg.PNT_DOWN_HI_DOWN i true).put Reg.PNT_STAT_ISL_DOWN true).notice 0x0F01
          ([byte i, byte misses] ++ le 4 k)
      else s
    (s.inWalk i).1.foldl (fun (s : State) d => s.losePoint (down || falls) stamp d) s

/-- POINT_WINDOW_CLOSE (R427). -/
def execPointWindowClose (s : State) : Out :=
  onHub (fun s =>
    let k := s.point.k
    let close := s.pointT k + s.rdAct Reg.PNT_CLOSE_OFF_NS
    if !s.point.on || s.point.phase != .open_ || !s.reached close then s
    else
      let late := ((s.point.unreached ++ s.point.backlog.map (·.1)).mergeSort (· ≤ ·)).eraseDups
      let s := s.withPoint fun p => { p with phase := .loss, lost := 0, unreached := [], backlog := [] }
      let s := match late with
        | [] => s
        | i :: _ => (s.put Reg.PNT_STAT_SCATTER_LATE true).limited 0x0F07_0000 0x0F07 fun _ => le 4 k ++ [byte i]
      let s := late.foldl (fun (s : State) i =>
        (s.setIsland i { (s.island i) with complete := false }).withPoint fun p => { p with lost := setBit p.lost i }) s
      let s := s.islands.foldl (fun (s : State) i =>
        if s.rdAct (Reg.PNT_ISL_ICNT_BYTES i) == 0 then s else s.lossPass (close % 2 ^ 32) i) s
      (s.wr Reg.PNT_LOST_LO_LOST s.point.lost).wr Reg.PNT_LOST_HI_LOST (s.point.lost / 2 ^ 32)) s

/-! Publication (R412, R413) -/

/-- Writes of an earlier publication are still in their requester. -/
def State.pointWriting (s : State) : Bool :=
  s.pcie.want.any fun q => q.sub == 2 && (match q.kind with | .read _ _ => false | _ => true)

/-- The image and record of cycle k are written; the vector follows the record. -/
def State.publish (s : State) : State :=
  let p := s.point
  let t := s.pointT p.k
  let cb := s.pointCb
  let sel := p.hostSel
  let image := (List.range p.inLen).flatMap fun c => Table.get (fun _ => zeros 256) p.inImg (2048 * p.inSel + c)
  let flags := b2n p.flagStale + 2 * b2n p.flagSubst + 4 * b2n p.flagLate + 8 * b2n p.flagInSubst
  let s := s.hostWrite 2 (p.inBase.getD sel 0) image
  let s := s.hostWrite 2 (cb + 68) ([byte sel, byte flags] ++ le 2 p.skipped ++ le 8 p.lost ++ le 6 (t / 1000000000) ++
    le 4 (t % 1000000000) ++ le 4 p.outTag ++ zeros 34)
  let s := s.hostWrite 2 (cb + 64) (le 4 p.k)
  let s := if !s.isRoot && s.flag Reg.PNT_CTRL_IRQ_EN then s.sendMsi 8 else s
  let s := s.withPoint fun p => { p with inSel := 1 - p.inSel, hostSel := 1 - p.hostSel, skipped := 0 }
  (s.put Reg.PNT_STAT_PUBLISHED true).count 0x244

/-- POINT_LOSS_PASS_END (R424, R431). -/
def execPointLossPassEnd (s : State) : Out :=
  onHub (fun s =>
    if !s.point.on || s.point.phase != .loss then s
    else
      let s := s.withPoint fun p => { p with phase := .idle }
      if s.pointWriting then s.pointSkip s.point.k 2 1 else s.publish) s

end Sys2Proof.Machine
end

