-- ==== Sys2Proof/Machine/Ethernet.lean ====
section
/-!
DEFINITION. Ethernet events: frames received and sent, the gate lists' commits, the stamp FIFO, MDIO, link changes, and
the virtual NIC (R391 to R408).
-/

namespace Sys2Proof.Machine

/-! Reception (R392, R394 to R396) -/

/-- A received PAUSE frame's pause time (PRESUMED, IEEE 802.3). -/
def pauseTime (f : Bytes) : Option Nat := if beAt f 12 2 == 0x8808 && beAt f 14 2 == 1 then some (beAt f 16 2) else none

/-- Classifier entry k of port n matches (R395). -/
def State.classMatch (s : State) (n k : Nat) (f : Bytes) : Bool :=
  let vm := s.rd (Reg.ETH_CLS_A_VMATCH n k)
  let vlan := match s.outerTag n f with
    | none => vm != 1
    | some t => if vm == 0 then false else if vm == 1 then t % 4096 == s.rd (Reg.ETH_CLS_A_VID n k) else true
  let mac := !s.flag (Reg.ETH_CLS_A_MAC_EN n k) ||
    f.take 6 == macBytes (s.rd (Reg.ETH_CLS_C_MAC_HI n k)) (s.rd (Reg.ETH_CLS_B_MAC_LO n k))
  s.flag (Reg.ETH_CLS_A_VALID n k) && vlan && mac

/-- The TID of a frame: the lowest entry that matches, or the default TID. -/
def State.classify (s : State) (n : Nat) (f : Bytes) : Option Nat :=
  match (List.range 32).find? fun k => s.classMatch n k f with
  | some k => some (s.rd (Reg.ETH_CLS_A_TID n k))
  | none => if s.flag (Reg.ETH_DEFTID_VALID n) then some (s.rd (Reg.ETH_DEFTID_TID n)) else none

/-- Steps 3 to 5 of R394. -/
def State.wrapFrame (s : State) (n : Nat) (f : Bytes) : State :=
  match s.classify n f with
  | none => s.count (ethCounter n 8)
  | some tid =>
    let tagged := (s.outerTag n f).isSome
    let g := if s.flag (Reg.ETH_CTRL_INSERT n) && !tagged then
        withFcs (f.take 12 ++ be 2 0x8100 ++ be 2 (s.rd (Reg.ETH_VLAN_PRIO n) * 8192 + s.rd (Reg.ETH_VLAN_PVID n)) ++
          (bare f).drop 12)
      else f
    let ours := s.wrapping && s.rd (Reg.TUN_ENTRY_W1_UNIT tid) == 0x20 + n
    match (if ours && g.length ≤ 9720 then s.wrapTunnel tid (11 + n) g else none) with
    | some s => s
    | none => s.count (ethCounter n 9)

/-- A frame that has passed the checks of R392. -/
def State.goodFrame (s : State) (n : Nat) (f : Bytes) : State :=
  let s := (s.count (ethCounter n 0)).count (ethCounter n 1) f.length
  match pauseTime f with
  | some t =>
    let s := s.count (ethCounter n 7)
    if s.flag (Reg.ETH_CTRL_PAUSE_RX n) then
      s.setEthPort n { (s.ethPort n) with paused := if t == 0 then none else some t }
    else s
  | none =>
    let s := s.stampReceived n f
    if s.flag (Reg.ETH_CTRL_POINT_EN n) && beAt f (s.typeAt n f 1 12) 2 == s.point.etype then
      let (t, s) := s.ethStamp n false
      (s.count (ethCounter n 0xD)).pointInput n f (t / 65536 % 2 ^ 32)
    else s.wrapFrame n f

/-- ETH_FRAME_RECEIVED (R394): a frame arrives at port n, from destination address through FCS; the counts are the RS-FEC
codewords corrected and not corrected since the frame before. -/
def execEthFrameReceived (n : Fin 8) (f : Bytes) (corrected uncorrected : Nat) (s : State) : Out :=
  onHub (fun s =>
    let n := n.val
    if !s.macOn n then s
    else
      let fec : Bool := decide (n < 4) && s.flag (Reg.ETH_CTRL_FEC n) && s.rd (Reg.ETH_CTRL_MODE n) != 1
      let s := if fec then (s.count (ethCounter n 0xB) corrected).count (ethCounter n 0xC) uncorrected else s
      if f.length < 64 then s.count (ethCounter n 5)
      else if 9720 < f.length then s.count (ethCounter n 6)
      else if !fcsGood f then s.count (ethCounter n 4)
      else s.goodFrame n f) s

/-- PAUSE_TIME_END (R392). -/
def execPauseTimeEnd (n : Fin 8) (s : State) : Out :=
  onHub (fun s => s.setEthPort n.val { (s.ethPort n.val) with paused := none }) s

/-! Transmission (R397, R401, R404) -/

/-- Frames that no open span of their queue can hold are dropped from its head and counted. -/
def State.dropLong (s : State) (n q : Nat) : Nat → State
  | 0 => s
  | k + 1 =>
    match s.ethQueue n q, s.longestOpen n q with
    | f :: r, some d => if d * 65536 < s.wireTime n f.length then
        State.dropLong ((s.setEthQueue n q r).count (ethCounter n 0xA)) n q k
      else s
    | _, _ => s

/-- ETH_TX_START (R404): the line is free, and the highest queue whose head may start sends it. -/
def execEthTxStart (n : Fin 8) (s : State) : Out :=
  onHub (fun s =>
    let n := n.val
    if !s.macOn n || (s.ethPort n).paused.isSome || !s.flag (Reg.ETH_STAT_LINK n) then s
    else
      let s := if s.gated n then (List.range 8).foldl (fun (s : State) q => s.dropLong n q (s.ethQueue n q).length) s else s
      let start (q : Nat) : Bool := match s.ethQueue n q with
        | [] => false
        | f :: _ => s.frameMayStart n q f.length
      match ([7, 6, 5, 4, 3, 2, 1, 0] : List Nat).find? start with
      | none => s.pointDrain
      | some q =>
        match s.ethQueue n q with
        | [] => s
        | f :: r =>
          let (g, s) := (s.setEthQueue n q r).stampSent n f
          let s := (s.count (ethCounter n 2)).count (ethCounter n 3) g.length
          (s.emit (.eth n "frame" [q] g)).pointDrain) s

/-! Gates (R403, R405) -/

/-- GATE_ENTRY_ADVANCE (R403). -/
def execGateEntryAdvance (n : Fin 4) (s : State) : Out := onHub (fun s => s.gateEntry (4 + n.val)) s

/-- A time in ns in a triple of registers. -/
def State.setNs (s : State) (lo hi ns : Fld) (t : Nat) : State :=
  let sec := t / 1000000000
  ((s.wr lo sec).wr hi (sec / 2 ^ 32)).wr ns (t % 1000000000)

/-- A change time that has come makes port n's pending list operational (R405). -/
def State.gateChange (s : State) (n : Nat) : State :=
  let x := s.ethPort n
  match x.next with
  | none => s
  | some (g, change) =>
    if !s.reached change then s
    else
      let s := s.setEthPort n { x with oper := { g with words := [] }, next := none }
      let s := (g.words.zipIdx).foldl (fun (s : State) (w : Word × Nat) => s.setReg (Reg.ETH_GOPR_A n w.2) w.1) s
      let s := ((s.put (Reg.ETH_GCTL_PENDING n) false).wr (Reg.ETH_GCTL_ENTRY n) 0).gateEntry n
      s.notice 0x0E02 ([byte n, byte (clamp 1 64 g.len)] ++ le 6 (change / 1000000000) ++ le 4 (change % 1000000000))

/-- GATE_COMMIT (R405): a commit in the core cycle of a change time lands after the change. -/
def execGateCommit (n : Fin 4) (s : State) : Out :=
  onHub (fun s =>
    let n := 4 + n.val
    let s := s.gateChange n
    let len := s.rd (Reg.ETH_GCTL_LEN n)
    let cycle := s.rd (Reg.ETH_GCYCLE_CYCLE_NS n)
    if len == 0 || cycle < 1000 then s.notice 0x0E03 [byte n, if len == 0 then 1 else 2]
    else
      let base : Nat := (s.rd (Reg.ETH_GBASE_SL_SEC_LO n) + s.rd (Reg.ETH_GBASE_SH_SEC_HI n) * 2 ^ 32) * 1000000000 +
        s.rd (Reg.ETH_GBASE_NS_NSEC n)
      let least : Int := -((-(s.reading + 10000 * 65536)) / 65536)
      let late : Int := least - (base : Nat)
      let change : Nat := if late ≤ 0 then base else base + ceilDiv late.toNat cycle * cycle
      let words := (List.range 64).map fun i => s.reg (Reg.ETH_GADM_A n i)
      let g : GateList := { len := len, cycle := cycle, base := base, words := words }
      let s := s.setEthPort n { (s.ethPort n) with next := some (g, change) }
      (s.put (Reg.ETH_GCTL_PENDING n) true).setNs (Reg.ETH_GCHG_SL_SEC_LO n) (Reg.ETH_GCHG_SH_SEC_HI n)
        (Reg.ETH_GCHG_NS_NSEC n) change) s

/-- GATE_CHANGE_TIME (R405). -/
def execGateChangeTime (n : Fin 4) (s : State) : Out := onHub (fun s => s.gateChange (4 + n.val)) s

/-! Stamps, MDIO and links (R393, R400, R406, R408) -/

/-- The oldest stamp leaves the FIFO. -/
def State.tsfPop (s : State) (n : Nat) : State :=
  let x := s.ethPort n
  s.setEthPort n { x with fifo := x.fifo.drop 1 }

/-- ETH_TSF_POP (R400). -/
def execEthTsfPop (n : Fin 8) (s : State) : Out := onHub (fun s => s.tsfPop n.val) s

/-- ETH_PTP_CLR_LOST (R406). -/
def execEthPtpClrLost (n : Fin 8) (s : State) : Out := onHub (fun s => s.wr (Reg.ETH_PTP_LOST n.val) 0) s

/-- MDIO_START (R393): one frame with the register's OP, PHYAD, REG and DATA; ignored while BUSY. -/
def State.mdioStart (s : State) : State :=
  if s.flag Reg.ETH_MDIO_BUSY then s
  else
    let op := s.rd Reg.ETH_MDIO_OP
    let s := { (s.put Reg.ETH_MDIO_BUSY true) with eth := { s.eth with mdioRead := op == 1 || 4 ≤ op } }
    s.emit (.eth 8 "MDIO" [op, s.rd Reg.ETH_MDIO_PHYAD, s.rd Reg.ETH_MDIO_REG, s.rd Reg.ETH_MDIO_DATA] [])

/-- MDIO_START with the word written. -/
def execMdioStart (v : Word) (s : State) : Out :=
  onHub (fun s =>
    let s := [Reg.ETH_MDIO_OP, Reg.ETH_MDIO_PHYAD, Reg.ETH_MDIO_REG, Reg.ETH_MDIO_DATA].foldl
      (fun (s : State) f => s.wr f (f.get v)) s
    s.mdioStart) s

/-- MDIO_FRAME_DONE (R393). -/
def execMdioFrameDone (data : BitVec 16) (s : State) : Out :=
  onHub (fun s =>
    if !s.flag Reg.ETH_MDIO_BUSY then s
    else
      let t := s.put Reg.ETH_MDIO_BUSY false
      if s.eth.mdioRead then t.wr Reg.ETH_MDIO_DATA data.toNat else t) s

/-- Port `n` has its link, speed, FEC lock and faults as they are now (R408). -/
def State.ethLink (s : State) (n : Nat) (link : Bool) (speed : BitVec 2) (lock localF remoteF : Bool) : State :=
  let old := s.reg (Reg.ETH_STAT_A n)
  let s := (((s.put (Reg.ETH_STAT_LINK n) link).wr (Reg.ETH_STAT_SPEED n) speed.toNat).put (Reg.ETH_STAT_FEC_LOCK n) lock)
  let s := (s.put (Reg.ETH_STAT_LOCAL_FAULT n) localF).put (Reg.ETH_STAT_REMOTE_FAULT n) remoteF
  if s.reg (Reg.ETH_STAT_A n) == old then s
  else s.notice 0x0E01 [byte n, byte (b2n link), byte speed.toNat, byte (b2n lock + 2 * b2n localF + 4 * b2n remoteF)]

/-! The virtual NIC (R398) -/

/-- Virtual NIC queue q. -/
def State.vnic (s : State) (q : Nat) : Vnic := Table.get (fun _ => {}) s.eth.vnics q

/-- The machine with it replaced. -/
def State.setVnic (s : State) (q : Nat) (x : Vnic) : State :=
  { s with eth := { s.eth with vnics := Table.set (fun _ => {}) s.eth.vnics q x } }

/-- The control block of queue q. -/
def State.vnicCb (s : State) (q : Nat) : Nat :=
  s.rd Reg.ETH_VNIC_CB_LO_ADDR_LO * 4096 + s.rd Reg.ETH_VNIC_CB_HI_ADDR_HI * 2 ^ 32 + 64 * q

/-- An MSI that moderation may hold back: it leaves when the least interval since the last one has passed. -/
def State.moderate (s : State) (m : Moderation) (us : Nat) : Bool :=
  match m.last with
  | none => true
  | some t => us == 0 || t + rawOfNs (us * 1000) ≤ s.mer.raw

/-- Vector 9 leaves, or waits. -/
def State.vnicMsi (s : State) : State :=
  let setM (s : State) (m : Moderation) : State := { s with eth := { s.eth with msi := m } }
  if s.moderate s.eth.msi (s.rd Reg.ETH_VNIC_CTRL_MOD_US) then
    (setM s { last := some s.mer.raw, due := false }).sendMsi 9
  else setM s { s.eth.msi with due := true }

/-- The completion ring of queue q is full: CSEQ − REL is its size (R366). -/
def State.vnicFull (s : State) (q : Nat) : Bool :=
  (s.rd (Reg.ETH_VNIC_SEQ_CSEQ q) + 65536 - s.rd (Reg.ETH_VNIC_SEQ_REL q)) % 65536 == 2 ^ (s.vnic q).log2

/-- A completion is written: bytes 2 to 15, then SEQ as a separate write; then CSEQ advances and the MSI follows. -/
def State.vnicWrite (s : State) (q : Nat) (e : Bytes) (ioc : Bool) : State :=
  let x := s.vnic q
  let seq := s.rd (Reg.ETH_VNIC_SEQ_CSEQ q)
  let a := x.cplBase + seq % 2 ^ x.log2 * 16
  let s := ((s.hostWrite 3 (a + 2) e).hostWrite 3 a (le 2 seq)).incr (Reg.ETH_VNIC_SEQ_CSEQ q)
  let s := s.hostWrite 3 (s.vnicCb q + 36) (le 2 (s.rd (Reg.ETH_VNIC_SEQ_CSEQ q)))
  if ioc then s.vnicMsi else s

/-- A completion is written, or held while the ring is full. -/
def State.vnicComplete (s : State) (q : Nat) (e : Bytes) (ioc : Bool) : State :=
  if s.vnicFull q || (s.vnic q).held != [] then s.setVnic q { (s.vnic q) with held := (s.vnic q).held ++ [(e, ioc)] }
  else s.vnicWrite q e ioc

/-- Held completions are written as REL advances. -/
def State.vnicFlush (q : Nat) : Nat → State → State
  | 0, s => s
  | k + 1, s =>
    match (s.vnic q).held with
    | [] => s
    | (e, ioc) :: r =>
      if s.vnicFull q then s
      else State.vnicFlush q k ((s.setVnic q { (s.vnic q) with held := r }).vnicWrite q e ioc)

/-- Bytes 2 to 15 of a completion. -/
def vnicEntry (kind status index len : Nat) (nsec : Bytes) : Bytes :=
  [byte kind, byte status] ++ le 2 index ++ le 2 len ++ nsec ++ zeros 4

/-- VNIC_ENABLE (R407, R361): EN's rise samples the control block; a RING_LOG2 outside 4 to 12, or a block that cannot be
read, leaves the queue off. -/
def execVnicEnable (q : Fin 8) (mem : HostMem) (s : State) : Out :=
  onHub (fun s =>
    let q := q.val
    let en := s.rd Reg.ETH_VNIC_CTRL_EN
    if s.isRoot || (bit en q && !(s.vnic q).due) then s
    else
      let s := s.hostRead 3 (s.vnicCb q) 32
      match mem.read (s.vnicCb q) 32 with
      | some b =>
        let n := leAt b 24 1
        if 4 ≤ n && n ≤ 12 then
          let s := (s.wr Reg.ETH_VNIC_CTRL_EN (setBit en q)).setVnic q
            { on := true, txBase := leAt b 0 8, rxBase := leAt b 8 8, cplBase := leAt b 16 8, log2 := n }
          s.wr (Reg.ETH_VNIC_SEQ_CSEQ q) 0
        else (s.wr Reg.ETH_VNIC_CTRL_EN (clearBit en q)).setVnic q {}
      | none => (s.wr Reg.ETH_VNIC_CTRL_EN (clearBit en q)).setVnic q {}) s

/-- EN of queue q has fallen: what has been fetched and not completed is given up. -/
def State.vnicStop (s : State) (q : Nat) : State := s.setVnic q {}

/-- Sends one transmit descriptor's frame and completes it.  R398 gives no status for a LEN outside 60 to 9716 and no NSEC
for a transmission: both are free (log entry 33). -/
def State.vnicSend (s : State) (q : Nat) (mem : HostMem) (d : VnicTx) : State :=
  let (nsec, s) := s.freeBytes 4
  let done (s : State) (status : Nat) : State := s.vnicComplete q (vnicEntry 0 status d.index d.len nsec) (bit d.flags 0)
  if d.len < 60 || 9716 < d.len then
    let (st, s) := s.free 8
    done s st
  else
    let s := s.hostRead 3 d.buf d.len
    match mem.read d.buf d.len with
    | none => done s 2
    | some b =>
      let s := match (s.unitTids 1 0x28 (some q)).head? with
        | some t => if s.wrapping then (s.wrapTunnel t 10 (withFcs b)).getD (s.count (0x230 + q)) else s.count (0x230 + q)
        | none => s.count (0x230 + q)
      done s 0

/-- Descriptors fetched are run in order while the completion ring is not full. -/
def State.vnicRun (q : Nat) (mem : HostMem) : Nat → State → State
  | 0, s => s
  | k + 1, s =>
    match (s.vnic q).tx with
    | [] => s
    | d :: r =>
      if (s.vnic q).held != [] then s
      else State.vnicRun q mem k ((s.setVnic q { (s.vnic q) with tx := r }).vnicSend q mem d)

/-- The descriptors of a ring from `cons` up to `prod` that could be read: index and `size` bytes. -/
def ringFetch (mem : HostMem) (size base log2 cons prod : Nat) : List (Nat × Bytes) :=
  let n := min (2 ^ log2) ((prod + 65536 - cons) % 65536)
  ((List.range n).map fun k => ((cons + k) % 65536, mem.read (base + (cons + k) % 2 ^ log2 * size) size)).takeWhile
    (fun (e : Nat × Option Bytes) => e.2.isSome) |>.map fun (e : Nat × Option Bytes) => (e.1, e.2.getD [])

/-- VNIC_POLL (R398): the producer fields are read, descriptors and buffers fetched, and transmissions made. -/
def execVnicPoll (q : Fin 8) (mem : HostMem) (s : State) : Out :=
  onHub (fun s =>
    let q := q.val
    let x := s.vnic q
    if s.isRoot || !x.on then s
    else
      let s := s.hostRead 3 (s.vnicCb q + 26) 6
      match mem.read (s.vnicCb q + 26) 6 with
      | none => s
      | some b =>
        let s := State.vnicFlush q 4096 (s.wr (Reg.ETH_VNIC_SEQ_REL q) (leAt b 4 2))
        let x := s.vnic q
        let tx := ringFetch mem 16 x.txBase x.log2 x.txCons (leAt b 0 2)
        let rx := ringFetch mem 16 x.rxBase x.log2 x.rxCons (leAt b 2 2)
        let ask (s : State) (base cons : Nat) (l : List (Nat × Bytes)) : State :=
          if l == [] then s else s.hostRead 3 (base + cons % 2 ^ x.log2 * 16) (16 * l.length)
        let s := ask (ask s x.txBase x.txCons tx) x.rxBase x.rxCons rx
        let s := s.setVnic q { x with
          txCons := (x.txCons + tx.length) % 65536
          rxCons := (x.rxCons + rx.length) % 65536
          tx := x.tx ++ tx.map fun (e : Nat × Bytes) =>
            { index := e.1, buf := leAt e.2 0 8, len := leAt e.2 8 2, flags := leAt e.2 10 1 }
          rx := x.rx ++ rx.map fun (e : Nat × Bytes) => (e.1, leAt e.2 0 8, leAt e.2 8 2) }
        let y := s.vnic q
        let s := if tx == [] && rx == [] then s else s.hostWrite 3 (s.vnicCb q + 32) (le 2 y.txCons ++ le 2 y.rxCons)
        State.vnicRun q mem 4096 s) s

/-- A frame may be delivered to queue q: no completion is held back (R366). -/
def State.vnicFits (s : State) (q : Nat) : Bool := (s.vnic q).held == []

/-- A frame from the tunnel of queue q. -/
def State.vnicReceive (s : State) (q : Nat) (f : Bytes) : State :=
  let x := s.vnic q
  let b := bare f
  let nsec := le 4 (nsecOf s.stamp)
  if !x.on || !fcsGood f then s.count (0x230 + q)
  else
    match x.rx with
    | [] => s.count (0x230 + q)
    | (i, buf, size) :: r =>
      let s := s.setVnic q { x with rx := r }
      if size < b.length then (s.count (0x230 + q)).vnicComplete q (vnicEntry 1 1 i b.length nsec) true
      else (s.hostWrite 3 buf b).vnicComplete q (vnicEntry 1 0 i b.length nsec) true

/-! Modes -/

/-- Entry to IDLE or STANDBY: the SerDes and MACs stop (R545 step 4). -/
def State.ethSuspend (s : State) : State :=
  (List.range 8).foldl (fun (s : State) n => if s.flag (Reg.ETH_CTRL_EN n) then s.emit (.eth n "stop" [] []) else s) s

/-- The MACs start (R545 step 5). -/
def State.ethResume (s : State) : State :=
  (List.range 8).foldl (fun (s : State) n => if s.flag (Reg.ETH_CTRL_EN n) then s.emit (.eth n "start" [] []) else s) s

end Sys2Proof.Machine
end

