-- ==== Sys2Proof/Machine/Keys.lean ====
section
/-!
DEFINITION. Inkwell's commands, OTP provisioning, the life cycle, attestation and TAMPER_N (R558 to R579).
-/

namespace Sys2Proof.Machine

/-- The rules of R561 on a given ATTR: no reserved bit, bits 25 to 27 clear, nothing empty, FW_DECRYPT with the master
SCRIBE alone, and SESSION without FW_DECRYPT. -/
def attrOk (a : Nat) : Bool :=
  bits a 31 25 == 0 && bits a 23 20 == 0 && bits a 15 14 == 0 && bits a 7 5 == 0 &&
  bits a 4 0 != 0 && bits a 11 8 != 0 && bits a 13 12 != 0 && bits a 19 16 != 0 &&
  (!bit a 2 || (bits a 11 8 == 4 && !bit a 0))

/-- KEY_CHANGED with a given ATTR (R579). -/
def State.keyNotice (s : State) (slot event attr : Nat) : State := s.notice 0x0502 ([byte slot, byte event] ++ le 4 attr)

/-- KEY_CHANGED with the slot's ATTR as it is now. -/
def State.keyChanged (s : State) (slot event : Nat) : State := s.keyNotice slot event (s.attrWord slot)

/-- WRAPPED is as R564 asks: 0 on SESSION 0, 1 on an open session. -/
def State.wrappedOk (s : State) (r : Request) (flags : Nat) : Bool := bit flags 0 == (s.openSession r).isSome

/-- The key a request carries (R562, R564): in clear on SESSION 0, else unwrapped under KW. -/
def State.carriedKey (s : State) (r : Request) (aad iv key tag : Bytes) : Option Bytes :=
  match s.openSession r with
  | none => some key
  | some x => gcmOpen (hmac x.key (ascii "GXWRAP")) iv aad key tag

/-- A GCM tag failed: AUTH_FAIL, counted (R606). -/
def gcmFailed (s : State) : Answer := .fail (s.count 0x2E9) Status.authFail

/-- KEY_LOAD's body: the checks of R564 in their order. -/
def keyLoadBody : Body := fun r s => takes 52 (fun p s =>
  let slot := leAt p 0 1
  let flags := leAt p 1 1
  let attr := leAt p 4 4
  if slot < 16 || slot > 63 then .fail s Status.badParam
  else if !s.pins.tamperN then .fail s Status.denied
  else if !attrOk attr then .fail s Status.badParam
  else if !s.wrappedOk r flags || (bit flags 0 && p.length < 68) then .fail s Status.badParam
  else if (s.keySlot slot).isSome then .fail s Status.exists_
  else match s.carriedKey r (slice p 0 8) (slice p 8 12) (slice p 20 32) (slice p 52 16) with
    | none => gcmFailed s
    | some k => .ok (((s.setKeySlot slot (some { key := k, attr := attr })).count 0x2E7).keyChanged slot 0)) r s

/-- KEY_LOAD (R562, R564). -/
def execKeyLoad (r : Request) (s : State) : Out := runCommand 0x0500 keyLoadBody r s

/-- KEY_CLEAR (R562): its KEY_CHANGED carries the ATTR of the key that was cleared (log entry 41). -/
def execKeyClear (r : Request) (s : State) : Out :=
  runCommand 0x0501 (takes 4 fun p s =>
    let slot := leAt p 0 1
    if slot > 63 then .fail s Status.badParam
    else if (s.keySlot slot).isNone then .fail s Status.notFound
    else .ok ((s.setKeySlot slot none).keyNotice slot 1 (s.attrWord slot))) r s

/-- The key check value (R562); 0 for an empty slot. -/
def State.kcv (s : State) (slot : Nat) : Bytes :=
  match s.keySlot slot with
  | some k => (hmac k.key (ascii "GXKCV")).take 4
  | none => zeros 4

/-- KEY_INFO (R562). -/
def execKeyInfo (r : Request) (s : State) : Out :=
  runCommand 0x0502 (takes 4 fun p s =>
    let slot := leAt p 0 1
    if slot > 63 then .fail s Status.badParam else .ok s (le 4 (s.attrWord slot) ++ s.kcv slot)) r s

/-- A body that uses a slot key (R560): BAD_PARAM for a slot above 63, then the key checks. -/
def withKey (use : Nat) (n : Nat) (body : KeySlot → Bytes → State → Answer) : Body := fun r s => takes n (fun p s =>
  let slot := leAt p 0 1
  if slot > 63 then .fail s Status.badParam
  else match s.keyFor slot use (masterBit r.via) (s.worldOf r) with
    | .error c => .fail (s.keyRefused c) c
    | .ok k => body k p s) r s

/-- CRYPTO_HMAC (R562). -/
def execCryptoHmac (r : Request) (s : State) : Out :=
  runCommand 0x0505 (withKey 3 4 fun k p s =>
    if p.length > 4100 then .fail s Status.badParam else .ok (s.count 0x2E3) (hmac k.key (p.drop 4))) r s

/-- CRYPTO_SEAL (R562, R563). -/
def execCryptoSeal (r : Request) (s : State) : Out :=
  runCommand 0x0506 (withKey 4 4 fun k p s =>
    let n := leAt p 2 2
    let m := p.drop 4
    if m.length < n || m.length > 4096 then .fail s Status.badParam
    else if s.ink.drbgBad then .fail s Status.hwError
    else
      let (iv, s) := s.draw 12
      let (c, tag) := gcmSeal k.key iv (m.take n) (m.drop n)
      .ok (s.count 0x2E4) (iv ++ c ++ tag)) r s

/-- CRYPTO_OPEN (R562). -/
def execCryptoOpen (r : Request) (s : State) : Out :=
  runCommand 0x0507 (withKey 4 16 fun k p s =>
    let n := leAt p 2 2
    let m := p.drop 16
    if m.length < n + 16 || m.length > 4112 then .fail s Status.badParam
    else
      let c := slice m n (m.length - n - 16)
      match gcmOpen k.key (slice p 4 12) (m.take n) c (m.drop (m.length - 16)) with
      | some plain => .ok (s.count 0x2E5) plain
      | none => gcmFailed (s.count 0x2E5)) r s

/-! Attestation -/

/-- The image runs from the ROM: RECOVERY. -/
def State.fromRom (s : State) : Bool := s.mode == 0

/-- The report of R574 without its tag. -/
def State.report (s : State) (slot : Nat) (nonce : Bytes) : Bytes :=
  let rom := s.fromRom
  [1, byte s.nv.lifeCycle, byte slot,
   byte (b2n s.nib.tamperLatch + 2 * b2n s.fw.trial + 4 * b2n rom)] ++
  le 4 (s.reg Reg.SYS_ID_A).toNat ++ le 8 s.nv.deviceId ++ nonce ++ le 4 (s.rd Reg.FWU_RUN_VERSION) ++
  [if rom then 0xFF else byte s.fw.slot, byte s.position] ++ zeros 10 ++
  padTo 32 Config.romDigest ++
  (if rom then zeros 32 else padTo 32 s.fw.mFw) ++ (if rom then zeros 32 else padTo 32 s.fw.mSub) ++ padTo 32 s.fw.mCfg

/-- ATTEST (R574). -/
def execAttest (r : Request) (s : State) : Out :=
  runCommand 0x0503 (withKey 1 36 fun k p s =>
    let m := s.report (leAt p 0 1) (slice p 4 32)
    .ok (s.count 0x2E2) (m ++ hmac k.key (ascii "GXATT" ++ m))) r s

/-! Life cycle -/

/-- The condition of BLANK to PROVISIONED (R570). -/
def State.provisionable (s : State) : Bool :=
  (List.range 14).any fun i => match s.keySlot (i + 2) with
    | some k => bit k.attr 0 && bit k.attr 13 && bit k.attr 17 && bit k.attr 18
    | none => false

/-- The status of a transition of R570; OK allows it. -/
def State.lcStatus (s : State) (target : Nat) : Nat :=
  match s.nv.lifeCycle, target with
  | 0, 1 => if s.provisionable then Status.ok else Status.badParam
  | 1, 2 => Status.ok
  | 2, 3 => if s.nv.returns < 8 then Status.ok else Status.noResource
  | 3, 2 => Status.ok
  | c, 4 => if c == 4 then Status.badParam else Status.ok
  | _, _ => Status.badParam

/-- LC_ADVANCE (R570). -/
def execLcAdvance (r : Request) (s : State) : Out :=
  runCommand 0x0504 (takes 12 fun p s =>
    let target := leAt p 0 1
    if leAt p 4 8 != s.nv.deviceId then .fail s Status.badParam
    else
      let c := s.lcStatus target
      if c != Status.ok then .fail s c else s.startJob 0x0504 (.lcAdvance target)) r s

/-- Erases slots and counts the zeroization (R576). -/
def State.zeroize (s : State) (p : Nat → Bool) : State :=
  { s with ink := { s.ink with slots := s.ink.slots.filter fun e => !p e.1 } }.bump Reg.INK_STAT_ZEROIZES

/-- An OTP slot overwritten with all ones and retired (R570). -/
def scrappedSlot : OtpSlot :=
  { programmed := true, retired := true, key := List.replicate 32 0xFF, attr := 0xFFFFFFFF, check := [] }

/-- The effect of a completed LC_ADVANCE (R570, R579). -/
def State.lcAdvance (s : State) (target : Nat) : State :=
  let old := s.nv.lifeCycle
  let s := { s with nv := { s.nv with lifeCycle := target } }
  let s :=
    if target == 4 then
      { s with nv := { s.nv with otp := (List.range 16).map fun i => (i, scrappedSlot) } }.zeroize fun _ => true
    else if old == 2 && target == 3 then
      { s with nv := { s.nv with returns := s.nv.returns + 1 } }.zeroize (· ≥ 16)
    else if old == 3 then s.zeroize (· ≥ 16)
    else s
  s.notice 0x0503 [byte old, byte target, byte s.nv.returns]

/-! OTP provisioning (R565) -/

/-- The check word of R566. -/
def otpCheck (attr : Nat) (key : Bytes) : Bytes := (sha256 (le 4 attr ++ key)).take 4

/-- OTP_PROGRAM OP 0's body: the checks in the order of R564. -/
def otpKeyBody : Body := fun r s => takes 53 (fun p s =>
  let slot := leAt p 1 1
  let flags := leAt p 2 1
  let attr := leAt p 5 4
  let o := s.otpSlot slot
  if s.nv.lifeCycle > 1 then .fail s Status.lcDenied
  else if slot < 2 || slot > 15 then .fail s Status.badParam
  else if !s.pins.tamperN then .fail s Status.denied
  else if !attrOk attr then .fail s Status.badParam
  else if !s.wrappedOk r flags || (bit flags 0 && p.length < 69) then .fail s Status.badParam
  else if o.programmed || o.retired then .fail s Status.exists_
  else match s.carriedKey r (slice p 1 8) (slice p 9 12) (slice p 21 32) (slice p 53 16) with
    | none => gcmFailed s
    | some k => s.startJob 0x0508 (.otpKey slot k attr)) r s

/-- OTP_PROGRAM_KEY. -/
def execOtpProgramKey (r : Request) (s : State) : Out := runCommand 0x0508 otpKeyBody (requestWithByte r 0 0) s

/-- OTP_PROGRAM_PASSWORD (R565). -/
def execOtpProgramPassword (r : Request) (s : State) : Out :=
  runCommand 0x0508 (takes 52 fun p s =>
    if s.nv.lifeCycle > 1 then .fail s Status.lcDenied
    else if !s.pins.tamperN then .fail s Status.denied
    else if s.nv.password.isSome then .fail s Status.exists_
    else s.startJob 0x0508 (.otpPassword (slice p 4 16) (slice p 20 32))) (requestWithByte r 0 1) s

/-- OTP_PROGRAM_RETIRE (R565). -/
def execOtpProgramRetire (r : Request) (s : State) : Out :=
  runCommand 0x0508 (takes 4 fun p s =>
    let slot := leAt p 1 1
    if s.nv.lifeCycle < 1 || s.nv.lifeCycle > 3 then .fail s Status.lcDenied
    else if slot < 2 || slot > 15 then .fail s Status.badParam
    else if !s.pins.tamperN then .fail s Status.denied
    else s.startJob 0x0508 (.otpRetire slot)) (requestWithByte r 0 2) s

/-- A completed OP 0 (R565): key, ATTR and check word are programmed, then the slot is loaded. -/
def State.otpKeyDone (s : State) (slot : Nat) (key : Bytes) (attr : Nat) : State :=
  let s := s.setOtpSlot slot { programmed := true, key := key, attr := attr, check := otpCheck attr key }
  (s.setKeySlot slot (some { key := key, attr := attr })).keyChanged slot 2

/-- A completed OP 2 (R565). -/
def State.otpRetireDone (s : State) (slot : Nat) : State :=
  ((s.setOtpSlot slot { s.otpSlot slot with retired := true }).setKeySlot slot none).keyChanged slot 3

/-- The ROM's load of the OTP slots at a boot (R558, R566, R573).  The keys Grarex programs are not published. -/
def State.loadOtpSlot (s : State) (i : Nat) : State :=
  let o := s.otpSlot i
  if !o.programmed || o.retired then s
  else
    let key := if o.factory then Config.factoryKey i else o.key
    if o.factory || o.check == otpCheck o.attr key then s.setKeySlot i (some { key := key, attr := o.attr })
    else { s with ink := { s.ink with otpErr := setBit s.ink.otpErr i } }

/-- Every OTP slot, in ascending order, unless the tamper latch is set. -/
def State.loadOtp (s : State) : State :=
  if s.nib.tamperLatch then s else (List.range 16).foldl State.loadOtpSlot s

/-! Entropy and tamper -/

/-- ENTROPY_HEALTH_FAIL (R563). -/
def execEntropyHealthFail (s : State) : Out := onHub (fun s => { s with ink := { s.ink with drbgBad := true } }) s

/-- The jobs that TAMPER_N ends: those that use a slot or program OTP (R567, R572). -/
def tamperEnds (j : Job) : Bool :=
  match j.kind with
  | .otpKey _ _ _ | .otpPassword _ _ | .otpRetire _ | .fwVerify _ => true
  | _ => false

/-- A job has its status: JOB_DONE at once, or, during a hitless restart, when that ends (R68, R568). -/
def State.jobFinished (s : State) (j : Job) (status : Nat) : State :=
  if s.cmd.restarting then
    s.withCmd fun x => { x with jobs := x.jobs.map fun k => if k.num == j.num then { k with result := some status } else k }
  else s.jobDone j status

/-- What tamper does on the hub die (R572): every slot is erased, every session is closed, the jobs that used a slot
end with HW_ERROR, and TAMPER is raised. -/
def State.tamperHub (s : State) : State :=
  let s := s.zeroize fun _ => true
  let hs := handles.filter fun h => (s.session h).phase != .free
  let s := hs.foldl (fun s h => s.closeSession h 4) s
  let js := s.cmd.jobs.filter fun j => tamperEnds j && !j.aborted && j.result.isNone
  let s := { s with nv := js.foldl (fun (n : NonVol) (j : Job) => cutJob n j.kind) s.nv }
  let s := js.foldl (fun s j => s.jobFinished j Status.hwError) s
  s.notice 0x0501 [0, byte (s.rd Reg.INK_STAT_ZEROIZES), byte hs.length]

/-- TAMPER_ASSERT (R572, R573). -/
def execTamperAssert (s : State) : Out :=
  onNib (fun s =>
    let s := { s with pins := { s.pins with tamperN := false } }.withNib fun n => { n with tamperLatch := true }
    if s.hubOn then s.tamperHub else s) s

/-- TAMPER_RELEASE (R572). -/
def execTamperRelease (s : State) : Out :=
  onNib (fun s =>
    ({ s with pins := { s.pins with tamperN := true } }).notice 0x0501 [1, byte (s.rd Reg.INK_STAT_ZEROIZES), 0]) s

end Sys2Proof.Machine
end

