-- ==== Sys2Proof/Machine/Firmware.lean ====
section
/-!
DEFINITION. Flash, images, the boot record, the firmware commands and the settings area (R580 to R604).
-/

namespace Sys2Proof.Machine

/-! Images (R582 to R584) -/

/-- The blocks of flash slot A (0) or B (1). -/
def State.flashSlot (s : State) (k : Nat) : Table Bytes := if k == 0 then s.nv.slotA else s.nv.slotB

/-- The machine with a flash slot's blocks replaced. -/
def State.setFlashSlot (s : State) (k : Nat) (t : Table Bytes) : State :=
  if k == 0 then { s with nv := { s.nv with slotA := t } } else { s with nv := { s.nv with slotB := t } }

/-- What erased flash reads as. -/
def erasedBlock : Nat → Bytes := fun _ => []

/-- The header of the image in slot k (R582). -/
def State.imageHeader (s : State) (k : Nat) : Bytes := padTo 256 (Table.get erasedBlock (s.flashSlot k) 0)

/-- Header fields (R582). -/
def hdrFlags (h : Bytes) : Nat := leAt h 5 1
def hdrVersion (h : Bytes) : Nat := leAt h 8 4
def hdrSetFormat (h : Bytes) : Nat := leAt h 14 2
def hdrStateAbi (h : Bytes) : Nat := leAt h 16 4
def hdrBodyLen (h : Bytes) : Nat := leAt h 20 4

/-- The body of the image in slot k: ciphertext from slot offset 4096 on. -/
def State.imageBody (s : State) (k : Nat) : Bytes :=
  let n := hdrBodyLen (s.imageHeader k)
  ((List.range (ceilDiv n 4096)).flatMap fun i => Table.get erasedBlock (s.flashSlot k) (i + 1)).take n

/-- The largest section of each type (R583). -/
def sectionLimit (t : Nat) : Nat := ([0, 1536, 64, 64, 32, 32].getD t 0) * 1024

/-- The sections of a header: type, offset and length. -/
def hdrSections (h : Bytes) : List (Nat × Nat × Nat) :=
  ((List.range 8).map fun i => (leAt h (64 + 16 * i) 1, leAt h (68 + 16 * i) 4, leAt h (72 + 16 * i) 4)).filter
    fun x => x.1 != 0

/-- Two sections do not overlap. -/
def disjoint (a b : Nat × Nat × Nat) : Bool := a.2.1 + a.2.2 ≤ b.2.1 || b.2.1 + b.2.2 ≤ a.2.1

/-- The sections meet R583 and lie within BODY_LEN without overlap. -/
def sectionsOk (h : Bytes) : Bool :=
  let xs := hdrSections h
  [1, 2, 3, 4, 5].all (fun t => (xs.filter fun x => x.1 == t).length == 1) && xs.length == 5 &&
  xs.all (fun x => x.2.1 % 16 == 0 && x.2.2 ≤ sectionLimit x.1 && x.2.1 + x.2.2 ≤ hdrBodyLen h) &&
  (List.range xs.length).all fun i => (List.range xs.length).all fun j =>
    i == j || disjoint (xs.getD i (0, 0, 0)) (xs.getD j (0, 0, 0))

/-- The header meets R584. -/
def headerOk (h : Bytes) : Bool :=
  h.take 4 == [0x47, 0x58, 0x46, 0x57] && leAt h 4 1 == 1 && leAt h 6 2 == 0x4828 && leAt h 52 1 == 0 &&
  leAt h 12 1 ≤ 1 && 1 ≤ leAt h 13 1 && 16 ≤ hdrBodyLen h && hdrBodyLen h ≤ 12578816 && sectionsOk h

/-- The AAD of the body (R583): the header with its tag bytes taken as 0. -/
def headerAad (h : Bytes) : Bytes := h.take 36 ++ zeros 16 ++ slice h 52 204

/-- The plaintext of the image in slot k, when it is valid (R584) under the key in Inkwell slot 0 (R560). -/
def State.imagePlain (s : State) (k : Nat) : Option Bytes :=
  let h := s.imageHeader k
  if !s.nv.flashOk || !headerOk h then none
  else match s.keyFor 0 2 10 1 with
    | .error _ => none
    | .ok key =>
      let b := s.imageBody k
      if b.length != hdrBodyLen h then none
      else gcmOpen key.key (slice h 24 12) (headerAad h) b (slice h 36 16)

/-- The plaintext of the section of type t. -/
def sectionPlain (h plain : Bytes) (t : Nat) : Bytes :=
  match (hdrSections h).find? (fun x => x.1 == t) with
  | some x => slice plain x.2.1 x.2.2
  | none => []

/-! The boot record (R585, R586) -/

/-- The state of slot k; with no good entry, CONFIRMED. -/
def State.slotState (s : State) (k : Nat) : Nat :=
  if s.nv.record.good then (if k == 0 then s.nv.record.stA else s.nv.record.stB) else 4

/-- ATTEMPTS of slot k. -/
def State.slotAttempts (s : State) (k : Nat) : Nat :=
  if s.nv.record.good then (if k == 0 then s.nv.record.attA else s.nv.record.attB) else 0

/-- VERSION of slot k as FWU_VERA and FWU_VERB show it (R602). -/
def State.slotVersion (s : State) (k : Nat) : Nat := if s.slotState k == 0 then 0 else hdrVersion (s.imageHeader k)

/-- Appends a boot-record entry with a new state and attempts for slot k, and a new fallback reason where there is one
(R586). -/
def State.setSlotState (s : State) (k st att : Nat) (fallback : Nat := s.nv.record.fallback) : State :=
  let r := s.nv.record
  let q : BootRecord := {
    good := true, seq := (r.seq + 1) % 2 ^ 32, fallback := fallback
    stA := if k == 0 then st else s.slotState 0
    stB := if k == 1 then st else s.slotState 1
    attA := if k == 0 then att else s.slotAttempts 0
    attB := if k == 1 then att else s.slotAttempts 1
    verA := if k == 0 && st == 0 then 0 else s.slotVersion 0
    verB := if k == 1 && st == 0 then 0 else s.slotVersion 1 }
  { s with nv := { s.nv with record := q } }

/-- Appends an entry with a new fallback reason. -/
def State.setFallback (s : State) (f : Nat) : State := s.setSlotState 0 (s.slotState 0) (s.slotAttempts 0) f

/-- The machine with the firmware state changed. -/
def State.withFw (s : State) (f : Firmware → Firmware) : State := { s with fw := f s.fw }

/-- The words of the FWU block that show the boot record and the update (R602). -/
def State.fwuStat (s : State) : Nat :=
  s.rd Reg.FWU_STAT_REC_REASON * 2 ^ 24 + s.nv.record.fallback * 2 ^ 20 + b2n s.fw.update.isSome * 2 ^ 16 +
    b2n s.fw.trial * 2 ^ 8 + s.fw.slot
def State.fwuSlot (s : State) (k : Nat) : Nat := s.slotState k * 2 ^ 28 + s.slotAttempts k * 2 ^ 26
def State.fwuUpd (s : State) : Nat := s.fw.written.length * 2 ^ 16 + ceilDiv s.fw.length 4096

/-! Choosing an image (R587) -/

/-- A trial is pending in slot k. -/
def State.trialSlot (s : State) : Option Nat := [0, 1].find? fun k => s.slotState k == 3

/-- The CONFIRMED slots, highest version first. -/
def State.confirmedSlots (s : State) : List Nat :=
  let xs := [0, 1].filter fun k => s.slotState k == 4
  if xs == [0, 1] && s.slotVersion 1 > s.slotVersion 0 then [1, 0] else xs

/-- The choice among the CONFIRMED slots; one that fails to load keeps its state, and FALLBACK records it. -/
def State.chooseConfirmed (s : State) : List Nat → State × Option Nat
  | [] => (s, none)
  | k :: r => if (s.imagePlain k).isSome then (s, some k) else State.chooseConfirmed (s.setFallback 2) r

/-- A trial slot is rejected, for FW_FALLBACK at the end of the start. -/
def State.rejectTrial (s : State) (k reason : Nat) : State :=
  let v := s.slotVersion k
  let s := s.setSlotState k 5 (s.slotAttempts k) reason
  { s with nv := { s.nv with fallbackDue := some (k, v, reason) } }

/-- The ROM's choice: the slot and whether it runs as a trial; none where the flash does not respond. -/
def State.chooseImage (s : State) : State × Option (Nat × Bool) :=
  let plain (s : State) :=
    let (s, k) := s.chooseConfirmed s.confirmedSlots
    (s, k.map fun k => (k, false))
  if !s.nv.flashOk then (s, none) else match s.trialSlot with
  | some t =>
    if s.slotAttempts t < 3 then
      let s := s.setSlotState t 3 (s.slotAttempts t + 1)
      if (s.imagePlain t).isSome then (s, some (t, true)) else plain (s.rejectTrial t 2)
    else plain (s.rejectTrial t 1)
  | none => plain s

/-! Settings (R594 to R597) -/

/-- A record of the settings area: ID, LEN and the value padded to a multiple of 4 (R594). -/
def settingBytes (r : Nat × Bytes) : Bytes :=
  le 2 r.1 ++ le 2 r.2.length ++ r.2 ++ zeros ((4 - r.2.length % 4) % 4)

/-- A settings copy's bytes: the 32-byte header and the records (R594). -/
def settingsCopyBytes (c : SettingsCopy) : Bytes :=
  let body := c.records.flatMap settingBytes
  [0x47, 0x58, 0x53, 0x54] ++ le 2 c.format ++ le 4 c.seq ++ le 4 body.length ++
    le 4 (crcReflected 0xEDB88320 0xFFFFFFFF body ^^^ 0xFFFFFFFF) ++ zeros 14 ++ body

/-- The greater of two sequence numbers by signed difference (R603). -/
def seqAfter (a b : Nat) : Bool := 0 < toSigned 32 (a + 2 ^ 32 - b)

/-- The current copy: a good one, with the greater SEQ. -/
def State.currentCopy (s : State) : Option SettingsCopy :=
  match s.nv.copy0.good, s.nv.copy1.good with
  | true, true => some (if seqAfter s.nv.copy1.seq s.nv.copy0.seq then s.nv.copy1 else s.nv.copy0)
  | true, false => some s.nv.copy0
  | false, true => some s.nv.copy1
  | false, false => none

/-- The settings format of the running image. -/
def State.setFormat (s : State) : Nat := hdrSetFormat (s.imageHeader s.fw.slot)

/-- Writes a complete new copy in the location that is not current (R594). -/
def State.writeCopy (s : State) (format : Nat) (records : List (Nat × Bytes)) : State :=
  let cur := s.currentCopy
  let c : SettingsCopy := {
    good := true, format := format, records := records
    seq := (match cur with
      | some x => (x.seq + 1) % 2 ^ 32
      | none => 1) }
  let s := s.count 0x2F4
  if cur == some s.nv.copy0 then { s with nv := { s.nv with copy1 := c } } else { s with nv := { s.nv with copy0 := c } }

/-- A record set into a list of records. -/
def setRecord (rs : List (Nat × Bytes)) (r : Nat × Bytes) : List (Nat × Bytes) := rs.filter (fun x => x.1 != r.1) ++ [r]

/-- A change of settings: the records of the current copy, or none with RESET_ALL, and then the new ones. -/
def State.storeSettings (s : State) (resetAll : Bool) (rs : List (Nat × Bytes)) : State :=
  let old := if resetAll then [] else (s.currentCopy.map (·.records)).getD []
  s.writeCopy s.setFormat (rs.foldl setRecord old)

/-- A record saved by a command of another chapter; a SETTINGS_WRITE executed before it that has yet to end keeps it too
(R594). -/
def State.storeRecord (s : State) (r : Nat × Bytes) : State :=
  (s.storeSettings false [r]).withCmd fun c => { c with jobs := c.jobs.map fun j => match j.kind with
    | .settingsWrite resetAll rs => { j with kind := .settingsWrite resetAll (rs ++ [r]) }
    | _ => j }

/-- The settings read at a start, and why they were reset (R596, FWU_SET). -/
def State.readSettings (s : State) : State :=
  let show_ (s : State) (f n d : Nat) := ((s.wr Reg.FWU_SET_FORMAT f).wr Reg.FWU_SET_NEWER n).wr Reg.FWU_SET_DEFAULTS d
  let take (s : State) (rs : List (Nat × Bytes)) (m : Bytes) (reset : Option (Nat × Nat)) :=
    s.withFw fun f => { f with settings := rs, mCfg := m, settingsReset := reset }
  match s.currentCopy with
  | none => take (show_ s 0 0 1) [] (sha256 []) (some (3, 0))
  | some c =>
    if c.format < s.setFormat then
      let t := s.writeCopy s.setFormat []
      take (show_ t c.format 0 1) [] (sha256 (settingsCopyBytes c)) (some (1, c.format))
    else if c.format > s.setFormat then
      take (show_ s c.format 1 1) [] (sha256 (settingsCopyBytes c)) (some (2, c.format))
    else take (show_ s c.format 0 0) c.records (sha256 (settingsCopyBytes c)) none

/-- The settings that SETTINGS_READ knows (R595). -/
def settingKnown (id : Nat) : Bool := (1 ≤ id && id ≤ 0x0A) || id == 0x10 || (0x20 ≤ id && id ≤ 0x27)

/-- The values that SETTINGS_WRITE takes (R595, R597). -/
def settingValid (r : Nat × Bytes) : Bool :=
  let v := ofLe r.2
  match r.1 with
  | 0x0001 => r.2.length == 1
  | 0x0002 => r.2.length == 1
  | 0x0003 => r.2.length == 1
  | 0x0004 => r.2.length == 2
  | 0x0005 => r.2.length == 1 && 0x08 ≤ v && v ≤ 0x77
  | 0x0006 => r.2.length == 4
  | 0x0007 => r.2.length == 1 && (v ≤ 32 || v == 63)
  | 0x0008 => r.2.length == 1 && v ≤ 2
  | 0x0009 => r.2.length == 2 && v % 256 ≤ 1 && v / 256 ≤ 0x7F
  | 0x000A => r.2.length == 2
  | _ => false

/-- The records of SETTINGS_WRITE: `n` of them, each as the settings area holds it. -/
def parseRecords : Nat → Bytes → Option (List (Nat × Bytes))
  | 0, _ => some []
  | n + 1, b =>
    let len := leAt b 2 2
    if b.length < 4 + len then none
    else (parseRecords n (b.drop (4 + (len + 3) / 4 * 4))).map fun rs => (leAt b 0 2, slice b 4 len) :: rs

/-- SETTINGS_READ (R597). -/
def execSettingsRead (r : Request) (s : State) : Out :=
  runCommand 0x0606 (takes 4 fun p s =>
    let id := leAt p 0 2
    if !settingKnown id then .fail s Status.notFound
    else match s.settingRecord id with
      | some v => .ok s (le 2 v.length ++ [0, 0] ++ v)
      | none =>
        let v := (settingDefault id).getD []
        .ok s (le 2 v.length ++ [1, 0] ++ v)) r s

/-- SETTINGS_WRITE (R597). -/
def execSettingsWrite (r : Request) (s : State) : Out :=
  runCommand 0x0607 (takes 4 fun p s =>
    match parseRecords (leAt p 0 1) (p.drop 4) with
    | none => .fail s Status.badParam
    | some rs =>
      if rs.all settingValid then s.startJob 0x0607 (.settingsWrite (bit (leAt p 1 1) 0) rs)
      else .fail s Status.badParam) r s

/-! Firmware commands (R591, R592) -/

/-- The slot FW_BEGIN names: 0xFF is the one not running; in RECOVERY 0 or 1 only (R591, R599). -/
def State.beginSlot (s : State) (n : Nat) : Option Nat :=
  if n ≤ 1 then some n else if n == 0xFF && !s.fromRom then some (1 - s.fw.slot) else none

/-- The ⌈`n` / 64 KiB⌉ sectors at the start of flash slot k are erased (R591). -/
def State.eraseSectors (s : State) (k n : Nat) : State :=
  s.setFlashSlot k ((s.flashSlot k).filter fun e => 16 * ceilDiv n 65536 ≤ e.1)

/-- FW_BEGIN (R591, R599, R600). -/
def execFwBegin (r : Request) (s : State) : Out :=
  runCommand 0x0600 (takes 8 fun p s =>
    let len := leAt p 4 4
    match s.beginSlot (leAt p 0 1) with
    | none => .fail s Status.badParam
    | some k =>
      if len < 4112 || len > 12 * 1024 * 1024 then .fail s Status.badParam
      else if s.fromRom && s.rd Reg.FWU_STAT_REC_REASON == 3 then .fail s Status.flashError
      else if s.fromRom && (s.keySlot 0).isNone then .fail s Status.notFound
      else if (!s.fromRom && k == s.fw.slot) || s.trialSlot.isSome || s.groupJob 6 then .fail s Status.busy
      else
        let t := ((s.setSlotState k 0 0).eraseSectors k len).withFw fun f =>
          { f with update := some (k, len), written := [], length := len }
        match s.startJob 0x0600 (.fwBegin k len) with
        | .reply _ 0x01 _ => t.startJob 0x0600 (.fwBegin k len)
        | a => a) r s

/-- LEN of the block at `offset` of an image of `n` bytes (R592). -/
def blockLen (n offset : Nat) : Nat := min 4096 (n - offset)

/-- FW_WRITE_BLOCK (R592). -/
def execFwWriteBlock (r : Request) (s : State) : Out :=
  runCommand 0x0601 (takes 64 fun p s =>
    let offset := leAt p 0 4
    let hash := slice p 8 32
    let data := p.drop 64
    match s.fw.update with
    | none => .fail s Status.notFound
    | some (k, n) =>
      if offset % 4096 != 0 || offset ≥ n || leAt p 4 2 != blockLen n offset || data.length != blockLen n offset ||
          sha256 data != hash then .fail s Status.badParam
      else
        let i := offset / 4096
        let w := Table.get (fun _ => []) s.fw.written i
        if w == hash then .ok (s.count 0x2F1)
        else if w != [] then .fail s Status.exists_
        else s.startJob 0x0601 (.fwBlock k i data)) r s

/-- FW_VERIFY (R591). -/
def execFwVerify (r : Request) (s : State) : Out :=
  runCommand 0x0602 (fun _ s => match s.fw.update with
    | none => .fail s Status.notFound
    | some (k, _) => s.startJob 0x0602 (.fwVerify k)) r s

/-- FW_ACTIVATE (R591). -/
def execFwActivate (r : Request) (s : State) : Out :=
  runCommand 0x0603 (fun r s => takes 4 (fun p s =>
    let mode := leAt p 0 1
    if mode > 2 then .fail s Status.badParam
    else match [0, 1].find? (fun k => s.slotState k == 2) with
      | none => .fail s Status.notFound
      | some k =>
        let h := s.imageHeader k
        let run := s.imageHeader s.fw.slot
        if hdrVersion h < s.rd Reg.FWU_RUN_VERSION && !bit (hdrFlags h) 1 then .fail s Status.denied
        else if mode == 0 && (!bit (hdrFlags h) 0 || hdrStateAbi h != hdrStateAbi run || hdrSetFormat h != hdrSetFormat run)
          then .fail s Status.notSupported
        else if s.trialSlot.isSome || s.groupJob 6 then .fail s Status.busy
        else
          let s := (s.setSlotState k 3 (if mode == 0 then 1 else 0)).withFw fun f => { f with update := none }
          let s := s.notice 0x0601 ([byte k] ++ le 4 (hdrVersion h) ++ [byte mode])
          .ok (if mode == 2 then s else s.schedule r.via (.fwActivate k mode))) r s) r s

/-- FW_STATUS's reply (R591, R602). -/
def State.fwStatus (s : State) : Bytes :=
  le 4 (s.rd Reg.FWU_RUN_VERSION) ++ le 4 s.fwuStat ++ le 4 (s.fwuSlot 0) ++ le 4 (s.slotVersion 0) ++
    le 4 (s.fwuSlot 1) ++ le 4 (s.slotVersion 1) ++ le 4 s.fwuUpd

/-- FW_STATUS. -/
def execFwStatus (r : Request) (s : State) : Out := runCommand 0x0604 (fun _ s => .ok s s.fwStatus) r s

/-- FW_CONFIRM (R591). -/
def execFwConfirm (r : Request) (s : State) : Out :=
  runCommand 0x0605 (fun _ s =>
    if !s.fw.trial then .fail s Status.notFound
    else
      let k := s.fw.slot
      let s := (s.setSlotState k 4 (s.slotAttempts k)).withFw fun f => { f with trial := false }
      .ok (s.notice 0x0603 ([byte k] ++ le 4 (s.rd Reg.FWU_RUN_VERSION)))) r s

/-! Jobs of this chapter at their ends -/

/-- FW_WRITE_BLOCK's end: programmed and read back, or FLASH_ERROR and the block stays unwritten. -/
def State.fwBlockDone (s : State) (k i : Nat) (data : Bytes) (good : Bool) : State × Nat :=
  match s.fw.update with
  | none => (s, Status.notFound)
  | some (_, n) =>
    let w := Table.get (fun _ => []) s.fw.written i
    if w == sha256 data then (s.count 0x2F1, Status.ok)
    else if w != [] then (s, Status.exists_)
    else if !good || !s.nv.flashOk then (s.count 0x2F2, Status.flashError)
    else
      let s := (s.setFlashSlot k (Table.set erasedBlock (s.flashSlot k) i data)).withFw fun f =>
        { f with written := Table.set (fun _ => []) f.written i (sha256 data) }
      let s := s.count 0x2F0
      (if s.fw.written.length == ceilDiv n 4096 then s.setSlotState k 1 0 else s, Status.ok)

/-- FW_VERIFY's end: blocks missing or R584 fails is IMAGE_INVALID; OK sets VERIFIED, and in RECOVERY
TRIAL, which activates the slot (R585, R599). -/
def State.fwVerifyDone (s : State) (k : Nat) (good : Bool) : State × Nat :=
  match s.fw.update with
  | none => (s, Status.notFound)
  | some (_, n) =>
    if !good || !s.nv.flashOk then (s.count 0x2F2, Status.flashError)
    else if s.fw.written.length != ceilDiv n 4096 then (s.count 0x2F3, Status.imageInvalid)
    else match s.imagePlain k with
      | none => (s.count 0x2F3, Status.imageInvalid)
      | some _ =>
        let s := s.count 0x2E6
        (if s.fromRom then (s.setSlotState k 3 0).withFw fun f => { f with update := none } else s.setSlotState k 2 0, Status.ok)

/-! Hitless restart (R593) -/

/-- A hitless restart begins: queued requests are answered BUSY_RESTART, and every job stops but the OTP sequencer's
(R68, R568).  A foreground command under way completes first: the restart waits for its end. -/
def State.beginRestart (s : State) (cause slot : Nat) : State :=
  if s.cmd.restarting then s
  else if s.foreground then s.withCmd fun c => { c with restartDue := some (c.restartDue.getD (cause, slot)) }
  else
    let q := s.cmd.input
    let s := s.withCmd fun c => { c with
      input := [], restarting := true
      jobs := c.jobs.map fun j => if j.opcode == 0x0504 || j.opcode == 0x0508 then j else { j with aborted := true } }
    let s := s.withFw fun f => { f with restart := some (cause, slot) }
    q.foldl (fun s r => s.refuse r Status.busyRestart) s

/-- HITLESS_RESTART_BEGIN (R593): cause 0 loads the slot on trial, causes 1 and 2 the running image. -/
def execHitlessRestartBegin (cause : Fin 3) (s : State) : Out :=
  onHub (fun s =>
    if !s.serving || s.mode == 0 then s
    else s.beginRestart cause (if cause.val == 0 then s.trialSlot.getD s.fw.slot else s.fw.slot)) s

/-- The section of a sub-processor whose code differs waits for the unit's safe point (R590).  Units 2 to 5. -/
def State.offerSections (s : State) (h plain : Bytes) : State :=
  s.withFw fun f => { f with waiting := ((([2, 3, 4, 5].map fun t => (t, sectionPlain h plain t)).filter
    fun e => Table.get (fun _ => []) f.loaded e.1 != e.2)) }

/-- M_SUB over the code of the four sub-processors, as loaded or waiting (R574). -/
def State.subDigest (s : State) : Bytes :=
  sha256 ([2, 3, 4, 5].flatMap fun t => Table.get (fun k => Table.get (fun _ => []) s.fw.loaded k) s.fw.waiting t)

/-- The image of slot k runs: FWU_RUN, RUN_SLOT, the measurements and the sections on offer (R574, R590, R602). -/
def State.runImage (s : State) (k : Nat) (trial : Bool) (plain : Bytes) : State :=
  let h := s.imageHeader k
  let s := (s.wr Reg.FWU_RUN_VERSION (hdrVersion h)).withFw fun f =>
    { f with slot := k, trial := trial, mFw := sha256 (h ++ s.imageBody k) }
  let s := (s.offerSections h plain).count 0x2E6
  s.withFw fun f => { f with mSub := s.subDigest }

/-- A job that the restart stopped, or that ended during it, reports (R68, R568). -/
def State.reportJob (s : State) (j : Job) : State :=
  if j.aborted then s.jobDone j Status.aborted
  else match j.result with
    | some c => s.jobDone j c
    | none => s

/-- HITLESS_RESTART_END (R593): `ms` is how long it lasted.  With `good` false, or an image that does not load, a
hub-die reset with cause FATAL_UNIT and unit 0x01. -/
def execHitlessRestartEnd (good : Bool) (ms : Nat) (s : State) : Out :=
  onHub (fun s => match s.fw.restart with
    | none => s
    | some (cause, k) =>
      match s.imagePlain k with
      | none => s.hubReset 0x07 0x01
      | some plain =>
        if !good then s.hubReset 0x07 0x01
        else
          let s := (s.runImage k (s.slotState k == 3) plain).withFw fun f => { f with restart := none }
          let s := s.withCmd fun c => { c with restarting := false }
          let s := (s.bump Reg.FWU_RESTART_COUNT).wr Reg.FWU_RESTART_DUR_MS (min ms 0xFFFF)
          let s := s.cmd.jobs.foldl State.reportJob s
          s.notice 0x0604 ([byte cause] ++ le 2 (min ms 0xFFFF))) s

/-- FW_ACTIVATE_TAKE_EFFECT (R591): the hitless restart or the reset starts. -/
def execFwActivateTakeEffect (s : State) : Out :=
  onHub (fun s => match s.takeDeferred (fun d => match d with
      | .fwActivate _ _ => true
      | _ => false) with
    | some (.fwActivate k mode, t) => if mode == 0 then t.beginRestart 0 k else t.hubReset 0x03
    | _ => s) s

/-- TRIAL_CONFIRM_TIMEOUT (R588): Scribe performs RESET TYPE 0; CONFIRM_S of 0 disables it. -/
def execTrialConfirmTimeout (s : State) : Out :=
  onHub (fun s => if s.serving && s.fw.trial && s.setting 0x000A != 0 then s.hubReset 0x03 else s) s

/-- SUBPROCESSOR_SAFE_POINT (R590): a unit whose code differs takes the new section and keeps its state.  Sections
2 Nib, 3 Tuner, 4 scan-out sequencer, 5 point engine. -/
def execSubprocessorSafePoint (sec : Fin 6) (s : State) : Out :=
  onHub (fun s => match s.fw.waiting.find? (fun e => e.1 == sec.val) with
    | some e => s.withFw fun f => { f with
        loaded := Table.set (fun _ => []) f.loaded e.1 e.2, waiting := f.waiting.filter (fun x => x.1 != sec.val) }
    | none => s) s

end Sys2Proof.Machine
end

