-- ==== Sys2Proof/Machine/Tio.lean ====
section
/-!
DEFINITION. The time pins: capture, triggers, and what a step of the reading does to a schedule (R460 to R464, R467).
-/

namespace Sys2Proof.Machine

/-- Pin n. -/
def State.tioPin (s : State) (n : Nat) : TioPin := Table.get (fun _ => {}) s.tio n

/-- The machine with pin n replaced. -/
def State.setTioPin (s : State) (n : Nat) (p : TioPin) : State := { s with tio := Table.set (fun _ => {}) s.tio n p }

/-- MODE of pin n; 5 to 7 act as 0. -/
def State.tioMode (s : State) (n : Nat) : Nat :=
  let m := s.rd (Reg.TIO_CFG_MODE n)
  if m > 4 then 0 else m

/-- Picoseconds in 2^−16 ns. -/
def psTo16 (ps : Int) : Int := ps * 65536 / 1000

/-- DLY of pin n in 2^−16 ns. -/
def State.tioDelay (s : State) (n : Nat) : Int := psTo16 (toSigned 16 (s.rd (Reg.TIO_DLY_DLY n)))

/-- The period of pin n in 2^−16 ns; never 0. -/
def State.tioPeriod (s : State) (n : Nat) : Nat :=
  orOne (s.rd (Reg.TIO_PER_PER_NS n) * 65536 + s.rd (Reg.TIO_PERF_PER_FR n))

/-- The pulse width of pin n in 2^−16 ns. -/
def State.tioWidth (s : State) (n : Nat) : Nat := s.rd (Reg.TIO_WID_WIDTH_NS n) * 65536

/-- The time of the next active edge. -/
def State.tioNext (s : State) (n : Nat) : Nat :=
  let p := s.tioPin n
  if s.tioMode n == 3 then p.start + p.k * s.tioPeriod n else p.start

/-- Shows the schedule of pin n in its registers. -/
def State.tioShow (s : State) (n : Nat) : State :=
  let p := s.tioPin n
  let t := if p.armed then s.tioNext n else 0
  let s := (s.put (Reg.TIO_STAT_ARMED n) p.armed).put (Reg.TIO_STAT_WAIT n) (p.armed && !s.merRun)
  let s := ((s.wr (Reg.TIO_NEXT_SL_SEC_LO n) (secOf t)).wr (Reg.TIO_NEXT_SH_SEC_HI n) (secOf t / 2 ^ 32)).wr
    (Reg.TIO_NEXT_NS_NSEC n) (nsecOf t)
  s.wr (Reg.TIO_REM_REM n) (if p.armed then p.left.getD 0 else 0)

/-- Drives pin n to a level. -/
def State.tioDrive (s : State) (n : Nat) (high : Bool) : State :=
  (s.wr Reg.TIO_LEVEL_LEVEL (putBit (s.rd Reg.TIO_LEVEL_LEVEL) n high)).emit (.pin "TIO" (2 * n + b2n high))

/-- Drives pin n to its active or inactive level (POL). -/
def State.tioActive (s : State) (n : Nat) (active : Bool) : State :=
  s.tioDrive n (active == s.flag (Reg.TIO_CFG_POL n))

/-- Skips `k` edges of pin n as missed (R464). -/
def State.tioMiss (s : State) (n k : Nat) : State :=
  if k == 0 then s
  else ((s.put (Reg.TIO_STAT_MISSED n) true).count 0x255 k).limited (0x0705_0000 + n) 0x0705 (fun c => byte n :: le 2 c) k

/-- Moves the schedule of pin n past every edge earlier than `t`, without driving it. -/
def State.tioSkipTo (s : State) (n t : Nat) : State :=
  let p := s.tioPin n
  if !p.armed || s.tioNext n ≥ t then s
  else if s.tioMode n == 3 then
    let k := ceilDiv (t - s.tioNext n) (s.tioPeriod n)
    let k := match p.left with
      | some c => min k c
      | none => k
    let left := p.left.map (· - k)
    ((s.setTioPin n { p with k := p.k + k, left := left, armed := left != some 0 }).tioMiss n k).tioShow n
  else ((s.setTioPin n { p with armed := false }).tioMiss n 1).tioShow n

/-- A step of the reading, or the start of running: every edge whose time has passed is skipped (R464). -/
def State.tioStepped (s : State) : State :=
  (List.range 16).foldl (fun s n =>
    if (s.tioPin n).armed && s.merRun then (s.tioSkipTo n s.reading.toNat).tioShow n else s) s

/-- The pin is disarmed: it goes to its inactive level, or keeps its last level in mode 4. -/
def State.tioDisarm (s : State) (n : Nat) : State :=
  let m := s.tioMode n
  let s := (s.setTioPin n {}).tioShow n
  if m == 2 || m == 3 then s.tioActive n false else s

/-- TIO_CONFIG (R463). -/
def execTioConfig (r : Request) (s : State) : Out :=
  runCommand 0x0704 (takes 24 fun p s =>
    let n := leAt p 0 1
    let mode := leAt p 1 1
    let per := leAt p 8 4
    let width := leAt p 16 4 % 2 ^ 30
    if n > 15 || mode > 4 || ((mode == 2 || mode == 3) && width < 10) ||
        (mode == 3 && (per < 40 || (width + 10) * 65536 > per * 65536 + leAt p 12 2)) then .fail s Status.badParam
    else
      let s := s.tioDisarm n
      let s := ((s.wr (Reg.TIO_CFG_MODE n) mode).wr (Reg.TIO_CFG_EDGE n) (leAt p 2 1)).wr (Reg.TIO_CFG_POL n) (leAt p 3 1)
      let s := (s.wr (Reg.TIO_DLY_DLY n) (leAt p 4 2)).wr (Reg.TIO_PER_PER_NS n) per
      let s := ((s.wr (Reg.TIO_PERF_PER_FR n) (leAt p 12 2)).wr (Reg.TIO_WID_WIDTH_NS n) width).wr
        (Reg.TIO_WID_LEVEL n) (leAt p 20 1)
      .ok (if mode == 2 || mode == 3 then s.tioActive n false else s)) r s

/-- The first start at least 2 µs after the present reading (R463): in mode 3 a later pulse may be the first. -/
def State.tioFirst (s : State) (n start : Nat) : Option Nat :=
  let early := s.reading.toNat + 2000 * 65536
  if start ≥ early then some 0
  else if s.tioMode n == 3 then some (ceilDiv (early - start) (s.tioPeriod n))
  else none

/-- TIO_ARM (R463, R464). -/
def execTioArm (r : Request) (s : State) : Out :=
  runCommand 0x0705 (takes 20 fun p s =>
    let n := leAt p 0 1
    let op := leAt p 1 1
    let count := leAt p 4 4
    let start := timeOf (leAt p 8 6) (leAt p 14 4) (leAt p 18 2)
    if n > 15 || op > 1 then .fail s Status.badParam
    else if op == 1 then .ok (s.tioDisarm n)
    else if s.tioMode n < 2 then .fail s Status.badParam
    else match s.tioFirst n start with
      | none => .fail s Status.badParam
      | some k =>
        let left := if s.tioMode n == 3 then (if count == 0 then none else some count) else some 1
        let s := (s.setTioPin n { armed := true, start := start, k := k, left := left, endAt := (s.tioPin n).endAt }).tioShow n
        .ok s (timeBytes (s.tioNext n))) r s

/-- TIO_REGISTER_WRITE (R467): a write to TIO_CFGn, TIO_PERn, TIO_PERFn or TIO_WIDn disarms the pin. -/
def State.tioWrite (s : State) (n : Nat) (k : Nat) (v : Word) : State :=
  let w := v.toNat
  let s := s.tioDisarm n
  match k with
  | 0 =>
    let s := ((s.wr (Reg.TIO_CFG_MODE n) (bits w 10 8)).wr (Reg.TIO_CFG_EDGE n) (bits w 5 4)).wr (Reg.TIO_CFG_POL n) (bits w 0 0)
    if s.tioMode n == 2 || s.tioMode n == 3 then s.tioActive n false else s
  | 1 => s.wr (Reg.TIO_PER_PER_NS n) w
  | 2 => s.wr (Reg.TIO_PERF_PER_FR n) (bits w 15 0)
  | _ => (s.wr (Reg.TIO_WID_LEVEL n) (bits w 31 31)).wr (Reg.TIO_WID_WIDTH_NS n) (bits w 29 0)

/-- TIO_REGISTER_WRITE. -/
def execTioRegisterWrite (n : Fin 16) (k : Fin 4) (v : Word) (s : State) : Out := onHub (fun s => s.tioWrite n k v) s

/-- What the steps of the present core cycle have added to the reading, and how many they are: a capture in that cycle is
timed on the scale before them, and its GEN shows it (R464). -/
def State.stepsNow (s : State) : Int × Nat :=
  if s.mer.stepRaw == s.mer.raw then (s.mer.stepBack, s.mer.stepCount) else (0, 0)

/-- A capture entry (R461, R464). -/
def State.captureEntry (s : State) (n : Nat) (falling : Bool) (t : Int) : Bytes :=
  let st := s.rd Reg.MER_STAT_STATE
  let (back, steps) := s.stepsNow
  let t := t - back
  [byte (n + 16 * b2n falling + 32 * b2n (!s.merRun) + 64 * b2n (st != 2 && st != 4)), byte (s.rd Reg.MER_GEN_GEN + 256 - steps % 256)] ++
    le 2 (s.rd (Reg.TIO_STAT_COUNT n)) ++ timeBytes t

/-- An edge on pin `n` (R460), `frac` its place in the core cycle in 2^−16 of a TCLK period, which is timed to 1/32 of that
period; `full` when it finds the pin's FIFO full.  With it, whether the pin captures. -/
def State.tioCapture (s : State) (n : Nat) (falling : Bool) (frac : BitVec 19) (full : Bool) : State × Bool :=
  let s := s.wr Reg.TIO_LEVEL_LEVEL (putBit (s.rd Reg.TIO_LEVEL_LEVEL) n (!falling))
  let edge := orOne (s.rd (Reg.TIO_CFG_EDGE n))
  if s.tioMode n != 1 || !bit edge (b2n falling) then (s, false)
  else if full then
    (((s.put (Reg.TIO_STAT_OVERRUN n) true).count 0x253).limited (0x0706_0000 + n) 0x0706 (fun c => byte n :: le 2 c), true)
  else
    let s := (s.incr (Reg.TIO_STAT_COUNT n)).count 0x252
    (s.produce 1 (s.captureEntry n falling (s.readingAt (s.mer.raw + frac.toNat / 2048 * 2048) - s.tioDelay n)), true)

/-- The active edge of pin n's next pulse, or in mode 4 its level (R462). -/
def State.tioPulse (s : State) (n : Nat) : State :=
  let p := s.tioPin n
  let t := s.tioNext n
  if s.tioMode n == 4 then
    let s := (s.setTioPin n { p with armed := false }).tioDrive n (s.flag (Reg.TIO_WID_LEVEL n))
    ((s.incr (Reg.TIO_STAT_COUNT n)).count 0x254).tioShow n
  else
    let left := p.left.map (· - 1)
    let s := s.setTioPin n { p with k := p.k + 1, left := left, armed := left != some 0, endAt := some (t + s.tioWidth n) }
    (((s.tioActive n true).incr (Reg.TIO_STAT_COUNT n)).count 0x254).tioShow n

/-- TIO_TRIGGER_EDGE (R462, R464): the edge whose time, advanced by DLY, has come.  An edge of a new schedule that
falls in the old one's pulse is skipped as missed; while RUN is 0 the pin waits. -/
def execTioTriggerEdge (n : Fin 16) (s : State) : Out :=
  onHub (fun s =>
    let p := s.tioPin n
    let now := (s.reading + s.tioDelay n).toNat
    if s.tioMode n < 2 then s
    else match p.endAt with
      | some e =>
        if p.armed && s.tioNext n < e && now ≥ s.tioNext n then s.tioSkipTo n e
        else if now ≥ e then ((s.setTioPin n { p with endAt := none }).tioActive n false).count 0x254
        else s
      | none =>
        if !p.armed then s
        else if !s.merRun then s.put (Reg.TIO_STAT_WAIT n) true
        else if now ≥ s.tioNext n then s.tioPulse n
        else s) s

end Sys2Proof.Machine
end

