-- ==== Sys2Proof/Machine/Meridian.lean ====
section
/-!
DEFINITION. Meridian: how the reading changes, the HOP exchange and the delay filters, the parent and the master, and
the time commands (R440 to R459, R466).
-/

namespace Sys2Proof.Machine

/-- A trunk in TEST or in a loop takes no delay samples (R136, R452). -/
def State.trunkExcl (s : State) (t : Nat) : Bool :=
  s.rd (Reg.TRL_LOOP_LOOP t) != 0 || s.rd (Reg.TRL_STAT_TSTATE t) == 0xC ||
    (Table.get (fun _ => ({} : Lanes)) s.lanes t).txState == 0xC

/-- The machine with Meridian changed. -/
def State.withMer (s : State) (f : Meridian → Meridian) : State := { s with mer := f s.mer }

/-- Trunk t's part of Meridian. -/
def State.merTrunk (s : State) (t : Nat) : MerTrunk := Table.get (fun _ => {}) s.mer.trunks t

/-- The machine with it replaced. -/
def State.setMerTrunk (s : State) (t : Nat) (x : MerTrunk) : State :=
  s.withMer fun m => { m with trunks := Table.set (fun _ => {}) m.trunks t x }

/-! Changes of the reading (R443) -/

/-- The slew made so far moves from PEND to SLEWED; the reading is unchanged. -/
def State.foldSlew (s : State) : State :=
  let d := s.mer.slewDone (s.rd Reg.MER_SERVO_SLEW_PPB) s.mer.raw
  s.withMer fun m => { m with slewed := m.slewed + d, pend := m.pend - d, pendRaw := m.raw }

/-- A rate change: the anchors move to the present instant, so that the reading is continuous. -/
def State.changeRate (s : State) (rate : Int) : State :=
  let s := s.foldSlew
  let t := s.reading
  ((s.withMer fun m => { m with anchorTime := t, anchorRaw := m.raw, slewed := 0, rateAdj := rate }).wr
    Reg.MER_RATE_RATE_ADJ (ofSigned 32 rate)).count 0x251

/-- A step by `d` (R443): PEND is 0, GEN counts it, TIME_STEP is raised, and what is timed from the reading follows. -/
def State.stepTime (s : State) (d : Int) (cause : Nat) : State :=
  let (back, steps) := s.stepsNow
  let s := s.foldSlew.withMer fun m => { m with
    anchorTime := m.anchorTime + d, pend := 0, stepRaw := m.raw, stepBack := back + d, stepCount := steps + 1 }
  let s := (s.incr Reg.MER_GEN_GEN).count 0x250
  let s := s.notice 0x0702 (le 8 (satSigned 64 d) ++ [byte (s.rd Reg.MER_GEN_GEN), byte cause])
  (s.tioStepped.gatesStepped).pointStepped (0 < d)

/-- A new correction replaces PEND. -/
def State.setPend (s : State) (e : Int) : State := s.foldSlew.withMer fun m => { m with pend := e }

/-- What MER_PEND shows: the correction still to slew. -/
def State.pendLeft (s : State) : Int := s.mer.pend - s.mer.slewDone (s.rd Reg.MER_SERVO_SLEW_PPB) s.mer.raw

/-- A pending rate and its apply time, in whole ns, as the registers show them. -/
def State.setPending (s : State) (p : Option (Int × Nat)) : State :=
  let s := (s.withMer fun m => { m with rateNext := p }).put Reg.MER_STAT_RATE_PEND p.isSome
  let rate := p.map (fun x => ofSigned 32 x.1) |>.getD 0
  let at_ := p.map (·.2) |>.getD 0
  let sec := at_ / 1000000000
  (((s.wr Reg.MER_RATE_NEXT_RATE_NEXT rate).wr Reg.MER_RATE_AT_SL_SEC_LO sec).wr Reg.MER_RATE_AT_SH_SEC_HI
    (sec / 2 ^ 32)).wr Reg.MER_RATE_AT_NS_NSEC (at_ % 1000000000)

/-- The pending rate takes effect. -/
def State.applyRate (s : State) : State :=
  match s.mer.rateNext with
  | some (rate, _) => (s.changeRate rate).setPending none
  | none => s

/-! States, HOPs sent -/

/-- What a HOP advertises: every change of it sends a HOP with PROMPT (R449). -/
def State.advertised (s : State) : Nat × Nat × Option (Int × Nat) :=
  ((s.reg Reg.MER_STAT_A).toNat, s.rd Reg.MER_GEN_GEN, s.mer.rateNext)

/-- MER_STAT.STATE changes: TIME_STATE (R456, R469). -/
def State.setTimeState (s : State) (new : Nat) : State :=
  let old := s.rd Reg.MER_STAT_STATE
  if old == new then s
  else
    let s := s.wr Reg.MER_STAT_STATE new
    s.notice 0x0701 [byte old, byte new, byte (s.rd Reg.MER_STAT_PARENT), byte (s.rd Reg.MER_STAT_DIST),
      byte (s.rd Reg.MER_STAT_MGEN), byte (b2n s.merRun)]

/-- The HOP of R448 for trunk t, which names the set that began the count (R449). -/
def State.hopBytes (s : State) (t : Nat) (prompt : Bool) : Bytes :=
  let m := s.merTrunk t
  let (sq, txRaw) := m.began
  let rx := m.rx.head?
  let (rate, at_) := s.mer.rateNext.getD (s.mer.rateAdj, 0)
  [1, byte (b2n s.merRun + 2 * b2n rx.isSome + 4 * b2n m.srcChanged + 8 * b2n prompt),
   byte (s.rd Reg.MER_STAT_STATE), byte (s.rd Reg.MER_STAT_DIST), byte (s.rd Reg.MER_STAT_MASTER_POS),
   byte (s.rd Reg.MER_STAT_MGEN), byte (s.rd Reg.MER_GEN_GEN), byte sq, byte (rx.map (·.1) |>.getD 0), 0] ++
  le 10 txRaw ++ le 10 (rx.map (·.2) |>.getD 0) ++ timeBytes (s.readingAt txRaw) ++ [0, 0] ++
  le 4 (ofSigned 32 s.mer.rateAdj) ++ le 4 (ofSigned 32 rate) ++ le 6 (at_ / 1000000000) ++ le 4 (at_ % 1000000000) ++
  [0, 0]

/-- The transmit direction of trunk t is in HUSH or DARK, and sends no HOP (R447, R466). -/
def State.merHold (s : State) (t : Nat) : Bool :=
  let st := (Table.get (fun _ => ({} : Lanes)) s.lanes t).txState
  st == 0xA || st == 0xB

/-- Sets between periodic HOPs (R466). -/
def State.xchg (s : State) : Nat := clamp 1 48 (s.rd Reg.MER_CTRL_XCHG_N)

/-- Trunk t carries HOPs: its link is ACTIVE. -/
def State.hopTrunk (s : State) (t : Nat) : Bool := s.rd (Reg.TLK_STAT_LSTATE t) == 2

/-- Sends a HOP on trunk t (R449). -/
def State.sendHop (s : State) (t : Nat) (prompt : Bool) : State :=
  if s.hopTrunk t then
    let b := s.hopBytes t prompt
    ((s.setMerTrunk t { s.merTrunk t with srcChanged := false }).count (0x248 + 4 * t)).sendTime t b
  else s

/-- After an event: a HOP with PROMPT on each trunk when what a HOP advertises has changed since `old`. -/
def State.prompt (s : State) (old : State) : State :=
  if s.advertised == old.advertised then s else (s.sendHop 0 true).sendHop 1 true

/-! Parent and master (R445 to R447, R456 to R458) -/

/-- SAMPLES that make a filter full. -/
def State.filterLen (s : State) : Nat := 2 ^ min 10 (s.rd Reg.MER_CTRL_FILT_LOG2)

/-- Trunk t is a parent candidate (R447), with the DIST it advertises. -/
def State.candidateDist (s : State) (t : Nat) : Option Nat :=
  let m := s.merTrunk t
  match m.hop with
  | some (mgen, dist, at_) =>
    if s.hopTrunk t && m.samples.length ≥ 4 && mgen == s.rd Reg.MER_STAT_MGEN && dist < 63 &&
        s.mer.raw ≤ at_ + rawOfNs (orOne (s.rd Reg.MER_CTRL_LOSS_MS) * 1000000) then some dist else none
  | none => none

/-- The candidate of the lowest DIST; TRK0 on a tie. -/
def State.bestCandidate (s : State) : Option (Nat × Nat) :=
  match s.candidateDist 0, s.candidateDist 1 with
  | some a, some b => if b < a then some (1, b) else some (0, a)
  | some a, none => some (0, a)
  | none, some b => some (1, b)
  | none, none => none

/-- The parent trunk. -/
def State.parentTrunk (s : State) : Option Nat :=
  match s.rd Reg.MER_STAT_PARENT with
  | 1 => some 0
  | 2 => some 1
  | _ => none

/-- The parent is dropped: DIST 63, FREERUN, and no parent for 1 ms. -/
def State.dropParent (s : State) : State :=
  let s := (s.withMer fun m => { m with holdoff := true, candidate := none, goodHops := 0 })
  ((s.wr Reg.MER_STAT_PARENT 0).wr Reg.MER_STAT_DIST 63).setTimeState 3

/-- Trunk t becomes the parent: ACQUIRE. -/
def State.takeParent (s : State) (t dist : Nat) : State :=
  let s := s.withMer fun m => { m with candidate := none, goodHops := 0 }
  ((s.wr Reg.MER_STAT_PARENT (t + 1)).wr Reg.MER_STAT_DIST (dist + 1)).setTimeState 1

/-- Chooses the parent after an event (R447). -/
def State.chooseParent (s : State) : State :=
  if s.rd Reg.MER_STAT_STATE == 4 then s
  else
    match s.parentTrunk with
    | some p =>
      match s.candidateDist p with
      | none => if s.rd (Reg.TLK_STAT_LSTATE p) == 5 then s else s.dropParent
      | some d =>
        let q := 1 - p
        match s.candidateDist q with
        | some e => if e < d then s.withMer fun m => { m with candidate := some q }
          else s.withMer fun m => { m with candidate := none }
        | none => s.withMer fun m => { m with candidate := none }
    | none =>
      if s.mer.holdoff then s
      else match s.bestCandidate with
        | some (t, d) => s.takeParent t d
        | none => s

/-- The master's position is this Damya's own. -/
def State.masterHere (s : State) : Bool :=
  s.rd Reg.MER_STAT_MASTER_POS == s.position && (s.isRoot || s.position != 0)

/-- A new MGEN and MASTER_POS are adopted (R445, R446): the parent is dropped; the Damya named becomes MASTER. -/
def State.adoptMaster (s : State) (mgen pos : Nat) : State :=
  let s := (s.wr Reg.MER_STAT_MGEN mgen).wr Reg.MER_STAT_MASTER_POS pos
  let s := s.notice 0x0703 [byte pos, byte mgen]
  if s.masterHere then
    let s := s.withMer fun m => { m with holdoff := false, candidate := none }
    ((s.wr Reg.MER_STAT_PARENT 0).wr Reg.MER_STAT_DIST 0).setTimeState 4
  else s.dropParent

/-- RUN turns to 1 (R457). -/
def State.startRunning (s : State) : State := s.put Reg.MER_STAT_RUN true

/-- RUN turns to 0: armed pins wait (R464), and the point engine's STATE shows it (R426). -/
def State.stopRunning (s : State) : State :=
  let s := s.put Reg.MER_STAT_RUN false
  ((List.range 16).foldl (fun (s : State) n => if (s.tioPin n).armed then s.tioShow n else s) s).pointState

/-- The Damya that MASTER_POS names, once it has followed or run free, becomes MASTER (R456). -/
def State.masterCheck (s : State) : State :=
  let st := s.rd Reg.MER_STAT_STATE
  if st != 0 && st != 4 && s.masterHere then
    ((s.withMer fun m => { m with holdoff := false, candidate := none }).wr Reg.MER_STAT_PARENT 0 |>.wr Reg.MER_STAT_DIST 0).setTimeState 4
  else s

/-! HOPs received (R451, R454) -/

/-- The difference of two raw values in 2^−16 ns. -/
def State.span16 (s : State) (d : Int) : Int := s.mer.ns16 d

/-- A number saturated at the limits of an unsigned field of n bits (R466). -/
def satUnsigned (n : Nat) (x : Int) : Nat := min (2 ^ n - 1) x.toNat

/-- The mean of the samples a filter holds. -/
def filterMean (l : List Int) : Int := l.foldl (· + ·) 0 / (max 1 l.length : Nat)

/-- The one-way delay from the far end of trunk t (R451). -/
def State.trunkDelay (s : State) (t : Nat) : Int :=
  filterMean (s.merTrunk t).samples / 2 + toSigned 32 (s.rd (Reg.MER_TRK_ASYM_ASYM t))

/-- A round-trip sample enters trunk t's filter (R451, R452). -/
def State.addSample (s : State) (t : Nat) (x : Int) : State :=
  let m := s.merTrunk t
  let n := s.filterLen
  let was := m.samples.length ≥ n
  let l := (x :: m.samples).take n
  let s := s.setMerTrunk t { m with samples := l }
  let s := ((s.wr (Reg.MER_TRK_RTT_RTT t) (satUnsigned 32 x)).bump (Reg.MER_TRK_STAT_SAMPLES t)).put
    (Reg.MER_TRK_STAT_VALID t) (l.length ≥ n)
  let detail (why : Nat) := [byte t] ++ le 4 (satUnsigned 32 (s.trunkDelay t)) ++ [byte why]
  if l.length ≥ n && !was then s.notice 0x0704 (detail 1)
  else if was && 6553 < (filterMean l - filterMean m.samples).natAbs then s.limited (0x0704_0000 + t) 0x0704 fun _ => detail 2
  else s

/-- The parent's rate and pending rate become this Damya's (R454, R455). -/
def State.followRate (s : State) (rate next : Int) (at_ : Nat) : State :=
  let s := if rate != s.mer.rateAdj then s.changeRate rate else s
  if next == rate then s.setPending none
  else
    let s := s.setPending (some (next, at_))
    if s.reading ≥ (at_ * 65536 : Nat) then s.applyRate else s

/-- A HOP in ACQUIRE counts towards LOCKED: the parent's delay is VALID and |ε| ≤ 1 ns, four times running (R456). -/
def State.lockCount (s : State) (t : Nat) (e : Int) : State :=
  if s.rd Reg.MER_STAT_STATE != 1 then s
  else
    let g := if s.flag (Reg.MER_TRK_STAT_VALID t) && e.natAbs ≤ 65536 then s.mer.goodHops + 1 else 0
    let s := s.withMer fun m => { m with goodHops := g }
    if g ≥ 4 then s.setTimeState 2 else s

/-- The offset error of a HOP from the parent, dealt with in the order of R454. -/
def State.followOffset (s : State) (t : Nat) (e : Int) (genChanged starts : Bool) : State :=
  let s := s.wr Reg.MER_ERR_ERR (satSigned 32 e)
  if starts then (s.stepTime e 3).lockCount t e
  else if genChanged then (s.stepTime e 1).lockCount t e
  else if e.natAbs ≥ orOne (s.rd Reg.MER_SERVO_STEP_THR) * 65536 then
    ((s.stepTime e 2).withMer fun m => { m with goodHops := 0 }).setTimeState 1
  else (s.setPend e).lockCount t e

/-- Following the parent on trunk t by the HOP `h` (R454, R457). -/
def State.follow (s : State) (t : Nat) (h : Bytes) (e : Option Int) (genChanged : Bool) : State :=
  let dist := leAt h 3 1
  let s := s.wr Reg.MER_STAT_DIST (dist + 1)
  let s := s.followRate (toSigned 32 (leAt h 44 4)) (toSigned 32 (leAt h 48 4)) (leAt h 52 6 * 1000000000 + leAt h 58 4)
  let run := bit (leAt h 1 1) 0
  let starts := run && !s.merRun
  let s := if starts then s.startRunning else if !run && s.merRun then s.stopRunning else s
  match e with
  | some e => s.followOffset t e genChanged starts
  | none => s

/-- A HOP that refers only to sets still held (R450). -/
def State.hopRefers (s : State) (t : Nat) (h : Bytes) : Bool :=
  let m := s.merTrunk t
  (m.rx.lookup (leAt h 7 1)).isSome && (!bit (leAt h 1 1) 1 || (m.tx.lookup (leAt h 8 1)).isSome)

/-- The delay sample of a HOP (R451, R452); samples whose halves straddle a source change are discarded. -/
def State.hopSample (s : State) (t : Nat) (h : Bytes) : State :=
  let m := s.merTrunk t
  if !bit (leAt h 1 1) 1 || s.trunkExcl t then s
  else match m.rx.lookup (leAt h 7 1), m.tx.lookup (leAt h 8 1) with
    | some arrived, some launched =>
      let straddles := match s.mer.srcRaw with
        | some c => decide (launched < c)
        | none => false
      if bit (leAt h 1 1) 2 || straddles then s.count (0x24B + 4 * t)
      else
        let fwd : Int := (leAt h 20 10 : Int) - launched
        let rev : Int := (arrived : Int) - (leAt h 10 10 : Int)
        s.addSample t (s.span16 (fwd + rev))
    | _, _ => s

/-- The offset of the far end less the local reading (R451), once the filter holds a sample. -/
def State.hopOffset (s : State) (t : Nat) (h : Bytes) : Option Int :=
  let m := s.merTrunk t
  match m.rx.lookup (leAt h 7 1) with
  | some arrived =>
    if m.samples == [] then none
    else some ((timeOf (leAt h 30 6) (leAt h 36 4 % 2 ^ 30) (leAt h 40 2) : Int) +
      s.trunkDelay t - s.readingAt arrived)
  | none => none

/-- A good HOP from the far end of trunk t. -/
def State.hopReceived (s : State) (t : Nat) (h : Bytes) : State :=
  let dist := if leAt h 3 1 ≥ 33 then 63 else leAt h 3 1
  let mgen := leAt h 5 1
  let gen := leAt h 6 1
  let s := ((s.wr (Reg.MER_TRK_STAT_FAR_DIST t) dist).wr (Reg.MER_TRK_STAT_FAR_RUN t) (leAt h 1 1)).wr
    (Reg.MER_TRK_STAT_FAR_STATE t) (leAt h 2 1)
  let s := s.hopSample t h
  let s := if (s.merTrunk t).samples == [] then s else s.wr (Reg.MER_TRK_DLY_DLY t) (satUnsigned 32 (s.trunkDelay t))
  let e := s.hopOffset t h
  let s := match e with
    | some e => s.wr (Reg.MER_TRK_OFS_OFS t) (satSigned 32 e)
    | none => s
  let genChanged := match (s.merTrunk t).farGen with
    | some g => g != gen
    | none => false
  let s := s.setMerTrunk t { s.merTrunk t with hop := some (mgen, dist, s.mer.raw), farGen := some gen }
  let d := (mgen + 256 - s.rd Reg.MER_STAT_MGEN) % 256
  let s :=
    if s.mer.mgenWindow then s.withMer fun m => { m with mgenSeen := some (max mgen (m.mgenSeen.getD 0)) }
    else if 1 ≤ d && d ≤ 127 then s.adoptMaster mgen (leAt h 4 1)
    else s
  let s := s.chooseParent
  if s.parentTrunk == some t then s.follow t h e genChanged else s

/-- A Meridian message arrives on trunk t (R448, R451): a payload of another KIND or length, and one that refers to an
older set, is discarded and counted. -/
def State.hopArrives (s : State) (t : Nat) (payload : Bytes) : State :=
  let i := 0x248 + 4 * t
  let q := s.count (i + 1)
  if payload.length != 64 || leAt payload 0 1 != 1 || !s.hopRefers t payload then q.count (i + 2)
  else (q.hopReceived t payload).prompt s

/-- HOP. -/
def execHopMsg (t : Fin 2) (payload : Bytes) (s : State) : Out := onHub (fun s => s.hopArrives t payload) s

/-- HOP_PERIODIC_SEND (R447, R449): once XCHG_N lane ordered sets have been sent on trunk t, and not in HUSH. -/
def execHopPeriodicSend (t : Fin 2) (s : State) : Out :=
  onHub (fun s =>
    if (s.merTrunk t).sets < s.xchg || s.merHold t then s
    else (s.sendHop t false).setMerTrunk t { (s.sendHop t false).merTrunk t with sets := 0 }) s

/-- PARENT_LOSS_TIMEOUT (R447): the timer stops while the parent trunk is in LOWPOWER. -/
def execParentLossTimeout (s : State) : Out :=
  onHub (fun s => match s.parentTrunk with
    | some p => if s.rd (Reg.TLK_STAT_LSTATE p) == 5 then s else (s.dropParent).prompt s
    | none => s) s

/-- PARENT_CANDIDATE_HOLD_END (R447): the candidate of lower DIST has held for 100 ms. -/
def execParentCandidateHoldEnd (s : State) : Out :=
  onHub (fun s => match s.mer.candidate with
    | some t => match s.candidateDist t with
      | some d => (s.takeParent t d).prompt s
      | none => s.withMer fun m => { m with candidate := none }
    | none => s) s

/-- PARENT_HOLDOFF_END (R447). -/
def execParentHoldoffEnd (s : State) : Out :=
  onHub (fun s => ((s.withMer fun m => { m with holdoff := false }).chooseParent).prompt s) s

/-- RATE_CHANGE_APPLY (R455): the reading has reached RATE_AT. -/
def execRateChangeApply (s : State) : Out :=
  onHub (fun s => match s.mer.rateNext with
    | some (_, at_) => if s.reading ≥ (at_ * 65536 : Nat) then (s.applyRate).prompt s else s
    | none => s) s

/-- MGEN_WINDOW_END (R445): 1 ms after its first link reached ACTIVE, the root takes its MGEN. -/
def execMgenWindowEnd (s : State) : Out :=
  onHub (fun s =>
    if !s.isRoot || !s.mer.mgenWindow then s
    else
      let g := match s.mer.mgenSeen with
        | some g => (g + 1) % 256
        | none => 0
      let t := s.withMer fun m => { m with mgenWindow := false, mgenDone := true }
      (t.adoptMaster g s.mer.timeMaster).prompt s) s

/-- MER_SNAP (R466): RAW and its reading of one core cycle. -/
def State.merSnap (s : State) : State :=
  let r := s.mer.raw
  let t := s.reading
  let s := ((s.wr Reg.MER_SNAP_RAW0_RAW r).wr Reg.MER_SNAP_RAW1_RAW (r / 2 ^ 32)).wr Reg.MER_SNAP_RAW2_RAW (r / 2 ^ 64)
  (((s.wr Reg.MER_SNAP_SL_SEC_LO (secOf t)).wr Reg.MER_SNAP_SH_SEC_HI (secOf t / 2 ^ 32)).wr Reg.MER_SNAP_NS_NSEC
    (nsecOf t)).wr Reg.MER_SNAP_FR_FRAC (fracOf t)

/-- MER_SNAP. -/
def execMerSnap (s : State) : Out := onHub State.merSnap s

/-! Commands (R459) -/

/-- TIME_GET. -/
def execTimeGet (r : Request) (s : State) : Out :=
  runCommand 0x0700 (fun _ s => .ok s (
    [byte (s.rd Reg.MER_STAT_STATE), byte (b2n s.merRun + 2 * b2n s.mer.rateNext.isSome), byte (s.rd Reg.MER_STAT_PARENT),
     byte (s.rd Reg.MER_STAT_DIST), byte (s.rd Reg.MER_STAT_MASTER_POS), byte (s.rd Reg.MER_STAT_MGEN),
     byte (s.rd Reg.MER_GEN_GEN), 0] ++ le 10 s.mer.raw ++ [0, 0] ++ timeBytes s.reading ++
    le 4 (s.rd Reg.MER_RATE_RATE_ADJ) ++ le 4 (s.rd Reg.MER_ERR_ERR))) r s

/-- The time commands run at the MASTER, or at a Damya that is UNSET while MASTER_POS names it. -/
def State.timeAllowed (s : State) : Bool :=
  s.rd Reg.MER_STAT_STATE == 4 || (s.rd Reg.MER_STAT_STATE == 0 && s.masterHere)

/-- TIME_SET_OFFSET. -/
def execTimeSetOffset (r : Request) (s : State) : Out :=
  runCommand 0x0701 (takes 20 fun p s =>
    let mode := leAt p 0 1
    let v : Int := timeOf (leAt p 8 6) (leAt p 14 4) (leAt p 18 2)
    let d : Int := if mode == 0 then v - s.reading else toSigned 64 (leAt p 8 8)
    if !s.timeAllowed then .fail s Status.denied
    else if mode > 1 || (mode == 0 && leAt p 14 4 > 999999999) || s.reading + d < 0 then .fail s Status.badParam
    else
      let t := if mode == 0 then s.startRunning else s
      let t := if s.rd Reg.MER_STAT_STATE == 0 then (t.wr Reg.MER_STAT_DIST 0).setTimeState 4 else t
      let t := (t.stepTime d 0).prompt s
      .ok t [byte (t.rd Reg.MER_GEN_GEN)]) r s

/-- TIME_SET_RATE. -/
def execTimeSetRate (r : Request) (s : State) : Out :=
  runCommand 0x0702 (takes 4 fun p s =>
    let rate := toSigned 32 (leAt p 0 4)
    if !s.timeAllowed then .fail s Status.denied
    else if rate.natAbs > 549755813 then .fail s Status.badParam
    else if s.mer.rateNext.isSome then .fail s Status.busy
    else
      let at_ := ceilDiv s.reading.toNat 65536 + 1000000
      .ok ((s.setPending (some (rate, at_))).prompt s) (le 6 (at_ / 1000000000) ++ le 4 (at_ % 1000000000))) r s

/-- TIME_MASTER_SET. -/
def execTimeMasterSet (r : Request) (s : State) : Out :=
  runCommand 0x0703 (takes 4 fun p s =>
    let pos := leAt p 0 1
    if !s.isRoot then .fail s Status.denied
    else if pos > s.rd Reg.TUN_LINE_STATIONS && pos != 63 then .fail s Status.badParam
    else if pos != 63 && pos != 0 && !s.positionHeld pos then .fail s Status.unreachable
    else
      let g := (s.rd Reg.MER_STAT_MGEN + 1) % 256
      let t := (s.withMer fun m => { m with timeMaster := pos }).storeRecord (0x0007, [byte pos])
      .ok ((t.adoptMaster g pos).prompt s) [byte g]) r s

/-! What the lanes and the link tell Meridian -/

/-- A lane ordered set is launched on trunk t (R450): the raw values of the last 64 are kept, and the first of a count of
R449 is the one that HOPs name. -/
def State.merLaunch (s : State) (t sq raw : Nat) : State :=
  let m := s.merTrunk t
  s.setMerTrunk t { m with
    tx := (((sq, raw) :: m.tx.filter (fun x => x.1 != sq)).take 64)
    sets := m.sets + 1
    began := if m.sets == 0 then (sq, raw) else m.began }

/-- A lane ordered set arrives on trunk t (R450). -/
def State.merArrive (s : State) (t sq raw : Nat) : State :=
  let m := s.merTrunk t
  s.setMerTrunk t { m with rx := (((sq, raw) :: m.rx.filter (fun x => x.1 != sq)).take 64) }

/-- The transmit direction of trunk t has left HUSH: a HOP is owed (R447). -/
def State.merAwake (s : State) (t : Nat) : State := s.setMerTrunk t { s.merTrunk t with hopDue := true }

/-- The HOP owed on trunk t leaves once its link is ACTIVE. -/
def State.hopOwed (s : State) (t : Nat) : State :=
  if (s.merTrunk t).hopDue && s.hopTrunk t && !s.merHold t then
    let s := s.sendHop t false
    s.setMerTrunk t { s.merTrunk t with hopDue := false }
  else s

/-- While the parent trunk is in LOWPOWER, its LOSS_MS timer stands still for the core cycle that passes (R447). -/
def State.lossTimer (s : State) (raw : Nat) : State :=
  match s.parentTrunk with
  | none => s
  | some p =>
    if s.rd (Reg.TLK_STAT_LSTATE p) != 5 then s
    else
      let m := s.merTrunk p
      s.setMerTrunk p { m with hop := m.hop.map fun h => (h.1, h.2.1, h.2.2 + raw) }

/-- What a core cycle that has begun `raw` after the last one lets Meridian do: the master's state, the parent that stops
being a candidate is left at once, a candidate is taken, and HOPs owed leave (R447, R449, R456). -/
def State.merCycle (s : State) (raw : Nat) : State :=
  let t := ((s.lossTimer raw).masterCheck).chooseParent
  ((t.prompt s).hopOwed 0).hopOwed 1

/-- This Damya's clock source changes (R452). -/
def State.merSourceChanged (s : State) : State :=
  let s := s.withMer fun m => { m with srcRaw := some m.raw }
  [0, 1].foldl (fun s t => s.setMerTrunk t { s.merTrunk t with srcChanged := true }) s

/-- Trunk t's link passes through DOWN (R452): its filter restarts empty, and a parent there is dropped. -/
def State.merLinkDown (s : State) (t : Nat) : State :=
  let old := s
  let s := s.setMerTrunk t { s.merTrunk t with samples := [], hop := none }
  let s := (s.wr (Reg.MER_TRK_STAT_SAMPLES t) 0).put (Reg.MER_TRK_STAT_VALID t) false
  (if s.parentTrunk == some t then s.dropParent else s).prompt old

/-- The root's first link reaches ACTIVE: the MGEN window opens (R445). -/
def State.merLinkActive (s : State) : State :=
  if s.isRoot && !s.mer.mgenDone && !s.mer.mgenWindow then s.withMer fun m => { m with mgenWindow := true } else s

/-- At a boot the root takes its TIME_MASTER setting (R445). -/
def State.timeMasterBoot (s : State) : State :=
  if s.isRoot then
    (s.withMer fun m => { m with timeMaster := s.setting 0x0007 }).wr Reg.MER_STAT_MASTER_POS (s.setting 0x0007)
  else s

end Sys2Proof.Machine
end

