-- ==== Sys2Proof/Machine/Symbols.lean ====
section
/-!
DEFINITION. The symbols of the trunk lanes: PAM4 and Gray mapping (R98), the scrambler (R99), precoding (R100), striping
(R101), error injection (R135), and the pattern generators and checkers (R134).  A symbol on a lane is written as the number
v from 0 to 3 of its level 2·v − 3.
-/

namespace Sys2Proof.Machine

/-! PAM4 (R98) -/

/-- The four bit pairs of a byte in the order in which they are sent. -/
def bitPairs (b : Byte) : List Nat := [b.toNat / 64, b.toNat / 16 % 4, b.toNat / 4 % 4, b.toNat % 4]

/-- The Gray symbol of a bit pair. -/
def gray (p : Nat) : Nat := [0, 1, 3, 2].getD p 0

/-- The bit pair of a Gray symbol. -/
def ungray (g : Nat) : Nat := [0, 1, 3, 2].getD g 0

/-- The level that a symbol number stands for. -/
def levelOf (v : Nat) : Int := 2 * (v : Int) - 3

/-- The byte that four Gray symbols carry. -/
def symbolsByte (g : List Nat) : Byte := byte (g.foldl (fun a x => 4 * a + ungray x) 0)

/-! Scrambling (R99) -/

/-- The seed of a logical lane. -/
def scramblerSeed (l : Nat) : Nat := [0x5A3C01, 0x2D9E12, 0x714B23, 0x13E734].getD l 0

/-- The scrambler advances by one bit. -/
def scramblerNext (st : Nat) : Nat :=
  let fb := b2n (bit st 22 ^^ bit st 20 ^^ bit st 15 ^^ bit st 7 ^^ bit st 4 ^^ bit st 1)
  (2 * st + fb) % 2 ^ 23

/-- The next `n` key bits, first bit highest, and the scrambler's state after them. -/
def scramblerKey : Nat → Nat → Nat → Nat × Nat
  | 0, st, k => (k, st)
  | n + 1, st, k => scramblerKey n (scramblerNext st) (2 * k + b2n (bit st 22))

/-- Bytes through a lane's scrambler, the highest bit first (R98): the same steps scramble and unscramble. -/
def scramble : Nat → Bytes → Bytes × Nat
  | st, [] => ([], st)
  | st, b :: r =>
    let (k, st) := scramblerKey 8 st 0
    let (l, st) := scramble st r
    ((b ^^^ byte k) :: l, st)

/-! Precoding (R100) -/

/-- Gray symbols precoded after the symbol `prev`. -/
def precode : Nat → List Nat → List Nat
  | _, [] => []
  | prev, g :: r =>
    let p := (g + 4 - prev % 4) % 4
    p :: precode p r

/-- The Gray symbols that precoded symbols carry. -/
def unprecode : Nat → List Nat → List Nat
  | _, [] => []
  | prev, p :: r => (p + prev) % 4 :: unprecode p r

/-! The lanes of a trunk -/

/-- Trunk t's lanes. -/
def State.lane (s : State) (t : Nat) : Lanes := Table.get (fun _ => {}) s.lanes t

/-- The machine with them changed. -/
def State.withLane (s : State) (t : Nat) (f : Lanes → Lanes) : State :=
  { s with lanes := Table.set (fun _ => {}) s.lanes t (f (s.lane t)) }

/-- The logical lane that the transmitter sends on physical lane p, 15 for none: a lane that the far receiver holds FAILED
carries PRBS31 (R110, R130). -/
def laneLogical (l : Lanes) (p : Nat) : Nat := if bit l.farFailed p then 15 else l.carry.getD p 15

/-- An injected symbol (R135): one level toward the nearest other level, or the opposite outer level.  An inner level has two
neighbours equally near, and `up` says which is taken. -/
def injected (opposite up : Bool) (v : Nat) : Nat :=
  if opposite then (if v < 2 then 3 else 0)
  else if v == 0 then 1
  else if v == 3 then 2
  else if up then v + 1
  else v - 1

/-- The symbols that leave on physical lane p: those that injection awaits are altered (R135). -/
def State.altered (s : State) (t p : Nat) (v : List Nat) : List Nat × State :=
  let (n, opposite) := Table.get (fun _ => (0, false)) (s.lane t).hits p
  if n == 0 then (v, s)
  else
    let (up, s) := s.free n
    ((v.take n).zipIdx.map (fun e => injected opposite (bit up e.2) e.1) ++ v.drop n,
      s.withLane t fun l => { l with hits := Table.set (fun _ => (0, false)) l.hits p (n - v.length, opposite) })

/-- Symbols leave on physical lane p; answers them as they leave. -/
def State.sendSymbols (s : State) (t p : Nat) (v : List Nat) : List Nat × State :=
  let (v, s) := s.altered t p v
  (v, s.emit (.trunk t "SYMBOLS" [p] (v.map byte)))

/-- Gray symbols leave on physical lane p, precoded where precoding is in force there (R100). -/
def State.sendGray (s : State) (t p : Nat) (coded : Bool) (g : List Nat) : State :=
  if !coded || g == [] then (s.sendSymbols t p g).2
  else
    let v := precode (Table.get (fun _ => 0) (s.lane t).pre p) g
    (s.withLane t fun l => { l with pre := Table.set (fun _ => 0) l.pre p (v.getLastD 0) }).sendSymbols t p v |>.2

/-- The bytes of a transmit stream that go to logical lane l at width w, `k` bytes after the last set (R101). -/
def laneBytes (w k l : Nat) (b : Bytes) : Bytes := (b.zipIdx.filter fun e => (k + e.2) % w == l).map (·.1)

/-- Bytes of the link layer's transmit stream leave, striped over the logical lanes, scrambled, and sent on every physical
lane that carries each (R98 to R101, R123). -/
def State.transmit (s : State) (t : Nat) (b : Bytes) : State :=
  let w := 2 ^ s.rd (Reg.TRL_STAT_TX_WIDTH t)
  let k := (s.lane t).stripe
  let s := s.withLane t fun l => { l with stripe := k + b.length }
  (List.range w).foldl (fun (s : State) j =>
    let (x, st) := scramble (Table.get scramblerSeed (s.lane t).scr j) (laneBytes w k j b)
    let s := s.withLane t fun l => { l with scr := Table.set scramblerSeed l.scr j st }
    let g := x.flatMap fun c => (bitPairs c).map gray
    ((List.range 5).filter fun p => laneLogical (s.lane t) p == j).foldl (fun (s : State) p =>
      s.sendGray t p (bit (s.lane t).precodeTx p) g) s) s

/-- A lane ordered set has left: striping restarts with logical lane 0, the scramblers are reloaded, and the precoders' state
is 0 (R99 to R101). -/
def State.restartCoding (s : State) (t : Nat) : State := s.withLane t fun l => { l with stripe := 0, scr := [], pre := [] }

/-! Patterns (R134) -/

/-- The exponents of a PRBS polynomial below the leading one, by TRL_PATp.PATTERN, with its degree. -/
def prbsTaps : Nat → List Nat × Nat
  | 1 => ([7, 6], 7)
  | 2 => ([13, 12, 2, 1], 13)
  | 3 => ([31, 28], 31)
  | _ => ([], 0)

/-- The next bit of a PRBS after the bits in `hist`, newest lowest. -/
def prbsBit (pat hist : Nat) : Nat := (prbsTaps pat).1.foldl (fun a k => a ^^^ b2n (bit hist (k - 1))) 0

/-- A bit joins the history of the last 31. -/
def pushBit (hist b : Nat) : Nat := (2 * hist + b) % 2 ^ 31

/-- The Gray symbol at a place of a pattern, where the place is known: the user pattern from bit 63 down, and QPRBS13, whose
symbols IEEE 802.3 gives and the manual does not (log entry 66). -/
def placedSymbol (pat user pos : Nat) : Nat :=
  if pat == 5 then gray (user / 2 ^ (62 - 2 * (pos % 32)) % 4) else Config.qprbs13 pos % 4

/-- The next Gray symbol of a pattern, and the place after it; no pattern sends symbol 0. -/
def placeNext (x : Place) (pat user : Nat) : Nat × Place :=
  if 1 ≤ pat && pat ≤ 3 then
    let a := prbsBit pat x.hist
    let h := pushBit x.hist a
    let b := prbsBit pat h
    (gray (2 * a + b), { x with hist := pushBit h b, pos := x.pos + 1 })
  else if pat == 4 || pat == 5 then (placedSymbol pat user x.pos, { x with pos := x.pos + 1 })
  else (0, { x with pos := x.pos + 1 })

/-- The next `n` Gray symbols. -/
def placeSymbols (pat user : Nat) : Nat → Place → List Nat × Place
  | 0, x => ([], x)
  | n + 1, x =>
    let (g, x) := placeNext x pat user
    let (l, x) := placeSymbols pat user n x
    (g :: l, x)

/-- A hunting checker follows what it receives: a PRBS by its bits, another pattern by staying where a symbol is wrong. -/
def placeFollow (x : Place) (pat : Nat) (good : Bool) (g : Nat) : Place :=
  if 1 ≤ pat && pat ≤ 3 then { x with hist := pushBit (pushBit x.hist (ungray g / 2)) (ungray g % 2) }
  else if good then { x with pos := x.pos + 1 }
  else x

/-- A symbol of the pattern is possible here: a PRBS never follows a run of zeros as long as its degree. -/
def placePossible (x : Place) (pat : Nat) : Bool :=
  pat != 0 && (!(1 ≤ pat && pat ≤ 3) || x.hist % 2 ^ (prbsTaps pat).2 != 0)

/-- What a checker reports of one symbol: whether it is locked after it, a loss of lock, and an error counted. -/
structure Check where
  locked : Bool
  lost : Bool := false
  error : Bool := false

/-- One received Gray symbol through a checker (R134): it locks after 64 correct symbols in a row and loses lock when 32 of
any 64 are in error; errors count while it is locked. -/
def checkerTake (x : Checker) (locked : Bool) (pat user g : Nat) : Checker × Check :=
  let (want, place) := placeNext x.place pat user
  let good : Bool := placePossible x.place pat && want == g
  if locked then
    let recent := ((!good) :: x.recent).take 64
    let lost : Bool := 32 ≤ recent.count true
    ({ x with place := place, run := 0, recent := if lost then [] else recent }, { locked := !lost, lost := lost, error := !good })
  else
    let run := if good then x.run + 1 else 0
    ({ x with place := placeFollow x.place pat good g, run := run % 64, recent := [] }, { locked := 64 ≤ run })

/-- The user pattern. -/
def State.userPattern (s : State) (t : Nat) : Nat :=
  s.rd (Reg.TRL_USERHI_PAT_HI t) * 2 ^ 32 + s.rd (Reg.TRL_USERLO_PAT_LO t)

/-- Checker p has taken a symbol: TRL_CHKp and TRL_CHKERRp follow. -/
def State.checkSymbol (s : State) (t p g : Nat) : State :=
  let x := Table.get (fun _ => {}) (s.lane t).checkers p
  let (x, c) := checkerTake x (s.flag (Reg.TRL_CHK_LOCKED t p)) (s.rd (Reg.TRL_PAT_PATTERN t p)) (s.userPattern t) g
  let s := s.withLane t fun l => { l with checkers := Table.set (fun _ => {}) l.checkers p x }
  let s := s.put (Reg.TRL_CHK_LOCKED t p) c.locked
  let s := if c.lost then s.bump (Reg.TRL_CHK_RELOCK t p) else s
  if c.error then s.bump (Reg.TRL_CHKERR_ERRORS t p) else s

/-- Symbols arrive on physical lane p: where its checker runs, it takes them with the levels and the precoding undone. -/
def State.receiveSymbols (s : State) (t p : Nat) (v : List Nat) : State :=
  if !s.flag (Reg.TRL_PAT_CHK_EN t p) || v == [] then s
  else
    let v := if s.flag (Reg.TRL_PAT_INVERT t p) then v.map (3 - ·) else v
    let x : Checker := Table.get (fun _ => {}) (s.lane t).checkers p
    let g := if s.flag (Reg.TRL_PAT_PRECODE t p) then unprecode x.prev v else v
    let s := s.withLane t fun l => { l with checkers := Table.set (fun _ => {}) l.checkers p { x with prev := v.getLastD 0 } }
    g.foldl (fun (s : State) g => s.checkSymbol t p g) s

/-- Generator p drives `n` symbols (R134); answers them as they leave. -/
def State.generate (s : State) (t p n : Nat) : List Nat × State :=
  let x := Table.get (fun _ => {}) (s.lane t).places p
  let (g, x) := placeSymbols (s.rd (Reg.TRL_PAT_PATTERN t p)) (s.userPattern t) n x
  let s := s.withLane t fun l => { l with places := Table.set (fun _ => {}) l.places p x }
  let coded : Bool := s.flag (Reg.TRL_PAT_PRECODE t p)
  let v := if coded then precode (Table.get (fun _ => 0) (s.lane t).pre p) g else g
  let s := s.withLane t fun l => { l with pre := if coded then Table.set (fun _ => 0) l.pre p (v.getLastD 0) else l.pre }
  s.sendSymbols t p (if s.flag (Reg.TRL_PAT_INVERT t p) then v.map (3 - ·) else v)

/-- `n` symbols that the far end has sent: the manual's outside, so free (log entry 66). -/
def State.farSymbols (s : State) : Nat → List Nat × State
  | 0 => ([], s)
  | n + 1 =>
    let (v, s) := s.free 2
    let (l, s) := State.farSymbols s n
    (v :: l, s)

/-- Physical lane p passes `n` symbols in TEST, or under a checker (R134, R136): what the generator drives comes back in a
near-end loop, and what the far end sends goes back to it in a far-end loop. -/
def State.testLane (s : State) (t n p : Nat) : State :=
  let loop := s.rd (Reg.TRL_LOOP_LOOP t)
  let (sent, s) := if s.flag (Reg.TRL_PAT_GEN_EN t p) && loop != 3 then s.generate t p n else ([], s)
  if loop == 1 || loop == 2 then s.receiveSymbols t p sent
  else if loop == 3 || s.flag (Reg.TRL_PAT_CHK_EN t p) then
    let (v, s) := s.farSymbols n
    let s := s.receiveSymbols t p v
    if loop == 3 then (s.sendSymbols t p v).2 else s
  else s

/-- Symbols that a lane has passed at a raw value: 28 GBd (R96). -/
def symbolsAt (raw : Nat) : Nat := raw * 7 / 25600

/-- The five lanes of trunk t pass the symbols of one core cycle, which began at raw value `r`. -/
def State.testCycle (s : State) (r t : Nat) : State :=
  let busy : Bool := s.rd (Reg.TRL_LOOP_LOOP t) != 0 || (List.range 5).any fun p =>
    s.flag (Reg.TRL_PAT_GEN_EN t p) || s.flag (Reg.TRL_PAT_CHK_EN t p)
  if !busy then s
  else (List.range 5).foldl (fun (s : State) p => s.testLane t (symbolsAt s.mer.raw - symbolsAt r) p) s

end Sys2Proof.Machine
end

