-- ==== Sys2Proof/Machine/Link.lean ====
section
/-!
DEFINITION. The trunk link engines: flits sent and received, sequence and replay, HOLD, credits and their moves, and the
link's states (R139 to R179).
-/

namespace Sys2Proof

open Sys2Proof.Machine

/-- Bytes still to come of the segment in progress, as far as the header received by now says; none while it does not. -/
def RxChannel.remaining (x : RxChannel) (b : Bytes) : Option Nat :=
  if x.id.isSome then some (x.len - x.got)
  else if (x.head ++ b).length < 8 then none
  else some (max 8 (Segment.ofHeader (x.head ++ b)).len - x.head.length)

end Sys2Proof

namespace Sys2Proof.Machine

/-! States and marks -/

/-- TLK_STAT.LSTATE: 0 DOWN, 1 INIT, 2 ACTIVE, 3 RETRAIN, 4 RESET, 5 LOWPOWER (R167). -/
def State.lstate (s : State) (t : Nat) : Nat := s.rd (Reg.TLK_STAT_LSTATE t)

/-- The link carries flits of every type: ACTIVE, RETRAIN or LOWPOWER. -/
def State.linkLive (s : State) (t : Nat) : Bool := s.lstate t == 2 || s.lstate t == 3 || s.lstate t == 5

/-- A moment that R172 excludes from the EXPRESS bound. -/
def State.excluded (s : State) (t : Nat) : State := s.withLink t fun l => { l with exclAt := s.sw.cycle }

/-- SYS_UNITS_OUT.TRK_DOWN of trunk t (R36). -/
def State.markDown (s : State) (t : Nat) (b : Bool) : State :=
  s.wr Reg.SYS_UNITS_OUT_TRK_DOWN (putBit (s.rd Reg.SYS_UNITS_OUT_TRK_DOWN) t b)

/-- SYS_UNITS_OUT.TRK_NARROW of trunk t follows its widths while its link is not DOWN (R34); the mode follows the
register (R39). -/
def State.markNarrow (s : State) (t : Nat) : State :=
  let narrow : Bool := s.lstate t != 0 && (s.rd (Reg.TRL_STAT_RX_WIDTH t) < 2 || s.rd (Reg.TRL_STAT_TX_WIDTH t) < 2)
  (s.wr Reg.SYS_UNITS_OUT_TRK_NARROW (putBit (s.rd Reg.SYS_UNITS_OUT_TRK_NARROW) t narrow)).degrade

/-- The link enters a state. -/
def State.setLstate (s : State) (t n : Nat) : State := ((s.wr (Reg.TLK_STAT_LSTATE t) n).excluded t).markNarrow t

/-- The trunk's first event counter (R605). -/
def trunkCounter (t : Nat) : Nat := 0x020 + 0x18 * t

/-- The value in a table of counts by channel. -/
def byVc (x : Table Nat) (v : Nat) : Nat := Table.get (fun _ => 0) x v

/-- The active allotment of a channel, and its OCC. -/
def State.allotted (s : State) (t v : Nat) : Nat := s.rd (Reg.TLK_ALLOT_ACTIVE t v)

/-! What an abandonment or a reset discards (R146, R169, R240) -/

/-- The output of a segment that has started out by cut-through abandons it: the cells not yet sent go back to CREDIT,
and the channel's next segment starts in a new flit (R240). -/
def State.abandonOutput (s : State) (id : Nat) (h : Held) (o : Nat) : State :=
  let t := o / 2
  let v := h.cls
  let x := s.txChannel t v
  if x.cur != some id then s
  else
    let from_ := match x.starts.find? (fun e => e.2 == id) with
      | some e => e.1
      | none => 0
    let crossed := match s.context o v with
      | some c => 64 * c.sent
      | none => 0
    let sent := crossed - (x.stage.length - from_)
    let back := h.cells - ceilDiv sent 64
    let x := { x with
      stage := x.stage.take from_
      starts := x.starts.filter fun e => e.2 != id
      stamps := x.stamps.filter fun e => e.1 < from_
      cur := none
      brk := if from_ == 0 then x.brk else some from_ }
    let s := ((s.setContext o v none).setTx t v x).setCredit t v (s.credit t v + (back : Nat))
    let s := s.withLink t fun l => { l with
      sentCum := Table.set (fun _ => 0) l.sentCum v ((byVc l.sentCum v + 2 ^ 32 - back) % 2 ^ 32) }
    s.count 0x110

/-- A segment that is only partly received is discarded from wherever it stands. -/
def State.discardPartial (s : State) (id : Nat) : State :=
  match s.seg? id with
  | none => s
  | some h =>
    if (Table.get (fun _ => []) s.sw.arriving h.input).contains id then
      let rest := (Table.get (fun _ => []) s.sw.arriving h.input).filter (· != id)
      let s := s.withSw fun w => { w with arriving := Table.set (fun _ => []) w.arriving h.input rest }
      let n := h.cells - unreceived h
      ((s.received (h.input / 2) h.cls n).creditBack (h.input / 2) h.cls n).setSeg id none
    else match (s.crossingAt id).head? with
      | some o => ((s.abandonOutput id h o).cometEnd id 5).dropSeg id
      | none =>
        let s := s.cometEnd id 7
        let s := match h.dests with
          | [o] => s.dequeueSeg h.input o h.cls id h.cells
          | _ => if (s.mcq h.input h.cls).contains id then
              (s.setMcq h.input h.cls ((s.mcq h.input h.cls).filter (· != id))).setMcDepth h.input h.cls
                (s.mcDepth h.input h.cls - h.cells)
            else s
        s.dropSeg id

/-- The receive channel of trunk t. -/
def State.rxChannel (s : State) (t v : Nat) : RxChannel := Table.get (fun _ => {}) (s.link t).rx v

/-- The machine with it replaced. -/
def State.setRx (s : State) (t v : Nat) (x : RxChannel) : State :=
  s.withLink t fun l => { l with rx := Table.set (fun _ => {}) l.rx v x }

/-- The segment in progress on a channel is discarded and counted, and its cells are returned as credit (R146): one cell where
less than the first had come. -/
def State.dropPartial (s : State) (t v : Nat) : State :=
  let x := s.rxChannel t v
  let s := (s.setRx t v {}).count (trunkCounter t + 0x0E)
  match x.id with
  | some id => s.discardPartial id
  | none => if x.got == 0 then s else (s.received t v 1).creditBack t v 1

/-- The transmit engine's segments in transmission on a channel are lost (R169). -/
def State.dropTransmission (s : State) (t v : Nat) : State :=
  let x := s.txChannel t v
  let ids := x.ends.map (·.2) ++ x.cur.toList
  let s := (s.setTx t v {}).count (trunkCounter t + 0x0F) ids.length
  let s := ids.foldl (fun (s : State) id => s.cometEnd id 7) s
  match x.cur with
  | some id => (s.setContext (trunkPort t v) v none).copyGone id (trunkPort t v)
  | none => s

/-- Each end of a link that is reset or goes down discards its replay buffer, its segments in transmission, its partial
reassemblies and any CREDIT_MOVE; the allotments become the shadow values (R169).  Answers how many partial segments
there were. -/
def State.discardLink (s : State) (t : Nat) : State × Nat :=
  let partials := ([0, 1, 2, 3].filter fun v => (s.rxChannel t v).active).length
  let s := [0, 1, 2, 3].foldl (fun (s : State) v => if (s.rxChannel t v).active then s.dropPartial t v else s) s
  let s := s.count (trunkCounter t + 0x0F) (((s.link t).replay.map (·.ends)).sum)
  let s := [0, 1, 2, 3].foldl (fun (s : State) v => s.dropTransmission t v) s
  let s := [0, 1, 2, 3].foldl (fun (s : State) v =>
    s.wr (Reg.TLK_ALLOT_ACTIVE t v) (s.rd (Reg.TLK_ALLOT_ALLOT t v))) s
  let s := s.withLink t fun l => { l with
    replay := [], replayAt := none, nakArmed := true, nakDue := false, move := none, moveDue := false
    moveAck := none, reportDue := false, report := none }
  ((s.put (Reg.TLK_MOVE_PENDING t) false).wr (Reg.TLK_REPLAY_OUTSTANDING t) 0, partials)

/-- The link enters INIT (R167, R168). -/
def State.enterInit (s : State) (t : Nat) : State :=
  (s.withLink t fun l => { l with initAt := none, initSeen := false, farSeen := false, seenSent := false }).setLstate t 1

/-- A link reset (R169): nothing in DOWN; a far end's request is ignored in RESET and INIT.  HOLD goes on as the lanes and the
far end have it (R155). -/
def State.linkReset (s : State) (t reason : Nat) : State :=
  let l := s.lstate t
  if l == 0 || (reason == 4 && (l == 4 || l == 1)) then s
  else
    let flits := (s.link t).replay.length
    let (s, partials) := s.discardLink t
    let s := (s.incr (Reg.TLK_STAT_INIT_ID t)).bump (Reg.TLK_STAT_RESETS t)
    let s := s.withLink t fun l => { l with resets := 4, resetReason := reason }
    (s.setLstate t 4).notice 0x0A22 ([byte t, byte reason] ++ le 2 flits ++ le 2 partials)

/-- The link goes DOWN (R167, R179): cause 1 a lane direction left ON, 2 TRUNK_DISABLE, 3 INIT failures. -/
def State.linkDown (s : State) (t cause : Nat) : State :=
  if s.lstate t == 0 then s
  else
    let flits := (s.link t).replay.length
    let s := (s.discardLink t).1
    let s := (s.put (Reg.TLK_STAT_HOLD_TX t) false).put (Reg.TLK_STAT_HOLD_RX t) false
    let s := if s.flag (Reg.TLK_CTRL_ENABLED t) && (s.link t).reached then s.markDown t true else s
    ((s.setLstate t 0).notice 0x0A21 ([byte t, byte cause] ++ le 2 flits)).merLinkDown t

/-- The handshake is complete: the link enters ACTIVE (R168). -/
def State.activate (s : State) (t : Nat) : State :=
  let l := s.link t
  let s := [0, 1, 2, 3].foldl (fun (s : State) v =>
    let s := (s.setCredit t v (l.grants.getD v 0 : Nat)).wr (Reg.TLK_CRED_SEEN_CUM t v) 0
    s.wr (Reg.TLK_OCC_FREED_CUM t v) 0) s
  let s := ((s.wr (Reg.TLK_SEQ_TX_NEXT t) 0).wr (Reg.TLK_SEQ_RX_EXPECT t) 0).wr (Reg.TLK_REPLAY_ACKED t) 0xFFF
  let s := (s.wr (Reg.TLK_REPLAY_NOPROG t) 0).wr (Reg.TLK_STAT_PEER_POS t) l.farPos
  let s := s.withLink t fun l => { l with
    sentCum := [], recvCum := [], sentFreed := [], sentAck := 0xFFF, lastMove := none, initFails := 0
    granted := l.grants.zipIdx.foldl (fun x e => Table.set (fun _ => 0) x e.2 e.1) [], reached := true, served := true }
  let s := (s.markDown t false).setLstate t 2
  let s := s.notice 0x0A20 [byte t, byte (s.rd (Reg.TRL_STAT_RX_WIDTH t)), byte (s.rd (Reg.TRL_STAT_TX_WIDTH t)),
    byte l.farPos]
  ((s.merLinkActive).overcommit t).lineUp t

/-- INIT is left once a LINK_INIT with INIT_SEEN has been received and one has been sent. -/
def State.tryActive (s : State) (t : Nat) : State :=
  let l := s.link t
  if s.lstate t == 1 && l.farSeen && l.seenSent then s.activate t else s

/-! HOLD, NAK and replay (R150 to R156) -/

/-- One NAK, unless one has been sent and not yet answered (R151). -/
def State.nakOnce (s : State) (t : Nat) : State :=
  s.withLink t fun l => if l.nakArmed then { l with nakArmed := false, nakDue := true } else l

/-- This engine sets HOLD, or clears it: then it sends one NAK (R155). -/
def State.setHold (s : State) (t : Nat) (b : Bool) : State :=
  if s.flag (Reg.TLK_STAT_HOLD_TX t) == b then s
  else
    let s := (s.put (Reg.TLK_STAT_HOLD_TX t) b).excluded t
    if b || !s.linkLive t then s else s.withLink t fun l => { l with nakArmed := false, nakDue := true }

/-- A replay of every unacknowledged flit begins; a counted one that passes REPLAY_LIMIT resets the link instead (R152,
R153, R155). -/
def State.startReplay (s : State) (t : Nat) (counted : Bool) : State :=
  if s.flag (Reg.TLK_STAT_HOLD_RX t) || (s.link t).replay == [] then s
  else
    let counted := counted && !s.flag (Reg.TLK_STAT_HOLD_TX t)
    if counted && orOne (s.rd (Reg.TLK_CTRL_REPLAY_LIMIT t)) ≤ s.rd (Reg.TLK_REPLAY_NOPROG t) then s.linkReset t 1
    else
      let s := if counted then s.incr (Reg.TLK_REPLAY_NOPROG t) else s
      (s.withLink t fun l => { l with replayAt := some 0 }).excluded t

/-- The far end's HOLD: while it is set no new DATA and no replay leaves (R155). -/
def State.takeHold (s : State) (t : Nat) (b : Bool) : State :=
  let was := s.flag (Reg.TLK_STAT_HOLD_RX t)
  if was == b then s
  else
    let s := (s.put (Reg.TLK_STAT_HOLD_RX t) b).excluded t
    if b then s.withLink t fun l => { l with replayAt := none } else s

/-- ACK frees the flits up to it; one outside the range from the last acknowledged to the last sent is a sequence error (R152 to
R154), except in RESET and INIT, where the numbers of both ends are about to start afresh (log entry 29). -/
def State.takeAck (s : State) (t ack : Nat) : State :=
  let d := (ack + 4096 - s.rd (Reg.TLK_REPLAY_ACKED t)) % 4096
  let n := (s.link t).replay.length
  if (s.rd (Reg.TLK_SEQ_TX_NEXT t) + 8191 - s.rd (Reg.TLK_REPLAY_ACKED t)) % 4096 < d then
    (if s.linkLive t then s.linkReset t 3 else s)
  else if d == 0 then s
  else
    let s := s.withLink t fun l => { l with
      replay := l.replay.drop d
      replayAt := match l.replayAt with
        | some i => if n ≤ d || n ≤ i then none else some (i - d)
        | none => none }
    ((s.wr (Reg.TLK_REPLAY_ACKED t) ack).wr (Reg.TLK_REPLAY_NOPROG t) 0).wr (Reg.TLK_REPLAY_OUTSTANDING t) (n - d)

/-- A NAK starts a replay; one whose ACK is the last SEQ sent is counted and ignored (R152).  The one that comes as HOLD clears
is answered by a replay that is not counted (R155). -/
def State.takeNak (s : State) (t ack : Nat) (cleared : Bool) : State :=
  if (ack + 1) % 4096 == s.rd (Reg.TLK_SEQ_TX_NEXT t) then s.withLink t fun l => { l with idleNaks := l.idleNaks + 1 }
  else s.startReplay t (!cleared)

/-- A credit return (R160). -/
def State.takeCredit (s : State) (t v cum : Nat) : State :=
  let d := (cum + 16384 - s.rd (Reg.TLK_CRED_SEEN_CUM t v)) % 16384
  if d < 8192 then (s.setCredit t v (s.credit t v + (d : Nat))).wr (Reg.TLK_CRED_SEEN_CUM t v) cum
  else s.count (trunkCounter t + 0x0C)

/-- The header fields of R143. -/
structure FlitHead where
  ftype : Nat
  rpl : Bool
  seq : Nat
  ack : Nat
  hold : Bool
  nak : Bool
  vc : Nat
  fill : Nat
  first : Nat
  crv : Nat
  crcum : Nat
deriving DecidableEq, Repr

/-- The header word as 8 body bytes. -/
def FlitHead.bytes (h : FlitHead) : Bytes :=
  le 8 (h.ftype % 8 * 2 ^ 61 + b2n h.rpl * 2 ^ 60 + h.seq % 4096 * 2 ^ 48 + h.ack % 4096 * 2 ^ 36 + b2n h.hold * 2 ^ 35 +
    b2n h.nak * 2 ^ 34 + h.vc % 4 * 2 ^ 32 + h.fill % 256 * 2 ^ 24 + h.first % 256 * 2 ^ 16 + h.crv % 4 * 2 ^ 14 +
    h.crcum % 16384)

/-- The header that the first 8 body bytes spell. -/
def FlitHead.ofBytes (b : Bytes) : FlitHead :=
  let w := leAt b 0 8
  { ftype := bits w 63 61, rpl := bit w 60, seq := bits w 59 48, ack := bits w 47 36, hold := bit w 35, nak := bit w 34,
    vc := bits w 33 32, fill := bits w 31 24, first := bits w 23 16, crv := bits w 15 14, crcum := bits w 13 0 }

/-- The header does not make its flit bad (R142). -/
def FlitHead.good (h : FlitHead) : Bool := h.ftype ≤ 2 && h.fill ≤ 244 && (h.first < h.fill || h.first == 0xFF)

/-- The link fields of a good flit (R144): HOLD, ACK, NAK and the credit return. -/
def State.takeFields (s : State) (t : Nat) (h : FlitHead) : State :=
  let cleared : Bool := s.flag (Reg.TLK_STAT_HOLD_RX t) && !h.hold
  let live := s.linkLive t
  let idle : Bool := h.ftype == 0 && !h.nak && !h.hold && h.ack == s.rd (Reg.TLK_REPLAY_ACKED t) &&
    h.crcum == s.rd (Reg.TLK_CRED_SEEN_CUM t h.crv)
  let s := s.withLink t fun l => { l with farIdle := idle }
  let s := (s.takeHold t h.hold).takeAck t h.ack
  let s := if h.nak && s.linkLive t then s.takeNak t h.ack cleared else s
  if live && !s.linkLive t then s else s.takeCredit t h.crv h.crcum

/-! Reassembly (R145, R146, R159, R162) -/

/-- Cells of segments whose admission is still to be decided at a trunk's channel. -/
def State.arrivingCells (s : State) (t v : Nat) : Nat :=
  ([2 * t, 2 * t + 1].flatMap fun p => Table.get (fun _ => []) s.sw.arriving p).foldl (fun n id =>
    match s.seg? id with
    | some h => if h.cls == v then n + h.cells else n
    | none => n) 0

/-- The first cell of a segment is in: it arrives at the switch input, unless OCC has reached ALLOT (R162). -/
def State.firstCell (s : State) (t v : Nat) (head : Bytes) (len : Nat) : State :=
  if s.allotted t v ≤ s.rd (Reg.TLK_OCC_OCC t v) + s.arrivingCells t v then
    (s.count (trunkCounter t + 0x0F)).linkReset t 2
  else
    let g := { Segment.ofHeader head with payload := head.drop 8 }
    let h : Held := { seg := g, input := trunkPort t v, cls := v, whole := len ≤ head.length }
    let (s, id) := s.arrive h
    s.setRx t v { head := [], id := some id, got := head.length, len := len, active := true }

/-- Bytes of a segment whose first cell is in are added to it; cells of a segment already discarded are freed as they
arrive. -/
def State.moreCells (s : State) (t v : Nat) (x : RxChannel) (b : Bytes) : State :=
  let got := x.got + b.length
  match x.id with
  | none => s
  | some id =>
    let s := match s.seg? id with
      | some h =>
        let h := { h with seg := { h.seg with payload := h.seg.payload ++ b }, whole := x.len ≤ got }
        let s := s.setSeg id (some h)
        if h.whole then s.cometStage id [5] else s
      | none =>
        let n := ceilDiv got 64 - ceilDiv x.got 64
        (s.received t v n).creditBack t v n
    s.setRx t v { x with got := got }

/-- Bytes of the channel's segment in progress, or of the next one; answers what is left of them. -/
def State.takeBytes (s : State) (t v : Nat) (b : Bytes) : State × Bytes :=
  let x := s.rxChannel t v
  if !x.active || x.id.isNone then
    let head := x.head ++ b
    if head.length < 8 then (s.setRx t v { x with head := head, active := true, got := head.length }, [])
    else
      let len := max 8 (Segment.ofHeader head).len
      let first := min 64 len
      if head.length < first then
        (s.setRx t v { x with head := head, active := true, got := head.length, len := len }, [])
      else
        let s := s.firstCell t v (head.take first) len
        (if first == len && s.linkLive t then s.setRx t v {} else s, head.drop first)
  else
    let n := x.len - x.got
    let s := s.moreCells t v x (b.take n)
    (if n ≤ b.length then s.setRx t v {} else s, b.drop n)

/-- The bytes of a flit's payload from a segment's start on. -/
def State.takeAll (t v : Nat) : Nat → State → Bytes → State
  | 0, s, _ => s
  | n + 1, s, b =>
    if b == [] || !s.linkLive t then s
    else
      let (s, r) := s.takeBytes t v b
      State.takeAll t v n s r

/-- An accepted DATA flit's payload (R145, R146). -/
def State.reassemble (s : State) (t : Nat) (h : FlitHead) (payload : Bytes) : State :=
  let b := payload.take h.fill
  let x := s.rxChannel t h.vc
  let start := if h.first == 0xFF then b.length else h.first
  let agrees : Bool :=
    if !x.active then start == 0
    else match x.remaining b with
      | some r => if r < h.fill then h.first == r else h.first == 0xFF
      | none => h.first == 0xFF
  if agrees then State.takeAll t h.vc 256 s b
  else
    let s := if x.active then s.dropPartial t h.vc else s
    State.takeAll t h.vc 256 s (b.drop start)

/-! Checking the books (R166) -/

/-- A CREDIT_REPORT that has been received is evaluated once its DATA flit has been accepted and no move is pending. -/
def State.tryReport (s : State) (t : Nat) : State :=
  match (s.link t).report with
  | none => s
  | some b =>
    let d := (s.rd (Reg.TLK_SEQ_RX_EXPECT t) + 4096 - 1 - leAt b 1 2 % 4096) % 4096
    if 2048 ≤ d || s.flag (Reg.TLK_MOVE_PENDING t) then s
    else
      let ok := [0, 1, 2, 3].all fun v =>
        let credit := toSigned 16 (leAt b (3 + 10 * v) 2)
        let sent := leAt b (5 + 10 * v) 4
        let seen := leAt b (9 + 10 * v) 2 % 16384
        let inflight := toSigned 32 (sent + 2 ^ 32 - byVc (s.link t).recvCum v)
        let pend := (s.rd (Reg.TLK_OCC_FREED_CUM t v) + 16384 - seen) % 16384
        credit == (s.allotted t v : Int) - (s.rd (Reg.TLK_OCC_OCC t v) : Nat) - inflight - (pend : Nat)
      s.withLink t fun l => { l with report := none, audited := some ok }

/-! Link ordered sets received (R157; bodies from byte 9) -/

/-- LINK_INIT (R168): one with the current INIT_ID sets INIT_SEEN (log entry 29). -/
def State.onLinkInit (s : State) (t : Nat) (b : Bytes) : State :=
  if s.lstate t != 1 then s
  else
    let current : Bool := leAt b 0 1 == s.rd (Reg.TLK_STAT_INIT_ID t)
    (s.withLink t fun l => { l with
      initSeen := l.initSeen || current, farSeen := l.farSeen || bit (leAt b 11 1) 0, farPos := leAt b 1 1 % 64
      grants := [0, 1, 2, 3].map fun v => leAt b (3 + 2 * v) 2 }).tryActive t

/-- CREDIT_MOVE (R164). -/
def State.onCreditMove (s : State) (t : Nat) (b : Bytes) : State :=
  if !s.linkLive t then s
  else
    let k := leAt b 0 1
    let s :=
      if (s.link t).lastMove == some k then s
      else
        let s := [0, 1, 2, 3].foldl (fun (s : State) v =>
          s.setCredit t v (s.credit t v + toSigned 16 (leAt b (1 + 2 * v) 2))) s
        s.withLink t fun l => { l with
          lastMove := some k
          granted := [0, 1, 2, 3].foldl (fun x v => Table.set (fun _ => 0) x v (leAt b (9 + 2 * v) 2)) l.granted }
    s.withLink t fun l => { l with moveAck := some k }

/-- CREDIT_MOVE_ACK (R165). -/
def State.onCreditMoveAck (s : State) (t : Nat) (b : Bytes) : State :=
  match (s.link t).move with
  | some (delta, new) =>
    if s.flag (Reg.TLK_MOVE_PENDING t) && leAt b 0 1 == s.rd (Reg.TLK_MOVE_MOVE_ID t) then
      let s := [0, 1, 2, 3].foldl (fun (s : State) v =>
        if delta.getD v 0 < 0 then s.wr (Reg.TLK_ALLOT_ACTIVE t v) (new.getD v 0) else s) s
      let s := (s.put (Reg.TLK_MOVE_PENDING t) false).incr (Reg.TLK_MOVE_DONE t)
      (s.withLink t fun l => { l with move := none, moveDue := false }).tryReport t
    else s
  | none => s

/-- CREDIT_REPORT (R166): it is kept until it can be evaluated, and answered with this end's own. -/
def State.onCreditReport (s : State) (t : Nat) (b : Bytes) : State :=
  if !s.linkLive t then s
  else
    let s := s.withLink t fun l =>
      let l := { l with report := some b }
      if leAt b 0 1 == l.reportId then l else { l with reportId := leAt b 0 1, reportDue := true }
    s.tryReport t

/-- A link ordered set by its TYPE; one of unknown TYPE is counted and ignored (R157). -/
def State.onLinkSet (s : State) (t type : Nat) (b : Bytes) : State :=
  match type with
  | 1 => s.onLinkInit t b
  | 3 => s.onCreditMove t b
  | 4 => s.onCreditMoveAck t b
  | 5 => s.linkReset t 4
  | 6 => s.onCreditReport t b
  | _ => s.count (trunkCounter t + 0x0D)

/-! RX_FLIT (R139 to R146, R150) -/

/-- A good flit whose body has been read (R150). -/
def State.goodFlit (s : State) (t : Nat) (body : Bytes) : State :=
  let h := FlitHead.ofBytes body
  let s := s.takeFields t h
  if h.ftype == 2 then s.onLinkSet t (leAt body 8 1) (slice body 9 51)
  else if h.ftype == 0 || !s.linkLive t then s
  else
    let d := (h.seq + 4096 - s.rd (Reg.TLK_SEQ_RX_EXPECT t)) % 4096
    if d == 0 then
      let s := (s.incr (Reg.TLK_SEQ_RX_EXPECT t)).withLink t fun l => { l with nakArmed := true }
      let s := s.count (trunkCounter t + 0x11) h.fill
      (s.reassemble t h (slice body 8 244)).tryReport t
    else if d < 2048 then s.nakOnce t
    else s.count (trunkCounter t + 0x0B)

/-- The corrected bytes of a flit belong to the physical lanes that carried them (R101, R125). -/
def State.correctedBytes (s : State) (t : Nat) (places : List Nat) : State :=
  let w := 2 ^ min 2 (s.rd (Reg.TRL_STAT_RX_WIDTH t))
  let maps := [Reg.TRL_MAP_MAP0 t, Reg.TRL_MAP_MAP1 t, Reg.TRL_MAP_MAP2 t, Reg.TRL_MAP_MAP3 t].map s.rd
  places.foldl (fun (s : State) k =>
    let p := maps.getD (k % w) 7
    if 4 < p then s
    else
      let l := Table.get (fun _ => ({} : Lanes)) s.lanes t
      let l := { l with window := Table.set (fun _ => 0) l.window p (byVc l.window p + 1) }
      ({ s with lanes := Table.set (fun _ => {}) s.lanes t l }).count (trunkCounter t + p)) s

/-- RX_FLIT (R150): the wire bytes of one flit. -/
def execRxFlit (t : Fin 2) (wire : Bytes) (s : State) : Out :=
  onHub (fun s =>
    if s.lstate t == 0 then s
    else
      let bad (s : State) : State :=
        let s := s.count (trunkCounter t + 8)
        if s.linkLive t && !s.flag (Reg.TLK_STAT_HOLD_TX t) then s.nakOnce t else s
      match flitRead wire with
      | none => bad s
      | some (body, places, crcOk) =>
        let s := s.correctedBytes t places
        if !crcOk then bad (s.count (trunkCounter t + 9))
        else if !(FlitHead.ofBytes body).good then bad s
        else s.goodFlit t body) s

/-! TX_FLIT_SLOT (R143 to R145, R149, R158, R254) -/

/-- A flit of any type leaves with the present link fields (R144, R160); its bytes go to the lanes (R101, R147). -/
def State.sendFlit (s : State) (t : Nat) (h : FlitHead) (payload : Bytes) : State :=
  let l := s.link t
  let e := s.rd (Reg.TLK_SEQ_RX_EXPECT t)
  let freed := s.rd (Reg.TLK_OCC_FREED_CUM t l.crv)
  let h := { h with ack := (e + 4095) % 4096, hold := s.flag (Reg.TLK_STAT_HOLD_TX t), nak := l.nakDue, crv := l.crv,
                    crcum := freed }
  let s := if l.nakDue then s.count (trunkCounter t + 0x0A) else s
  let s := (s.count (trunkCounter t + 6)).withLink t fun l => { l with
    nakDue := false, crv := (l.crv + 1) % 4, sentAck := h.ack, sentFreed := Table.set (fun _ => 0) l.sentFreed l.crv freed }
  let wire := flitWire (h.bytes ++ padTo 244 payload)
  (s.emit (.trunk t "FLIT" [] wire)).transmit t wire

/-- A NULL flit's header. -/
def nullHead : FlitHead := ⟨0, false, 0, 0, false, false, 0, 0, 0xFF, 0, 0⟩

/-- A link ordered set leaves (R157). -/
def State.sendSet (s : State) (t type : Nat) (b : Bytes) : State :=
  (s.sendFlit t { nullHead with ftype := 2 } (byte type :: b)).withLink t fun l => { l with sinceSet := 0 }

/-- LINK_INIT as this end sends it: cells that the receiver holds, those still to be admitted among them, are not granted (R161,
R168). -/
def State.sendInit (s : State) (t : Nat) : State :=
  let l := s.link t
  let s := s.sendSet t 1 ([byte (s.rd (Reg.TLK_STAT_INIT_ID t)), byte s.srcPos, byte t] ++
    ([0, 1, 2, 3].flatMap fun v => le 2 (s.allotted t v - s.rd (Reg.TLK_OCC_OCC t v) - s.arrivingCells t v)) ++ [byte (b2n l.initSeen)])
  (s.withLink t fun l => { l with initAt := some s.mer.raw, seenSent := l.seenSent || l.initSeen }).tryActive t

/-- CREDIT_MOVE as this end sends it: the first sending takes the next MOVE_ID and raises the allotments that grow (R163). -/
def State.sendMove (s : State) (t : Nat) (delta : List Int) (new : List Nat) : State :=
  let s := if s.flag (Reg.TLK_MOVE_PENDING t) then s
    else
      let s := (s.incr (Reg.TLK_MOVE_MOVE_ID t)).put (Reg.TLK_MOVE_PENDING t) true
      [0, 1, 2, 3].foldl (fun (s : State) v =>
        if 0 < delta.getD v 0 then s.wr (Reg.TLK_ALLOT_ACTIVE t v) (new.getD v 0) else s) s
  (s.sendSet t 3 ([byte (s.rd (Reg.TLK_MOVE_MOVE_ID t))] ++ (delta.flatMap fun d => le 2 (ofSigned 16 d)) ++
    new.flatMap (le 2))).withLink t fun l => { l with moveDue := false }

/-- CREDIT_REPORT as this end sends it (R166). -/
def State.sendReport (s : State) (t : Nat) : State :=
  let l := s.link t
  (s.sendSet t 6 ([byte l.reportId] ++ le 2 ((s.rd (Reg.TLK_SEQ_TX_NEXT t) + 4095) % 4096) ++
    ([0, 1, 2, 3].flatMap fun v => le 2 (s.rd (Reg.TLK_CRED_CREDIT t v)) ++ le 4 (byVc l.sentCum v) ++
      le 2 (s.rd (Reg.TLK_CRED_SEEN_CUM t v)) ++ [0, 0]))).withLink t fun l => { l with reportDue := false }

/-- Channel v is ready for a new DATA flit (R254). -/
def State.channelReady (s : State) (t v : Nat) : Bool :=
  let x := s.txChannel t v
  x.stage != [] && (244 ≤ x.stage.length || x.cur.isNone || x.brk.isSome ||
    (match x.stamps with
     | e :: _ => decide (e.2 + 16 ≤ s.sw.cycle)
     | [] => true))

/-- The stamps of what is left after the first n bytes. -/
def stampsAfter (n : Nat) : List (Nat × Nat) → List (Nat × Nat)
  | e :: f :: r => if f.1 ≤ n then stampsAfter n (f :: r) else (e.1 - n, e.2) :: (f :: r).map fun g => (g.1 - n, g.2)
  | r => r.map fun g => (g.1 - n, g.2)

/-- A new DATA flit of channel v leaves (R145, R149). -/
def State.sendData (s : State) (t v : Nat) : State :=
  let x := s.txChannel t v
  let n := min (min 244 x.stage.length) (x.brk.getD 244)
  let first := match x.starts.find? (fun e => e.1 < n) with
    | some e => e.1
    | none => 0xFF
  let begun := (x.starts.filter fun e => e.1 < n).map (·.2)
  let ended := (x.ends.filter fun e => e.1 ≤ n).map (·.2)
  let seq := s.rd (Reg.TLK_SEQ_TX_NEXT t)
  let f : Flit := { seq := seq, vc := v, fill := n, first := first, payload := x.stage.take n, ends := ended.length }
  let left := x.stage.drop n
  let s := s.setTx t v { x with
    stage := left
    starts := (x.starts.filter fun e => n ≤ e.1).map fun e => (e.1 - n, e.2)
    ends := (x.ends.filter fun e => n < e.1).map fun e => (e.1 - n, e.2)
    stamps := if left == [] then [] else stampsAfter n x.stamps
    brk := match x.brk with
      | some k => if k ≤ n then none else some (k - n)
      | none => none }
  let s := (s.withLink t fun l => { l with replay := l.replay ++ [f] }).incr (Reg.TLK_SEQ_TX_NEXT t)
  let s := (s.wr (Reg.TLK_REPLAY_OUTSTANDING t) (s.link t).replay.length).count (trunkCounter t + 0x10) n
  let s := s.sendFlit t { nullHead with ftype := 1, seq := seq, vc := v, fill := n, first := first } f.payload
  let s := begun.foldl (fun (s : State) id => s.cometStage id [7]) s
  ended.foldl (fun (s : State) id => (s.cometStage id [8]).cometEnd id 0) s

/-- The next flit of a replay leaves again (R144, R152). -/
def State.sendReplay (s : State) (t i : Nat) : State :=
  match (s.link t).replay[i]? with
  | none => s.withLink t fun l => { l with replayAt := none }
  | some f =>
    let s := (s.count (trunkCounter t + 7)).sendFlit t
      { nullHead with ftype := 1, rpl := true, seq := f.seq, vc := f.vc, fill := f.fill, first := f.first } f.payload
    let last : Bool := (s.link t).replay.length ≤ i + 1
    (if last then s.excluded t else s).withLink t fun l => { l with replayAt := if last then none else some (i + 1) }

/-- The transmit engine has something other than NULL to send, an acknowledgement or a credit return (R171). -/
def State.somethingToSend (s : State) (t : Nat) : Bool :=
  let l := s.link t
  l.replay != [] || l.nakDue || l.moveDue || l.moveAck.isSome || l.reportDue ||
    [0, 1, 2, 3].any (fun v => (s.txChannel t v).stage != [] ||
      s.rd (Reg.TLK_OCC_FREED_CUM t v) != byVc l.sentFreed v) ||
    (s.rd (Reg.TLK_SEQ_RX_EXPECT t) + 4095) % 4096 != l.sentAck

/-- The first item that is ready at a slot of a link in ACTIVE or RETRAIN (R158). -/
def State.liveSlot (s : State) (t : Nat) : State :=
  let l := s.link t
  let held := s.flag (Reg.TLK_STAT_HOLD_RX t)
  let null (s : State) : State := s.sendFlit t nullHead []
  let data (s : State) : State :=
    if held || 256 ≤ l.replay.length then null s
    else match [0, 1, 2, 3].find? (s.channelReady t) with
      | some v => s.sendData t v
      | none => null s
  match (if held then none else l.replayAt) with
  | some i => s.sendReplay t i
  | none =>
    if l.sinceSet < 15 then data s
    else match l.moveAck, l.moveDue, l.move with
      | some k, _, _ => (s.sendSet t 4 [byte k]).withLink t fun l => { l with moveAck := none }
      | none, true, some (d, n) => s.sendMove t d n
      | _, _, _ => if l.reportDue then s.sendReport t else data s

/-- One LINK_RESET leaves; after the fourth the link enters INIT (R158, R167). -/
def State.resetSlot (s : State) (t : Nat) : State :=
  let l := s.link t
  let s := (s.sendSet t 5 [byte l.resetReason, byte (s.rd (Reg.TLK_STAT_INIT_ID t))]).withLink t fun l =>
    { l with resets := l.resets - 1 }
  if l.resets ≤ 1 then s.enterInit t else s

/-- A slot of INIT: LINK_INIT once per microsecond, else NULL (R158). -/
def State.initSlot (s : State) (t : Nat) : State :=
  let due : Bool := match (s.link t).initAt with
    | none => true
    | some r => decide (r + rawOfNs 1000 ≤ s.mer.raw)
  if due then s.sendInit t else s.sendFlit t nullHead []

/-- TX_FLIT_SLOT (R158): the transmit direction carries flits in ON; in HUSH or DARK a need to send makes it leave that
state (R171). -/
def execTxFlitSlot (t : Fin 2) (s : State) : Out :=
  onHub (fun s =>
    let l := Table.get (fun _ => ({} : Lanes)) s.lanes t.val
    if (l.txState == 0xA || l.txState == 0xB) && s.somethingToSend t && s.mode != 2 && !l.leaving then
      let s := { s with lanes := Table.set (fun _ => {}) s.lanes t.val { l with leaving := true } }
      (s.emit (.trunk t "LEAVE" [l.txState] [])).excluded t
    else if l.txState != 8 then s
    else
      let go (f : State → State) : State := f (s.withLink t fun l => { l with sinceSet := l.sinceSet + 1 })
      match s.lstate t with
      | 0 => s
      | 1 => go fun s => s.initSlot t
      | 4 => go fun s => s.resetSlot t
      | _ => go fun s => s.liveSlot t) s

/-! Other events -/

/-- LINK_INIT (R168): the body of the set from byte 9. -/
def execLinkInit (t : Fin 2) (b : Bytes) (s : State) : Out := onHub (fun s => s.onLinkInit t b) s

/-- CREDIT_MOVE (R164). -/
def execCreditMove (t : Fin 2) (b : Bytes) (s : State) : Out := onHub (fun s => s.onCreditMove t b) s

/-- CREDIT_MOVE_ACK (R165). -/
def execCreditMoveAck (t : Fin 2) (b : Bytes) (s : State) : Out := onHub (fun s => s.onCreditMoveAck t b) s

/-- LINK_RESET (R169): the far end's request. -/
def execLinkReset (t : Fin 2) (s : State) : Out := onHub (fun s => s.linkReset t 4) s

/-- CREDIT_REPORT (R166). -/
def execCreditReport (t : Fin 2) (b : Bytes) (s : State) : Out := onHub (fun s => s.onCreditReport t b) s

/-- REPLAY_TIMEOUT (R153): the timer runs only while a flit is unacknowledged and no HOLD is set (R155). -/
def execReplayTimeout (t : Fin 2) (s : State) : Out :=
  onHub (fun s =>
    if !(s.lstate t == 2 || s.lstate t == 3) || (s.link t).replay == [] || s.flag (Reg.TLK_STAT_HOLD_TX t) then s
    else s.startReplay t true) s

/-- NAK_REARM_TIMEOUT (R151). -/
def execNakRearmTimeout (t : Fin 2) (s : State) : Out :=
  onHub (fun s => s.withLink t fun l => { l with nakArmed := true }) s

/-- HOLD_TIMEOUT (R156): this engine's HOLD has stayed set for more than 1 ms. -/
def execHoldTimeout (t : Fin 2) (s : State) : Out :=
  onHub (fun s => if s.flag (Reg.TLK_STAT_HOLD_TX t) then s.linkReset t 8 else s) s

/-- CREDIT_MOVE_RESEND (R165): the resend timer stops in RETRAIN (R170). -/
def execCreditMoveResend (t : Fin 2) (s : State) : Out :=
  onHub (fun s =>
    if s.flag (Reg.TLK_MOVE_PENDING t) && s.lstate t != 3 then s.withLink t fun l => { l with moveDue := true } else s) s

/-- CREDIT_MOVE_TIMEOUT (R165). -/
def execCreditMoveTimeout (t : Fin 2) (s : State) : Out :=
  onHub (fun s => if s.flag (Reg.TLK_MOVE_PENDING t) && s.lstate t != 3 then s.linkReset t 7 else s) s

/-- LINK_RESET_COMMAND (R177): TLK_CTRL.LRESET. -/
def execLinkResetCommand (t : Fin 2) (s : State) : Out := onHub (fun s => s.linkReset t 5) s

/-- New allotments at a scheduler epoch: one CREDIT_MOVE is to tell the far end, and acts as it is sent (R163).  A link that
carries no CREDIT_MOVE takes them at a later epoch, or with its next reset (R169; log entry 29). -/
def State.moveEpoch (s : State) (t : Nat) : State :=
  let now := [0, 1, 2, 3].map (s.allotted t)
  let new := [0, 1, 2, 3].map fun v => s.rd (Reg.TLK_ALLOT_ALLOT t v)
  if !s.linkLive t || (s.link t).move.isSome || now == new then s
  else s.withLink t fun l => { l with move := some (List.zipWith (fun (a b : Nat) => (b : Int) - a) now new, new), moveDue := true }

end Sys2Proof.Machine
end

