-- ==== Sys2Proof/Machine/Lanes.lean ====
section
/-!
DEFINITION. The trunk lanes: the lane registers, clock source selection, training, lane ordered sets, lane states, the
Reserve lane, lane failure and width changes (R96 to R131).
-/

namespace Sys2Proof.Machine

/-! The lanes of a trunk -/

/-- TRL_STAT.TSTATE: the receive direction's state (R113). -/
def State.rxState (s : State) (t : Nat) : Nat := s.rd (Reg.TRL_STAT_TSTATE t)

/-- The receive direction enters a state. -/
def State.setRxState (s : State) (t n : Nat) : State := s.wr (Reg.TRL_STAT_TSTATE t) n

/-- The transmit direction enters a state. -/
def State.setTxState (s : State) (t n : Nat) : State := s.withLane t fun l => { l with txState := n }

/-- Both directions. -/
def State.setBoth (s : State) (t n : Nat) : State := (s.setRxState t n).setTxState t n

/-- Physical lane p is FAILED. -/
def State.laneFailed (s : State) (t p : Nat) : Bool := bit (s.rd (Reg.TRL_HEALTH_FAILED t)) p

/-- Marks or unmarks it. -/
def State.markFailed (s : State) (t p : Nat) (b : Bool) : State :=
  s.wr (Reg.TRL_HEALTH_FAILED t) (putBit (s.rd (Reg.TRL_HEALTH_FAILED t)) p b)

/-- The healthy physical lanes, ascending. -/
def State.healthy (s : State) (t : Nat) : List Nat := (List.range 5).filter fun p => !s.laneFailed t p

/-- The receive steering map: the physical lane of each logical lane, 7 for one not in use. -/
def State.steering (s : State) (t : Nat) : List Nat :=
  [s.rd (Reg.TRL_MAP_MAP0 t), s.rd (Reg.TRL_MAP_MAP1 t), s.rd (Reg.TRL_MAP_MAP2 t), s.rd (Reg.TRL_MAP_MAP3 t)]

/-- The machine with it replaced. -/
def State.setSteering (s : State) (t : Nat) (m : List Nat) : State :=
  let s := (s.wr (Reg.TRL_MAP_MAP0 t) (m.getD 0 7)).wr (Reg.TRL_MAP_MAP1 t) (m.getD 1 7)
  (s.wr (Reg.TRL_MAP_MAP2 t) (m.getD 2 7)).wr (Reg.TRL_MAP_MAP3 t) (m.getD 3 7)

/-- The logical lane that physical lane p carries. -/
def State.logicalOf (s : State) (t p : Nat) : Option Nat := ((s.steering t).zipIdx.find? fun e => e.1 == p).map (·.2)

/-- The healthy physical lane that carries no logical lane: the spare (R122, R128). -/
def State.spareLane (s : State) (t : Nat) : Option Nat := (s.healthy t).find? fun p => !(s.steering t).contains p

/-- WIDTH_MAX as it acts: 3 acts as 2. -/
def State.widthMax (s : State) (t : Nat) : Nat := min 2 (s.rd (Reg.TRL_CTRL_WIDTH_MAX t))

/-- The widest receive width that the three limits of R114 allow with `n` healthy lanes. -/
def State.bestWidth (s : State) (t n : Nat) : Option Nat :=
  [2, 1, 0].find? fun w => w ≤ s.widthMax t && w ≤ (s.lane t).farWidth && 2 ^ w ≤ n

/-- The steering map of a width: the lowest-numbered healthy lanes, ascending (R128). -/
def State.mapFor (s : State) (t w : Nat) : List Nat :=
  let h := (s.healthy t).take (2 ^ w)
  h ++ List.replicate (4 - h.length) 7

/-- SPARE_STATE at rest: 0 with a healthy spare, 3 without. -/
def State.settleSpare (s : State) (t : Nat) : State :=
  s.wr (Reg.TRL_MAP_SPARE_STATE t) (if (s.spareLane t).isSome then 0 else 3)

/-- The lanes that the transmitter uses at a width: the lowest-numbered ones healthy at the far receiver, ascending (R128). -/
def carryFor (failed w : Nat) : List Nat :=
  let h := ((List.range 5).filter fun p => !bit failed p).take (2 ^ w)
  (List.range 5).map fun p => if h.contains p then h.idxOf p else 15

/-- A transmit width and its lanes come into force. -/
def State.applyTxWidth (s : State) (t w : Nat) : State :=
  (s.withLane t fun l => { l with carry := carryFor l.farFailed w, mirror := none, released := none }).wr
    (Reg.TRL_STAT_TX_WIDTH t) w

/-- A receive width and its map come into force. -/
def State.applyWidth (s : State) (t w : Nat) : State :=
  ((s.setSteering t (s.mapFor t w)).wr (Reg.TRL_STAT_RX_WIDTH t) w).settleSpare t

/-! Clock source (R102 to R107) -/

/-- A distance of 33 or more is 63 (R104). -/
def clockDist (d : Nat) : Nat := if 33 ≤ d then 63 else d

/-- Trunk t may be taken as the source (R105): its distance where it may. -/
def State.clockOffer (s : State) (t : Nat) : Option Nat :=
  let d := s.rd (Reg.TRL_STAT_CLK_DIST_RX t)
  if s.flag (Reg.TRL_STAT_CLK_VALID t) && (s.rxState t == 8 || s.rxState t == 0xA) && d < 63 then some d else none

/-- A field that stands in both lanes blocks. -/
def State.wrBoth (s : State) (f : Nat → Fld) (v : Nat) : State := (s.wr (f 0) v).wr (f 1) v

/-- SOURCE changes: CLOCK_SOURCE is raised, and Meridian hears of it (R107, R452). -/
def State.setSource (s : State) (src dist : Nat) : State :=
  let old := s.rd (Reg.TRL_CLK_SOURCE 0)
  let s := (s.wrBoth Reg.TRL_CLK_SOURCE src).wrBoth Reg.TRL_CLK_DIST_TX dist
  let s := { s with clk := { candidate := none } }
  if old == src then s
  else
    let t := if src == 1 || src == 2 then src - 1 else if old == 1 || old == 2 then old - 1 else 0
    (s.notice 0x0A07 [byte t, byte old, byte src, byte dist]).merSourceChanged

/-- The source follows what the trunks offer (R105, R106): nothing is accepted during the poison hold. -/
def State.clockSelect (s : State) : State :=
  if s.isRoot then s
  else
    let src := s.rd (Reg.TRL_CLK_SOURCE 0)
    if src == 1 || src == 2 then
      let k := src - 1
      let d := s.rd (Reg.TRL_STAT_CLK_DIST_RX k)
      if !s.flag (Reg.TRL_STAT_CLK_VALID k) || d == 63 then (s.wrBoth Reg.TRL_CLK_POISON 1).setSource 3 63
      else
        let s := s.wrBoth Reg.TRL_CLK_DIST_TX (d + 1)
        let better : Option Nat := match s.clockOffer (1 - k) with
          | some e => if e < d then some (1 - k) else none
          | none => none
        { s with clk := { candidate := better } }
    else if s.flag (Reg.TRL_CLK_POISON 0) then s
    else match s.clockOffer 0, s.clockOffer 1 with
      | some a, some b => if b < a then s.setSource 2 (b + 1) else s.setSource 1 (a + 1)
      | some a, none => s.setSource 1 (a + 1)
      | none, some b => s.setSource 2 (b + 1)
      | none, none => s

/-- The role sampled at reset: the root advertises distance 0 (R104). -/
def State.laneRole (s : State) : State := if s.isRoot then s.wrBoth Reg.TRL_CLK_DIST_TX 0 else s

/-- A received distance. -/
def State.takeDist (s : State) (t d : Nat) : State := (s.wr (Reg.TRL_STAT_CLK_DIST_RX t) (clockDist d)).clockSelect

/-! Link states that follow the directions (R167) -/

/-- The link follows the directions' states. -/
def State.followLanes (s : State) (t : Nat) : State :=
  let rx := s.rxState t
  let tx := (s.lane t).txState
  let off (n : Nat) : Bool := n ≤ 3 || n == 0xC || n == 0xD
  let low (n : Nat) : Bool := n == 0xA || n == 0xB
  let l := s.lstate t
  if off rx || off tx then s.linkDown t 1
  else if rx == 8 && tx == 8 then
    if l == 0 then s.enterInit t
    else if l == 3 || l == 5 then s.setLstate t 2
    else s
  else if (rx == 9 || tx == 9) && l == 2 then s.setLstate t 3
  else if low rx && low tx && (l == 2 || l == 3) then s.setLstate t 5
  else s

/-! Training (R113 to R118) -/

/-- Recalibration and steering under way are dropped. -/
def State.dropSteering (s : State) (t : Nat) : State :=
  (s.withLane t fun l => { l with
    steer := [], mirror := none, released := none, back := [], recal := none, round := [], failSteer := []
    retrainRx := none, retrainTx := none, enter := none, leaving := false, darkDue := false, probe := none
    upgrade := false }).put (Reg.TRL_MAP_RECAL_ACTIVE t) false

/-- Both directions return to DETECT.  A return from a state after CLOCK_LOCK counts; the eighth in a row raises TRAIN_FAIL,
and from then on each further attempt, one that ended in CLOCK_LOCK too, is followed by the 1 s wait (R114). -/
def State.toDetect (s : State) (t : Nat) : State :=
  let was := s.rxState t
  let s := (s.dropSteering t).setBoth t 1
  let s := s.withLane t fun l => { l with
    goodA := 0, sentA := 0, eqDone := 0, farEqDone := 0, deskewRetried := false, conflict := false, locked := 0, badSets := [] }
  let s := if 3 ≤ was && was ≤ 0xB then s.bump (Reg.TRL_STAT_TRAIN_FAILS t) else s
  let n := s.rd (Reg.TRL_STAT_TRAIN_FAILS t)
  let s := if 2 ≤ was && was ≤ 0xB && 8 ≤ n then
      let s := s.withLane t fun l => { l with backoff := true }
      if n == 8 && was != 2 then s.notice 0x0A02 [byte t, byte was, byte n] else s
    else s
  s.followLanes t

/-- The attempt begins: CLOCK_LOCK. -/
def State.toClockLock (s : State) (t : Nat) : State :=
  ((s.setBoth t 2).count (trunkCounter t + 0x12)).followLanes t

/-- The action that LANE_FAILED names for a lane that fails in training (R138): the direction comes down, its width falls,
another lane takes the place of a mapped one, or nothing changes. -/
def State.trainingAction (s : State) (t p : Nat) : Nat :=
  let n := (s.healthy t).length
  match s.bestWidth t (n - 1) with
  | none => 3
  | some w =>
    if some w != s.bestWidth t n then 1
    else if 6 ≤ s.rxState t && (s.steering t).contains p then 0
    else 2

/-- A lane fails in training (R113, R118). -/
def State.failTraining (s : State) (t p cause : Nat) : State :=
  if s.laneFailed t p then s
  else (s.markFailed t p true).notice 0x0A03 [byte t, byte p, byte cause, byte (s.trainingAction t p)]

/-- Several. -/
def State.failAll (s : State) (t : Nat) (lanes cause : Nat) : State :=
  ((List.range 5).filter (bit lanes)).foldl (fun (s : State) p => s.failTraining t p cause) s

/-- A free value from −b to b, as it stands in `w` bits. -/
def State.freeWithin (s : State) (b w : Nat) : Nat × State :=
  let (v, s) := s.free 16
  (ofSigned w ((v % (2 * b + 1) : Nat) - (b : Int)), s)

/-- The DFE taps that adaptation finds on a receive lane (R108): h1, and h2 to h12 which no register shows. -/
def State.adaptDfe (s : State) (t p : Nat) : State :=
  let (h1, s) := s.freeWithin 64 8
  let (taps, s) := (List.range 11).foldl (fun (acc : List Nat × State) i =>
    let (h, s) := acc.2.freeWithin (if i < 3 then 32 else 16) 8
    (acc.1 ++ [h], s)) ([], s)
  (s.wr (Reg.TRL_RXEQ_DFE_H1 t p) h1).withLane t fun l => { l with taps := Table.set (fun _ => []) l.taps p taps }

/-- Free equalization results of a receive lane: the CTLE search and the DFE (R108, R113). -/
def State.adapted (s : State) (t p : Nat) : State :=
  let (a, s) := s.free 5
  let (b, s) := s.free 3
  ((s.wr (Reg.TRL_RXEQ_CTLE_PEAK t p) (min 20 a)).wr (Reg.TRL_RXEQ_CTLE_DC t p) (min 6 b)).adaptDfe t p

/-- In ON each receiver adapts its DFE taps and the fine phase of its sampling point (R109).  The model shows the result at
each lane ordered set (DESIGN CHOICE, log entry 67). -/
def State.adaptOn (s : State) (t : Nat) : State :=
  (s.healthy t).foldl (fun (s : State) p =>
    let (f, s) := (s.adaptDfe t p).free 6
    s.wr (Reg.TRL_PHASE_FINE t p) f) s

/-- The settings of a receive lane, as a recalibration saves them (R123). -/
def State.laneSettings (s : State) (t p : Nat) : LaneSettings :=
  { rxeq := s.reg (Reg.TRL_RXEQ_A t p), phase := s.reg (Reg.TRL_PHASE_A t p)
    taps := Table.get (fun _ => []) (s.lane t).taps p }

/-- Saved settings are in force again. -/
def State.restoreLane (s : State) (t p : Nat) (x : Option LaneSettings) : State :=
  match x with
  | none => s
  | some x => ((s.setReg (Reg.TRL_RXEQ_A t p) x.rxeq).setReg (Reg.TRL_PHASE_A t p) x.phase).withLane t fun l =>
      { l with taps := Table.set (fun _ => []) l.taps p x.taps }

/-- DESKEW: the phases of the lanes against the clock are measured (R119). -/
def State.measured (s : State) (t p : Nat) : State :=
  let (a, s) := s.free 6
  let (b, s) := s.free 6
  (s.wr (Reg.TRL_PHASE_COARSE t p) a).wr (Reg.TRL_PHASE_FINE t p) b

/-- The lanes for which this receiver asks for precoding (R115): DFE h1 above 0.35, both ends allowing it. -/
def State.precodeAsked (s : State) (t : Nat) : Nat :=
  if s.flag (Reg.TRL_CTRL_PRECODE_ALLOW t) && (s.lane t).farPrecode then
    ((s.healthy t).filter fun p => (44 : Int) < toSigned 8 (s.rd (Reg.TRL_RXEQ_DFE_H1 t p))).foldl setBit 0
  else 0

/-- EQUALIZE has ended for the lanes that are left: precoding is settled, and DESKEW chooses a width (R113, R115). -/
def State.toDeskew (s : State) (t : Nat) : State :=
  match s.bestWidth t (s.healthy t).length with
  | none => s.toDetect t
  | some w =>
    let l := s.lane t
    let rx := l.precodeRx
    let s := (List.range 5).foldl (fun (s : State) p => s.put (Reg.TRL_RXEQ_PRECODE t p) (bit rx p)) s
    let s := (s.put (Reg.TRL_STAT_PRECODE_RX t) (rx != 0)).put (Reg.TRL_STAT_PRECODE_TX t) (l.precodeTx != 0)
    (((s.withLane t fun l => { l with deskewRetried := false }).applyWidth t w).setBoth t 6).followLanes t

/-- DESKEW has aligned the lanes: CONFIRM. -/
def State.toConfirm (s : State) (t : Nat) : State :=
  let s := (List.range 5).foldl (fun (s : State) p => s.measured t p) s
  (s.withLane t fun l => { l with window := [] }).setBoth t 7

/-- CONFIRM has passed: the lanes are in ON. -/
def State.toOn (s : State) (t : Nat) : State :=
  let s := (s.wr (Reg.TRL_STAT_TRAIN_FAILS t) 0).withLane t fun l => { l with badSets := [], window := [] }
  ((((s.setBoth t 8).clockSelect).followLanes t).markNarrow t).allotments

/-- Lanes are FAILED in DESKEW or CONFIRM: DESKEW again at a width that remains, else DETECT. -/
def State.redeskew (s : State) (t lanes cause : Nat) : State :=
  let s := s.failAll t lanes cause
  match s.bestWidth t (s.healthy t).length with
  | none => s.toDetect t
  | some w => ((s.applyWidth t w).setBoth t 6)

/-! Failure and width (R125 to R129) -/

/-- FAIL_STEER is sent for the first failed lane that still waits for the spare; HOLD clears when none does. -/
def State.steerFailed (s : State) (t : Nat) : State :=
  let wait := (s.lane t).failSteer.filter fun e => (s.steering t).getD e.1 7 == e.2
  let s := s.withLane t fun l => { l with failSteer := wait }
  match wait with
  | (j, _) :: _ => s.withLane t fun l => { l with back := l.back ++ [(5, j)] }
  | [] => s.setHold t false

/-- RETRAIN_REQ is sent for a receive width (R126, R130). -/
def State.askRetrain (s : State) (t w : Nat) : State :=
  s.withLane t fun l => { l with back := l.back ++ [(6, w)], retrainRx := some w }

/-- RECAL_ABORTED and its count (R124). -/
def State.noteAbort (s : State) (t reason : Nat) : State :=
  match (s.lane t).recal with
  | some r => if r.abandon then s
    else (s.bump (Reg.TRL_HEALTH_RECAL_ABORTS t)).notice 0x0A06 [byte t, byte r.lane, byte reason]
  | none => s

/-- A recalibration is abandoned (R124, R127): the saved settings are in force again, and the lane returns to its own lane
by steps 6 and 7 if it had been moved. -/
def State.abandonRecal (s : State) (t reason : Nat) : State :=
  match (s.lane t).recal with
  | none => s
  | some r =>
    let s := (s.noteAbort t reason).restoreLane t r.home r.saved
    let next : Recal × List (Nat × Nat) :=
      if r.step ≤ 2 || 7 ≤ r.step then ({ r with step := 7, abandon := true }, if r.step ≤ 2 then [(4, r.lane)] else [])
      else if r.step == 6 then ({ r with abandon := true }, [])
      else ({ r with step := 5, abandon := true, fails := 0 }, if r.step ≤ 4 then [(3, r.lane)] else [])
    s.withLane t fun l => { l with recal := some next.1, round := [], back := l.back ++ next.2 }

/-- The recalibration is over, with the spare idle. -/
def State.endRecal (s : State) (t : Nat) : State :=
  ((s.withLane t fun l => { l with recal := none, round := [] }).put (Reg.TRL_MAP_RECAL_ACTIVE t) false).settleSpare t

/-- The widest width below the one in force that the limits of R114 allow. -/
def State.narrower (s : State) (t : Nat) : Option Nat :=
  [1, 0].find? fun w => w < s.rd (Reg.TRL_STAT_RX_WIDTH t) && w ≤ s.widthMax t && w ≤ (s.lane t).farWidth &&
    2 ^ w ≤ (s.healthy t).length

/-- A physical lane is marked FAILED outside training, and the direction answers in the first way of R126 that applies. -/
def State.failLane (s : State) (t p cause : Nat) : State :=
  if s.laneFailed t p then s
  else
    let note (s : State) (action : Nat) : State := s.notice 0x0A03 [byte t, byte p, byte cause, byte action]
    let idle := s.rd (Reg.TRL_MAP_SPARE_STATE t) == 0
    let recal := (s.lane t).recal
    let own : Bool := match recal with
      | some r => r.home == p && r.step ≥ 2
      | none => false
    let was := s.logicalOf t p
    let s := s.markFailed t p true
    if s.rxState t == 9 then note s 2
    else match recal, own with
      | some r, true =>
        let s := ((s.noteAbort t 2).restoreLane t r.home r.saved).endRecal t
        let m := if was.isSome then (s.steering t).set r.lane ((s.spareLane t).getD 4) else s.steering t
        note ((s.setSteering t m).wr (Reg.TRL_MAP_SPARE_STATE t) 2) 0
      | _, _ =>
        match was with
        | none => note (if recal.isSome then (s.noteAbort t 2).endRecal t
            else if s.rd (Reg.TRL_MAP_SPARE_STATE t) == 2 then s else s.settleSpare t) 2
        | some j =>
          let free := (s.spareLane t).isSome && (idle || recal.isSome) && (s.lane t).failSteer == []
          if free then
            let s := (s.setHold t true).withLane t fun l => { l with failSteer := l.failSteer ++ [(j, p)] }
            note (if recal.isSome then s.abandonRecal t 2
              else s.withLane t fun l => { l with back := l.back ++ [(5, j)] }) 0
          else
            match s.narrower t with
            | some w => note ((s.setHold t true).askRetrain t w) 1
            | none => (note s 3).toDetect t

/-- The far end's STEER MIRROR_START for a failed lane: the spare carries it from now on, and HOLD clears when no mapped
lane is left waiting (R126, R155). -/
def State.steered (s : State) (t j : Nat) : State :=
  match (s.lane t).failSteer.find? (fun e => e.1 == j), s.spareLane t with
  | some _, some k =>
    let s := s.withLane t fun l => { l with failSteer := l.failSteer.filter fun e => e.1 != j }
    let s := (s.setSteering t ((s.steering t).set j k)).wr (Reg.TRL_MAP_SPARE_STATE t) 2
    if (s.lane t).failSteer == [] then s.setHold t false else s
  | _, _ => s

/-- WIDTH_CHANGED where the width has changed (R129). -/
def State.widthChanged (s : State) (t dir old new : Nat) : State :=
  if old == new then s
  else (if dir == 0 then s.withLane t fun l => { l with widthAt := some s.mer.raw } else s).notice 0x0A05
    [byte t, byte dir, byte old, byte new]

/-- The receive direction follows the transmitter into FAST_RETRAIN (R129, R170). -/
def State.enterRetrain (s : State) (t : Nat) : State :=
  let s := match (s.lane t).recal with
    | some r => ((s.noteAbort t 3).restoreLane t r.home r.saved).endRecal t
    | none => s
  let s := s.withLane t fun l => { l with failSteer := [], back := [] }
  ((s.setRxState t 9).followLanes t).setHold t true

/-! Recalibration (R122 to R124) -/

/-- A logical lane of the round begins: MIRROR_REQ. -/
def State.nextRecal (s : State) (t : Nat) : State :=
  match (s.lane t).round with
  | [] => (s.incr (Reg.TRL_HEALTH_RECAL_ROUNDS t)).endRecal t
  | l :: rest =>
    if (s.lane t).darkDue then (s.withLane t fun x => { x with roundDue := true }).endRecal t
    else
    let r : Recal := { lane := l, step := 1, home := (s.steering t).getD l 7 }
    (s.withLane t fun x => { x with recal := some r, round := rest, back := x.back ++ [(1, l)] }).put
      (Reg.TRL_MAP_RECAL_ACTIVE t) true

/-- Recalibration may run now (R123, R124). -/
def State.recalAllowed (s : State) (t : Nat) : Bool :=
  s.rxState t == 8 && !s.cmd.restarting && !s.trunkTest t

/-- A round begins when a healthy spare is idle; one that falls due at a time of R124 waits. -/
def State.startRound (s : State) (t : Nat) : State :=
  if !s.recalAllowed t then s.withLane t fun l => { l with roundDue := true }
  else if s.rd (Reg.TRL_MAP_SPARE_STATE t) != 0 || (s.lane t).recal.isSome then
    s.withLane t fun l => { l with roundDue := false }
  else
    let lanes := (List.range 4).filter fun l => (s.steering t).getD l 7 < 5
    (s.withLane t fun l => { l with round := lanes, roundDue := false, early := false }).nextRecal t

/-- A full interval has been compared (steps 3 and 7): the fifth failure abandons the round. -/
def State.compareInterval (s : State) (t : Nat) (same : Bool) : State :=
  match (s.lane t).recal with
  | none => s
  | some r =>
    if r.step != 2 && r.step != 6 then s
    else if !same && !r.abandon then
      if r.fails < 4 then s.withLane t fun l => { l with recal := some { r with fails := r.fails + 1 } }
      else s.abandonRecal t 1
    else if r.step == 2 then
      let k := (s.spareLane t).getD 4
      let s := (s.setSteering t ((s.steering t).set r.lane k)).wr (Reg.TRL_MAP_SPARE_STATE t) 2
      s.withLane t fun l => { l with recal := some { r with step := 3, fails := 0 }, back := l.back ++ [(2, r.lane)] }
    else
      let s := (s.setSteering t ((s.steering t).set r.lane r.home)).wr (Reg.TRL_MAP_SPARE_STATE t) 1
      s.withLane t fun l => { l with recal := some { r with step := 7, fails := 0 }, back := l.back ++ [(4, r.lane)] }

/-- A steering step of the far transmitter (R123). -/
def State.onSteer (s : State) (t op j : Nat) : State :=
  match (s.lane t).recal with
  | none => if op == 1 then s.steered t j else s
  | some r =>
    if r.lane != j then (if op == 1 then s.steered t j else s)
    else match op, r.step with
      | 1, 1 => (s.withLane t fun l => { l with recal := some { r with step := 2 } }).wr (Reg.TRL_MAP_SPARE_STATE t) 1
      | 4, 3 => s.withLane t fun l => { l with recal := some { r with step := 4, saved := some (s.laneSettings t r.home) } }
      | 3, 5 => s.withLane t fun l => { l with recal := some { r with step := 6 } }
      | 2, 7 =>
        if r.abandon then (s.endRecal t).steerFailed t
        else
          let s := s.settleSpare t
          let s := s.withLane t fun l => { l with recal := none }
          if (s.lane t).failSteer != [] then (s.endRecal t).steerFailed t else s.nextRecal t
      | _, _ => s

/-! What the transmitter does on the back channel (R123, R126) -/

/-- The transmitter's spare: the lowest lane healthy at the far receiver that carries no logical lane (R122, R128). -/
def txSpare (l : Lanes) : Option Nat := (List.range 5).find? fun p => !bit l.farFailed p && l.carry.getD p 15 == 15

/-- The physical lane that carries logical lane j, other than the spare that mirrors it. -/
def txHome (l : Lanes) (j : Nat) : Option Nat :=
  (List.range 5).find? fun p => l.carry.getD p 15 == j && l.mirror != some (j, p)

/-- A steering step of the transmitter (R123): the lanes after it, and the physical lane that STEER names.  MIRROR_START puts
the logical lane on the spare too, DATA_RELEASE takes it from its own lane, DATA_RESUME puts it there again, and MIRROR_STOP
takes it from the spare. -/
def steerStep (l : Lanes) (op j : Nat) : Lanes × Nat :=
  match op with
  | 1 => match txSpare l with
    | some p => ({ l with carry := l.carry.set p j, mirror := some (j, p) }, p)
    | none => (l, 4)
  | 2 => match l.mirror with
    | some (_, p) => ({ l with carry := l.carry.set p 15, mirror := none }, p)
    | none => (l, 4)
  | 3 => match l.released with
    | some (_, p) => ({ l with carry := l.carry.set p j, released := none }, p)
    | none => (l, j)
  | _ => match txHome l j with
    | some p => ({ l with carry := l.carry.set p 15, released := some (j, p) }, p)
    | none => (l, j)

/-- HEALTH of the far receiver (R111): a lane healthy again carries no logical lane that another lane carries (R130). -/
def takeHealth (l : Lanes) (failed : Nat) : Lanes :=
  let back := (List.range 5).filter fun p => bit l.farFailed p && !bit failed p
  let twice (p : Nat) : Bool := (List.range 5).any fun q => q != p && l.carry.getD q 15 == l.carry.getD p 15
  { l with farFailed := failed % 32, carry := back.foldl (fun c p => if twice p then c.set p 15 else c) l.carry }

/-- BC_OP and BC_LANE of an ALIGN. -/
def State.onBack (s : State) (t op lane : Nat) : State :=
  let step (o : Nat) : State := s.withLane t fun l => { l with steer := l.steer ++ [(o, lane)] }
  match op with
  | 1 => step 1
  | 5 => step 1
  | 2 => step 4
  | 3 => step 3
  | 4 => step 2
  | 6 =>
    if lane ≤ 2 then ((s.withLane t fun l => { l with retrainTx := some lane, txState := 9 })).followLanes t else s
  | _ => s

/-- A coefficient request for one transmit lane (R108, R111): the taps move one step where their limits allow. -/
def State.onCoefficients (s : State) (t p req : Nat) : State :=
  if 4 < p then s
  else
    let ask (k : Nat) : Int := match bits req (2 * k + 1) (2 * k) with
      | 1 => 1
      | 2 => -1
      | _ => 0
    let cm1 : Int := -(s.rd (Reg.TRL_TXEQ_CM1 t p) : Nat)
    let cp1 : Int := -(s.rd (Reg.TRL_TXEQ_CP1 t p) : Nat)
    let cp2 : Int := toSigned 5 (s.rd (Reg.TRL_TXEQ_CP2 t p))
    let sw : Int := (s.rd (Reg.TRL_TXEQ_SWING t p) : Nat)
    let main (a b c : Int) : Bool := a.natAbs + b.natAbs + c.natAbs ≤ 32
    let ok1 : Bool := -16 ≤ cm1 + ask 0 && cm1 + ask 0 ≤ 0 && main (cm1 + ask 0) cp1 cp2
    let cm1' := if ok1 then cm1 + ask 0 else cm1
    let ok2 : Bool := -24 ≤ cp1 + ask 1 && cp1 + ask 1 ≤ 0 && main cm1' (cp1 + ask 1) cp2
    let cp1' := if ok2 then cp1 + ask 1 else cp1
    let ok3 : Bool := -8 ≤ cp2 + ask 2 && cp2 + ask 2 ≤ 8 && main cm1' cp1' (cp2 + ask 2)
    let cp2' := if ok3 then cp2 + ask 2 else cp2
    let ok4 : Bool := 0 ≤ sw + ask 3 && sw + ask 3 ≤ 8
    let sw' := if ok4 then sw + ask 3 else sw
    let st (k : Nat) (ok : Bool) : Nat := (if ask k == 0 then 2 else if ok then 0 else 1) * 4 ^ k
    let s := (s.wr (Reg.TRL_TXEQ_CM1 t p) cm1'.natAbs).wr (Reg.TRL_TXEQ_CP1 t p) cp1'.natAbs
    let s := (s.wr (Reg.TRL_TXEQ_CP2 t p) (ofSigned 5 cp2')).wr (Reg.TRL_TXEQ_SWING t p) sw'.toNat
    s.withLane t fun l => { l with answer := st 0 ok1 + st 1 ok2 + st 2 ok3 + st 3 ok4 }

/-! Lane ordered sets received (R110, R111) -/

/-- The physical lane of receive pair i (R117). -/
def State.pairLane (s : State) (t i : Nat) : Nat := if s.flag (Reg.TRL_STAT_REVERSED t) && i < 4 then 3 - i else i

/-- A set as a receive pair gives it, with an inverted pair put right: SYNC reads 0x3C 0xC3 there (R110, R117), and inversion
flips the higher bit of every pair of bits (R98). -/
def polarized (b : Bytes) : Bytes := if slice b 0 4 == [0x3C, 0xC3, 0x3C, 0xC3] then b.map (· ^^^ 0xAA) else b

/-- A set that begins with SYNC and whose CRC is right. -/
def setReads (b : Bytes) : Bool := slice b 0 4 == [0x96, 0x69, 0x96, 0x69] && laneSetGood b

/-- Sets with a wrong CRC are counted and ignored; four in a row on a lane in ON make it FAILED (R110, R125).  Answers the
good sets with their physical lanes. -/
def State.readSets (s : State) (t : Nat) (sets : List Bytes) : State × List (Nat × Bytes) :=
  let all := (sets.take 5).zipIdx.map fun e => (s.pairLane t e.2, polarized e.1)
  let bad := all.filter fun e => !setReads e.2
  let good := all.filter fun e => setReads e.2
  let s := s.count (trunkCounter t + 5) bad.length
  let s := good.foldl (fun (s : State) e =>
    s.withLane t fun l => { l with badSets := Table.set (fun _ => 0) l.badSets e.1 0 }) s
  let s := if s.rxState t != 8 then s
    else bad.foldl (fun (s : State) e =>
      let n := byVc (s.lane t).badSets e.1 + 1
      let s := s.withLane t fun l => { l with badSets := Table.set (fun _ => 0) l.badSets e.1 n }
      if n == 4 then s.failLane t e.1 3 else s) s
  (s, good)

/-- A good set's arrival in ON is kept by Meridian (R450), and the receivers' adaptation shows (R109). -/
def State.setArrived (s : State) (t : Nat) (b : Bytes) : State :=
  if s.rxState t == 8 then (s.adaptOn t).merArrive t (leAt b 7 1) s.mer.raw else s

/-- Physical lanes 0 to 3 of the receive direction arrive reversed, or straight (R117): the lanes' marks follow their
numbers. -/
def State.setReversed (s : State) (t : Nat) (b : Bool) : State :=
  if s.flag (Reg.TRL_STAT_REVERSED t) == b then s
  else
    let f := s.rd (Reg.TRL_HEALTH_FAILED t)
    let turned := ((List.range 5).filter fun p => bit f (if p < 4 then 3 - p else p)).foldl setBit 0
    (s.put (Reg.TRL_STAT_REVERSED t) b).wr (Reg.TRL_HEALTH_FAILED t) turned

/-- The good sets of the data pairs read LANE values in reversed order (R117). -/
def lanesReversed (sets : List Bytes) : Bool :=
  let read := (((sets.take 4).map polarized).zipIdx.filter fun e => setReads e.1).map fun e => (e.2, leAt e.1 5 1 % 8)
  read != [] && read.all fun e => e.2 == 3 - e.1

/-- TRAIN_A in EXCHANGE, or from a far end that has gone back to DETECT (R111, R113, R116, R117).  EXCHANGE ends when this end
has seen 8 good sets and the far end has too: it says so by its state, or 8 have left while it was in EXCHANGE (DEDUCED, log
entry 67). -/
def execTrainA (t : Fin 2) (sets : List Bytes) (s : State) : Out :=
  onHub (fun s =>
    let (s, good) := s.readSets t sets
    match good.map (·.2) with
    | [] => s
    | b :: _ =>
      let st := s.rxState t
      if st == 4 then
        let s := s.setReversed t (lanesReversed sets)
        let s := s.withLane t fun l => { l with farWidth := min 2 (bits (leAt b 9 1) 2 1), farPrecode := bit (leAt b 9 1) 0 }
        let s := s.takeDist t (leAt b 12 1)
        if leAt b 8 1 == 1 && s.isRoot then (((s.dropSteering t).setBoth t 0xD).notice 0x0A01 [byte t]).followLanes t
        else if leAt b 13 1 == 0xD && !(s.lane t).conflict then
          (s.withLane t fun l => { l with conflict := true }).notice 0x0A01 [byte t]
        else if leAt b 13 1 < 4 then s
        else
          let s := s.withLane t fun l => { l with goodA := l.goodA + 1 }
          if 8 ≤ (s.lane t).goodA && (8 ≤ (s.lane t).sentA || 5 ≤ leAt b 13 1) then
            (s.withLane t fun l => { l with eqDone := 0, farEqDone := 0, precodeTx := 0, precodeRx := 0 }).setBoth t 5
          else s
      else if 6 ≤ st && st ≤ 9 then s.toDetect t
      else s) s

/-- The h1 that adaptation has found on a receive lane lies above 0.35 (44 of R133's units), or not. -/
def State.bendDfe (s : State) (t p : Nat) (steep : Bool) : State :=
  let h := toSigned 8 (s.rd (Reg.TRL_RXEQ_DFE_H1 t p))
  let above : Bool := decide ((44 : Int) < h)
  s.wr (Reg.TRL_RXEQ_DFE_H1 t p) (ofSigned 8 (if above == steep then h else if steep then 45 + (h.natAbs % 20 : Nat) else h - 45))

/-- TRAIN_B in EQUALIZE (R111, R113, R115).  `done`: the lanes on which this receiver has finished; they have been adapted,
and those whose DFE h1 exceeds 0.35, which `steep` names, ask for precoding. -/
def execTrainB (t : Fin 2) (sets : List Bytes) (done steep : BitVec 5) (s : State) : Out :=
  onHub (fun s =>
    let (s, good) := s.readSets t sets
    if s.rxState t != 5 then s
    else
      let s := ((good.map fun e => e.2.drop 8).eraseDups).foldl (fun (s : State) b =>
        let p := leAt b 0 1
        let s := s.onCoefficients t p (leAt b 1 1)
        s.withLane t fun l => { l with
          farEqDone := if bit (leAt b 3 1) 0 && p < 5 then setBit l.farEqDone p else l.farEqDone
          precodeTx := leAt b 4 1 % 32 }) s
      let new := (List.range 5).filter fun p => done.toNat.testBit p && !bit (s.lane t).eqDone p
      let s := new.foldl (fun (s : State) p => (s.adapted t p).bendDfe t p (steep.toNat.testBit p)) s
      let s := s.withLane t fun l => { l with eqDone := l.eqDone ||| done.toNat, precodeRx := s.precodeAsked t }
      let l := s.lane t
      if (s.healthy t).all (fun p => bit l.eqDone p && bit l.farEqDone p) then s.toDeskew t else s) s

/-- HEALTH, width, back channel and coefficients of an ALIGN in ON (R111). -/
def State.onAlign (s : State) (t : Nat) (b : Bytes) : State :=
  let s := s.takeDist t (leAt b 8 1)
  let old := s.rd (Reg.TRL_STAT_TX_WIDTH t)
  let w := min 2 (leAt b 9 1)
  let s := s.withLane t fun l => takeHealth l (leAt b 10 1)
  let s := if (s.lane t).txState == 9 || w == old then s else (((s.applyTxWidth t w).markNarrow t).allotments)
  let s := if s.linkLive t && s.rd (Reg.TRL_STAT_TX_WIDTH t) != old then s.widthChanged t 1 old w else s
  (s.onBack t (leAt b 11 1) (leAt b 12 1)).onCoefficients t (leAt b 13 1) (leAt b 14 1)

/-- An ALIGN in DESKEW or CONFIRM: the clock distance, the far receiver's health, and the width it has chosen with the lanes
that follow from it (R104, R111, R128). -/
def State.trainAlign (s : State) (t : Nat) (b : Bytes) : State :=
  ((s.takeDist t (leAt b 8 1)).withLane t fun l => { l with farFailed := leAt b 10 1 % 32 }).applyTxWidth t
    (min 2 (leAt b 9 1))

/-- The receiver follows its transmitter into FAST_RETRAIN once RETRAIN_REQ has gone out (R126). -/
def State.followRetrain (s : State) (t : Nat) : State :=
  let l := s.lane t
  if l.retrainRx.isSome && !(l.back.any fun e => e.1 == 6) && s.rxState t == 8 then s.enterRetrain t else s

/-- ALIGN (R111, R118).  In DESKEW, `skewed` names the lanes beyond range; in ON, `same` says whether a spare that mirrors a
lane has matched it over the interval that ends here. -/
def execAlignOs (t : Fin 2) (sets : List Bytes) (skewed : BitVec 5) (same : Bool) (s : State) : Out :=
  onHub (fun s =>
    let (s, good) := s.readSets t sets
    match good.map (·.2) with
    | [] => s
    | b :: _ =>
      let s := s.setArrived t b
      let st := s.rxState t
      if st == 6 then
        let s := s.trainAlign t b
        let out := (s.steering t).filter fun p => p < 5 && skewed.toNat.testBit p
        let s := s.failAll t skewed.toNat 5
        if out == [] then s.toConfirm t
        else match s.bestWidth t (s.healthy t).length with
          | none => s.toDetect t
          | some w => (s.applyWidth t w).toConfirm t
      else if st == 7 then s.trainAlign t b
      else if st == 9 then s.takeDist t (leAt b 8 1)
      else if st == 8 then ((s.compareInterval t same).onAlign t b).followRetrain t
      else s) s

/-- STEER (R111, R123). -/
def execSteerOs (t : Fin 2) (sets : List Bytes) (same : Bool) (s : State) : Out :=
  onHub (fun s =>
    let (s, good) := s.readSets t sets
    match good.map (·.2) with
    | [] => s
    | b :: _ =>
      let s := s.setArrived t b
      if s.rxState t == 9 then s.takeDist t (leAt b 11 1)
      else if s.rxState t != 8 then s
      else (((s.takeDist t (leAt b 11 1)).compareInterval t same).onSteer t (leAt b 8 1) (leAt b 9 1)).followRetrain t) s

/-! Lane states (R120, R121, R171) -/

/-- The transmit direction begins to enter HUSH or DARK, under R171's condition. -/
def State.beginEnter (s : State) (t n : Nat) : State :=
  if (s.lane t).txState == 8 && (s.lane t).enter.isNone && !(s.lane t).recal.isSome then
    s.withLane t fun l => { l with enter := some (n, 4), darkDue := l.darkDue && n != 0xB }
  else s

/-- The transmit direction is to enter DARK: at once where it may, by way of ON from HUSH, and otherwise as soon as nothing
is unacknowledged and no recalibration runs (R120, R171). -/
def State.darkStep (s : State) (t : Nat) : State :=
  let l := s.lane t
  if !l.darkDue then s
  else if l.txState == 0xA then
    (if l.leaving then s else (s.withLane t fun l => { l with leaving := true }).emit (.trunk t "LEAVE" [0xA] []))
  else if l.txState == 8 && (s.link t).replay == [] then s.beginEnter t 0xB
  else s

/-- DARK is asked of the transmit direction. -/
def State.askDark (s : State) (t : Nat) : State := (s.withLane t fun l => { l with darkDue := true }).darkStep t

/-- The receive direction goes idle after the last of four sets. -/
def State.rxIdle (s : State) (t n : Nat) : State :=
  let s := if n == 0xB then s.withLane t fun l => { l with darkRx := some (s.mer.raw, s.rd Reg.CLK_TEMP_TJ) } else s
  (s.setRxState t n).followLanes t

/-- HUSH_ENTER (R120). -/
def execHushEnter (t : Fin 2) (sets : List Bytes) (s : State) : Out :=
  onHub (fun s =>
    let (s, good) := s.readSets t sets
    match good.map (·.2) with
    | [] => s
    | b :: _ =>
      let s := s.setArrived t b
      if s.rxState t == 8 && leAt b 8 1 == 0 then s.rxIdle t 0xA else s) s

/-- DARK_ENTER (R120): this end's transmitter follows once nothing is unacknowledged (R171). -/
def execDarkEnter (t : Fin 2) (sets : List Bytes) (s : State) : Out :=
  onHub (fun s =>
    let (s, good) := s.readSets t sets
    match good.map (·.2) with
    | [] => s
    | b :: _ =>
      let s := s.setArrived t b
      if s.rxState t == 8 && leAt b 8 1 == 0 then
        (s.rxIdle t 0xB).askDark t
      else s) s

/-- HUSH_IDLE_EXPIRY (R171): neither end has had anything to send, the far one by its last flits (log entry 29). -/
def execHushIdleExpiry (t : Fin 2) (s : State) : Out :=
  onHub (fun s =>
    if s.rd (Reg.TLK_CTRL_HUSH_IDLE t) != 0 && s.lstate t == 2 && !s.somethingToSend t && (s.link t).farIdle then
      s.beginEnter t 0xA else s) s

/-- The stored phases of a direction's stay in DARK are valid (R121). -/
def State.phasesValid (s : State) (t : Nat) (tx : Bool) : Bool :=
  match (if tx then (s.lane t).darkTx else (s.lane t).darkRx) with
  | none => false
  | some (r, tj) =>
    decide (s.mer.raw < r + 600 * rawSecond) &&
      decide ((toSigned 8 (s.rd Reg.CLK_TEMP_TJ) - toSigned 8 tj).natAbs ≤ 15)

/-- The transmit or the receive direction is in ON again (R120, R121); a stay in DARK without valid phases ends in a full
training from CLOCK_LOCK. -/
def State.laneStateLeft (s : State) (t : Nat) (tx : Bool) : State :=
  let st := if tx then (s.lane t).txState else s.rxState t
  if st != 0xA && st != 0xB then s
  else if st == 0xB && !s.phasesValid t tx then
    ((s.dropSteering t).linkDown t 1).toClockLock t
  else
    let s := if tx then s.withLane t fun l => { l with txState := 8, leaving := false } else s.setRxState t 8
    let s := if tx then s.merAwake t else s
    ((s.clockSelect).followLanes t).darkStep t

/-! Lane ordered sets sent (R110 to R112) -/

/-- The lane whose far transmitter this receiver tunes in ON (R122, R123, R130): the one under recalibration, the FAILED one
being retrained, or the idle spare. -/
def State.tunedLane (s : State) (t : Nat) : Option Nat :=
  let l := s.lane t
  match l.recal with
  | some r => if r.step == 4 then some r.home else none
  | none => if l.probe.isSome then l.probe
    else if s.rxState t == 8 && s.rd (Reg.TRL_MAP_SPARE_STATE t) == 0 then s.spareLane t
    else none

/-- A coefficient request: what the receiver asks of a tap is a free value (R111). -/
def State.freeRequest (s : State) : Nat × State :=
  let (r, s) := s.free 8
  (r % 3 + 4 * (r / 3 % 3) + 16 * (r / 9 % 3) + 64 * (r / 27 % 3), s)

/-- The body of the set that is due, with its type, and the machine after its steps.  In HELD no set is sent, so a far end sees
no state 0xD from this one (DESIGN CHOICE, log entry 67). -/
def State.nextSet (s : State) (t : Nat) : Option (Nat × Bytes × State) :=
  let l := s.lane t
  let dist := byte (s.rd (Reg.TRL_CLK_DIST_TX t))
  if 1 ≤ l.txState && l.txState ≤ 4 then
    some (1, [byte (b2n s.isRoot), byte (1 + 2 * s.widthMax t), 0x48, 0x28, dist, byte (s.rxState t)],
      if s.rxState t == 4 && l.goodA != 0 then s.withLane t fun l => { l with sentA := l.sentA + 1 } else s)
  else if l.txState == 5 then
    let healthy := s.healthy t
    let lane := healthy.getD (l.seq % healthy.length) 0
    let (req, s) := s.freeRequest
    some (2, [byte lane, byte req, byte l.answer, byte (b2n (bit l.eqDone lane)), byte l.precodeRx], s)
  else if 6 ≤ l.txState && l.txState ≤ 9 then
    match l.enter with
    | some (n, k) =>
      let s := s.withLane t fun l =>
        if k ≤ 1 then { l with enter := none, txState := n } else { l with enter := some (n, k - 1) }
      let s := if k ≤ 1 && n == 0xB then
          s.withLane t fun l => { l with darkTx := some (s.mer.raw, s.rd Reg.CLK_TEMP_TJ) }
        else s
      some (if n == 0xA then 5 else 6, [byte (k - 1)], if k ≤ 1 then s.followLanes t else s)
    | none =>
      match l.steer with
      | (op, j) :: rest =>
        let (x, p) := steerStep l op j
        some (4, [byte op, byte j, byte p, dist], s.withLane t fun _ => { x with steer := rest })
      | [] =>
        let (op, j) := l.back.headD (0, 0)
        let s := s.withLane t fun l => { l with back := l.back.drop 1 }
        let (lane, req, s) := match s.tunedLane t with
          | some p => let (r, s) := s.freeRequest; (p, r, s)
          | none => (0, 0, s)
        some (3, [dist, byte (s.rd (Reg.TRL_STAT_RX_WIDTH t)), byte (s.rd (Reg.TRL_HEALTH_FAILED t)), byte op, byte j,
          byte lane, byte req, byte l.answer], s)
  else none

/-- LOGICAL of a set on physical lane p: the lane as the set finds it, and none before DESKEW (R110). -/
def setLogical (l : Lanes) (p : Nat) : Nat := if 6 ≤ l.txState then laneLogical l p else 15

/-- What a lane carries after a set where that is no data (R113, R122, R130): PRBS31, on the spare scrambled, on a lane without a
logical lane; nothing is recorded for a lane whose symbols are recorded themselves. -/
def State.fillLanes (s : State) (t : Nat) : State :=
  let l := s.lane t
  s.emits (((List.range 5).filter fun p => l.txState ≤ 5 || laneLogical l p == 15).map fun p => .trunk t "PRBS31" [p] [])

/-- LANE_OS_INTERVAL (R112): one set leaves on all five lanes, and the lanes' coding starts afresh (R99 to R101). -/
def execLaneOsInterval (t : Fin 2) (s : State) : Out :=
  onHub (fun s =>
    match s.nextSet t with
    | none => s
    | some (type, body, s) =>
      let l := s.lane t
      let s := s.emits ((List.range 5).map fun p => .trunk t "LANE_SET" [p]
        (laneSetWire ([0x96, 0x69, 0x96, 0x69, byte type, byte p, byte (setLogical l p), byte l.seq] ++ body)))
      let s := (s.restartCoding t).fillLanes t
      let s := if l.txState == 8 then s.merLaunch t l.seq s.mer.raw else s
      s.withLane t fun l => { l with seq := (l.seq + 1) % 256, sinceHop := l.sinceHop + 1 }) s

/-! Clock and training events -/

/-- RX_CLOCK_VALID (R103, R113). -/
def execRxClockValid (t : Fin 2) (s : State) : Out :=
  onHub (fun s =>
    if !s.flag (Reg.TLK_CTRL_ENABLED t) then s
    else
      let s := s.put (Reg.TRL_STAT_CLK_VALID t) true
      if s.rxState t == 1 && !(s.lane t).backoff then s.toClockLock t else s) s

/-- RX_CLOCK_LOST (R44, R103).  A trunk in TEST stays there, since the state table gives TEST one exit only (DESIGN CHOICE, log
entry 67). -/
def execRxClockLost (t : Fin 2) (s : State) : Out :=
  onHub (fun s =>
    if !s.flag (Reg.TRL_STAT_CLK_VALID t) then s
    else
      let s := (s.put (Reg.TRL_STAT_CLK_VALID t) false).notice 0x0A08 [byte t]
      let st := s.rxState t
      let s := if st == 0 || st == 0xC || st == 0xD then s else s.toDetect t
      s.clockSelect) s

/-- CLOCK_SOURCE_REVERT (R105): the better candidate has held for CLK_REVERT_S seconds. -/
def execClockSourceRevert (t : Fin 2) (s : State) : Out :=
  onHub (fun s =>
    match s.clk.candidate, s.clockOffer t with
    | some k, some d => if k == t.val then s.setSource (k + 1) (d + 1) else s
    | _, _ => s) s

/-- POISON_HOLD_END (R106). -/
def execPoisonHoldEnd (s : State) : Out :=
  onHub (fun s => if s.flag (Reg.TRL_CLK_POISON 0) then (s.wrBoth Reg.TRL_CLK_POISON 0).clockSelect else s) s

/-- CLOCK_LOCK_ACHIEVED (R113): every lane is tried again. -/
def execClockLockAchieved (t : Fin 2) (s : State) : Out :=
  onHub (fun s =>
    if s.rxState t != 2 then s
    else (((s.wr (Reg.TRL_HEALTH_FAILED t) 0).wr (Reg.TRL_HEALTH_MARGINAL t) 0).setBoth t 3)) s

/-- BIT_LOCK_ACHIEVED (R113, R117): the lanes that have locked and given good sets, and the pairs found inverted.  A lane
that has not locked takes no part in what follows. -/
def execBitLockAchieved (t : Fin 2) (locked inverted : BitVec 5) (s : State) : Out :=
  onHub (fun s =>
    if s.rxState t != 3 || locked == 0 then s
    else
      let s := (s.wr (Reg.TRL_STAT_POLARITY t) inverted.toNat).withLane t fun l => { l with locked := locked.toNat, goodA := 0 }
      let s := ((List.range 5).filter (bit locked.toNat)).foldl (fun (s : State) i => s.adapted t (s.pairLane t i)) s
      let dark := ((List.range 5).filter fun i => !locked.toNat.testBit i).map (s.pairLane t)
      (s.failAll t (dark.foldl setBit 0) 4).setBoth t 4) s

/-- A FAILED lane that has been retrained alone ends its CONFIRM window (R130): below 256 corrected bytes it is healthy again,
LANE_RESTORED is raised, and a wider width may have become possible. -/
def State.probeEnd (s : State) (t n : Nat) : State :=
  match (s.lane t).probe with
  | none => s
  | some p =>
    let s := (s.withLane t fun l => { l with probe := none }).wr (Reg.TRL_WIN_CORRECTED t p) (min 0xFFFF n)
    if 256 ≤ n || !s.laneFailed t p then s
    else
      let s := ((s.adapted t p).markFailed t p false).notice 0x0A04 [byte t, byte p]
      let s := if s.rd (Reg.TRL_MAP_SPARE_STATE t) == 3 && (s.lane t).recal.isNone then s.settleSpare t else s
      s.withLane t fun l => { l with upgrade := true }

/-- A widening that has become possible is asked for, no sooner than 10 s after the last width change (R130). -/
def State.upgradeStep (s : State) (t : Nat) : State :=
  if !(s.lane t).upgrade || s.rxState t != 8 || (s.lane t).retrainRx.isSome then s
  else
    let rested : Bool := match (s.lane t).widthAt with
      | none => true
      | some r => decide (r + 10 * rawSecond ≤ s.mer.raw)
    match s.bestWidth t (s.healthy t).length with
    | some k =>
      if k ≤ s.rd (Reg.TRL_STAT_RX_WIDTH t) then s.withLane t fun l => { l with upgrade := false }
      else if s.flag (Reg.TRL_CTRL_UPGRADE_EN t) && rested then
        (s.withLane t fun l => { l with upgrade := false }).askRetrain t k
      else s
    | none => s

/-- CONFIRM_WINDOW_END (R113, R130): the corrected bytes of each physical lane in the window. -/
def execConfirmWindowEnd (t : Fin 2) (counts : List Nat) (s : State) : Out :=
  onHub (fun s =>
    if s.rxState t == 8 then s.probeEnd t (counts.getD ((s.lane t).probe.getD 0) 0)
    else if s.rxState t != 7 then s
    else
      let s := (List.range 5).foldl (fun (s : State) p => s.wr (Reg.TRL_WIN_CORRECTED t p) (min 0xFFFF (counts.getD p 0))) s
      let bad := (s.steering t).filter fun p => p < 5 && 256 ≤ counts.getD p 0
      if bad == [] then s.toOn t else s.redeskew t (bad.foldl setBit 0) 4) s

/-- TRAINING_STATE_TIMEOUT (R113): `bad` names the lanes that DESKEW found beyond range, or CONFIRM found wanting. -/
def execTrainingStateTimeout (t : Fin 2) (bad : BitVec 5) (s : State) : Out :=
  onHub (fun s =>
    match s.rxState t with
    | 2 | 3 | 4 => s.toDetect t
    | 5 =>
      let l := s.lane t
      let late := (s.healthy t).filter fun p => !(bit l.eqDone p && bit l.farEqDone p)
      (s.failAll t (late.foldl setBit 0) 4).toDeskew t
    | 6 =>
      let s := s.failAll t bad.toNat 5
      if (s.lane t).deskewRetried then s.toDetect t
      else match s.narrower t with
        | some k => (s.applyWidth t k).withLane t fun l => { l with deskewRetried := true }
        | none => s.toDetect t
    | 7 => s.redeskew t bad.toNat 4
    | n => if n == 9 || (s.lane t).txState == 9 then ((s.dropSteering t).setBoth t 3).followLanes t else s) s

/-- TRAIN_FAIL_BACKOFF_END (R114): the next attempt begins where the clock is valid. -/
def execTrainFailBackoffEnd (t : Fin 2) (s : State) : Out :=
  onHub (fun s =>
    if !(s.lane t).backoff then s
    else
      let s := s.withLane t fun l => { l with backoff := false }
      if s.rxState t == 1 && s.flag (Reg.TRL_STAT_CLK_VALID t) then s.toClockLock t else s) s

/-! Recalibration, failure and width events -/

/-- RECAL_PERIOD_DUE (R123 to R125). -/
def execRecalPeriodDue (t : Fin 2) (s : State) : Out :=
  onHub (fun s =>
    if s.rd (Reg.TRL_CTRL_RECAL_PERIOD t) == 0 && !(s.lane t).early && !(s.lane t).roundDue then s else s.startRound t) s

/-- RECAL_ADAPT_DONE (R123): new settings where adaptation has converged, the saved ones otherwise; RETURN_REQ either way. -/
def execRecalAdaptDone (t : Fin 2) (converged : Bool) (s : State) : Out :=
  onHub (fun s =>
    match (s.lane t).recal with
    | some r =>
      if r.step != 4 then s
      else
        let s := if converged then (s.adapted t r.home).measured t r.home else s.restoreLane t r.home r.saved
        s.withLane t fun l => { l with recal := some { r with step := 5 }, back := l.back ++ [(3, r.lane)] }
    | none => s) s

/-- LANE_LOCK_LOST (R125). -/
def execLaneLockLost (t : Fin 2) (p : Fin 5) (s : State) : Out :=
  onHub (fun s => if s.rxState t == 8 || s.rxState t == 9 then s.failLane t p 1 else s) s

/-- LANE_ERROR_WINDOW_END (R125): LANE_MARGINAL once per minute at most. -/
def execLaneErrorWindowEnd (t : Fin 2) (s : State) : Out :=
  onHub (fun s =>
    if s.rxState t != 8 then s
    else
      let win := (s.lane t).window
      let s := s.withLane t fun l => { l with window := [] }
      (List.range 5).foldl (fun (s : State) p =>
        let n := byVc win p
        let s := (s.wr (Reg.TRL_WIN_CORRECTED t p) (min 0xFFFF n)).wr (Reg.TRL_HEALTH_MARGINAL t)
          (putBit (s.rd (Reg.TRL_HEALTH_MARGINAL t)) p (decide (256 < n)))
        let s :=
          if n ≤ 256 then s
          else
            let last := Table.get (fun _ => none) ((s.lane t).marginalAt.map fun e => (e.1, some e.2)) p
            let due : Bool := match last with
              | none => true
              | some r => decide (r + 60 * rawSecond ≤ s.mer.raw)
            let s := s.withLane t fun l => { l with early := true }
            if due then
              (s.withLane t fun l => { l with marginalAt := Table.insert p s.mer.raw l.marginalAt }).notice 0x0A09
                ([byte t, byte p] ++ le 2 (min 0xFFFF n))
            else s
        if 2048 < n then s.failLane t p 2 else s) s) s

/-- FAST_RETRAIN_COMPLETE (R129): the receive or the transmit direction is in ON at its new width. -/
def execFastRetrainComplete (t : Fin 2) (tx : Bool) (s : State) : Out :=
  onHub (fun s =>
    if tx then
      match (s.lane t).retrainTx with
      | some w =>
        if (s.lane t).txState != 9 then s
        else
          let old := s.rd (Reg.TRL_STAT_TX_WIDTH t)
          let s := (s.withLane t fun l => { l with retrainTx := none, txState := 8 }).applyTxWidth t w
          (((s.widthChanged t 1 old w).followLanes t).markNarrow t).allotments
      | none => s
    else if s.rxState t != 9 then s
    else
      let old := s.rd (Reg.TRL_STAT_RX_WIDTH t)
      let w := (s.lane t).retrainRx.getD old
      match [2, 1, 0].find? (fun k => k ≤ w && k ≤ s.widthMax t && k ≤ (s.lane t).farWidth && 2 ^ k ≤ (s.healthy t).length) with
      | none => s.toDetect t
      | some w =>
        let s := (s.applyWidth t w).withLane t fun l => { l with retrainRx := none }
        (((((s.setRxState t 8).widthChanged t 0 old w).followLanes t).setHold t false).markNarrow t).allotments) s

/-- FAILED_LANE_CLEAN_PERIOD (R130): 10 s of a FAILED lane have passed.  Without a checker error, `clean`, it is retrained alone
through ALIGN bytes 13 to 15; the CONFIRM window that follows decides. -/
def execFailedLaneCleanPeriod (t : Fin 2) (p : Fin 5) (clean : Bool) (s : State) : Out :=
  onHub (fun s =>
    if !clean || !s.laneFailed t p || s.rxState t != 8 || (s.lane t).probe.isSome then s
    else s.withLane t fun l => { l with probe := some p.val }) s

end Sys2Proof.Machine
end

