-- ==== Sys2Proof/Machine/Trunk.lean ====
section
/-!
DEFINITION. The trunk commands: enabling and disabling a trunk (R173 to R175), patterns, loops and error injection (R134 to
R137), and what modes and SERVICE ask of a trunk (R542, R545, R548).
-/

namespace Sys2Proof.Machine

/-! Enabling and disabling (R173 to R175) -/

/-- Both directions are in DARK without stored phases, so that they train on leaving it (R121, R173). -/
def State.emptyDark (s : State) (t : Nat) : State :=
  (s.withLane t fun l => { l with darkRx := none, darkTx := none }).setBoth t 0xB

/-- The trunk is enabled: its lanes go to DETECT, or to DARK in IDLE. -/
def State.trunkStart (s : State) (t : Nat) : State :=
  let s := (s.put (Reg.TLK_CTRL_ENABLED t) true).withLink t fun l => { l with reached := false, served := false, initFails := 0 }
  if s.mode == 2 then s.emptyDark t else s.setBoth t 1

/-- TRUNK_ENABLE. -/
def execTrunkEnable (r : Request) (s : State) : Out :=
  runCommand 0x0406 (takes 4 fun p s =>
    let t := leAt p 0 1
    let w := leAt p 1 1
    if 1 < t || (2 < w && w != 0xFF) then .fail s Status.badParam
    else
      let s := if w == 0xFF then s else s.wr (Reg.TRL_CTRL_WIDTH_MAX t) w
      let st := s.rxState t
      .ok (if !s.flag (Reg.TLK_CTRL_ENABLED t) || st == 0 || st == 0xD then s.trunkStart t else s)) r s

/-- The trunk is disabled: its lanes are off, and its link goes DOWN without a mark in SYS_UNITS_OUT. -/
def State.trunkDisable (s : State) (t : Nat) : State :=
  let s := (s.put (Reg.TLK_CTRL_ENABLED t) false).withLink t fun l => { l with reached := false }
  let s := ((s.dropSteering t).withLane t fun l => { l with backoff := false }).setBoth t 0
  let s := s.put (Reg.TRL_STAT_CLK_VALID t) false
  let s := (s.linkDown t 2).clockSelect
  ((s.markDown t false).markNarrow t)

/-- TRUNK_DISABLE: the reply first (R174). -/
def execTrunkDisable (r : Request) (s : State) : Out :=
  runCommand 0x0407 (fun r s => takes 4 (fun p s =>
    if 1 < leAt p 0 1 then .fail s Status.badParam else .ok (s.schedule r.via (.trunkDisable (leAt p 0 1)))) r s) r s

/-- TRUNK_DISABLE_TAKE_EFFECT (R174). -/
def execTrunkDisableTakeEffect (s : State) : Out :=
  onHub (fun s => match s.takeDeferred (fun d => match d with
      | .trunkDisable _ => true
      | _ => false) with
    | some (.trunkDisable t, s) => s.trunkDisable t
    | _ => s) s

/-- LINK_INIT_TIMEOUT (R167, R168): the fourth in a row takes both directions to DETECT. -/
def execLinkInitTimeout (t : Fin 2) (s : State) : Out :=
  onHub (fun s =>
    if s.lstate t != 1 then s
    else
      let s := s.withLink t fun l => { l with initFails := l.initFails + 1 }
      if 4 ≤ (s.link t).initFails then
        ((s.withLink t fun l => { l with initFails := 0 }).linkDown t 3).toDetect t
      else s.linkReset t 6) s

/-! Patterns, loops and injection (R134 to R137) -/

/-- A generator drives a lane, or a loop is set. -/
def State.inTest (s : State) (t : Nat) : Bool :=
  s.rd (Reg.TRL_LOOP_LOOP t) != 0 || (List.range 5).any fun p => s.flag (Reg.TRL_PAT_GEN_EN t p)

/-- A generator or a loop puts the trunk in TEST; leaving TEST starts a full training (R137). -/
def State.settleTest (s : State) (t : Nat) : State :=
  if s.inTest t then
    if s.rxState t == 0xC then s else (((s.dropSteering t).setBoth t 0xC).followLanes t)
  else if s.rxState t != 0xC then s
  else if s.flag (Reg.TLK_CTRL_ENABLED t) then s.toDetect t
  else s.setBoth t 0

/-- The place at which a generator begins its pattern, which the manual leaves open (log entry 66): a PRBS never begins in a run
of zeros, so its low bit is set. -/
def State.startGenerator (s : State) (t p : Nat) : State :=
  let (h, s) := s.free 31
  s.withLane t fun l => { l with
    places := Table.set (fun _ => {}) l.places p { hist := h / 2 * 2 + 1, pos := h }
    pre := Table.set (fun _ => 0) l.pre p 0 }

/-- A checker that starts clears its counts and hunts (R134). -/
def State.startChecker (s : State) (t p : Nat) : State :=
  let s := (s.wr (Reg.TRL_CHK_RELOCK t p) 0).wr (Reg.TRL_CHKERR_ERRORS t p) 0
  (s.put (Reg.TRL_CHK_LOCKED t p) false).withLane t fun l => { l with checkers := Table.set (fun _ => {}) l.checkers p {} }

/-- TRL_PATp of one lane. -/
def State.setPattern (s : State) (t p pat flags : Nat) : State :=
  let generates : Bool := bit flags 0 && !s.flag (Reg.TRL_PAT_GEN_EN t p)
  let checks : Bool := bit flags 1 && !s.flag (Reg.TRL_PAT_CHK_EN t p)
  let s := (s.wr (Reg.TRL_PAT_PATTERN t p) pat).put (Reg.TRL_PAT_GEN_EN t p) (bit flags 0)
  let s := (s.put (Reg.TRL_PAT_CHK_EN t p) (bit flags 1)).put (Reg.TRL_PAT_PRECODE t p) (bit flags 2)
  let s := s.put (Reg.TRL_PAT_INVERT t p) (bit flags 3)
  let s := if generates then s.startGenerator t p else s
  if checks then s.startChecker t p
  else if bit flags 1 then s else s.put (Reg.TRL_CHK_LOCKED t p) false

/-- The trunk is under test in SERVICE. -/
def State.trunkServiced (s : State) (t : Nat) : Bool := s.mode == 5 && s.trunkTest t

/-- The status for a TRUNK above 1: outside SERVICE no trunk is under test, so the check of the mode comes first (R50, R137). -/
def State.testRange (s : State) : Nat := if s.mode == 5 then Status.badParam else Status.wrongMode

/-- PATTERN_CONFIG. -/
def execPatternConfig (r : Request) (s : State) : Out :=
  runCommand 0x0902 (takes 12 fun p s =>
    let t := leAt p 0 1
    let lanes := leAt p 1 1
    let pat := leAt p 2 1
    let flags := leAt p 3 1
    let named := (List.range 5).filter (bit lanes)
    let checkerOnly : Bool := !bit flags 0 && named != [] && named.all fun k =>
      s.laneFailed t k || (s.spareLane t == some k && s.rd (Reg.TRL_MAP_SPARE_STATE t) == 0)
    if 1 < t then .fail s (s.testRange)
    else if !s.trunkServiced t && !checkerOnly then .fail s Status.wrongMode
    else if 31 < lanes || 5 < pat then .fail s Status.badParam
    else
      let s := if pat == 5 then (s.wr (Reg.TRL_USERLO_PAT_LO t) (leAt p 4 4)).wr (Reg.TRL_USERHI_PAT_HI t) (leAt p 8 4) else s
      let s := named.foldl (fun (s : State) k => s.setPattern t k pat flags) s
      .ok (s.settleTest t)) r s

/-- LOOPBACK_SET.  A near-end loop brings the trunk's own clock back on the clock pair (R136). -/
def execLoopbackSet (r : Request) (s : State) : Out :=
  runCommand 0x0903 (takes 2 fun p s =>
    let t := leAt p 0 1
    if 1 < t then .fail s Status.badParam
    else if !s.trunkServiced t then .fail s Status.wrongMode
    else if 3 < leAt p 1 1 then .fail s Status.badParam
    else
      let loop := leAt p 1 1
      let s := (s.wr (Reg.TRL_LOOP_LOOP t) loop).settleTest t
      .ok (if loop == 1 || loop == 2 then s.put (Reg.TRL_STAT_CLK_VALID t) true else s)) r s

/-- Errors are to be injected into the next `count` symbols that leave on each of the named lanes (R135). -/
def State.injectNow (s : State) (t lanes form count : Nat) : State :=
  ((List.range 5).filter (bit lanes)).foldl (fun (s : State) p => s.withLane t fun l => { l with
    hits := Table.set (fun _ => (0, false)) l.hits p (count, form == 1) }) s

/-- ERROR_INJECT. -/
def execErrorInject (r : Request) (s : State) : Out :=
  runCommand 0x0904 (takes 9 fun p s =>
    let t := leAt p 0 1
    let lanes := leAt p 1 1
    let kind := leAt p 2 1
    let form := leAt p 3 1
    let count := leAt p 4 1
    let interval := leAt p 5 4
    if 1 < t then .fail s Status.badParam
    else if !s.trunkServiced t then .fail s Status.wrongMode
    else if 31 < lanes || 3 < kind || 1 < form || count == 0 || interval < 64 then
      .fail s Status.badParam
    else
      let rate (i : Option Injection) (s : State) : State := s.withLane t fun l => { l with inject := i }
      .ok (if kind == 0 then s.injectNow t lanes form 1
        else if kind == 1 then s.injectNow t lanes form count
        else if kind == 2 then rate (some ⟨lanes, kind, form, count, interval⟩) s
        else rate none s)) r s

/-- ERROR_INJECT_INTERVAL (R135). -/
def execErrorInjectInterval (t : Fin 2) (s : State) : Out :=
  onHub (fun s => match (s.lane t).inject with
    | some i => s.injectNow t i.lanes i.form 1
    | none => s) s

/-! Modes and SERVICE -/

/-- The trunk is not ready for IDLE or STANDBY (R542): its link is in RETRAIN, RESET or INIT, or a direction is training. -/
def State.trunkBusy (s : State) (t : Nat) : Bool :=
  let training (n : Nat) : Bool := (2 ≤ n && n ≤ 7) || n == 9
  s.lstate t == 3 || s.lstate t == 4 || s.lstate t == 1 || training (s.rxState t) || training (s.lane t).txState

/-- The trunk enters DARK for IDLE or STANDBY (R120, R171, R545); one that is not up has nothing to tell the far end, and a HELD
one waits for its own reset or enabling (R5). -/
def State.trunkEnterDark (s : State) (t : Nat) : State :=
  let tx := (s.lane t).txState
  if tx == 8 || tx == 0xA then s.askDark t
  else if tx == 0 || tx == 0xB || tx == 0xD then s
  else (s.dropSteering t).emptyDark t

/-- The trunk leaves DARK at the end of IDLE; one without valid stored phases trains (R121, R545). -/
def State.trunkLeaveDark (s : State) (t : Nat) : State :=
  let s := s.withLane t fun l => { l with
    darkDue := false, enter := l.enter.filter fun e => e.1 != 0xB }
  if (s.lane t).txState != 0xB then s
  else if s.phasesValid t true && (s.rxState t != 0xB || s.phasesValid t false) then
    (s.withLane t fun l => { l with leaving := true }).emit (.trunk t "LEAVE" [0xB] [])
  else
    let s := (s.dropSteering t).linkDown t 1
    if s.flag (Reg.TRL_STAT_CLK_VALID t) then s.toClockLock t else s.setBoth t 1

/-- The link is in LOWPOWER. -/
def State.trunkLow (s : State) (t : Nat) : Bool := s.lstate t == 5

/-- A trunk enters test: it goes DOWN and trains again under test (R548).  A HELD one stays HELD (R5, R113). -/
def State.trunkTestEnter (s : State) (t : Nat) : State :=
  if s.flag (Reg.TLK_CTRL_ENABLED t) && s.rxState t != 0xD then s.toDetect t else s

/-- A trunk leaves test: generators, checkers, loops and injection stop, and it trains from DETECT (R137, R548). -/
def State.trunkTestLeave (s : State) (t : Nat) : State :=
  let s := (List.range 5).foldl (fun (s : State) p =>
    (s.put (Reg.TRL_PAT_GEN_EN t p) false).put (Reg.TRL_PAT_CHK_EN t p) false) s
  let s := (s.wr (Reg.TRL_LOOP_LOOP t) 0).withLane t fun l => { l with inject := none }
  if s.flag (Reg.TLK_CTRL_ENABLED t) then s.toDetect t
  else if s.rxState t == 0xC then s.setBoth t 0 else s

end Sys2Proof.Machine
end

