-- ==== Sys2Proof/Machine/Display.lean ====
section
/-!
DEFINITION. Remote scan-out and the DisplayPort outputs: fetch and line buffer, composition, commit and latch, frame
lock, proof rectangles, training and AUX (R318 to R356).
-/

namespace Sys2Proof.Machine

/-- Pipe p. -/
def State.pipe (s : State) (p : Nat) : Pipe := Table.get (fun _ => {}) s.dsp.pipes p

/-- The machine with it changed. -/
def State.withPipe (s : State) (p : Nat) (f : Pipe → Pipe) : State :=
  { s with dsp := { s.dsp with pipes := Table.set (fun _ => {}) s.dsp.pipes p (f (s.pipe p)) } }

/-- Output k. -/
def State.dpOut (s : State) (k : Nat) : DpOut := Table.get (fun _ => {}) s.dsp.outs k

/-- The machine with it changed. -/
def State.withDp (s : State) (k : Nat) (f : DpOut → DpOut) : State :=
  { s with dsp := { s.dsp with outs := Table.set (fun _ => {}) s.dsp.outs k (f (s.dpOut k)) } }

/-- Event counter k of pipe p (R606). -/
def pipeCounter (p k : Nat) : Nat := 0x150 + 8 * p + k

/-- The pipe is in service. -/
def State.pipeIn (s : State) (p : Nat) : Bool := !s.unitOut (0x30 + p)

/-- A flag of DSP_STAT becomes set: with its enable, the pipe's vector is sent in the station role (R350). -/
def State.pipeFlag (s : State) (p : Nat) (f : Fld) : State :=
  if s.flag f then s
  else
    let s := s.put f true
    if !s.isRoot && bit (s.rd (Reg.DSP_IRQ_EN p)) f.lo then s.sendMsi (6 + p) else s

/-! Raster (R322 to R324) -/

/-- The active timing. -/
def State.hActive (s : State) (p : Nat) : Nat := s.rdAct (Reg.DSP_H0_HACTIVE p)
def State.hTotal (s : State) (p : Nat) : Nat := s.rdAct (Reg.DSP_H0_HTOTAL p)
def State.vActive (s : State) (p : Nat) : Nat := s.rdAct (Reg.DSP_V0_VACTIVE p)
def State.vTotal (s : State) (p : Nat) : Nat := s.rdAct (Reg.DSP_V0_VTOTAL p)
def State.pclk (s : State) (p : Nat) : Nat := s.rdAct (Reg.DSP_PCLK_KHZ p)

/-- In vertical blanking, the line being scanned follows from the time since the latch edge. -/
def State.blankLine (s : State) (p : Nat) : Nat :=
  let x := s.pipe p
  let lines := (s.mer.raw - x.edgeRaw) * s.pclk p / (orOne (s.hTotal p) * rawOfNs 1000000)
  let last := ((s.vTotal p : Int) + x.added - 1).toNat
  max (s.vActive p) (min last (s.vActive p + lines))

/-- DSP_LINE (R322). -/
def State.pipeLine (s : State) (p : Nat) : Nat :=
  if s.flag (Reg.DSP_STAT_VBLANK p) then s.blankLine p else s.rd (Reg.DSP_LINE_LINE p)

/-! The line buffer (R325 to R327) -/

/-- The overlay's width and lines in force. -/
def State.ovlOn (s : State) (p : Nat) : Bool := s.rdAct (Reg.DSP_CTRL_OVL_EN p) != 0
def State.ovlW (s : State) (p : Nat) : Nat := if s.ovlOn p then s.rdAct (Reg.DSP_OVL_SIZE_W p) else 0

/-- CAPACITY. -/
def State.capacity (s : State) (p : Nat) : Nat := min 32 (122880 / orOne (s.hActive p + s.ovlW p))

/-- Line n lies on the overlay. -/
def State.ovlLine (s : State) (p n : Nat) : Bool :=
  let y := s.rdAct (Reg.DSP_OVL_POS_Y p)
  s.ovlOn p && y ≤ n && n < y + s.rdAct (Reg.DSP_OVL_SIZE_H p)

/-- FILL: complete lines that scan-out has not begun. -/
def State.fill (s : State) (p : Nat) : Nat := ((s.pipe p).lines.filter fun l => l.left == []).length

/-- LOW as it acts. -/
def State.lowMark (s : State) (p : Nat) : Nat := min (orOne (s.rd (Reg.DSP_WM_LOW p))) (s.capacity p - 1)

/-- The comparison runs (R327). -/
def State.lowRuns (s : State) (p : Nat) : Bool :=
  let total := ((s.vTotal p : Int) + (s.pipe p).added).toNat
  (s.pipe p).running && (!s.flag (Reg.DSP_STAT_VBLANK p) || total ≤ s.blankLine p + s.rd (Reg.DSP_WM_GUARD p))

/-- A pipe is no longer held promoted: URG_LONG may be raised again (R275). -/
def State.endLong (s : State) (p : Nat) : State := s.withSw fun w => { w with urgLong := w.urgLong.filter (· != p) }

/-- The below-LOW state ends. -/
def State.clearLow (s : State) (p : Nat) : State := (s.put (Reg.DSP_STAT_LOW p) false).endLong p

/-- FILL, FILLMIN and the below-LOW state follow. -/
def State.lowCheck (s : State) (p : Nat) : State :=
  let f := s.fill p
  let s := s.wr (Reg.DSP_STAT_FILL p) f
  let s := if s.flag Reg.SCH_CTRL_URG_EN then s else s.endLong p
  if !s.lowRuns p then s
  else
    let s := if f < s.rd (Reg.DSP_FILLMIN_MIN p) then s.wr (Reg.DSP_FILLMIN_MIN p) f else s
    if !s.flag (Reg.DSP_STAT_LOW p) && f < s.lowMark p then (s.put (Reg.DSP_STAT_LOW p) true).count (pipeCounter p 7)
    else if s.flag (Reg.DSP_STAT_LOW p) && s.lowMark p < f then s.clearLow p
    else s

/-- One fetch read of 256 bytes (R319). -/
def State.pipeRead (s : State) (p a : Nat) (d : FetchDest) : State :=
  ((s.withPipe p fun x => { x with reads := x.reads ++ [(a, d)] }).hostRead p a 256).count (pipeCounter p 4)

/-- A plane's address from its two registers. -/
def State.planeAddr (s : State) (lo hi : Fld) : Nat := s.rdAct lo * 256 + s.rdAct hi * 2 ^ 32

/-- The reads of line n: address and destination. -/
def State.lineReads (s : State) (p n : Nat) : List (Nat × FetchDest) :=
  let base := s.planeAddr (Reg.DSP_BASE_LO_ADDR_LO p) (Reg.DSP_BASE_HI_ADDR_HI p) + n * s.rdAct (Reg.DSP_BASE_STRIDE_STRIDE p) * 256
  let ovl := s.planeAddr (Reg.DSP_OVL_LO_ADDR_LO p) (Reg.DSP_OVL_HI_ADDR_HI p) +
    (n - s.rdAct (Reg.DSP_OVL_POS_Y p)) * s.rdAct (Reg.DSP_OVL_STRIDE_STRIDE p) * 256
  ((List.range (ceilDiv (s.hActive p * 4) 256)).map fun k => (base + 256 * k, FetchDest.base n k)) ++
    (if s.ovlLine p n then (List.range (ceilDiv (s.ovlW p * 4) 256)).map fun k => (ovl + 256 * k, FetchDest.overlay n k) else [])

/-- The requester has tags free. -/
def State.pipeTags (s : State) (p : Nat) : Bool := s.isRoot || (s.pipe p).reads.length < s.tagLimit p

/-- Lines are requested, lowest first, while fewer than CAPACITY are held or in flight and tags are free (R326). -/
def State.pipeFetch (p : Nat) : Nat → State → State
  | 0, s => s
  | k + 1, s =>
    let x := s.pipe p
    let n := max x.ask x.next
    if !x.running || s.vActive p ≤ n || s.capacity p ≤ x.lines.length || !s.pipeTags p then s
    else
      let rs := s.lineReads p n
      let s := s.withPipe p fun x => { x with ask := n + 1, lines := x.lines ++ [{ n := n, left := rs.map (·.2) }] }
      State.pipeFetch p k (rs.foldl (fun (s : State) (r : Nat × FetchDest) => s.pipeRead p r.1 r.2) s)

/-- What a read brings is stored; a read that failed leaves its line or image incomplete (R329). -/
def lineStore (l : PipeLine) (d : FetchDest) (b : Bytes) : PipeLine :=
  match d with
  | .base n k => if n == l.n then { l with base := Table.set (fun _ => []) l.base k b, left := l.left.filter (· != d) } else l
  | .overlay n k =>
    if n == l.n then { l with overlay := Table.set (fun _ => []) l.overlay k b, left := l.left.filter (· != d) } else l
  | _ => l

/-- A completion for the read at address a: data, or none where the read failed. -/
def State.pipeData (s : State) (p a : Nat) (b : Option Bytes) : State :=
  match (s.pipe p).reads.find? fun r => r.1 == a with
  | none => s
  | some r =>
    let s := s.withPipe p fun x => { x with reads := x.reads.erase r }
    match r.2, b with
    | _, none => s
    | .passed, some _ => s.count (pipeCounter p 5)
    | .cursor k, some b =>
      s.withPipe p fun x =>
        let image := Table.set (fun _ => []) (x.curImage.getD []) k (padTo 256 b)
        { x with curImage := some image, curLeft := x.curLeft.filter (· != k) }
    | d, some b => s.withPipe p fun x => { x with lines := x.lines.map fun l => lineStore l d (padTo 256 b) }

/-- A completion arrives, or a read fails: further lines are requested and the below-LOW state follows. -/
def State.pipeArrived (s : State) (p a : Nat) (b : Option Bytes) : State :=
  (State.pipeFetch p 64 (s.pipeData p a b)).lowCheck p

/-- FETCH_COMPLETION (R326): the read at address `a` has completed; without `good` its status was an error. -/
def execFetchCompletion (p : Fin 2) (a : Nat) (b : Bytes) (good : Bool) (s : State) : Out :=
  onHub (fun s =>
    let p := p.val
    (s.sfnEnd p a).pipeArrived p a (if good then some b else none)) s

/-! Pixels (R320, R321) -/

/-- A pixel of 10-bit components. -/
structure Pixel where
  r : Nat
  g : Nat
  b : Nat

/-- The word a pixel spells: R in [29:20], G in [19:10], B in [9:0]. -/
def Pixel.word (x : Pixel) : Nat := x.r * 2 ^ 20 + x.g * 2 ^ 10 + x.b

/-- The pixel a word spells. -/
def Pixel.ofWord (w : Nat) : Pixel := ⟨bits w 29 20, bits w 19 10, bits w 9 0⟩

/-- An 8-bit component carried at 10 bits. -/
def widen (c : Nat) : Nat := c * 4 ||| c / 64

/-- A plane's word: its alpha, 0 to 255, and its pixel; `deep` for the formats of 10-bit components. -/
def planePixel (deep : Bool) (w : Nat) : Nat × Pixel :=
  if deep then (85 * bits w 31 30, Pixel.ofWord w)
  else (bits w 31 24, ⟨widen (bits w 23 16), widen (bits w 15 8), widen (bits w 7 0)⟩)

/-- A blend of weight a of d, rounded to the nearest value; d is odd, so no tie arises. -/
def blend (a d : Nat) (upper under : Pixel) : Pixel :=
  let f (x y : Nat) : Nat := (2 * (a * x + (d - a) * y) + d) / (2 * d)
  ⟨f upper.r under.r, f upper.g under.g, f upper.b under.b⟩

/-- The little-endian word of pixel x in a row of parts. -/
def rowWord (t : Table Bytes) (x : Nat) : Nat := leAt (Table.get (fun _ => []) t (x / 64)) (x % 64 * 4) 4

/-- The cursor's pixel at (x, y), and its alpha. -/
def State.cursorAt (s : State) (p x y : Nat) : Option (Nat × Pixel) :=
  let cx : Int := x - toSigned 16 (s.rdAct (Reg.DSP_CUR_POS_X p))
  let cy : Int := y - toSigned 16 (s.rdAct (Reg.DSP_CUR_POS_Y p))
  match (s.pipe p).curImage with
  | some t =>
    if (s.pipe p).curShown && 0 ≤ cx && cx < 64 && 0 ≤ cy && cy < 64 then
      let w := leAt (Table.get (fun _ => []) t cy.toNat) (cx.toNat * 4) 4
      some (planePixel false w)
    else none
  | none => none

/-- The composed pixels of a line (R321). -/
def State.compose (s : State) (p : Nat) (l : PipeLine) : List Pixel :=
  let deep := s.rdAct (Reg.DSP_CTRL_FMT p) != 0
  let oDeep := s.rdAct (Reg.DSP_OVL_BLEND_FMT p) != 0
  let ga := s.rdAct (Reg.DSP_OVL_BLEND_GALPHA p)
  let ox := s.rdAct (Reg.DSP_OVL_POS_X p)
  (List.range (s.hActive p)).map fun x =>
    let base := (planePixel deep (rowWord l.base x)).2
    let under := if s.ovlLine p l.n && ox ≤ x && x < ox + s.ovlW p then
        let (a, o) := planePixel oDeep (rowWord l.overlay (x - ox))
        blend (a * ga) 65025 o base
      else base
    match s.cursorAt p x l.n with
    | some (a, c) => blend a 255 c under
    | none => under

/-! Proof rectangles (R342 to R344) -/

/-- CRC-32C of more pixels. -/
def crc32c (c : Nat) (l : List Pixel) : Nat := crcReflected 0x82F63B78 c (l.flatMap fun x => le 4 x.word)

/-- Proof rectangle r. -/
def State.proof (s : State) (p r : Nat) : Proof := Table.get (fun _ => {}) (s.pipe p).proofs r

/-- The machine with it replaced. -/
def State.setProof (s : State) (p r : Nat) (x : Proof) : State :=
  s.withPipe p fun q => { q with proofs := Table.set (fun _ => {}) q.proofs r x }

/-- A rectangle's last pixel has been composed: the result is written, and a mismatch acts. -/
def State.proofEnd (s : State) (p r crc : Nat) : State :=
  let exp := s.rdAct (Reg.DSP_PR_EXP_EXP p r)
  let frame := s.rd (Reg.DSP_FRAME_FRAME p) % 65536
  let ok : Bool := crc == exp
  let action := s.rdAct (Reg.DSP_PR_CFG_ACTION p r)
  let s := ((s.wr (Reg.DSP_PR_CRC_CRC p r) crc).wr (Reg.DSP_PR_RES_FRAME p r) frame).put (Reg.DSP_PR_RES_MATCH p r) ok
  let s := s.put (Reg.DSP_PR_RES_VALID p r) true
  let armed := (s.proof p r).armed
  let s := s.setProof p r { armed := ok || (armed && action == 0) }
  if ok then s
  else
    let s := ((s.pipeFlag p (Reg.DSP_STAT_PROOF_FAIL p)).bump (Reg.DSP_PR_MIS_MISMATCHES p r)).count (pipeCounter p 6)
    let s := if action == 2 then s.withPipe p fun x => { x with failed := true } else s
    if action != 0 && armed then s.notice 0x0C02 ([byte p, byte r] ++ le 4 crc ++ le 4 exp ++ le 2 frame) else s

/-- Line n enters the rectangles it touches. -/
def State.proofLine (s : State) (p n : Nat) (px : List Pixel) : State :=
  (List.range 8).foldl (fun (s : State) r =>
    let x := s.rdAct (Reg.DSP_PR_POS_X p r)
    let y := s.rdAct (Reg.DSP_PR_POS_Y p r)
    let w := s.rdAct (Reg.DSP_PR_SIZE_W p r)
    let h := s.rdAct (Reg.DSP_PR_SIZE_H p r)
    if w == 0 || h == 0 || n < y || y + h ≤ n then s
    else
      let q := s.proof p r
      let c := crc32c (if n == y then 0xFFFFFFFF else q.crc) ((px.drop x).take w)
      if n + 1 == y + h then s.proofEnd p r (c ^^^ 0xFFFFFFFF) else s.setProof p r { q with crc := c }) s

/-! Scan-out (R328, R330) -/

/-- A component reduced to 8 bits (R346). -/
def narrow (c : Nat) : Nat := min 255 ((c + 2) / 4)

/-- What output k sends for a line: the pixels at its depth, or DSP_PCOLOR (R344). -/
def State.outPixels (s : State) (p k : Nat) (px : List Pixel) : Bytes :=
  let sub := Pixel.ofWord (s.rd (Reg.DSP_PCOLOR_COLOR p))
  (if (s.pipe p).substitute then px.map fun _ => sub else px).flatMap fun x =>
    if s.flag (Reg.DPO_CTRL_BPC k) then le 4 x.word else [byte (narrow x.r), byte (narrow x.g), byte (narrow x.b)]

/-- The line leaves on every clone that carries video. -/
def State.showLine (s : State) (p n : Nat) (px : List Pixel) : State :=
  [0, 1, 2, 3].foldl (fun (s : State) k =>
    if (s.dpOut k).src == p && s.flag (Reg.DPO_STAT_VIDEO k) then s.emit (.display k "line" [n] (s.outPixels p k px)) else s) s

/-- The cursor is shown or hidden for the frame that starts (R330). -/
def State.cursorFrame (s : State) (p : Nat) : State :=
  let x := s.pipe p
  let on := s.rdAct (Reg.DSP_CTRL_CUR_EN p) != 0
  let ready := x.curImage.isSome && x.curLeft == []
  let s := s.withPipe p fun x => { x with curShown := on && ready }
  if on && x.curLeft != [] then
    ((s.pipeFlag p (Reg.DSP_STAT_CURSOR_LATE p)).count (pipeCounter p 2)).limited (0x0C01_0010 + p) 0x0C01 fun m =>
      [byte p, 1, 0, 0] ++ le 2 m
  else s

/-- Line n underruns (R328, R356): DISPLAY_UNDERRUN names the first line since the last such notice. -/
def State.lineUnderrun (s : State) (p n : Nat) : State :=
  let first := (s.pipe p).under.getD n
  let s := ((s.pipeFlag p (Reg.DSP_STAT_UNDERRUN p)).count (pipeCounter p 1)).limited (0x0C01_0000 + p) 0x0C01 fun m =>
    [byte p, 0] ++ le 2 first ++ le 2 m
  let told : Bool := (Table.get (fun _ => {}) s.limits (0x0C01_0000 + p)).count == 0
  s.withPipe p fun x => { x with under := if told then none else some first }

/-- ACTIVE_LINE_START (R328). -/
def execActiveLineStart (p : Fin 2) (s : State) : Out :=
  onHub (fun s =>
    let p := p.val
    let x := s.pipe p
    let n := x.next
    if !x.running || s.vActive p ≤ n then s
    else
      let s := if n == 0 then s.cursorFrame p else s
      let s := (s.wr (Reg.DSP_LINE_LINE p) n).put (Reg.DSP_STAT_VBLANK p) false
      let line := x.lines.find? fun l => l.n == n && l.left == []
      let px := match line with
        | some l => s.compose p l
        | none => List.replicate (s.hActive p) (Pixel.ofWord (s.rd (Reg.DSP_UCOLOR_COLOR p)))
      let pass (r : Nat × FetchDest) : Nat × FetchDest :=
        match r.2 with
        | .base m _ => if m == n then (r.1, .passed) else r
        | .overlay m _ => if m == n then (r.1, .passed) else r
        | _ => r
      let s := s.withPipe p fun x => { x with
        next := n + 1, lines := x.lines.filter (fun l => l.n != n), reads := x.reads.map pass }
      let s := if line.isSome then s else s.lineUnderrun p n
      let s := (s.proofLine p n px).showLine p n px
      (State.pipeFetch p 64 s).lowCheck p) s

/-! Frame lock (R338 to R341) -/

/-- PERIOD and PHASE in 2^−16 ns. -/
def State.lockPeriod (s : State) (p : Nat) : Nat := s.rd (Reg.DSP_LOCK_PER_NS p) * 65536 + s.rd (Reg.DSP_LOCK_PFRAC_FRAC p)
def State.lockPhase (s : State) (p : Nat) : Nat := s.rd (Reg.DSP_LOCK_PH_NS p) * 65536

/-- The time from the nearest target to t. -/
def State.lockError (s : State) (p : Nat) (t : Int) : Int :=
  let per : Int := (orOne (s.lockPeriod p) : Nat)
  let d := (t - s.lockPhase p) % per
  if per < 2 * d then d - per else d

/-- LOCK_STATE changes (R340). -/
def State.setLockState (s : State) (p new : Nat) : State :=
  if s.rd (Reg.DSP_STAT_LOCK_STATE p) == new then s
  else
    let s := (s.wr (Reg.DSP_STAT_LOCK_STATE p) new).pipeFlag p (Reg.DSP_STAT_LOCK_CHG p)
    (s.withPipe p fun x => { x with good := 0, bad := 0 }).notice 0x0C04 ([byte p, byte new] ++ le 4 (s.rd (Reg.DSP_LOCK_ERR_ERR p)))

/-- LOCK_EN or Meridian's RUN has changed. -/
def State.lockFollow (s : State) (p : Nat) : State :=
  let st := s.rd (Reg.DSP_STAT_LOCK_STATE p)
  if !s.flag (Reg.DSP_CTRL_LOCK_EN p) then s.setLockState p 0
  else if !s.merRun then s.setLockState p 1
  else if st < 2 then s.setLockState p 2
  else s

/-- |e| is at most n pixel clocks. -/
def State.withinPixels (s : State) (p n : Nat) (e : Int) : Bool := e.natAbs * s.pclk p ≤ n * 1000000 * 65536

/-- The natural frame period, and e, in pixels of the active timing; the correction that brings the next edge to its
target, in whole lines and pixels (R339). -/
def State.lockCorrect (s : State) (p : Nat) (e : Int) : Int × Int :=
  let unit : Int := 1000000 * 65536
  let ht : Int := (orOne (s.hTotal p) : Nat)
  let want : Int := ((s.lockPeriod p : Int) - e) * (s.pclk p : Nat) / unit - (s.vTotal p : Nat) * ht
  let maxl : Int := (s.rd (Reg.DSP_LOCK_CFG_MAXLINES p) : Nat)
  let lines := max (-(min maxl ((s.rdAct (Reg.DSP_V1_VFP p) : Int) - 1))) (min maxl ((2 * want + ht) / (2 * ht)))
  (lines, max (-(ht / 2)) (min (ht / 2) (want - lines * ht)))

/-- The lock at a latch edge. -/
def State.lockEdge (s : State) (p : Nat) : State :=
  let s := s.lockFollow p
  if s.rd (Reg.DSP_STAT_LOCK_STATE p) < 2 then s.withPipe p fun x => { x with added := 0 }
  else
    let e := s.lockError p s.reading
    let s := s.wr (Reg.DSP_LOCK_ERR_ERR p) (satSigned 32 (e.tdiv 65536))
    let x := s.pipe p
    let good := if s.withinPixels p 2 e then x.good + 1 else 0
    let bad := if s.withinPixels p 8 e then 0 else x.bad + 1
    let s := s.withPipe p fun x => { x with good := good, bad := bad }
    let s := if s.rd (Reg.DSP_STAT_LOCK_STATE p) == 2 then (if 4 ≤ good then s.setLockState p 3 else s)
      else if 2 ≤ bad then s.setLockState p 2 else s
    let (lines, px) := s.lockCorrect p e
    let s := s.withPipe p fun x => { x with added := lines }
    if lines == 0 && px == 0 then s
    else s.emit (.display (4 + p) "porch" [ofSigned 16 lines, ofSigned 16 px] [])

/-! Commit and latch (R323, R331 to R336, R341) -/

/-- The reason for which the shadow set is refused, in DISPLAY_CONFIG's encoding; 0 when it is not. -/
def State.pipeCheck (s : State) (p : Nat) : Nat :=
  let ha := s.rd (Reg.DSP_H0_HACTIVE p)
  let ht := s.rd (Reg.DSP_H0_HTOTAL p)
  let hfp := s.rd (Reg.DSP_H1_HFP p)
  let hs := s.rd (Reg.DSP_H1_HSYNC p)
  let va := s.rd (Reg.DSP_V0_VACTIVE p)
  let vt := s.rd (Reg.DSP_V0_VTOTAL p)
  let vfp := s.rd (Reg.DSP_V1_VFP p)
  let vs := s.rd (Reg.DSP_V1_VSYNC p)
  let khz := s.rd (Reg.DSP_PCLK_KHZ p)
  let timing := 320 ≤ ha && ha ≤ 3840 && ha % 2 == 0 && 240 ≤ va && va ≤ 2160 && ha + hfp + hs + 16 ≤ ht && ht ≤ 8192 &&
    1 ≤ hfp && 1 ≤ hs && 1 ≤ vfp && 1 ≤ vs && va + vfp + vs + 1 ≤ vt && vt ≤ 4096 && 25000 ≤ khz && khz ≤ 600000
  let ovl := s.flag (Reg.DSP_CTRL_OVL_EN p)
  let ow := s.rd (Reg.DSP_OVL_SIZE_W p)
  let stride := ceilDiv (ha * 4) 256 ≤ s.rd (Reg.DSP_BASE_STRIDE_STRIDE p) &&
    (!ovl || ceilDiv (ow * 4) 256 ≤ s.rd (Reg.DSP_OVL_STRIDE_STRIDE p))
  let area := !ovl || (s.rd (Reg.DSP_OVL_POS_X p) + ow ≤ ha && s.rd (Reg.DSP_OVL_POS_Y p) + s.rd (Reg.DSP_OVL_SIZE_H p) ≤ va)
  let proof := (List.range 8).all fun r =>
    let w := s.rd (Reg.DSP_PR_SIZE_W p r)
    let h := s.rd (Reg.DSP_PR_SIZE_H p r)
    w == 0 || h == 0 || (s.rd (Reg.DSP_PR_POS_X p r) + w ≤ ha && s.rd (Reg.DSP_PR_POS_Y p r) + h ≤ va)
  let natural : Int := (vt * ht * 1000000 * 65536 : Nat)
  let off := ((s.lockPeriod p * khz : Nat) - natural).natAbs
  let lock := !s.flag (Reg.DSP_CTRL_LOCK_EN p) ||
    2 * off ≤ (2 * s.rd (Reg.DSP_LOCK_CFG_MAXLINES p) + 1) * ht * 1000000 * 65536
  if !timing then 1 else if !stride then 2 else if !area then 3 else if !proof then 4 else if !lock then 5 else 0

/-- The registers of a pipe with shadowed fields. -/
def pipeSetRegs (p : Nat) : List Nat :=
  [Reg.DSP_CTRL_A p, Reg.DSP_H0_A p, Reg.DSP_H1_A p, Reg.DSP_V0_A p, Reg.DSP_V1_A p, Reg.DSP_PCLK_A p, Reg.DSP_BASE_LO_A p,
    Reg.DSP_BASE_HI_A p, Reg.DSP_BASE_STRIDE_A p, Reg.DSP_OVL_LO_A p, Reg.DSP_OVL_HI_A p, Reg.DSP_OVL_STRIDE_A p,
    Reg.DSP_OVL_POS_A p, Reg.DSP_OVL_SIZE_A p, Reg.DSP_OVL_BLEND_A p, Reg.DSP_CUR_LO_A p, Reg.DSP_CUR_HI_A p,
    Reg.DSP_CUR_POS_A p] ++
  (List.range 8).flatMap fun r => [Reg.DSP_PR_POS_A p r, Reg.DSP_PR_SIZE_A p r, Reg.DSP_PR_CFG_A p r, Reg.DSP_PR_EXP_A p r]

/-- A pending commit is checked and copied, or refused. -/
def State.pipeLatch (s : State) (p : Nat) : State :=
  if !s.flag (Reg.DSP_COMMIT_STAT_PENDING p) then s
  else
    let s := s.put (Reg.DSP_COMMIT_STAT_PENDING p) false
    let bad := s.pipeCheck p
    let frame := s.rd (Reg.DSP_FRAME_FRAME p)
    if bad != 0 then
      ((s.pipeFlag p (Reg.DSP_STAT_CFG_ERR p)).count (pipeCounter p 3)).notice 0x0C03 ([byte p, byte bad] ++ le 2 frame)
    else
      let rises : Bool := s.rdAct (Reg.DSP_CTRL_CUR_EN p) == 0 && s.flag (Reg.DSP_CTRL_CUR_EN p)
      let s := s.latchRegs (pipeSetRegs p)
      let s := s.withPipe p fun x => { x with
        curDue := x.curDue || x.curWritten || rises, curWritten := false, proofs := [] }
      let s := (s.incr (Reg.DSP_COMMIT_STAT_LATCH_CNT p)).wr (Reg.DSP_COMMIT_STAT_LATCH_FRAME p) frame
      (s.wr (Reg.DSP_STAT_CAPACITY p) (s.capacity p)).pipeFlag p (Reg.DSP_STAT_LATCHED p)

/-- The fetch of a new frame: the cursor image where the set requires it, then lines (R326, R330). -/
def State.frameFetch (s : State) (p : Nat) : State :=
  let cur (d : FetchDest) : Bool := match d with | .cursor _ => true | _ => false
  let due := (s.pipe p).curDue
  let s := s.withPipe p fun x => { x with
    next := 0, ask := 0, lines := [], curDue := false
    reads := x.reads.map fun (r : Nat × FetchDest) => if cur r.2 && !due then r else (r.1, .passed) }
  let s := if due then
      let a := s.planeAddr (Reg.DSP_CUR_LO_ADDR_LO p) (Reg.DSP_CUR_HI_ADDR_HI p)
      let s := s.withPipe p fun x => { x with curImage := none, curLeft := List.range 64, curShown := false }
      (List.range 64).foldl (fun (s : State) k => s.pipeRead p (a + 256 * k) (.cursor k)) s
    else s
  State.pipeFetch p 64 s

/-- The bandwidth of output k's link carries its pipe (R348). -/
def State.dpCarries (s : State) (p k : Nat) : Bool :=
  let bpc := if s.flag (Reg.DPO_CTRL_BPC k) then 10 else 8
  let lanes := [1, 2, 4, 4].getD (s.rd (Reg.DPO_STAT_LANES k)) 4
  let rate := [1620, 2700, 5400, 8100].getD (s.rd (Reg.DPO_STAT_RATE k)) 0
  s.pclk p * 3 * bpc * 1000 ≤ lanes * rate * 800 * (if (s.dpOut k).ssc then 995 else 1000)

/-- DP_LINK (R356). -/
def State.dpNotice (s : State) (k event : Nat) : State :=
  s.notice 0x0C05 [byte k, byte event, byte (s.rd (Reg.DPO_STAT_RATE k)), byte (s.rd (Reg.DPO_STAT_LANES k))]

/-- The outputs at a latch edge of pipe p: a new SRC takes effect, and video starts (R346, R348). -/
def State.dpEdge (s : State) (p : Nat) : State :=
  [0, 1, 2, 3].foldl (fun (s : State) k =>
    let src := s.rd (Reg.DPO_CTRL_SRC k)
    let s := if src == p then s.withDp k fun x => { x with src := p } else s
    if (s.dpOut k).src != p then s
    else if src == p && s.flag (Reg.DPO_CTRL_EN k) && s.flag (Reg.DPO_STAT_TRAINED k) && !s.unitOut (0x38 + k) then
      if s.dpCarries p k then s.put (Reg.DPO_STAT_VIDEO k) true
      else
        let first := !s.flag (Reg.DPO_STAT_BW_SHORT k) || s.flag (Reg.DPO_STAT_VIDEO k)
        let s := (s.put (Reg.DPO_STAT_VIDEO k) false).put (Reg.DPO_STAT_BW_SHORT k) true
        if first then s.dpNotice k 3 else s
    else if 2 ≤ src then s.put (Reg.DPO_STAT_VIDEO k) false
    else s) s

/-- Pipe p stops: its outputs send the idle pattern (R348, R351). -/
def State.pipeStop (s : State) (p : Nat) : State :=
  let s := s.withPipe p fun x => { x with
    running := false, startAt := none, lines := [], reads := x.reads.map fun (r : Nat × FetchDest) => (r.1, .passed) }
  let s := (s.clearLow p).wr (Reg.DSP_STAT_FILL p) 0
  [0, 1, 2, 3].foldl (fun (s : State) k => if (s.dpOut k).src == p then s.put (Reg.DPO_STAT_VIDEO k) false else s) s

/-- A latch edge of pipe p (R331, R334, R335, R339, R344). -/
def State.latchEdge (s : State) (p : Nat) : State :=
  let s := (s.incr (Reg.DSP_FRAME_FRAME p)).count (pipeCounter p 0)
  let s := s.withPipe p fun x => { x with substitute := x.failed, failed := false, edgeRaw := s.mer.raw }
  let s := ((s.put (Reg.DSP_STAT_VBLANK p) true).wr (Reg.DSP_LINE_LINE p) (s.vActive p)).clearLow p
  let s := (s.pipeLatch p).lockEdge p
  if !s.wrapping || !s.pipeIn p then s.pipeStop p else ((s.frameFetch p).dpEdge p).lowCheck p

/-- LATCH_EDGE (R331): the raster of pipe p reaches line VACTIVE; a pipe that waits for its target edge starts there. -/
def execLatchEdge (p : Fin 2) (s : State) : Out :=
  onHub (fun s =>
    let p := p.val
    let x := s.pipe p
    if x.running then s.latchEdge p
    else match x.startAt with
      | some t => if t ≤ s.reading then (s.withPipe p fun x => { x with startAt := none, running := true }).latchEdge p else s
      | none => s) s

/-- The start of R336: at once, or with frame lock at the next target edge. -/
def State.pipeStart (s : State) (p : Nat) : State :=
  if !s.flag (Reg.DSP_CTRL_EN p) || (s.pipe p).running || !s.pipeIn p || !s.wrapping then s
  else
    let s := s.lockFollow p
    if s.rd (Reg.DSP_STAT_LOCK_STATE p) < 2 then (s.withPipe p fun x => { x with running := true }).latchEdge p
    else
      let per : Int := (orOne (s.lockPeriod p) : Nat)
      let t := s.reading
      s.withPipe p fun x => { x with startAt := some (t + (-(t - s.lockPhase p)) % per) }

/-- PIPE_ENABLE (R336). -/
def execPipeEnable (p : Fin 2) (s : State) : Out :=
  onHub (fun s =>
    let p := p.val
    if s.flag (Reg.DSP_CTRL_EN p) then s else (s.put (Reg.DSP_CTRL_EN p) true).pipeStart p) s

/-- DSP_COMMIT (R332, R336). -/
def execDspCommit (p : Fin 2) (s : State) : Out :=
  onHub (fun s =>
    let s := s.put (Reg.DSP_COMMIT_STAT_PENDING p.val) true
    if s.flag (Reg.DSP_CTRL_EN p.val) then s else s.pipeLatch p.val) s

/-- DSP_FILLMIN_CLR (R353). -/
def execDspFillminClr (p : Fin 2) (s : State) : Out :=
  onHub (fun s => s.wr (Reg.DSP_FILLMIN_MIN p.val) (s.rd (Reg.DSP_STAT_FILL p.val))) s

/-- PROOF_MIS_CLR (R353). -/
def execProofMisClr (p : Fin 2) (r : Fin 8) (s : State) : Out :=
  onHub (fun s => s.wr (Reg.DSP_PR_MIS_MISMATCHES p.val r.val) 0) s

/-! DisplayPort links (R347, R348) -/

/-- Output k is enabled, in service, and its sink is plugged; in IDLE an output only watches HPD (R351). -/
def State.dpReady (s : State) (k : Nat) : Bool :=
  s.wrapping && s.flag (Reg.DPO_CTRL_EN k) && s.flag (Reg.DPO_STAT_HPD k) && !s.unitOut (0x38 + k)

/-- Output k's DPCD is read over AUX by Damya itself. -/
def State.dpcdRead (s : State) (k a n : Nat) : State := s.emit (.display k "dpcd read" [a, n] [])

/-- Training starts. -/
def State.dpTrain (s : State) (k : Nat) (lost : Bool) : State :=
  if !s.dpReady k then s
  else
    let s := (s.put (Reg.DPO_STAT_TRAINED k) false).put (Reg.DPO_STAT_VIDEO k) false
    let ssc := s.flag (Reg.DPO_CTRL_SSC k)
    (s.withDp k fun x => { x with training := true, lost := lost, ssc := ssc }).emit (.display k "train" [b2n ssc] [])

/-- DP_HPD_RISE (R347). -/
def execDpHpdRise (k : Fin 4) (s : State) : Out :=
  onHub (fun s =>
    let k := k.val
    let s := s.put (Reg.DPO_STAT_HPD k) true
    if s.dpReady k then (s.dpcdRead k 0 16).dpTrain k false else s) s

/-- DP_HPD_FALL (R356). -/
def execDpHpdFall (k : Fin 4) (s : State) : Out :=
  onHub (fun s =>
    let k := k.val
    let s := ((s.put (Reg.DPO_STAT_HPD k) false).put (Reg.DPO_STAT_TRAINED k) false).put (Reg.DPO_STAT_VIDEO k) false
    let s := s.withDp k fun x => { x with training := false, lost := false }
    if s.flag (Reg.DPO_CTRL_EN k) then s.dpNotice k 0 else s) s

/-- DP_IRQ_HPD (R347): the status read tells whether the link has lost lock. -/
def execDpIrqHpd (k : Fin 4) (lost : Bool) (s : State) : Out :=
  onHub (fun s =>
    let k := k.val
    if !s.dpReady k then s
    else
      let s := s.dpcdRead k 0x202 6
      if lost then (s.count (0x164 + k)).dpTrain k true
      else (s.put (Reg.DPO_STAT_IRQ_HPD k) true).dpNotice k 5) s

/-- The AUX transaction in DPO_AUXCMDk is sent. -/
def State.auxSend (s : State) (k : Nat) : State :=
  let cmd := s.rd (Reg.DPO_AUXCMD_CMD k)
  let n := s.rd (Reg.DPO_AUXCMD_LEN k) + 1
  let data := (List.range 4).flatMap fun j => le 4 (s.rd (Reg.DPO_AUXDATA_DATA k j))
  s.emit (.display k "aux" [cmd, s.rd (Reg.DPO_AUXCMD_ADDR k), n]
    (if cmd == 0 || cmd == 2 || cmd == 4 then data.take n else []))

/-- A transaction that has waited for Damya's use of the channel is sent (R349). -/
def State.auxRelease (s : State) (k : Nat) : State :=
  if (s.dpOut k).auxHeld then (s.withDp k fun x => { x with auxHeld := false }).auxSend k else s

/-- DP_TRAINING_DONE (R347): the training has ended, at this rate and lane count where it succeeded. -/
def execDpTrainingDone (k : Fin 4) (ok : Bool) (rate lanes : BitVec 2) (s : State) : Out :=
  onHub (fun s =>
    let k := k.val
    let most := min 2 (s.rd (Reg.DPO_CTRL_MAX_LANES k))
    if !(s.dpOut k).training || (ok && (s.rd (Reg.DPO_CTRL_MAX_RATE k) < rate.toNat || most < lanes.toNat)) then s
    else
      let lost := (s.dpOut k).lost
      let s := (s.withDp k fun x => { x with training := false, lost := false }).count (0x160 + k)
      let s := if ok then
          let s := ((s.put (Reg.DPO_STAT_TRAINED k) true).wr (Reg.DPO_STAT_RATE k) rate.toNat).wr (Reg.DPO_STAT_LANES k) lanes.toNat
          if lost then (s.put (Reg.DPO_STAT_LINK_LOSS k) true).dpNotice k 4 else s.dpNotice k 1
        else s.dpNotice k 2
      s.auxRelease k) s

/-- DPO_RETRAIN (R354). -/
def execDpoRetrain (k : Fin 4) (s : State) : Out := onHub (fun s => s.dpTrain k.val false) s

/-! AUX (R349) -/

/-- AUX_START. -/
def State.auxStart (s : State) (k : Nat) : State :=
  if (s.dpOut k).aux.isSome || 6 ≤ s.rd (Reg.DPO_AUXCMD_CMD k) then s
  else
    let held := (s.dpOut k).training
    let s := (s.withDp k fun x => { x with aux := some 0, auxHeld := held }).put (Reg.DPO_AUXSTAT_BUSY k) true
    if held then s else s.auxSend k

/-- AUX_START with the word written to DPO_AUXCMDk. -/
def execAuxStart (k : Fin 4) (v : Word) (s : State) : Out :=
  onHub (fun s =>
    let k := k.val
    let s := [Reg.DPO_AUXCMD_CMD k, Reg.DPO_AUXCMD_LEN k, Reg.DPO_AUXCMD_ADDR k].foldl (fun (s : State) f => s.wr f (f.get v)) s
    s.auxStart k) s

/-- The transaction ends. -/
def State.auxEnd (s : State) (k reply count : Nat) : State :=
  let s := (s.withDp k fun x => { x with aux := none, auxHeld := false }).put (Reg.DPO_AUXSTAT_BUSY k) false
  (s.wr (Reg.DPO_AUXSTAT_REPLY k) reply).wr (Reg.DPO_AUXSTAT_COUNT k) count

/-- AUX_REPLY (R349): 0 ACK, 1 NACK, 2 DEFER, 3 I²C NACK, 4 I²C DEFER, with the bytes read. -/
def execAuxReply (k : Fin 4) (reply : Fin 5) (data : Bytes) (s : State) : Out :=
  onHub (fun s =>
    let k := k.val
    match (s.dpOut k).aux with
    | none => s
    | some d =>
      if (s.dpOut k).auxHeld then s
      else if reply == 2 || reply == 4 then
        if d < 7 then (s.withDp k fun x => { x with aux := some (d + 1) }).auxSend k
        else s.auxEnd k (if reply == 2 then 2 else 5) 0
      else if reply == 1 then s.auxEnd k 1 0
      else if reply == 3 then s.auxEnd k 4 0
      else
        let cmd := s.rd (Reg.DPO_AUXCMD_CMD k)
        let n := s.rd (Reg.DPO_AUXCMD_LEN k) + 1
        if cmd == 0 || cmd == 2 || cmd == 4 then s.auxEnd k 0 n
        else
          let d := data.take n
          let word (s : State) (j : Nat) : State :=
            let b := slice d (4 * j) 4
            let old := le 4 (s.rd (Reg.DPO_AUXDATA_DATA k j))
            s.wr (Reg.DPO_AUXDATA_DATA k j) (ofLe (b ++ old.drop b.length))
          ([0, 1, 2, 3].foldl word s).auxEnd k 0 d.length) s

/-- AUX_REPLY_TIMEOUT (R349). -/
def execAuxReplyTimeout (k : Fin 4) (s : State) : Out :=
  onHub (fun s =>
    let k := k.val
    if (s.dpOut k).aux.isSome && !(s.dpOut k).auxHeld then s.auxEnd k 3 0 else s) s

/-! Modes (R351) -/

/-- Entry to IDLE or STANDBY: the outputs power down. -/
def State.dpSuspend (s : State) : State :=
  [0, 1, 2, 3].foldl (fun (s : State) k =>
    if !s.flag (Reg.DPO_CTRL_EN k) then s
    else
      let s := (s.put (Reg.DPO_STAT_TRAINED k) false).put (Reg.DPO_STAT_VIDEO k) false
      (s.withDp k fun x => { x with training := false }).emit (.display k "dpcd write" [0x600] [2])) s

/-- Leaving IDLE: outputs retrain and pipes restart. -/
def State.dpResume (s : State) : State :=
  let s := [0, 1, 2, 3].foldl (fun (s : State) k => s.dpTrain k false) s
  (s.pipeStart 0).pipeStart 1

/-- A unit of the display is mapped out or under test. -/
def State.dspOut (s : State) (u : Nat) : State :=
  if u == 0x30 || u == 0x31 then s.pipeStop (u - 0x30)
  else if 0x38 ≤ u && u ≤ 0x3B then
    let k := u - 0x38
    ((s.put (Reg.DPO_STAT_TRAINED k) false).put (Reg.DPO_STAT_VIDEO k) false).withDp k fun x => { x with training := false }
  else s

/-- A unit of the display returns. -/
def State.dspIn (s : State) (u : Nat) : State :=
  if u == 0x30 || u == 0x31 then s.pipeStart (u - 0x30)
  else if 0x38 ≤ u && u ≤ 0x3B then s.dpTrain (u - 0x38) false
  else s

end Sys2Proof.Machine
end

