-- ==== Sys2Proof/Machine/UsbHost.lean ====
section
/-!
DEFINITION. The USB host engine and its ports: rings, descriptors, contexts and endpoint memory, the (micro)frame's
schedule, and port control (R357 to R380, R386, R387, R390).
-/

namespace Sys2Proof.Machine

/-- Host port n. -/
def State.usbPort (s : State) (n : Nat) : UsbPort := Table.get (fun _ => {}) s.usb.ports n

/-- The machine with it changed. -/
def State.withUsbPort (s : State) (n : Nat) (f : UsbPort → UsbPort) : State :=
  { s with usb := { s.usb with ports := Table.set (fun _ => {}) s.usb.ports n (f (s.usbPort n)) } }

/-- Endpoint context c. -/
def State.usbCtx (s : State) (c : Nat) : UsbCtx := Table.get (fun _ => {}) s.usb.ctxs c

/-- The machine with it changed. -/
def State.withUsbCtx (s : State) (c : Nat) (f : UsbCtx → UsbCtx) : State :=
  { s with usb := { s.usb with ctxs := Table.set (fun _ => {}) s.usb.ctxs c (f (s.usbCtx c)) } }

/-- Event counter k of USBHn (R606). -/
def usbCounter (n k : Nat) : Nat := 0x168 + 8 * n + k

/-- The engine runs. -/
def State.usbRuns (s : State) : Bool := s.flag Reg.USBH_CTRL_EN && !s.unitOut 0x40

/-- A change bit becomes set, which raises USB_PORT (R390). -/
def State.usbChange (s : State) (n : Nat) (f : Fld) : State :=
  if s.flag f then s
  else
    let s := s.put f true
    s.notice 0x0D01 [byte n, byte (bits (s.reg f.addr).toNat 15 8), byte (s.rd (Reg.USBH_PORT_STAT_SPEED n))]

/-- The port's control block (R360). -/
def State.usbPcb (s : State) (n : Nat) : Nat :=
  s.rd Reg.USBH_PCB_LO_ADDR_LO * 4096 + s.rd Reg.USBH_PCB_HI_ADDR_HI * 2 ^ 32 + 64 * n

/-! Bursts (R365 to R368) -/

/-- The burst ring of port n is full. -/
def State.usbFull (s : State) (n : Nat) : Bool :=
  (s.rd (Reg.USBH_PORT_SEQ_BSEQ n) + 65536 - s.rd (Reg.USBH_PORT_SEQ_REL n)) % 65536 == 2 ^ (s.usbPort n).log2

/-- Vector 5 leaves, or waits for moderation; in the root role there is none (R359). -/
def State.usbMsi (s : State) : State :=
  let setM (s : State) (m : Moderation) : State := { s with usb := { s.usb with msi := m } }
  if s.isRoot || !s.flag Reg.USBH_CTRL_IRQ_EN then s
  else if s.moderate s.usb.msi (s.rd Reg.USBH_CTRL_MOD_US) then
    (setM s { last := some s.mer.raw, due := false }).sendMsi 5
  else setM s { s.usb.msi with due := true }

/-- A burst is written: IN data, bytes 2 to 15, then SEQ; then BSEQ advances and the MSI follows (R366). -/
def State.usbWrite (s : State) (n buf : Nat) (data e : Bytes) (ioc : Bool) : State :=
  let x := s.usbPort n
  let seq := s.rd (Reg.USBH_PORT_SEQ_BSEQ n)
  let a := x.burstBase + seq % 2 ^ x.log2 * 16
  let s := if data == [] then s else s.hostWrite 3 buf data
  let s := ((s.hostWrite 3 (a + 2) e).hostWrite 3 a (le 2 seq)).incr (Reg.USBH_PORT_SEQ_BSEQ n)
  let s := (s.hostWrite 3 (s.usbPcb n + 34) (le 2 (s.rd (Reg.USBH_PORT_SEQ_BSEQ n)))).count (usbCounter n 6)
  if ioc then s.usbMsi else s

/-- A burst is written, or held while the ring is full. -/
def State.usbBurst (s : State) (n buf : Nat) (data e : Bytes) (ioc : Bool) : State :=
  if s.usbFull n || (s.usbPort n).held != [] then
    s.withUsbPort n fun x => { x with held := x.held ++ [(buf, data, e, ioc)] }
  else s.usbWrite n buf data e ioc

/-- Held bursts are written as REL advances. -/
def State.usbFlush (n : Nat) : Nat → State → State
  | 0, s => s
  | k + 1, s =>
    match (s.usbPort n).held with
    | [] => s
    | (buf, data, e, ioc) :: r =>
      if s.usbFull n then s
      else State.usbFlush n k ((s.withUsbPort n fun x => { x with held := r }).usbWrite n buf data e ioc)

/-- A descriptor finishes with a status: it leaves the port, and its burst is produced. -/
def State.tdEnd (s : State) (n : Nat) (d : UsbTd) (status : Nat) : State :=
  let x := s.usbPort n
  let frame := x.micro * 2048 + x.frame
  let e := le 2 d.index ++ le 4 d.moved ++ [byte status, byte d.ctx, 0, 0] ++ le 2 frame ++ [0, 0]
  let s := s.withUsbPort n fun x => { x with
    tds := x.tds.filter (fun t => t.index != d.index), busy := if x.busy == some d.ctx && d.started then none else x.busy }
  s.usbBurst n d.buf (if d.got == [] then [] else d.got.take d.len) e (bit d.flags 0)

/-- Every descriptor fetched and not finished finishes with a status, in ring order. -/
def State.tdEndAll (s : State) (n status : Nat) : State :=
  (s.usbPort n).tds.foldl (fun (s : State) d => s.tdEnd n d status) s

/-! Contexts and endpoint memory (R363, R371, R372) -/

/-- Context c is configured, and on port n. -/
def State.ctxOn (s : State) (c n : Nat) : Bool := s.flag (Reg.USBMEM_CTX_VALID c) && s.rd (Reg.USBMEM_CTX_PORT c) == n

/-- Context c is configured on another port than n (R369). -/
def State.ctxElsewhere (s : State) (c n : Nat) : Bool :=
  s.flag (Reg.USBMEM_CTX_VALID c) && s.rd (Reg.USBMEM_CTX_PORT c) != n

/-- The configured contexts. -/
def State.ctxList (s : State) : List Nat := (List.range 256).filter fun c => s.flag (Reg.USBMEM_CTX_VALID c)

/-- FREE, ALLOCATED and CTX_USED follow the regions. -/
def State.usbmemSync (s : State) : State :=
  let cs := s.ctxList
  let used := (cs.map fun c => s.rd (Reg.USBMEM_CTX_SIZE c)).foldl (· + ·) 0
  ((s.wr Reg.USBMEM_FREE_FREE (4096 - used)).wr Reg.USBMEM_ALLOC_ALLOCATED used).wr Reg.USBH_STAT_CTX_USED cs.length

/-- The context that EP_CONFIG's parameters describe, where its fields lie within R363. -/
def epFields (d : UsbTd) : Option UsbCtx :=
  let p := d.setup ++ d.param
  let at_ (i n : Nat) : Nat := leAt p (i - 16) n
  let etype := at_ 18 1
  let speed := at_ 19 1
  let mps := at_ 20 2
  let iv := at_ 22 1
  let ep := at_ 17 1
  let mpsOk : Bool := if etype == 0 then mps == 8 || mps == 16 || mps == 32 || mps == 64
    else if etype == 2 then 1 ≤ mps && mps ≤ [0, 64, 512].getD speed 0
    else 1 ≤ mps && mps ≤ [8, 64, 1024].getD speed 0
  let ivOk := if etype == 3 then 1 ≤ iv && (speed != 2 || iv ≤ 16) else iv == 0
  let size := at_ 28 2
  let ok := at_ 16 1 ≤ 127 && (etype == 0 || ep / 16 % 8 == 0) && (etype == 0 || etype == 2 || etype == 3) && speed ≤ 2 &&
    mpsOk && ivOk && at_ 23 1 ≤ 127 && at_ 26 2 ≤ 4095 && ceilDiv (2 * mps) 64 ≤ size && size ≤ 1024
  if ok then
    some { addr := at_ 16 1, ep := ep % 16, isIn := bit ep 7, etype := etype, speed := speed, mps := mps, interval := iv
           hubAddr := at_ 23 1, hubPort := at_ 24 1, tt := at_ 25 1 % 2 }
  else none

/-! The schedule (R364, R374, R375) -/

/-- The first descriptor of a context on port n: descriptors of one context run one at a time, in ring order (R370). -/
def State.tdHead (s : State) (n c : Nat) : Option UsbTd := (s.usbPort n).tds.find? fun d => d.ctx == c

/-- The descriptor of a context that runs. -/
def State.tdRuns (s : State) (n c type : Nat) : Bool :=
  match s.tdHead n c with
  | some d => d.started && d.type == type
  | none => false

/-- The polling interval's exponent k (R364). -/
def pollLog2 (x : UsbCtx) : Nat :=
  if x.speed == 2 then min 8 (x.interval - 1) else min 8 (Nat.log2 (orOne x.interval))

/-- An interrupt context is due in the present (micro)frame: its interval counts microframes at high speed and frames
otherwise. -/
def State.pollDue (s : State) (n c : Nat) : Bool :=
  let x := s.usbCtx c
  let p := s.usbPort n
  let k := 2 ^ pollLog2 x
  if x.speed == 2 then (p.frame * 8 + p.micro) % k == 0 else p.micro == 0 && p.frame % k == 0

/-- The next context in round-robin order after `last`. -/
def nextAfter (last : Nat) (l : List Nat) : Option Nat :=
  match l.find? (fun c => last < c) with
  | some c => some c
  | none => l.head?

/-- The longest bus time in ns of an interrupt transaction of a context, on a bus of a speed: the formulas of USB 2.0, 5.11.3
(PRESUMED, log entry 70). -/
def interruptNs (speed : Nat) (x : UsbCtx) : Nat :=
  let k := (19 + 56 * x.mps) / 6
  match speed with
  | 2 => 917 + 2083 * k / 1000
  | 1 => 9107 + 8354 * k / 100
  | _ => 64060 + 67667 * k / 100

/-- What interrupt transactions may take of a (micro)frame: 80 % of a microframe, 90 % of a frame (R374). -/
def periodicLimit (speed : Nat) : Nat := if speed == 2 then 100000 else 900000

/-- The bus time of an interrupt transaction of context c on port n. -/
def State.interruptCost (s : State) (n c : Nat) : Nat := interruptNs (s.rd (Reg.USBH_PORT_STAT_SPEED n)) (s.usbCtx c)

/-- The context whose transaction comes next: interrupt within its share of the (micro)frame, then control, then bulk. -/
def State.usbPick (s : State) (n : Nat) : Option (Nat × Nat) :=
  let p := s.usbPort n
  let cs := (p.tds.map (·.ctx)).eraseDups.mergeSort (· ≤ ·)
  let limit := periodicLimit (s.rd (Reg.USBH_PORT_STAT_SPEED n))
  match p.polls.find? (fun c => s.tdRuns n c 2 && p.periodic + s.interruptCost n c ≤ limit) with
  | some c => some (2, c)
  | none =>
    match nextAfter p.lastControl (cs.filter fun c => s.tdRuns n c 0 && !p.naked.contains c) with
    | some c => some (0, c)
    | none => (nextAfter p.lastBulk (cs.filter fun c => s.tdRuns n c 1)).map fun c => (1, c)

/-- The packet of a descriptor's next transaction: token, and the bytes of an OUT or SETUP. -/
def tdPacket (x : UsbCtx) (d : UsbTd) : String × Bytes :=
  let out := slice d.out d.moved x.mps
  if d.type == 0 then
    let isIn := bit (leAt d.setup 0 1) 7
    if d.stage == 0 then ("SETUP", d.setup)
    else if d.stage == 1 then (if isIn then ("IN", []) else ("OUT", out))
    else if isIn && d.len != 0 then ("OUT", []) else ("IN", [])
  else if x.isIn then ("IN", []) else ("OUT", out)

/-- The engine starts the next transaction of port n, if one may start: of a full- or low-speed device behind a high-speed
hub, with the split's fields before it (R357). -/
def State.usbNext (s : State) (n : Nat) : State :=
  let p := s.usbPort n
  if !s.usbRuns || !s.flag (Reg.USBH_PORT_STAT_ENABLED n) || s.flag (Reg.USBH_PORT_STAT_SUSPENDED n) ||
      s.flag (Reg.USBH_PORT_STAT_RESETTING n) || p.resetDue || !p.room || p.busy.isSome then s
  else
    match s.usbPick n with
    | none => s
    | some (kind, c) =>
      match s.tdHead n c with
      | none => s
      | some d =>
        let x := s.usbCtx c
        let (token, data) := tdPacket x d
        let s := s.withUsbPort n fun p => { p with
          busy := some c
          polls := if kind == 2 then p.polls.filter (· != c) else p.polls
          periodic := if kind == 2 then p.periodic + s.interruptCost n c else p.periodic
          lastControl := if kind == 0 then c else p.lastControl
          lastBulk := if kind == 1 then c else p.lastBulk }
        let toggle : Bool := if d.type == 0 && d.stage != 1 then d.stage == 2 else x.toggle
        let s := if x.hubAddr != 0 && x.speed != 2 && s.rd (Reg.USBH_PORT_STAT_SPEED n) == 2 then
            s.emit (.usb n "SPLIT" [x.hubAddr, x.hubPort, x.tt, x.speed, x.etype] [])
          else s
        s.emit (.usb n token [x.addr, if x.etype == 0 then 0 else x.ep, b2n toggle] data)

/-! Fetching (R361) -/

/-- A fetched descriptor.  Its reserved bits are ignored (R650). -/
def tdOf (i : Nat) (b : Bytes) : UsbTd :=
  { index := i, buf := leAt b 0 8, len := leAt b 8 4 % 2 ^ 17, type := leAt b 12 1, ctx := leAt b 13 1, flags := leAt b 14 1
    setup := slice b 16 8, param := slice b 24 8 }

/-- A descriptor with a reserved TYPE finishes when it is the first of its context. -/
def State.sweepBad (n : Nat) : Nat → State → State
  | 0, s => s
  | k + 1, s =>
    match (s.usbPort n).tds.find? (fun d => 7 ≤ d.type && (s.tdHead n d.ctx).map (·.index) == some d.index) with
    | some d => State.sweepBad n k (s.tdEnd n d 7)
    | none => s

/-- The port's block is read, bursts released are made room of, and descriptors are fetched. -/
def State.usbPoll (s : State) (n : Nat) (mem : HostMem) : State :=
  let x := s.usbPort n
  if !x.on then s
  else
    let s := s.hostRead 3 (s.usbPcb n + 18) 4
    match mem.read (s.usbPcb n + 18) 4 with
    | none => s
    | some b =>
      let s := State.usbFlush n 4096 (s.wr (Reg.USBH_PORT_SEQ_REL n) (leAt b 2 2))
      let tds := ringFetch mem 32 x.tdBase x.log2 x.tdCons (leAt b 0 2)
      if tds == [] then s
      else
        let s := s.hostRead 3 (x.tdBase + x.tdCons % 2 ^ x.log2 * 32) (32 * tds.length)
        let cons := (x.tdCons + tds.length) % 65536
        let s := s.withUsbPort n fun x => { x with tdCons := cons, tds := x.tds ++ tds.map fun e => tdOf e.1 e.2 }
        State.sweepBad n 4096 (s.hostWrite 3 (s.usbPcb n + 32) (le 2 cons))

/-- RING_ENABLE (R361). -/
def execRingEnable (n : Fin 8) (mem : HostMem) (s : State) : Out :=
  onHub (fun s =>
    let n := n.val
    if s.flag (Reg.USBH_PORT_CTRL_RING_EN n) && !(s.usbPort n).due then s
    else
      let s := (s.hostRead 3 (s.usbPcb n) 32).withUsbPort n fun x => { x with due := false }
      match mem.read (s.usbPcb n) 32 with
      | none => s.put (Reg.USBH_PORT_CTRL_RING_EN n) false
      | some b =>
        let k := leAt b 16 1
        if 4 ≤ k && k ≤ 12 then
          let s := s.withUsbPort n fun x => { x with
            on := true, tdBase := leAt b 0 8, burstBase := leAt b 8 8, log2 := k, tdCons := 0, tds := [], held := [] }
          let s := (s.put (Reg.USBH_PORT_CTRL_RING_EN n) true).wr (Reg.USBH_PORT_RING_RING_LOG2 n) k
          (s.wr (Reg.USBH_PORT_SEQ_BSEQ n) 0).wr (Reg.USBH_PORT_SEQ_REL n) (leAt b 20 2)
        else (s.put (Reg.USBH_PORT_CTRL_RING_EN n) false).notice 0x0D04 [byte n, 1]) s

/-- RING_EN falls (R361). -/
def State.ringOff (s : State) (n : Nat) : State :=
  ((s.tdEndAll n 10).withUsbPort n fun x => { x with on := false, due := false }).put (Reg.USBH_PORT_CTRL_RING_EN n) false

/-- RING_DISABLE (R361). -/
def execRingDisable (n : Fin 8) (s : State) : Out := onHub (fun s => s.ringOff n.val) s

/-- USBH_KICK (R361). -/
def execUsbhKick (ports : BitVec 8) (mem : HostMem) (s : State) : Out :=
  onHub (fun s =>
    if !s.usbRuns then s
    else (List.range 8).foldl (fun (s : State) n => if bit ports.toNat n then s.usbPoll n mem else s) s) s

/-! Port state (R375 to R379) -/

/-- A port is disabled: ENABLED clears and its descriptors finish. -/
def State.usbDisable (s : State) (n status : Nat) : State :=
  let s := (s.put (Reg.USBH_PORT_STAT_ENABLED n) false).tdEndAll n status
  s.withUsbPort n fun x => { x with busy := none, suspendDue := false }

/-- Device activity at EOF2 (R375), the one disable that sets C_ENABLE, which R387 calls 'disabled by error' (DEDUCED, log
entry 46). -/
def State.usbBabble (s : State) (n : Nat) : State :=
  let s := match (s.usbPort n).busy with
    | some c => match s.tdHead n c with
      | some d => s.tdEnd n d 4
      | none => s
    | none => s
  let s := (s.count (usbCounter n 3)).usbDisable n 6
  (s.usbChange n (Reg.USBH_PORT_STAT_C_ENABLE n)).usbChange n (Reg.USBH_PORT_STAT_BABBLE_EOF n)

/-- SOF runs on port n. -/
def State.usbSof (s : State) (n : Nat) : Bool :=
  s.flag (Reg.USBH_PORT_STAT_ENABLED n) && !s.flag (Reg.USBH_PORT_STAT_SUSPENDED n) && !s.flag (Reg.USBH_PORT_STAT_RESETTING n)

/-- A (micro)frame boundary on port n. -/
def State.usbBoundary (s : State) (n : Nat) (babble : Bool) : State :=
  let s := if babble && s.usbSof n then s.usbBabble n else s
  let s := if (s.usbPort n).suspendDue && (s.usbPort n).busy.isNone then
      (s.put (Reg.USBH_PORT_STAT_SUSPENDED n) true).withUsbPort n fun x => { x with suspendDue := false }
    else s
  if !s.usbSof n then s
  else
    let x := s.usbPort n
    let micro := (x.micro + 1) % 8
    let frame := if micro == 0 then (x.frame + 1) % 2048 else x.frame
    let s := s.withUsbPort n fun x => { x with micro := micro, frame := frame }
    let speed := s.rd (Reg.USBH_PORT_STAT_SPEED n)
    let s := if speed == 2 || micro == 0 then
        s.emit (.usb n (if speed == 0 then "keep-alive" else "SOF") [frame] [])
      else s
    let newFrame := speed == 2 || micro == 0
    let polls := ((s.usbPort n).tds.filter (fun d => d.type == 2 && s.ctxOn d.ctx n && s.pollDue n d.ctx)).map (·.ctx)
    s.withUsbPort n fun x => { x with
      polls := if newFrame then polls.eraseDups else x.polls
      naked := if newFrame then [] else x.naked
      periodic := if newFrame then 0 else x.periodic
      room := if newFrame then true else x.room }

/-- USB_MICROFRAME_START (R361, R374, R375): a boundary on every port, with the ports on which a device was still active at
EOF2. -/
def execUsbMicroframeStart (mem : HostMem) (babble : BitVec 8) (s : State) : Out :=
  onHub (fun s =>
    if !s.usbRuns then s
    else
      let s := (List.range 8).foldl (fun (s : State) n => s.usbBoundary n (bit babble.toNat n)) s
      let s := match (List.range 8).find? s.usbSof with
        | some n => (s.wr Reg.USBH_FRAME_FRNUM (s.usbPort n).frame).wr Reg.USBH_FRAME_MICRO (s.usbPort n).micro
        | none => s
      (List.range 8).foldl (fun (s : State) n => (s.usbPoll n mem).usbNext n) s) s

/-! Descriptors reaching their turn (R362, R369 to R371) -/

/-- A region of endpoint memory is free. -/
def State.regionFree (s : State) (off size : Nat) : Bool :=
  off + size ≤ 4096 && s.ctxList.all fun c =>
    let o := s.rd (Reg.USBMEM_CTX_OFF c)
    off + size ≤ o || o + s.rd (Reg.USBMEM_CTX_SIZE c) ≤ off

/-- EP_CONFIG (R371). -/
def State.epConfig (s : State) (n : Nat) (d : UsbTd) : State :=
  let c := d.ctx
  match (if s.flag (Reg.USBMEM_CTX_VALID c) then none else epFields d) with
  | none => s.tdEnd n d 7
  | some x =>
    let off := leAt d.param 2 2
    let size := leAt d.param 4 2
    if !s.regionFree off size then s.tdEnd n d 9
    else
      let s := (s.withUsbCtx c fun _ => x).put (Reg.USBMEM_CTX_VALID c) true
      let s := ((s.wr (Reg.USBMEM_CTX_PORT c) n).wr (Reg.USBMEM_CTX_OFF c) off).wr (Reg.USBMEM_CTX_SIZE c) size
      s.usbmemSync.tdEnd n d 0

/-- EP_RELEASE (R371). -/
def State.epRelease (s : State) (n : Nat) (d : UsbTd) : State :=
  let c := d.ctx
  if !s.ctxOn c n then s.tdEnd n d 7
  else
    let others := (s.usbPort n).tds.filter fun t => t.ctx == c && t.index != d.index
    let s := others.foldl (fun (s : State) t => s.tdEnd n t 10) s
    let s := ((s.withUsbCtx c fun _ => {}).setReg (Reg.USBMEM_CTX_A c) 0).usbmemSync
    s.tdEnd n d 0

/-- EP_CLEAR (R369). -/
def State.epClear (s : State) (n : Nat) (d : UsbTd) : State :=
  if !s.ctxOn d.ctx n then s.tdEnd n d 7
  else (s.withUsbCtx d.ctx fun x => { x with halted := false, toggle := false, errors := 0 }).tdEnd n d 0

/-- A transfer starts: the bytes of an OUT are fetched (R373), and a read that fails ends it (R368). -/
def State.transferStart (s : State) (n : Nat) (d : UsbTd) (mem : HostMem) : State :=
  let x := s.usbCtx d.ctx
  let etype := [0, 2, 3].getD d.type 9
  if !s.ctxOn d.ctx n || x.etype != etype then s.tdEnd n d 7
  else
    let isOut := if d.type == 0 then !bit (leAt d.setup 0 1) 7 else !x.isIn
    let go (s : State) (out : Bytes) : State :=
      let d' := { d with started := true, out := out, zlp := isOut && d.type != 0 && bit d.flags 1 && d.len != 0 && d.len % orOne x.mps == 0 }
      s.withUsbPort n fun p => { p with tds := p.tds.map fun t => if t.index == d.index then d' else t }
    if isOut && d.len != 0 then
      let s := s.hostRead 3 d.buf d.len
      match mem.read d.buf d.len with
      | some b => go s b
      | none => (s.count (usbCounter n 5)).tdEnd n d 8
    else go s []

/-- Descriptor `i` of port n, of a type, comes to its turn: it is the first of its context, and no burst is held. -/
def State.tdStart (s : State) (n i type : Nat) (mem : HostMem) : State :=
  match (s.usbPort n).tds.find? (fun d => d.index == i && d.type == type && !d.started) with
  | none => s
  | some d =>
    if !s.usbRuns || (s.usbPort n).held != [] || (s.usbPort n).resetDue || s.flag (Reg.USBH_PORT_STAT_RESETTING n) ||
        (s.tdHead n d.ctx).map (·.index) != some i then s
    else
      let s := if s.ctxElsewhere d.ctx n then s.tdEnd n d 7
        else if (s.usbCtx d.ctx).halted && type != 6 then s.tdEnd n d 11
        else if 65536 < d.len then s.tdEnd n d 7
        else if type == 3 then s.tdEnd n d 0
        else if type == 4 then s.epConfig n d
        else if type == 5 then s.epRelease n d
        else if type == 6 then s.epClear n d
        else s.transferStart n d mem
      State.usbNext (State.sweepBad n 4096 s) n

/-- TD_CONTROL (R362). -/
def execTdControl (n : Fin 8) (i : BitVec 16) (mem : HostMem) (s : State) : Out := onHub (fun s => s.tdStart n.val i.toNat 0 mem) s

/-- TD_BULK (R362). -/
def execTdBulk (n : Fin 8) (i : BitVec 16) (mem : HostMem) (s : State) : Out := onHub (fun s => s.tdStart n.val i.toNat 1 mem) s

/-- TD_INTERRUPT (R364). -/
def execTdInterrupt (n : Fin 8) (i : BitVec 16) (mem : HostMem) (s : State) : Out := onHub (fun s => s.tdStart n.val i.toNat 2 mem) s

/-- TD_NOP (R362). -/
def execTdNop (n : Fin 8) (i : BitVec 16) (s : State) : Out := onHub (fun s => s.tdStart n.val i.toNat 3 []) s

/-- EP_CONFIG (R371). -/
def execEpConfig (n : Fin 8) (i : BitVec 16) (s : State) : Out := onHub (fun s => s.tdStart n.val i.toNat 4 []) s

/-- EP_RELEASE (R371). -/
def execEpRelease (n : Fin 8) (i : BitVec 16) (s : State) : Out := onHub (fun s => s.tdStart n.val i.toNat 5 []) s

/-- EP_CLEAR (R369). -/
def execEpClear (n : Fin 8) (i : BitVec 16) (s : State) : Out := onHub (fun s => s.tdStart n.val i.toNat 6 []) s

/-! Transactions (R368, R374) -/

/-- A context halts. -/
def State.ctxHalt (s : State) (c : Nat) : State := s.withUsbCtx c fun x => { x with halted := true }

/-- The machine with a descriptor of port n replaced. -/
def State.setTd (s : State) (n : Nat) (d : UsbTd) : State :=
  s.withUsbPort n fun p => { p with tds := p.tds.map fun t => if t.index == d.index then d else t }

/-- The status of a descriptor whose last packet has moved. -/
def tdStatus (d : UsbTd) : Nat := if d.short then 1 else 0

/-- A data packet has moved in the data stage, or in a bulk or interrupt transfer: `out` bytes sent or `data` received. -/
def State.tdAdvance (s : State) (n : Nat) (d : UsbTd) (isIn : Bool) (data : Bytes) : State :=
  let x := s.usbCtx d.ctx
  let s := s.withUsbCtx d.ctx fun x => { x with toggle := !x.toggle, errors := 0 }
  let finish (s : State) (d : UsbTd) : State := if d.type == 0 then s.setTd n { d with stage := 2 } else s.tdEnd n d (tdStatus d)
  if isIn then
    if x.mps < data.length || d.len - d.moved < data.length then ((s.count (usbCounter n 3)).ctxHalt d.ctx).tdEnd n d 4
    else
      let moved := d.moved + data.length
      let d := { d with moved := moved, got := d.got ++ data, short := data.length < x.mps && moved < d.len }
      let s := s.count (usbCounter n 7) data.length
      if data.length < x.mps || d.len ≤ moved then finish s d else s.setTd n d
  else
    let k := min x.mps (d.len - d.moved)
    let s := s.count (usbCounter n 7) k
    if d.len ≤ d.moved then finish s { d with zlp := false }
    else
      let d := { d with moved := d.moved + k }
      if d.len ≤ d.moved && !d.zlp then finish s d else s.setTd n d

/-- A transaction of descriptor d has ended with a handshake or data. -/
def State.tdGood (s : State) (n : Nat) (d : UsbTd) (data : Bytes) : State :=
  let x := s.usbCtx d.ctx
  let isIn := if d.type == 0 then bit (leAt d.setup 0 1) 7 else x.isIn
  if d.type != 0 then s.tdAdvance n d isIn data
  else if d.stage == 0 then
    (s.withUsbCtx d.ctx fun x => { x with toggle := true, errors := 0 }).setTd n { d with stage := if d.len == 0 then 2 else 1 }
  else if d.stage == 1 then s.tdAdvance n d isIn data
  else (s.withUsbCtx d.ctx fun x => { x with errors := 0 }).tdEnd n d (tdStatus d)

/-- The steps 2 and 3 of R376, once the packet in progress has ended. -/
def State.usbResetNow (s : State) (n : Nat) : State :=
  let s := s.tdEndAll n 5
  let s := ((s.put (Reg.USBH_PORT_STAT_ENABLED n) false).put (Reg.USBH_PORT_STAT_RESETTING n) true).put
    (Reg.USBH_PORT_STAT_SUSPENDED n) false
  let s := s.withUsbPort n fun x => { x with resetDue := false, suspendDue := false, busy := none, waking := false }
  s.emit (.usb n "reset" [] [])

/-- USB_TRANSACTION_END (R374): 0 acknowledged or data received, 1 NAK, 2 STALL, 3 a transaction error; `room` says whether
another transaction may still start before EOF1 (R375). -/
def execUsbTransactionEnd (n : Fin 8) (r : Fin 4) (data : Bytes) (room : Bool) (s : State) : Out :=
  onHub (fun s =>
    let n := n.val
    match (s.usbPort n).busy with
    | none => s
    | some c =>
      let s := (s.withUsbPort n fun x => { x with busy := none, room := room }).count (usbCounter n 0)
      match s.tdHead n c with
      | none => s
      | some d =>
        let s :=
          if r == 0 then s.tdGood n d data
          else if r == 1 then
            (s.withUsbPort n fun x => { x with naked := if d.type == 0 then x.naked ++ [c] else x.naked }).count (usbCounter n 1)
          else if r == 2 then (s.ctxHalt c).tdEnd n d 2
          else
            let errors := (s.usbCtx c).errors + 1
            let s := (s.withUsbCtx c fun x => { x with errors := errors }).count (usbCounter n 2)
            if 3 ≤ errors then ((s.ctxHalt c).withUsbCtx c fun x => { x with errors := 0 }).tdEnd n d 3 else s
        let s := State.sweepBad n 4096 s
        if (s.usbPort n).resetDue then s.usbResetNow n else s.usbNext n) s

/-! Port control (R376 to R379) -/

/-- RESET (R376, R379). -/
def State.usbReset (s : State) (n : Nat) : State :=
  if !s.flag (Reg.USBH_PORT_STAT_CONNECT n) then s.usbChange n (Reg.USBH_PORT_STAT_C_RESET n)
  else if s.flag (Reg.USBH_PORT_STAT_RESETTING n) then s
  else
    let s := s.put (Reg.USBH_PORT_STAT_RESUMING n) false
    if (s.usbPort n).busy.isSome then s.withUsbPort n fun x => { x with resetDue := true } else s.usbResetNow n

/-- USB_PORT_RESET. -/
def execUsbPortReset (n : Fin 8) (s : State) : Out := onHub (fun s => s.usbReset n.val) s

/-- USB_PORT_RESET_END (R376): the chirp has found the device's speed. -/
def execUsbPortResetEnd (n : Fin 8) (speed : Fin 3) (s : State) : Out :=
  onHub (fun s =>
    let n := n.val
    if !s.flag (Reg.USBH_PORT_STAT_RESETTING n) then s
    else
      let s := (List.range 256).foldl (fun (s : State) c =>
        if s.ctxOn c n then s.withUsbCtx c fun x => { x with halted := false, toggle := false, errors := 0 } else s) s
      let s := (s.put (Reg.USBH_PORT_STAT_RESETTING n) false).put (Reg.USBH_PORT_STAT_ENABLED n) true
      (s.wr (Reg.USBH_PORT_STAT_SPEED n) speed.val).usbChange n (Reg.USBH_PORT_STAT_C_RESET n)) s

/-- SUSPEND (R378): SOF stops at the next boundary. -/
def State.usbSuspend (s : State) (n : Nat) : State :=
  if s.usbSof n then s.withUsbPort n fun x => { x with suspendDue := true } else s

/-- USB_PORT_SUSPEND. -/
def execUsbPortSuspend (n : Fin 8) (s : State) : Out := onHub (fun s => s.usbSuspend n.val) s

/-- RESUME (R378, R379). -/
def State.usbResume (s : State) (n : Nat) : State :=
  if !s.flag (Reg.USBH_PORT_STAT_SUSPENDED n) || s.flag (Reg.USBH_PORT_STAT_RESUMING n) then s
  else ((s.put (Reg.USBH_PORT_STAT_RESUMING n) true).withUsbPort n fun x => { x with waking := false }).emit (.usb n "resume K" [] [])

/-- USB_PORT_RESUME. -/
def execUsbPortResume (n : Fin 8) (s : State) : Out := onHub (fun s => s.usbResume n.val) s

/-- USB_RESUME_END (R378). -/
def execUsbResumeEnd (n : Fin 8) (s : State) : Out :=
  onHub (fun s =>
    let n := n.val
    if !s.flag (Reg.USBH_PORT_STAT_RESUMING n) then s
    else
      let s := (s.put (Reg.USBH_PORT_STAT_RESUMING n) false).put (Reg.USBH_PORT_STAT_SUSPENDED n) false
      (s.withUsbPort n fun x => { x with waking := false, byMode := false }).usbChange n (Reg.USBH_PORT_STAT_C_PORT_SUSPEND n)) s

/-- A device on port `n` drives K (R378, R379). -/
def State.usbDeviceWake (s : State) (n : Nat) : State :=
  let s := if (s.usbPort n).suspendDue then
      (s.put (Reg.USBH_PORT_STAT_SUSPENDED n) true).withUsbPort n fun x => { x with suspendDue := false }
    else s
  let honored := s.flag (Reg.USBH_PORT_CTRL_WAKE_EN n)
  if !s.flag (Reg.USBH_PORT_STAT_SUSPENDED n) then s
  else if s.flag (Reg.USBH_PORT_STAT_RESUMING n) then
    if (s.usbPort n).waking then s
    else (s.usbChange n (Reg.USBH_PORT_STAT_WAKE_SEEN n)).notice 0x0D02 [byte n, byte (b2n honored + 2)]
  else if !honored then s.count (usbCounter n 4)
  else
    let s := (s.put (Reg.USBH_PORT_STAT_RESUMING n) true).withUsbPort n fun x => { x with waking := true }
    ((s.emit (.usb n "resume K" [] [])).usbChange n (Reg.USBH_PORT_STAT_WAKE_SEEN n)).notice 0x0D02 [byte n, 1]

/-- USB_PORT_DISABLE (R377). -/
def execUsbPortDisable (n : Fin 8) (s : State) : Out := onHub (fun s => s.usbDisable n.val 6) s

/-- USB_CONNECT_CHANGE (R377). -/
def execUsbConnectChange (n : Fin 8) (present : Bool) (s : State) : Out :=
  onHub (fun s =>
    let n := n.val
    if s.flag (Reg.USBH_PORT_STAT_CONNECT n) == present then s
    else
      let s := s.put (Reg.USBH_PORT_STAT_CONNECT n) present
      let s := if present then s
        else
          let s := (s.usbDisable n 6).wr (Reg.USBH_PORT_STAT_SPEED n) 3
          let s := (s.put (Reg.USBH_PORT_STAT_SUSPENDED n) false).put (Reg.USBH_PORT_STAT_RESUMING n) false
          (s.put (Reg.USBH_PORT_STAT_RESETTING n) false).withUsbPort n fun x => { x with resetDue := false, waking := false }
      s.usbChange n (Reg.USBH_PORT_STAT_C_CONNECT n)) s

/-- Overcurrent on port n begins or ends (R358, R377). -/
def State.usbOver (s : State) (n : Nat) (high : Bool) : State :=
  if s.flag (Reg.USBH_PORT_STAT_OVERCURRENT n) == high then s
  else
    let s := s.put (Reg.USBH_PORT_STAT_OVERCURRENT n) high
    let s := if high then
        let s := if 4 ≤ n then (s.put (Reg.USBH_PORT_CTRL_POWER n) false).pin ("USBH" ++ toString n ++ "_VBUS_EN") 0 else s
        s.usbDisable n 6
      else s
    s.usbChange n (Reg.USBH_PORT_STAT_C_OVERCURRENT n)

/-- USB_OVERCURRENT (R358). -/
def execUsbOvercurrent (n : Fin 8) (high : Bool) (s : State) : Out := onHub (fun s => s.usbOver n.val high) s

/-- USB_RING_FULL_TIMEOUT (R390). -/
def execUsbRingFullTimeout (n : Fin 8) (s : State) : Out :=
  onHub (fun s => if (s.usbPort n.val).held != [] then s.notice 0x0D04 [byte n.val, 2] else s) s

/-! Modes (R380, R542) -/

/-- A port reset or resume is in progress (R542). -/
def State.usbhBusy (s : State) : Bool :=
  (List.range 8).any fun n => s.flag (Reg.USBH_PORT_STAT_RESETTING n) || s.flag (Reg.USBH_PORT_STAT_RESUMING n) || (s.usbPort n).resetDue

/-- Entry to IDLE or STANDBY: every enabled port suspends. -/
def State.usbSuspendAll (s : State) : State :=
  (List.range 8).foldl (fun (s : State) n =>
    if s.usbSof n then (s.usbSuspend n).withUsbPort n fun x => { x with byMode := true } else s) s

/-- Leaving IDLE: the ports that the entry suspended resume. -/
def State.usbResumeAll (s : State) : State :=
  (List.range 8).foldl (fun (s : State) n => if (s.usbPort n).byMode then s.usbResume n else s) s

end Sys2Proof.Machine
end

