-- ==== Sys2Proof/Machine/Units.lean ====
section
/-!
DEFINITION. What modes, tests, map-outs and memory errors do to the units: the conditions of the ask phase, what is
discarded at an entry, how ports suspend and resume (R29, R30, R35, R37, R542, R545, R548).
-/

namespace Sys2Proof.Machine

/-- A control transfer, or an unread reply, is in progress on USBS (R542). -/
def State.usbsUnready (s : State) : Bool := s.usb.dev.ctrl.isSome || s.cmd.usbsReply.isSome

/-- A map load is in progress (R542). -/
def State.pointLoading (s : State) : Bool := s.point.load.isSome

/-! Non-trunk outputs (R545 step 2) -/

/-- The segments with a copy for an output that is not a trunk, with those outputs. -/
def State.localCopies (s : State) : List (Nat × Nat) :=
  s.sw.held.flatMap fun e => match e.2 with
    | some h => (h.dests.filter (4 ≤ ·)).map fun o => (e.1, o)
    | none => []

/-- Every output queue but the trunks' is empty. -/
def State.outputsEmpty (s : State) : Bool := s.localCopies == []

/-- One copy for output o leaves its queue and is discarded and counted. -/
def State.discardCopy (s : State) (id o : Nat) : State :=
  match s.seg? id with
  | none => s
  | some h =>
    let s := if (s.voq h.input o h.cls).contains id then s.dequeueSeg h.input o h.cls id h.cells else s
    let s := s.setResidue h.input ((s.residue h.input).filter fun r => !(r.id == id && r.output == o))
    let last : Bool := h.dests.filter (· != o) == []
    let s := if last || s.perf.comets.any (fun c => c.seg == id && c.output == o) then s.cometEnd id 7 else s
    let s := if last && (s.mcq h.input h.cls).contains id then
        (s.setMcq h.input h.cls ((s.mcq h.input h.cls).filter (· != id))).setMcDepth h.input h.cls
          (s.mcDepth h.input h.cls - h.cells)
      else s
    (s.count (0x061 + 8 * o)).copyGone id o

/-- What remains in them is discarded and counted. -/
def State.discardOutputs (s : State) : State := s.localCopies.foldl (fun (s : State) e => s.discardCopy e.1 e.2) s

/-- A segment is discarded whole. -/
def State.discardSegment (s : State) (id : Nat) : State :=
  match s.seg? id with
  | none => s
  | some h => h.dests.foldl (fun (s : State) o => s.discardCopy id o) s

/-! Ports at mode changes (R545 steps 4 and 5) -/

/-- The ports suspend. -/
def State.portsSuspend (s : State) : State := (((s.pcieSuspend).usbSuspendAll).dpSuspend).ethSuspend

/-- The ports resume. -/
def State.portsResume (s : State) : State := ((((s.usbResumeAll).pcieResume).dpResume).ethResume).pointState

/-- In RECOVERY CH2 to CH7 and the source ports are off (R30). -/
def State.recoveryPorts (s : State) : State := (s.tcFollowAll).fusesFollow

/-! Units out of service and back (R35, R37, R548) -/

/-- A unit has been mapped out or has entered test: its own activity stops. -/
def State.unitStops (s : State) (u : Nat) : State :=
  if u == 0x20 || u == 0x21 then s.sendLevels (u - 0x20)
  else if u == 0x50 then s.pointState
  else s.dspOut u

/-- A unit returns to service and re-initializes. -/
def State.unitReturns (s : State) (u : Nat) : State :=
  if u == 0x20 || u == 0x21 then s.pcieRetrain (u - 0x20)
  else if 0x48 ≤ u && u ≤ 0x4F then (if s.flag (Reg.ETH_CTRL_EN (u - 0x48)) then s.emit (.eth (u - 0x48) "start" [] []) else s)
  else if u == 0x50 then s.pointState
  else s.dspIn u

/-! The intake supervisor (R501) -/

/-- EFU_INTAKE follows the window of CH0, INTAKE reports the change, and CH0 follows.  `reason` is 1 below the window and
2 above it. -/
def State.intakeWindow (s : State) (ok : Bool) (vin reason : Nat) : State :=
  let s := ((s.put Reg.EFU_INTAKE_OK ok).put Reg.EFU_INTAKE_UV (!ok && reason == 1)).put Reg.EFU_INTAKE_OV (!ok && reason == 2)
  let s := (s.wr Reg.EFU_INTAKE_VIN (min 0xFFFF vin)).wr (Reg.EFU_CH_VOLT_VIN 0) (min 0xFFFF vin)
  let s := s.notice 0x0845 ([byte (b2n ok), byte (if ok then 0 else reason)] ++ le 2 (min 0xFFFF vin))
  (s.put (Reg.EFU_CH_STAT_WINDOW 0) ok).fuseFollow 0

/-! USBS at the start of the hub die (R381) -/

/-- VBUS is present on TCS. -/
def State.tcsPresent (s : State) : Bool := s.rd Reg.TCPD_TCS_STAT_STATE != 0

/-- USBS attaches or detaches as VBUS and EN say: at an attach it is powered, and HS_EN is applied. -/
def State.usbsAttach (s : State) : State :=
  let s := s.put Reg.USBS_STAT_VBUS s.tcsPresent
  if s.tcsPresent && s.flag Reg.USBS_CTRL_EN then
    if s.rd Reg.USBS_STAT_STATE != 0 then s
    else
      let hs := s.flag Reg.USBS_CTRL_HS_EN
      { s with usb := { s.usb with dev := { s.usb.dev with hsAllowed := hs } } }.wr Reg.USBS_STAT_STATE 1
  else
    let s := ((s.wr Reg.USBS_STAT_STATE 0).wr Reg.USBS_STAT_ADDRESS 0).put Reg.USBS_STAT_HS false
    let s := (s.put Reg.USBS_STAT_RWAKE_EN false).put Reg.USBS_STAT_SUSPENDED false
    { s with usb := { s.usb with dev := { s.usb.dev with ctrl := none, ep3 := none, slices := none } } }

/-! Double-bit errors (R29) -/

/-- A copy of a queue's index is lost (R83, R87): the second copy of W, F, C or M of queue `q` no longer agrees. -/
def State.indexLost (s : State) (q i : Nat) : State :=
  let x := s.queue q
  let flip (v : Nat) : Nat := v ^^^ 3
  s.setQueue q (match i % 4 with
    | 0 => { x with w2 := flip x.w }
    | 1 => { x with f2 := flip x.f }
    | 2 => { x with c2 := flip x.c }
    | _ => { x with m2 := flip x.m })

/-- The data of the transfer at the head of port `n` that stand in endpoint memory are lost. -/
def State.endpointLost (s : State) (n : Nat) : State :=
  s.withUsbPort n fun x => { x with tds := match x.tds with
    | t :: l => { t with got := zeros t.got.length, out := zeros t.out.length } :: l
    | [] => [] }

/-- The item that held the word is discarded: a segment of the switch buffer, a descriptor of the point map, a 256-byte part
of a point image, a scan-out line, the data of a USB transfer, an entry of a tunnel table, or an entry of a standard queue
or a copy of one of its indices (DESIGN CHOICE, log entry 65). -/
def State.discardItem (s : State) (m i : Nat) : State :=
  match m with
  | 0 => s.discardSegment i
  | 1 => { s with point := { s.point with map := Table.set (fun _ => 0) s.point.map i 0 } }
  | 2 =>
    if i < 4096 then { s with point := { s.point with outImg := Table.set (fun _ => zeros 256) s.point.outImg i (zeros 256) } }
    else { s with point := { s.point with inImg := Table.set (fun _ => zeros 256) s.point.inImg (i - 4096) (zeros 256) } }
  | 3 => s.withPipe (i / 8192 % 2) fun x => { x with lines := x.lines.filter fun l => l.n != i % 8192 }
  | 4 => s.endpointLost (i % 8)
  | 6 => if i < 1024 && s.tidValid i then s.removeEntry i else s
  | 7 =>
    let q := i / 4096 % 4
    let x := s.queue q
    if 16384 ≤ i then s.indexLost q i
    else s.setQueue q { x with slots := Table.set (fun _ => []) x.slots (i % 4096 % queueCap q) (zeros (queueBytes q)) }
  | _ => s

end Sys2Proof.Machine
end

