-- ==== Sys2Proof/Machine/Power.lean ====
section
/-!
DEFINITION. Power, resets, boot and modes: what the Nib, the ROM, Scribe and the mode sequencer do on each event and
command of chapters 1, 16 and 18 (R22 to R46, R525 to R557, R587 to R590, R598 to R600, R655).
-/

namespace Sys2Proof.Machine

/-! Power die -/

/-- POWER_ON (R549, R653): both dies take their reset values, and the tamper latch sets again when TAMPER_N is low
(R573).  TCS as the source that started it shows in DEAD_BATT (R490). -/
def execPowerOn (tcs : Bool) (s : State) : Out :=
  .next (if s.nib.on then s
    else
      let t : State := { pending := s.pending, out := s.out, fresh := s.fresh, pins := s.pins, nv := s.nv }
      (t.withNib fun n => { n with tamperLatch := !s.pins.tamperN }).put Reg.TCPD_TCS_STAT_DEAD_BATT tcs)

/-- POWER_DIE_STOP (R653): every power-die state is lost, and with it the hub die's power. -/
def execPowerDieStop (s : State) : Out :=
  .next (if s.nib.on then
      let t := s.hubClear false
      { pending := t.pending, out := t.out, fresh := t.fresh, pins := t.pins, nv := t.nv, nib := { on := false } }
    else s)

/-! Rails (R526, R527) -/

/-- RAIL_PG_RISE: the PS_PG of the rail last enabled rises. -/
def execRailPgRise (s : State) : Out :=
  onNib (fun s =>
    if s.nib.stage != .rising then s
    else
      let x := s.nib.rails - 1
      let s := s.wr Reg.PWR_STAT_RAIL_PG (setBit (s.rd Reg.PWR_STAT_RAIL_PG) x)
      if s.nib.rails < 6 then
        (s.withNib fun n => { n with rails := n.rails + 1 }).emit (.power "rail on" [x + 1])
      else s.withNib fun n => { n with stage := .held }) s

/-- RAIL_PG_FAULT: the rail being enabled does not report within 5 ms, or a rail's PS_PG falls while the hub die runs
or its reset is held. -/
def execRailPgFault (rail : Fin 6) (s : State) : Out :=
  onNib (fun s =>
    if (s.nib.stage == .rising && rail.val + 1 == s.nib.rails) || s.hubOn || s.nib.stage == .held then s.railFault rail
    else s) s

/-- Damya is in STANDBY. -/
def State.standbyEntered (s : State) : State := (s.tcsPathOff).withNib fun n => { n with standby := true }

/-- What follows once every rail is down.  The intake and TCS are looked at again, since they may have changed while the
rails fell (R40, R528, R529, R541). -/
def State.railsAreDown (s : State) : State :=
  let s := (s.withNib fun n => { n with stage := .off, offMin := true }).wr Reg.PWR_STAT_SEQ 0
  let onTcs : Bool := !s.intakeOk && s.tcsLevel
  match s.nib.after with
  | .standby =>
    let s := s.standbyEntered
    if onTcs then s.startOnTcs else s.servePending
  | .faulted => s.standbyEntered.servePending
  | .powerCycle =>
    if s.intakeOk || s.nib.onTcs then s.withNib fun n => { n with upDue := true }
    else if onTcs then s.startOnTcs else s.standbyEntered
  | .recoveryOnTcs =>
    if onTcs then s.startOnTcs
    else if s.intakeOk then s.standbyEntered.intakeWakes else s.standbyEntered
  | .returnToIntake =>
    if s.intakeOk then s.tcsPathOff.startUp
    else if onTcs then s.startOnTcs else s.standbyEntered

/-- RAIL_PG_FALL: the next rail in descending order is disabled. -/
def execRailPgFall (s : State) : Out :=
  onNib (fun s =>
    if s.nib.stage != .falling then s
    else
      let x := s.nib.rails
      let s := s.wr Reg.PWR_STAT_RAIL_PG (clearBit (s.rd Reg.PWR_STAT_RAIL_PG) x)
      if x == 0 then s.railsAreDown
      else (s.withNib fun n => { n with rails := x - 1 }).emit (.power "rail off" [x - 1])) s

/-- RAILS_OFF_MIN_END (R545): a pending power cycle or wake brings the rails up. -/
def execRailsOffMinEnd (s : State) : Out :=
  onNib (fun s =>
    let s := s.withNib fun n => { n with offMin := false }
    if s.nib.stage == .off && s.nib.upDue then (s.withNib fun n => { n with upDue := false }).startUp else s.nibStep) s

/-- TCS_PATH_SETTLE_END (R526). -/
def execTcsPathSettleEnd (s : State) : Out :=
  onNib (fun s =>
    if s.nib.pathSettling && s.nib.stage == .off then
      (s.withNib fun n => { n with pathSettling := false }).railsRise
    else s) s

/-! Leaving reset: the ROM -/

/-- The level that the majority of a strap's seven samples show (R630). -/
def majority (x : BitVec 7) : Bool := ((List.range 7).filter fun i => x.getLsbD i).length ≥ 4

/-- MODE_CHANGED for the start (R42): after a stay in STANDBY the old mode is STANDBY, with cause wake, or boot for a
start of the recovery domain. -/
def State.startModeChanged (s : State) (new : Nat) : State :=
  match s.nib.fromStandby with
  | some w => s.modeChanged 1 new (if w then 1 else 4)
  | none => s.modeChanged 0xF new 4

/-- The notices of a start (R655), up to MODE_CHANGED, and then those of R74 and R557 that the list does not name. -/
def State.startNotices (s : State) (new : Nat) : State :=
  let s := s.notice 0x0805 ([byte (s.rd Reg.PWR_RSTCAUSE_CAUSE), byte (s.rd Reg.PWR_RSTCAUSE_DETAIL)] ++
    le 2 (s.rd Reg.PWR_RSTCAUSE_COUNT))
  let s := if s.nib.aborted then s.notice 0x0801 s.refusalDetail else s
  let s := if s.nib.railNotice then s.notice 0x0806 [byte (s.rd Reg.PWR_STAT_RAIL)] else s
  let s := if s.nib.xtalNotice then s.notice 0x0807 else s
  let s := ((List.range 16).filter fun i => bit s.ink.otpErr i).foldl (fun s i => s.keyChanged i 4) s
  let s := match s.fw.settingsReset with
    | some (r, f) => s.notice 0x0605 ([byte r] ++ le 2 f)
    | none => s
  let s := match s.nv.fallbackDue with
    | some (k, v, r) => s.notice 0x0602 ([byte k, byte (if new == 0 then 0xFF else s.fw.slot), byte r] ++ le 4 v)
    | none => s
  let s := s.startModeChanged new
  let s := s.withNib fun n => { n with aborted := false, railNotice := false, xtalNotice := false, fromStandby := none }
  let s := s.nib.lostSessions.foldl (fun s h => s.notice 0x0201 [byte h, 3]) s
  let s := { s with nv := { s.nv with fallbackDue := none } }
  (s.withNib fun n => { n with lostSessions := [] }).withFw fun f => { f with settingsReset := none }

/-- WAKE is raised for the wake that ended the mode (R557). -/
def State.wakeNotice (s : State) : State :=
  match s.nib.wakeOf with
  | some (b, m, h) => (s.withNib fun n => { n with wakeOf := none }).notice 0x0802 [byte b, byte m, byte (b2n h)]
  | none => s

/-- The ROM enters RECOVERY (R598, R600); a station's TRK0 comes up at x1 with TID 0 only (R30). -/
def State.enterRecovery (s : State) (reason : Nat) : State :=
  let s := ((s.withNib fun n => { n with stage := .up }).wr Reg.PWR_STAT_SEQ 4).wr Reg.FWU_STAT_REC_REASON reason
  let s := (s.setMode 0).recoveryPorts
  let s := if s.isRoot then s else ((s.baseTunnel 0).wr (Reg.TRL_CTRL_WIDTH_MAX 0) 0).trunkStart 0
  ((s.startNotices 0).notice 0x0606 [byte reason]).wakeNotice

/-- Why the ROM has no image to run (R600). -/
def State.recoveryReason (s : State) : Nat :=
  if s.nib.onTcs then 5 else if !s.nv.flashOk then 3 else if (s.keySlot 0).isNone then 4 else 2

/-- HUB_RESET_RELEASE (R526): the straps are taken (R2, R630), OTP is loaded (R558, R566), and the ROM chooses an image
(R587) or enters RECOVERY. -/
def execHubResetRelease (role forceRec mgmtMode : BitVec 7) (s : State) : Out :=
  onNib (fun s =>
    if s.nib.stage != .held then s
    else
      let s := { s with pins := { s.pins with mgmtI2c := majority mgmtMode } }
      let s := ((s.put Reg.SYS_MODE_ROLE (majority role)).put Reg.SYS_MODE_FORCE_REC (majority forceRec)).put
        Reg.SYS_MODE_INTAKE_OK s.intakeOk
      let s := (s.withNib fun n => { n with stage := .rom }).wr Reg.PWR_STAT_SEQ 2
      let s := ((((s.loadOtp).poolReset).laneRole).pcieRole).usbsAttach
      if majority forceRec then s.enterRecovery 1
      else if s.nib.onTcs then s.enterRecovery 5
      else match s.chooseImage with
        | (s, some (k, trial)) => s.withFw fun f => { f with slot := k, trial := trial }
        | (s, none) => s.enterRecovery s.recoveryReason) s

/-- IMAGE_AUTHENTICATED (R589): the Scribe section runs and the settings are read.  With `good` false a section has
failed its check, and the start ends in a hub-die reset with cause FATAL_UNIT and unit 0x01. -/
def execImageAuthenticated (good : Bool) (s : State) : Out :=
  onHub (fun s =>
    if s.nib.stage != .rom then s
    else match s.imagePlain s.fw.slot with
      | none => s.hubReset 0x07 0x01
      | some plain =>
        if !good then s.hubReset 0x07 0x01
        else
          let s := s.runImage s.fw.slot s.fw.trial plain
          (s.withNib fun n => { n with stage := .scribe }).readSettings) s

/-- The trunks that the TRUNK_AUTO setting names (R175). -/
def State.trunkAuto (s : State) (t : Nat) : Bool :=
  let v := s.setting 0x0002
  if v == 0xFF then t == 0 || !s.isRoot else bit v t

/-- Begins the move into RUN or DEGRADED (R545): forcing ends and the point changes first. -/
def State.startRun (s : State) (cause : Nat) : State :=
  let s := (s.beginMode (if s.flag Reg.SYS_MODE_DEGR then 4 else 3)).put Reg.CLK_OP_FORCED false
  (s.withNib fun n => { n with seq := .fast cause }).opChange 1

/-- Steps 2 and 3 of the move into RUN: the switch clocks start, and the enabled trunks leave DARK. -/
def State.runClocks (s : State) (cause : Nat) : State :=
  let s := s.withNib fun n => { n with seq := .trunks cause }
  [0, 1].foldl (fun s t => if s.flag (Reg.TLK_CTRL_ENABLED t) then s.trunkLeaveDark t else s) s

/-- Every OP_SET that waits is answered with CLK_OP (R547). -/
def State.answerOpSet (s : State) : State :=
  let rs := s.nib.opWaiters
  let s := s.withNib fun n => { n with opWaiters := [] }
  rs.foldl (fun s r => s.answer r Status.ok (le 4 (s.reg Reg.CLK_OP_A).toNat)) s

/-- The entry to IDLE completes (R544, R545): MODE changes, and a held wake is served at once. -/
def State.idleEntered (s : State) : State :=
  let old := s.mode
  let s := ((s.withNib fun n => { n with seq := .none }).setMode 2).modeChanged old 2 0
  match s.nib.heldWake with
  | some b => ((s.withNib fun n => { n with heldWake := none }).wakeServed b 2 true).startRun 1
  | none => s

/-- A change of point has nothing left to do: OP_SET is answered, and the transition that waited goes on. -/
def State.opSettled (s : State) : State :=
  if s.rd Reg.CLK_OP_STEP != 0 then s
  else
    let s := s.answerOpSet
    match s.nib.seq with
    | .slow =>
      let s := s.idleEntered
      match s.nib.seq with
      | .fast c => if s.rd Reg.CLK_OP_STEP == 0 then s.runClocks c else s
      | _ => s
    | .fast c => s.runClocks c
    | _ => s

/-- BOOT_COMPLETE (R589): the other sections are loaded, the saved PD table and eFuse profiles take effect (R482,
R519), units whose start-up self-test failed are mapped out (R35), the trunks are enabled (R175), and the notices of the
start come in the order of R655.  AUTO_RUN goes on to RUN.  With `good` false a section has failed its digest. -/
def execBootComplete (good : Bool) (failed : List Nat) (s : State) : Out :=
  onHub (fun s =>
    if s.nib.stage != .scribe then s
    else if !good then s.hubReset 0x07 0x01
    else
      let s := s.withNib fun n => { n with stage := .up }
      let vr := s.setting 0x0009
      let s := ((s.wr Reg.CLK_OP_TARGET (s.setting 0x0008)).wr Reg.CLK_VR_IF (vr % 256)).wr Reg.CLK_VR_PMBUS_ADDR (vr / 256)
      let s := ((s.wr Reg.TUN_CTRL_LINE_AUTO (s.setting 0x0003)).timeMasterBoot).baseTunnels
      let (seed, s) := s.free 32
      let s := s.withPerf fun p => { p with lfsr := orOne seed }
      let s := s.pdLoadSaved ((s.settingRecord 0x0010).getD (zeros 80))
      let s := (List.range 8).foldl (fun s n => match s.settingRecord (0x0020 + n) with
        | some p => s.loadProfile n p
        | none => s) s
      let s := (s.tcFollowAll).fusesFollow
      let s := (failed.filter fun u => (unitBit s.isRoot u).isSome).foldl State.mapOut s
      let s := [0, 1].foldl (fun s t => if s.trunkAuto t then s.trunkStart t else s) s
      let s := (s.startNotices 2).wakeNotice
      if s.setting 0x0001 == 1 then (s.startRun 4).opSettled else s) s

/-! Intake and TCS -/

/-- The intake leaves CH0's window (R528): the hub die is reset and taken down, and the recovery domain starts on TCS where
R40 allows it.  `vin` is in 10 mV, `reason` 1 under-voltage or 2 over-voltage. -/
def State.intakeLeave (s : State) (vin reason : Nat) : State :=
  if !s.intakeOk then s
  else
    let powered := s.nib.stage != .off && s.nib.stage != .falling && !s.nib.onTcs
    let s := (s.intakeWindow false vin reason).put Reg.SYS_MODE_INTAKE_OK false
    let s := if s.tcsLevel then s.tcsSource true else s
    if powered then
      let s := (s.abortEntry 0xFF).recordCause 0x0A
      let s := s.withNib fun n => { n with standbyCmd := false }
      if s.tcsLevel then s.railsDown .recoveryOnTcs else s.railsDown .standby
    else if s.nib.stage == .off then
      let s := s.withNib fun n => { n with startDue := !n.standby && (n.startDue || n.upDue), upDue := n.upDue && n.onTcs }
      if s.tcsLevel && !s.nib.onTcs then s.startOnTcs else s
    else s

/-- The intake enters its window (R529): from RECOVERY on TCS the rails go down and come up on the intake; in STANDBY the
INTAKE source and held wakes act. -/
def State.intakeEnter (s : State) (vin : Nat) : State :=
  if s.intakeOk then s
  else
    let s := ((s.intakeWindow true vin 0).put Reg.SYS_MODE_INTAKE_OK s.hubOn).tcsSource false
    if s.nib.onTcs then
      let s := s.recordCause 0x0A
      let s := s.withNib fun n => { n with fromStandby := none }
      if s.nib.stage == .off then (s.tcsPathOff.withNib fun n => { n with upDue := false }).startUp
      else s.railsDown .returnToIntake
    else if s.nib.stage == .off && !s.nib.startDue && !s.nib.upDue then s.intakeWakes
    else s

/-- INTAKE_WINDOW_LEAVE (R528). -/
def execIntakeWindowLeave (vin : Nat) (reason : Fin 3) (s : State) : Out := onNib (fun s => s.intakeLeave vin reason) s

/-- INTAKE_WINDOW_ENTER (R529). -/
def execIntakeWindowEnter (vin : Nat) (s : State) : Out := onNib (fun s => s.intakeEnter vin) s

/-- The supply on TCS has fallen below the level of R40 while the recovery domain runs on it: STANDBY (R39, R40). -/
def State.tcsLost (s : State) : State :=
  let s := if s.intakeOk then s else s.tcsSource false
  if s.nib.onTcs then
    let s := (s.abortEntry 0xFF).withNib fun n => { n with standbyCmd := false }
    let s := (s.tcsPathOff).railsDown .standby
    if s.nib.stage == .off then s.standbyEntered else s
  else s.withNib fun n => { n with tcsDue := false }

/-- TCS has come to the level of R40 with the intake outside its window: the recovery domain starts. -/
def State.tcsRises (s : State) : State :=
  if s.intakeOk || !s.tcsLevel || s.nib.onTcs then s
  else
    let s := s.tcsSource true
    if s.nib.stage == .off then s.startOnTcs else s

/-- TCS_VBUS_LOSS (R39, R40): the TCS contract falls below the level of R40 with the intake absent. -/
def execTcsVbusLoss (s : State) : Out :=
  onNib (fun s =>
    if s.intakeOk then s
    else
      let s := ((s.wr Reg.TCPD_TCS_STAT_STATE 0).wr Reg.TCPD_TCS_STAT_CONTRACT_MW 0).wr Reg.TCPD_TCS_STAT_RP_SEEN 3
      (s.wr Reg.TCPD_TCS_STAT_PDO 0).tcsLost) s

/-- XTAL_STOP (R531). -/
def execXtalStop (s : State) : Out :=
  onNib (fun s => (s.put Reg.PWR_STAT_XTAL_OK false).withNib fun n => { n with xtalNotice := true }) s

/-! Wakes (R539 to R544) -/

/-- A wake source fires. -/
def State.wake (s : State) (b : Nat) : State :=
  if s.nib.stage == .off then
    if !s.wakeEnabled 1 b then s
    else if b == 4 && !s.intakeOk then s
    else if s.intakeOk && !s.nib.thermalHold && !s.nib.upDue && !s.nib.startDue then s.wakeStandby b false
    else s.holdWake b
  else if s.nib.stage == .falling then
    if (s.nib.after == .standby || s.nib.after == .faulted) && s.wakeEnabled 1 b then
      (s.holdWake b).withNib fun n => { n with heldWake := some (n.heldWake.getD b) }
    else s
  else if s.inEntry then
    if s.wakeEnabled (s.rd Reg.SYS_MODE_TARGET) b then
      (s.holdWake b).withNib fun n => { n with heldWake := some (n.heldWake.getD b) }
    else s
  else if s.serving && s.mode == 2 && !s.flag Reg.SYS_MODE_TRANS && s.wakeEnabled 2 b then
    ((s.wakeServed b 2 false).startRun 1).opSettled
  else s

/-- WAKE_SOURCE_FIRE (R539): source b fires, or with `fires` false its ball is released.  For the two level sources,
WAKE_N and MGMT_CS_N, the ball's level is what the ask phase reads (R542). -/
def execWakeSourceFire (b : Fin 14) (fires : Bool) (s : State) : Out :=
  onNib (fun s =>
    let s := if b.val == 1 then { s with pins := { s.pins with wakeN := !fires } }
      else if b.val == 0 then { s with pins := { s.pins with mgmtCsN := !fires } } else s
    if fires then s.wake b else s) s

/-- STANDBY_ALARM_EXPIRY (R539): PWR_ALARM.SECONDS after STANDBY entry; 0 disables it. -/
def execStandbyAlarmExpiry (s : State) : Out :=
  onNib (fun s => if s.nib.stage == .off && s.rd Reg.PWR_ALARM_SECONDS != 0 then s.wake 2 else s) s

/-! Temperature (R536) -/

/-- The sensor reads Tj. -/
def State.tempRead (s : State) (tj : BitVec 8) : State :=
  let s := s.wr Reg.CLK_TEMP_TJ tj.toNat
  if (BitVec.ofNat 8 (s.rd Reg.CLK_TEMP_MAX)).toInt < tj.toInt then s.wr Reg.CLK_TEMP_MAX tj.toNat else s

/-- WARN as the sensor's two's complement. -/
def State.warnLevel (s : State) : Int := (BitVec.ofNat 8 (s.rd Reg.CLK_TEMP_WARN)).toInt

/-- THERMAL_WARN: a reading of Tj above WARN raises THERMAL once; 5 °C below WARN arms it again. -/
def execThermalWarn (tj : BitVec 8) (s : State) : Out :=
  onHub (fun s =>
    let s := s.tempRead tj
    if tj.toInt > s.warnLevel && s.nib.warnArmed then
      (s.withNib fun n => { n with warnArmed := false }).notice 0x0804 [0, tj]
    else if tj.toInt ≤ s.warnLevel - 5 then s.withNib fun n => { n with warnArmed := true }
    else s) s

/-- THROTTLE_ON. -/
def execThrottleOn (tj : BitVec 8) (s : State) : Out :=
  onHub (fun s =>
    let s := s.tempRead tj
    if tj.toInt ≥ 125 && s.flag Reg.CLK_TEMP_THROTTLE_EN && !s.flag Reg.CLK_OP_THROTTLE then
      ((((s.put Reg.CLK_OP_THROTTLE true).count 0x2CA).notice 0x0804 [1, tj]).opChange 2).opSettled
    else s) s

/-- THROTTLE_OFF: Tj has stayed below 120 °C for 1 s. -/
def execThrottleOff (tj : BitVec 8) (s : State) : Out :=
  onHub (fun s =>
    let s := s.tempRead tj
    if tj.toInt < 120 && s.flag Reg.CLK_OP_THROTTLE then
      (((s.put Reg.CLK_OP_THROTTLE false).notice 0x0804 [2, tj]).opChange 3).opSettled
    else s) s

/-- THERMAL_SHUTDOWN: Tj at 135 °C for 1 ms.  A takedown under way goes on, and ends in STANDBY (R654). -/
def execThermalShutdown (s : State) : Out :=
  onNib (fun s =>
    if s.nib.stage == .off then s
    else
      let s := (s.abortEntry 0xFE).recordCause 0x09
      (s.withNib fun n => { n with thermalHold := true, standbyCmd := false }).railsDown .standby) s

/-- THERMAL_POLL: the Nib reads Tj while the hub die is down, and below 105 °C serves what was held. -/
def execThermalPoll (tj : BitVec 8) (s : State) : Out :=
  onNib (fun s =>
    if s.nib.stage == .off && s.nib.thermalHold && tj.toInt < 105 then
      (s.withNib fun n => { n with thermalHold := false }).servePending
    else s) s

/-! Resets (R549 to R551) -/

/-- RESET_PIN (R654): while the hub die is unpowered or its rails move, RESET_N is ignored. -/
def execResetPin (s : State) : Out := onHub (fun s => s.hubReset 0x05) s

/-- WATCHDOG_EXPIRY (R551): the first forces a hitless restart, a second within 10 s a hub-die reset. -/
def execWatchdogExpiry (s : State) : Out :=
  onHub (fun s =>
    let second : Bool := match s.nib.watchdogAt with
      | some t => decide (s.mer.raw ≤ t + 10 * rawSecond)
      | none => false
    if second then s.hubReset 0x06
    else if s.serving && s.mode != 0 then
      ((s.withNib fun n => { n with watchdogAt := some s.mer.raw }).bump Reg.PWR_WDOG_HITLESS).beginRestart 1 s.fw.slot
    else s) s

/-- FATAL_UNIT_ERROR (R38, R549): units 0x01 to 0x08. -/
def execFatalUnitError (u : Fin 9) (s : State) : Out :=
  onHub (fun s => if u.val == 0 then s else s.hubReset 0x07 u) s

/-- D2D_LINK_FAIL (R24): eFuses and contracts hold, and the Nib resets the hub die. -/
def execD2dLinkFail (s : State) : Out := onHub (fun s => s.hubReset 0x08) s

/-- The register block that names a memory in SRAM_UNCORRECTABLE (R29, R95).  Scribe memory has no block of its own; SYS stands
for it (DESIGN CHOICE, log entry 64). -/
def sramBlock (m : Nat) : Nat := [0x0030, 0x0080, 0x0080, 0x0050, 0x0062, 0x0000, 0x0020, 0x00D2].getD m 0

/-- SRAM_DOUBLE_BIT_ERROR (R29).  Memory m as the event counters number them (R606).  A single-bit error, `double`
false, is corrected and counted.  A double-bit one discards the item at `index`, raises SRAM_UNCORRECTABLE, and in
Scribe memory forces a hitless restart. -/
def execSramDoubleBitError (m : Fin 8) (double : Bool) (index : Nat) (s : State) : Out :=
  onHub (fun s =>
    if !double then s.count (0x010 + m.val)
    else
      let s := ((s.count (0x018 + m.val)).discardItem m index).notice 0x0301 (le 2 (sramBlock m))
      if m.val == 5 && s.serving && s.mode != 0 then s.beginRestart 2 s.fw.slot else s) s

/-- RESET (R550): replies first; the action follows the reply. -/
def execReset (r : Request) (s : State) : Out :=
  runCommand 0x0105 (fun r s => takes 4 (fun p s =>
    let t := leAt p 0 1
    if t > 1 then .fail s Status.badParam else .ok (s.schedule r.via (.reset t))) r s) r s

/-- RESET_TAKE_EFFECT (R549, R550): TYPE 0 is a hub-die reset, TYPE 1 a power cycle with CH2 and CH3 off. -/
def execResetTakeEffect (s : State) : Out :=
  onHub (fun s => match s.takeDeferred (fun d => match d with
      | .reset _ => true
      | _ => false) with
    | some (.reset t, s) =>
      if t == 0 then s.hubReset 0x03
      else (((s.abortEntry 0xFE).recordCause 0x04).channelRequestOff 2 |>.channelRequestOff 3).railsDown .powerCycle
    | _ => s) s

/-! Operating points (R533, R534, R547) -/

/-- VOLTAGE_SETTLED: the commanded voltage is in regulation and SETTLE_US has passed.  On PMBus, `acked` false is a
VOUT_COMMAND without acknowledgment: repeated once, and the second failure is a fault of rail 2. -/
def execVoltageSettled (acked : Bool) (s : State) : Out :=
  onHub (fun s =>
    if s.rd Reg.CLK_OP_STEP != 1 then s
    else if !s.flag Reg.CLK_VR_IF && !acked then
      if s.nib.pmbusNacks == 0 then
        let s := s.commandVoltage s.nib.vCmd
        s.withNib fun n => { n with pmbusNacks := 1 }
      else s.railFault 2
    else ((s.withNib fun n => { n with volt := n.vCmd }).opAdvance).opSettled) s

/-- The frequency changes at an epoch boundary (R533, R534): OP_CHANGED, and the next step. -/
def State.opEpoch (s : State) : State :=
  if s.rd Reg.CLK_OP_STEP != 2 then s
  else
    let t := s.pointWanted
    let c := s.rd Reg.CLK_OP_CUR
    if t < s.nib.volt || t == c then s.opAdvance.opSettled
    else
      let s := ((s.wr Reg.CLK_OP_CUR t).count 0x2C9).notice 0x0803 [byte c, byte t, byte s.nib.opCause]
      s.opAdvance.opSettled

/-- OP_SET (R547): replies when the change has completed. -/
def execOpSet (r : Request) (s : State) : Out :=
  .next (s.command 0x0800 (requestWithOpcode r 0x0800) (fun r s => takes 4 (fun p s =>
    if leAt p 0 1 > 2 then .fail s Status.badParam
    else
      let s := (s.wr Reg.CLK_OP_TARGET (leAt p 0 1)).opChange 0
      if s.rd Reg.CLK_OP_STEP == 0 then .ok s (le 4 (s.reg Reg.CLK_OP_A).toNat)
      else .later (s.withNib fun n => { n with opWaiters := n.opWaiters ++ [r] })) r s))

/-- PWR_STATUS (R547). -/
def execPwrStatus (r : Request) (s : State) : Out :=
  runCommand 0x0801 (fun _ s => .ok s ([Reg.PWR_STAT_A, Reg.PWR_WAKE_STAT_A, Reg.PWR_REFUSE_CNT_A, Reg.PWR_RSTCAUSE_A,
    Reg.CLK_OP_A, Reg.CLK_TEMP_A].flatMap fun a => le 4 (s.reg a).toNat)) r s

/-- WAKE_CONFIG (R547). -/
def execWakeConfig (r : Request) (s : State) : Out :=
  runCommand 0x0802 (takes 8 fun p s =>
    let bad (m : Nat) := bit m 6 || bit m 7 || bit m 14 || bit m 15
    if bad (leAt p 0 2) || bad (leAt p 2 2) then .fail s Status.badParam
    else .ok (((s.wr Reg.PWR_WAKE_EN_STBY (leAt p 0 2)).wr Reg.PWR_WAKE_EN_IDLE (leAt p 2 2)).wr
      Reg.PWR_ALARM_SECONDS (leAt p 4 4))) r s

/-! Entering IDLE and STANDBY (R542 to R545) -/

/-- A level wake source that the target's mask enables is asserted (R542). -/
def State.wakeAsserted (s : State) (target : Nat) : Bool :=
  (!s.pins.wakeN && s.wakeEnabled target 1) || (!s.pins.mgmtI2c && !s.pins.mgmtCsN && s.wakeEnabled target 0)

/-- The units that are not ready, in ascending order of their codes (R542). -/
def State.notReady (s : State) (target : Nat) : List Nat :=
  ([0, 1].filter s.trunkBusy).map (0x10 + ·) ++
  (if s.usbhBusy then [0x40] else []) ++ (if s.usbsUnready then [0x41] else []) ++ (if s.pointLoading then [0x50] else []) ++
  (if target == 1 then ([0, 1, 2, 3].filter s.tcpBusy).map (0x60 + ·) else []) ++
  (if s.groupJob 5 || s.groupJob 6 then [0x80] else [])

/-- The entry is refused (R543): TRANS clears and everything else stays.  A wake held during the ask phase has no mode to
end and is no longer pending (DESIGN CHOICE, log entry 63). -/
def State.refuseEntry (s : State) (target unit : Nat) : State :=
  let s := (s.withNib fun n => { n with seq := .none, heldWake := none }).wr Reg.PWR_WAKE_STAT_PENDING 0
  let s := (s.wr Reg.SYS_MODE_TARGET s.mode).put Reg.SYS_MODE_TRANS false
  let s := s.recordRefusal 0 target unit
  s.notice 0x0801 s.refusalDetail

/-- The target of the ask phase under way. -/
def State.asking (s : State) : Option Nat :=
  match s.nib.seq with
  | .ask m => some m.code
  | _ => none

/-- A mode of the two entries, by its code. -/
def entryMode (target : Nat) : Mode := if target == 1 then .standby else .idle

/-- The ask phase starts (R542): the two marked units refuse at once. -/
def State.startAsk (s : State) (target : Nat) : State :=
  let s := (s.beginMode target).withNib fun n => { n with seq := .ask (entryMode target) }
  let wake := s.wakeAsserted target
  let units := s.notReady target ++ (if wake then [0x90] else [])
  if wake || s.groupJob 5 || s.groupJob 6 then s.refuseEntry target (units.headD 0)
  else if units == [] then s else s.count 0x2CB

/-- Every unit under test leaves test (R548); one that is mapped out too stays out of service. -/
def State.leaveTest (s : State) : State :=
  let us := s.nib.underTest
  let s := s.withNib fun n => { n with underTest := [] }
  us.foldl (fun s u =>
    if u == 0x10 || u == 0x11 then s.trunkTestLeave (u - 0x10)
    else if 0x60 ≤ u && u ≤ 0x63 then s.tcFollow (u - 0x60)
    else if 0x70 ≤ u && u ≤ 0x77 then s.fuseFollow (u - 0x70)
    else if s.nib.mappedOut.contains u then s
    else s.unitReturns u) s

/-- The entry phase begins (R545): from SERVICE, units leave test first; then port units stop wrapping. -/
def State.enterPhase (s : State) (target : Nat) : State :=
  let s := if s.mode == 5 then s.leaveTest else s
  s.withNib fun n => { n with seq := .drain (entryMode target) }

/-- ASK_PHASE_COMPLETE (R542). -/
def execAskPhaseComplete (s : State) : Out :=
  onHub (fun s => match s.asking with
    | some t => if s.notReady t == [] then s.enterPhase t else s
    | none => s) s

/-- ASK_PHASE_TIMEOUT (R542, R543): a unit is still not ready after ASK_MS. -/
def execAskPhaseTimeout (s : State) : Out :=
  onHub (fun s => match s.asking with
    | some t => match s.notReady t with
      | u :: _ => s.refuseEntry t u
      | [] => s
    | none => s) s

/-- The last steps of an entry (R545): to IDLE, OP2; to STANDBY, the Nib disables the source ports and CH2 and CH3 and
takes the rails down. -/
def State.finishEntry (s : State) (m : Mode) : State :=
  if m.code == 1 then
    let s := [0, 1, 2, 3].foldl State.tcpDisable s
    let s := (s.channelRequestOff 2).channelRequestOff 3
    let held := s.nib.heldWake
    let s := (s.withNib fun n => { n with seq := .none, standbyCmd := true }).railsDown .standby
    s.withNib fun n => { n with heldWake := held }
  else
    ((s.put Reg.CLK_OP_FORCED true).withNib fun n => { n with seq := .slow }).opChange 1 |>.opSettled

/-- ENTRY_DRAIN_END (R545, steps 2 to 4): the non-trunk output queues are empty, or with `timeout` 1 ms has passed and
what remains is discarded; the trunks go DARK and the ports suspend. -/
def execEntryDrainEnd (timeout : Bool) (s : State) : Out :=
  onHub (fun s => match s.nib.seq with
    | .drain m =>
      if !timeout && !s.outputsEmpty then s
      else
        let s := if timeout then s.discardOutputs else s
        let s := [0, 1].foldl (fun s t => if s.flag (Reg.TLK_CTRL_ENABLED t) then s.trunkEnterDark t else s) s
        let ports := s.pmePorts
        let s := s.portsSuspend
        if ports == 0 then s.finishEntry m else s.withNib fun n => { n with seq := .pmeWait m ports }
    | _ => s) s

/-- The wait of root port `n` for PME_TO_Ack ends (R286, R545): PERST_N is asserted, and after the last port the entry goes
on. -/
def State.pmeAnswered (s : State) (n : Nat) : State :=
  match s.nib.seq with
  | .pmeWait m ports =>
    if !bit ports n then s
    else
      let s := s.pcieToL2 n
      let left := clearBit ports n
      if left == 0 then s.finishEntry m else s.withNib fun x => { x with seq := .pmeWait m left }
  | _ => s

/-- PME_TURN_OFF_WAIT_END (R545): PME_TO_Ack has come, or 10 ms have passed. -/
def execPmeTurnOffWaitEnd (port : Fin 2) (s : State) : Out := onHub (fun s => s.pmeAnswered port) s

/-- IDLE_EXIT_TRUNKS_READY (R545, steps 4 and 5): every trunk is up again, or with `timeout` 70 ms have passed; MODE
changes and the ports resume. -/
def execIdleExitTrunksReady (timeout : Bool) (s : State) : Out :=
  onHub (fun s => match s.nib.seq with
    | .trunks cause =>
      if !timeout && [0, 1].any s.trunkLow then s
      else
        let new := if s.flag Reg.SYS_MODE_DEGR then 4 else 3
        let s := ((s.withNib fun n => { n with seq := .none }).setMode new).modeChanged 2 new cause
        s.wakeNotice.portsResume
    | _ => s) s

/-- MODE_SET (R41, R547): BAD_PARAM, then BUSY, then WRONG_MODE. -/
def execModeSet (r : Request) (s : State) : Out :=
  runCommand 0x0102 (takes 4 fun p s =>
    let t := leAt p 0 1
    if t < 1 || t > 3 then .fail s Status.badParam
    else if s.flag Reg.SYS_MODE_TRANS then .fail s Status.busy
    else if (if t == 3 then s.mode != 2 else if t == 2 then s.mode == 2 else false) then .fail s Status.wrongMode
    else if t == 3 then .ok (s.startRun 0).opSettled
    else .ok (s.startAsk t)) r s

/-! Units -/

/-- A body on a unit of the Map column (R538); others are BAD_PARAM. -/
def onUnit (body : Nat → State → Answer) : Body := takes 4 fun p s =>
  let u := leAt p 0 1
  if (unitBit s.isRoot u).isNone then .fail s Status.badParam else body u s

/-- UNIT_MAP_OUT (R35, R538). -/
def execUnitMapOut (r : Request) (s : State) : Out :=
  runCommand 0x0103 (onUnit fun u s =>
    .ok (if s.nib.mappedOut.contains u then s else (s.mapOut u).unitStops u)) r s

/-- UNIT_MAP_IN (R35, R538): a job. -/
def execUnitMapIn (r : Request) (s : State) : Out :=
  runCommand 0x0104 (onUnit fun u s =>
    if !s.nib.mappedOut.contains u then .fail s Status.wrongMode else s.startJob 0x0104 (.mapIn u)) r s

/-- SELFTEST (R538): a job on a unit that is mapped out or under test. -/
def execSelftest (r : Request) (s : State) : Out :=
  runCommand 0x0905 (onUnit fun u s => if !s.unitOut u then .fail s Status.wrongMode else s.startJob 0x0905 (.selftest u)) r s

/-! SERVICE (R548) -/

/-- The unit codes that a set of UNITS bits names. -/
def serviceUnits (units : Nat) : List Nat :=
  ((List.range 19).filter fun i => bit units i).map fun i =>
    if i < 2 then 0x20 + i else if i < 4 then 0x30 + (i - 2) else if i < 8 then 0x38 + (i - 4)
    else if i < 16 then 0x48 + (i - 8) else if i == 16 then 0x40 else if i == 17 then 0x41 else 0x50

/-- DIAG_SERVICE_ENTER (R548): replies first. -/
def execDiagServiceEnter (r : Request) (s : State) : Out :=
  runCommand 0x0900 (fun r s => takes 8 (fun p s =>
    let trk := leAt p 0 1
    let efu := leAt p 1 1
    let tcp := leAt p 2 1
    let units := leAt p 4 4
    if (trk == 0 && efu == 0 && tcp == 0 && units == 0) || bit efu 0 || trk > 3 || tcp > 15 || leAt p 3 1 != 0 ||
        units ≥ 2 ^ 19 || (s.isRoot && bits units 1 0 != 0) then .fail s Status.badParam
    else if s.flag Reg.SYS_MODE_TRANS then .fail s Status.busy
    else if s.mode != 3 && s.mode != 4 then .fail s Status.wrongMode
    else
      let s := (s.beginMode 5).withNib fun n => { n with seq := .serviceEntry }
      .ok (s.schedule r.via (.serviceEnter trk efu tcp units))) r s) r s

/-- One named unit enters test. -/
def State.enterTest (s : State) (u : Nat) : State :=
  let s := s.withNib fun n => { n with underTest := n.underTest ++ [u] }
  if u == 0x10 || u == 0x11 then s.trunkTestEnter (u - 0x10)
  else if 0x60 ≤ u && u ≤ 0x63 then s.tcFollow (u - 0x60)
  else if 0x70 ≤ u && u ≤ 0x77 then s.fuseFollow (u - 0x70)
  else s.unitStops u

/-- SERVICE_ENTRY_TAKE_EFFECT (R545, R548): the named units enter test and MODE becomes SERVICE. -/
def execServiceEntryTakeEffect (s : State) : Out :=
  onHub (fun s => match s.takeDeferred (fun d => match d with
      | .serviceEnter _ _ _ _ => true
      | _ => false) with
    | some (.serviceEnter trk efu tcp units, s) =>
      let old := s.mode
      let us := (([0, 1].filter fun t => bit trk t).map (0x10 + ·)) ++ serviceUnits units ++
        (([0, 1, 2, 3].filter fun t => bit tcp t).map (0x60 + ·)) ++
        (([1, 2, 3, 4, 5, 6, 7].filter fun t => bit efu t).map (0x70 + ·))
      let s := us.foldl State.enterTest s
      ((s.withNib fun n => { n with seq := .none }).setMode 5).modeChanged old 5 0
    | _ => s) s

/-- DIAG_SERVICE_EXIT (R41, R545, R548). -/
def execDiagServiceExit (r : Request) (s : State) : Out :=
  runCommand 0x0901 (fun _ s =>
    if s.flag Reg.SYS_MODE_TRANS then .fail s Status.busy
    else if s.mode != 5 then .fail s Status.wrongMode
    else
      let s := s.beginMode (if s.flag Reg.SYS_MODE_DEGR then 4 else 3)
      .ok (s.withNib fun n => { n with seq := .serviceExit }).leaveTest) r s

/-- SERVICE_EXIT_COMPLETE (R545): every unit is back in its starting state. -/
def execServiceExitComplete (s : State) : Out :=
  onHub (fun s => match s.nib.seq with
    | .serviceExit =>
      let new := if s.flag Reg.SYS_MODE_DEGR then 4 else 3
      ((s.withNib fun n => { n with seq := .none }).setMode new).modeChanged 5 new 0
    | _ => s) s

end Sys2Proof.Machine
end

