-- ==== Sys2Proof/Machine/Delivery.lean ====
section
/-!
DEFINITION. The events and commands of the Type-C source ports and of the service sink (R470 to R492).
-/

namespace Sys2Proof.Machine

/-! Attach and detach (R472, R473, R476) -/

/-- TYPEC_RD_DETECT: Rd on one CC pin, and Ra on the other or not. -/
def execTypecRdDetect (n : Fin 4) (cc2 : Bool) (ra : Bool) (s : State) : Out :=
  onNib (fun s =>
    if s.tcState n != 1 then s
    else ((s.put (Reg.TCPD_PORT_STAT_CC2 n) cc2).put (Reg.TCPD_PORT_STAT_RA n) ra).tcGo n 2) s

/-- TYPEC_ATTACH: the debounce has ended. -/
def execTypecAttach (n : Fin 4) (s : State) : Out :=
  onNib (fun s =>
    if s.tcState n != 2 then s
    else
      let s := (s.count (0x258 + 8 * n.val)).tcTake n
      s.notice 0x0820 [byte n, 1, byte (s.rd (Reg.TCPD_PORT_STAT_RP n)),
        byte (b2n (s.flag (Reg.TCPD_PORT_STAT_RA n)) + 2 * b2n (s.flag (Reg.TCPD_PORT_STAT_CC2 n)))]) s

/-- TYPEC_DETACH: CC has been open for DETACH_DEB_MS. -/
def execTypecDetach (n : Fin 4) (s : State) : Out := onNib (fun s => s.tcDetach n) s

/-- VBUS_DISCHARGED: TCPn_VBUS is below 0.8 V; the sink is released. -/
def execVbusDischarged (n : Fin 4) (s : State) : Out :=
  onNib (fun s => if s.tcState n == 9 then ((s.tcSink n false).tcRest n).tcLeft n else s) s

/-! Contracts (R478, R483) -/

/-- PD_REQUEST: the object position and the Max Operating Current in 10 mA units. -/
def execPdRequest (n : Fin 4) (pos : BitVec 4) (current : BitVec 10) (s : State) : Out :=
  onNib (fun s => s.pdRequest n pos.toNat current.toNat) s

/-- SRC_TRANSITION_END. -/
def execSrcTransitionEnd (n : Fin 4) (s : State) : Out := onNib (fun s => s.srcTransition n) s

/-- POWER_GOOD_TIMEOUT: no power-good PG_TO_MS after VSEL changed. -/
def execPowerGoodTimeout (n : Fin 4) (s : State) : Out :=
  onNib (fun s =>
    if s.tcState n == 6 && (s.tcPort n).waitPg then (s.count (0x25D + 8 * n.val)).pdHardReset n 2 else s) s

/-! Resets and protocol (R470, R484, R489) -/

/-- HARD_RESET_RECEIVED: port 4 is TCS, whose contract ends. -/
def execHardResetReceived (n : Fin 5) (s : State) : Out :=
  onNib (fun s =>
    if n.val < 4 then (if s.tcLive n then s.pdHardReset n 1 else s)
    else if !s.tcsPresent then s
    else
      let s := ((s.wr Reg.TCPD_TCS_STAT_STATE 3).wr Reg.TCPD_TCS_STAT_PDO 0).wr Reg.TCPD_TCS_STAT_CONTRACT_MW 0
      (s.count 0x27A).notice 0x0823 [4, 1, 0, 0]) s

/-- HARD_RESET_RECOVER: tSrcRecover has passed.  A port in ERROR_RECOVERY after its third hard reset goes on to
UNATTACHED; TCS returns to its Type-C current. -/
def execHardResetRecover (n : Fin 5) (s : State) : Out :=
  onNib (fun s =>
    if 4 ≤ n.val then (if s.rd Reg.TCPD_TCS_STAT_STATE == 3 then s.wr Reg.TCPD_TCS_STAT_STATE 1 else s)
    else if s.tcState n == 7 then s.hardResetRecover n
    else if s.tcState n == 8 && s.rd (Reg.TCPD_PORT_STAT_HR_COUNT n) == 3 && !(s.fuse (4 + n)).deciding &&
        s.fuseState (4 + n) < 7 then s.errorRecovered n
    else s) s

/-- SOFT_RESET: Accept, and the offer again where a port is not in the middle of a transition. -/
def execSoftReset (n : Fin 5) (s : State) : Out :=
  onNib (fun s =>
    if 4 ≤ n.val then (if s.tcsPresent then s.emit (.pd 4 "ACCEPT" [] []) else s)
    else if !s.tcLive n then s
    else
      let s := (s.withTcPort n fun x => { x with swap := 0 }).emit (.pd n "ACCEPT" [] [])
      if s.tcState n == 6 then s else s.sendOffer n) s

/-- ROLE_SWAP_REQUEST: PR_Swap, or DR_Swap with `data`, is answered Reject. -/
def execRoleSwapRequest (n : Fin 5) (data : Bool) (s : State) : Out :=
  onNib (fun s =>
    if (if n.val < 4 then s.tcLive n else s.tcsPresent) then s.emit (.pd n "REJECT" [b2n data] []) else s) s

/-! VCONN (R487, R488) -/

/-- A VCONN swap has completed: `partner` sources VCONN from now on, or Damya. -/
def State.vconnSwapped (s : State) (n : Nat) (partner : Bool) : State :=
  let s := (s.withTcPort n fun x => { x with swap := 0 }).put (Reg.TCPD_PORT_STAT_VCONN_PARTNER n) partner
  ((s.count (0x25E + 8 * n)).notice 0x0827 [byte n, byte (b2n partner)]).entryIfSafe n

/-- VCONN_SWAP_REQUEST: TCS rejects; a port accepts where its entry allows.  Where the partner sources VCONN, Damya turns
its own on and waits tVCONNSourceOn. -/
def execVconnSwapRequest (n : Fin 5) (s : State) : Out :=
  onNib (fun s =>
    if 4 ≤ n.val then (if s.tcsPresent then s.emit (.pd 4 "REJECT" [] []) else s)
    else if (s.tcState n != 4 && s.tcState n != 5) || (s.tcPort n).swap != 0 then s
    else if !entrySwap (s.tcPort n).entry then s.emit (.pd n "REJECT" [] [])
    else
      let s := s.emit (.pd n "ACCEPT" [] [])
      if s.flag (Reg.TCPD_PORT_STAT_VCONN_PARTNER n) then
        (s.tcVconn n true).withTcPort n fun x => { x with swap := 2 }
      else s.withTcPort n fun x => { x with swap := 1 }) s

/-- PARTNER_PS_RDY: Damya turns its VCONN off. -/
def execPartnerPsRdy (n : Fin 4) (s : State) : Out :=
  onNib (fun s => if (s.tcPort n).swap == 1 then (s.tcVconn n false).vconnSwapped n true else s) s

/-- VCONN_SOURCE_ON_END: Damya sends PS_RDY. -/
def execVconnSourceOnEnd (n : Fin 4) (s : State) : Out :=
  onNib (fun s => if (s.tcPort n).swap == 2 then (s.emit (.pd n "PS_RDY" [] [])).vconnSwapped n false else s) s

/-- CABLE_DISCOVER_IDENTITY: the cable answers on SOP'; a port in IMPLICIT or READY whose offer changes sends it again
(R477, R481). -/
def execCableDiscoverIdentity (n : Fin 4) (five : Bool) (s : State) : Out :=
  onNib (fun s =>
    if !s.tcLive n || !s.flag (Reg.TCPD_PORT_STAT_VCONN_ON n) then s
    else
      let s := s.put (Reg.TCPD_PORT_STAT_CABLE_5A n) five
      if s.tcState n != 6 && s.offerNow n != (s.tcPort n).offer then s.sendOffer n else s) s

/-- VCONN_OVERCURRENT: VCONN goes off, and VBUS and the contract stay. -/
def execVconnOvercurrent (n : Fin 4) (s : State) : Out :=
  onNib (fun s =>
    if s.flag (Reg.TCPD_PORT_STAT_VCONN_ON n) then (s.tcVconn n false).notice 0x0825 [byte n, 2] else s) s

/-! The service sink (R490, R491) -/

/-- The voltages TFLAGS allows at TCS, in mV, the highest first, each with its code in TCPD_TCS_STAT.PDO. -/
def State.tcsVolts (s : State) : List (Nat × Nat) :=
  (if bit s.tc.tflags 1 then [(15000, 3)] else []) ++ (if bit s.tc.tflags 0 then [(9000, 2)] else []) ++ [(5000, 1)]

/-- TCS_SOURCE_CAPABILITIES (R490): `rp` is the Rp current seen; each PDO is a voltage in mV and a current in 10 mA units.
The sink requests the highest allowed voltage that offers 7.5 W, with the lesser of the offered current and 15 W, and
else 5 V at the offered maximum. -/
def execTcsSourceCapabilities (rp : Fin 3) (pdos : List (Nat × Nat)) (s : State) : Out :=
  onNib (fun s =>
    if !s.tcsPresent then s
    else
      let s := s.wr Reg.TCPD_TCS_STAT_RP_SEEN rp.val
      let offer (v : Nat) : Option Nat := (pdos.find? fun p => p.1 == v).map (·.2)
      let best := s.tcsVolts.findSome? fun (v, code) => match offer v with
        | some i => if v * i ≥ 750000 then some (v, code, min i (1500000 / v)) else none
        | none => none
      let pick := best.orElse fun _ => (offer 5000).map fun i => (5000, 1, i)
      match pick with
      | none => s
      | some (v, code, i) =>
        let pos := (pdos.findIdx fun p => p.1 == v) + 1
        let s := s.emit (.pd 4 "REQUEST" [pos, i] [])
        let s := ((s.wr Reg.TCPD_TCS_STAT_STATE 2).wr Reg.TCPD_TCS_STAT_PDO code).wr Reg.TCPD_TCS_STAT_CONTRACT_MW
          (min 15000 (v * i / 100))
        let s := s.count 0x279
        if !s.tcsLevel && s.nib.onTcs then s.tcsLost else s.tcsRises) s

/-! Commands (R480, R492) -/

/-- PD_TABLE_LOAD (R480, R481, R650). -/
def execPdTableLoad (r : Request) (s : State) : Out :=
  runCommand 0x0805 (takes 80 fun p s =>
    let t := tableStored p
    if !tableOk (p.take 80) then .fail s Status.badParam
    else if leAt t 4 4 < s.countedMw then .fail s Status.budget
    else
      let s := s.acceptTable t
      .ok (if bit (leAt t 0 1) 0 then s.storeRecord (0x10, t) else s)) r s

/-- PD_PORT_CONTROL with an operation: PORT is checked, and the reply follows the operation (R492). -/
def pdPortControl (op : Nat) (body : Nat → State → State × Nat) (r : Request) (s : State) : Out :=
  runCommand 0x0806 (takes 4 fun p s =>
    let n := leAt p 0 1
    if n > 3 then .fail s Status.badParam
    else if s.fromRom then .fail s Status.wrongMode
    else
      let (t, status) := body n s
      if status != 0 then .fail s status
      else .ok t (le 4 (t.reg (Reg.TCPD_PORT_STAT_A n)).toNat ++ le 4 (t.rd (Reg.TCPD_PORT_CONTRACT_MW n)) ++
        le 4 (t.rd (Reg.TCPD_PORT_PEND_MW n)) ++ le 4 t.freeMw)) (requestWithByte r 1 op) s

/-- PD_PORT_CONTROL DISABLE. -/
def execPdPortControlDisable (r : Request) (s : State) : Out := pdPortControl 0 (fun n s => (s.tcpDisable n, 0)) r s

/-- PD_PORT_CONTROL ENABLE. -/
def execPdPortControlEnable (r : Request) (s : State) : Out :=
  pdPortControl 1 (fun n s =>
    if !entryEn (s.tcPort n).entry then (s, Status.wrongMode)
    else ((s.withTcPort n fun x => { x with disabled := false }).tcFollow n, 0)) r s

/-- PD_PORT_CONTROL REOFFER: in IMPLICIT or READY. -/
def execPdPortControlReoffer (r : Request) (s : State) : Out :=
  pdPortControl 2 (fun n s =>
    if s.tcState n == 4 || s.tcState n == 5 then (s.sendOffer n, 0) else (s, Status.wrongMode)) r s

/-- PD_PORT_CONTROL HARD_RESET: with a partner to reset. -/
def execPdPortControlHardReset (r : Request) (s : State) : Out :=
  pdPortControl 3 (fun n s => (if s.tcLive n then s.pdHardReset n 3 else s, 0)) r s

/-- PD_PORT_CONTROL STATUS. -/
def execPdPortControlStatus (r : Request) (s : State) : Out := pdPortControl 4 (fun _ s => (s, 0)) r s

end Sys2Proof.Machine
end

