-- ==== Sys2Proof/Machine/Fuses.lean ====
section
/-!
DEFINITION. The events and commands of the eFuse channels (R497 to R524).
-/

namespace Sys2Proof.Machine

/-- What a change of channel n means to the units it serves: a slot's levels (R293), a Type-C port's error recovery
(R516), and a start that waits for CH0's power-good (R526). -/
def State.fuseServes (s : State) (n : Nat) : State :=
  if n == 0 then s.nibStep
  else if n == 2 || n == 3 then (if s.hubOn then s.sendLevels (n - 2) else s)
  else if 4 ≤ n then s.tcChannelBack (n - 4)
  else s

/-- EFUSE_REQUEST_CHANGE (R497, R499): the control source of the channel asks for it or releases it.  EFUSE_CONTROL is the
source with SRC 0, and SRC 3 always asks. -/
def execEfuseRequestChange (n : Fin 8) (on : Bool) (s : State) : Out :=
  onNib (fun s => match s.rd (Reg.EFU_CH_CTRL_SRC n) with
    | 1 => (s.fuseAsk n fun x => { x with byPcie := on }).fuseServes n
    | 2 => (s.fuseAsk n fun x => { x with byPd := on }).fuseServes n
    | _ => s) s

/-- EFUSE_INPUT_WINDOW_CHANGE (R500, R501, R505): VIN is measured against the channel's window.  CH0's window is the
intake's, whose events are those of R528 and R529. -/
def execEfuseInputWindowChange (n : Fin 8) (x : FuseSample) (s : State) : Out :=
  onNib (fun s =>
    let s := s.sensed n x
    if n.val == 0 then
      let was := s.intakeOk
      let ok := s.fuseWindow 0 x.vin
      if ok && !was then s.intakeEnter x.vin
      else if !ok && was then
        let low : Bool := match s.fuseProfile 0 with
          | some p => decide (x.vin < profUvOff p)
          | none => true
        s.intakeLeave x.vin (if low then 1 else 2)
      else s
    else (s.fuseInput n x.vin).fuseServes n) s

/-- EFUSE_PRESENCE_CHANGE (R497, R500): the presence input of CH1 to CH3. -/
def execEfusePresenceChange (n : Fin 8) (present : Bool) (s : State) : Out :=
  onNib (fun s =>
    if n.val == 0 || 4 ≤ n.val then s
    else ((s.put (Reg.EFU_CH_STAT_PRES n) present).fuseFollow n).fuseServes n) s

/-- EFUSE_INSERT_DELAY_END (R500): inserted without a break for INS_DELAY_MS. -/
def execEfuseInsertDelayEnd (n : Fin 8) (s : State) : Out :=
  onNib (fun s => if s.fuseState n == 3 && s.fuseInserted n then s.fuseGo n 4 else s) s

/-- EFUSE_PRECHECK_END (R502, R506): the output has fallen, or 100 ms have passed; RAMP starts with its timers and PEAK at
0. -/
def execEfusePrecheckEnd (n : Fin 8) (x : FuseSample) (s : State) : Out :=
  onNib (fun s =>
    if s.fuseState n != 4 then s
    else
      let s := ((s.wr (Reg.EFU_CH_IOUT_PEAK n) 0).sensed n x).withFuse n fun f => { f with timers := [] }
      (s.fuseGo n 5).fuseGate n 1) s

/-- EFUSE_RAMP_DONE (R503): VDS is below 300 mV. -/
def execEfuseRampDone (n : Fin 8) (x : FuseSample) (s : State) : Out :=
  onNib (fun s =>
    if s.fuseState n == 5 && !(s.fuse n).deciding && x.vds < 300 then (s.sensed n x).fuseGo n 6 else s) s

/-- The channel can trip: it is in RAMP or ON with no decision pending. -/
def State.fuseArmed (s : State) (n : Nat) : Bool :=
  (s.fuseState n == 5 || s.fuseState n == 6) && !(s.fuse n).deciding

/-- A trip, and what it means to a Type-C port and its USB port (R358, R485). -/
def State.tripAll (s : State) (n cause : Nat) (point : Option Nat) (x : FuseSample) : State :=
  let s := s.fuseTrip n cause point x
  if 4 ≤ n then
    let s := s.tcTripped (n - 4)
    if s.hubOn then s.usbOver (n - 4) true else s
  else s

/-- EFUSE_RAMP_TIMEOUT (R503): the ramp is not done within RAMP_TO_MS. -/
def execEfuseRampTimeout (n : Fin 8) (x : FuseSample) (s : State) : Out :=
  onNib (fun s => if s.fuseState n == 5 && s.fuseArmed n then s.tripAll n 4 none x else s) s

/-- EFUSE_CURVE_TRIP (R506): the timer of curve point k reaches T_k; the curve is blanked in RAMP. -/
def execEfuseCurveTrip (n : Fin 8) (k : Fin 16) (x : FuseSample) (s : State) : Out :=
  onNib (fun s =>
    let used : Bool := match s.fuseProfile n with
      | some p => decide (k.val < profPoints p)
      | none => false
    if s.fuseState n == 6 && s.fuseArmed n && used then s.tripAll n 2 (some k) x else s) s

/-- EFUSE_FAST_TRIP (R507). -/
def execEfuseFastTrip (n : Fin 8) (x : FuseSample) (s : State) : Out :=
  onNib (fun s => if s.fuseArmed n then s.tripAll n 1 none x else s) s

/-- EFUSE_SOA_TRIP (R508): Q has reached E_MAX. -/
def execEfuseSoaTrip (n : Fin 8) (x : FuseSample) (s : State) : Out :=
  onNib (fun s =>
    if s.fuseArmed n then
      (s.setSoa n ((((s.fuseProfile n).map profEMax).getD 0) * 1000000)).tripAll n 3 none x
    else s) s

/-- A sample of channel n in the middle of a period without events (R506, R508): the timers of the curve run in ON, the
integrator from the first gate movement until Q is 0, and either trips the channel. -/
def State.fuseSample (s : State) (n : Nat) : State :=
  match s.fuseProfile n with
  | none => s
  | some p =>
    let f := s.fuse n
    let on := s.fuseState n == 6 && s.fuseArmed n
    let s := if on then s.withFuse n fun f => { f with timers := curveTimers p f.sample.i f.timers } else s
    let s := if s.fuseState n == 5 || s.fuseState n == 6 || f.q != 0 then s.setSoa n (soaNext p f.sample f.q) else s
    match (if on then curveTripped p (s.fuse n).timers else none) with
    | some k => s.tripAll n 2 (some k) f.sample
    | none => if s.fuseArmed n && profEMax p * 1000000 ≤ (s.fuse n).q then s.tripAll n 3 none f.sample else s

/-- The power die's part of a core cycle: the Nib's clock runs, and every 1 µs the channels sample (R506). -/
def State.nibCycle (s : State) (raw : Nat) : State :=
  if !s.nib.on then s
  else
    let old := s.nib.clock
    let s := s.withNib fun n => { n with clock := n.clock + raw }
    if old / rawOfNs 1000 == s.nib.clock / rawOfNs 1000 then s else (List.range 8).foldl State.fuseSample s

/-- EFUSE_RETRY_DECISION (R512). -/
def execEfuseRetryDecision (n : Fin 8) (s : State) : Out :=
  onNib (fun s => if (s.fuse n).deciding then (s.fuseDecide n).fuseServes n else s) s

/-- EFUSE_HOLD_END (R514): WAIT, or OFF when the channel is no longer requested. -/
def execEfuseHoldEnd (n : Fin 8) (s : State) : Out :=
  onNib (fun s =>
    if s.fuseState n != 7 then s
    else
      let s := s.wr (Reg.EFU_CH_RETRY_HOLD_LEFT_MS n) 0
      let s := (s.fuseGo n (if s.fuseRequested n then 2 else 0)).fuseFollow n
      let s := if 4 ≤ n.val && s.hubOn then s.usbOver (n - 4) false else s
      s.fuseServes n) s

/-- EFUSE_PG_RISE (R504): the conditions have held for PG_DELAY_MS. -/
def execEfusePgRise (n : Fin 8) (x : FuseSample) (s : State) : Out :=
  onNib (fun s =>
    let low : Bool := match s.fuseProfile n with
      | some p => decide (x.vds ≤ profVdsMax p)
      | none => false
    if s.fuseState n == 6 && !(s.fuse n).deciding && !s.flag (Reg.EFU_CH_STAT_PG n) && low && s.fuseOutputOk n x.vout then
      let s := ((s.sensed n x).fusePg n true).withFuse n fun f => { f with moving := false }
      let s := s.put (Reg.EFU_CH_STAT_WINDOW n) (s.fuseWindow n x.vin)
      let s := s.fuseNotice n 6 6
      if 4 ≤ n.val then s.tcPowerGood (n - 4) else s.fuseServes n
    else s) s

/-- EFUSE_PG_FALL (R504): VDS has risen above VDS_MAX_MV or the output has left its window, in ON. -/
def execEfusePgFall (n : Fin 8) (x : FuseSample) (s : State) : Out :=
  onNib (fun s =>
    let high : Bool := match s.fuseProfile n with
      | some p => decide (x.vds > profVdsMax p)
      | none => false
    if s.fuseState n == 6 && s.flag (Reg.EFU_CH_STAT_PG n) && (high || !s.fuseOutputOk n x.vout) then
      ((s.sensed n x).fusePg n false).fuseNotice n 6 6
    else s) s

/-- RETRY_CLEAR_EXPIRY (R515): PG has held for RETRY_CLEAR_MS; the notice reports a change only. -/
def execRetryClearExpiry (n : Fin 8) (s : State) : Out :=
  onNib (fun s =>
    if s.flag (Reg.EFU_CH_STAT_PG n) && s.rd (Reg.EFU_CH_RETRY_USED n) != 0 then
      (s.fuseCountsReset n).notice 0x0843 [byte n, byte (s.rd (Reg.EFU_CH_RETRY_LIMIT n))]
    else s) s

/-- The condition of a damage cause at a sample (R511): 5 FET_SHORT with the gate off, 6 HIGH_VDS and 7 GATE in ON. -/
def State.damaged (s : State) (n cause : Nat) (x : FuseSample) : Bool :=
  let st := s.fuseState n
  if cause == 5 then (!(st == 5 || st == 6) || (s.fuse n).deciding) && (s.sensed n x).fuseShorted n
  else if st != 6 || (s.fuse n).deciding then false
  else if cause == 7 then true
  else match s.fuseProfile n with
    | some p => s.fuseOutputOk n x.vout && x.i ≤ profI p 0 && x.vds > profVdsMax p
    | none => false

/-- EFUSE_DAMAGE_DETECT (R511): cause 5, 6 or 7 by the operand.  The channel latches without a retry, and FET_SHORT drives
EF_ALARM_N low. -/
def execEfuseDamageDetect (n : Fin 8) (cause : Fin 3) (x : FuseSample) (s : State) : Out :=
  onNib (fun s =>
    let c := 5 + cause.val
    if !s.damaged n c x || (c == 5 && s.fuseState n == 8 && bit (s.rd Reg.EFU_ALARM_SHORT) n) then s
    else
      let s := ((s.sensed n x).wr (Reg.EFU_CH_STAT_CAUSE n) c).wr (Reg.EFU_CH_RETRY_HOLD_LEFT_MS n) 0
      let s := if c == 5 then s.fuseAlarm (setBit (s.rd Reg.EFU_ALARM_SHORT) n) else s
      let s := if s.fuseState n == 8 then s else (s.fuseGo n 8).count (0x285 + 8 * n.val)
      let s := (s.count (0x287 + 8 * n.val)).notice 0x0841
        ([byte n, byte c] ++ le 2 (min 0xFFFF x.vds) ++ le 2 (min 0xFFFF (s.rd (Reg.EFU_CH_IOUT_I n))))
      let s := if 4 ≤ n.val && s.tcLive (n - 4) then s.tcTripped (n - 4) else s
      s.fuseServes n) s

/-- PROFILE_SAFE_POINT (R518): in ON, at a sample at which every curve timer is 0 and the current is at most the lower I_0;
the other safe states take a shadow as they are entered. -/
def execProfileSafePoint (n : Fin 8) (x : FuseSample) (s : State) : Out :=
  onNib (fun s => match (s.fuse n).shadow, s.fuseProfile n with
    | some p, some old =>
      if s.fuseState n == 6 && !(s.fuse n).deciding && x.i ≤ min (profI p 0) (profI old 0) &&
          (s.fuse n).timers.all (· == 0) then
        (s.sensed n x).takeProfile n p
      else s
    | some p, none => if fuseSafe (s.fuseState n) then (s.takeProfile n p).fuseFollow n else s
    | none, _ => s) s

/-! Commands (R517, R520) -/

/-- The reply of EFUSE_CONTROL. -/
def State.fuseReply (s : State) (n : Nat) : Bytes :=
  [s.reg (Reg.EFU_CH_STAT_A n), s.fuseRetry n, s.reg (Reg.EFU_CH_IOUT_A n), s.reg (Reg.EFU_CH_VOLT_A n)].flatMap fun w =>
    le 4 w.toNat

/-- EFUSE_CONTROL with an operation: CH and the common checks come first (R520). -/
def efuseControl (op : Nat) (body : Nat → State → Answer) (r : Request) (s : State) : Out :=
  runCommand 0x0803 (takes 4 fun p s =>
    if leAt p 0 1 > 7 then .fail s Status.badParam
    else if s.fromRom then .fail s Status.wrongMode
    else body (leAt p 0 1) s) (requestWithByte r 1 op) s

/-- OFF and ON (R520): not under test, only with SRC 0, and ON not without a profile. -/
def efuseSwitch (on : Bool) (n : Nat) (s : State) : Answer :=
  if s.nib.underTest.contains (0x70 + n) then .fail s Status.wrongMode
  else if s.rd (Reg.EFU_CH_CTRL_SRC n) != 0 then .fail s Status.badParam
  else if on && s.fuseState n == 1 then .fail s Status.wrongMode
  else
    let s := (s.fuseAsk n fun x => { x with byCommand := on }).fuseServes n
    .ok s (s.fuseReply n)

/-- EFUSE_CONTROL_OFF. -/
def execEfuseControlOff (r : Request) (s : State) : Out := efuseControl 0 (efuseSwitch false) r s

/-- EFUSE_CONTROL_ON. -/
def execEfuseControlOn (r : Request) (s : State) : Out := efuseControl 1 (efuseSwitch true) r s

/-- FET_SHORT that is no longer detected clears (R511, R520). -/
def State.clearShort (s : State) (n : Nat) : State :=
  if bit (s.rd Reg.EFU_ALARM_SHORT) n && !s.fuseShorted n then s.fuseAlarm (clearBit (s.rd Reg.EFU_ALARM_SHORT) n) else s

/-- EFUSE_CONTROL_CLEAR: from LATCHED to OFF or WAIT, or to NO_PROFILE where there is none; in OFF the counts alone. -/
def execEfuseControlClear (r : Request) (s : State) : Out :=
  efuseControl 2 (fun n s =>
    let st := s.fuseState n
    if st == 8 then
      let s := (s.fuseCountsReset n).clearShort n
      let s := s.fuseGo n (if (s.fuseProfile n).isNone then 1 else if s.fuseRequested n then 2 else 0)
      let s := s.fuseFollow n
      let s := if 4 ≤ n && s.hubOn then s.usbOver (n - 4) false else s
      let s := s.fuseServes n
      .ok s (s.fuseReply n)
    else if st == 0 then
      let s := (s.fuseCountsReset n).clearShort n
      .ok s (s.fuseReply n)
    else .fail s Status.busy) r s

/-- EFUSE_CONTROL_STATUS. -/
def execEfuseControlStatus (r : Request) (s : State) : Out := efuseControl 3 (fun n s => .ok s (s.fuseReply n)) r s

/-- EFUSE_CONTROL_TEST: on a channel under test in SERVICE that is OFF or NO_PROFILE; what it measures is free. -/
def execEfuseControlTest (r : Request) (s : State) : Out :=
  efuseControl 4 (fun n s =>
    if s.mode != 5 || !s.nib.underTest.contains (0x70 + n) then .fail s Status.wrongMode
    else if s.fuseState n != 0 && s.fuseState n != 1 then .fail s Status.busy
    else
      let (offset, s) := s.free 16
      let (fast, s) := s.free 1
      let (pull, s) := s.free 1
      .ok s (s.fuseReply n ++ le 2 offset ++ [byte fast, byte pull])) r s

/-- EFUSE_CURVE_LOAD (R517 to R519). -/
def execEfuseCurveLoad (r : Request) (s : State) : Out :=
  runCommand 0x0804 (takes 172 fun p s =>
    let n := leAt p 0 1
    let prof := slice p 4 168
    if n > 7 || !profileOk n prof then .fail s Status.badParam
    else if s.fromRom then .fail s Status.wrongMode
    else
      let s := (s.loadProfile n prof).fuseServes n
      let s := if bit (leAt p 1 1) 0 then s.storeRecord (0x20 + n, profileStored prof) else s
      .ok s [byte (leAt prof 0 1)]) r s

end Sys2Proof.Machine
end

