-- ==== Sys2Proof/Machine/UsbDevice.lean ====
section
/-!
DEFINITION. The service port USBS: attach, the standard requests, EP3 reports, bus reset, suspend and remote wake (R381
to R385, R388, R390).  The bulk transfers that carry commands are in Sessions.lean.
-/

namespace Sys2Proof.Machine

/-- The machine with the device controller changed. -/
def State.withUsbs (s : State) (f : Usbs → Usbs) : State := { s with usb := { s.usb with dev := f s.usb.dev } }

/-- USBS_STAT.STATE. -/
def State.usbsState (s : State) : Nat := s.rd Reg.USBS_STAT_STATE

/-- USBS_STATE (R390): bit 0 bus reset, bit 1 abandoned, bit 2 suspended, bit 3 resumed. -/
def State.usbsNotice (s : State) (flags : Nat) : State := s.notice 0x0D03 [byte s.usbsState, byte flags]

/-- A new device state. -/
def State.usbsGo (s : State) (st : Nat) : State :=
  if s.usbsState == st then s else (s.wr Reg.USBS_STAT_STATE st).usbsNotice 0

/-! EP3 reports (R382) -/

/-- Bytes 0 and 1 of a report: the MGMT status byte and the pending level interrupts in COMMAND mode. -/
def State.usbsReport (s : State) : Nat × Nat :=
  (if s.serving then s.mgmtStatus else 1,
   ([0, 1, 2, 3].filter fun q => (s.queue q).pendingIrq && !(s.queue q).dma).foldl setBit 0)

/-- A report is queued, or the one that waits is updated, when either byte has changed. -/
def State.usbsSync (s : State) : State :=
  let r := s.usbsReport
  if r == s.usb.dev.last then s
  else s.withUsbs fun d => { d with last := r, ep3 := some ([byte r.1, byte r.2] ++ zeros 14) }

/-- USBS_EP3_POLL (R382): the report, or NAK. -/
def execUsbsEp3Poll (s : State) : Out :=
  onHub (fun s =>
    let s := s.usbsSync
    if !s.usbsServes 0x83 then s.usbsRefuses 0x83 else match s.usb.dev.ep3 with
    | some b => (s.withUsbs fun d => { d with ep3 := none }).emit (.usb 8 "ep3 in" [] b)
    | none => s.emit (.usb 8 "nak" [3] [])) s

/-! Attach (R381, R490) -/

/-- USBS_VBUS_CHANGE: VBUS on TCS appears, with the Rp current the sink reads (0 Default, 1 1.5 A, 2 3.0 A), or goes.
Where the intake is outside its window, enough current starts the recovery domain (R40), and with the intake in it VBUS
wakes STANDBY (R539). -/
def execUsbsVbusChange (present : Bool) (rp : Fin 3) (s : State) : Out :=
  onNib (fun s =>
    if s.tcsPresent == present then s
    else if present then
      let s := (s.wr Reg.TCPD_TCS_STAT_STATE 1).wr Reg.TCPD_TCS_STAT_RP_SEEN rp.val
      let s := if s.hubOn then
          let t := s.usbsAttach
          if t.usbsState == s.usbsState then t else t.usbsNotice 0
        else s
      (s.wake 4).wake 11 |>.tcsRises
    else
      let s := ((s.wr Reg.TCPD_TCS_STAT_STATE 0).wr Reg.TCPD_TCS_STAT_RP_SEEN 3).wr Reg.TCPD_TCS_STAT_PDO 0
      let s := s.wr Reg.TCPD_TCS_STAT_CONTRACT_MW 0
      let s := if s.hubOn then
          let t := s.usbsAttach
          if t.usbsState == s.usbsState then t else t.usbsNotice 0
        else s
      s.tcsLost) s

/-- USBS_CTRL has been written: EN connects or removes the pull-up. -/
def State.usbsCtrl (s : State) : State :=
  let t := s.usbsAttach
  if t.usbsState == s.usbsState then t else t.usbsNotice 0

/-! Standard requests (R381; USB 2.0 chapter 9) -/

/-- The recovery class is presented. -/
def State.usbsRecovery (s : State) : Bool := s.mode == 0

/-- The device descriptor. -/
def State.usbsDevice (s : State) : Bytes :=
  [18, 1] ++ le 2 0x0200 ++ [0, 0, 0, 64] ++ le 2 0x1F4C ++ le 2 (if s.usbsRecovery then 0x482C else 0x482B) ++
    le 2 (s.rd Reg.SYS_ID_MAJOR * 256 + s.rd Reg.SYS_ID_MINOR) ++ [0, 0, 1, 1]

/-- The configuration descriptor with its interface and endpoints, for one speed and descriptor type. -/
def State.usbsConfig (s : State) (hs : Bool) (type : Nat) : Bytes :=
  let bulk := if hs then 512 else 64
  [9, byte type] ++ le 2 39 ++ [1, 1, 0, if s.usbsRecovery then 0xC0 else 0xE0, 0] ++
    [9, 4, 0, 0, 3, 0xFF, 0x47, if s.usbsRecovery then 2 else 1, 0] ++
    [7, 5, 0x01, 2] ++ le 2 bulk ++ [0] ++ [7, 5, 0x82, 2] ++ le 2 bulk ++ [0] ++
    [7, 5, 0x83, 3] ++ le 2 16 ++ [if hs then 4 else 1]

/-- One hexadecimal digit as UTF-16. -/
def hexUnit (d : Nat) : Bytes := [byte (if d < 10 then 48 + d else 55 + d), 0]

/-- The serial number: the device identity in 16 hexadecimal digits. -/
def State.usbsSerial (s : State) : Bytes :=
  [34, 3] ++ (List.range 16).flatMap fun i => hexUnit (s.nv.deviceId / 16 ^ (15 - i) % 16)

/-- The descriptor that GET_DESCRIPTOR names. -/
def State.usbsDescriptor (s : State) (type index : Nat) : Option Bytes :=
  let hs := s.flag Reg.USBS_STAT_HS
  match type with
  | 1 => some s.usbsDevice
  | 2 => if index == 0 then some (s.usbsConfig hs 2) else none
  | 3 => if index == 0 then some [4, 3, 0x09, 0x04] else if index == 1 then some s.usbsSerial else none
  | 6 => if s.usb.dev.hsAllowed then some ([10, 6] ++ le 2 0x0200 ++ [0, 0, 0, 64, 1, 0]) else none
  | 7 => if s.usb.dev.hsAllowed && index == 0 then some (s.usbsConfig (!hs) 7) else none
  | _ => none

/-- A standard request whose status stage completes: the data it returns and what it changes; none is a STALL. -/
def State.usbsStandard (s : State) (setup : Bytes) : Option (Bytes × State) :=
  let type := leAt setup 0 1
  let req := leAt setup 1 1
  let v := leAt setup 2 2
  let idx := leAt setup 4 2
  let n := leAt setup 6 2
  let st := s.usbsState
  let endpoint : Bool := idx == 0 || idx == 0x80 || (st == 4 && (idx == 0x01 || idx == 0x82 || idx == 0x83))
  let haltable : Bool := st == 4 && (idx == 0x01 || idx == 0x82 || idx == 0x83)
  let halted := s.usb.dev.halted
  match type, req with
  | 0x80, 0 => some (([byte (1 + 2 * b2n (s.flag Reg.USBS_STAT_RWAKE_EN)), 0]).take n, s)
  | 0x81, 0 => if st == 4 && idx == 0 then some ((zeros 2).take n, s) else none
  | 0x82, 0 => if endpoint then some (([byte (b2n (halted.contains idx)), 0]).take n, s) else none
  | 0x00, 1 => if v == 1 && !s.usbsRecovery then some ([], s.put Reg.USBS_STAT_RWAKE_EN false) else none
  | 0x02, 1 =>
    if v == 0 && haltable then some ([], s.withUsbs fun d => { d with halted := d.halted.filter (· != idx) })
    else if v == 0 && endpoint then some ([], s) else none
  | 0x00, 3 =>
    if v == 1 && !s.usbsRecovery then some ([], s.put Reg.USBS_STAT_RWAKE_EN true)
    else if v == 2 && s.flag Reg.USBS_STAT_HS && idx % 256 == 0 then some ([], s.emit (.usb 8 "test mode" [idx / 256] []))
    else none
  | 0x02, 3 =>
    if v == 0 && haltable then
      some ([], s.withUsbs fun d => { d with halted := if d.halted.contains idx then d.halted else d.halted ++ [idx] })
    else if v == 0 && endpoint then some ([], s) else none
  | 0x00, 5 =>
    if v ≤ 127 && (st == 2 || st == 3) then
      some ([], (s.wr Reg.USBS_STAT_ADDRESS v).usbsGo (if v == 0 then 2 else 3))
    else none
  | 0x80, 6 => (s.usbsDescriptor (v / 256) (v % 256)).map fun b => (b.take n, s)
  | 0x80, 8 => if st == 3 || st == 4 then some (([byte (b2n (st == 4))]).take n, s) else none
  | 0x00, 9 =>
    if v ≤ 1 && (st == 3 || st == 4) then
      some ([], (s.withUsbs fun d => { d with halted := [] }).usbsGo (if v == 0 then 3 else 4))
    else none
  | 0x81, 10 => if st == 4 && idx == 0 then some (([0] : Bytes).take n, s) else none
  | 0x01, 11 =>
    if st == 4 && idx == 0 && v == 0 then some ([], s.withUsbs fun d => { d with halted := [] }) else none
  | _, _ => none

/-- USBS_CONTROL_REQUEST: a control transfer on EP0 with its data stage.  With `done` false it has not reached the end of
its status stage and is in progress; with `done` it completes and takes effect. -/
def execUsbsControlRequest (setup data : Bytes) (done : Bool) (s : State) : Out :=
  onHub (fun s =>
    if s.usbsState < 2 then s
    else if !done then s.withUsbs fun d => { d with ctrl := some (setup ++ data) }
    else
      let s := s.withUsbs fun d => { d with ctrl := none }
      match s.usbsStandard setup with
      | some (b, s) => s.emit (.usb 8 "control" (setup.map BitVec.toNat) b)
      | none => s.emit (.usb 8 "stall" [0] [])) s

/-! Bus reset (R383) -/

/-- A held request goes to Scribe once no reply waits (R63). -/
def State.usbsRelease (s : State) : State :=
  match s.cmd.usbsHeld with
  | some q =>
    if s.cmd.usbsReply.isSome || s.cmd.usbsBusy then s
    else { s with cmd := { s.cmd with usbsHeld := none, usbsBusy := true } }.enqueue { via := .usbs, pkt := parsePacket q }
  | none => s

/-- USBS_BUS_RESET (R383): `hs` says that the host has answered the high-speed chirp. -/
def execUsbsBusReset (hs : Bool) (s : State) : Out :=
  onHub (fun s =>
    if s.usbsState == 0 then s
    else
      let abandoned := s.usb.dev.ctrl.isSome
      let s := s.withUsbs fun d => { d with ctrl := none, ep3 := none, slices := none, halted := [] }
      let s := (s.wr Reg.USBS_STAT_STATE 2).wr Reg.USBS_STAT_ADDRESS 0
      let s := ((s.put Reg.USBS_STAT_HS (hs && s.usb.dev.hsAllowed)).put Reg.USBS_STAT_RWAKE_EN false).put
        Reg.USBS_STAT_SUSPENDED false
      let s := { s with cmd := { s.cmd with usbsReply := none } }.usbsRelease
      let s := s.put Reg.USBS_STAT_BUS_RESET true
      let s := (if abandoned then (s.put Reg.USBS_STAT_ABANDONED true).count 0x1AB else s).count 0x1AA
      (s.usbsNotice (1 + 2 * b2n abandoned)).wake 11) s

/-! Suspend and remote wake (R384, R385) -/

/-- USBS_SUSPEND (R384). -/
def execUsbsSuspend (s : State) : Out :=
  onHub (fun s =>
    if s.usbsState == 0 || s.flag Reg.USBS_STAT_SUSPENDED then s
    else (s.put Reg.USBS_STAT_SUSPENDED true).usbsNotice 4) s

/-- Suspend ends as the host resumes. -/
def State.usbsResumed (s : State) : State :=
  ((s.put Reg.USBS_STAT_SUSPENDED false).withUsbs fun d => { d with slices := none }).usbsNotice 8 |>.wake 11

/-- The host is found driving resume: the wake counts as delivered, and as a collision (R385). -/
def State.usbsCollided (s : State) : State :=
  ((s.bump Reg.USBS_WAKE_DELIVERED).bump Reg.USBS_WAKE_COLLIDED).usbsResumed

/-- USBS_REMOTE_WAKE_START (R384): the controller has been suspended for 5 ms, and the other three conditions are checked;
`hostK` is K on the bus in the 100 µs before the first
slice. -/
def execUsbsRemoteWakeStart (hostK : Bool) (s : State) : Out :=
  onHub (fun s =>
    let s := s.usbsSync
    if !(s.flag Reg.USBS_STAT_RWAKE_EN && s.flag Reg.USBS_CTRL_WAKE_ALLOW && s.flag Reg.USBS_STAT_SUSPENDED) ||
        s.usb.dev.ep3.isNone || s.usb.dev.slices.isSome then s
    else if hostK then s.usbsCollided
    else (s.withUsbs fun d => { d with slices := some 0 }).emit (.usb 8 "K" [] [])) s

/-- USBS_WAKE_SLICE_END (R384, R385): after a slice the bus is released and sampled; eight slices end the K. -/
def execUsbsWakeSliceEnd (hostK : Bool) (s : State) : Out :=
  onHub (fun s => match s.usb.dev.slices with
    | none => s
    | some k =>
      if hostK then s.usbsCollided
      else if k + 1 == 8 then (s.withUsbs fun d => { d with slices := none }).bump Reg.USBS_WAKE_DELIVERED
      else (s.withUsbs fun d => { d with slices := some (k + 1) }).emit (.usb 8 "K" [] [])) s

/-- USBS_HOST_RESUME (R384, R385). -/
def execUsbsHostResume (s : State) : Out :=
  onHub (fun s =>
    if !s.flag Reg.USBS_STAT_SUSPENDED then s
    else if s.usb.dev.slices.isSome then s.usbsCollided else s.usbsResumed) s

end Sys2Proof.Machine
end

