-- ==== Sys2Proof/Machine/Audit.lean ====
section
/-!
DEFINITION. AUDIT: the conserved quantities of R215, their quiescent points, and the line-wide form (R166, R215, R216).
-/

namespace Sys2Proof.Machine

/-! The checks (R215): none where no quiescent point was found, else whether every item is in balance -/

/-- SCOPE bit 0, trunk credits ALLOT = CREDIT + INFLIGHT + OCC + RETPEND: the result of the CREDIT_REPORT exchange on each
trunk whose link is ACTIVE (R161, R166, R215). -/
def State.auditCredits (s : State) : Option Bool :=
  let l := ([0, 1].filter s.linkActive).map fun t => (s.link t).audited
  if l.contains (some false) then some false else if l.contains none then none else some true

/-- SCOPE bit 1, switch buffer cells: FREE + ALLOCATED = 229,376, and what R247 adds (R215, R247). -/
def State.auditCells (s : State) : Bool :=
  let held (p : Nat) : Nat := s.rd (Reg.SWC_INHELD_HELD p)
  let alloc := s.rd Reg.SWC_ALLOC_ALLOCATED
  s.rd Reg.SWC_FREE_FREE + alloc == 229376 &&
    alloc == ((List.range 32).map held).sum + s.rd Reg.SWC_MCXFER_CELLS &&
    [0, 1].all fun t => held (2 * t) + held (2 * t + 1) == ([0, 1, 2, 3].map fun v => s.rd (Reg.TLK_OCC_OCC t v)).sum

/-- One policer bucket as its registers show it: 0 ≤ TOKENS ≤ BURST, and TOKENS = ADDED_CUM − SPENT_CUM − CLIPPED_CUM
modulo 2^32 (R215, R264). -/
def bucketBalanced (tokens kib added spent clipped : Nat) : Bool :=
  tokens ≤ kib * 262144 && (tokens + spent + clipped) % 2 ^ 32 == added % 2 ^ 32

/-- The active policers of this Damya: tunnel and direction. -/
def State.activePolicers (s : State) : List (Nat × Nat) :=
  (s.validTids.filter s.tidOpen).flatMap fun t => ((s.ingressDirs t).filter fun d => (s.policer t d).isSome).map fun d => (t, d)

/-- One policer is read through SCH_POLSEL (R264). -/
def State.readPolicer (s : State) (t d : Nat) : State :=
  s.policerSnapshot (Reg.SCH_POLSEL_DIR.put (Reg.SCH_POLSEL_TID.put 0 t) d)

/-- SCOPE bit 2, policer tokens: each active policer is read through SCH_POLSEL (R264). -/
def State.auditPolicers (s : State) : Bool × State :=
  s.activePolicers.foldl (fun acc x =>
    let s := acc.2.readPolicer x.1 x.2
    (acc.1 && bucketBalanced (s.rd Reg.SCH_POLTC_TC) (s.rd Reg.SCH_POLBKT_CBS) (s.rd Reg.SCH_POLADDC_ADDED_CUM)
        (s.rd Reg.SCH_POLSPENTC_SPENT_CUM) (s.rd Reg.SCH_POLCLIPC_CLIPPED_CUM) &&
      bucketBalanced (s.rd Reg.SCH_POLTP_TP) (s.rd Reg.SCH_POLBKT_PBS) (s.rd Reg.SCH_POLADDP_ADDED_CUM)
        (s.rd Reg.SCH_POLSPENTP_SPENT_CUM) (s.rd Reg.SCH_POLCLIPP_CLIPPED_CUM), s)) (true, s)

/-- The carved regions of USB endpoint memory: offset and size in 64-byte units. -/
def State.usbRegions (s : State) : List (Nat × Nat) :=
  ((List.range 256).filter fun c => s.flag (Reg.USBMEM_CTX_VALID c)).map fun c =>
    (s.rd (Reg.USBMEM_CTX_OFF c), s.rd (Reg.USBMEM_CTX_SIZE c))

/-- No two regions of a list overlap. -/
def disjointRegions : List (Nat × Nat) → Bool
  | [] => true
  | r :: l => (l.all fun q => r.1 + r.2 ≤ q.1 || q.1 + q.2 ≤ r.1) && disjointRegions l

/-- SCOPE bit 3, USB endpoint memory: the carved regions are disjoint, and their sizes plus the free space are 256 KiB
(R215, R372). -/
def State.auditUsbmem (s : State) : Bool :=
  let l := s.usbRegions
  disjointRegions l && (l.map (·.2)).sum + s.rd Reg.USBMEM_FREE_FREE == 4096

/-- SCOPE bit 4, PD power budget: counted power + free budget = budget set, and counted power ≤ 180 W, with no renegotiation
under way (R215, R474, R475). -/
def State.auditBudget (s : State) : Option Bool :=
  if ([0, 1, 2, 3].all fun n => s.rd (Reg.TCPD_PORT_PEND_MW n) == 0) then
    some (s.countedMw + s.freeMw == s.rd Reg.TCPD_BUDGET_BUDGET_MW && s.countedMw ≤ 180000)
  else none

/-- SCOPE bit 5, eFuse retry counts: used + left = limit on every channel, with no retry decision due (R215, R513). -/
def State.auditRetries (s : State) : Option Bool :=
  if (List.range 8).any fun n => (s.fuse n).deciding then none
  else some ((List.range 8).all fun n =>
    s.rd (Reg.EFU_CH_RETRY_USED n) + s.rd (Reg.EFU_CH_RETRY_LEFT n) == s.rd (Reg.EFU_CH_RETRY_LIMIT n))

/-- SCOPE bit 6, flit sequence numbers: (TX_NEXT − ACKED − 1) mod 4096 = OUTSTANDING ≤ 256 on the trunks in ACTIVE, RETRAIN
and LOWPOWER (R215). -/
def State.auditSeq (s : State) : Bool :=
  [0, 1].all fun t =>
    let ls := s.rd (Reg.TLK_STAT_LSTATE t)
    let out := s.rd (Reg.TLK_REPLAY_OUTSTANDING t)
    !(ls == 2 || ls == 3 || ls == 5) ||
      ((s.rd (Reg.TLK_SEQ_TX_NEXT t) + 8191 - s.rd (Reg.TLK_REPLAY_ACKED t)) % 4096 == out && out ≤ 256)

/-- OUTSTANDING of a USB port (R367). -/
def State.usbOutstanding (s : State) (n : Nat) : Nat :=
  (s.rd (Reg.USBH_PORT_SEQ_BSEQ n) + 65536 - s.rd (Reg.USBH_PORT_SEQ_REL n)) % 65536

/-- SCOPE bit 7, USB-tunnel sequence numbers: bursts produced less bursts released, the bursts outstanding, are at most the
ring's capacity (R215, R367). -/
def State.auditBursts (s : State) : Bool :=
  (List.range 8).all fun n => s.usbOutstanding n ≤ 2 ^ s.rd (Reg.USBH_PORT_RING_RING_LOG2 n)

/-- The check of one SCOPE bit. -/
def State.auditBit (s : State) : Nat → Option Bool
  | 0 => s.auditCredits
  | 1 => some s.auditCells
  | 2 => some s.auditPolicers.1
  | 3 => some s.auditUsbmem
  | 4 => s.auditBudget
  | 5 => s.auditRetries
  | 6 => some s.auditSeq
  | _ => some s.auditBursts

/-- The bits of a scope whose check answers `x`, as a mask. -/
def State.auditMask (s : State) (scope : Nat) (x : Option Bool) : Nat :=
  (((List.range 8).filter fun k => bit scope k && s.auditBit k == x).map (2 ^ ·)).sum

/-- The local part ends: TUN_AUDIT takes the results; the flag says that every check passed. -/
def State.auditLocal (s : State) (scope : Nat) : State × Bool :=
  let bad := s.auditMask scope (some false)
  let quiet := s.auditMask scope none
  let s := if bit scope 2 then s.auditPolicers.2 else s
  (((s.wr Reg.TUN_AUDIT_CHECKED (scope - quiet)).wr Reg.TUN_AUDIT_MISMATCH bad).wr Reg.TUN_AUDIT_NOQUIET quiet, bad == 0)

/-! The line (R216) -/

/-- The root marks position p as mismatched. -/
def State.auditPosition (s : State) (p : Nat) : State :=
  if p == 32 then s.put Reg.TUN_AUDIT_POS_HI_POS32 true
  else s.wr Reg.TUN_AUDIT_POS_LO_POS (setBit (s.rd Reg.TUN_AUDIT_POS_LO_POS) p)

/-- Station p has answered the line-wide AUDIT with a status, or has not in time. -/
def State.auditAnswered (s : State) (p : Nat) (good : Bool) : State :=
  match s.tun.audit with
  | none => s
  | some a =>
    if !a.waiting.contains p then s
    else
      let s := s.withTun fun n => { n with audit := some { a with waiting := a.waiting.filter (· != p) } }
      if good then s else s.auditPosition p

/-- A reply from station p to the AUDIT that the root sent. -/
def State.auditReply (s : State) (p : Nat) (b : Bytes) : State :=
  let q := parsePacket b
  match s.tun.audit with
  | some a => if a.seq == q.seq && q.opcode == 0x0405 then s.auditAnswered p (q.status == Status.ok) else s
  | none => s

/-- AUDIT_STATION_TIMEOUT (R216). -/
def execAuditStationTimeout (position : Fin 33) (s : State) : Out :=
  onHub (fun s => s.auditAnswered position.val false) s

/-- A credit check is asked of trunk t: its transmit engine sends one CREDIT_REPORT, and the far end answers (R166). -/
def State.auditTrunk (s : State) (t : Nat) : State :=
  if s.linkActive t then s.withLink t fun l => { l with
    reportDue := true, reportId := (l.reportId + 1) % 256, audited := none }
  else s

/-- The job's start: the credit checks, and for the line a packet to each station. -/
def State.auditBegin (s : State) (job scope where_ : Nat) : State :=
  let s := if bit scope 0 then (s.auditTrunk 0).auditTrunk 1 else s
  if where_ == 0 then s
  else
    let (k, s) := s.nextSeq
    let l := (List.range (s.rd Reg.TUN_LINE_STATIONS)).map (· + 1)
    let s := (s.setReg Reg.TUN_AUDIT_POS_LO_A 0).setReg Reg.TUN_AUDIT_POS_HI_A 0
    l.foldl (fun (s : State) p => s.sendPacket p 0x0405 k [byte scope, 0, 0, 0])
      (s.withTun fun n => { n with audit := some { job := job, seq := k, waiting := l } })

/-- The body of AUDIT.  To the root's own packet a station answers when the job ends. -/
def auditBody : Body := fun r =>
  takes 4 (fun p s =>
    let scope := leAt p 0 1
    let where_ := leAt p 1 1
    if where_ > 1 || (where_ == 1 && !s.isRoot) then .fail s Status.badParam
    else
      let own : Bool := r.via == .tid0 && r.sys && !s.isRoot
      match s.startJob 0x0405 (.audit scope where_ (if own then some r else none)) with
      | .reply t status params =>
        let t := if status == Status.started then t.auditBegin t.cmd.lastJob scope where_ else t
        if own && status == Status.started then .later t else .reply t status params
      | x => x) r

/-- AUDIT (R216). -/
def execAudit (r : Request) (s : State) : Out := runCommand 0x0405 auditBody r s

/-- The job of an AUDIT may end: no station is awaited. -/
def State.auditMayEnd (s : State) (job : Nat) : Bool :=
  match s.tun.audit with
  | some a => a.job != job || a.waiting == []
  | none => true

/-- The status with which it ends. -/
def State.auditEnd (s : State) (job scope where_ : Nat) (req : Option Request) : State × Nat :=
  let (s, good) := s.auditLocal scope
  let far := where_ == 1 && (s.rd Reg.TUN_AUDIT_POS_LO_POS != 0 || s.flag Reg.TUN_AUDIT_POS_HI_POS32)
  let s := if good then s else if where_ == 1 then s.auditPosition 0 else s
  let s := match s.tun.audit with
    | some a => if a.job == job then s.withTun fun n => { n with audit := none } else s
    | none => s
  let status := if good && !far then Status.ok else Status.auditMismatch
  (match req with
   | some r => s.answer r status
   | none => s, status)

end Sys2Proof.Machine
end

