-- ==== Sys2Proof/Machine/Operands.lean ====
section
/-!
DEFINITION. Register operands: how a word written to a register acts on each field by the field's own access type (R13,
R14, R15, R17), and how an address names one of an array of registers.
-/

namespace Sys2Proof.Machine

/-- What a write of `w` leaves in one field (R13): a W1C field loses the bits written 1, an RO or WO field is kept, and
every other field takes its bits of `w`. -/
def FieldDef.written (f : FieldDef) (a : Nat) (w old : Word) : Word :=
  match f.acc with
  | .rw | .rws | .rwl => (f.at a).put old ((f.at a).get w)
  | .w1c => (f.at a).put old ((f.at a).get (old &&& ~~~w))
  | .ro | .wo => old

/-- The word a register at `a` holds after `w` is written to it, before anything the write causes (R15, R17). -/
def regWritten (a : Nat) (w old : Word) : Word :=
  match regRow a with
  | some (r, _) => r.fields.foldl (fun x f => f.written a w x) old
  | none => old

/-- The write with no effect but on the register's own fields. -/
def State.plainWrite (s : State) (a : Nat) (w : Word) : State := s.setReg a (regWritten a w (s.reg a))

/-- The W1C bits of the register at `a`. -/
def w1cMask (a : Nat) : Word :=
  match regRow a with
  | some (r, _) => r.fields.foldl (fun x f => if f.acc == .w1c then x ||| (f.at a).mask else x) 0
  | none => 0

/-- The bits of the register at `a` that a lock protects. -/
def lockMask (a : Nat) : Word :=
  match regRow a with
  | some (r, _) => r.fields.foldl (fun x f => if f.acc == .rwl then x ||| (f.at a).mask else x) 0
  | none => 0

/-- The index of address `a` in an array of `count` registers, `stride` bytes apart from `base`. -/
def regIndex (base stride count a : Nat) : Option Nat :=
  if base ≤ a && (a - base) % stride == 0 && (a - base) / stride < count then some ((a - base) / stride) else none

/-- The address lies in no block, or at no register of its block (R16). -/
def badAddress (a : Nat) : Bool := (regRow a).isNone

end Sys2Proof.Machine
end

