-- ==== Sys2Proof/Machine/Deliver.lean ====
section
/-!
DEFINITION. What starts at an output: the port units take whole segments, and the class contexts and multicast heads start
copies (R186, R237, R242); completions of the station function reach their units and time out (R296); URG timeouts (R272,
R275); the samplers' and Comet selectors' commands (R278, R617).
-/

namespace Sys2Proof.Machine

/-! The station function's reads end (R296) -/

/-- A read of requester SUB 3 has failed: the transfer whose OUT buffer it was ends with DMA_ERROR (R368).  What its other
reads bring comes with the commands that start them. -/
def State.usbReadFails (s : State) (a : Nat) : State :=
  (List.range 8).foldl (fun (s : State) n =>
    match (s.usbPort n).tds.find? (fun d => d.started && d.out != [] && d.buf ≤ a && a < d.buf + d.len) with
    | some d => (s.count (usbCounter n 5)).tdEnd n d 8
    | none => s) s

/-- A requester learns how its read ended: data, or none for a failure.  SUB 4 reads nothing. -/
def State.sfnDone (s : State) (t : SfnTag) (b : Option Bytes) : State :=
  if t.sub < 2 then s.pipeArrived t.sub t.addr b
  else if t.sub == 3 then (if b.isNone then s.usbReadFails t.addr else s)
  else if t.sub != 2 then s
  else
    let data := b.getD (zeros t.len)
    match s.point.load with
    | some l =>
      if l.addr ≤ t.addr && t.addr < l.addr + 8 * (l.stop - l.next) then
        State.loadEarly 128
          (s.withPoint fun p => { p with load := some { l with early := l.early ++ [(t.addr, padTo t.len data, b.isSome)] } })
      else s.fetchArrived [(t.addr, data)] b.isNone
    | none => s.fetchArrived [(t.addr, data)] b.isNone

/-- COMPLETION_TIMEOUT (R296): CTO_MS has passed. -/
def execCompletionTimeout (tag : Fin 1024) (s : State) : Out :=
  onHub (fun s => match s.pcie.tags.find? fun t => t.tag == tag.val with
    | some t => (s.tagTimeout t).sfnDone t none
    | none => s) s

/-! Port units -/

/-- The port unit of output o has room for the segment: a PCI Express unit whose head is not held back, a vNIC queue or an
Ethernet port with space. -/
def State.unitRoom (s : State) (o : Nat) (h : Held) : Bool :=
  if o < 6 then !s.parkBlocks (if s.isRoot then 0 else o - 4) h
  else if o == 10 then s.vnicFits (s.rd (Reg.TUN_ENTRY_W1_SUB h.seg.tid))
  else if 11 ≤ o && o ≤ 18 then s.ethFits (o - 11) h.seg.payload
  else true

/-- A command packet for Scribe (R59, R65, R209, R216). -/
def State.scribeAccept (s : State) (g : Segment) : State :=
  let q := parsePacket g.payload
  if bit q.flags 0 then
    if !s.isRoot then s
    else if s.tun.phases.any fun p => p.seq == q.seq && p.waiting.contains g.src then s.hopReply g.src g.payload
    else if s.tun.audit.any fun a => a.seq == q.seq && q.opcode == 0x0405 && a.waiting.contains g.src then
      s.auditReply g.src g.payload
    else s.relayedReply g.src g.payload
  else s.enqueue { via := .tid0, pkt := q, sys := g.sys && g.src == 0 }

/-- The port unit of output o takes the whole segment; at a tunnel's egress endpoint and taps SSEQ is checked (R187). -/
def State.unitAccept (s : State) (o : Nat) (h : Held) : State :=
  let g := h.seg
  let s := s.egressCheck g
  if o < 10 then
    match s.pcieAccept o h with
    | (s, some (t, b)) => s.sfnDone t b
    | (s, none) => s
  else if o == 10 then s.vnicReceive (s.rd (Reg.TUN_ENTRY_W1_SUB g.tid)) g.payload
  else if o ≤ 18 then s.ethAccept (o - 11) g.payload
  else if o == 19 then s.scribeAccept g
  else if o == 20 then (if h.input < 4 then s.hopArrives (h.input / 2) g.payload else s)
  else s.recordDelivered (if h.input < 4 then h.input / 2 else 0) g

/-- The port units; `room` is what the outside of a port allows. -/
def portUnits (room : Bool) : Units := { room := fun s o h => room && s.unitRoom o h, accept := State.unitAccept }

/-- A full park holds back the head of output o's class c (R301). -/
def State.parkFullNotice (s : State) (o c : Nat) : State :=
  let n := if s.isRoot then 0 else o - 4
  if (o == 4 || o == 5) && (s.candidates o c).any fun k => s.parkBlocks n k.held then
    s.limited (0x0B03_0000 + n) 0x0B03 fun _ => byte (if s.isRoot then 2 else n) :: le 2 (s.rd (Reg.PCIE_NP_PARK_SIZE n))
  else s

/-- CONTEXT_SEGMENT_START (R237): the class context of output `o` is free; `room` is the outside's room at the port. -/
def execContextSegmentStart (o : Fin 32) (c : Fin 4) (room : Bool) (s : State) : Out :=
  onHub (fun s => (s.parkFullNotice o c).contextStart (portUnits room) o c) s

/-- MULTICAST_HEAD_REPLICATE (R242, R244). -/
def execMulticastHeadReplicate (i : Fin 32) (c : Fin 4) (s : State) : Out :=
  onHub (fun s => s.replicate (portUnits true) i c) s

/-- The switch core in the core cycle that has begun (R252). -/
def State.coreCycle (s : State) : State :=
  if s.sw.held == [] then s
  else
    let s := [4, 5].foldl (fun (s : State) o => [0, 1, 2, 3].foldl (fun (s : State) c => s.parkFullNotice o c) s) s
    s.switchCycle (portUnits true)

/-! Urgent state (R272, R275) -/

/-- URG_STATE_CLEAR_TIMEOUT (R272): no request of the fetch tunnel has arrived for CLEAR_US. -/
def execUrgStateClearTimeout (tid : Fin 1024) (s : State) : Out :=
  onHub (fun s => if s.isRoot && s.sw.urgent.contains tid.val then s.setUrgent tid false else s) s

/-- URG_LONG_EXPIRY (R275): byte 2 names the Damya that sets URG, 2 at the root and a station's pipe otherwise. -/
def execUrgLongExpiry (tid : Fin 1024) (s : State) : Out :=
  onHub (fun s =>
    let t := tid.val
    if s.rd Reg.SCH_URG_LONG_MS == 0 then s
    else if s.isRoot then
      if s.sw.urgent.contains t && !s.sw.urgLong.contains t then
        ({ s with sw := { s.sw with urgLong := s.sw.urgLong ++ [t] } }).notice 0x0441 (le 2 t ++ [2])
      else s
    else
      match [0, 1].find? fun p => s.sfnTunnel p == some t && s.flag (Reg.DSP_STAT_LOW p) && s.flag Reg.SCH_CTRL_URG_EN with
      | none => s
      | some p =>
        if s.sw.urgLong.contains p then s
        else ({ s with sw := { s.sw with urgLong := s.sw.urgLong ++ [p] } }).notice 0x0441 (le 2 t ++ [byte p])) s

/-! SAMPLE_CONFIG and COMET_CONFIG -/

/-- A port number names a connected port, or every port where 0xFF may. -/
def State.portOk (s : State) (p : Nat) (all : Bool) : Bool := connected s.isRoot p || (all && p == 0xFF)

/-- SAMPLE_CONFIG (R278). -/
def execSampleConfig (r : Request) (s : State) : Out :=
  runCommand 0x0907 (takes 12 fun p s =>
    let k := leAt p 0 1
    let a : Word := BitVec.ofNat 32 (leAt p 4 4)
    let b : Word := BitVec.ofNat 32 (leAt p 8 4)
    let en := (Reg.SCH_SMP_A_EN 0).get a == 1
    let mode := (Reg.SCH_SMP_A_MODE 0).get a
    if k > 7 || !s.portOk ((Reg.SCH_SMP_A_OUTPUT 0).get a) false || !s.portOk ((Reg.SCH_SMP_A_INPUT 0).get a) true ||
        (en && (mode == 0 || mode == 3)) || (en && (Reg.SCH_SMP_B_PERIOD_N 0).get b == 0) then .fail s Status.badParam
    else .ok ((s.plainWrite (Reg.SCH_SMP_A_A k) a).plainWrite (Reg.SCH_SMP_B_A k) b)) r s

/-- The master on this transport may read the snapshot bank (R610). -/
def State.mayPerfRead (s : State) (v : Transport) : Bool := bit (s.rd Reg.PERF_ACCESS_READ) (masterBit v - 8)

/-- The master on this transport may clear the counters. -/
def State.mayPerfClear (s : State) (v : Transport) : Bool := bit (s.rd Reg.PERF_ACCESS_CLEAR) (masterBit v - 8)

/-- COMET_CONFIG (R610, R617). -/
def execCometConfig (r : Request) (s : State) : Out :=
  runCommand 0x0906 (fun r => takes 12 (fun p s =>
    let k := leAt p 0 1
    let a : Word := BitVec.ofNat 32 (leAt p 4 4)
    let b : Word := BitVec.ofNat 32 (leAt p 8 4)
    if !s.mayPerfRead r.via then .fail s Status.denied
    else if k > 3 || !s.portOk ((Reg.CMT_SEL_A_INPUT 0).get a) true || !s.portOk ((Reg.CMT_SEL_B_OUTPUT 0).get b) true ||
        ((Reg.CMT_SEL_A_EN 0).get a == 1 && (Reg.CMT_SEL_A_CLASSES 0).get a == 0) then .fail s Status.badParam
    else .ok ((s.plainWrite (Reg.CMT_SEL_A_A k) a).plainWrite (Reg.CMT_SEL_B_A k) b)) r) r s

end Sys2Proof.Machine
end

