-- ==== Sys2Proof/Machine/Epoch.lean ====
section
/-!
DEFINITION. The scheduler epoch: what takes effect every 4096 core cycles (R163, R228, R229, R259, R260, R267, R276, R278,
R279, R534, R617).  A prepared retune is applied by its own event, RETUNE_APPLY.
-/

namespace Sys2Proof.Machine

/-- A regulator's or gate's bucket takes its new size: what it holds beyond that is lost. -/
def State.xcfgEpoch (s : State) : State :=
  let keep (x : Table (Option Bucket)) (f : Nat → Bucket) : Table (Option Bucket) :=
    [0, 1].foldl (fun x t => if (Table.get (fun _ => none) x t).isSome then Table.set (fun _ => none) x t (some (f t)) else x) x
  let regs := keep s.sw.regulators s.regulator
  let gates := keep s.sw.gates s.gate
  let s := s.withSw fun w => { w with regulators := regs, gates := gates }
  (s.wr Reg.SCH_XCFG_XB_ACT (clamp 1 18 (s.rd Reg.SCH_XCFG_XB))).wr Reg.SCH_XCFG_XL_ACT (clamp 1 18 (s.rd Reg.SCH_XCFG_XL))

/-- The shaper of an output and class takes its rate, burst and enable; it starts full, and holds no state while disabled
(R260). -/
def State.shaperEpoch (s : State) (o c : Nat) : State :=
  let b := s.shaper o c
  let was := s.shaperOn o c
  let s := s.latchRegs [Reg.SCH_SHP0_A o (c - 1), Reg.SCH_SHP1_A o (c - 1)]
  let new := if was && s.shaperOn o c then some b else none
  s.withSw fun w => { w with shapers := Table.set (fun _ => none) w.shapers (4 * o + c) new }

/-- Every port's shapers, weights and overhead. -/
def State.ratesEpoch (s : State) : State :=
  (List.range 32).foldl (fun (s : State) p =>
    [1, 2, 3].foldl (fun (s : State) c => s.shaperEpoch p c) (s.latchRegs [Reg.SCH_OUT_A p, Reg.SCH_INWGT_A p])) s

/-- The samplers and the Comet selectors act as last written (R278, R617). -/
def State.selectEpoch (s : State) : State :=
  let table (reset : Nat) (n : Nat) (a : Nat → Nat) : Table Word :=
    (List.range n).foldl (fun x k => Table.set (fun _ => regReset reset) x k (s.reg (a k))) []
  let sa := table (Reg.SCH_SMP_A_A 0) 8 Reg.SCH_SMP_A_A
  let sb := table (Reg.SCH_SMP_B_A 0) 8 Reg.SCH_SMP_B_A
  let ca := table (Reg.CMT_SEL_A_A 0) 4 Reg.CMT_SEL_A_A
  let cb := table (Reg.CMT_SEL_B_A 0) 4 Reg.CMT_SEL_B_A
  (s.withSw fun w => { w with sampleA := sa, sampleB := sb }).withPerf fun p => { p with selA := ca, selB := cb }

/-- SWC_TRKLIM.LIMIT takes effect with both links DOWN and the pool's cells in use still covered (R229). -/
def State.limitEpoch (s : State) : State :=
  let new := clamp 4096 24576 (s.rd Reg.SWC_TRKLIM_LIMIT)
  let mins := (s.localInputs.map fun p => s.rd (Reg.SWC_INMIN_MIN_ACT p)).foldl (· + ·) 0
  if new != s.rd Reg.SWC_TRKLIM_LIMIT_ACT && s.lstate 0 == 0 && s.lstate 1 == 0 &&
      2 * new + mins + s.poolUsed ≤ 229376 then
    (s.wr Reg.SWC_TRKLIM_LIMIT_ACT new).poolSync
  else s

/-- SWC_INMINp.MIN: a decrease takes effect, and so does an increase for which the pool has the cells free (R229). -/
def State.minEpoch (s : State) : State :=
  s.localInputs.foldl (fun (s : State) p =>
    let new := clamp 160 2048 (s.rd (Reg.SWC_INMIN_MIN p))
    let old := s.rd (Reg.SWC_INMIN_MIN_ACT p)
    if new < old || (old < new && new - old ≤ s.poolSize - s.poolUsed) then (s.wr (Reg.SWC_INMIN_MIN_ACT p) new).poolSync
    else s) s

/-- Trunk t's allotments (R163, R228): a sum above LIMIT_ACT moves nothing and raises ALLOT_LIMIT once for the write. -/
def State.allotEpoch (s : State) (t : Nat) : State :=
  let sum := ([0, 1, 2, 3].map fun v => s.rd (Reg.TLK_ALLOT_ALLOT t v)).sum
  let limit := s.rd Reg.SWC_TRKLIM_LIMIT_ACT
  if (s.link t).move.isSome || [0, 1, 2, 3].all (fun v => s.rd (Reg.TLK_ALLOT_ALLOT t v) == s.allotted t v) then s
  else if sum ≤ limit then s.moveEpoch t
  else if s.sw.allotRefused.contains t then s
  else (s.withSw fun w => { w with allotRefused := w.allotRefused ++ [t] }).notice 0x0421 ([byte t] ++ le 2 sum ++ le 2 limit)

/-- An epoch: every change before any decision, then the DEPTH samples. -/
def State.epoch (s : State) : State :=
  let s := (s.incr Reg.SCH_EPOCH_EPOCHS).opEpoch
  let s := s.xcfgEpoch.ratesEpoch.selectEpoch
  let s := s.limitEpoch.minEpoch
  let s := (s.allotEpoch 0).allotEpoch 1
  s.sampleDepth

/-- SCHEDULER_EPOCH. -/
def execSchedulerEpoch (s : State) : Out := onHub State.epoch s

end Sys2Proof.Machine
end

