-- ==== Sys2Proof/Machine/Jobs.lean ====
section
/-!
DEFINITION. The end of a job (R67, R68, R568): what each kind does when it ends, and JOB_DONE with its status.
-/

namespace Sys2Proof.Machine

/-- UNIT_MAP_IN's end (R35, R538): the self-test decides. -/
def State.mapInDone (s : State) (u : Nat) (good : Bool) : State × Nat :=
  if good then ((s.mapIn u).unitReturns u, Status.ok) else (s, Status.selftestFail)

/-- LC_ADVANCE's end (R570); a transition that a job before it has overtaken is not made. -/
def State.lcAdvanceDone (s : State) (target : Nat) : State × Nat :=
  let c := s.lcStatus target
  if c == Status.ok then (s.lcAdvance target, c) else (s, c)

/-- OTP_PROGRAM OP 1's end (R565, R75). -/
def State.otpPasswordDone (s : State) (salt verifier : Bytes) : State × Nat :=
  if s.nv.password.isSome then (s, Status.exists_)
  else ({ s with nv := { s.nv with password := some (salt, verifier) } }, Status.ok)

/-- FW_BEGIN's end (R591). -/
def State.fwBeginDone (s : State) (good : Bool) : State × Nat :=
  if !good || !s.nv.flashOk then (s.count 0x2F2, Status.flashError)
  else (s, Status.ok)

/-- SETTINGS_WRITE's end (R594, R597). -/
def State.settingsWriteDone (s : State) (resetAll : Bool) (rs : List (Nat × Bytes)) (good : Bool) : State × Nat :=
  if !good || !s.nv.flashOk then (s.count 0x2F2, Status.flashError) else (s.storeSettings resetAll rs, Status.ok)

/-- What job j does at its end, with its status.  `good` says that the test passed, or that the flash took the data. -/
def State.jobEffect (s : State) (j : Job) (good : Bool) : State × Nat :=
  match j.kind with
  | .mapIn u => s.mapInDone u good
  | .selftest _ => (s, if good then Status.ok else Status.selftestFail)
  | .audit scope where_ req => s.auditEnd j.num scope where_ req
  | .lcAdvance target => s.lcAdvanceDone target
  | .otpKey slot key attr =>
    if (s.otpSlot slot).programmed || (s.otpSlot slot).retired then (s, Status.exists_)
    else (s.otpKeyDone slot key attr, Status.ok)
  | .otpPassword salt verifier => s.otpPasswordDone salt verifier
  | .otpRetire slot => (s.otpRetireDone slot, Status.ok)
  | .fwBegin _ _ => s.fwBeginDone good
  | .fwBlock slot i data => s.fwBlockDone slot i data good
  | .fwVerify slot => s.fwVerifyDone slot good
  | .settingsWrite resetAll rs => s.settingsWriteDone resetAll rs good

/-- The writers of the flash, each of which acts one at a time: 1 the image slots (R592), 2 the settings area (R594). -/
def flashWriter (k : JobKind) : Nat :=
  match k with
  | .fwBegin _ _ | .fwBlock _ _ _ | .fwVerify _ => 1
  | .settingsWrite _ _ => 2
  | _ => 0

/-- Whether job j may end now: an AUDIT of the line awaits its stations, a write to the flash those that started before it;
a job that a restart stopped has ended. -/
def State.jobMayEnd (s : State) (j : Job) : Bool :=
  !j.aborted && j.result.isNone && (match j.kind with
    | .audit _ _ _ => s.auditMayEnd j.num
    | k => flashWriter k == 0 || (s.cmd.jobs.takeWhile fun x => x.num != j.num).all fun x =>
      x.aborted || flashWriter x.kind != flashWriter k)

/-- A job ends with its effect and status. -/
def State.jobEnds (s : State) (j : Job) (good : Bool) : State :=
  let (t, c) := s.jobEffect j good
  t.jobFinished j c

/-- JOB_COMPLETE. -/
def execJobComplete (job : Nat) (good : Bool) (s : State) : Out :=
  onHub (fun s => match s.cmd.jobs.find? (fun j => j.num == job) with
    | some j => if s.jobMayEnd j then s.jobEnds j good else s
    | none => s) s

end Sys2Proof.Machine
end

