-- ==== Sys2Proof/Machine/QueueCmds.lean ====
section
/-!
DEFINITION. The consumer side of the standard queues: the queue commands, the enable edge and the integrity reset
(R87 to R91).
-/

namespace Sys2Proof.Machine

/-- The ring base that QUE_RINGHIq and QUE_RINGLOq hold (R92). -/
def State.ringBase (s : State) (q : Nat) : Nat :=
  (s.reg (Reg.QUE_RINGHI_A q)).toNat * 2 ^ 32 + s.rd (Reg.QUE_RINGLO_ADDR_LO q) * 4096

/-- The edge of ENABLE from 0 to 1 (R90, R91): the queue is reset, then MODE and the ring base are sampled. -/
def State.queueRise (s : State) (q : Nat) : State :=
  s.setQueue q { (s.queue q).reset with dma := s.flag (Reg.QUE_CFG_MODE q), ring := s.ringBase q }

/-- A write of QUE_CFGq's fields (R90): LEVEL, INT_EN, MODE and ENABLE, and the edge when ENABLE rises. -/
def State.queueConfigure (s : State) (q : Nat) (w : Nat) : State :=
  let was := s.flag (Reg.QUE_CFG_ENABLE q)
  let s := (((s.wr (Reg.QUE_CFG_LEVEL q) (bits w 28 16)).wr (Reg.QUE_CFG_INT_EN q) (bits w 2 2)).wr
    (Reg.QUE_CFG_MODE q) (bits w 1 1)).wr (Reg.QUE_CFG_ENABLE q) (bits w 0 0)
  if !was && bit w 0 then s.queueRise q else s

/-- The guard of the queue commands: Q above 3 is BAD_PARAM (R88), and the ROM runs the notice queue only (R599). -/
def onQueue (n : Nat) (body : Nat → Bytes → State → Answer) : Body :=
  takes n fun p s =>
    let q := leAt p 0 1
    if q > 3 then .fail s Status.badParam
    else if s.mode == 0 && q != 0 then .fail s Status.wrongMode
    else body q p s

/-- QUEUE_CONFIG (R88): the ring base and QUE_CFGq as one action. -/
def execQueueConfig (r : Request) (s : State) : Out :=
  runCommand 0x0110 (onQueue 13 fun q p s =>
    let base := leAt p 5 8
    let s := (s.wr (Reg.QUE_RINGLO_ADDR_LO q) (base / 4096)).setReg (Reg.QUE_RINGHI_A q) (BitVec.ofNat 32 (base / 2 ^ 32))
    .ok (s.queueConfigure q (leAt p 1 4))) r s

/-- The entries at `n` indices from `i` up. -/
def queueEntries (q : Nat) (x : Queue) (i n : Nat) : Bytes :=
  (List.range n).flatMap fun k => Table.get (fun _ => []) x.slots ((i + k) % queueCap q)

/-- QUEUE_READ (R88, R89). -/
def execQueueRead (r : Request) (s : State) : Out :=
  runCommand 0x0111 (onQueue 3 fun q p s =>
    if (s.queue q).dma then .fail s Status.badParam
    else
      let s := s.compared q
      let x := s.queue q
      let n := min (leAt p 1 2) (min (x.dist x.w - x.dist x.c) (4152 / queueBytes q))
      .ok (s.setQueue q (x.move x.w x.f (x.c + n) x.m))
        (le 2 x.c ++ le 2 n ++ le 2 x.lost ++ le 2 x.w ++ queueEntries q x x.c n)) r s

/-- QUEUE_MARK: M := C (R88). -/
def execQueueMark (r : Request) (s : State) : Out :=
  runCommand 0x0112 (onQueue 1 fun q _ s =>
    if (s.queue q).dma then .fail s Status.badParam
    else
      let s := s.compared q
      let x := s.queue q
      .ok (s.setQueue q (x.move x.w x.f x.c x.c))) r s

/-- QUEUE_REWIND: C := M (R88). -/
def execQueueRewind (r : Request) (s : State) : Out :=
  runCommand 0x0113 (onQueue 1 fun q _ s =>
    if (s.queue q).dma then .fail s Status.badParam
    else
      let s := s.compared q
      let x := s.queue q
      .ok (s.setQueue q (x.move x.w x.f x.m x.m))) r s

/-- The queue with entries freed up to index `i`, which lies from F to C, or to W in DMA mode (R88, R89). -/
def releaseTo (x : Queue) (i : Nat) : Queue :=
  if x.dma then x.move x.w i 0 0
  else x.move x.w i x.c (if x.dist x.m < x.dist i then i else x.m)

/-- QUEUE_RELEASE (R88, R89). -/
def execQueueRelease (r : Request) (s : State) : Out :=
  runCommand 0x0114 (onQueue 4 fun q p s =>
    let s := s.compared q
    let x := s.queue q
    let upto := leAt p 1 2
    let flags := leAt p 3 1
    let bound := if x.dma then x.w else x.c
    if x.dma && !bit flags 1 then .fail s Status.badParam
    else if bit flags 1 && x.dist upto > x.dist bound then .fail s Status.badParam
    else
      let y := releaseTo x (if bit flags 1 then upto else x.c)
      .ok (s.setQueue q (s.rearm q { y with lost := if bit flags 0 then 0 else y.lost }))) r s

/-- QUEUE_ENABLE_RISE (R91): QUE_CFGq.ENABLE is written 1; where it was 0, the edge. -/
def execQueueEnableRise (q : Fin 4) (s : State) : Out :=
  onHub (fun s => if s.flag (Reg.QUE_CFG_ENABLE q) then s else (s.put (Reg.QUE_CFG_ENABLE q) true).queueRise q) s

/-- QUEUE_INTEGRITY_RESET (R87): the two copies of an index of queue q are found to differ. -/
def execQueueIntegrityReset (q : Fin 4) (s : State) : Out := onHub (fun s => s.compared q) s

end Sys2Proof.Machine
end

