-- ==== Sys2Proof/Machine/Flags.lean ====
section
/-!
DEFINITION. Status fields: the registers whose value follows from other state, as a read returns them, one function for each
block (R33, R92, R217, R250, R282, R314, R315, R353, R387, R406, R407, R437, R466, R522, R532, R554, R576, R577, R602, R607).
-/

namespace Sys2Proof.Machine

/-- Several flags as a mask, bit 0 first. -/
def flagMask (l : List Bool) : Nat := (l.zipIdx.map fun (b, k) => b2n b * 2 ^ k).sum

/-- The queue block (R90, R92). -/
def State.viewQue (s : State) (a : Nat) (w : Word) : Word :=
  let q := (a - 0xD20000) / 0x40
  let x := s.queue q
  match (a - 0xD20000) % 0x40 with
  | 0x04 => (Reg.QUE_PROD_F q).put ((Reg.QUE_PROD_W q).put 0 x.w) x.f
  | 0x08 => (Reg.QUE_CONS_M q).put ((Reg.QUE_CONS_C q).put 0 x.c) x.m
  | 0x0C => (Reg.QUE_LOST_LOST q).put 0 x.lost
  | 0x18 => (Reg.QUE_STAT_INTEG q).put ((Reg.QUE_STAT_ARMED q).put
      ((Reg.QUE_STAT_FULL q).put w (b2n (x.occupancy == queueCap q))) (b2n x.armed)) (b2n x.integ)
  | _ => w

/-- The tunnel block: TUNNELS and the routes (R194, R217). -/
def State.viewTun (s : State) (a : Nat) (w : Word) : Word :=
  if a == Reg.TUN_LINE_A then Reg.TUN_LINE_TUNNELS.put w s.validTids.length
  else match regIndex (Reg.TUN_ROUTE_A 0) 4 33 a with
    | some d => (match s.route d with
        | .local_ => (Reg.TUN_ROUTE_EGRESS d).put 0 0
        | .trunk t hops alt => (Reg.TUN_ROUTE_HOPS d).put
            ((Reg.TUN_ROUTE_ALT d).put ((Reg.TUN_ROUTE_EGRESS d).put 0 (1 + t)) (b2n alt)) hops
        | .drop => (Reg.TUN_ROUTE_EGRESS d).put 0 3)
    | none => w

/-- The sum of a trunk's active allotments. -/
def State.allotSum (s : State) (t : Nat) : Nat := ([0, 1, 2, 3].map fun v => s.rd (Reg.TLK_ALLOT_ACTIVE t v)).sum

/-- The switch block (R250). -/
def State.viewSwc (s : State) (a : Nat) (w : Word) : Word :=
  if a == Reg.SWC_TRKRES_A then Reg.SWC_TRKRES_TRK1.put (Reg.SWC_TRKRES_TRK0.put 0 (s.allotSum 0)) (s.allotSum 1) else w

/-- Pipe p's requests carry URG. -/
def State.pipeUrgent (s : State) (p : Nat) : Bool :=
  !s.isRoot && s.flag (Reg.DSP_STAT_LOW p) && s.flag Reg.SCH_CTRL_URG_EN

/-- The scheduler block (R282). -/
def State.viewSch (s : State) (a : Nat) (w : Word) : Word :=
  if a == Reg.SCH_CTRL_A then w ||| 1
  else if a == Reg.SCH_URGSTAT_A then
    Reg.SCH_URGSTAT_PIPEB.put (Reg.SCH_URGSTAT_PIPEA.put w (b2n (s.pipeUrgent 0))) (b2n (s.pipeUrgent 1))
  else match regIndex (Reg.SCH_XSTAT_A 0) 4 2 a with
    | some t =>
      let bytes (b : Bucket) : Nat := ofSigned 16 (b.tok / (byteUnits : Nat))
      (Reg.SCH_XSTAT_REG_TOK t).put ((Reg.SCH_XSTAT_GATE_TOK t).put 0 (bytes (s.gate t))) (bytes (s.regulator t))
    | none => w

/-- The PCI Express blocks: at the root PCIE1 reads as PCIE0, at a station the fields marked for the root read 0 (R314). -/
def State.viewPcie (s : State) (a : Nat) (w : Word) : Word :=
  if s.isRoot then (if 0x410000 ≤ a then s.reg (a - 0x10000) else w)
  else
    let n := (a - 0x400000) / 0x10000
    let o := a % 0x10000
    if o == 0 then (Reg.PCIE_CTRL_DOWN_MS n).put ((Reg.PCIE_CTRL_PF_AGE n).put w 0) 0
    else if o == 0x10 then (Reg.PCIE_LOCK_VDP n).put w 0
    else if o == 0x0C || 0x40 ≤ o then 0
    else w

/-- The display block (R322, R353). -/
def State.viewDsp (s : State) (a : Nat) (w : Word) : Word :=
  match regIndex (Reg.DSP_LINE_A 0) 0x1000 2 a with
  | some p => (Reg.DSP_LINE_LINE p).put w (s.pipeLine p)
  | none => w

/-- A port has a change bit set. -/
def State.usbEvent (s : State) (n : Nat) : Bool :=
  s.flag (Reg.USBH_PORT_STAT_BABBLE_EOF n) || s.flag (Reg.USBH_PORT_STAT_WAKE_SEEN n) ||
  s.flag (Reg.USBH_PORT_STAT_C_OVERCURRENT n) || s.flag (Reg.USBH_PORT_STAT_C_RESET n) ||
  s.flag (Reg.USBH_PORT_STAT_C_PORT_SUSPEND n) || s.flag (Reg.USBH_PORT_STAT_C_ENABLE n) ||
  s.flag (Reg.USBH_PORT_STAT_C_CONNECT n)

/-- The USB host block (R387). -/
def State.viewUsbh (s : State) (a : Nat) (w : Word) : Word :=
  if a == Reg.USBH_STAT_A then Reg.USBH_STAT_PORT_EVT.put w (flagMask ((List.range 8).map s.usbEvent))
  else match regIndex (Reg.USBH_PORT_RING_A 0) 0x10 8 a with
    | some n => (Reg.USBH_PORT_RING_OUTSTANDING n).put w (min 4096 (s.usbOutstanding n))
    | none => match regIndex (Reg.USBH_PORT_CTRL_A 0) 0x10 4 a with
      | some n => (Reg.USBH_PORT_CTRL_POWER n).put w 0
      | none => w

/-- The address is of a gate register of ETH0 to ETH3 (R406). -/
def gateless (a : Nat) : Bool :=
  let o := a % 0x1000
  0x700000 ≤ a && a < 0x704000 && ((0x40 ≤ o && o < 0x60) || (0x400 ≤ o && o < 0x600))

/-- The address is of the virtual NIC, which the root lacks (R407). -/
def vnicReg (a : Nat) : Bool := 0x708000 ≤ a && a < 0x709000

/-- The Ethernet block (R400, R403, R406, R407). -/
def State.viewEth (s : State) (a : Nat) (w : Word) : Word :=
  if gateless a || (s.isRoot && vnicReg a) then 0
  else if 0x708000 ≤ a then w
  else
    let n := (a - 0x700000) / 0x1000
    let f := (s.ethPort n).fifo
    match a % 0x1000, f with
    | 0x10, _ => (Reg.ETH_PTP_LEVEL n).put w f.length
    | 0x20, x :: _ => (Reg.ETH_TSF0_SEC_LO n).put 0 (secOf x.time)
    | 0x24, x :: _ => (Reg.ETH_TSF1_SEQ_ID n).put ((Reg.ETH_TSF1_SEC_HI n).put 0 (secOf x.time / 2 ^ 32)) x.seq
    | 0x28, x :: _ => (Reg.ETH_TSF2_VALID n).put ((Reg.ETH_TSF2_DIR n).put
        ((Reg.ETH_TSF2_NSEC n).put 0 (nsecOf x.time)) (b2n x.tx)) 1
    | 0x2C, x :: _ => (Reg.ETH_TSF3_FRAC n).put ((Reg.ETH_TSF3_MSG_TYPE n).put
        ((Reg.ETH_TSF3_DOMAIN n).put 0 x.domain) x.kind) (fracOf x.time)
    | 0x40, _ => (Reg.ETH_GCTL_WAIT n).put w (b2n (s.flag (Reg.ETH_GCTL_GATE_EN n) && !s.merRun))
    | _, _ => w

/-- The Meridian block (R443, R452, R466). -/
def State.viewMer (s : State) (a : Nat) (w : Word) : Word :=
  if a == Reg.MER_PEND_A then Reg.MER_PEND_PEND.put w (satSigned 32 s.pendLeft)
  else if a == Reg.MER_CAL_A then Reg.MER_CAL_TX_CAL.put (Reg.MER_CAL_RX_CAL.put 0 s.nv.calRx) s.nv.calTx
  else if a == Reg.MER_TRK_STAT_A 0 then
    (Reg.MER_TRK_STAT_EXCL 0).put ((Reg.MER_TRK_STAT_HOLD 0).put w (b2n (s.merHold 0))) (b2n (s.trunkExcl 0))
  else if a == Reg.MER_TRK_STAT_A 1 then
    (Reg.MER_TRK_STAT_EXCL 1).put ((Reg.MER_TRK_STAT_HOLD 1).put w (b2n (s.merHold 1))) (b2n (s.trunkExcl 1))
  else w

/-- The eFuse block: REQ is the request in force (R522). -/
def State.viewEfu (s : State) (a : Nat) (w : Word) : Word :=
  match regIndex (Reg.EFU_CH_CTRL_A 0) 0x20 8 a with
  | some n => (Reg.EFU_CH_CTRL_REQ n).put w (b2n (s.fuseRequested n))
  | none => match regIndex (Reg.EFU_CH_RETRY_A 0) 0x20 8 a with
    | some n => s.fuseRetry n
    | none => w

/-- The power block: a read over the die-to-die link finds the Nib's fast clock running (R530, R554). -/
def State.viewPwr (a : Nat) (w : Word) : Word := if a == Reg.PWR_STAT_A then Reg.PWR_STAT_RC_ON.put w 1 else w

/-- The fast clocks that run (R532). -/
def State.clocks (s : State) : Nat :=
  flagMask [true, s.flag (Reg.TLK_CTRL_ENABLED 0), s.flag (Reg.TLK_CTRL_ENABLED 1),
    s.flag (Reg.PCIE_CTRL_PORT_EN 0) || (!s.isRoot && s.flag (Reg.PCIE_CTRL_PORT_EN 1)),
    [0, 1, 2, 3].any fun n => s.flag (Reg.ETH_CTRL_EN n), [4, 5, 6, 7].any fun n => s.flag (Reg.ETH_CTRL_EN n),
    [0, 1, 2, 3].any fun k => s.flag (Reg.DPO_CTRL_EN k), s.flag (Reg.DSP_CTRL_EN 0), s.flag (Reg.DSP_CTRL_EN 1),
    s.flag Reg.USBH_CTRL_EN || s.tcsPresent, true, s.inService]

/-- The clock block. -/
def State.viewClk (s : State) (a : Nat) (w : Word) : Word :=
  if a == Reg.CLK_UNITS_A then Reg.CLK_UNITS_RUN.put 0 s.clocks else w

/-- The Inkwell block (R576). -/
def State.viewInk (s : State) (a : Nat) (w : Word) : Word :=
  if a == Reg.INK_STAT_A then
    Reg.INK_STAT_TAMPER_LATCH.put (Reg.INK_STAT_TAMPER_IN.put
      (Reg.INK_STAT_LOADED.put w ((List.range 64).filter fun i => (s.keySlot i).isSome).length)
      (b2n !s.pins.tamperN)) (b2n s.nib.tamperLatch)
  else if a == Reg.INK_OTPERR_A then Reg.INK_OTPERR_ERR.put 0 s.ink.otpErr
  else if a == Reg.INK_RETIRED_A then
    Reg.INK_RETIRED_RETIRED.put 0 (flagMask ((List.range 16).map fun i => (s.otpSlot i).retired))
  else match regIndex (Reg.INK_ATTR_A 0) 4 64 a with
    | some i => (Reg.INK_ATTR_ATTR i).put 0 (s.attrWord i)
    | none => w

/-- An LC_ADVANCE or OTP_PROGRAM job runs. -/
def State.otpBusy (s : State) : Bool :=
  s.cmd.jobs.any fun j => match j.kind with
    | .lcAdvance _ | .otpKey _ _ _ | .otpPassword _ _ | .otpRetire _ => true
    | _ => false

/-- The life-cycle block (R577). -/
def State.viewLcs (s : State) (a : Nat) (w : Word) : Word :=
  if a == Reg.LCS_STATE_A then
    Reg.LCS_STATE_RETURNS.put (Reg.LCS_STATE_BUSY.put (Reg.LCS_STATE_STATE.put 0 s.nv.lifeCycle) (b2n s.otpBusy)) s.nv.returns
  else if a == Reg.LCS_DEVID_LO_A then Reg.LCS_DEVID_LO_ID_LO.put 0 s.nv.deviceId
  else if a == Reg.LCS_DEVID_HI_A then Reg.LCS_DEVID_HI_ID_HI.put 0 (s.nv.deviceId / 2 ^ 32)
  else if a == Reg.LCS_OTP_A then
    Reg.LCS_OTP_PW_SET.put (Reg.LCS_OTP_PROGRAMMED.put 0 (flagMask ((List.range 16).map fun i => (s.otpSlot i).programmed)))
      (b2n (s.nv.password.isSome || s.nv.pwPartial))
  else w

/-- The firmware block (R602). -/
def State.viewFwu (s : State) (a : Nat) (w : Word) : Word :=
  let n (v : Nat) : Word := BitVec.ofNat 32 v
  match a - 0xC00000 with
  | 0x04 => n s.fwuStat
  | 0x08 => n (s.fwuSlot 0)
  | 0x0C => n (s.fwuSlot 1)
  | 0x10 => n (s.slotVersion 0)
  | 0x14 => n (s.slotVersion 1)
  | 0x18 => n s.fwuUpd
  | _ => w

/-- The counter block: the snapshot bank (R607, R618). -/
def State.viewPerf (s : State) (a : Nat) (w : Word) : Word :=
  if 0xD01000 ≤ a then
    let i := (a - 0xD01000) / 8
    let v := Table.get (fun _ => 0) s.perf.bank i
    if a % 8 == 0 then (Reg.PERF_CNT_LO_VALUE i).put 0 v
    else (Reg.PERF_CNT_HI_OVF i).put ((Reg.PERF_CNT_HI_VALUE i).put 0 (v / 2 ^ 32)) (b2n (s.perf.bankOvf.contains i))
  else match regIndex (Reg.PERF_OVF_A 0) 4 24 a with
    | some k => BitVec.ofNat 32 (flagMask ((List.range 32).map fun j => s.perf.bankOvf.contains (32 * k + j)))
    | none => w

/-- What a read of the register at `a` returns (R13, R82). -/
def State.regView (s : State) (a : Nat) : Word :=
  let w := s.reg a
  match a / 0x10000 with
  | 0x01 => State.viewPwr a w
  | 0x02 => s.viewClk a w
  | 0x20 => s.viewTun a w
  | 0x30 => s.viewSwc a w
  | 0x31 => s.viewSch a w
  | 0x40 | 0x41 => s.viewPcie a w
  | 0x42 => if s.isRoot then 0 else w
  | 0x50 => s.viewDsp a w
  | 0x60 => s.viewUsbh a w
  | 0x70 => s.viewEth a w
  | 0x80 => if a == Reg.PNT_MAPLIM_A then Reg.PNT_MAPLIM_LIMIT.put 0 (s.mapLimit s.pointPeriod) else w
  | 0x90 => s.viewMer a w
  | 0xA1 => s.viewEfu a w
  | 0xB0 => s.viewInk a w
  | 0xB1 => s.viewLcs a w
  | 0xC0 => s.viewFwu a w
  | 0xD0 => s.viewPerf a w
  | 0xD2 => s.viewQue a w
  | _ => w

end Sys2Proof.Machine
end

