-- ==== Sys2Proof/Machine/Registers.lean ====
section
/-!
DEFINITION. Register access: what writing each register causes, and the commands REG_READ, REG_WRITE, REG_MODIFY and REG_POLL
(R13 to R17, R80, R81, R610).
-/

namespace Sys2Proof.Machine

/-! What a write causes, by block -/

/-- The queue block (R90, R92). -/
def State.writeQue (s : State) (a : Nat) (w : Word) : State :=
  let q := (a - 0xD20000) / 0x40
  match (a - 0xD20000) % 0x40 with
  | 0x00 => s.queueConfigure q w.toNat
  | 0x18 => if bit w.toNat 2 then s.setQueue q { s.queue q with integ := false } else s
  | _ => s.plainWrite a w

/-- The link blocks (R163, R177). -/
def State.writeTlk (s : State) (a : Nat) (w : Word) : State :=
  let t := (a - 0x110000) / 0x20000
  let s := s.plainWrite a w
  if a == Reg.TLK_CTRL_A t then (if (Reg.TLK_CTRL_LRESET t).get w == 1 then s.linkReset t 5 else s)
  else if (regIndex (Reg.TLK_ALLOT_A t 0) 4 4 a).isSome then
    s.withSw fun x => { x with allotRefused := x.allotRefused.filter (· != t) }
  else s

/-- The switch block: CLR sets LOW to the present free count (R250). -/
def State.writeSwc (s : State) (a : Nat) (w : Word) : State :=
  if a == Reg.SWC_SHLOW_A then
    (if Reg.SWC_SHLOW_CLR.get w == 1 then s.wr Reg.SWC_SHLOW_LOW (s.poolSize - s.poolUsed) else s)
  else s.plainWrite a w

/-- The PCI Express blocks (R303, R314): PCIE1 ignores writes at the root, and a station ignores those to the fields marked for
the root. -/
def State.writePcie (s : State) (a : Nat) (w : Word) : State :=
  let n := (a - 0x400000) / 0x10000
  if a % 0x10000 == 0 then
    if s.isRoot && n == 1 then s
    else
      let w := if s.isRoot then w
        else (Reg.PCIE_CTRL_DOWN_MS n).put ((Reg.PCIE_CTRL_PF_AGE n).put w (s.rd (Reg.PCIE_CTRL_PF_AGE n)))
          (s.rd (Reg.PCIE_CTRL_DOWN_MS n))
      let was := s.flag (Reg.PCIE_CTRL_PORT_EN n)
      let s := s.plainWrite a w
      if was != s.flag (Reg.PCIE_CTRL_PORT_EN n) then s.portEnWritten n else s
  else if !s.isRoot || n == 1 then s
  else
    let s := s.plainWrite a w
    match regIndex (Reg.PCIE_PFWIN_A_A 0 0) 0x10 8 a with
    | some i => s.windowWritten i
    | none => s

/-- A pipe (R332, R336, R340, R353). -/
def State.writeDsp (s : State) (a : Nat) (w : Word) : State :=
  let p := (a - 0x500000) / 0x1000
  match a % 0x1000 with
  | 0x000 =>
    let en := s.flag (Reg.DSP_CTRL_EN p)
    let lock := s.flag (Reg.DSP_CTRL_LOCK_EN p)
    let s := s.plainWrite a w
    let s := if lock != s.flag (Reg.DSP_CTRL_LOCK_EN p) then s.lockFollow p else s
    if en == s.flag (Reg.DSP_CTRL_EN p) then s else if en then s.pipeStop p else s.pipeStart p
  | 0x004 => if bit w.toNat 0 then stateOf (execDspCommit (if p == 0 then 0 else 1) s) s else s
  | 0x08C => if bit w.toNat 31 then s.wr (Reg.DSP_FILLMIN_MIN p) (s.rd (Reg.DSP_STAT_FILL p)) else s
  | 0x070 | 0x074 => (s.plainWrite a w).withPipe p fun x => { x with curWritten := true }
  | _ =>
    let s := s.plainWrite a w
    match regIndex (Reg.DSP_PR_MIS_A p 0) 0x20 8 a with
    | some r => if bit w.toNat 31 then s.wr (Reg.DSP_PR_MIS_MISMATCHES p r) 0 else s
    | none => s

/-- A DisplayPort output (R347, R349, R354): with a sink present, EN's rise trains as HPD's does. -/
def State.writeDpo (s : State) (a : Nat) (w : Word) : State :=
  let k := (a - 0x510000) / 0x100
  let was := s.flag (Reg.DPO_CTRL_EN k)
  let t := s.plainWrite a w
  match a % 0x100 with
  | 0x00 =>
    if was && !t.flag (Reg.DPO_CTRL_EN k) then
      ((t.put (Reg.DPO_STAT_TRAINED k) false).put (Reg.DPO_STAT_VIDEO k) false).withDp k fun x => { x with training := false }
    else if !was && t.flag (Reg.DPO_CTRL_EN k) && t.flag (Reg.DPO_STAT_HPD k) then (t.dpcdRead k 0 16).dpTrain k false
    else if (Reg.DPO_CTRL_RETRAIN k).get w == 1 then t.dpTrain k false
    else t
  | 0x10 => if (Reg.DPO_AUXCMD_START k).get w == 1 then t.auxStart k else t
  | _ => t

/-- A USB host port's control register (R358, R361, R376 to R378): DISABLE, RESET, SUSPEND and RESUME act in that order. -/
def State.writeUsbPort (s : State) (n : Nat) (w : Word) : State :=
  let w := if n < 4 then (Reg.USBH_PORT_CTRL_POWER n).put w 0 else w
  let ring := s.flag (Reg.USBH_PORT_CTRL_RING_EN n)
  let power := s.flag (Reg.USBH_PORT_CTRL_POWER n)
  let s := s.plainWrite (Reg.USBH_PORT_CTRL_A n) w
  let s := if power == s.flag (Reg.USBH_PORT_CTRL_POWER n) then s
    else s.pin ("USBH" ++ toString n ++ "_VBUS_EN") (s.rd (Reg.USBH_PORT_CTRL_POWER n))
  let s :=
    if ring == s.flag (Reg.USBH_PORT_CTRL_RING_EN n) then s
    else if ring then s.ringOff n
    else s.withUsbPort n fun x => { x with due := true }
  let v := w.toNat
  let s := if bit v 1 then s.usbDisable n 6 else s
  let s := if bit v 0 then s.usbReset n else s
  let s := if bit v 2 then s.usbSuspend n else s
  if bit v 3 then s.usbResume n else s

/-- The USB host block (R361, R387). -/
def State.writeUsbh (s : State) (a : Nat) (w : Word) : State :=
  if a == Reg.USBH_KICK_A then
    (if s.usbRuns then (List.range 8).foldl (fun (s : State) n => if bit w.toNat n then s.usbPoll n [] else s) s else s)
  else match regIndex (Reg.USBH_PORT_CTRL_A 0) 0x10 8 a with
    | some n => s.writeUsbPort n w
    | none => s.plainWrite a w

/-- The virtual NIC's control register: each EN bit's rise is acted on when the control block has been read (R398). -/
def State.writeVnic (s : State) (w : Word) : State :=
  let old := s.rd Reg.ETH_VNIC_CTRL_EN
  let s := s.plainWrite Reg.ETH_VNIC_CTRL_A w
  let new := s.rd Reg.ETH_VNIC_CTRL_EN
  (List.range 8).foldl (fun (s : State) q =>
    if bit old q == bit new q then s
    else if bit old q then s.vnicStop q
    else s.setVnic q { s.vnic q with due := true }) s

/-- The Ethernet block (R393, R398, R405 to R407). -/
def State.writeEth (s : State) (a : Nat) (w : Word) : State :=
  if gateless a || (s.isRoot && vnicReg a) then s
  else if a == Reg.ETH_VNIC_CTRL_A then s.writeVnic w
  else if a == Reg.ETH_MDIO_A then
    (let s := s.plainWrite a w
     if Reg.ETH_MDIO_START.get w == 1 then s.mdioStart else s)
  else if 0x708000 ≤ a then s.plainWrite a w
  else
    let n := (a - 0x700000) / 0x1000
    let was := s.flag (Reg.ETH_CTRL_EN n)
    let s := s.plainWrite a w
    match a % 0x1000 with
    | 0x00 =>
      let on := s.flag (Reg.ETH_CTRL_EN n)
      if was == on || !s.inService then s else s.emit (.eth n (if on then "start" else "stop") [] [])
    | 0x10 => if (Reg.ETH_PTP_CLR_LOST n).get w == 1 then s.wr (Reg.ETH_PTP_LOST n) 0 else s
    | 0x40 =>
      if (Reg.ETH_GCTL_COMMIT n).get w == 1 then
        stateOf (execGateCommit ([0, 1, 2, 3].getD (n - 4) 0) s) s
      else s
    | _ => s

/-- The point engine's block (R416, R423, R432, R436). -/
def State.writePnt (s : State) (a : Nat) (w : Word) : State :=
  let was := s.flag Reg.PNT_CTRL_EN
  let s := s.plainWrite a w
  if a == Reg.PNT_CTRL_A then
    (if was == s.flag Reg.PNT_CTRL_EN then s
     else if was then s.pointStop
     else (s.withPoint fun p => { p with due := true }).pointState)
  else if a == Reg.PNT_COMMIT_A then (if bit w.toNat 0 then stateOf (execPointCommit s) s else s)
  else if a == Reg.PNT_LD_CTRL_A then (if Reg.PNT_LD_CTRL_GO.get w == 1 then stateOf (execPointLoadGo s) s else s)
  else s

/-- The Meridian block (R443, R466): the slew made so far stands when the slew rate changes. -/
def State.writeMer (s : State) (a : Nat) (w : Word) : State :=
  if a == Reg.MER_SNAP_A then (if bit w.toNat 0 then s.merSnap else s)
  else if a == Reg.MER_SERVO_A then s.foldSlew.plainWrite a w
  else s.plainWrite a w

/-- The time pins (R467): CFG, PER, PERF and WID disarm the pin. -/
def State.writeTio (s : State) (a : Nat) (w : Word) : State :=
  let n := (a - 0x910100) / 0x40
  match (a - 0x910100) % 0x40 with
  | 0x00 => s.tioWrite n 0 w
  | 0x08 => s.tioWrite n 1 w
  | 0x0C => s.tioWrite n 2 w
  | 0x10 => s.tioWrite n 3 w
  | _ => s.plainWrite a w

/-- The eFuse block (R522): PRES_EN and SRC are fixed but on CH1 to CH3, and the channel follows a write. -/
def State.writeEfu (s : State) (a : Nat) (w : Word) : State :=
  match regIndex (Reg.EFU_CH_CTRL_A 0) 0x20 8 a with
  | some n => if n == 0 || 4 ≤ n then s else ((s.plainWrite a w).fuseFollow n).fuseServes n
  | none => s.plainWrite a w

/-- PERF_ACCESS: a set LOCK stays set (R14, R610). -/
def State.writePerf (s : State) (a : Nat) (w : Word) : State :=
  if a == Reg.PERF_CTRL_A then s.perfCtrl w
  else if a == Reg.PERF_ACCESS_A && s.flag Reg.PERF_ACCESS_LOCK then s
  else s.plainWrite a w

/-- A write of `w` to the register at `a`, with all that it causes. -/
def State.writeReg (s : State) (a : Nat) (w : Word) : State :=
  match a / 0x10000 with
  | 0x02 => let t := s.plainWrite a w
            if a == Reg.CLK_OP_A then t.opChange 0 else t
  | 0x11 | 0x13 => s.writeTlk a w
  | 0x30 => s.writeSwc a w
  | 0x31 => if a == Reg.SCH_POLSEL_A then s.policerSnapshot w else s.plainWrite a w
  | 0x40 | 0x41 => s.writePcie a w
  | 0x42 => if s.isRoot then s else s.plainWrite a w
  | 0x50 => s.writeDsp a w
  | 0x51 => s.writeDpo a w
  | 0x60 => s.writeUsbh a w
  | 0x61 => let t := s.plainWrite a w
            if a == Reg.USBS_CTRL_A then t.usbsCtrl else t
  | 0x70 => s.writeEth a w
  | 0x80 => s.writePnt a w
  | 0x90 => s.writeMer a w
  | 0x91 => s.writeTio a w
  | 0xA1 => s.writeEfu a w
  | 0xD0 => s.writePerf a w
  | 0xD1 => if a == Reg.CMT_SEED_A then s.withPerf fun p => { p with lfsr := orOne w.toNat } else s.plainWrite a w
  | 0xD2 => s.writeQue a w
  | _ => s.plainWrite a w

/-! Access checks -/

/-- A write would change a bit of a locked field (R14). -/
def State.lockedWrite (s : State) (a : Nat) (w : Word) : Bool :=
  a == Reg.PERF_ACCESS_A && s.flag Reg.PERF_ACCESS_LOCK && (s.reg a ^^^ w) &&& lockMask a != 0

/-- The status with which a write is refused, 0 where it is not (R14, R16, R610). -/
def State.writeStatus (s : State) (r : Request) (a : Nat) (w : Word) : Nat :=
  if badAddress a then Status.badAddress
  else if a == Reg.PERF_ACCESS_A && s.worldOf r != 1 then Status.denied
  else if a == Reg.PERF_CTRL_A && ((Reg.PERF_CTRL_SNAP.get w == 1 && !s.mayPerfRead r.via) ||
      (Reg.PERF_CTRL_CLEAR.get w == 1 && !s.mayPerfClear r.via)) then Status.denied
  else if s.lockedWrite a w then Status.locked
  else Status.ok

/-- The address reads the snapshot bank or its time (R607). -/
def bankReg (a : Nat) : Bool :=
  a == Reg.PERF_SNAP_SL_A || a == Reg.PERF_SNAP_SH_A || a == Reg.PERF_SNAP_NS_A || (0xD00040 ≤ a && a < 0xD10000)

/-- The status with which a read is refused, 0 where it is not (R16, R610). -/
def State.readStatus (s : State) (r : Request) (a : Nat) : Nat :=
  if badAddress a then Status.badAddress
  else if bankReg a && !s.mayPerfRead r.via then Status.denied
  else Status.ok

/-- REGISTER_WRITE (R13): the write itself, as Damya makes it on a command's behalf. -/
def execRegisterWrite (a : Word) (w : Word) (s : State) : Out :=
  .next (if badAddress a.toNat || s.lockedWrite a.toNat w || !(if onPowerDie a.toNat then s.nib.on else s.hubOn) then s
    else s.writeReg a.toNat w)

/-! The commands (R80, R81) -/

/-- The words of consecutive registers. -/
def State.readWords (s : State) (a n : Nat) : Bytes := (List.range n).flatMap fun i => le 4 (s.regView (a + 4 * i)).toNat

/-- A four-word read at ETH_TSF0 takes the oldest stamp (R400). -/
def State.readTakes (s : State) (a n : Nat) : State :=
  match regIndex (Reg.ETH_TSF0_A 0) 0x1000 8 a with
  | some p => if n == 4 then s.tsfPop p else s
  | none => s

/-- REG_READ. -/
def execRegRead (r : Request) (s : State) : Out :=
  runCommand 0x0310 (fun r => takes 6 (fun p s =>
    let a := leAt p 0 4
    let n := leAt p 4 2
    if n == 0 || 256 < n then .fail s Status.badParam
    else match ((List.range n).map fun i => s.readStatus r (a + 4 * i)).find? (· != 0) with
      | some c => .fail s c
      | none => .ok (s.readTakes a n) (s.readWords a n)) r) r s

/-- Words are written in ascending order; the first that is refused ends the command: the status, and how many were
written. -/
def State.writeWords (s : State) (r : Request) (a : Nat) : List Word → Nat → State × Nat × Nat
  | [], k => (s, Status.ok, k)
  | w :: l, k =>
    let c := s.writeStatus r a w
    if c != Status.ok then (s, c, k) else State.writeWords (s.writeReg a w) r (a + 4) l (k + 1)

/-- REG_WRITE. -/
def execRegWrite (r : Request) (s : State) : Out :=
  runCommand 0x0311 (fun r s =>
    let p := r.pkt.params
    let n := leAt p 4 2
    if p.length < 8 || n == 0 || 256 < n || p.length < 8 + 4 * n then .reply s Status.badParam [0, 0, 0, 0]
    else
      let (t, c, k) := s.writeWords r (leAt p 0 4) ((List.range n).map fun i => BitVec.ofNat 32 (leAt p (8 + 4 * i) 4)) 0
      .reply t c (le 2 k ++ [0, 0])) r s

/-- REG_MODIFY. -/
def execRegModify (r : Request) (s : State) : Out :=
  runCommand 0x0312 (fun r => takes 12 (fun p s =>
    let a := leAt p 0 4
    let m : Word := BitVec.ofNat 32 (leAt p 4 4)
    let v : Word := BitVec.ofNat 32 (leAt p 8 4)
    let c := s.readStatus r a
    if c != Status.ok then .fail s c
    else
      let w := ((s.regView a &&& ~~~m) ||| (v &&& m)) &&& ~~~(w1cMask a &&& ~~~m)
      let c := s.writeStatus r a w
      if c != Status.ok then .fail s c else .ok (s.writeReg a w) (le 4 w.toNat)) r) r s

/-- REG_POLL: a register that does not match yet is read again until TIMEOUT. -/
def execRegPoll (r : Request) (s : State) : Out :=
  runCommand 0x0313 (fun r => takes 16 (fun p s =>
    let a := leAt p 0 4
    let m : Word := BitVec.ofNat 32 (leAt p 4 4)
    let v : Word := BitVec.ofNat 32 (leAt p 8 4)
    let us := leAt p 12 2
    let c := s.readStatus r a
    if us == 0 || 1000 < us then .fail s Status.badParam
    else if c != Status.ok then .fail s c
    else
      let w := s.regView a
      if w &&& m == v then .ok s (le 4 w.toNat)
      else .later { s with cmd := { s.cmd with
        poll := some { req := r, addr := a, mask := m, value := v, deadline := s.mer.raw + rawOfNs (1000 * us) } } }) r) r s

/-- The REG_POLL that waits reads its register again. -/
def State.pollStep (s : State) : State :=
  match s.cmd.poll with
  | none => s
  | some p =>
    let w := s.regView p.addr
    let done (s : State) : State := { s with cmd := { s.cmd with poll := none } }
    if w &&& p.mask == p.value then (done s).answer p.req Status.ok (le 4 w.toNat)
    else if p.deadline ≤ s.mer.raw then (done s).answer p.req Status.timeout (le 4 w.toNat)
    else s

end Sys2Proof.Machine
end

