-- ==== Sys2Proof/Machine/Wakes.lean ====
section
/-!
DEFINITION. The rows whose event is itself a wake source of R539: a remote wake of a USB device, a change of an Ethernet
link, a captured edge, a trunk's far end that leaves DARK, a device's PME, and a transaction on MGMT.  Each acts as its own
chapter says, and then the source fires; outside IDLE and STANDBY, and the entries to them, a source that fires does
nothing.
-/

namespace Sys2Proof.Machine

/-- USB_DEVICE_REMOTE_WAKE (R378, R379, R380): a remote wake that the port answers is wake source 10. -/
def execUsbDeviceRemoteWake (n : Fin 8) (s : State) : Out :=
  onHub (fun s =>
    let honored : Bool := s.flag (Reg.USBH_PORT_CTRL_WAKE_EN n) &&
      (s.flag (Reg.USBH_PORT_STAT_SUSPENDED n) || (s.usbPort n).suspendDue)
    let s := s.usbDeviceWake n
    if honored then s.wake 10 else s) s

/-- ETH_LINK_CHANGE (R408): a change of LINK is wake source 13. -/
def execEthLinkChange (n : Fin 8) (link : Bool) (speed : BitVec 2) (lock localF remoteF : Bool) (s : State) : Out :=
  onHub (fun s =>
    let changed : Bool := s.flag (Reg.ETH_STAT_LINK n) != link
    let s := s.ethLink n link speed lock localF remoteF
    if changed then s.wake 13 else s) s

/-- TIO_CAPTURE_EDGE (R460): an edge that a pin in MODE 1 captures is wake source 5. -/
def execTioCaptureEdge (n : Fin 16) (falling : Bool) (frac : BitVec 19) (full : Bool) (s : State) : Out :=
  onHub (fun s =>
    let r := s.tioCapture n falling frac full
    if r.2 then r.1.wake 5 else r.1) s

/-- LANE_STATE_EXIT_DONE (R120, R121): a receive direction that leaves DARK has seen the far end's signal, wake source 8 or
9 (R540). -/
def execLaneStateExitDone (t : Fin 2) (tx : Bool) (s : State) : Out :=
  onHub (fun s =>
    let signal : Bool := !tx && s.rxState t == 0xB
    let s := s.laneStateLeft t tx
    if signal then s.wake (8 + t) else s) s

/-- DEVICE_TLP_RECEIVED (R298): in an entry to IDLE or STANDBY PME_TO_Ack ends its port's wait (R545), and a device's PM_PME
in IDLE is wake source 12. -/
def execDeviceTlpReceived (n : Fin 2) (b : Bytes) (good : Bool) (s : State) : Out :=
  onHub (fun s =>
    let message : Bool := !s.isRoot && good && !tlpPrefixed b && tlpKind b == .message
    if message && tlpMsgCode b == 0x1B && s.inEntry then s.pmeAnswered n
    else
      let s := s.deviceTlp n b good
      if message && tlpMsgCode b == 0x18 then s.wake 12 else s) s

/-- A transaction on MGMT that is Damya's begins: wake source 0. -/
def State.mgmtStart (s : State) (addr : BitVec 7) : State := if s.nib.on && s.mgmtAddressed addr then s.wake 0 else s

/-- MGMT_REQUEST (R60, R62). -/
def execMgmtRequest (frame : MgmtFrame) (bytes : Bytes) (s : State) : Out :=
  onHub (fun s => s.mgmtRequest frame.addr frame.byte bytes) (s.mgmtStart frame.addr)

/-- MGMT_REPLY_READ (R60, R61). -/
def execMgmtReplyRead (n : MgmtRead) (s : State) : Out :=
  onHub (fun s => s.mgmtReplyRead n.addr n.count) (s.mgmtStart n.addr)

/-- MGMT_STATUS_READ (R61, R635): a transaction at Damya's address. -/
def execMgmtStatusRead (s : State) : Out :=
  let addr := BitVec.ofNat 7 (s.setting 0x0005)
  .next ((s.mgmtStart addr).mgmtStatusRead)

end Sys2Proof.Machine
end

