-- ==== Sys2Proof/Machine/Dispatch.lean ====
section
/-!
DEFINITION. The one dispatch: each command to its meaning, or to a rejection by its mnemonic.
-/

namespace Sys2Proof.Machine

def exec (i : Instr) (s : State) : Host.Outcome State Fault Refusal :=
  match i with
  | .powerOn tcs => Sys2Proof.Machine.execPowerOn tcs s
  | .powerDieStop => Sys2Proof.Machine.execPowerDieStop s
  | .railPgRise => Sys2Proof.Machine.execRailPgRise s
  | .railPgFault rail => Sys2Proof.Machine.execRailPgFault rail s
  | .hubResetRelease role forceRec mgmtMode => Sys2Proof.Machine.execHubResetRelease role forceRec mgmtMode s
  | .imageAuthenticated good => Sys2Proof.Machine.execImageAuthenticated good s
  | .bootComplete good failed => Sys2Proof.Machine.execBootComplete good failed s
  | .subprocessorSafePoint sec => Sys2Proof.Machine.execSubprocessorSafePoint sec s
  | .intakeWindowLeave vin reason => Sys2Proof.Machine.execIntakeWindowLeave vin reason s
  | .intakeWindowEnter vin => Sys2Proof.Machine.execIntakeWindowEnter vin s
  | .tcsVbusLoss => Sys2Proof.Machine.execTcsVbusLoss s
  | .xtalStop => Sys2Proof.Machine.execXtalStop s
  | .wakeSourceFire b fires => Sys2Proof.Machine.execWakeSourceFire b fires s
  | .standbyAlarmExpiry => Sys2Proof.Machine.execStandbyAlarmExpiry s
  | .thermalWarn tj => Sys2Proof.Machine.execThermalWarn tj s
  | .throttleOn tj => Sys2Proof.Machine.execThrottleOn tj s
  | .throttleOff tj => Sys2Proof.Machine.execThrottleOff tj s
  | .thermalShutdown => Sys2Proof.Machine.execThermalShutdown s
  | .thermalPoll tj => Sys2Proof.Machine.execThermalPoll tj s
  | .resetPin => Sys2Proof.Machine.execResetPin s
  | .watchdogExpiry => Sys2Proof.Machine.execWatchdogExpiry s
  | .fatalUnitError u => Sys2Proof.Machine.execFatalUnitError u s
  | .d2dLinkFail => Sys2Proof.Machine.execD2dLinkFail s
  | .sramDoubleBitError m double index => Sys2Proof.Machine.execSramDoubleBitError m double index s
  | .voltageSettled acked => Sys2Proof.Machine.execVoltageSettled acked s
  | .schedulerEpoch => Sys2Proof.Machine.execSchedulerEpoch s
  | .askPhaseComplete => Sys2Proof.Machine.execAskPhaseComplete s
  | .askPhaseTimeout => Sys2Proof.Machine.execAskPhaseTimeout s
  | .entryDrainEnd timeout => Sys2Proof.Machine.execEntryDrainEnd timeout s
  | .pmeTurnOffWaitEnd port => Sys2Proof.Machine.execPmeTurnOffWaitEnd port s
  | .idleExitTrunksReady timeout => Sys2Proof.Machine.execIdleExitTrunksReady timeout s
  | .serviceEntryTakeEffect => Sys2Proof.Machine.execServiceEntryTakeEffect s
  | .serviceExitComplete => Sys2Proof.Machine.execServiceExitComplete s
  | .resetTakeEffect => Sys2Proof.Machine.execResetTakeEffect s
  | .replyHandedOver v cleared => Sys2Proof.Machine.execReplyHandedOver v cleared s
  | .mailboxGo irqEn => Sys2Proof.Machine.execMailboxGo irqEn s
  | .relayTimeout => Sys2Proof.Machine.execRelayTimeout s
  | .relayedReplyArrival position bytes => Sys2Proof.Machine.execRelayedReplyArrival position bytes s
  | .mgmtRequest frame bytes => Sys2Proof.Machine.execMgmtRequest frame bytes s
  | .mgmtReplyRead n => Sys2Proof.Machine.execMgmtReplyRead n s
  | .mgmtStatusRead => Sys2Proof.Machine.execMgmtStatusRead s
  | .tid0Request sys bytes => Sys2Proof.Machine.execTid0Request sys bytes s
  | .usbsRequest bytes => Sys2Proof.Machine.execUsbsRequest bytes s
  | .usbsReplyRead => Sys2Proof.Machine.execUsbsReplyRead s
  | .halfOpenSessionTimeout h => Sys2Proof.Machine.execHalfOpenSessionTimeout h s
  | .sessionIdleTimeout h => Sys2Proof.Machine.execSessionIdleTimeout h s
  | .passwordDerivationDone => Sys2Proof.Machine.execPasswordDerivationDone s
  | .passwordLockoutEnd => Sys2Proof.Machine.execPasswordLockoutEnd s
  | .jobComplete job good => Sys2Proof.Machine.execJobComplete job good s
  | .queueIntegrityReset q => Sys2Proof.Machine.execQueueIntegrityReset q s
  | .queueEnableRise q => Sys2Proof.Machine.execQueueEnableRise q s
  | .hitlessRestartBegin cause => Sys2Proof.Machine.execHitlessRestartBegin cause s
  | .hitlessRestartEnd good ms => Sys2Proof.Machine.execHitlessRestartEnd good ms s
  | .nop r => Sys2Proof.Machine.execNop r s
  | .identify r => Sys2Proof.Machine.execIdentify r s
  | .modeSet r => Sys2Proof.Machine.execModeSet r s
  | .unitMapOut r => Sys2Proof.Machine.execUnitMapOut r s
  | .unitMapIn r => Sys2Proof.Machine.execUnitMapIn r s
  | .selftest r => Sys2Proof.Machine.execSelftest r s
  | .reset r => Sys2Proof.Machine.execReset r s
  | .jobStatus r => Sys2Proof.Machine.execJobStatus r s
  | .positionSetAssign r => Sys2Proof.Machine.execPositionSetAssign r s
  | .positionSetClear r => Sys2Proof.Machine.execPositionSetClear r s
  | .positionAssignDelayEnd => Sys2Proof.Machine.execPositionAssignDelayEnd s
  | .queueConfig r => Sys2Proof.Machine.execQueueConfig r s
  | .queueRead r => Sys2Proof.Machine.execQueueRead r s
  | .queueMark r => Sys2Proof.Machine.execQueueMark r s
  | .queueRewind r => Sys2Proof.Machine.execQueueRewind r s
  | .queueRelease r => Sys2Proof.Machine.execQueueRelease r s
  | .openSession r => Sys2Proof.Machine.execOpenSession r s
  | .sessionProve r => Sys2Proof.Machine.execSessionProve r s
  | .openSessionPw r => Sys2Proof.Machine.execOpenSessionPw r s
  | .closeSession r => Sys2Proof.Machine.execCloseSession r s
  | .sessionList r => Sys2Proof.Machine.execSessionList r s
  | .regRead r => Sys2Proof.Machine.execRegRead r s
  | .regWrite r => Sys2Proof.Machine.execRegWrite r s
  | .regModify r => Sys2Proof.Machine.execRegModify r s
  | .regPoll r => Sys2Proof.Machine.execRegPoll r s
  | .registerWrite a w => Sys2Proof.Machine.execRegisterWrite a w s
  | .tunnelCreate r => Sys2Proof.Machine.execTunnelCreate r s
  | .hopInstall r => Sys2Proof.Machine.execHopInstall r s
  | .hopReplyReceived position bytes => Sys2Proof.Machine.execHopReplyReceived position bytes s
  | .installPhaseTimeout tid => Sys2Proof.Machine.execInstallPhaseTimeout tid s
  | .tunnelDestroy r => Sys2Proof.Machine.execTunnelDestroy r s
  | .tunnelClose r => Sys2Proof.Machine.execTunnelClose r s
  | .tunnelDrainEnd tid => Sys2Proof.Machine.execTunnelDrainEnd tid s
  | .tunnelRetune r => Sys2Proof.Machine.execTunnelRetune r s
  | .retunePrepare r => Sys2Proof.Machine.execRetunePrepare r s
  | .retuneCancel r => Sys2Proof.Machine.execRetuneCancel r s
  | .retuneApply tid => Sys2Proof.Machine.execRetuneApply tid s
  | .tunnelQuery r => Sys2Proof.Machine.execTunnelQuery r s
  | .routeSetLine r => Sys2Proof.Machine.execRouteSetLine r s
  | .routeSetCut r => Sys2Proof.Machine.execRouteSetCut r s
  | .routeSetRestore r => Sys2Proof.Machine.execRouteSetRestore r s
  | .audit r => Sys2Proof.Machine.execAudit r s
  | .auditStationTimeout position => Sys2Proof.Machine.execAuditStationTimeout position s
  | .trunkEnable r => Sys2Proof.Machine.execTrunkEnable r s
  | .trunkDisable r => Sys2Proof.Machine.execTrunkDisable r s
  | .trunkDisableTakeEffect => Sys2Proof.Machine.execTrunkDisableTakeEffect s
  | .keyLoad r => Sys2Proof.Machine.execKeyLoad r s
  | .keyClear r => Sys2Proof.Machine.execKeyClear r s
  | .keyInfo r => Sys2Proof.Machine.execKeyInfo r s
  | .attest r => Sys2Proof.Machine.execAttest r s
  | .lcAdvance r => Sys2Proof.Machine.execLcAdvance r s
  | .cryptoHmac r => Sys2Proof.Machine.execCryptoHmac r s
  | .cryptoSeal r => Sys2Proof.Machine.execCryptoSeal r s
  | .cryptoOpen r => Sys2Proof.Machine.execCryptoOpen r s
  | .otpProgramKey r => Sys2Proof.Machine.execOtpProgramKey r s
  | .otpProgramPassword r => Sys2Proof.Machine.execOtpProgramPassword r s
  | .otpProgramRetire r => Sys2Proof.Machine.execOtpProgramRetire r s
  | .entropyHealthFail => Sys2Proof.Machine.execEntropyHealthFail s
  | .tamperAssert => Sys2Proof.Machine.execTamperAssert s
  | .tamperRelease => Sys2Proof.Machine.execTamperRelease s
  | .fwBegin r => Sys2Proof.Machine.execFwBegin r s
  | .fwWriteBlock r => Sys2Proof.Machine.execFwWriteBlock r s
  | .fwVerify r => Sys2Proof.Machine.execFwVerify r s
  | .fwActivate r => Sys2Proof.Machine.execFwActivate r s
  | .fwActivateTakeEffect => Sys2Proof.Machine.execFwActivateTakeEffect s
  | .fwStatus r => Sys2Proof.Machine.execFwStatus r s
  | .fwConfirm r => Sys2Proof.Machine.execFwConfirm r s
  | .trialConfirmTimeout => Sys2Proof.Machine.execTrialConfirmTimeout s
  | .settingsRead r => Sys2Proof.Machine.execSettingsRead r s
  | .settingsWrite r => Sys2Proof.Machine.execSettingsWrite r s
  | .timeGet r => Sys2Proof.Machine.execTimeGet r s
  | .timeSetOffset r => Sys2Proof.Machine.execTimeSetOffset r s
  | .timeSetRate r => Sys2Proof.Machine.execTimeSetRate r s
  | .timeMasterSet r => Sys2Proof.Machine.execTimeMasterSet r s
  | .tioConfig r => Sys2Proof.Machine.execTioConfig r s
  | .tioArm r => Sys2Proof.Machine.execTioArm r s
  | .tioRegisterWrite n k v => Sys2Proof.Machine.execTioRegisterWrite n k v s
  | .opSet r => Sys2Proof.Machine.execOpSet r s
  | .pwrStatus r => Sys2Proof.Machine.execPwrStatus r s
  | .wakeConfig r => Sys2Proof.Machine.execWakeConfig r s
  | .efuseControlOff r => Sys2Proof.Machine.execEfuseControlOff r s
  | .efuseControlOn r => Sys2Proof.Machine.execEfuseControlOn r s
  | .efuseControlClear r => Sys2Proof.Machine.execEfuseControlClear r s
  | .efuseControlStatus r => Sys2Proof.Machine.execEfuseControlStatus r s
  | .efuseControlTest r => Sys2Proof.Machine.execEfuseControlTest r s
  | .efuseCurveLoad r => Sys2Proof.Machine.execEfuseCurveLoad r s
  | .pdTableLoad r => Sys2Proof.Machine.execPdTableLoad r s
  | .pdPortControlDisable r => Sys2Proof.Machine.execPdPortControlDisable r s
  | .pdPortControlEnable r => Sys2Proof.Machine.execPdPortControlEnable r s
  | .pdPortControlReoffer r => Sys2Proof.Machine.execPdPortControlReoffer r s
  | .pdPortControlHardReset r => Sys2Proof.Machine.execPdPortControlHardReset r s
  | .pdPortControlStatus r => Sys2Proof.Machine.execPdPortControlStatus r s
  | .diagServiceEnter r => Sys2Proof.Machine.execDiagServiceEnter r s
  | .diagServiceExit r => Sys2Proof.Machine.execDiagServiceExit r s
  | .patternConfig r => Sys2Proof.Machine.execPatternConfig r s
  | .loopbackSet r => Sys2Proof.Machine.execLoopbackSet r s
  | .errorInject r => Sys2Proof.Machine.execErrorInject r s
  | .errorInjectInterval t => Sys2Proof.Machine.execErrorInjectInterval t s
  | .cometConfig r => Sys2Proof.Machine.execCometConfig r s
  | .sampleConfig r => Sys2Proof.Machine.execSampleConfig r s
  | .rxClockValid t => Sys2Proof.Machine.execRxClockValid t s
  | .rxClockLost t => Sys2Proof.Machine.execRxClockLost t s
  | .clockSourceRevert t => Sys2Proof.Machine.execClockSourceRevert t s
  | .poisonHoldEnd => Sys2Proof.Machine.execPoisonHoldEnd s
  | .clockLockAchieved t => Sys2Proof.Machine.execClockLockAchieved t s
  | .bitLockAchieved t locked inverted => Sys2Proof.Machine.execBitLockAchieved t locked inverted s
  | .trainA t sets => Sys2Proof.Machine.execTrainA t sets s
  | .trainB t sets done steep => Sys2Proof.Machine.execTrainB t sets done steep s
  | .alignOs t sets skewed same => Sys2Proof.Machine.execAlignOs t sets skewed same s
  | .steerOs t sets same => Sys2Proof.Machine.execSteerOs t sets same s
  | .hushEnter t sets => Sys2Proof.Machine.execHushEnter t sets s
  | .darkEnter t sets => Sys2Proof.Machine.execDarkEnter t sets s
  | .laneOsInterval t => Sys2Proof.Machine.execLaneOsInterval t s
  | .laneStateExitDone t tx => Sys2Proof.Machine.execLaneStateExitDone t tx s
  | .confirmWindowEnd t counts => Sys2Proof.Machine.execConfirmWindowEnd t counts s
  | .trainingStateTimeout t bad => Sys2Proof.Machine.execTrainingStateTimeout t bad s
  | .trainFailBackoffEnd t => Sys2Proof.Machine.execTrainFailBackoffEnd t s
  | .recalPeriodDue t => Sys2Proof.Machine.execRecalPeriodDue t s
  | .recalAdaptDone t converged => Sys2Proof.Machine.execRecalAdaptDone t converged s
  | .laneLockLost t p => Sys2Proof.Machine.execLaneLockLost t p s
  | .laneErrorWindowEnd t => Sys2Proof.Machine.execLaneErrorWindowEnd t s
  | .fastRetrainComplete t tx => Sys2Proof.Machine.execFastRetrainComplete t tx s
  | .failedLaneCleanPeriod t p clean => Sys2Proof.Machine.execFailedLaneCleanPeriod t p clean s
  | .rxFlit t wire => Sys2Proof.Machine.execRxFlit t wire s
  | .txFlitSlot t => Sys2Proof.Machine.execTxFlitSlot t s
  | .linkInit t b => Sys2Proof.Machine.execLinkInit t b s
  | .creditMove t b => Sys2Proof.Machine.execCreditMove t b s
  | .creditMoveAck t b => Sys2Proof.Machine.execCreditMoveAck t b s
  | .linkReset t => Sys2Proof.Machine.execLinkReset t s
  | .creditReport t b => Sys2Proof.Machine.execCreditReport t b s
  | .replayTimeout t => Sys2Proof.Machine.execReplayTimeout t s
  | .nakRearmTimeout t => Sys2Proof.Machine.execNakRearmTimeout t s
  | .holdTimeout t => Sys2Proof.Machine.execHoldTimeout t s
  | .creditMoveResend t => Sys2Proof.Machine.execCreditMoveResend t s
  | .creditMoveTimeout t => Sys2Proof.Machine.execCreditMoveTimeout t s
  | .linkInitTimeout t => Sys2Proof.Machine.execLinkInitTimeout t s
  | .hushIdleExpiry t => Sys2Proof.Machine.execHushIdleExpiry t s
  | .linkResetCommand t => Sys2Proof.Machine.execLinkResetCommand t s
  | .assignRecord t record hop => Sys2Proof.Machine.execAssignRecord t record hop s
  | .announceRecord t record hop => Sys2Proof.Machine.execAnnounceRecord t record hop s
  | .healRecord t record hop => Sys2Proof.Machine.execHealRecord t record hop s
  | .routeChange t record hop => Sys2Proof.Machine.execRouteChange t record hop s
  | .clearRecord t record hop => Sys2Proof.Machine.execClearRecord t record hop s
  | .routeChangeApply number => Sys2Proof.Machine.execRouteChangeApply number s
  | .routePauseEnd tid => Sys2Proof.Machine.execRoutePauseEnd tid s
  | .cutDebounceEnd t => Sys2Proof.Machine.execCutDebounceEnd t s
  | .healRepeat t => Sys2Proof.Machine.execHealRepeat t s
  | .segmentAdmission p => Sys2Proof.Machine.execSegmentAdmission p s
  | .contextSegmentStart o c room => Sys2Proof.Machine.execContextSegmentStart o c room s
  | .multicastHeadReplicate port c => Sys2Proof.Machine.execMulticastHeadReplicate port c s
  | .residueAgeExpiry port => Sys2Proof.Machine.execResidueAgeExpiry port s
  | .wredAvgUpdate => Sys2Proof.Machine.execWredAvgUpdate s
  | .descriptorAgeSweep => Sys2Proof.Machine.execDescriptorAgeSweep s
  | .swcShlowClr => Sys2Proof.Machine.execSwcShlowClr s
  | .policerSnapshot v => Sys2Proof.Machine.execPolicerSnapshot v s
  | .urgStateClearTimeout tid => Sys2Proof.Machine.execUrgStateClearTimeout tid s
  | .urgLongExpiry tid => Sys2Proof.Machine.execUrgLongExpiry tid s
  | .pcieUpstreamReset => Sys2Proof.Machine.execPcieUpstreamReset s
  | .pcieLinkChange port lstate width speed dl => Sys2Proof.Machine.execPcieLinkChange port lstate width speed dl s
  | .vdpDownTimeout v => Sys2Proof.Machine.execVdpDownTimeout v s
  | .hostTlpReceived b good => Sys2Proof.Machine.execHostTlpReceived b good s
  | .deviceTlpReceived n b good => Sys2Proof.Machine.execDeviceTlpReceived n b good s
  | .prefetchLineArrival b => Sys2Proof.Machine.execPrefetchLineArrival b s
  | .prefetchLineAge tag => Sys2Proof.Machine.execPrefetchLineAge tag s
  | .prefetchWindowWrite n v => Sys2Proof.Machine.execPrefetchWindowWrite n v s
  | .completionTimeout tag => Sys2Proof.Machine.execCompletionTimeout tag s
  | .functionLevelReset => Sys2Proof.Machine.execFunctionLevelReset s
  | .flrDrainEnd => Sys2Proof.Machine.execFlrDrainEnd s
  | .npCreditReturn n k => Sys2Proof.Machine.execNpCreditReturn n k s
  | .lockedRead n b => Sys2Proof.Machine.execLockedRead n b s
  | .unlockMsg n b => Sys2Proof.Machine.execUnlockMsg n b s
  | .lockTimeout n => Sys2Proof.Machine.execLockTimeout n s
  | .levelsMsg v b => Sys2Proof.Machine.execLevelsMsg v b s
  | .controlMsg b => Sys2Proof.Machine.execControlMsg b s
  | .sidebandRefresh => Sys2Proof.Machine.execSidebandRefresh s
  | .latchEdge p => Sys2Proof.Machine.execLatchEdge p s
  | .dspCommit p => Sys2Proof.Machine.execDspCommit p s
  | .pipeEnable p => Sys2Proof.Machine.execPipeEnable p s
  | .activeLineStart p => Sys2Proof.Machine.execActiveLineStart p s
  | .fetchCompletion p a b good => Sys2Proof.Machine.execFetchCompletion p a b good s
  | .dspFillminClr p => Sys2Proof.Machine.execDspFillminClr p s
  | .proofMisClr p r => Sys2Proof.Machine.execProofMisClr p r s
  | .dpHpdRise k => Sys2Proof.Machine.execDpHpdRise k s
  | .dpHpdFall k => Sys2Proof.Machine.execDpHpdFall k s
  | .dpIrqHpd k lost => Sys2Proof.Machine.execDpIrqHpd k lost s
  | .dpTrainingDone k ok rate lanes => Sys2Proof.Machine.execDpTrainingDone k ok rate lanes s
  | .dpoRetrain k => Sys2Proof.Machine.execDpoRetrain k s
  | .auxStart k v => Sys2Proof.Machine.execAuxStart k v s
  | .auxReply k reply data => Sys2Proof.Machine.execAuxReply k reply data s
  | .auxReplyTimeout k => Sys2Proof.Machine.execAuxReplyTimeout k s
  | .usbMicroframeStart mem babble => Sys2Proof.Machine.execUsbMicroframeStart mem babble s
  | .usbhKick ports mem => Sys2Proof.Machine.execUsbhKick ports mem s
  | .ringEnable n mem => Sys2Proof.Machine.execRingEnable n mem s
  | .ringDisable n => Sys2Proof.Machine.execRingDisable n s
  | .tdControl n index mem => Sys2Proof.Machine.execTdControl n index mem s
  | .tdBulk n index mem => Sys2Proof.Machine.execTdBulk n index mem s
  | .tdInterrupt n index mem => Sys2Proof.Machine.execTdInterrupt n index mem s
  | .tdNop n index => Sys2Proof.Machine.execTdNop n index s
  | .epConfig n index => Sys2Proof.Machine.execEpConfig n index s
  | .epRelease n index => Sys2Proof.Machine.execEpRelease n index s
  | .epClear n index => Sys2Proof.Machine.execEpClear n index s
  | .usbTransactionEnd n r data room => Sys2Proof.Machine.execUsbTransactionEnd n r data room s
  | .usbPortReset n => Sys2Proof.Machine.execUsbPortReset n s
  | .usbPortResetEnd n speed => Sys2Proof.Machine.execUsbPortResetEnd n speed s
  | .usbPortSuspend n => Sys2Proof.Machine.execUsbPortSuspend n s
  | .usbPortResume n => Sys2Proof.Machine.execUsbPortResume n s
  | .usbResumeEnd n => Sys2Proof.Machine.execUsbResumeEnd n s
  | .usbDeviceRemoteWake n => Sys2Proof.Machine.execUsbDeviceRemoteWake n s
  | .usbPortDisable n => Sys2Proof.Machine.execUsbPortDisable n s
  | .usbConnectChange n present => Sys2Proof.Machine.execUsbConnectChange n present s
  | .usbOvercurrent n high => Sys2Proof.Machine.execUsbOvercurrent n high s
  | .usbRingFullTimeout n => Sys2Proof.Machine.execUsbRingFullTimeout n s
  | .usbsVbusChange present rp => Sys2Proof.Machine.execUsbsVbusChange present rp s
  | .usbsControlRequest setup data done => Sys2Proof.Machine.execUsbsControlRequest setup data done s
  | .usbsBusReset hs => Sys2Proof.Machine.execUsbsBusReset hs s
  | .usbsSuspend => Sys2Proof.Machine.execUsbsSuspend s
  | .usbsRemoteWakeStart hostK => Sys2Proof.Machine.execUsbsRemoteWakeStart hostK s
  | .usbsWakeSliceEnd hostK => Sys2Proof.Machine.execUsbsWakeSliceEnd hostK s
  | .usbsHostResume => Sys2Proof.Machine.execUsbsHostResume s
  | .usbsEp3Poll => Sys2Proof.Machine.execUsbsEp3Poll s
  | .ethFrameReceived n f corrected uncorrected => Sys2Proof.Machine.execEthFrameReceived n f corrected uncorrected s
  | .pauseTimeEnd n => Sys2Proof.Machine.execPauseTimeEnd n s
  | .ethTxStart n => Sys2Proof.Machine.execEthTxStart n s
  | .gateEntryAdvance n => Sys2Proof.Machine.execGateEntryAdvance n s
  | .gateCommit n => Sys2Proof.Machine.execGateCommit n s
  | .gateChangeTime n => Sys2Proof.Machine.execGateChangeTime n s
  | .ethTsfPop n => Sys2Proof.Machine.execEthTsfPop n s
  | .ethPtpClrLost n => Sys2Proof.Machine.execEthPtpClrLost n s
  | .mdioStart v => Sys2Proof.Machine.execMdioStart v s
  | .mdioFrameDone data => Sys2Proof.Machine.execMdioFrameDone data s
  | .ethLinkChange n link speed lock localF remoteF => Sys2Proof.Machine.execEthLinkChange n link speed lock localF remoteF s
  | .vnicEnable q mem => Sys2Proof.Machine.execVnicEnable q mem s
  | .vnicPoll q mem => Sys2Proof.Machine.execVnicPoll q mem s
  | .pointEnable mem => Sys2Proof.Machine.execPointEnable mem s
  | .pointLoadGo => Sys2Proof.Machine.execPointLoadGo s
  | .pointLoadCompletion b good => Sys2Proof.Machine.execPointLoadCompletion b good s
  | .pointFetchStart => Sys2Proof.Machine.execPointFetchStart s
  | .pointFetchDataArrival mem failed => Sys2Proof.Machine.execPointFetchDataArrival mem failed s
  | .pointCycleStart => Sys2Proof.Machine.execPointCycleStart s
  | .pointInputFrame n f => Sys2Proof.Machine.execPointInputFrame n f s
  | .pointWindowClose => Sys2Proof.Machine.execPointWindowClose s
  | .pointLossPassEnd => Sys2Proof.Machine.execPointLossPassEnd s
  | .pointCommit => Sys2Proof.Machine.execPointCommit s
  | .hopMsg t payload => Sys2Proof.Machine.execHopMsg t payload s
  | .hopPeriodicSend t => Sys2Proof.Machine.execHopPeriodicSend t s
  | .parentLossTimeout => Sys2Proof.Machine.execParentLossTimeout s
  | .parentCandidateHoldEnd => Sys2Proof.Machine.execParentCandidateHoldEnd s
  | .parentHoldoffEnd => Sys2Proof.Machine.execParentHoldoffEnd s
  | .rateChangeApply => Sys2Proof.Machine.execRateChangeApply s
  | .mgenWindowEnd => Sys2Proof.Machine.execMgenWindowEnd s
  | .merSnap => Sys2Proof.Machine.execMerSnap s
  | .tioCaptureEdge n falling frac full => Sys2Proof.Machine.execTioCaptureEdge n falling frac full s
  | .tioTriggerEdge n => Sys2Proof.Machine.execTioTriggerEdge n s
  | .typecRdDetect n cc2 ra => Sys2Proof.Machine.execTypecRdDetect n cc2 ra s
  | .typecAttach n => Sys2Proof.Machine.execTypecAttach n s
  | .typecDetach n => Sys2Proof.Machine.execTypecDetach n s
  | .vbusDischarged n => Sys2Proof.Machine.execVbusDischarged n s
  | .pdRequest n pos current => Sys2Proof.Machine.execPdRequest n pos current s
  | .hardResetReceived n => Sys2Proof.Machine.execHardResetReceived n s
  | .softReset n => Sys2Proof.Machine.execSoftReset n s
  | .roleSwapRequest n data => Sys2Proof.Machine.execRoleSwapRequest n data s
  | .vconnSwapRequest n => Sys2Proof.Machine.execVconnSwapRequest n s
  | .partnerPsRdy n => Sys2Proof.Machine.execPartnerPsRdy n s
  | .cableDiscoverIdentity n five => Sys2Proof.Machine.execCableDiscoverIdentity n five s
  | .srcTransitionEnd n => Sys2Proof.Machine.execSrcTransitionEnd n s
  | .powerGoodTimeout n => Sys2Proof.Machine.execPowerGoodTimeout n s
  | .hardResetRecover n => Sys2Proof.Machine.execHardResetRecover n s
  | .vconnOvercurrent n => Sys2Proof.Machine.execVconnOvercurrent n s
  | .tcsSourceCapabilities rp pdos => Sys2Proof.Machine.execTcsSourceCapabilities rp pdos s
  | .efuseRequestChange n on => Sys2Proof.Machine.execEfuseRequestChange n on s
  | .efuseInputWindowChange n x => Sys2Proof.Machine.execEfuseInputWindowChange n x s
  | .efusePresenceChange n present => Sys2Proof.Machine.execEfusePresenceChange n present s
  | .efuseInsertDelayEnd n => Sys2Proof.Machine.execEfuseInsertDelayEnd n s
  | .efusePrecheckEnd n x => Sys2Proof.Machine.execEfusePrecheckEnd n x s
  | .efuseRampDone n x => Sys2Proof.Machine.execEfuseRampDone n x s
  | .efuseRampTimeout n x => Sys2Proof.Machine.execEfuseRampTimeout n x s
  | .efusePgRise n x => Sys2Proof.Machine.execEfusePgRise n x s
  | .efuseCurveTrip n k x => Sys2Proof.Machine.execEfuseCurveTrip n k x s
  | .efuseFastTrip n x => Sys2Proof.Machine.execEfuseFastTrip n x s
  | .efuseSoaTrip n x => Sys2Proof.Machine.execEfuseSoaTrip n x s
  | .efuseRetryDecision n => Sys2Proof.Machine.execEfuseRetryDecision n s
  | .efuseHoldEnd n => Sys2Proof.Machine.execEfuseHoldEnd n s
  | .retryClearExpiry n => Sys2Proof.Machine.execRetryClearExpiry n s
  | .efuseDamageDetect n cause x => Sys2Proof.Machine.execEfuseDamageDetect n cause x s
  | .profileSafePoint n x => Sys2Proof.Machine.execProfileSafePoint n x s
  | .perfSnap => Sys2Proof.Machine.execPerfSnap s
  | .perfClear first n ovfOnly => Sys2Proof.Machine.execPerfClear first n ovfOnly s
  | .cmtSeedWrite v => Sys2Proof.Machine.execCmtSeedWrite v s
  | .cometExpiry id => Sys2Proof.Machine.execCometExpiry id s
  | .efusePgFall n x => Sys2Proof.Machine.execEfusePgFall n x s
  | .railPgFall => Sys2Proof.Machine.execRailPgFall s
  | .railsOffMinEnd => Sys2Proof.Machine.execRailsOffMinEnd s
  | .tcsPathSettleEnd => Sys2Proof.Machine.execTcsPathSettleEnd s
  | .vconnSourceOnEnd n => Sys2Proof.Machine.execVconnSourceOnEnd n s

end Sys2Proof.Machine
end

