-- ==== Sys2Proof/Machine/Tick.lean ====
section
/-!
DEFINITION. What Damya does by itself while no command waits (log entry 1): one core cycle passes, what that cycle lets
go goes, and Scribe takes the next request of its input queue (R65, R66).
-/

namespace Sys2Proof.Machine

/-! Time -/

/-- Raw units in one core cycle: 1.28 ns at OP0, and twice and four times that at OP1 and OP2 (R533). -/
def State.cycleRaw (s : State) : Nat := rawPeriod * 2 ^ (1 + min 2 (s.rd Reg.CLK_OP_CUR))

/-- One core cycle passes. -/
def State.cyclePasses (s : State) : State :=
  { s with mer := { s.mer with raw := s.mer.raw + s.cycleRaw }, sw := { s.sw with cycle := s.sw.cycle + 1 } }

/-! What waits -/

/-- The MSIs that moderation has held back (R367, R407). -/
def State.lateMsis (s : State) : State :=
  let s := if s.eth.msi.due then s.vnicMsi else s
  if s.usb.msi.due then s.usbMsi else s

/-- A recalibration round that fell due when none was allowed starts (R46, R124). -/
def State.lateRounds (s : State) : State :=
  [0, 1].foldl (fun (s : State) t => if (s.lane t).roundDue && s.recalAllowed t then s.startRound t else s) s

/-- A hitless restart that waited for the foreground command begins at its end (R68). -/
def State.lateRestart (s : State) : State :=
  match s.cmd.restartDue with
  | some (cause, slot) => if s.foreground then s
    else (s.withCmd fun c => { c with restartDue := none }).beginRestart cause slot
  | none => s

/-- Everything that one core cycle lets happen. -/
def State.tick (s : State) : State :=
  let s := s.nibCycle s.cycleRaw
  if !s.hubOn then s
  else
    let r := s.mer.raw
    let s := (s.cyclePasses.merCycle s.cycleRaw).pollStep.lateRestart
    let s := [0, 1].foldl (fun (s : State) t => ((s.testCycle r t).upgradeStep t).darkStep t) s
    let s := s.coreCycle.sfnIssue.vdpRoutes.hostDrain
    let s := ((s.lateMsis).lowCheck 0).lowCheck 1
    s.usbsSync.lateRounds

/-! Scribe's input queue (R65) -/

/-- The transport that is served next: the first after the last one served that has a request. -/
def State.nextVia (s : State) : Option Nat :=
  ([1, 2, 3, 4].map fun d => (s.cmd.turn + d) % 4).find? fun v => s.cmd.input.any fun r => viaCode r.via == v

/-- The oldest request of that transport leaves the queue, unless a command is under way. -/
def State.nextRequest (s : State) : Option (Request × State) :=
  if !s.serving || s.cmd.restarting || s.scribeBusy then none
  else match s.nextVia with
    | none => none
    | some v => match s.cmd.input.find? (fun r => viaCode r.via == v) with
      | none => none
      | some r => some (r, s.withCmd fun c => { c with
          turn := v, input := c.input.eraseP fun r => viaCode r.via == v })

/-- The row of the table that a request asks for, by opcode and, where rows share one, by its selecting byte. -/
def instrOfRequest (r : Request) : Option Instr :=
  match r.pkt.opcode with
  | 0x0100 => some (.nop r)
  | 0x0101 => some (.identify r)
  | 0x0102 => some (.modeSet r)
  | 0x0103 => some (.unitMapOut r)
  | 0x0104 => some (.unitMapIn r)
  | 0x0105 => some (.reset r)
  | 0x0106 => some (.jobStatus r)
  | 0x0107 => match leAt r.pkt.params 0 1 with
    | 0 => some (.positionSetAssign r)
    | 1 => some (.positionSetClear r)
    | _ => none
  | 0x0110 => some (.queueConfig r)
  | 0x0111 => some (.queueRead r)
  | 0x0112 => some (.queueMark r)
  | 0x0113 => some (.queueRewind r)
  | 0x0114 => some (.queueRelease r)
  | 0x0200 => some (.openSession r)
  | 0x0201 => some (.sessionProve r)
  | 0x0202 => some (.openSessionPw r)
  | 0x0203 => some (.closeSession r)
  | 0x0204 => some (.sessionList r)
  | 0x0310 => some (.regRead r)
  | 0x0311 => some (.regWrite r)
  | 0x0312 => some (.regModify r)
  | 0x0313 => some (.regPoll r)
  | 0x0400 => match leAt r.pkt.params 0 1 with
    | 0 => some (.tunnelCreate r)
    | 1 => some (.hopInstall r)
    | _ => none
  | 0x0401 => match leAt r.pkt.params 0 1 with
    | 0 => some (.tunnelRetune r)
    | 1 => some (.retunePrepare r)
    | 2 => some (.retuneCancel r)
    | _ => none
  | 0x0402 => match leAt r.pkt.params 0 1 with
    | 0 => some (.tunnelDestroy r)
    | 1 => some (.tunnelClose r)
    | _ => none
  | 0x0403 => some (.tunnelQuery r)
  | 0x0404 => match leAt r.pkt.params 0 1 with
    | 0 => some (.routeSetCut r)
    | 1 => some (.routeSetRestore r)
    | 2 => some (.routeSetLine r)
    | _ => none
  | 0x0405 => some (.audit r)
  | 0x0406 => some (.trunkEnable r)
  | 0x0407 => some (.trunkDisable r)
  | 0x0500 => some (.keyLoad r)
  | 0x0501 => some (.keyClear r)
  | 0x0502 => some (.keyInfo r)
  | 0x0503 => some (.attest r)
  | 0x0504 => some (.lcAdvance r)
  | 0x0505 => some (.cryptoHmac r)
  | 0x0506 => some (.cryptoSeal r)
  | 0x0507 => some (.cryptoOpen r)
  | 0x0508 => match leAt r.pkt.params 0 1 with
    | 0 => some (.otpProgramKey r)
    | 1 => some (.otpProgramPassword r)
    | 2 => some (.otpProgramRetire r)
    | _ => none
  | 0x0600 => some (.fwBegin r)
  | 0x0601 => some (.fwWriteBlock r)
  | 0x0602 => some (.fwVerify r)
  | 0x0603 => some (.fwActivate r)
  | 0x0604 => some (.fwStatus r)
  | 0x0605 => some (.fwConfirm r)
  | 0x0606 => some (.settingsRead r)
  | 0x0607 => some (.settingsWrite r)
  | 0x0700 => some (.timeGet r)
  | 0x0701 => some (.timeSetOffset r)
  | 0x0702 => some (.timeSetRate r)
  | 0x0703 => some (.timeMasterSet r)
  | 0x0704 => some (.tioConfig r)
  | 0x0705 => some (.tioArm r)
  | 0x0800 => some (.opSet r)
  | 0x0801 => some (.pwrStatus r)
  | 0x0802 => some (.wakeConfig r)
  | 0x0803 => match leAt r.pkt.params 1 1 with
    | 0 => some (.efuseControlOff r)
    | 1 => some (.efuseControlOn r)
    | 2 => some (.efuseControlClear r)
    | 3 => some (.efuseControlStatus r)
    | 4 => some (.efuseControlTest r)
    | _ => none
  | 0x0804 => some (.efuseCurveLoad r)
  | 0x0805 => some (.pdTableLoad r)
  | 0x0806 => match leAt r.pkt.params 1 1 with
    | 0 => some (.pdPortControlDisable r)
    | 1 => some (.pdPortControlEnable r)
    | 2 => some (.pdPortControlReoffer r)
    | 3 => some (.pdPortControlHardReset r)
    | 4 => some (.pdPortControlStatus r)
    | _ => none
  | 0x0900 => some (.diagServiceEnter r)
  | 0x0901 => some (.diagServiceExit r)
  | 0x0902 => some (.patternConfig r)
  | 0x0903 => some (.loopbackSet r)
  | 0x0904 => some (.errorInject r)
  | 0x0905 => some (.selftest r)
  | 0x0906 => some (.cometConfig r)
  | 0x0907 => some (.sampleConfig r)
  | _ => none

/-- A request that no row answers: BAD_OPCODE for an unknown opcode, and BAD_PARAM for an unknown selecting byte, after
the checks that come before (R50, R78). -/
def State.otherRequest (s : State) (r : Request) : State :=
  s.command r.pkt.opcode r fun _ s => .fail s Status.badParam

end Sys2Proof.Machine
end

