-- ==== Sys2Proof/Machine/Step.lean ====
section
/-!
DEFINITION. The step of the block: the command at the front of the queue runs, or, with no command waiting, one core
cycle passes and Scribe serves its next request.
-/

namespace Sys2Proof.Machine

/-- One core cycle with no command waiting (log entry 1). -/
def idleStep (s : State) : Host.Outcome State Fault Refusal :=
  match s.tick.nextRequest with
  | none => .next s.tick
  | some (r, t) =>
    match instrOfRequest r with
    | some i => exec i t
    | none => .next (t.otherRequest r)

/-- One step. -/
def step (s : State) : Host.Outcome State Fault Refusal :=
  match s.pending with
  | [] => idleStep s
  | c :: rest => exec c { s with pending := rest }

/-- The state with the command that a word spells at the front of its queue. -/
def State.withFetchWord (s : State) (nbits w : Nat) : State :=
  match decodeTableWord nbits w with
  | some c => { s with pending := c :: s.pending }
  | none => s

end Sys2Proof.Machine
end

