-- ==== Sys2Proof/WellFormed.lean ====
section
/-!
DEFINITION. Which commands can stand: what the types of `Instr`'s operands do not already say.  A packet's fields fit
their places in the header (R49), a list an event brings has the length its layout gives it, and a number names
something that exists.
-/

namespace Sys2Proof

/-- A packet fits the layout of R49, with a tag exactly where FLAGS asks for one. -/
def Packet.wf (p : Packet) : Bool :=
  p.ver < 16 && p.flags < 16 && p.opcode < 65536 && p.seq < 65536 && p.session < 256 && p.len < 65536 &&
    p.status < 256 && p.rsv.length == 7 && p.params.length ≤ p.len && (p.tag.length == 16 || p.tag.length == 0)

/-- A request of a row: a packet of R49 with the row's opcode (R78). -/
def Request.wf (r : Request) (opcode : Nat) : Bool := r.pkt.wf && r.pkt.opcode == opcode

/-- Where one opcode has several rows, the parameter byte that selects the row holds the row's own value. -/
def Request.selects (r : Request) (at_ value : Nat) : Bool :=
  match r.pkt.params[at_]? with
  | some b => b.toNat == value
  | none => false

/-- The bytes a transport delivers as one packet: a header, at most 4160 parameter bytes and a tag (R47, R54). -/
def packetBytes (b : List (BitVec 8)) : Bool := 16 ≤ b.length && b.length ≤ 4192

/-- One interval's lane ordered sets of a trunk direction: at most one of 32 bytes on each of five lanes (R113). -/
def laneSets (l : List (List (BitVec 8))) : Bool := l.length ≤ 5 && l.all fun b => b.length == 32

/-- Host memory as reads find it lies within 64-bit addresses. -/
def HostMem.wf (m : HostMem) : Bool := m.all fun e => e.1 + e.2.length ≤ 2 ^ 64

/-- A channel's readings fit their registers' fields, the current of at most 1048 A among them. -/
def FuseSample.wf (x : FuseSample) : Bool := x.vin < 65536 && x.vout < 65536 && x.i < 1048576 && x.vds < 65536

/-- The command can stand. -/
def Instr.wf (i : Instr) : Bool :=
  match i with
  | .powerOn _ => true
  | .powerDieStop => true
  | .railPgRise => true
  | .railPgFault _ => true
  | .hubResetRelease _ _ _ => true
  | .imageAuthenticated _ => true
  | .bootComplete _ failed => failed.all (· < 256) && failed.eraseDups == failed
  | .subprocessorSafePoint _ => true
  | .intakeWindowLeave vin reason => vin < 65536 && 1 ≤ reason.val
  | .intakeWindowEnter vin => vin < 65536
  | .tcsVbusLoss => true
  | .xtalStop => true
  | .wakeSourceFire _ _ => true
  | .standbyAlarmExpiry => true
  | .thermalWarn _ => true
  | .throttleOn _ => true
  | .throttleOff _ => true
  | .thermalShutdown => true
  | .thermalPoll _ => true
  | .resetPin => true
  | .watchdogExpiry => true
  | .fatalUnitError _ => true
  | .d2dLinkFail => true
  | .sramDoubleBitError _ _ index => index < 262144
  | .voltageSettled _ => true
  | .schedulerEpoch => true
  | .askPhaseComplete => true
  | .askPhaseTimeout => true
  | .entryDrainEnd _ => true
  | .pmeTurnOffWaitEnd _ => true
  | .idleExitTrunksReady _ => true
  | .serviceEntryTakeEffect => true
  | .serviceExitComplete => true
  | .resetTakeEffect => true
  | .replyHandedOver _ _ => true
  | .mailboxGo _ => true
  | .relayTimeout => true
  | .relayedReplyArrival position bytes => 1 ≤ position.val && packetBytes bytes
  | .mgmtRequest _ bytes => packetBytes bytes
  | .mgmtReplyRead n => n.count ≤ 4192
  | .mgmtStatusRead => true
  | .tid0Request _ bytes => packetBytes bytes
  | .usbsRequest bytes => packetBytes bytes
  | .usbsReplyRead => true
  | .halfOpenSessionTimeout h => 1 ≤ h.val
  | .sessionIdleTimeout h => 1 ≤ h.val
  | .passwordDerivationDone => true
  | .passwordLockoutEnd => true
  | .jobComplete job _ => 1 ≤ job && job ≤ 255
  | .queueIntegrityReset _ => true
  | .queueEnableRise _ => true
  | .hitlessRestartBegin _ => true
  | .hitlessRestartEnd _ ms => ms < 65536
  | .nop r => r.wf 0x0100
  | .identify r => r.wf 0x0101
  | .modeSet r => r.wf 0x0102
  | .unitMapOut r => r.wf 0x0103
  | .unitMapIn r => r.wf 0x0104
  | .selftest r => r.wf 0x0905
  | .reset r => r.wf 0x0105
  | .jobStatus r => r.wf 0x0106
  | .positionSetAssign r => r.wf 0x0107 && r.selects 0 0
  | .positionSetClear r => r.wf 0x0107 && r.selects 0 1
  | .positionAssignDelayEnd => true
  | .queueConfig r => r.wf 0x0110
  | .queueRead r => r.wf 0x0111
  | .queueMark r => r.wf 0x0112
  | .queueRewind r => r.wf 0x0113
  | .queueRelease r => r.wf 0x0114
  | .openSession r => r.wf 0x0200
  | .sessionProve r => r.wf 0x0201
  | .openSessionPw r => r.wf 0x0202
  | .closeSession r => r.wf 0x0203
  | .sessionList r => r.wf 0x0204
  | .regRead r => r.wf 0x0310
  | .regWrite r => r.wf 0x0311
  | .regModify r => r.wf 0x0312
  | .regPoll r => r.wf 0x0313
  | .registerWrite _ _ => true
  | .tunnelCreate r => r.wf 0x0400 && r.selects 0 0
  | .hopInstall r => r.wf 0x0400 && r.selects 0 1
  | .hopReplyReceived _ bytes => packetBytes bytes
  | .installPhaseTimeout tid => 2 ≤ tid.val
  | .tunnelDestroy r => r.wf 0x0402 && r.selects 0 0
  | .tunnelClose r => r.wf 0x0402 && r.selects 0 1
  | .tunnelDrainEnd tid => 2 ≤ tid.val
  | .tunnelRetune r => r.wf 0x0401 && r.selects 0 0
  | .retunePrepare r => r.wf 0x0401 && r.selects 0 1
  | .retuneCancel r => r.wf 0x0401 && r.selects 0 2
  | .retuneApply tid => 2 ≤ tid.val
  | .tunnelQuery r => r.wf 0x0403
  | .routeSetLine r => r.wf 0x0404 && r.selects 0 2
  | .routeSetCut r => r.wf 0x0404 && r.selects 0 0
  | .routeSetRestore r => r.wf 0x0404 && r.selects 0 1
  | .audit r => r.wf 0x0405
  | .auditStationTimeout position => 1 ≤ position.val
  | .trunkEnable r => r.wf 0x0406
  | .trunkDisable r => r.wf 0x0407
  | .trunkDisableTakeEffect => true
  | .keyLoad r => r.wf 0x0500
  | .keyClear r => r.wf 0x0501
  | .keyInfo r => r.wf 0x0502
  | .attest r => r.wf 0x0503
  | .lcAdvance r => r.wf 0x0504
  | .cryptoHmac r => r.wf 0x0505
  | .cryptoSeal r => r.wf 0x0506
  | .cryptoOpen r => r.wf 0x0507
  | .otpProgramKey r => r.wf 0x0508 && r.selects 0 0
  | .otpProgramPassword r => r.wf 0x0508 && r.selects 0 1
  | .otpProgramRetire r => r.wf 0x0508 && r.selects 0 2
  | .entropyHealthFail => true
  | .tamperAssert => true
  | .tamperRelease => true
  | .fwBegin r => r.wf 0x0600
  | .fwWriteBlock r => r.wf 0x0601
  | .fwVerify r => r.wf 0x0602
  | .fwActivate r => r.wf 0x0603
  | .fwActivateTakeEffect => true
  | .fwStatus r => r.wf 0x0604
  | .fwConfirm r => r.wf 0x0605
  | .trialConfirmTimeout => true
  | .settingsRead r => r.wf 0x0606
  | .settingsWrite r => r.wf 0x0607
  | .timeGet r => r.wf 0x0700
  | .timeSetOffset r => r.wf 0x0701
  | .timeSetRate r => r.wf 0x0702
  | .timeMasterSet r => r.wf 0x0703
  | .tioConfig r => r.wf 0x0704
  | .tioArm r => r.wf 0x0705
  | .tioRegisterWrite _ _ _ => true
  | .opSet r => r.wf 0x0800
  | .pwrStatus r => r.wf 0x0801
  | .wakeConfig r => r.wf 0x0802
  | .efuseControlOff r => r.wf 0x0803 && r.selects 1 0
  | .efuseControlOn r => r.wf 0x0803 && r.selects 1 1
  | .efuseControlClear r => r.wf 0x0803 && r.selects 1 2
  | .efuseControlStatus r => r.wf 0x0803 && r.selects 1 3
  | .efuseControlTest r => r.wf 0x0803 && r.selects 1 4
  | .efuseCurveLoad r => r.wf 0x0804
  | .pdTableLoad r => r.wf 0x0805
  | .pdPortControlDisable r => r.wf 0x0806 && r.selects 1 0
  | .pdPortControlEnable r => r.wf 0x0806 && r.selects 1 1
  | .pdPortControlReoffer r => r.wf 0x0806 && r.selects 1 2
  | .pdPortControlHardReset r => r.wf 0x0806 && r.selects 1 3
  | .pdPortControlStatus r => r.wf 0x0806 && r.selects 1 4
  | .diagServiceEnter r => r.wf 0x0900
  | .diagServiceExit r => r.wf 0x0901
  | .patternConfig r => r.wf 0x0902
  | .loopbackSet r => r.wf 0x0903
  | .errorInject r => r.wf 0x0904
  | .errorInjectInterval _ => true
  | .cometConfig r => r.wf 0x0906
  | .sampleConfig r => r.wf 0x0907
  | .rxClockValid _ => true
  | .rxClockLost _ => true
  | .clockSourceRevert _ => true
  | .poisonHoldEnd => true
  | .clockLockAchieved _ => true
  | .bitLockAchieved _ _ _ => true
  | .trainA _ sets => laneSets sets
  | .trainB _ sets _ _ => laneSets sets
  | .alignOs _ sets _ _ => laneSets sets
  | .steerOs _ sets _ => laneSets sets
  | .hushEnter _ sets => laneSets sets
  | .darkEnter _ sets => laneSets sets
  | .laneOsInterval _ => true
  | .laneStateExitDone _ _ => true
  | .confirmWindowEnd _ counts => counts.length == 5 && counts.all (· < 65536)
  | .trainingStateTimeout _ _ => true
  | .trainFailBackoffEnd _ => true
  | .recalPeriodDue _ => true
  | .recalAdaptDone _ _ => true
  | .laneLockLost _ _ => true
  | .laneErrorWindowEnd _ => true
  | .fastRetrainComplete _ _ => true
  | .failedLaneCleanPeriod _ _ _ => true
  | .rxFlit _ wire => wire.length == 272
  | .txFlitSlot _ => true
  | .linkInit _ b => b.length ≤ 244
  | .creditMove _ b => b.length ≤ 244
  | .creditMoveAck _ b => b.length ≤ 244
  | .linkReset _ => true
  | .creditReport _ b => b.length ≤ 244
  | .replayTimeout _ => true
  | .nakRearmTimeout _ => true
  | .holdTimeout _ => true
  | .creditMoveResend _ => true
  | .creditMoveTimeout _ => true
  | .linkInitTimeout _ => true
  | .hushIdleExpiry _ => true
  | .linkResetCommand _ => true
  | .assignRecord _ record _ => record.length == 16
  | .announceRecord _ record _ => record.length == 16
  | .healRecord _ record _ => record.length == 16
  | .routeChange _ record _ => record.length == 16
  | .clearRecord _ record _ => record.length == 16
  | .routeChangeApply _ => true
  | .routePauseEnd tid => 2 ≤ tid.val
  | .cutDebounceEnd _ => true
  | .healRepeat _ => true
  | .segmentAdmission _ => true
  | .contextSegmentStart _ _ _ => true
  | .multicastHeadReplicate _ _ => true
  | .residueAgeExpiry _ => true
  | .wredAvgUpdate => true
  | .descriptorAgeSweep => true
  | .swcShlowClr => true
  | .policerSnapshot _ => true
  | .urgStateClearTimeout _ => true
  | .urgLongExpiry _ => true
  | .pcieUpstreamReset => true
  | .pcieLinkChange _ _ _ _ _ => true
  | .vdpDownTimeout _ => true
  | .hostTlpReceived b _ => b.length ≤ 4128
  | .deviceTlpReceived _ b _ => b.length ≤ 4128
  | .prefetchLineArrival b => b.length ≤ 512
  | .prefetchLineAge _ => true
  | .prefetchWindowWrite _ _ => true
  | .completionTimeout _ => true
  | .functionLevelReset => true
  | .flrDrainEnd => true
  | .npCreditReturn _ k => 1 ≤ k
  | .lockedRead _ b => b.length ≤ 4128
  | .unlockMsg _ b => b.length ≤ 4128
  | .lockTimeout _ => true
  | .levelsMsg _ b => b.length ≤ 512
  | .controlMsg b => b.length ≤ 512
  | .sidebandRefresh => true
  | .latchEdge _ => true
  | .dspCommit _ => true
  | .pipeEnable _ => true
  | .activeLineStart _ => true
  | .fetchCompletion _ a b _ => a < 2 ^ 64 && b.length ≤ 256
  | .dspFillminClr _ => true
  | .proofMisClr _ _ => true
  | .dpHpdRise _ => true
  | .dpHpdFall _ => true
  | .dpIrqHpd _ _ => true
  | .dpTrainingDone _ _ _ _ => true
  | .dpoRetrain _ => true
  | .auxStart _ _ => true
  | .auxReply _ _ data => data.length ≤ 16
  | .auxReplyTimeout _ => true
  | .usbMicroframeStart mem _ => mem.wf
  | .usbhKick _ mem => mem.wf
  | .ringEnable _ mem => mem.wf
  | .ringDisable _ => true
  | .tdControl _ _ mem => mem.wf
  | .tdBulk _ _ mem => mem.wf
  | .tdInterrupt _ _ mem => mem.wf
  | .tdNop _ _ => true
  | .epConfig _ _ => true
  | .epRelease _ _ => true
  | .epClear _ _ => true
  | .usbTransactionEnd _ _ data _ => data.length ≤ 1024
  | .usbPortReset _ => true
  | .usbPortResetEnd _ _ => true
  | .usbPortSuspend _ => true
  | .usbPortResume _ => true
  | .usbResumeEnd _ => true
  | .usbDeviceRemoteWake _ => true
  | .usbPortDisable _ => true
  | .usbConnectChange _ _ => true
  | .usbOvercurrent _ _ => true
  | .usbRingFullTimeout _ => true
  | .usbsVbusChange _ _ => true
  | .usbsControlRequest setup _ _ => setup.length == 8
  | .usbsBusReset _ => true
  | .usbsSuspend => true
  | .usbsRemoteWakeStart _ => true
  | .usbsWakeSliceEnd _ => true
  | .usbsHostResume => true
  | .usbsEp3Poll => true
  | .ethFrameReceived _ f corrected uncorrected => f.length ≤ 16384 && corrected < 65536 && uncorrected < 65536
  | .pauseTimeEnd _ => true
  | .ethTxStart _ => true
  | .gateEntryAdvance _ => true
  | .gateCommit _ => true
  | .gateChangeTime _ => true
  | .ethTsfPop _ => true
  | .ethPtpClrLost _ => true
  | .mdioStart _ => true
  | .mdioFrameDone _ => true
  | .ethLinkChange _ _ _ _ _ _ => true
  | .vnicEnable _ mem => mem.wf
  | .vnicPoll _ mem => mem.wf
  | .pointEnable mem => mem.wf
  | .pointLoadGo => true
  | .pointLoadCompletion b _ => b.length ≤ 256 && b.length % 8 == 0
  | .pointFetchStart => true
  | .pointFetchDataArrival mem _ => mem.wf
  | .pointCycleStart => true
  | .pointInputFrame _ f => f.length ≤ 1518
  | .pointWindowClose => true
  | .pointLossPassEnd => true
  | .pointCommit => true
  | .hopMsg _ payload => payload.length == 64
  | .hopPeriodicSend _ => true
  | .parentLossTimeout => true
  | .parentCandidateHoldEnd => true
  | .parentHoldoffEnd => true
  | .rateChangeApply => true
  | .mgenWindowEnd => true
  | .merSnap => true
  | .tioCaptureEdge _ _ _ _ => true
  | .tioTriggerEdge _ => true
  | .typecRdDetect _ _ _ => true
  | .typecAttach _ => true
  | .typecDetach _ => true
  | .vbusDischarged _ => true
  | .pdRequest _ _ _ => true
  | .hardResetReceived _ => true
  | .softReset _ => true
  | .roleSwapRequest _ _ => true
  | .vconnSwapRequest _ => true
  | .partnerPsRdy _ => true
  | .cableDiscoverIdentity _ _ => true
  | .srcTransitionEnd _ => true
  | .powerGoodTimeout _ => true
  | .hardResetRecover _ => true
  | .vconnOvercurrent _ => true
  | .tcsSourceCapabilities _ pdos => pdos.length ≤ 7 && pdos.all (fun p => p.1 < 65536 && p.2 < 1024)
  | .efuseRequestChange _ _ => true
  | .efuseInputWindowChange _ x => x.wf
  | .efusePresenceChange _ _ => true
  | .efuseInsertDelayEnd _ => true
  | .efusePrecheckEnd _ x => x.wf
  | .efuseRampDone _ x => x.wf
  | .efuseRampTimeout _ x => x.wf
  | .efusePgRise _ x => x.wf
  | .efuseCurveTrip _ _ x => x.wf
  | .efuseFastTrip _ x => x.wf
  | .efuseSoaTrip _ x => x.wf
  | .efuseRetryDecision _ => true
  | .efuseHoldEnd _ => true
  | .retryClearExpiry _ => true
  | .efuseDamageDetect _ _ x => x.wf
  | .profileSafePoint _ x => x.wf
  | .perfSnap => true
  | .perfClear _ _ _ => true
  | .cmtSeedWrite _ => true
  | .cometExpiry _ => true
  | .efusePgFall _ x => x.wf
  | .railPgFall => true
  | .railsOffMinEnd => true
  | .tcsPathSettleEnd => true
  | .vconnSourceOnEnd _ => true

end Sys2Proof
end

