-- ==== Sys2Proof/Safety.lean ====
section
/-!
DEFINITION. The vocabulary of the statements: what a run may rely on and what it must keep.
-/

namespace Sys2Proof.Machine

/-! Commands that pass their checks -/

/-- The request as Scribe handles it, with the row's opcode. -/
def asked (op : Nat) (r : Request) : Request := requestWithOpcode r op

/-- The machine once Scribe has taken the request: the state that the opcode's own body acts on. -/
def State.begun (s : State) (op : Nat) (r : Request) : State := s.take (asked op r)

/-- The SEQ is later than the kept one (R52); on SESSION 0 every SEQ is. -/
def State.freshSeq (s : State) (q : Request) : Bool :=
  match s.openSession q with
  | some x => q.pkt.seq != x.keptSeq && decide ((q.pkt.seq + 65536 - x.keptSeq) % 65536 ≤ 32767)
  | none => true

/-- The mode and the access class let the opcode through (R50, steps 6 to 8). -/
def State.letsThrough (u : State) (op : Nat) (q : Request) : Bool :=
  match opcodeAccess op with
  | some a => u.modeAllows op && (u.accessStatus op a (u.openSession q) q).isNone
  | none => false

/-- The request passes every check of R50 that comes before the opcode's own. -/
def State.passes (s : State) (op : Nat) (r : Request) : Bool :=
  s.serving && !s.cmd.restarting && !s.scribeBusy && (s.frameStatus (asked op r)).isNone && s.freshSeq (asked op r) &&
    (s.begun op r).letsThrough op (asked op r)

/-- The machine `t` once it has answered, with a status and parameters, the request that `u` had taken. -/
def State.answered (t u : State) (op : Nat) (r : Request) (status : Nat) (params : Bytes) : State :=
  t.answerOn (u.openSession (asked op r)) (asked op r) status params

/-! Which rows are packets, and which act on the power die -/

/-- The opcode and the request of a row that is a command packet. -/
def packetOf : Instr → Option (Nat × Request)
  | .nop r => some (0x0100, r)
  | .identify r => some (0x0101, r)
  | .modeSet r => some (0x0102, r)
  | .unitMapOut r => some (0x0103, r)
  | .unitMapIn r => some (0x0104, r)
  | .selftest r => some (0x0905, r)
  | .reset r => some (0x0105, r)
  | .jobStatus r => some (0x0106, r)
  | .positionSetAssign r => some (0x0107, (requestWithByte r 0 0))
  | .positionSetClear r => some (0x0107, (requestWithByte r 0 1))
  | .queueConfig r => some (0x0110, r)
  | .queueRead r => some (0x0111, r)
  | .queueMark r => some (0x0112, r)
  | .queueRewind r => some (0x0113, r)
  | .queueRelease r => some (0x0114, r)
  | .openSession r => some (0x0200, r)
  | .sessionProve r => some (0x0201, r)
  | .openSessionPw r => some (0x0202, r)
  | .closeSession r => some (0x0203, r)
  | .sessionList r => some (0x0204, r)
  | .regRead r => some (0x0310, r)
  | .regWrite r => some (0x0311, r)
  | .regModify r => some (0x0312, r)
  | .regPoll r => some (0x0313, r)
  | .tunnelCreate r => some (0x0400, (requestWithByte r 0 0))
  | .hopInstall r => some (0x0400, (requestWithByte r 0 1))
  | .tunnelDestroy r => some (0x0402, (requestWithByte r 0 0))
  | .tunnelClose r => some (0x0402, (requestWithByte r 0 1))
  | .tunnelRetune r => some (0x0401, (requestWithByte r 0 0))
  | .retunePrepare r => some (0x0401, (requestWithByte r 0 1))
  | .retuneCancel r => some (0x0401, (requestWithByte r 0 2))
  | .tunnelQuery r => some (0x0403, r)
  | .routeSetLine r => some (0x0404, (requestWithByte r 0 2))
  | .routeSetCut r => some (0x0404, (requestWithByte r 0 0))
  | .routeSetRestore r => some (0x0404, (requestWithByte r 0 1))
  | .audit r => some (0x0405, r)
  | .trunkEnable r => some (0x0406, r)
  | .trunkDisable r => some (0x0407, r)
  | .keyLoad r => some (0x0500, r)
  | .keyClear r => some (0x0501, r)
  | .keyInfo r => some (0x0502, r)
  | .attest r => some (0x0503, r)
  | .lcAdvance r => some (0x0504, r)
  | .cryptoHmac r => some (0x0505, r)
  | .cryptoSeal r => some (0x0506, r)
  | .cryptoOpen r => some (0x0507, r)
  | .otpProgramKey r => some (0x0508, (requestWithByte r 0 0))
  | .otpProgramPassword r => some (0x0508, (requestWithByte r 0 1))
  | .otpProgramRetire r => some (0x0508, (requestWithByte r 0 2))
  | .fwBegin r => some (0x0600, r)
  | .fwWriteBlock r => some (0x0601, r)
  | .fwVerify r => some (0x0602, r)
  | .fwActivate r => some (0x0603, r)
  | .fwStatus r => some (0x0604, r)
  | .fwConfirm r => some (0x0605, r)
  | .settingsRead r => some (0x0606, r)
  | .settingsWrite r => some (0x0607, r)
  | .timeGet r => some (0x0700, r)
  | .timeSetOffset r => some (0x0701, r)
  | .timeSetRate r => some (0x0702, r)
  | .timeMasterSet r => some (0x0703, r)
  | .tioConfig r => some (0x0704, r)
  | .tioArm r => some (0x0705, r)
  | .opSet r => some (0x0800, (requestWithOpcode r 0x0800))
  | .pwrStatus r => some (0x0801, r)
  | .wakeConfig r => some (0x0802, r)
  | .efuseControlOff r => some (0x0803, (requestWithByte r 1 0))
  | .efuseControlOn r => some (0x0803, (requestWithByte r 1 1))
  | .efuseControlClear r => some (0x0803, (requestWithByte r 1 2))
  | .efuseControlStatus r => some (0x0803, (requestWithByte r 1 3))
  | .efuseControlTest r => some (0x0803, (requestWithByte r 1 4))
  | .efuseCurveLoad r => some (0x0804, r)
  | .pdTableLoad r => some (0x0805, r)
  | .pdPortControlDisable r => some (0x0806, (requestWithByte r 1 0))
  | .pdPortControlEnable r => some (0x0806, (requestWithByte r 1 1))
  | .pdPortControlReoffer r => some (0x0806, (requestWithByte r 1 2))
  | .pdPortControlHardReset r => some (0x0806, (requestWithByte r 1 3))
  | .pdPortControlStatus r => some (0x0806, (requestWithByte r 1 4))
  | .diagServiceEnter r => some (0x0900, r)
  | .diagServiceExit r => some (0x0901, r)
  | .patternConfig r => some (0x0902, r)
  | .loopbackSet r => some (0x0903, r)
  | .errorInject r => some (0x0904, r)
  | .cometConfig r => some (0x0906, r)
  | .sampleConfig r => some (0x0907, r)
  | .powerOn _ => none
  | .powerDieStop => none
  | .railPgRise => none
  | .railPgFault _ => none
  | .hubResetRelease _ _ _ => none
  | .intakeWindowLeave _ _ => none
  | .intakeWindowEnter _ => none
  | .tcsVbusLoss => none
  | .xtalStop => none
  | .wakeSourceFire _ _ => none
  | .standbyAlarmExpiry => none
  | .thermalShutdown => none
  | .thermalPoll _ => none
  | .mgmtRequest _ _ => none
  | .mgmtReplyRead _ => none
  | .mgmtStatusRead => none
  | .passwordLockoutEnd => none
  | .registerWrite _ _ => none
  | .tamperAssert => none
  | .tamperRelease => none
  | .laneStateExitDone _ _ => none
  | .deviceTlpReceived _ _ _ => none
  | .usbDeviceRemoteWake _ => none
  | .usbsVbusChange _ _ => none
  | .ethLinkChange _ _ _ _ _ _ => none
  | .tioCaptureEdge _ _ _ _ => none
  | .typecRdDetect _ _ _ => none
  | .typecAttach _ => none
  | .typecDetach _ => none
  | .vbusDischarged _ => none
  | .pdRequest _ _ _ => none
  | .hardResetReceived _ => none
  | .softReset _ => none
  | .roleSwapRequest _ _ => none
  | .vconnSwapRequest _ => none
  | .partnerPsRdy _ => none
  | .cableDiscoverIdentity _ _ => none
  | .srcTransitionEnd _ => none
  | .powerGoodTimeout _ => none
  | .hardResetRecover _ => none
  | .vconnOvercurrent _ => none
  | .tcsSourceCapabilities _ _ => none
  | .efuseRequestChange _ _ => none
  | .efuseInputWindowChange _ _ => none
  | .efusePresenceChange _ _ => none
  | .efuseInsertDelayEnd _ => none
  | .efusePrecheckEnd _ _ => none
  | .efuseRampDone _ _ => none
  | .efuseRampTimeout _ _ => none
  | .efusePgRise _ _ => none
  | .efuseCurveTrip _ _ _ => none
  | .efuseFastTrip _ _ => none
  | .efuseSoaTrip _ _ => none
  | .efuseRetryDecision _ => none
  | .efuseHoldEnd _ => none
  | .retryClearExpiry _ => none
  | .efuseDamageDetect _ _ _ => none
  | .profileSafePoint _ _ => none
  | .efusePgFall _ _ => none
  | .railPgFall => none
  | .railsOffMinEnd => none
  | .tcsPathSettleEnd => none
  | .vconnSourceOnEnd _ => none
  | .imageAuthenticated _ => none
  | .bootComplete _ _ => none
  | .subprocessorSafePoint _ => none
  | .thermalWarn _ => none
  | .throttleOn _ => none
  | .throttleOff _ => none
  | .resetPin => none
  | .watchdogExpiry => none
  | .fatalUnitError _ => none
  | .d2dLinkFail => none
  | .sramDoubleBitError _ _ _ => none
  | .voltageSettled _ => none
  | .schedulerEpoch => none
  | .askPhaseComplete => none
  | .askPhaseTimeout => none
  | .entryDrainEnd _ => none
  | .pmeTurnOffWaitEnd _ => none
  | .idleExitTrunksReady _ => none
  | .serviceEntryTakeEffect => none
  | .serviceExitComplete => none
  | .resetTakeEffect => none
  | .replyHandedOver _ _ => none
  | .mailboxGo _ => none
  | .relayTimeout => none
  | .relayedReplyArrival _ _ => none
  | .tid0Request _ _ => none
  | .usbsRequest _ => none
  | .usbsReplyRead => none
  | .halfOpenSessionTimeout _ => none
  | .sessionIdleTimeout _ => none
  | .passwordDerivationDone => none
  | .jobComplete _ _ => none
  | .queueIntegrityReset _ => none
  | .queueEnableRise _ => none
  | .hitlessRestartBegin _ => none
  | .hitlessRestartEnd _ _ => none
  | .positionAssignDelayEnd => none
  | .hopReplyReceived _ _ => none
  | .installPhaseTimeout _ => none
  | .tunnelDrainEnd _ => none
  | .retuneApply _ => none
  | .auditStationTimeout _ => none
  | .trunkDisableTakeEffect => none
  | .entropyHealthFail => none
  | .fwActivateTakeEffect => none
  | .trialConfirmTimeout => none
  | .tioRegisterWrite _ _ _ => none
  | .errorInjectInterval _ => none
  | .rxClockValid _ => none
  | .rxClockLost _ => none
  | .clockSourceRevert _ => none
  | .poisonHoldEnd => none
  | .clockLockAchieved _ => none
  | .bitLockAchieved _ _ _ => none
  | .trainA _ _ => none
  | .trainB _ _ _ _ => none
  | .alignOs _ _ _ _ => none
  | .steerOs _ _ _ => none
  | .hushEnter _ _ => none
  | .darkEnter _ _ => none
  | .laneOsInterval _ => none
  | .confirmWindowEnd _ _ => none
  | .trainingStateTimeout _ _ => none
  | .trainFailBackoffEnd _ => none
  | .recalPeriodDue _ => none
  | .recalAdaptDone _ _ => none
  | .laneLockLost _ _ => none
  | .laneErrorWindowEnd _ => none
  | .fastRetrainComplete _ _ => none
  | .failedLaneCleanPeriod _ _ _ => none
  | .rxFlit _ _ => none
  | .txFlitSlot _ => none
  | .linkInit _ _ => none
  | .creditMove _ _ => none
  | .creditMoveAck _ _ => none
  | .linkReset _ => none
  | .creditReport _ _ => none
  | .replayTimeout _ => none
  | .nakRearmTimeout _ => none
  | .holdTimeout _ => none
  | .creditMoveResend _ => none
  | .creditMoveTimeout _ => none
  | .linkInitTimeout _ => none
  | .hushIdleExpiry _ => none
  | .linkResetCommand _ => none
  | .assignRecord _ _ _ => none
  | .announceRecord _ _ _ => none
  | .healRecord _ _ _ => none
  | .routeChange _ _ _ => none
  | .clearRecord _ _ _ => none
  | .routeChangeApply _ => none
  | .routePauseEnd _ => none
  | .cutDebounceEnd _ => none
  | .healRepeat _ => none
  | .segmentAdmission _ => none
  | .contextSegmentStart _ _ _ => none
  | .multicastHeadReplicate _ _ => none
  | .residueAgeExpiry _ => none
  | .wredAvgUpdate => none
  | .descriptorAgeSweep => none
  | .swcShlowClr => none
  | .policerSnapshot _ => none
  | .urgStateClearTimeout _ => none
  | .urgLongExpiry _ => none
  | .pcieUpstreamReset => none
  | .pcieLinkChange _ _ _ _ _ => none
  | .vdpDownTimeout _ => none
  | .hostTlpReceived _ _ => none
  | .prefetchLineArrival _ => none
  | .prefetchLineAge _ => none
  | .prefetchWindowWrite _ _ => none
  | .completionTimeout _ => none
  | .functionLevelReset => none
  | .flrDrainEnd => none
  | .npCreditReturn _ _ => none
  | .lockedRead _ _ => none
  | .unlockMsg _ _ => none
  | .lockTimeout _ => none
  | .levelsMsg _ _ => none
  | .controlMsg _ => none
  | .sidebandRefresh => none
  | .latchEdge _ => none
  | .dspCommit _ => none
  | .pipeEnable _ => none
  | .activeLineStart _ => none
  | .fetchCompletion _ _ _ _ => none
  | .dspFillminClr _ => none
  | .proofMisClr _ _ => none
  | .dpHpdRise _ => none
  | .dpHpdFall _ => none
  | .dpIrqHpd _ _ => none
  | .dpTrainingDone _ _ _ _ => none
  | .dpoRetrain _ => none
  | .auxStart _ _ => none
  | .auxReply _ _ _ => none
  | .auxReplyTimeout _ => none
  | .usbMicroframeStart _ _ => none
  | .usbhKick _ _ => none
  | .ringEnable _ _ => none
  | .ringDisable _ => none
  | .tdControl _ _ _ => none
  | .tdBulk _ _ _ => none
  | .tdInterrupt _ _ _ => none
  | .tdNop _ _ => none
  | .epConfig _ _ => none
  | .epRelease _ _ => none
  | .epClear _ _ => none
  | .usbTransactionEnd _ _ _ _ => none
  | .usbPortReset _ => none
  | .usbPortResetEnd _ _ => none
  | .usbPortSuspend _ => none
  | .usbPortResume _ => none
  | .usbResumeEnd _ => none
  | .usbPortDisable _ => none
  | .usbConnectChange _ _ => none
  | .usbOvercurrent _ _ => none
  | .usbRingFullTimeout _ => none
  | .usbsControlRequest _ _ _ => none
  | .usbsBusReset _ => none
  | .usbsSuspend => none
  | .usbsRemoteWakeStart _ => none
  | .usbsWakeSliceEnd _ => none
  | .usbsHostResume => none
  | .usbsEp3Poll => none
  | .ethFrameReceived _ _ _ _ => none
  | .pauseTimeEnd _ => none
  | .ethTxStart _ => none
  | .gateEntryAdvance _ => none
  | .gateCommit _ => none
  | .gateChangeTime _ => none
  | .ethTsfPop _ => none
  | .ethPtpClrLost _ => none
  | .mdioStart _ => none
  | .mdioFrameDone _ => none
  | .vnicEnable _ _ => none
  | .vnicPoll _ _ => none
  | .pointEnable _ => none
  | .pointLoadGo => none
  | .pointLoadCompletion _ _ => none
  | .pointFetchStart => none
  | .pointFetchDataArrival _ _ => none
  | .pointCycleStart => none
  | .pointInputFrame _ _ => none
  | .pointWindowClose => none
  | .pointLossPassEnd => none
  | .pointCommit => none
  | .hopMsg _ _ => none
  | .hopPeriodicSend _ => none
  | .parentLossTimeout => none
  | .parentCandidateHoldEnd => none
  | .parentHoldoffEnd => none
  | .rateChangeApply => none
  | .mgenWindowEnd => none
  | .merSnap => none
  | .tioTriggerEdge _ => none
  | .perfSnap => none
  | .perfClear _ _ _ => none
  | .cmtSeedWrite _ => none
  | .cometExpiry _ => none

/-- Rows that can act while the hub die has no power: the events of the power die and the wake events, which it
observes, what a host reads there, and a register write. -/
def actsOnPowerDie : Instr → Bool
  | .powerOn _ => true
  | .powerDieStop => true
  | .railPgRise => true
  | .railPgFault _ => true
  | .hubResetRelease _ _ _ => true
  | .intakeWindowLeave _ _ => true
  | .intakeWindowEnter _ => true
  | .tcsVbusLoss => true
  | .xtalStop => true
  | .wakeSourceFire _ _ => true
  | .standbyAlarmExpiry => true
  | .thermalShutdown => true
  | .thermalPoll _ => true
  | .mgmtRequest _ _ => true
  | .mgmtReplyRead _ => true
  | .mgmtStatusRead => true
  | .passwordLockoutEnd => true
  | .registerWrite _ _ => true
  | .tamperAssert => true
  | .tamperRelease => true
  | .laneStateExitDone _ _ => true
  | .deviceTlpReceived _ _ _ => true
  | .usbDeviceRemoteWake _ => true
  | .usbsVbusChange _ _ => true
  | .ethLinkChange _ _ _ _ _ _ => true
  | .tioCaptureEdge _ _ _ _ => true
  | .typecRdDetect _ _ _ => true
  | .typecAttach _ => true
  | .typecDetach _ => true
  | .vbusDischarged _ => true
  | .pdRequest _ _ _ => true
  | .hardResetReceived _ => true
  | .softReset _ => true
  | .roleSwapRequest _ _ => true
  | .vconnSwapRequest _ => true
  | .partnerPsRdy _ => true
  | .cableDiscoverIdentity _ _ => true
  | .srcTransitionEnd _ => true
  | .powerGoodTimeout _ => true
  | .hardResetRecover _ => true
  | .vconnOvercurrent _ => true
  | .tcsSourceCapabilities _ _ => true
  | .efuseRequestChange _ _ => true
  | .efuseInputWindowChange _ _ => true
  | .efusePresenceChange _ _ => true
  | .efuseInsertDelayEnd _ => true
  | .efusePrecheckEnd _ _ => true
  | .efuseRampDone _ _ => true
  | .efuseRampTimeout _ _ => true
  | .efusePgRise _ _ => true
  | .efuseCurveTrip _ _ _ => true
  | .efuseFastTrip _ _ => true
  | .efuseSoaTrip _ _ => true
  | .efuseRetryDecision _ => true
  | .efuseHoldEnd _ => true
  | .retryClearExpiry _ => true
  | .efuseDamageDetect _ _ _ => true
  | .profileSafePoint _ _ => true
  | .efusePgFall _ _ => true
  | .railPgFall => true
  | .railsOffMinEnd => true
  | .tcsPathSettleEnd => true
  | .vconnSourceOnEnd _ => true
  | .nop _ => false
  | .identify _ => false
  | .modeSet _ => false
  | .unitMapOut _ => false
  | .unitMapIn _ => false
  | .selftest _ => false
  | .reset _ => false
  | .jobStatus _ => false
  | .positionSetAssign _ => false
  | .positionSetClear _ => false
  | .queueConfig _ => false
  | .queueRead _ => false
  | .queueMark _ => false
  | .queueRewind _ => false
  | .queueRelease _ => false
  | .openSession _ => false
  | .sessionProve _ => false
  | .openSessionPw _ => false
  | .closeSession _ => false
  | .sessionList _ => false
  | .regRead _ => false
  | .regWrite _ => false
  | .regModify _ => false
  | .regPoll _ => false
  | .tunnelCreate _ => false
  | .hopInstall _ => false
  | .tunnelDestroy _ => false
  | .tunnelClose _ => false
  | .tunnelRetune _ => false
  | .retunePrepare _ => false
  | .retuneCancel _ => false
  | .tunnelQuery _ => false
  | .routeSetLine _ => false
  | .routeSetCut _ => false
  | .routeSetRestore _ => false
  | .audit _ => false
  | .trunkEnable _ => false
  | .trunkDisable _ => false
  | .keyLoad _ => false
  | .keyClear _ => false
  | .keyInfo _ => false
  | .attest _ => false
  | .lcAdvance _ => false
  | .cryptoHmac _ => false
  | .cryptoSeal _ => false
  | .cryptoOpen _ => false
  | .otpProgramKey _ => false
  | .otpProgramPassword _ => false
  | .otpProgramRetire _ => false
  | .fwBegin _ => false
  | .fwWriteBlock _ => false
  | .fwVerify _ => false
  | .fwActivate _ => false
  | .fwStatus _ => false
  | .fwConfirm _ => false
  | .settingsRead _ => false
  | .settingsWrite _ => false
  | .timeGet _ => false
  | .timeSetOffset _ => false
  | .timeSetRate _ => false
  | .timeMasterSet _ => false
  | .tioConfig _ => false
  | .tioArm _ => false
  | .opSet _ => false
  | .pwrStatus _ => false
  | .wakeConfig _ => false
  | .efuseControlOff _ => false
  | .efuseControlOn _ => false
  | .efuseControlClear _ => false
  | .efuseControlStatus _ => false
  | .efuseControlTest _ => false
  | .efuseCurveLoad _ => false
  | .pdTableLoad _ => false
  | .pdPortControlDisable _ => false
  | .pdPortControlEnable _ => false
  | .pdPortControlReoffer _ => false
  | .pdPortControlHardReset _ => false
  | .pdPortControlStatus _ => false
  | .diagServiceEnter _ => false
  | .diagServiceExit _ => false
  | .patternConfig _ => false
  | .loopbackSet _ => false
  | .errorInject _ => false
  | .cometConfig _ => false
  | .sampleConfig _ => false
  | .imageAuthenticated _ => false
  | .bootComplete _ _ => false
  | .subprocessorSafePoint _ => false
  | .thermalWarn _ => false
  | .throttleOn _ => false
  | .throttleOff _ => false
  | .resetPin => false
  | .watchdogExpiry => false
  | .fatalUnitError _ => false
  | .d2dLinkFail => false
  | .sramDoubleBitError _ _ _ => false
  | .voltageSettled _ => false
  | .schedulerEpoch => false
  | .askPhaseComplete => false
  | .askPhaseTimeout => false
  | .entryDrainEnd _ => false
  | .pmeTurnOffWaitEnd _ => false
  | .idleExitTrunksReady _ => false
  | .serviceEntryTakeEffect => false
  | .serviceExitComplete => false
  | .resetTakeEffect => false
  | .replyHandedOver _ _ => false
  | .mailboxGo _ => false
  | .relayTimeout => false
  | .relayedReplyArrival _ _ => false
  | .tid0Request _ _ => false
  | .usbsRequest _ => false
  | .usbsReplyRead => false
  | .halfOpenSessionTimeout _ => false
  | .sessionIdleTimeout _ => false
  | .passwordDerivationDone => false
  | .jobComplete _ _ => false
  | .queueIntegrityReset _ => false
  | .queueEnableRise _ => false
  | .hitlessRestartBegin _ => false
  | .hitlessRestartEnd _ _ => false
  | .positionAssignDelayEnd => false
  | .hopReplyReceived _ _ => false
  | .installPhaseTimeout _ => false
  | .tunnelDrainEnd _ => false
  | .retuneApply _ => false
  | .auditStationTimeout _ => false
  | .trunkDisableTakeEffect => false
  | .entropyHealthFail => false
  | .fwActivateTakeEffect => false
  | .trialConfirmTimeout => false
  | .tioRegisterWrite _ _ _ => false
  | .errorInjectInterval _ => false
  | .rxClockValid _ => false
  | .rxClockLost _ => false
  | .clockSourceRevert _ => false
  | .poisonHoldEnd => false
  | .clockLockAchieved _ => false
  | .bitLockAchieved _ _ _ => false
  | .trainA _ _ => false
  | .trainB _ _ _ _ => false
  | .alignOs _ _ _ _ => false
  | .steerOs _ _ _ => false
  | .hushEnter _ _ => false
  | .darkEnter _ _ => false
  | .laneOsInterval _ => false
  | .confirmWindowEnd _ _ => false
  | .trainingStateTimeout _ _ => false
  | .trainFailBackoffEnd _ => false
  | .recalPeriodDue _ => false
  | .recalAdaptDone _ _ => false
  | .laneLockLost _ _ => false
  | .laneErrorWindowEnd _ => false
  | .fastRetrainComplete _ _ => false
  | .failedLaneCleanPeriod _ _ _ => false
  | .rxFlit _ _ => false
  | .txFlitSlot _ => false
  | .linkInit _ _ => false
  | .creditMove _ _ => false
  | .creditMoveAck _ _ => false
  | .linkReset _ => false
  | .creditReport _ _ => false
  | .replayTimeout _ => false
  | .nakRearmTimeout _ => false
  | .holdTimeout _ => false
  | .creditMoveResend _ => false
  | .creditMoveTimeout _ => false
  | .linkInitTimeout _ => false
  | .hushIdleExpiry _ => false
  | .linkResetCommand _ => false
  | .assignRecord _ _ _ => false
  | .announceRecord _ _ _ => false
  | .healRecord _ _ _ => false
  | .routeChange _ _ _ => false
  | .clearRecord _ _ _ => false
  | .routeChangeApply _ => false
  | .routePauseEnd _ => false
  | .cutDebounceEnd _ => false
  | .healRepeat _ => false
  | .segmentAdmission _ => false
  | .contextSegmentStart _ _ _ => false
  | .multicastHeadReplicate _ _ => false
  | .residueAgeExpiry _ => false
  | .wredAvgUpdate => false
  | .descriptorAgeSweep => false
  | .swcShlowClr => false
  | .policerSnapshot _ => false
  | .urgStateClearTimeout _ => false
  | .urgLongExpiry _ => false
  | .pcieUpstreamReset => false
  | .pcieLinkChange _ _ _ _ _ => false
  | .vdpDownTimeout _ => false
  | .hostTlpReceived _ _ => false
  | .prefetchLineArrival _ => false
  | .prefetchLineAge _ => false
  | .prefetchWindowWrite _ _ => false
  | .completionTimeout _ => false
  | .functionLevelReset => false
  | .flrDrainEnd => false
  | .npCreditReturn _ _ => false
  | .lockedRead _ _ => false
  | .unlockMsg _ _ => false
  | .lockTimeout _ => false
  | .levelsMsg _ _ => false
  | .controlMsg _ => false
  | .sidebandRefresh => false
  | .latchEdge _ => false
  | .dspCommit _ => false
  | .pipeEnable _ => false
  | .activeLineStart _ => false
  | .fetchCompletion _ _ _ _ => false
  | .dspFillminClr _ => false
  | .proofMisClr _ _ => false
  | .dpHpdRise _ => false
  | .dpHpdFall _ => false
  | .dpIrqHpd _ _ => false
  | .dpTrainingDone _ _ _ _ => false
  | .dpoRetrain _ => false
  | .auxStart _ _ => false
  | .auxReply _ _ _ => false
  | .auxReplyTimeout _ => false
  | .usbMicroframeStart _ _ => false
  | .usbhKick _ _ => false
  | .ringEnable _ _ => false
  | .ringDisable _ => false
  | .tdControl _ _ _ => false
  | .tdBulk _ _ _ => false
  | .tdInterrupt _ _ _ => false
  | .tdNop _ _ => false
  | .epConfig _ _ => false
  | .epRelease _ _ => false
  | .epClear _ _ => false
  | .usbTransactionEnd _ _ _ _ => false
  | .usbPortReset _ => false
  | .usbPortResetEnd _ _ => false
  | .usbPortSuspend _ => false
  | .usbPortResume _ => false
  | .usbResumeEnd _ => false
  | .usbPortDisable _ => false
  | .usbConnectChange _ _ => false
  | .usbOvercurrent _ _ => false
  | .usbRingFullTimeout _ => false
  | .usbsControlRequest _ _ _ => false
  | .usbsBusReset _ => false
  | .usbsSuspend => false
  | .usbsRemoteWakeStart _ => false
  | .usbsWakeSliceEnd _ => false
  | .usbsHostResume => false
  | .usbsEp3Poll => false
  | .ethFrameReceived _ _ _ _ => false
  | .pauseTimeEnd _ => false
  | .ethTxStart _ => false
  | .gateEntryAdvance _ => false
  | .gateCommit _ => false
  | .gateChangeTime _ => false
  | .ethTsfPop _ => false
  | .ethPtpClrLost _ => false
  | .mdioStart _ => false
  | .mdioFrameDone _ => false
  | .vnicEnable _ _ => false
  | .vnicPoll _ _ => false
  | .pointEnable _ => false
  | .pointLoadGo => false
  | .pointLoadCompletion _ _ => false
  | .pointFetchStart => false
  | .pointFetchDataArrival _ _ => false
  | .pointCycleStart => false
  | .pointInputFrame _ _ => false
  | .pointWindowClose => false
  | .pointLossPassEnd => false
  | .pointCommit => false
  | .hopMsg _ _ => false
  | .hopPeriodicSend _ => false
  | .parentLossTimeout => false
  | .parentCandidateHoldEnd => false
  | .parentHoldoffEnd => false
  | .rateChangeApply => false
  | .mgenWindowEnd => false
  | .merSnap => false
  | .tioTriggerEdge _ => false
  | .perfSnap => false
  | .perfClear _ _ _ => false
  | .cmtSeedWrite _ => false
  | .cometExpiry _ => false

/-- Damya without any power: what OTP, flash, the straps' balls and the outside hold, and nothing else (R653). -/
def State.unpowered (s : State) : State :=
  { pending := s.pending, out := s.out, fresh := s.fresh, pins := s.pins, nv := s.nv, nib := { on := false } }

/-- Damya is without power, holds nothing volatile, and no POWER_ON waits. -/
abbrev State.dead (s : State) : Prop := s = s.unpowered ∧ ∀ tcs, Instr.powerOn tcs ∉ s.pending

/-! Queues -/

/-- The order of the indices of R83 and R85: F, M, C and W in this order and within the capacity, with both copies
equal (R87); in DMA mode C and M are not in use. -/
abbrev queueSound (cap : Nat) (x : Queue) : Prop :=
  x.agrees = true ∧ x.w < 65536 ∧ x.f < 65536 ∧ x.c < 65536 ∧ x.m < 65536 ∧ x.dist x.w ≤ cap ∧
    (x.dma = false → x.dist x.m ≤ x.dist x.c ∧ x.dist x.c ≤ x.dist x.w)

/-- Every queue is sound. -/
abbrev State.queuesSound (s : State) : Prop := ∀ q, q < 4 → queueSound (queueCap q) (s.queue q)

/-! Policers and retry counts -/

/-- The books of R264: 0 ≤ TOKENS ≤ BURST, and TOKENS = ADDED_CUM − SPENT_CUM − CLIPPED_CUM modulo 2^32. -/
abbrev policerBalanced (b : PolicerBucket) : Prop :=
  b.tokens ≤ b.size ∧ (b.tokens + b.spent + b.clipped) % 2 ^ 32 = b.added % 2 ^ 32

/-- Both buckets of every policer are in balance. -/
def State.policersBalanced (s : State) : Prop :=
  ∀ tid d p, s.policer tid d = some p → policerBalanced p.c ∧ policerBalanced p.p

/-- The books of R513 for channel n: USED + LEFT = LIMIT, or one more while a decision is pending. -/
abbrev State.retryBooks (s : State) (n : Nat) : Prop :=
  s.rd (Reg.EFU_CH_RETRY_USED n) + s.rd (Reg.EFU_CH_RETRY_LEFT n) = s.rd (Reg.EFU_CH_RETRY_LIMIT n) ∨
  ((s.fuse n).deciding = true ∧
    s.rd (Reg.EFU_CH_RETRY_USED n) + s.rd (Reg.EFU_CH_RETRY_LEFT n) = s.rd (Reg.EFU_CH_RETRY_LIMIT n) + 1)

end Sys2Proof.Machine
end

