-- ==== Sys2Proof/Certificates/Slice0/Obligations.lean ====
section
/-!
DEFINITION. The statements for the provers.
-/

section

open Sys2Proof Sys2Proof.Machine

/-- With the hypotheses named, POWER_ON, POWER_DIE_STOP, RAIL_PG_RISE (before the last rail and at it), RAIL_PG_FAULT,
RAIL_PG_FALL (before the last rail and at it), RAILS_OFF_MIN_END, TCS_PATH_SETTLE_END and XTAL_STOP answer exactly the
next state written; whatever that state does not name is unchanged. -/
def Obligations.PowerDieAndRailEvents : Prop :=
  (∀ (s : State) (tcs : Bool), s.nib.on = false →
    ∃ t, exec (.powerOn tcs) s = .next t ∧ t =
      { pending := s.pending, out := s.out, fresh := s.fresh, pins := s.pins, nv := s.nv,
        nib := { tamperLatch := !s.pins.tamperN }, regs := t.regs } ∧ t.flag Reg.TCPD_TCS_STAT_DEAD_BATT = tcs ∧ ∀ a,
      a ≠ Reg.TCPD_TCS_STAT_DEAD_BATT.addr → t.reg a = regReset a) ∧
  (∀ (s : State), s.nib.on = true →
    exec .powerDieStop s = .next
      { pending := s.pending, out := s.out, fresh := s.fresh, pins := s.pins,
        nv := s.cmd.jobs.foldl (fun n j => cutJob n j.kind) s.nv, nib := { on := false } }) ∧
  (∀ (s : State), s.nib.on = true → s.nib.stage = .rising → s.nib.rails < 6 →
    exec .railPgRise s = .next ((((s.wr Reg.PWR_STAT_RAIL_PG (setBit (s.rd Reg.PWR_STAT_RAIL_PG) (s.nib.rails -
      1)))).withNib fun n => { n with rails := n.rails + 1 }).emit (.power "rail on" [s.nib.rails - 1 + 1]))) ∧
  (∀ (s : State), s.nib.on = true → s.nib.stage = .rising → 6 ≤ s.nib.rails →
    exec .railPgRise s = .next ((s.wr Reg.PWR_STAT_RAIL_PG (setBit (s.rd Reg.PWR_STAT_RAIL_PG) (s.nib.rails -
      1))).withNib fun n => { n with stage := .held })) ∧
  (∀ (s : State) (rail : Fin 6), s.hubOn = true →
    exec (.railPgFault rail) s = .next ((((((((s.count 0x2C8).abortEntry 0xFE).put Reg.PWR_STAT_RAIL_FAULT true).wr
      Reg.PWR_STAT_RAIL rail).recordCause 0x0B).withNib fun n =>
      { n with railNotice := true, standbyCmd := false })).railsDown .faulted)) ∧
  (∀ (s : State), s.nib.on = true → s.nib.stage = .falling → s.nib.rails ≠ 0 →
    exec .railPgFall s = .next (((s.wr Reg.PWR_STAT_RAIL_PG (clearBit (s.rd Reg.PWR_STAT_RAIL_PG)
      s.nib.rails)).withNib fun n => { n with rails := s.nib.rails - 1 }).emit (.power "rail off" [s.nib.rails - 1]))) ∧
  (∀ (s y : State), s.nib.on = true → s.nib.stage = .falling → s.nib.rails = 0 → s.nib.after = .powerCycle → (y =
    ((s.wr Reg.PWR_STAT_RAIL_PG (clearBit (s.rd Reg.PWR_STAT_RAIL_PG) 0)).withNib fun n =>
    { n with stage := .off, offMin := true }).wr Reg.PWR_STAT_SEQ 0) → y.intakeOk = true ∨ s.nib.onTcs = true →
    exec .railPgFall s = .next (y.withNib fun n => { n with upDue := true })) ∧
  (∀ (s : State), s.nib.on = true → s.nib.stage = .off → s.nib.upDue = true →
    exec .railsOffMinEnd s = .next ((s.withNib fun n => { n with offMin := false, upDue := false }).startUp)) ∧
  (∀ (s : State), s.nib.on = true → s.nib.stage = .off → s.nib.pathSettling = true →
    exec .tcsPathSettleEnd s = .next (((s.withNib fun n =>
      { n with pathSettling := false, stage := .rising, rails := 1, startDue := false, upDue := false }).wr
      Reg.PWR_STAT_SEQ 1).emit (.power "rail on" [0]))) ∧
  (∀ (s : State), s.nib.on = true →
    exec .xtalStop s = .next ((s.put Reg.PWR_STAT_XTAL_OK false).withNib fun n => { n with xtalNotice := true }))

/-- With the hypotheses named, HUB_RESET_RELEASE (FORCE_REC strapped), IMAGE_AUTHENTICATED (good and not), BOOT_COMPLETE
(a failed section, and good), RESET_PIN, WATCHDOG_EXPIRY (first and second), FATAL_UNIT_ERROR, D2D_LINK_FAIL,
SRAM_DOUBLE_BIT_ERROR (corrected, and uncorrectable outside Scribe's memory) and RESET_TAKE_EFFECT (both TYPEs) answer
exactly the next state written. -/
def Obligations.StartAndResetEvents : Prop :=
  (∀ (s : State) (role forceRec mgmtMode : BitVec 7), s.nib.on = true → s.nib.stage = .held → majority forceRec = true
    →
    exec (.hubResetRelease role forceRec mgmtMode) s = .next
        (((((((((({ s with pins := { s.pins with mgmtI2c := majority mgmtMode } }.put Reg.SYS_MODE_ROLE (majority role)).put
          Reg.SYS_MODE_FORCE_REC true).put Reg.SYS_MODE_INTAKE_OK s.intakeOk).withNib fun n => { n with stage := .rom }).wr
          Reg.PWR_STAT_SEQ 2).loadOtp).poolReset).laneRole).pcieRole).usbsAttach.enterRecovery 1)) ∧
  (∀ (s : State), s.hubOn = true → s.nib.stage = .rom → (s.imagePlain s.fw.slot).isSome = true →
    ∃ b, s.imagePlain s.fw.slot = some b ∧ exec (.imageAuthenticated true) s = .next (((s.runImage s.fw.slot
      s.fw.trial b).withNib fun n => { n with stage := .scribe }).readSettings)) ∧
  (∀ (s : State), s.hubOn = true → s.nib.stage = .rom →
    exec (.imageAuthenticated false) s = .next (s.hubReset 0x07 0x01)) ∧
  (∀ (s : State) (failed : List Nat), s.hubOn = true → s.nib.stage = .scribe →
    exec (.bootComplete false failed) s = .next (s.hubReset 0x07 0x01)) ∧
  (∀ (s : State), s.hubOn = true → exec .resetPin s = .next (s.hubReset 0x05)) ∧
  (∀ (s : State), s.hubOn = true → s.serving = true → s.mode ≠ 0 → s.nib.watchdogAt = none →
    exec .watchdogExpiry s = .next (((s.withNib fun n => { n with watchdogAt := some s.mer.raw }).bump
      Reg.PWR_WDOG_HITLESS).beginRestart 1 s.fw.slot)) ∧
  (∀ (s : State) (t : Nat), s.hubOn = true → s.nib.watchdogAt = some t → s.mer.raw ≤ t + 10 * rawSecond →
    exec .watchdogExpiry s = .next (s.hubReset 0x06)) ∧
  (∀ (s : State) (u : Fin 9), s.hubOn = true → u ≠ 0 → exec (.fatalUnitError u) s = .next (s.hubReset 0x07 u)) ∧
  (∀ (s : State), s.hubOn = true → exec .d2dLinkFail s = .next (s.hubReset 0x08)) ∧
  (∀ (s : State) (m : Fin 8) (k : Nat), s.hubOn = true →
    exec (.sramDoubleBitError m false k) s = .next (s.count (0x010 + m))) ∧
  (∀ (s : State) (m : Fin 8) (k : Nat), s.hubOn = true → m ≠ 5 →
    exec (.sramDoubleBitError m true k) s = .next (((s.count (0x018 + m)).discardItem m k).notice 0x0301 (le 2
      (sramBlock m)))) ∧
  (∀ (s : State) (v : Transport) (l : List Waiting), s.hubOn = true → s.cmd.waiting =
    { via := v, act := .reset 0, handed := true } :: l →
    exec .resetTakeEffect s = .next ((s.withCmd fun c => { c with waiting := l }).hubReset 0x03)) ∧
  (∀ (s : State) (v : Transport) (l : List Waiting), s.hubOn = true → s.cmd.waiting =
    { via := v, act := .reset 1, handed := true } :: l →
    exec .resetTakeEffect s = .next ((((((s.withCmd fun c => { c with waiting := l }).abortEntry 0xFE).recordCause
      0x04).channelRequestOff 2).channelRequestOff 3).railsDown .powerCycle)) ∧
  (∀ (s : State) (failed : List Nat), s.hubOn = true → s.nib.stage = .scribe →
    let vr := (s.withNib fun n => { n with stage := .up }).setting 0x0009
      let a := ((((s.withNib fun n => { n with stage := .up }).wr Reg.CLK_OP_TARGET
        ((s.withNib fun n => { n with stage := .up }).setting 0x0008)).wr Reg.CLK_VR_IF (vr % 256)).wr
        Reg.CLK_VR_PMBUS_ADDR (vr / 256))
      let b := ((a.wr Reg.TUN_CTRL_LINE_AUTO (a.setting 0x0003)).timeMasterBoot).baseTunnels
      let c := (b.free 32).2.withPerf fun p => { p with lfsr := orOne (b.free 32).1 }
      let d := c.pdLoadSaved ((c.settingRecord 0x0010).getD (zeros 80))
      let e := (List.range 8).foldl (fun (s : State) n => match s.settingRecord (0x0020 + n) with
        | some p => s.loadProfile n p
        | none => s) d
      let f := (e.tcFollowAll).fusesFollow
      let g := (failed.filter fun u => (unitBit f.isRoot u).isSome).foldl State.mapOut f
      let h := [0, 1].foldl (fun (s : State) t => if s.trunkAuto t then s.trunkStart t else s) g
      let k := (h.startNotices 2).wakeNotice
      exec (.bootComplete true failed) s = .next (if k.setting 0x0001 == 1 then (k.startRun 4).opSettled else k))

/-- With the hypotheses named, INTAKE_WINDOW_LEAVE (hub powered from the intake), INTAKE_WINDOW_ENTER (INTAKE enabled as a
wake), TCS_VBUS_LOSS, WAKE_SOURCE_FIRE (release of WAKE_N, and a source in STANDBY), STANDBY_ALARM_EXPIRY,
THERMAL_WARN, THROTTLE_ON, THROTTLE_OFF, THERMAL_SHUTDOWN and THERMAL_POLL answer exactly the next state written. -/
def Obligations.IntakeWakeAndThermalEvents : Prop :=
  (∀ (s w a b : State) (vin : Nat) (reason : Fin 3), s.nib.on = true → s.intakeOk = true → s.nib.stage ≠ .off →
    s.nib.stage ≠ .falling → s.nib.onTcs = false → w = (s.intakeWindow false vin reason).put Reg.SYS_MODE_INTAKE_OK
    false → (a = if w.tcsLevel then w.tcsSource true else w) → (b = ((a.abortEntry 0xFF).recordCause 0x0A).withNib fun
    n => { n with standbyCmd := false }) →
    exec (.intakeWindowLeave vin reason) s = .next (if b.tcsLevel then b.railsDown .recoveryOnTcs else b.railsDown
      .standby)) ∧
  (∀ (s a : State) (vin : Nat), s.nib.on = true → s.intakeOk = false → a = ((s.intakeWindow true vin 0).put
    Reg.SYS_MODE_INTAKE_OK s.hubOn).tcsSource false → a.nib.onTcs = false → a.nib.stage = .off → a.nib.startDue =
    false → a.nib.upDue = false → a.nib.thermalHold = false → a.wakeEnabled 1 3 = true →
    exec (.intakeWindowEnter vin) s = .next (a.wakeStandby 3 false)) ∧
  (∀ (s : State), s.nib.on = true → s.intakeOk = false →
    exec .tcsVbusLoss s = .next (((((s.wr Reg.TCPD_TCS_STAT_STATE 0).wr Reg.TCPD_TCS_STAT_CONTRACT_MW 0).wr
      Reg.TCPD_TCS_STAT_RP_SEEN 3).wr Reg.TCPD_TCS_STAT_PDO 0).tcsLost)) ∧
  (∀ (s : State), s.nib.on = true →
    exec (.wakeSourceFire 1 false) s = .next { s with pins := { s.pins with wakeN := true } }) ∧
  (∀ (s : State) (b : Fin 14), s.nib.on = true → 2 ≤ b → s.nib.stage = .off → s.intakeOk = true → s.wakeEnabled 1 b =
    true → s.nib.thermalHold = false → s.nib.upDue = false → s.nib.startDue = false →
    exec (.wakeSourceFire b true) s = .next (s.wakeStandby b false)) ∧
  (∀ (s : State), s.nib.on = true → s.nib.stage = .off → s.rd Reg.PWR_ALARM_SECONDS ≠ 0 → s.intakeOk = true →
    s.wakeEnabled 1 2 = true → s.nib.thermalHold = false → s.nib.upDue = false → s.nib.startDue = false →
    exec .standbyAlarmExpiry s = .next (s.wakeStandby 2 false)) ∧
  (∀ (s a : State) (tj : BitVec 8), s.hubOn = true → a = s.tempRead tj → tj.toInt > a.warnLevel → a.nib.warnArmed =
    true →
    exec (.thermalWarn tj) s = .next ((a.withNib fun n => { n with warnArmed := false }).notice 0x0804 [0, tj])) ∧
  (∀ (s a : State) (tj : BitVec 8), s.hubOn = true → a = s.tempRead tj → 125 ≤ tj.toInt → a.flag
    Reg.CLK_TEMP_THROTTLE_EN = true → a.flag Reg.CLK_OP_THROTTLE = false →
    exec (.throttleOn tj) s = .next (((((a.put Reg.CLK_OP_THROTTLE true).count 0x2CA).notice 0x0804 [1, tj]).opChange
      2).opSettled)) ∧
  (∀ (s a : State) (tj : BitVec 8), s.hubOn = true → a = s.tempRead tj → tj.toInt < 120 → a.flag Reg.CLK_OP_THROTTLE =
    true →
    exec (.throttleOff tj) s = .next ((((a.put Reg.CLK_OP_THROTTLE false).notice 0x0804 [2, tj]).opChange
      3).opSettled)) ∧
  (∀ (s : State), s.nib.on = true → s.nib.stage ≠ .off → s.nib.stage ≠ .falling →
    exec .thermalShutdown s = .next ((((s.abortEntry 0xFE).recordCause 0x09).withNib fun n =>
      { n with thermalHold := true, standbyCmd := false }).railsDown .standby)) ∧
  (∀ (s : State) (tj : BitVec 8), s.nib.on = true → s.nib.stage = .off → s.nib.thermalHold = true → tj.toInt < 105 →
    exec (.thermalPoll tj) s = .next ((s.withNib fun n => { n with thermalHold := false }).servePending))

/-- With the hypotheses named, VOLTAGE_SETTLED, SCHEDULER_EPOCH, ASK_PHASE_COMPLETE, ASK_PHASE_TIMEOUT, ENTRY_DRAIN_END,
PME_TURN_OFF_WAIT_END, IDLE_EXIT_TRUNKS_READY, SERVICE_ENTRY_TAKE_EFFECT and SERVICE_EXIT_COMPLETE answer exactly the
next state written. -/
def Obligations.ModeSequencerEvents : Prop :=
  (∀ (s : State) (k : Bool), s.hubOn = true → s.rd Reg.CLK_OP_STEP = 1 → s.flag Reg.CLK_VR_IF = true →
    exec (.voltageSettled k) s = .next ((s.withNib fun n => { n with volt := n.vCmd }).opAdvance.opSettled)) ∧
  (∀ (s : State), s.hubOn = true →
    exec .schedulerEpoch s = .next
        ((((((((s.incr Reg.SCH_EPOCH_EPOCHS).opEpoch).xcfgEpoch.ratesEpoch.selectEpoch).limitEpoch.minEpoch).allotEpoch
          0).allotEpoch 1).sampleDepth))) ∧
  (∀ (s : State) (m : Mode), s.hubOn = true → s.nib.seq = .ask m → s.notReady m.code = [] →
    exec .askPhaseComplete s = .next (s.enterPhase m.code)) ∧
  (∀ (s : State) (m : Mode) (u : Nat) (l : List Nat), s.hubOn = true → s.nib.seq = .ask m → s.notReady m.code = u :: l
    →
    exec .askPhaseTimeout s = .next
        (let a := ((((s.withNib fun n => { n with seq := .none, heldWake := none }).wr Reg.PWR_WAKE_STAT_PENDING 0).wr
          Reg.SYS_MODE_TARGET ((s.withNib fun n => { n with seq := .none, heldWake := none }).wr Reg.PWR_WAKE_STAT_PENDING 0).mode).put
          Reg.SYS_MODE_TRANS false).recordRefusal 0 m.code u
        a.notice 0x0801 a.refusalDetail)) ∧
  (∀ (s a : State) (m : Mode), s.hubOn = true → s.nib.seq = .drain m → s.outputsEmpty = true → (a = [0, 1].foldl (fun
    (s : State) t => if s.flag (Reg.TLK_CTRL_ENABLED t) then s.trunkEnterDark t else s) s) → a.pmePorts = 0 →
    exec (.entryDrainEnd false) s = .next (a.portsSuspend.finishEntry m)) ∧
  (∀ (s : State) (m : Mode) (k : Nat) (port : Fin 2), s.hubOn = true → s.nib.seq = .pmeWait m k → bit k port = true →
    clearBit k port = 0 →
    exec (.pmeTurnOffWaitEnd port) s = .next ((s.pcieToL2 port).finishEntry m)) ∧
  (∀ (s : State) (c : Nat), s.hubOn = true → s.nib.seq = .trunks c → s.trunkLow 0 = false → s.trunkLow 1 = false →
    s.flag Reg.SYS_MODE_DEGR = false →
    exec (.idleExitTrunksReady false) s = .next ((((s.withNib fun n => { n with seq := .none }).setMode 3).modeChanged
      2 3 c).wakeNotice.portsResume)) ∧
  (∀ (s a : State) (v : Transport) (l : List Waiting) (trk efu tcp units : Nat), s.hubOn = true → s.cmd.waiting =
    { via := v, act := .serviceEnter trk efu tcp units, handed := true } :: l → (a = s.withCmd fun c =>
    { c with waiting := l }) →
    exec .serviceEntryTakeEffect s = .next
        ((((((([0, 1].filter fun t => bit trk t).map (0x10 + ·)) ++ serviceUnits units ++
          (([0, 1, 2, 3].filter fun t => bit tcp t).map (0x60 + ·)) ++
          (([1, 2, 3, 4, 5, 6, 7].filter fun t => bit efu t).map (0x70 + ·))).foldl State.enterTest a).withNib fun n =>
          { n with seq := .none }).setMode 5).modeChanged a.mode 5 0)) ∧
  (∀ (s : State), s.hubOn = true → s.nib.seq = .serviceExit → s.flag Reg.SYS_MODE_DEGR = true →
    exec .serviceExitComplete s = .next (((s.withNib fun n => { n with seq := .none }).setMode 4).modeChanged 5 4 0))

/-- For every packet that passes every check of R50 before the opcode's own (State.passes) and whose parameters and mode
are those the row names, MODE_SET (to RUN from IDLE, to STANDBY, and to IDLE from another mode), UNIT_MAP_OUT (of a
unit in service, and of one that is mapped out), UNIT_MAP_IN, SELFTEST, RESET (both targets), OP_SET (answered at once
where no step is under way, and later where one is), PWR_STATUS, WAKE_CONFIG, DIAG_SERVICE_ENTER (every set of trunks,
channels, ports and units) and DIAG_SERVICE_EXIT complete: each answers exactly the next state written, which holds
the row's effect, with status OK and the reply parameters written, or for OP_SET the request that waits. -/
def Obligations.ModeAndPowerCommands : Prop :=
  (∀ (s u : State) (r : Request), s.passes 0x0102 r = true → u = s.begun 0x0102 r → 4 ≤ r.pkt.params.length → leAt
    r.pkt.params 0 1 = 3 → u.flag Reg.SYS_MODE_TRANS = false → u.mode = 2 →
    exec (.modeSet r) s = .next (((u.startRun 0).opSettled).answered u 0x0102 r 0 [])) ∧
  (∀ (s u : State) (r : Request), s.passes 0x0102 r = true → u = s.begun 0x0102 r → 4 ≤ r.pkt.params.length → leAt
    r.pkt.params 0 1 = 1 → u.flag Reg.SYS_MODE_TRANS = false →
    exec (.modeSet r) s = .next ((u.startAsk 1).answered u 0x0102 r 0 [])) ∧
  (∀ (s u : State) (r : Request), s.passes 0x0102 r = true → u = s.begun 0x0102 r → 4 ≤ r.pkt.params.length → leAt
    r.pkt.params 0 1 = 2 → u.flag Reg.SYS_MODE_TRANS = false → u.mode ≠ 2 →
    exec (.modeSet r) s = .next ((u.startAsk 2).answered u 0x0102 r 0 [])) ∧
  (∀ (s u : State) (r : Request), s.passes 0x0103 r = true → u = s.begun 0x0103 r → 4 ≤ r.pkt.params.length → (unitBit
    u.isRoot (leAt r.pkt.params 0 1)).isSome = true → leAt r.pkt.params 0 1 ∉ u.nib.mappedOut →
    exec (.unitMapOut r) s = .next (((u.mapOut (leAt r.pkt.params 0 1)).unitStops (leAt r.pkt.params 0 1)).answered u
      0x0103 r 0 [])) ∧
  (∀ (s u : State) (r : Request), s.passes 0x0103 r = true → u = s.begun 0x0103 r → 4 ≤ r.pkt.params.length → (unitBit
    u.isRoot (leAt r.pkt.params 0 1)).isSome = true → leAt r.pkt.params 0 1 ∈ u.nib.mappedOut →
    exec (.unitMapOut r) s = .next (u.answered u 0x0103 r 0 [])) ∧
  (∀ (s u : State) (r : Request), s.passes 0x0104 r = true → u = s.begun 0x0104 r → 4 ≤ r.pkt.params.length → (unitBit
    u.isRoot (leAt r.pkt.params 0 1)).isSome = true → leAt r.pkt.params 0 1 ∈ u.nib.mappedOut → u.cmd.jobs.length < 2
    →
    exec (.unitMapIn r) s = .next ((u.withCmd fun c =>
      { c with jobs := c.jobs ++ [{ num := c.lastJob % 255 + 1, opcode := 0x0104, kind := .mapIn (leAt r.pkt.params 0 1) }],
               lastJob := c.lastJob % 255 + 1 }).answered u 0x0104 r 1 [byte (u.cmd.lastJob % 255 + 1), 0, 0, 0])) ∧
  (∀ (s u : State) (r : Request), s.passes 0x0905 r = true → u = s.begun 0x0905 r → 4 ≤ r.pkt.params.length → (unitBit
    u.isRoot (leAt r.pkt.params 0 1)).isSome = true → u.unitOut (leAt r.pkt.params 0 1) = true → u.cmd.jobs.length < 2
    →
    exec (.selftest r) s = .next ((u.withCmd fun c =>
      { c with jobs := c.jobs ++ [{ num := c.lastJob % 255 + 1, opcode := 0x0905, kind := .selftest (leAt r.pkt.params 0 1) }],
               lastJob := c.lastJob % 255 + 1 }).answered u 0x0905 r 1 [byte (u.cmd.lastJob % 255 + 1), 0, 0, 0])) ∧
  (∀ (s u : State) (r : Request), s.passes 0x0105 r = true → u = s.begun 0x0105 r → 4 ≤ r.pkt.params.length → leAt
    r.pkt.params 0 1 ≤ 1 →
    exec (.reset r) s = .next ((u.withCmd fun c =>
      { c with waiting := c.waiting ++ [{ via := r.via, act := .reset (leAt r.pkt.params 0 1), ahead := u.cmd.tid0Replies }] }).answered
      u 0x0105 r 0 [])) ∧
  (∀ (s u : State) (r : Request) (v : State), s.passes 0x0800 r = true → u = s.begun 0x0800 r → 4 ≤
    r.pkt.params.length → leAt r.pkt.params 0 1 ≤ 2 → v = (u.wr Reg.CLK_OP_TARGET (leAt r.pkt.params 0 1)).opChange 0
    → v.rd Reg.CLK_OP_STEP ≠ 0 →
    exec (.opSet r) s = .next (v.withNib fun n => { n with opWaiters := n.opWaiters ++ [asked 0x0800 r] })) ∧
  (∀ (s u : State) (r : Request) (v : State), s.passes 0x0800 r = true → u = s.begun 0x0800 r → 4 ≤
    r.pkt.params.length → leAt r.pkt.params 0 1 ≤ 2 → v = (u.wr Reg.CLK_OP_TARGET (leAt r.pkt.params 0 1)).opChange 0
    → v.rd Reg.CLK_OP_STEP = 0 →
    exec (.opSet r) s = .next (v.answered u 0x0800 r 0 (le 4 (v.reg Reg.CLK_OP_A).toNat))) ∧
  (∀ (s u : State) (r : Request), s.passes 0x0801 r = true → u = s.begun 0x0801 r →
    exec (.pwrStatus r) s = .next (u.answered u 0x0801 r 0 ([Reg.PWR_STAT_A, Reg.PWR_WAKE_STAT_A,
      Reg.PWR_REFUSE_CNT_A, Reg.PWR_RSTCAUSE_A, Reg.CLK_OP_A, Reg.CLK_TEMP_A].flatMap fun a => le 4 (u.reg a).toNat))) ∧
  (∀ (s u : State) (r : Request), s.passes 0x0802 r = true → u = s.begun 0x0802 r → 8 ≤ r.pkt.params.length → (∀ k, k
    ∈ [6, 7, 14, 15] → bit (leAt r.pkt.params 0 2) k = false ∧ bit (leAt r.pkt.params 2 2) k = false) →
    exec (.wakeConfig r) s = .next ((((u.wr Reg.PWR_WAKE_EN_STBY (leAt r.pkt.params 0 2)).wr Reg.PWR_WAKE_EN_IDLE
      (leAt r.pkt.params 2 2)).wr Reg.PWR_ALARM_SECONDS (leAt r.pkt.params 4 4)).answered u 0x0802 r 0 [])) ∧
  (∀ (s u : State) (r : Request) (trk efu tcp units : Nat), s.passes 0x0900 r = true → u = s.begun 0x0900 r → 8 ≤
    r.pkt.params.length → trk = leAt r.pkt.params 0 1 → efu = leAt r.pkt.params 1 1 → tcp = leAt r.pkt.params 2 1 →
    leAt r.pkt.params 3 1 = 0 → units = leAt r.pkt.params 4 4 → trk ≠ 0 ∨ efu ≠ 0 ∨ tcp ≠ 0 ∨ units ≠ 0 → bit efu 0 =
    false → trk ≤ 3 → tcp ≤ 15 → units < 2 ^ 19 → (u.isRoot = true → bits units 1 0 = 0) → u.flag Reg.SYS_MODE_TRANS =
    false → u.mode = 3 ∨ u.mode = 4 →
    exec (.diagServiceEnter r) s = .next
        (((u.beginMode 5).withNib fun n => { n with seq := .serviceEntry }).schedule r.via (.serviceEnter trk efu tcp units)
          |>.answered u 0x0900 r 0 [])) ∧
  (∀ (s u : State) (r : Request), s.passes 0x0901 r = true → u = s.begun 0x0901 r → u.flag Reg.SYS_MODE_TRANS = false
    → u.mode = 5 →
    exec (.diagServiceExit r) s = .next
        (((u.beginMode (if u.flag Reg.SYS_MODE_DEGR then 4 else 3)).withNib fun n => { n with seq := .serviceExit }).leaveTest
          |>.answered u 0x0901 r 0 []))

/-- With the hypotheses named, MAILBOX_GO (idle, and while BUSY), RELAY_TIMEOUT, RELAYED_REPLY_ARRIVAL, MGMT_REQUEST (a
request, one while REQ_FREE is 0, a bad frame byte, and a transaction that is not Damya's), MGMT_REPLY_READ (whole,
and with no reply), MGMT_STATUS_READ (while Scribe or the ROM serves it, and not, in SPI and in I2C mode), with MGMT's
transaction as a wake source first (State.mgmtStart), TID0_REQUEST, USBS_REQUEST (taken, and held), USBS_REPLY_READ
and REPLY_HANDED_OVER answer exactly the next state written. -/
def Obligations.TransportEvents : Prop :=
  (∀ (s : State) (e : Bool), s.hubOn = true → s.cmd.mbxBusy = true →
    exec (.mailboxGo e) s = .next (s.withCmd fun c => { c with mbxIrqEn := e, mbxOverrun := true })) ∧
  (∀ (s a : State) (e : Bool), s.hubOn = true → s.cmd.mbxBusy = false → s.isRoot = false → (a = s.withCmd fun c =>
    { c with mbxIrqEn := e, mbxBusy := true, mbxDone := false, mbxReplyLen := 0 }) →
    exec (.mailboxGo e) s = .next (a.enqueue a.mailboxRequest)) ∧
  (∀ (s : State) (p : Nat) (r : Request), s.hubOn = true → s.cmd.relay = some (p, r) →
    exec .relayTimeout s = .next ((s.withCmd fun c => { c with relay := none }).refuse r 0x35)) ∧
  (∀ (s : State) (p : Fin 33) (r : Request) (b : Bytes), s.hubOn = true → s.cmd.relay = some (p.val, r) → (parsePacket
    b).seq = r.pkt.seq → (parsePacket b).opcode = r.pkt.opcode →
    exec (.relayedReplyArrival p b) s = .next ((s.withCmd fun c => { c with relay := none }).deliver .mailbox b)) ∧
  (∀ (s a : State) (f : MgmtFrame) (b : Bytes), a = s.mgmtStart f.addr → a.mgmtAddressed f.addr = true → f.byte = 0xA1
    → a.serving = true → a.cmd.mgmtBusy = false →
    exec (.mgmtRequest f b) s = .next ((a.withCmd fun c => { c with mgmtBusy := true }).enqueue
      { via := .mgmt, pkt := parsePacket b })) ∧
  (∀ (s a : State) (f : MgmtFrame) (b : Bytes), a = s.mgmtStart f.addr → a.mgmtAddressed f.addr = true → f.byte = 0xA1
    → a.serving = true → a.cmd.mgmtBusy = true →
    exec (.mgmtRequest f b) s = .next (a.count 0x009)) ∧
  (∀ (s a : State) (f : MgmtFrame) (b : Bytes), a = s.mgmtStart f.addr → a.mgmtAddressed f.addr = true → a.hubOn =
    true → f.byte ≠ 0xA1 → f.byte ≠ 0xA2 → f.byte ≠ 0xA3 →
    exec (.mgmtRequest f b) s = .next (a.count 0x008)) ∧
  (∀ (s a : State) (f : MgmtFrame) (b : Bytes), a = s.mgmtStart f.addr → a.mgmtAddressed f.addr = false →
    exec (.mgmtRequest f b) s = .next a) ∧
  (∀ (s a : State) (b : Bytes) (n : MgmtRead), a = s.mgmtStart n.addr → a.mgmtAddressed n.addr = true → a.mgmtAnswers
    = true → a.hubOn = true → a.cmd.mgmtReply = some b → b.length ≤ n.count →
    exec (.mgmtReplyRead n) s = .next (((a.emit (.mgmt (padTo n.count b))).withCmd fun c =>
      { c with mgmtReply := none }).handOver .mgmt)) ∧
  (∀ (s a : State) (n : MgmtRead), a = s.mgmtStart n.addr → a.mgmtAddressed n.addr = true → a.mgmtAnswers = true →
    a.hubOn = true → a.cmd.mgmtReply = none →
    exec (.mgmtReplyRead n) s = .next (a.emit (.mgmt (zeros n.count)))) ∧
  (∀ (s a : State), a = s.mgmtStart (BitVec.ofNat 7 (s.setting 0x0005)) → a.serving = true →
    exec .mgmtStatusRead s = .next (a.emit (.mgmt [byte (8 * b2n a.cmd.restarting + 4 * b2n a.noticeLevel + 2 * b2n
      a.cmd.mgmtReply.isSome + b2n (!a.cmd.mgmtBusy))]))) ∧
  (∀ (s a : State), a = s.mgmtStart (BitVec.ofNat 7 (s.setting 0x0005)) → a.serving = false → a.pins.mgmtI2c = false →
    exec .mgmtStatusRead s = .next (a.emit (.mgmt [0]))) ∧
  (∀ (s a : State), a = s.mgmtStart (BitVec.ofNat 7 (s.setting 0x0005)) → a.serving = false → a.pins.mgmtI2c = true →
    exec .mgmtStatusRead s = .next a) ∧
  (∀ (s : State) (y : Bool) (b : Bytes), s.hubOn = true →
    exec (.tid0Request y b) s = .next (s.enqueue { via := .tid0, pkt := parsePacket b, sys := y })) ∧
  (∀ (s : State) (b : Bytes), s.serving = true → s.usbsServes 0x01 = true → s.cmd.usbsReply = none → s.cmd.usbsBusy =
    false →
    exec (.usbsRequest b) s = .next (((s.count 0x1A8).withCmd fun c => { c with usbsBusy := true }).enqueue
      { via := .usbs, pkt := parsePacket b })) ∧
  (∀ (s : State) (b : Bytes), s.serving = true → s.usbsServes 0x01 = true → s.cmd.usbsReply.isSome = true →
    exec (.usbsRequest b) s = .next ((s.count 0x1A8).withCmd fun c => { c with usbsHeld := some b })) ∧
  (∀ (s : State) (b : Bytes), s.hubOn = true → s.usbsServes 0x82 = true → s.cmd.usbsReply = some b → s.cmd.usbsHeld =
    none →
    exec .usbsReplyRead s = .next ((((s.withCmd fun c => { c with usbsReply := none }).emit (.usb 8 "bulk in" []
      b)).count 0x1A9).handOver .usbs)) ∧
  (∀ (s : State) (v : Transport), s.hubOn = true → exec (.replyHandedOver v false) s = .next (s.handOver v)) ∧
  (∀ (s : State), s.hubOn = true →
    exec (.replyHandedOver .mailbox true) s = .next ((s.withCmd fun c => { c with mbxDone := false }).handOver
      .mailbox))

/-- With the hypotheses named, HALF_OPEN_SESSION_TIMEOUT, SESSION_IDLE_TIMEOUT, PASSWORD_DERIVATION_DONE (a wrong
password), PASSWORD_LOCKOUT_END, JOB_COMPLETE (outside a restart), HITLESS_RESTART_BEGIN, HITLESS_RESTART_END,
SUBPROCESSOR_SAFE_POINT and POSITION_ASSIGN_DELAY_END answer exactly the next state written. -/
def Obligations.SessionTimersAndJobs : Prop :=
  (∀ (s : State) (h : Fin 9), s.hubOn = true → (s.session h).phase = .halfOpen →
    exec (.halfOpenSessionTimeout h) s = .next ((s.setSession h {}).notice 0x0201 [byte h, 5])) ∧
  (∀ (s : State) (h : Fin 9), s.hubOn = true → (s.session h).phase = .opened → s.setting 0x0004 ≠ 0 →
    exec (.sessionIdleTimeout h) s = .next ((s.setSession h {}).notice 0x0201 [byte h, 1])) ∧
  (∀ (s a : State) (d : Derivation) (salt v : Bytes), s.hubOn = true → s.cmd.derivation = some d → s.nv.password =
    some (salt, v) → sha256 (pbkdf2 d.password salt) ≠ v → a =
    { s with cmd := { s.cmd with derivation := none },
             nib := { s.nib with wrongPasswords := s.nib.wrongPasswords + 1, lockout := true } } →
    exec .passwordDerivationDone s = .next ((a.notice 0x0202 [byte (min (s.nib.wrongPasswords + 1) 255)]).answer d.req
      0x22)) ∧
  (∀ (s : State), s.nib.on = true →
    exec .passwordLockoutEnd s = .next { s with nib := { s.nib with lockout := false } }) ∧
  (∀ (s : State) (j : Job) (g : Bool), s.hubOn = true → (s.cmd.jobs.find? (fun k => k.num == j.num) = some j) →
    s.jobMayEnd j = true → (s.jobEffect j g).1.cmd.restarting = false →
    exec (.jobComplete j.num g) s = .next ((s.jobEffect j g).1.jobDone j (s.jobEffect j g).2)) ∧
  (∀ (s : State) (c : Fin 3), s.serving = true → s.mode ≠ 0 → c ≠ 0 →
    exec (.hitlessRestartBegin c) s = .next (s.beginRestart c s.fw.slot)) ∧
  (∀ (s a : State) (ms c k : Nat) (b : Bytes), s.hubOn = true → s.fw.restart = some (c, k) → s.imagePlain k = some b →
    (a = (((((s.runImage k (s.slotState k == 3) b).withFw fun f => { f with restart := none }).withCmd fun c =>
    { c with restarting := false }).bump Reg.FWU_RESTART_COUNT).wr Reg.FWU_RESTART_DUR_MS (min ms 0xFFFF))) →
    exec (.hitlessRestartEnd true ms) s = .next ((a.cmd.jobs.foldl State.reportJob a).notice 0x0604 ([byte c] ++ le 2
      (min ms 0xFFFF)))) ∧
  (∀ (s : State) (ms c k : Nat), s.hubOn = true → s.fw.restart = some (c, k) → s.imagePlain k = none →
    exec (.hitlessRestartEnd true ms) s = .next (s.hubReset 0x07 0x01)) ∧
  (∀ (s : State) (k : Fin 6) (b : Bytes), s.hubOn = true → (s.fw.waiting.find? (fun e => e.1 == k.val) = some (k.val,
    b)) →
    exec (.subprocessorSafePoint k) s = .next (s.withFw fun f =>
      { f with loaded := Table.set (fun _ => []) f.loaded k.val b,
               waiting := f.waiting.filter fun x => x.1 != k.val })) ∧
  (∀ (s : State), s.hubOn = true → s.tun.assignDue = false →
    exec .positionAssignDelayEnd s = .next (s.tun.assignWaiters.foldl (fun (t : State) r => t.answer r 0 [byte (t.rd
      Reg.TUN_LINE_STATIONS)]) (s.withTun fun n => { n with assignDue := false, assignWaiters := [] })))

/-- For a packet that passes every check of R50 before the opcode's own, and the parameters named, NOP, IDENTIFY,
JOB_STATUS, OPEN_SESSION, SESSION_PROVE (a right and a wrong proof), OPEN_SESSION_PW, CLOSE_SESSION, SESSION_LIST,
POSITION_SET ASSIGN and CLEAR answer exactly the next state written. -/
def Obligations.SessionCommands : Prop :=
  (∀ (s u : State) (r : Request), s.passes 0x0100 r = true → u = s.begun 0x0100 r →
    exec (.nop r) s = .next (u.answered u 0x0100 r 0 r.pkt.params)) ∧
  (∀ (s u : State) (r : Request), s.passes 0x0101 r = true → u = s.begun 0x0101 r →
    exec (.identify r) s = .next (u.answered u 0x0101 r 0 ([byte (u.rd Reg.SYS_MODE_ROLE), byte u.position, byte
      u.mode, byte (u.rd Reg.SYS_MODE_FORCE_REC + 2 * b2n (u.mode == 0))] ++ le 4 (u.reg Reg.SYS_ID_A).toNat ++ le 8
      u.nv.deviceId ++ le 4 (u.rd Reg.FWU_RUN_VERSION)))) ∧
  (∀ (s u : State) (r : Request) (j : Job), s.passes 0x0106 r = true → u = s.begun 0x0106 r → 4 ≤ r.pkt.params.length
    → (u.cmd.jobs.find? (fun k => k.num == leAt r.pkt.params 0 1) = some j) →
    exec (.jobStatus r) s = .next (u.answered u 0x0106 r 0 ([byte j.num, 0] ++ le 2 j.opcode))) ∧
  (∀ (s u : State) (r : Request) (k : KeySlot) (h : Nat), s.passes 0x0200 r = true → u = s.begun 0x0200 r → 20 ≤
    r.pkt.params.length → leAt r.pkt.params 0 1 ≤ 63 → leAt r.pkt.params 1 1 ≤ 1 → u.keyFor (leAt r.pkt.params 0 1) 0
    (masterBit r.via) (leAt r.pkt.params 1 1) = .ok k → u.freeHandle = some h → u.ink.drbgBad = false →
    exec (.openSession r) s = .next
        (((u.draw 16).2.setSession h
          { phase := .halfOpen, via := r.via, world := leAt r.pkt.params 1 1, slot := leAt r.pkt.params 0 1,
            nc := slice r.pkt.params 4 16, nd := (u.draw 16).1, slotKey := k.key }).answered u 0x0200 r 0
          ([byte h, 0, 0, 0] ++ (u.draw 16).1 ++
            hmac k.key (ascii "GXDEV" ++ slice r.pkt.params 4 16 ++ (u.draw 16).1 ++ [byte h])))) ∧
  (∀ (s u : State) (r : Request) (h : Nat) (x : Session), s.passes 0x0201 r = true → u = s.begun 0x0201 r → h =
    r.pkt.session → x = u.session h → h ∈ handles → x.phase = .halfOpen → x.via = r.via → r.pkt.params.take 32 = hmac
    x.slotKey (ascii "GXHOST" ++ x.nd ++ x.nc ++ [byte h]) →
    exec (.sessionProve r) s = .next
        (((u.setSession h
          { x with phase := .opened, key := hmac x.slotKey (ascii "GXSES" ++ x.nc ++ x.nd), keptSeq := r.pkt.seq,
                   keptProve := true }).count 0x2E0).answer (asked 0x0201 r) 0)) ∧
  (∀ (s u : State) (r : Request) (h : Nat) (x : Session), s.passes 0x0201 r = true → u = s.begun 0x0201 r → h =
    r.pkt.session → x = u.session h → h ∈ handles → x.phase = .halfOpen → x.via = r.via → r.pkt.params.take 32 ≠ hmac
    x.slotKey (ascii "GXHOST" ++ x.nd ++ x.nc ++ [byte h]) →
    exec (.sessionProve r) s = .next ((u.closeSession h 5).answered u 0x0201 r 0x22 [])) ∧
  (∀ (s u : State) (r : Request) (n h : Nat), s.passes 0x0202 r = true → u = s.begun 0x0202 r → r.via = .usbs →
    u.nv.password.isSome = true → u.nv.pwPartial = false → n = leAt r.pkt.params 16 1 → 1 ≤ n → n ≤ 64 →
    r.pkt.params.length = 17 + n → u.nib.lockout = false → u.freeHandle = some h → u.ink.drbgBad = false →
    u.cmd.derivation = none →
    exec (.openSessionPw r) s = .next (u.withCmd fun c =>
      { c with derivation := some { req := asked 0x0202 r, nc := slice r.pkt.params 0 16, password := slice r.pkt.params 17 n } })) ∧
  (∀ (s u : State) (r : Request) (h : Nat), s.passes 0x0203 r = true → u = s.begun 0x0203 r → 4 ≤ r.pkt.params.length
    → h = leAt r.pkt.params 0 1 → h ∈ handles → (u.session h).phase ≠ .free → (u.session h).via = r.via →
    exec (.closeSession r) s = .next ((u.setSession h {}).answered u 0x0203 r 0 [])) ∧
  (∀ (s u : State) (r : Request), s.passes 0x0204 r = true → u = s.begun 0x0204 r →
    exec (.sessionList r) s = .next (u.answered u 0x0204 r 0 (handles.flatMap fun h => sessionEntry (u.session h)))) ∧
  (∀ (s u : State) (r : Request) (q : Request), s.passes 0x0107 q = true → u = s.begun 0x0107 q → q = requestWithByte
    r 0 0 → u.isRoot = true →
    exec (.positionSetAssign r) s = .next ((u.sendAssign 0 1).withTun fun n =>
      { n with assignWaiters := n.assignWaiters ++ [asked 0x0107 q] })) ∧
  (∀ (s u : State) (r : Request) (q : Request), s.passes 0x0107 q = true → u = s.begun 0x0107 q → q = requestWithByte
    r 0 1 → u.isRoot = true → u.hostTunnels = false → u.ink.drbgBad = false →
    exec (.positionSetClear r) s = .next
        ((((u.floodClear 0).applyClear 0).withTun fun n =>
          { n with announced := [], assignDue := ((u.floodClear 0).applyClear 0).setting 0x0003 == 1 }).answered u 0x0107 q 0 []))

/-- For packets that pass every check of R50 before the opcode's own, a queue number from 0 to 3 (0 alone in RECOVERY) and
the conditions named, QUEUE_CONFIG, QUEUE_READ, QUEUE_MARK, QUEUE_REWIND and QUEUE_RELEASE (in COMMAND mode to C, to a
named index, and in DMA mode) answer exactly the next state and reply written; QUEUE_ENABLE_RISE and
QUEUE_INTEGRITY_RESET (copies that agree, and copies that differ) too. The index updates act on the queue as the
comparison of its two copies leaves it (State.compared, R87). -/
def Obligations.QueueCommandsAndEvents : Prop :=
  (∀ (s u : State) (r : Request) (q : Nat), s.passes 0x0110 r = true → u = s.begun 0x0110 r → 13 ≤ r.pkt.params.length
    → q = leAt r.pkt.params 0 1 → q ≤ 3 → (u.mode = 0 → q = 0) →
    exec (.queueConfig r) s = .next (((((u.wr (Reg.QUE_RINGLO_ADDR_LO q) (leAt r.pkt.params 5 8 / 4096)).setReg
      (Reg.QUE_RINGHI_A q) (BitVec.ofNat 32 (leAt r.pkt.params 5 8 / 2 ^ 32)))).queueConfigure q (leAt r.pkt.params 1
      4)).answered u 0x0110 r 0 [])) ∧
  (∀ (s u : State) (r : Request) (q n : Nat) (x : Queue) (v : State), s.passes 0x0111 r = true → u = s.begun 0x0111 r
    → 3 ≤ r.pkt.params.length → q = leAt r.pkt.params 0 1 → q ≤ 3 → (u.mode = 0 → q = 0) → v = u.compared q → x =
    v.queue q → (u.queue q).dma = false → n = min (leAt r.pkt.params 1 2) (min (x.dist x.w - x.dist x.c) (4152 /
    queueBytes q)) →
    exec (.queueRead r) s = .next ((v.setQueue q (x.move x.w x.f (x.c + n) x.m)).answered u 0x0111 r 0 (le 2 x.c ++ le
      2 n ++ le 2 x.lost ++ le 2 x.w ++ queueEntries q x x.c n))) ∧
  (∀ (s u : State) (r : Request) (q : Nat) (x : Queue) (v : State), s.passes 0x0112 r = true → u = s.begun 0x0112 r →
    1 ≤ r.pkt.params.length → q = leAt r.pkt.params 0 1 → q ≤ 3 → (u.mode = 0 → q = 0) → v = u.compared q → x =
    v.queue q → (u.queue q).dma = false →
    exec (.queueMark r) s = .next ((v.setQueue q (x.move x.w x.f x.c x.c)).answered u 0x0112 r 0 [])) ∧
  (∀ (s u : State) (r : Request) (q : Nat) (x : Queue) (v : State), s.passes 0x0113 r = true → u = s.begun 0x0113 r →
    1 ≤ r.pkt.params.length → q = leAt r.pkt.params 0 1 → q ≤ 3 → (u.mode = 0 → q = 0) → v = u.compared q → x =
    v.queue q → (u.queue q).dma = false →
    exec (.queueRewind r) s = .next ((v.setQueue q (x.move x.w x.f x.m x.m)).answered u 0x0113 r 0 [])) ∧
  (∀ (s u : State) (r : Request) (q : Nat) (x : Queue) (v : State), s.passes 0x0114 r = true → u = s.begun 0x0114 r →
    4 ≤ r.pkt.params.length → q = leAt r.pkt.params 0 1 → q ≤ 3 → (u.mode = 0 → q = 0) → v = u.compared q → x =
    v.queue q → x.dma = false → leAt r.pkt.params 3 1 = 0 →
    exec (.queueRelease r) s = .next ((v.setQueue q (v.rearm q (x.move x.w x.c x.c (if x.dist x.m < x.dist x.c then
      x.c else x.m)))).answered u 0x0114 r 0 [])) ∧
  (∀ (s u : State) (r : Request) (q : Nat) (x : Queue) (v : State), s.passes 0x0114 r = true → u = s.begun 0x0114 r →
    4 ≤ r.pkt.params.length → q = leAt r.pkt.params 0 1 → q ≤ 3 → (u.mode = 0 → q = 0) → v = u.compared q → x =
    v.queue q → x.dma = true → leAt r.pkt.params 3 1 = 3 → x.dist (leAt r.pkt.params 1 2) ≤ x.dist x.w →
    exec (.queueRelease r) s = .next ((v.setQueue q (v.rearm q
      { x.move x.w (leAt r.pkt.params 1 2) 0 0 with lost := 0 })).answered u 0x0114 r 0 [])) ∧
  (∀ (s u : State) (r : Request) (q i : Nat) (x : Queue) (v : State), s.passes 0x0114 r = true → u = s.begun 0x0114 r
    → 4 ≤ r.pkt.params.length → q = leAt r.pkt.params 0 1 → q ≤ 3 → (u.mode = 0 → q = 0) → v = u.compared q → x =
    v.queue q → x.dma = false → leAt r.pkt.params 3 1 = 2 → i = leAt r.pkt.params 1 2 → x.dist i ≤ x.dist x.c →
    exec (.queueRelease r) s = .next ((v.setQueue q (v.rearm q (x.move x.w i x.c (if x.dist x.m < x.dist i then i else
      x.m)))).answered u 0x0114 r 0 [])) ∧
  (∀ (s : State) (q : Fin 4), s.hubOn = true → s.flag (Reg.QUE_CFG_ENABLE q) = false →
    exec (.queueEnableRise q) s = .next ((s.put (Reg.QUE_CFG_ENABLE q) true).queueRise q)) ∧
  (∀ (s : State) (q : Fin 4), s.hubOn = true → (s.queue q).agrees = true → exec (.queueIntegrityReset q) s = .next s) ∧
  (∀ (s : State) (q : Fin 4), s.hubOn = true → (s.queue q).agrees = false → q.val = 0 ∨ (s.queue 0).agrees = true →
    exec (.queueIntegrityReset q) s = .next ((s.setQueue q { (s.queue q).reset with integ := true }).noticePlain
      0x0104 (byte q :: le 2 (s.queue q).reset.lost)))

/-- For packets that pass every check of R50 before the opcode's own, REG_READ, REG_WRITE, REG_MODIFY, REG_POLL (a
register that matches, and one that does not yet) and REGISTER_WRITE answer exactly the next state written, with the
status and words the rules give. -/
def Obligations.RegisterCommands : Prop :=
  (∀ (s u : State) (r : Request) (a n : Nat), s.passes 0x0310 r = true → u = s.begun 0x0310 r → 6 ≤
    r.pkt.params.length → a = leAt r.pkt.params 0 4 → n = leAt r.pkt.params 4 2 → 1 ≤ n → n ≤ 256 → (∀ i, i < n →
    u.readStatus (asked 0x0310 r) (a + 4 * i) = 0) →
    exec (.regRead r) s = .next ((u.readTakes a n).answered u 0x0310 r 0 (u.readWords a n))) ∧
  (∀ (s u : State) (r : Request) (n : Nat) (x : State × Nat × Nat), s.passes 0x0311 r = true → u = s.begun 0x0311 r →
    n = leAt r.pkt.params 4 2 → 1 ≤ n → n ≤ 256 → 8 + 4 * n ≤ r.pkt.params.length → (x = u.writeWords (asked 0x0311 r)
    (leAt r.pkt.params 0 4) ((List.range n).map fun i => BitVec.ofNat 32 (leAt r.pkt.params (8 + 4 * i) 4)) 0) →
    exec (.regWrite r) s = .next (x.1.answered u 0x0311 r x.2.1 (le 2 x.2.2 ++ [0, 0]))) ∧
  (∀ (s u : State) (r : Request) (a : Nat) (m v w : Word), s.passes 0x0312 r = true → u = s.begun 0x0312 r → 12 ≤
    r.pkt.params.length → a = leAt r.pkt.params 0 4 → m = BitVec.ofNat 32 (leAt r.pkt.params 4 4) → v = BitVec.ofNat
    32 (leAt r.pkt.params 8 4) → w = ((u.regView a &&& ~~~m) ||| (v &&& m)) &&& ~~~(w1cMask a &&& ~~~m) → u.readStatus
    (asked 0x0312 r) a = 0 → u.writeStatus (asked 0x0312 r) a w = 0 →
    exec (.regModify r) s = .next ((u.writeReg a w).answered u 0x0312 r 0 (le 4 w.toNat))) ∧
  (∀ (s u : State) (r : Request) (a : Nat), s.passes 0x0313 r = true → u = s.begun 0x0313 r → 16 ≤ r.pkt.params.length
    → a = leAt r.pkt.params 0 4 → 1 ≤ leAt r.pkt.params 12 2 → leAt r.pkt.params 12 2 ≤ 1000 → u.readStatus (asked
    0x0313 r) a = 0 → u.regView a &&& BitVec.ofNat 32 (leAt r.pkt.params 4 4) = BitVec.ofNat 32 (leAt r.pkt.params 8
    4) →
    exec (.regPoll r) s = .next (u.answered u 0x0313 r 0 (le 4 (u.regView a).toNat))) ∧
  (∀ (s u : State) (r : Request) (a : Nat) (y : Poll), s.passes 0x0313 r = true → u = s.begun 0x0313 r → 16 ≤
    r.pkt.params.length → a = leAt r.pkt.params 0 4 → 1 ≤ leAt r.pkt.params 12 2 → leAt r.pkt.params 12 2 ≤ 1000 →
    u.readStatus (asked 0x0313 r) a = 0 → u.regView a &&& BitVec.ofNat 32 (leAt r.pkt.params 4 4) ≠ BitVec.ofNat 32
    (leAt r.pkt.params 8 4) → y =
    { req := asked 0x0313 r, addr := a, mask := BitVec.ofNat 32 (leAt r.pkt.params 4 4),
      value := BitVec.ofNat 32 (leAt r.pkt.params 8 4),
      deadline := u.mer.raw + rawOfNs (1000 * leAt r.pkt.params 12 2) } →
    exec (.regPoll r) s = .next (u.withCmd fun c => { c with poll := some y })) ∧
  (∀ (s : State) (a w : Word), badAddress a.toNat = false → s.lockedWrite a.toNat w = false → (onPowerDie a.toNat =
    true → s.nib.on = true) → (onPowerDie a.toNat = false → s.hubOn = true) →
    exec (.registerWrite a w) s = .next (s.writeReg a.toNat w))

/-- For every packet that passes every check of R50 before the opcode's own (State.passes) and whose parameters, slot and
life cycle are those the row names, KEY_LOAD (in clear on SESSION 0 and wrapped on an open session, with a good
wrapping and with a bad one), KEY_CLEAR, KEY_INFO, ATTEST, LC_ADVANCE, CRYPTO_HMAC, CRYPTO_SEAL, CRYPTO_OPEN (with a
good tag and with a bad one), OTP_PROGRAM KEY (in clear and wrapped, good and bad), PASSWORD and RETIRE complete: each
answers exactly the next state written, which holds the row's effect, with the status and the reply parameters
written. That KEY_CLEAR's notice carries the cleared key's ATTR is the model's choice (log entry 41). -/
def Obligations.KeyCommands : Prop :=
  (∀ (s u : State) (r : Request) (slot : Nat) (k : Bytes), s.passes 0x0500 r = true → u = s.begun 0x0500 r → 52 ≤
    r.pkt.params.length → slot = leAt r.pkt.params 0 1 → 16 ≤ slot → slot ≤ 63 → u.pins.tamperN = true → attrOk (leAt
    r.pkt.params 4 4) = true → ((u.openSession (asked 0x0500 r) = none ∧ bit (leAt r.pkt.params 1 1) 0 = false) ∨
    ((u.openSession (asked 0x0500 r)).isSome = true ∧ bit (leAt r.pkt.params 1 1) 0 = true ∧ 68 ≤
    r.pkt.params.length)) → u.keySlot slot = none → u.carriedKey (asked 0x0500 r) (slice r.pkt.params 0 8) (slice
    r.pkt.params 8 12) (slice r.pkt.params 20 32) (slice r.pkt.params 52 16) = some k →
    exec (.keyLoad r) s = .next ((((u.setKeySlot slot (some { key := k, attr := leAt r.pkt.params 4 4 })).count
      0x2E7).keyChanged slot 0).answered u 0x0500 r 0 [])) ∧
  (∀ (s u : State) (r : Request) (slot : Nat), s.passes 0x0500 r = true → u = s.begun 0x0500 r → 52 ≤
    r.pkt.params.length → slot = leAt r.pkt.params 0 1 → 16 ≤ slot → slot ≤ 63 → u.pins.tamperN = true → attrOk (leAt
    r.pkt.params 4 4) = true → ((u.openSession (asked 0x0500 r) = none ∧ bit (leAt r.pkt.params 1 1) 0 = false) ∨
    ((u.openSession (asked 0x0500 r)).isSome = true ∧ bit (leAt r.pkt.params 1 1) 0 = true ∧ 68 ≤
    r.pkt.params.length)) → u.keySlot slot = none → u.carriedKey (asked 0x0500 r) (slice r.pkt.params 0 8) (slice
    r.pkt.params 8 12) (slice r.pkt.params 20 32) (slice r.pkt.params 52 16) = none →
    exec (.keyLoad r) s = .next ((u.count 0x2E9).answered u 0x0500 r 0x22 [])) ∧
  (∀ (s u : State) (r : Request) (slot : Nat), s.passes 0x0501 r = true → u = s.begun 0x0501 r → 4 ≤
    r.pkt.params.length → slot = leAt r.pkt.params 0 1 → slot ≤ 63 → (u.keySlot slot).isSome = true →
    exec (.keyClear r) s = .next (((u.setKeySlot slot none).notice 0x0502 ([byte slot, 1] ++ le 4 (u.attrWord
      slot))).answered u 0x0501 r 0 [])) ∧
  (∀ (s u : State) (r : Request) (slot : Nat), s.passes 0x0502 r = true → u = s.begun 0x0502 r → 4 ≤
    r.pkt.params.length → slot = leAt r.pkt.params 0 1 → slot ≤ 63 →
    exec (.keyInfo r) s = .next (u.answered u 0x0502 r 0 (le 4 (u.attrWord slot) ++ u.kcv slot))) ∧
  (∀ (s u : State) (r : Request) (slot : Nat) (k : KeySlot) (m : Bytes), s.passes 0x0503 r = true → u = s.begun 0x0503
    r → 36 ≤ r.pkt.params.length → slot = leAt r.pkt.params 0 1 → slot ≤ 63 → u.keyFor slot 1 (masterBit r.via)
    (u.worldOf (asked 0x0503 r)) = .ok k → m = u.report slot (slice r.pkt.params 4 32) →
    exec (.attest r) s = .next ((u.count 0x2E2).answered u 0x0503 r 0 (m ++ hmac k.key (ascii "GXATT" ++ m)))) ∧
  (∀ (s u : State) (r : Request), s.passes 0x0504 r = true → u = s.begun 0x0504 r → 12 ≤ r.pkt.params.length → leAt
    r.pkt.params 4 8 = u.nv.deviceId → u.lcStatus (leAt r.pkt.params 0 1) = 0 → u.cmd.jobs.length < 2 →
    exec (.lcAdvance r) s = .next ((u.withCmd fun c =>
      { c with jobs := c.jobs ++ [{ num := c.lastJob % 255 + 1, opcode := 0x0504, kind := .lcAdvance (leAt r.pkt.params 0 1) }],
               lastJob := c.lastJob % 255 + 1 }).answered u 0x0504 r 1 [byte (u.cmd.lastJob % 255 + 1), 0, 0, 0])) ∧
  (∀ (s u : State) (r : Request) (k : KeySlot), s.passes 0x0505 r = true → u = s.begun 0x0505 r → 4 ≤
    r.pkt.params.length → r.pkt.params.length ≤ 4100 → leAt r.pkt.params 0 1 ≤ 63 → u.keyFor (leAt r.pkt.params 0 1) 3
    (masterBit r.via) (u.worldOf (asked 0x0505 r)) = .ok k →
    exec (.cryptoHmac r) s = .next ((u.count 0x2E3).answered u 0x0505 r 0 (hmac k.key (r.pkt.params.drop 4)))) ∧
  (∀ (s u : State) (r : Request) (k : KeySlot) (n : Nat) (x : Bytes × Bytes), s.passes 0x0506 r = true → u = s.begun
    0x0506 r → 4 ≤ r.pkt.params.length → r.pkt.params.length ≤ 4100 → leAt r.pkt.params 0 1 ≤ 63 → u.keyFor (leAt
    r.pkt.params 0 1) 4 (masterBit r.via) (u.worldOf (asked 0x0506 r)) = .ok k → n = leAt r.pkt.params 2 2 → n + 4 ≤
    r.pkt.params.length → u.ink.drbgBad = false → x = gcmSeal k.key (u.draw 12).1 ((r.pkt.params.drop 4).take n)
    ((r.pkt.params.drop 4).drop n) →
    exec (.cryptoSeal r) s = .next (((u.draw 12).2.count 0x2E4).answered u 0x0506 r 0 ((u.draw 12).1 ++ x.1 ++ x.2))) ∧
  (∀ (s u : State) (r : Request) (k : KeySlot) (n : Nat) (m b : Bytes), s.passes 0x0507 r = true → u = s.begun 0x0507
    r → 16 ≤ r.pkt.params.length → leAt r.pkt.params 0 1 ≤ 63 → u.keyFor (leAt r.pkt.params 0 1) 4 (masterBit r.via)
    (u.worldOf (asked 0x0507 r)) = .ok k → n = leAt r.pkt.params 2 2 → m = r.pkt.params.drop 16 → n + 16 ≤ m.length →
    m.length ≤ 4112 → gcmOpen k.key (slice r.pkt.params 4 12) (m.take n) (slice m n (m.length - n - 16)) (m.drop
    (m.length - 16)) = some b →
    exec (.cryptoOpen r) s = .next ((u.count 0x2E5).answered u 0x0507 r 0 b)) ∧
  (∀ (s u : State) (r : Request) (k : KeySlot) (n : Nat) (m : Bytes), s.passes 0x0507 r = true → u = s.begun 0x0507 r
    → 16 ≤ r.pkt.params.length → leAt r.pkt.params 0 1 ≤ 63 → u.keyFor (leAt r.pkt.params 0 1) 4 (masterBit r.via)
    (u.worldOf (asked 0x0507 r)) = .ok k → n = leAt r.pkt.params 2 2 → m = r.pkt.params.drop 16 → n + 16 ≤ m.length →
    m.length ≤ 4112 → gcmOpen k.key (slice r.pkt.params 4 12) (m.take n) (slice m n (m.length - n - 16)) (m.drop
    (m.length - 16)) = none →
    exec (.cryptoOpen r) s = .next (((u.count 0x2E5).count 0x2E9).answered u 0x0507 r 0x22 [])) ∧
  (∀ (s u : State) (r : Request) (q : Request) (slot : Nat) (k : Bytes), s.passes 0x0508 q = true → u = s.begun 0x0508
    q → q = requestWithByte r 0 0 → 53 ≤ q.pkt.params.length → slot = leAt q.pkt.params 1 1 → u.nv.lifeCycle ≤ 1 → 2 ≤
    slot → slot ≤ 15 → u.pins.tamperN = true → attrOk (leAt q.pkt.params 5 4) = true → ((u.openSession (asked 0x0508
    q) = none ∧ bit (leAt q.pkt.params 2 1) 0 = false) ∨ ((u.openSession (asked 0x0508 q)).isSome = true ∧ bit (leAt
    q.pkt.params 2 1) 0 = true ∧ 69 ≤ q.pkt.params.length)) → (u.otpSlot slot).programmed = false → (u.otpSlot
    slot).retired = false → u.carriedKey (asked 0x0508 q) (slice q.pkt.params 1 8) (slice q.pkt.params 9 12) (slice
    q.pkt.params 21 32) (slice q.pkt.params 53 16) = some k → u.cmd.jobs.length < 2 →
    exec (.otpProgramKey r) s = .next ((u.withCmd fun c =>
      { c with jobs := c.jobs ++ [{ num := c.lastJob % 255 + 1, opcode := 0x0508, kind := .otpKey slot k (leAt q.pkt.params 5 4) }],
               lastJob := c.lastJob % 255 + 1 }).answered u 0x0508 q 1 [byte (u.cmd.lastJob % 255 + 1), 0, 0, 0])) ∧
  (∀ (s u : State) (r : Request) (q : Request) (slot : Nat), s.passes 0x0508 q = true → u = s.begun 0x0508 q → q =
    requestWithByte r 0 0 → 53 ≤ q.pkt.params.length → slot = leAt q.pkt.params 1 1 → u.nv.lifeCycle ≤ 1 → 2 ≤ slot →
    slot ≤ 15 → u.pins.tamperN = true → attrOk (leAt q.pkt.params 5 4) = true → ((u.openSession (asked 0x0508 q) =
    none ∧ bit (leAt q.pkt.params 2 1) 0 = false) ∨ ((u.openSession (asked 0x0508 q)).isSome = true ∧ bit (leAt
    q.pkt.params 2 1) 0 = true ∧ 69 ≤ q.pkt.params.length)) → (u.otpSlot slot).programmed = false → (u.otpSlot
    slot).retired = false → u.carriedKey (asked 0x0508 q) (slice q.pkt.params 1 8) (slice q.pkt.params 9 12) (slice
    q.pkt.params 21 32) (slice q.pkt.params 53 16) = none →
    exec (.otpProgramKey r) s = .next ((u.count 0x2E9).answered u 0x0508 q 0x22 [])) ∧
  (∀ (s u : State) (r : Request) (q : Request), s.passes 0x0508 q = true → u = s.begun 0x0508 q → q = requestWithByte
    r 0 1 → 52 ≤ q.pkt.params.length → u.nv.lifeCycle ≤ 1 → u.pins.tamperN = true → u.nv.password = none →
    u.cmd.jobs.length < 2 →
    exec (.otpProgramPassword r) s = .next ((u.withCmd fun c =>
      { c with jobs := c.jobs ++ [{ num := c.lastJob % 255 + 1, opcode := 0x0508, kind := .otpPassword (slice q.pkt.params 4 16) (slice q.pkt.params 20 32) }],
               lastJob := c.lastJob % 255 + 1 }).answered u 0x0508 q 1 [byte (u.cmd.lastJob % 255 + 1), 0, 0, 0])) ∧
  (∀ (s u : State) (r : Request) (q : Request) (slot : Nat), s.passes 0x0508 q = true → u = s.begun 0x0508 q → q =
    requestWithByte r 0 2 → 4 ≤ q.pkt.params.length → slot = leAt q.pkt.params 1 1 → 1 ≤ u.nv.lifeCycle →
    u.nv.lifeCycle ≤ 3 → 2 ≤ slot → slot ≤ 15 → u.pins.tamperN = true → u.cmd.jobs.length < 2 →
    exec (.otpProgramRetire r) s = .next ((u.withCmd fun c =>
      { c with jobs := c.jobs ++ [{ num := c.lastJob % 255 + 1, opcode := 0x0508, kind := .otpRetire slot }],
               lastJob := c.lastJob % 255 + 1 }).answered u 0x0508 q 1 [byte (u.cmd.lastJob % 255 + 1), 0, 0, 0]))

/-- With the hypotheses named, ENTROPY_HEALTH_FAIL, TAMPER_ASSERT (with the hub die up and down), TAMPER_RELEASE,
FW_ACTIVATE_TAKE_EFFECT (MODE 0 and others) and TRIAL_CONFIRM_TIMEOUT answer exactly the next state written. -/
def Obligations.EntropyTamperAndUpdateEvents : Prop :=
  (∀ (s : State), s.hubOn = true →
    exec .entropyHealthFail s = .next { s with ink := { s.ink with drbgBad := true } }) ∧
  (∀ (s : State), s.hubOn = true →
    exec .tamperAssert s = .next (({ s with pins := { s.pins with tamperN := false } }.withNib fun n =>
      { n with tamperLatch := true }).tamperHub)) ∧
  (∀ (s : State), s.nib.on = true → s.hubOn = false →
    exec .tamperAssert s = .next ({ s with pins := { s.pins with tamperN := false } }.withNib fun n =>
      { n with tamperLatch := true })) ∧
  (∀ (s : State), s.nib.on = true →
    exec .tamperRelease s = .next ({ s with pins := { s.pins with tamperN := true } }.notice 0x0501 [1, byte (s.rd
      Reg.INK_STAT_ZEROIZES), 0])) ∧
  (∀ (s : State) (v : Transport) (k : Nat) (l : List Waiting), s.hubOn = true → s.cmd.waiting =
    { via := v, act := .fwActivate k 0, handed := true } :: l →
    exec .fwActivateTakeEffect s = .next ((s.withCmd fun c => { c with waiting := l }).beginRestart 0 k)) ∧
  (∀ (s : State) (v : Transport) (k m : Nat) (l : List Waiting), s.hubOn = true → s.cmd.waiting =
    { via := v, act := .fwActivate k m, handed := true } :: l → m ≠ 0 →
    exec .fwActivateTakeEffect s = .next ((s.withCmd fun c => { c with waiting := l }).hubReset 0x03)) ∧
  (∀ (s : State), s.serving = true → s.fw.trial = true → s.setting 0x000A ≠ 0 →
    exec .trialConfirmTimeout s = .next (s.hubReset 0x03))

/-- For packets that pass every check of R50 before the opcode's own, outside RECOVERY where said, FW_BEGIN,
FW_WRITE_BLOCK (a block not yet written), FW_VERIFY, FW_ACTIVATE (MODE 2), FW_STATUS, FW_CONFIRM, SETTINGS_READ (a
stored record and a default) and SETTINGS_WRITE answer exactly the next state and reply written. -/
def Obligations.FirmwareAndSettingsCommands : Prop :=
  (∀ (s u : State) (r : Request) (n k : Nat) (t : State), s.passes 0x0600 r = true → u = s.begun 0x0600 r → 8 ≤
    r.pkt.params.length → n = leAt r.pkt.params 4 4 → 4112 ≤ n → n ≤ 12582912 → u.mode ≠ 0 → k = leAt r.pkt.params 0 1
    → k ≤ 1 → k ≠ u.fw.slot → u.trialSlot = none → u.groupJob 6 = false → u.cmd.jobs.length < 2 → (t =
    (((u.setSlotState k 0 0).eraseSectors k n).withFw fun f =>
    { f with update := some (k, n), written := [], length := n })) →
    exec (.fwBegin r) s = .next ((t.withCmd fun c =>
      { c with jobs := c.jobs ++ [{ num := c.lastJob % 255 + 1, opcode := 0x0600, kind := .fwBegin k n }],
               lastJob := c.lastJob % 255 + 1 }).answered u 0x0600 r 1 [byte (t.cmd.lastJob % 255 + 1), 0, 0, 0])) ∧
  (∀ (s u : State) (r : Request) (k n o : Nat), s.passes 0x0601 r = true → u = s.begun 0x0601 r → 64 ≤
    r.pkt.params.length → u.fw.update = some (k, n) → o = leAt r.pkt.params 0 4 → o % 4096 = 0 → o < n → leAt
    r.pkt.params 4 2 = blockLen n o → (r.pkt.params.drop 64).length = blockLen n o → sha256 (r.pkt.params.drop 64) =
    slice r.pkt.params 8 32 → (Table.get (fun _ => []) u.fw.written (o / 4096) = []) → slice r.pkt.params 8 32 ≠ [] →
    u.cmd.jobs.length < 2 →
    exec (.fwWriteBlock r) s = .next ((u.withCmd fun c =>
      { c with jobs := c.jobs ++ [{ num := c.lastJob % 255 + 1, opcode := 0x0601, kind := .fwBlock k (o / 4096) (r.pkt.params.drop 64) }],
               lastJob := c.lastJob % 255 + 1 }).answered u 0x0601 r 1 [byte (u.cmd.lastJob % 255 + 1), 0, 0, 0])) ∧
  (∀ (s u : State) (r : Request) (k n : Nat), s.passes 0x0602 r = true → u = s.begun 0x0602 r → u.fw.update = some (k,
    n) → u.cmd.jobs.length < 2 →
    exec (.fwVerify r) s = .next ((u.withCmd fun c =>
      { c with jobs := c.jobs ++ [{ num := c.lastJob % 255 + 1, opcode := 0x0602, kind := .fwVerify k }],
               lastJob := c.lastJob % 255 + 1 }).answered u 0x0602 r 1 [byte (u.cmd.lastJob % 255 + 1), 0, 0, 0])) ∧
  (∀ (s u : State) (r : Request) (k : Nat), s.passes 0x0603 r = true → u = s.begun 0x0603 r → 4 ≤ r.pkt.params.length
    → leAt r.pkt.params 0 1 = 2 → ([0, 1].find? (fun j => u.slotState j == 2) = some k) → u.rd Reg.FWU_RUN_VERSION ≤
    hdrVersion (u.imageHeader k) → u.trialSlot = none → u.groupJob 6 = false →
    exec (.fwActivate r) s = .next ((((u.setSlotState k 3 0).withFw fun f => { f with update := none }).notice 0x0601
      ([byte k] ++ le 4 (hdrVersion (u.imageHeader k)) ++ [2])).answered u 0x0603 r 0 [])) ∧
  (∀ (s u : State) (r : Request), s.passes 0x0604 r = true → u = s.begun 0x0604 r →
    exec (.fwStatus r) s = .next (u.answered u 0x0604 r 0 (le 4 (u.rd Reg.FWU_RUN_VERSION) ++ le 4 u.fwuStat ++ le 4
      (u.fwuSlot 0) ++ le 4 (u.slotVersion 0) ++ le 4 (u.fwuSlot 1) ++ le 4 (u.slotVersion 1) ++ le 4 u.fwuUpd))) ∧
  (∀ (s u : State) (r : Request) (t : State), s.passes 0x0605 r = true → u = s.begun 0x0605 r → u.fw.trial = true → (t
    = ((u.setSlotState u.fw.slot 4 (u.slotAttempts u.fw.slot)).withFw fun f => { f with trial := false })) →
    exec (.fwConfirm r) s = .next ((t.notice 0x0603 ([byte u.fw.slot] ++ le 4 (t.rd Reg.FWU_RUN_VERSION))).answered u
      0x0605 r 0 [])) ∧
  (∀ (s u : State) (r : Request) (v : Bytes), s.passes 0x0606 r = true → u = s.begun 0x0606 r → 4 ≤
    r.pkt.params.length → settingKnown (leAt r.pkt.params 0 2) = true → u.settingRecord (leAt r.pkt.params 0 2) = some
    v →
    exec (.settingsRead r) s = .next (u.answered u 0x0606 r 0 (le 2 v.length ++ [0, 0] ++ v))) ∧
  (∀ (s u : State) (r : Request) (v : Bytes), s.passes 0x0606 r = true → u = s.begun 0x0606 r → 4 ≤
    r.pkt.params.length → settingKnown (leAt r.pkt.params 0 2) = true → u.settingRecord (leAt r.pkt.params 0 2) = none
    → v = (settingDefault (leAt r.pkt.params 0 2)).getD [] →
    exec (.settingsRead r) s = .next (u.answered u 0x0606 r 0 (le 2 v.length ++ [1, 0] ++ v))) ∧
  (∀ (s u : State) (r : Request) (l : List (Nat × Bytes)), s.passes 0x0607 r = true → u = s.begun 0x0607 r → 4 ≤
    r.pkt.params.length → parseRecords (leAt r.pkt.params 0 1) (r.pkt.params.drop 4) = some l → l.all settingValid =
    true → u.cmd.jobs.length < 2 →
    exec (.settingsWrite r) s = .next ((u.withCmd fun c =>
      { c with jobs := c.jobs ++ [{ num := c.lastJob % 255 + 1, opcode := 0x0607, kind := .settingsWrite (bit (leAt r.pkt.params 1 1) 0) l }],
               lastJob := c.lastJob % 255 + 1 }).answered u 0x0607 r 1 [byte (u.cmd.lastJob % 255 + 1), 0, 0, 0]))

/-- With the hypotheses named, PERF_SNAP, PERF_CLEAR, CMT_SEED_WRITE, COMET_EXPIRY, COMET_CONFIG and SAMPLE_CONFIG answer
exactly the next state written. -/
def Obligations.CounterAndCometCommands : Prop :=
  (∀ (s : State), s.hubOn = true →
    exec .perfSnap s = .next ((((((s.withPerf fun p => { p with bank := s.counters, bankOvf := s.overflow }).incr
      Reg.PERF_GEN_GEN).wr Reg.PERF_SNAP_SL_SEC_LO (secOf s.stamp)).wr Reg.PERF_SNAP_SH_SEC_HI (secOf s.stamp / 2 ^
      32)).wr Reg.PERF_SNAP_NS_NSEC (nsecOf s.stamp)).count 0x2FC)) ∧
  (∀ (s : State) (f n : BitVec 10) (o : Bool), s.hubOn = true → f.toNat ≤ 767 →
    exec (.perfClear f n o) s = .next
        (State.count
          { (s.wr Reg.PERF_CTRL_COUNT n.toNat).wr Reg.PERF_CTRL_FIRST f.toNat with
            overflow := s.overflow.filter fun i => !(decide (f.toNat ≤ i) && decide (i < f.toNat + n.toNat) && decide (i ≤ 767))
            counters := if o then s.counters else s.counters.filter fun e =>
              !(decide (f.toNat ≤ e.1) && decide (e.1 < f.toNat + n.toNat) && decide (e.1 ≤ 767)) } 0x2FD)) ∧
  (∀ (s : State) (v : Word), s.hubOn = true →
    exec (.cmtSeedWrite v) s = .next (s.withPerf fun p => { p with lfsr := orOne v.toNat })) ∧
  (∀ (s : State) (c : Comet), s.hubOn = true → (s.perf.comets.find? (fun x => x.id == c.id) = some c) →
    (s.perf.comets.find? (fun x => x.seg == c.seg) = some c) → c.id < 2 ^ 32 →
    exec (.cometExpiry (BitVec.ofNat 32 c.id)) s = .next ((((s.setComets (s.perf.comets.filter fun x => x.id !=
      c.id)).count 0x2FB).count 0x2FA).produce 2 (cometEntry c 8))) ∧
  (∀ (s u : State) (r : Request) (k : Nat) (a b : Word), s.passes 0x0906 r = true → u = s.begun 0x0906 r → 12 ≤
    r.pkt.params.length → u.mayPerfRead r.via = true → k = leAt r.pkt.params 0 1 → k ≤ 3 → a = BitVec.ofNat 32 (leAt
    r.pkt.params 4 4) → b = BitVec.ofNat 32 (leAt r.pkt.params 8 4) → u.portOk ((Reg.CMT_SEL_A_INPUT 0).get a) true =
    true → u.portOk ((Reg.CMT_SEL_B_OUTPUT 0).get b) true = true → (Reg.CMT_SEL_A_CLASSES 0).get a ≠ 0 →
    exec (.cometConfig r) s = .next (((u.plainWrite (Reg.CMT_SEL_A_A k) a).plainWrite (Reg.CMT_SEL_B_A k) b).answered
      u 0x0906 r 0 [])) ∧
  (∀ (s u : State) (r : Request) (k : Nat) (a b : Word), s.passes 0x0907 r = true → u = s.begun 0x0907 r → 12 ≤
    r.pkt.params.length → k = leAt r.pkt.params 0 1 → k ≤ 7 → a = BitVec.ofNat 32 (leAt r.pkt.params 4 4) → b =
    BitVec.ofNat 32 (leAt r.pkt.params 8 4) → u.portOk ((Reg.SCH_SMP_A_OUTPUT 0).get a) false = true → u.portOk
    ((Reg.SCH_SMP_A_INPUT 0).get a) true = true → (Reg.SCH_SMP_A_EN 0).get a = 0 →
    exec (.sampleConfig r) s = .next (((u.plainWrite (Reg.SCH_SMP_A_A k) a).plainWrite (Reg.SCH_SMP_B_A k) b).answered
      u 0x0907 r 0 []))

/-- With the hypotheses named, HOP (a good one, and one of another KIND), HOP_PERIODIC_SEND, PARENT_LOSS_TIMEOUT,
PARENT_CANDIDATE_HOLD_END, PARENT_HOLDOFF_END, RATE_CHANGE_APPLY, MGEN_WINDOW_END and MER_SNAP answer exactly the next
state written. -/
def Obligations.MeridianEvents : Prop :=
  (∀ (s : State) (t : Fin 2) (b : Bytes), s.hubOn = true → b.length = 64 → leAt b 0 1 = 1 → s.hopRefers t b = true →
    exec (.hopMsg t b) s = .next (((s.count (0x248 + 4 * t + 1)).hopReceived t b).prompt s)) ∧
  (∀ (s : State) (t : Fin 2) (b : Bytes), s.hubOn = true → b.length ≠ 64 ∨ leAt b 0 1 ≠ 1 ∨ s.hopRefers t b = false →
    exec (.hopMsg t b) s = .next ((s.count (0x248 + 4 * t + 1)).count (0x248 + 4 * t + 2))) ∧
  (∀ (s y : State) (t : Fin 2), s.hubOn = true → s.merHold t = false → s.rd (Reg.TLK_STAT_LSTATE t) = 2 → s.xchg ≤
    (s.merTrunk t).sets → y = ((s.setMerTrunk t { s.merTrunk t with srcChanged := false }).count (0x248 + 4 *
    t)).sendTime t (s.hopBytes t false) →
    exec (.hopPeriodicSend t) s = .next (y.setMerTrunk t { y.merTrunk t with sets := 0 })) ∧
  (∀ (s : State) (p : Nat), s.hubOn = true → s.parentTrunk = some p → s.rd (Reg.TLK_STAT_LSTATE p) ≠ 5 →
    exec .parentLossTimeout s = .next (s.dropParent.prompt s)) ∧
  (∀ (s : State) (t d : Nat), s.hubOn = true → s.mer.candidate = some t → s.candidateDist t = some d →
    exec .parentCandidateHoldEnd s = .next ((s.takeParent t d).prompt s)) ∧
  (∀ (s : State), s.hubOn = true →
    exec .parentHoldoffEnd s = .next (((s.withMer fun m => { m with holdoff := false }).chooseParent).prompt s)) ∧
  (∀ (s : State) (x : Int) (k : Nat), s.hubOn = true → s.mer.rateNext = some (x, k) → (k * 65536 : Nat) ≤ s.reading →
    exec .rateChangeApply s = .next (((s.changeRate x).setPending none).prompt s)) ∧
  (∀ (s : State) (g : Nat), s.hubOn = true → s.isRoot = true → s.mer.mgenWindow = true → s.mer.mgenSeen = some g →
    exec .mgenWindowEnd s = .next (((s.withMer fun m => { m with mgenWindow := false, mgenDone := true }).adoptMaster
      ((g + 1) % 256) s.mer.timeMaster).prompt s)) ∧
  (∀ (s : State), s.hubOn = true →
    exec .merSnap s = .next
        (((((((s.wr Reg.MER_SNAP_RAW0_RAW s.mer.raw).wr Reg.MER_SNAP_RAW1_RAW (s.mer.raw / 2 ^ 32)).wr Reg.MER_SNAP_RAW2_RAW
          (s.mer.raw / 2 ^ 64)).wr Reg.MER_SNAP_SL_SEC_LO (secOf s.reading)).wr Reg.MER_SNAP_SH_SEC_HI
          (secOf s.reading / 2 ^ 32)).wr Reg.MER_SNAP_NS_NSEC (nsecOf s.reading)).wr Reg.MER_SNAP_FR_FRAC (fracOf s.reading)))

/-- For packets that pass every check of R50 before the opcode's own, and the conditions named, TIME_GET, TIME_SET_OFFSET
(MODE 0 at the MASTER), TIME_SET_RATE, TIME_MASTER_SET, TIO_CONFIG (modes 0, 1 and 4) and TIO_ARM (disarm, and arm)
answer exactly the next state and reply written; TIO_REGISTER_WRITE, TIO_CAPTURE_EDGE and TIO_TRIGGER_EDGE (a pulse's
end, and a due pulse) too. -/
def Obligations.TimeAndPinCommands : Prop :=
  (∀ (s u : State) (r : Request), s.passes 0x0700 r = true → u = s.begun 0x0700 r →
    exec (.timeGet r) s = .next (u.answered u 0x0700 r 0
        ([byte (u.rd Reg.MER_STAT_STATE), byte (b2n u.merRun + 2 * b2n u.mer.rateNext.isSome), byte (u.rd Reg.MER_STAT_PARENT),
          byte (u.rd Reg.MER_STAT_DIST), byte (u.rd Reg.MER_STAT_MASTER_POS), byte (u.rd Reg.MER_STAT_MGEN),
          byte (u.rd Reg.MER_GEN_GEN), 0] ++ le 10 u.mer.raw ++ [0, 0] ++ timeBytes u.reading ++
          le 4 (u.rd Reg.MER_RATE_RATE_ADJ) ++ le 4 (u.rd Reg.MER_ERR_ERR)))) ∧
  (∀ (s u : State) (r : Request) (v : Nat) (t : State), s.passes 0x0701 r = true → u = s.begun 0x0701 r → 20 ≤
    r.pkt.params.length → leAt r.pkt.params 0 1 = 0 → u.rd Reg.MER_STAT_STATE = 4 → leAt r.pkt.params 14 4 ≤ 999999999
    → v = timeOf (leAt r.pkt.params 8 6) (leAt r.pkt.params 14 4) (leAt r.pkt.params 18 2) → t =
    (((u.startRunning).stepTime ((v : Int) - u.reading) 0).prompt u) → u.startRunning.rd Reg.MER_STAT_STATE = 4 →
    exec (.timeSetOffset r) s = .next (t.answered u 0x0701 r 0 [byte (t.rd Reg.MER_GEN_GEN)])) ∧
  (∀ (s u : State) (r : Request) (x : Int) (k : Nat), s.passes 0x0702 r = true → u = s.begun 0x0702 r → 4 ≤
    r.pkt.params.length → u.timeAllowed = true → x = toSigned 32 (leAt r.pkt.params 0 4) → x.natAbs ≤ 549755813 →
    u.mer.rateNext = none → k = ceilDiv u.reading.toNat 65536 + 1000000 →
    exec (.timeSetRate r) s = .next (((u.setPending (some (x, k))).prompt u).answered u 0x0702 r 0 (le 6 (k /
      1000000000) ++ le 4 (k % 1000000000)))) ∧
  (∀ (s u : State) (r : Request), s.passes 0x0703 r = true → u = s.begun 0x0703 r → 4 ≤ r.pkt.params.length → u.isRoot
    = true → leAt r.pkt.params 0 1 = 63 →
    exec (.timeMasterSet r) s = .next (((((u.withMer fun m => { m with timeMaster := 63 }).storeRecord (0x0007,
      [63])).adoptMaster ((u.rd Reg.MER_STAT_MGEN + 1) % 256) 63).prompt u).answered u 0x0703 r 0 [byte ((u.rd
      Reg.MER_STAT_MGEN + 1) % 256)])) ∧
  (∀ (s u : State) (r : Request) (n m : Nat), s.passes 0x0704 r = true → u = s.begun 0x0704 r → 24 ≤
    r.pkt.params.length → n = leAt r.pkt.params 0 1 → m = leAt r.pkt.params 1 1 → n ≤ 15 → m ∈ [0, 1, 4] →
    exec (.tioConfig r) s = .next
        (((((((((((u.tioDisarm n).wr (Reg.TIO_CFG_MODE n) m).wr (Reg.TIO_CFG_EDGE n) (leAt r.pkt.params 2 1)).wr
          (Reg.TIO_CFG_POL n) (leAt r.pkt.params 3 1)).wr (Reg.TIO_DLY_DLY n) (leAt r.pkt.params 4 2)).wr
          (Reg.TIO_PER_PER_NS n) (leAt r.pkt.params 8 4)).wr (Reg.TIO_PERF_PER_FR n) (leAt r.pkt.params 12 2)).wr
          (Reg.TIO_WID_WIDTH_NS n) (leAt r.pkt.params 16 4 % 2 ^ 30)).wr (Reg.TIO_WID_LEVEL n) (leAt r.pkt.params 20 1))).answered u 0x0704 r
          0 [])) ∧
  (∀ (s u : State) (r : Request) (n : Nat), s.passes 0x0705 r = true → u = s.begun 0x0705 r → 20 ≤ r.pkt.params.length
    → n = leAt r.pkt.params 0 1 → n ≤ 15 → leAt r.pkt.params 1 1 = 1 →
    exec (.tioArm r) s = .next ((u.tioDisarm n).answered u 0x0705 r 0 [])) ∧
  (∀ (s u : State) (r : Request) (n x : Nat) (t : State), s.passes 0x0705 r = true → u = s.begun 0x0705 r → 20 ≤
    r.pkt.params.length → n = leAt r.pkt.params 0 1 → n ≤ 15 → leAt r.pkt.params 1 1 = 0 → u.tioMode n = 2 → x =
    timeOf (leAt r.pkt.params 8 6) (leAt r.pkt.params 14 4) (leAt r.pkt.params 18 2) → u.reading.toNat + 2000 * 65536
    ≤ x → t = (u.setTioPin n
    { armed := true, start := x, k := 0, left := some 1, endAt := (u.tioPin n).endAt }).tioShow n →
    exec (.tioArm r) s = .next (t.answered u 0x0705 r 0 (timeBytes (t.tioNext n)))) ∧
  (∀ (s : State) (n : Fin 16) (k : Fin 4) (v : Word), s.hubOn = true →
    exec (.tioRegisterWrite n k v) s = .next (s.tioWrite n k v)) ∧
  (∀ (s a : State) (n : Fin 16) (f : Bool) (x : BitVec 19), s.hubOn = true → a = s.wr Reg.TIO_LEVEL_LEVEL (putBit
    (s.rd Reg.TIO_LEVEL_LEVEL) n (!f)) → a.tioMode n = 1 → bit (orOne (a.rd (Reg.TIO_CFG_EDGE n))) (b2n f) = true →
    exec (.tioCaptureEdge n f x false) s = .next
        ((((a.incr (Reg.TIO_STAT_COUNT n)).count 0x252).produce 1
          (((a.incr (Reg.TIO_STAT_COUNT n)).count 0x252).captureEntry n f
            (((a.incr (Reg.TIO_STAT_COUNT n)).count 0x252).readingAt (((a.incr (Reg.TIO_STAT_COUNT n)).count 0x252).mer.raw + x.toNat / 2048 * 2048) -
              ((a.incr (Reg.TIO_STAT_COUNT n)).count 0x252).tioDelay n))).wake 5)) ∧
  (∀ (s : State) (n : Fin 16) (e : Nat), s.hubOn = true → 2 ≤ s.tioMode n → (s.tioPin n).endAt = some e → (s.tioPin
    n).armed = false → e ≤ (s.reading + s.tioDelay n).toNat →
    exec (.tioTriggerEdge n) s = .next (((s.setTioPin n { s.tioPin n with endAt := none }).tioActive n false).count
      0x254)) ∧
  (∀ (s : State) (n : Fin 16), s.hubOn = true → 2 ≤ s.tioMode n → (s.tioPin n).endAt = none → (s.tioPin n).armed =
    true → s.merRun = true → s.tioNext n ≤ (s.reading + s.tioDelay n).toNat →
    exec (.tioTriggerEdge n) s = .next (s.tioPulse n))

/-- For packets that pass every check of R50 before the opcode's own and the conditions named, TUNNEL_CREATE, HOP_INSTALL
(STAGED and OPEN), TUNNEL_DESTROY, TUNNEL_CLOSE (both operations), TUNNEL_RETUNE, RETUNE_PREPARE, RETUNE_CANCEL,
TUNNEL_QUERY, ROUTE_SET (LINE, CUT, RESTORE), AUDIT, TRUNK_ENABLE and TRUNK_DISABLE answer exactly the next state and
reply written. -/
def Obligations.TunnelCommands : Prop :=
  (∀ (s u : State) (r : Request) (q : Request) (t : Nat) (e f : BookEntry) (y : State), s.passes 0x0400 q = true → u =
    s.begun 0x0400 q → q = requestWithByte r 0 0 → 44 ≤ q.pkt.params.length → e = bookOf q.pkt.params → u.createValid
    q.pkt.params e = true → t = leAt q.pkt.params 4 2 → t ≠ 65535 → u.book t = none → u.phaseOf t = none → u.admits
    u.bookList e = true → u.reachable e = true → f =
    { e with tapUnits := (u.freeBytes e.taps.length).1.map (·.toNat) } → y = (u.freeBytes e.taps.length).2.setBook t
    (some f) →
    exec (.tunnelCreate r) s = .next ((y.beginPhase .stage t (some (asked 0x0400 q)) (some f) none (y.chargedPositions
      f) (fun s k p => s.sendInstall f t k 0 p)).settlePhase t)) ∧
  (∀ (s u : State) (r : Request) (q : Request) (t : Nat), s.passes 0x0400 q = true → u = s.begun 0x0400 q → q =
    requestWithByte r 0 1 → 52 ≤ q.pkt.params.length → t = leAt q.pkt.params 2 2 → 2 ≤ t → t ≤ 1023 → leAt
    q.pkt.params 1 1 = 0 →
    exec (.hopInstall r) s = .next ((u.stageEntry t (slice q.pkt.params 4 16) (Rates.ofBytes (slice q.pkt.params 20
      24)) (((slice q.pkt.params 44 8).map (·.toNat)).filter (· != 0xFF))).answered u 0x0400 q 0 [])) ∧
  (∀ (s u : State) (r : Request) (q : Request) (t : Nat), s.passes 0x0400 q = true → u = s.begun 0x0400 q → q =
    requestWithByte r 0 1 → 52 ≤ q.pkt.params.length → t = leAt q.pkt.params 2 2 → 2 ≤ t → t ≤ 1023 → leAt
    q.pkt.params 1 1 = 1 → u.tidValid t = true → u.rd (Reg.TUN_ENTRY_W0_STATE t) = 0 → ((List.range 4).all fun w =>
    ((u.reg (Reg.TUN_ENTRY_W0_A t + 4 * w)).toNat &&& (if w == 0 then 0x1FBF3FFF else entryMask.getD w 0)) == (leAt
    (slice q.pkt.params 4 16) (4 * w) 4 &&& (if w == 0 then 0x1FBF3FFF else entryMask.getD w 0))) = true →
    exec (.hopInstall r) s = .next ((u.openEntry t).answered u 0x0400 q 0 [])) ∧
  (∀ (s u : State) (r : Request) (q : Request) (t : Nat) (e : BookEntry), s.passes 0x0402 q = true → u = s.begun
    0x0402 q → q = requestWithByte r 0 0 → 4 ≤ q.pkt.params.length → t = leAt q.pkt.params 2 2 → 2 ≤ t → t ≤ 1023 →
    u.phaseOf t = none → u.book t = some e →
    exec (.tunnelDestroy r) s = .next ((u.beginPhase .closing t (some (asked 0x0402 q)) (some e) none ([e.posA,
      e.posB] ++ e.taps) (fun s k p => s.sendClose t k 0 p)).settlePhase t)) ∧
  (∀ (s u : State) (r : Request) (q : Request) (t : Nat), s.passes 0x0402 q = true → u = s.begun 0x0402 q → q =
    requestWithByte r 0 1 → 4 ≤ q.pkt.params.length → t = leAt q.pkt.params 2 2 → 2 ≤ t → t ≤ 1023 → leAt q.pkt.params
    1 1 = 0 → u.tidValid t = true →
    exec (.tunnelClose r) s = .next (((u.wr (Reg.TUN_ENTRY_W0_STATE t) 2).vdpChanged t).answered u 0x0402 q 0 [])) ∧
  (∀ (s u : State) (r : Request) (q : Request) (t : Nat), s.passes 0x0402 q = true → u = s.begun 0x0402 q → q =
    requestWithByte r 0 1 → 4 ≤ q.pkt.params.length → t = leAt q.pkt.params 2 2 → 2 ≤ t → t ≤ 1023 → leAt q.pkt.params
    1 1 = 1 →
    exec (.tunnelClose r) s = .next ((u.removeEntry t).answered u 0x0402 q 0 [])) ∧
  (∀ (s u : State) (r : Request) (q : Request) (t a : Nat) (e : BookEntry) (x : Rates), s.passes 0x0401 q = true → u =
    s.begun 0x0401 q → q = requestWithByte r 0 0 → 28 ≤ q.pkt.params.length → t = leAt q.pkt.params 2 2 → 2 ≤ t → t ≤
    1023 → x = Rates.ofBytes (slice q.pkt.params 4 24) → x.valid = true → u.book t = some e → u.phaseOf t = none →
    u.retunePending e = false → (u.tunInfo t).prep = none → (u.admits ((u.tun.books.filter fun b => b.1 !=
    t).filterMap (·.2)) { e with rates := x } = true) → a = (u.reading / (65536 : Int)).toNat + 1000000 →
    exec (.tunnelRetune r) s = .next
        ((u.beginPhase .prepare t (some (asked 0x0401 q)) (some e) (some (x, a)) (u.chargedPositions e) (fun s k p =>
          if p == 0 then s.prepareRetune t x a
          else s.sendPacket p 0x0401 k ([1, 0] ++ le 2 t ++ x.bytes ++ le 6 (a / 1000000000) ++ le 4 (a % 1000000000) ++
            [0, 0]))).settlePhase t)) ∧
  (∀ (s u : State) (r : Request) (q : Request) (t : Nat) (y : Prepared), s.passes 0x0401 q = true → u = s.begun 0x0401
    q → q = requestWithByte r 0 1 → 38 ≤ q.pkt.params.length → t = leAt q.pkt.params 2 2 → 2 ≤ t → t ≤ 1023 →
    u.tidValid t = true → (u.tunInfo t).prep = none → y =
    { rates := Rates.ofBytes (slice q.pkt.params 4 24),
      at_ := leAt q.pkt.params 28 6 * 1000000000 + leAt q.pkt.params 34 4 } →
    exec (.retunePrepare r) s = .next ((u.setTunInfo t { u.tunInfo t with prep := some y }).answered u 0x0401 q 0 [])) ∧
  (∀ (s u : State) (r : Request) (q : Request) (t : Nat), s.passes 0x0401 q = true → u = s.begun 0x0401 q → q =
    requestWithByte r 0 2 → 4 ≤ q.pkt.params.length → t = leAt q.pkt.params 2 2 →
    exec (.retuneCancel r) s = .next ((u.setTunInfo t { u.tunInfo t with prep := none }).answered u 0x0401 q 0 [])) ∧
  (∀ (s u : State) (r : Request) (t : Nat), s.passes 0x0403 r = true → u = s.begun 0x0403 r → 2 ≤ r.pkt.params.length
    → t = leAt r.pkt.params 0 2 → t ≤ 1023 → u.tidValid t = true → u.isRoot = false →
    exec (.tunnelQuery r) s = .next (u.answered u 0x0403 r 0 (u.entryImage t))) ∧
  (∀ (s u : State) (r : Request) (t : Nat) (e : BookEntry), s.passes 0x0403 r = true → u = s.begun 0x0403 r → 2 ≤
    r.pkt.params.length → t = leAt r.pkt.params 0 2 → t ≤ 1023 → u.tidValid t = true → u.isRoot = true → u.book t =
    some e → e.retune = none →
    exec (.tunnelQuery r) s = .next (u.answered u 0x0403 r 0
        (u.entryImage t ++ e.rates.bytes ++ tapBytes e.taps ++ [byte (chainPath e.posA e.posB).length,
          byte (b2n (u.ring && e.charge.round)), 0, 0] ++
          ((chainPath e.posA e.posB).map byte ++ List.replicate 33 0xFF).take 33 ++ zeros 3 ++ zeros 10 ++ zeros 2 ++ zeros 24))) ∧
  (∀ (s u : State) (r : Request) (q : Request) (n : Nat) (x : State × Bytes), s.passes 0x0404 q = true → u = s.begun
    0x0404 q → q = requestWithByte r 0 2 → 4 ≤ q.pkt.params.length → n = leAt q.pkt.params 1 1 → 1 ≤ n → n ≤ 32 → leAt
    q.pkt.params 2 1 = 0 → u.isRoot = true → u.hostTunnels = false → x = u.sendChange 2 n 0 →
    exec (.routeSetLine r) s = .next (x.1.answered u 0x0404 q 0 x.2)) ∧
  (∀ (s u : State) (r : Request) (q : Request) (n : Nat) (x : State × Bytes), s.passes 0x0404 q = true → u = s.begun
    0x0404 q → q = requestWithByte r 0 0 → 4 ≤ q.pkt.params.length → n = leAt q.pkt.params 1 1 → n ≤ 32 → u.isRoot =
    true → x = u.sendChange 0 n 0 →
    exec (.routeSetCut r) s = .next (x.1.answered u 0x0404 q 0 x.2)) ∧
  (∀ (s u : State) (r : Request) (q : Request) (n : Nat) (x : State × Bytes), s.passes 0x0404 q = true → u = s.begun
    0x0404 q → q = requestWithByte r 0 1 → 4 ≤ q.pkt.params.length → n = leAt q.pkt.params 1 1 → n ≤ 32 → u.isRoot =
    true → x = u.sendChange 1 n 0 →
    exec (.routeSetRestore r) s = .next (x.1.answered u 0x0404 q 0 x.2)) ∧
  (∀ (s u : State) (r : Request) (n : Nat) (y : State), s.passes 0x0405 r = true → u = s.begun 0x0405 r → 4 ≤
    r.pkt.params.length → leAt r.pkt.params 1 1 = 0 → u.cmd.jobs.length < 2 → r.via ≠ .tid0 → n = u.cmd.lastJob % 255
    + 1 → (y = u.withCmd fun c =>
    { c with jobs := c.jobs ++ [{ num := n, opcode := 0x0405, kind := .audit (leAt r.pkt.params 0 1) 0 none }],
             lastJob := n }) →
    exec (.audit r) s = .next ((y.auditBegin n (leAt r.pkt.params 0 1) 0).answered u 0x0405 r 1 [byte n, 0, 0, 0])) ∧
  (∀ (s u : State) (r : Request) (t : Nat), s.passes 0x0406 r = true → u = s.begun 0x0406 r → 4 ≤ r.pkt.params.length
    → t = leAt r.pkt.params 0 1 → t ≤ 1 → leAt r.pkt.params 1 1 = 255 → u.flag (Reg.TLK_CTRL_ENABLED t) = false →
    exec (.trunkEnable r) s = .next ((u.trunkStart t).answered u 0x0406 r 0 [])) ∧
  (∀ (s u : State) (r : Request) (t : Nat), s.passes 0x0407 r = true → u = s.begun 0x0407 r → 4 ≤ r.pkt.params.length
    → t = leAt r.pkt.params 0 1 → t ≤ 1 →
    exec (.trunkDisable r) s = .next ((u.schedule r.via (.trunkDisable t)).answered u 0x0407 r 0 []))

/-- While the hub die runs and with the conditions named, HOP_REPLY_RECEIVED (OK, and the first failure),
INSTALL_PHASE_TIMEOUT, TUNNEL_DRAIN_END, RETUNE_APPLY, AUDIT_STATION_TIMEOUT, TRUNK_DISABLE_TAKE_EFFECT, the five line
records, ROUTE_CHANGE_APPLY, ROUTE_PAUSE_END, CUT_DEBOUNCE_END and HEAL_REPEAT answer exactly the next state written. -/
def Obligations.TunnelAndRouteEvents : Prop :=
  (∀ (s : State) (n : Fin 33) (b : Bytes) (p : Phase) (l : List Phase), s.hubOn = true → s.tun.phases = p :: l → p.seq
    = (parsePacket b).seq → n.val ∈ p.waiting → (parsePacket b).status = 0 →
    exec (.hopReplyReceived n b) s = .next ((s.setPhase p.tid (some
      { p with waiting := p.waiting.filter (· != n.val), ok := p.ok ++ [n.val] })).settlePhase p.tid)) ∧
  (∀ (s : State) (n : Fin 33) (b : Bytes) (p : Phase) (l : List Phase), s.hubOn = true → s.tun.phases = p :: l → p.seq
    = (parsePacket b).seq → n.val ∈ p.waiting → (parsePacket b).status ≠ 0 → p.failed = none →
    exec (.hopReplyReceived n b) s = .next ((s.setPhase p.tid (some
      { p with waiting := p.waiting.filter (· != n.val), failed := some (parsePacket b).status })).settlePhase p.tid)) ∧
  (∀ (s : State) (t : Fin 1024) (p : Phase), s.hubOn = true → s.phaseOf t = some p → p.kind ≠ .drain →
    exec (.installPhaseTimeout t) s = .next ((s.endPhase p).settlePhase t)) ∧
  (∀ (s : State) (t : Fin 1024) (p : Phase) (e : BookEntry), s.hubOn = true → s.phaseOf t = some p → p.kind = .drain →
    p.entry = some e →
    exec (.tunnelDrainEnd t) s = .next ((s.beginPhase .remove t p.req (some e) none (s.chargedPositions e) (fun s k q
      => s.sendClose t k 1 q)).settlePhase t)) ∧
  (∀ (s : State) (t : Fin 1024), s.hubOn = true → exec (.retuneApply t) s = .next (s.retuneEpoch t)) ∧
  (∀ (s : State) (n : Fin 33) (a : LineAudit), s.hubOn = true → s.tun.audit = some a → n.val ∈ a.waiting → n.val ≠ 32
    →
    exec (.auditStationTimeout n) s = .next ((s.withTun fun x =>
      { x with audit := some { a with waiting := a.waiting.filter (· != n.val) } }).wr Reg.TUN_AUDIT_POS_LO_POS
      (setBit (s.rd Reg.TUN_AUDIT_POS_LO_POS) n))) ∧
  (∀ (s : State) (v : Transport) (t : Nat) (l : List Waiting), s.hubOn = true → s.cmd.waiting =
    { via := v, act := .trunkDisable t, handed := true } :: l →
    exec .trunkDisableTakeEffect s = .next ((s.withCmd fun c => { c with waiting := l }).trunkDisable t)) ∧
  (∀ (s y : State) (b : Bytes) (h : BitVec 6), s.hubOn = true → s.isRoot = false → s.position = 0 → 1 ≤ leAt b 1 1 →
    leAt b 1 1 ≤ 32 → y = ((((s.count 0x056).setPosition (leAt b 1 1)).rerouted).sendRecord none 0 ([0xE2, byte (leAt
    b 1 1)] ++ le 4 (((s.count 0x056).setPosition (leAt b 1 1)).rerouted.reg Reg.SYS_ID_A).toNat)) → y.mode ≠ 0 → leAt
    b 1 1 < 32 → y.linkActive 1 = true →
    exec (.assignRecord 0 b h) s = .next (y.sendAssign 1 (leAt b 1 1 + 1))) ∧
  (∀ (s : State) (t : Fin 2) (b : Bytes) (h : BitVec 6), s.hubOn = true → s.isRoot = true →
    exec (.announceRecord t b h) s = .next ((s.count 0x056).announced b)) ∧
  (∀ (s : State) (t : Fin 2) (b : Bytes) (h : BitVec 6), s.hubOn = true → s.isRoot = false →
    exec (.announceRecord t b h) s = .next (s.sendRecord none 0 b h.toNat)) ∧
  (∀ (s : State) (t : Fin 2) (b : Bytes) (h : BitVec 6), s.hubOn = true → s.recordSeen b = false → leAt b 1 1 ≤ 32 →
    exec (.healRecord t b h) s = .next ((((s.withTun fun n =>
      { n with heals := (leAt b 1 1, leAt b 2 1) :: n.heals }).setCut (leAt b 1 1) true)).forwardRecord t b h.toNat
      true)) ∧
  (∀ (s : State) (t : Fin 2) (b : Bytes) (h : BitVec 6), s.hubOn = true → s.recordSeen b = false →
    exec (.routeChange t b h) s = .next ((s.keepChange b).forwardRecord t b h.toNat true)) ∧
  (∀ (s : State) (t : Fin 2) (b : Bytes) (h : BitVec 6), s.hubOn = true → s.recordSeen b = false →
    exec (.clearRecord t b h) s = .next (((s.withTun fun n => { n with lastClear := some (leAt b 2 2) }).forwardRecord
      t b h.toNat true).applyClear (leAt b 1 1))) ∧
  (∀ (s : State) (k : BitVec 16) (c : RouteChange) (l : List RouteChange), s.hubOn = true → s.tun.pendingChanges = c
    :: l → c.number = k.toNat → ((c.at_ * 65536 : Nat) : Int) ≤ s.reading →
    exec (.routeChangeApply k) s = .next (s.applyChange c)) ∧
  (∀ (s : State) (t : Fin 1024), s.hubOn = true →
    exec (.routePauseEnd t) s = .next (s.withTun fun n => { n with paused := n.paused.filter (·.1 != t.val) })) ∧
  (∀ (s y w z : State) (t : Fin 2) (i : Nat), s.hubOn = true → s.rd (Reg.TLK_STAT_LSTATE t) = 0 → (s.link t).served =
    true → (y = (s.withLink t fun l => { l with served := false }).flushTrunk t) → y.cutIndex t = some i → w = (if bit
    y.cutSet i = true then y else y.setCut i true).notice 0x0401 [byte i, 0] → z = w.sendRecord (some (1 - t.val)) 63
    [0xE3, byte i, byte w.position, 0] →
    exec (.cutDebounceEnd t) s = .next (z.withTun fun n =>
      { n with repeats := (n.repeats.filter fun x => x.2.1 != 1 - t.val) ++ [(i, 1 - t.val, 1)] })) ∧
  (∀ (s : State) (t : Fin 2) (i k : Nat) (l : List (Nat × Nat × Nat)), s.hubOn = true → s.tun.repeats = (i, t.val, k)
    :: l → k < 2 →
    exec (.healRepeat t) s = .next ((s.sendRecord (some t.val) 63 [0xE3, byte i, byte s.position, byte k]).withTun fun
      n =>
      { n with repeats := ((s.sendRecord (some t.val) 63 [0xE3, byte i, byte s.position, byte k]).tun.repeats.filter fun x => x.2.1 != t.val) ++ [(i, t.val, k + 1)] })) ∧
  (∀ (s y : State) (t : Fin 2) (i : Nat) (l : List (Nat × Nat × Nat)), s.hubOn = true → s.tun.repeats = (i, t.val, 2)
    :: l → y = s.sendRecord (some t.val) 63 [0xE3, byte i, byte s.position, 2] →
    exec (.healRepeat t) s = .next (y.withTun fun n =>
      { n with repeats := y.tun.repeats.filter fun x => x.2.1 != t.val }))

/-- While the power die runs and with the conditions named, each of the eighteen events of the eFuse channels answers
exactly the next state written: requests, window, presence, the insertion delay, the pre-check, the ramp and its
timeout, power-good, the three trips, the retry decision, the end of HOLD, the clearing of the counts, damage and the
safe point of a profile. -/
def Obligations.EfuseEvents : Prop :=
  (∀ (s : State) (n : Fin 8) (b : Bool), s.nib.on = true → s.rd (Reg.EFU_CH_CTRL_SRC n) = 1 →
    exec (.efuseRequestChange n b) s = .next ((s.fuseAsk n fun x => { x with byPcie := b }).fuseServes n)) ∧
  (∀ (s : State) (n : Fin 8) (b : Bool), s.nib.on = true → s.rd (Reg.EFU_CH_CTRL_SRC n) = 2 →
    exec (.efuseRequestChange n b) s = .next ((s.fuseAsk n fun x => { x with byPd := b }).fuseServes n)) ∧
  (∀ (s : State) (n : Fin 8) (x : FuseSample), s.nib.on = true → n ≠ 0 →
    exec (.efuseInputWindowChange n x) s = .next (((s.sensed n x).fuseInput n x.vin).fuseServes n)) ∧
  (∀ (s : State) (x : FuseSample), s.nib.on = true → (s.sensed 0 x).intakeOk = false → (s.sensed 0 x).fuseWindow 0
    x.vin = true →
    exec (.efuseInputWindowChange 0 x) s = .next ((s.sensed 0 x).intakeEnter x.vin)) ∧
  (∀ (s : State) (n : Fin 8) (b : Bool), s.nib.on = true → 1 ≤ n.val → n.val ≤ 3 →
    exec (.efusePresenceChange n b) s = .next (((s.put (Reg.EFU_CH_STAT_PRES n) b).fuseFollow n).fuseServes n)) ∧
  (∀ (s : State) (n : Fin 8), s.nib.on = true → s.fuseState n = 3 → s.fuseInserted n = true →
    exec (.efuseInsertDelayEnd n) s = .next (s.fuseGo n 4)) ∧
  (∀ (s : State) (n : Fin 8) (x : FuseSample), s.nib.on = true → s.fuseState n = 4 →
    exec (.efusePrecheckEnd n x) s = .next ((((((s.wr (Reg.EFU_CH_IOUT_PEAK n) 0).sensed n x).withFuse n fun f =>
      { f with timers := [] })).fuseGo n 5).fuseGate n 1)) ∧
  (∀ (s : State) (n : Fin 8) (x : FuseSample), s.nib.on = true → s.fuseState n = 5 → (s.fuse n).deciding = false →
    x.vds < 300 →
    exec (.efuseRampDone n x) s = .next ((s.sensed n x).fuseGo n 6)) ∧
  (∀ (s : State) (n : Fin 8) (x : FuseSample), s.nib.on = true → s.fuseState n = 5 → (s.fuse n).deciding = false →
    exec (.efuseRampTimeout n x) s = .next (s.tripAll n 4 none x)) ∧
  (∀ (s : State) (n : Fin 8) (k : Fin 16) (x : FuseSample) (p : Bytes), s.nib.on = true → s.fuseState n = 6 → (s.fuse
    n).deciding = false → s.fuseProfile n = some p → k.val < profPoints p →
    exec (.efuseCurveTrip n k x) s = .next (s.tripAll n 2 (some k.val) x)) ∧
  (∀ (s : State) (n : Fin 8) (x : FuseSample), s.nib.on = true → s.fuseState n = 5 ∨ s.fuseState n = 6 → (s.fuse
    n).deciding = false →
    exec (.efuseFastTrip n x) s = .next (s.tripAll n 1 none x)) ∧
  (∀ (s : State) (n : Fin 8) (x : FuseSample) (p : Bytes), s.nib.on = true → s.fuseState n = 5 ∨ s.fuseState n = 6 →
    (s.fuse n).deciding = false → s.fuseProfile n = some p →
    exec (.efuseSoaTrip n x) s = .next ((s.setSoa n (profEMax p * 1000000)).tripAll n 3 none x)) ∧
  (∀ (s : State) (n : Fin 8), s.nib.on = true → (s.fuse n).deciding = true →
    exec (.efuseRetryDecision n) s = .next ((s.fuseDecide n).fuseServes n)) ∧
  (∀ (s y : State) (n : Fin 8), s.nib.on = true → s.fuseState n = 7 → n.val < 4 → y = s.wr
    (Reg.EFU_CH_RETRY_HOLD_LEFT_MS n) 0 →
    exec (.efuseHoldEnd n) s = .next (((y.fuseGo n (if y.fuseRequested n then 2 else 0)).fuseFollow n).fuseServes n)) ∧
  (∀ (s : State) (n : Fin 8) (x : FuseSample) (p : Bytes), s.nib.on = true → s.fuseState n = 6 → (s.fuse n).deciding =
    false → s.flag (Reg.EFU_CH_STAT_PG n) = false → s.fuseProfile n = some p → x.vds ≤ profVdsMax p → s.fuseOutputOk n
    x.vout = true → n.val < 4 →
    exec (.efusePgRise n x) s = .next
        (((((((s.sensed n x).fusePg n true).withFuse n fun f => { f with moving := false })).put (Reg.EFU_CH_STAT_WINDOW n)
          ((((s.sensed n x).fusePg n true).withFuse n fun f => { f with moving := false }).fuseWindow n x.vin)).fuseNotice
          n 6 6).fuseServes n)) ∧
  (∀ (s : State) (n : Fin 8) (x : FuseSample) (p : Bytes), s.nib.on = true → s.fuseState n = 6 → s.flag
    (Reg.EFU_CH_STAT_PG n) = true → s.fuseProfile n = some p → profVdsMax p < x.vds ∨ s.fuseOutputOk n x.vout = false
    →
    exec (.efusePgFall n x) s = .next (((s.sensed n x).fusePg n false).fuseNotice n 6 6)) ∧
  (∀ (s : State) (n : Fin 8), s.nib.on = true → s.flag (Reg.EFU_CH_STAT_PG n) = true → s.rd (Reg.EFU_CH_RETRY_USED n)
    ≠ 0 →
    exec (.retryClearExpiry n) s = .next ((((s.wr (Reg.EFU_CH_RETRY_USED n) 0).wr (Reg.EFU_CH_RETRY_LEFT n) (s.rd
      (Reg.EFU_CH_RETRY_LIMIT n)))).notice 0x0843 [byte n, byte (s.rd (Reg.EFU_CH_RETRY_LIMIT n))])) ∧
  (∀ (s : State) (n : Fin 8) (x : FuseSample) (y : State), s.nib.on = true → s.fuseState n = 6 → (s.fuse n).deciding =
    false → n.val < 4 → y = (((((s.sensed n x).wr (Reg.EFU_CH_STAT_CAUSE n) 7).wr (Reg.EFU_CH_RETRY_HOLD_LEFT_MS n)
    0))) → y.fuseState n ≠ 8 →
    exec (.efuseDamageDetect n 2 x) s = .next
        ((((((y.fuseGo n 8).count (0x285 + 8 * n))).count (0x287 + 8 * n)).notice 0x0841
          ([byte n, byte 7] ++ le 2 (min 0xFFFF x.vds) ++ le 2
            (min 0xFFFF ((((y.fuseGo n 8).count (0x285 + 8 * n)).count (0x287 + 8 * n)).rd (Reg.EFU_CH_IOUT_I n))))).fuseServes n)) ∧
  (∀ (s : State) (n : Fin 8) (x : FuseSample) (p o : Bytes), s.nib.on = true → (s.fuse n).shadow = some p →
    s.fuseProfile n = some o → s.fuseState n = 6 → (s.fuse n).deciding = false → x.i ≤ min (profI p 0) (profI o 0) →
    (s.fuse n).timers.all (· == 0) = true →
    exec (.profileSafePoint n x) s = .next ((s.sensed n x).takeProfile n p))

/-- For packets that pass every check of R50 before the opcode's own, outside RECOVERY where the rule asks it, and with
the conditions named, EFUSE_CONTROL (OFF, ON, CLEAR from LATCHED, STATUS, TEST), EFUSE_CURVE_LOAD, PD_TABLE_LOAD,
PD_PORT_CONTROL (all five operations), PATTERN_CONFIG, LOOPBACK_SET and ERROR_INJECT (one error, a rate) answer
exactly the next state and reply written; ERROR_INJECT_INTERVAL injects one. What EFUSE_CONTROL TEST measures is a
free value. -/
def Obligations.PowerAndTestCommands : Prop :=
  (∀ (s u : State) (r : Request) (q : Request) (n : Nat) (t : State), s.passes 0x0803 q = true → u = s.begun 0x0803 q
    → q = requestWithByte r 1 0 → 4 ≤ q.pkt.params.length → n = leAt q.pkt.params 0 1 → n ≤ 7 → u.mode ≠ 0 →
    u.nib.underTest.contains (0x70 + n) = false → u.rd (Reg.EFU_CH_CTRL_SRC n) = 0 → (t = ((u.fuseAsk n fun x =>
    { x with byCommand := false }).fuseServes n)) →
    exec (.efuseControlOff r) s = .next (t.answered u 0x0803 q 0 (t.fuseReply n))) ∧
  (∀ (s u : State) (r : Request) (q : Request) (n : Nat) (t : State), s.passes 0x0803 q = true → u = s.begun 0x0803 q
    → q = requestWithByte r 1 1 → 4 ≤ q.pkt.params.length → n = leAt q.pkt.params 0 1 → n ≤ 7 → u.mode ≠ 0 →
    u.nib.underTest.contains (0x70 + n) = false → u.rd (Reg.EFU_CH_CTRL_SRC n) = 0 → u.fuseState n ≠ 1 → (t =
    ((u.fuseAsk n fun x => { x with byCommand := true }).fuseServes n)) →
    exec (.efuseControlOn r) s = .next (t.answered u 0x0803 q 0 (t.fuseReply n))) ∧
  (∀ (s u : State) (r : Request) (q : Request) (n : Nat) (t y : State), s.passes 0x0803 q = true → u = s.begun 0x0803
    q → q = requestWithByte r 1 2 → 4 ≤ q.pkt.params.length → n = leAt q.pkt.params 0 1 → n ≤ 7 → u.mode ≠ 0 →
    u.fuseState n = 8 → n < 4 → y = ((u.fuseCountsReset n).clearShort n) → t = (((y.fuseGo n (if (y.fuseProfile
    n).isNone then 1 else if y.fuseRequested n then 2 else 0)).fuseFollow n).fuseServes n) →
    exec (.efuseControlClear r) s = .next (t.answered u 0x0803 q 0 (t.fuseReply n))) ∧
  (∀ (s u : State) (r : Request) (q : Request) (n : Nat) (t : State), s.passes 0x0803 q = true → u = s.begun 0x0803 q
    → q = requestWithByte r 1 2 → 4 ≤ q.pkt.params.length → n = leAt q.pkt.params 0 1 → n ≤ 7 → u.mode ≠ 0 →
    u.fuseState n = 0 → t = ((u.fuseCountsReset n).clearShort n) →
    exec (.efuseControlClear r) s = .next (t.answered u 0x0803 q 0 (t.fuseReply n))) ∧
  (∀ (s u : State) (r : Request) (q : Request) (n : Nat), s.passes 0x0803 q = true → u = s.begun 0x0803 q → q =
    requestWithByte r 1 3 → 4 ≤ q.pkt.params.length → n = leAt q.pkt.params 0 1 → n ≤ 7 → u.mode ≠ 0 →
    exec (.efuseControlStatus r) s = .next (u.answered u 0x0803 q 0 (u.fuseReply n))) ∧
  (∀ (s u : State) (r : Request) (q : Request) (n : Nat), s.passes 0x0803 q = true → u = s.begun 0x0803 q → q =
    requestWithByte r 1 4 → 4 ≤ q.pkt.params.length → n = leAt q.pkt.params 0 1 → n ≤ 7 → u.mode ≠ 0 → u.mode = 5 →
    u.nib.underTest.contains (0x70 + n) = true → u.fuseState n = 0 →
    exec (.efuseControlTest r) s = .next ((((u.free 16).2.free 1).2.free 1).2.answered u 0x0803 q 0 (((((u.free
      16).2.free 1).2.free 1).2.fuseReply n) ++ le 2 (u.free 16).1 ++ [byte ((u.free 16).2.free 1).1, byte (((u.free
      16).2.free 1).2.free 1).1]))) ∧
  (∀ (s u : State) (r : Request) (n : Nat) (p : Bytes), s.passes 0x0804 r = true → u = s.begun 0x0804 r → 172 ≤
    r.pkt.params.length → n = leAt r.pkt.params 0 1 → n ≤ 7 → p = slice r.pkt.params 4 168 → profileOk n p = true →
    u.mode ≠ 0 → leAt r.pkt.params 1 1 = 0 →
    exec (.efuseCurveLoad r) s = .next (((u.loadProfile n p).fuseServes n).answered u 0x0804 r 0 [byte (leAt p 0 1)])) ∧
  (∀ (s u : State) (r : Request) (p : Bytes), s.passes 0x0805 r = true → u = s.begun 0x0805 r → 80 ≤
    r.pkt.params.length → p = tableStored r.pkt.params → tableOk (r.pkt.params.take 80) = true → u.countedMw ≤ leAt p
    4 4 → bit (leAt p 0 1) 0 = false →
    exec (.pdTableLoad r) s = .next ((u.acceptTable p).answered u 0x0805 r 0 [])) ∧
  (∀ (s u : State) (r : Request) (q : Request) (n : Nat) (t : State), s.passes 0x0806 q = true → u = s.begun 0x0806 q
    → q = requestWithByte r 1 0 → 4 ≤ q.pkt.params.length → n = leAt q.pkt.params 0 1 → n ≤ 3 → u.mode ≠ 0 → (t =
    ((u.withTcPort n fun x => { x with disabled := true }).tcFollow n)) →
    exec (.pdPortControlDisable r) s = .next (t.answered u 0x0806 q 0 (le 4 (t.reg (Reg.TCPD_PORT_STAT_A n)).toNat ++
      le 4 (t.rd (Reg.TCPD_PORT_CONTRACT_MW n)) ++ le 4 (t.rd (Reg.TCPD_PORT_PEND_MW n)) ++ le 4 t.freeMw))) ∧
  (∀ (s u : State) (r : Request) (q : Request) (n : Nat) (t : State), s.passes 0x0806 q = true → u = s.begun 0x0806 q
    → q = requestWithByte r 1 1 → 4 ≤ q.pkt.params.length → n = leAt q.pkt.params 0 1 → n ≤ 3 → u.mode ≠ 0 → entryEn
    (u.tcPort n).entry = true → (t = ((u.withTcPort n fun x => { x with disabled := false }).tcFollow n)) →
    exec (.pdPortControlEnable r) s = .next (t.answered u 0x0806 q 0 (le 4 (t.reg (Reg.TCPD_PORT_STAT_A n)).toNat ++
      le 4 (t.rd (Reg.TCPD_PORT_CONTRACT_MW n)) ++ le 4 (t.rd (Reg.TCPD_PORT_PEND_MW n)) ++ le 4 t.freeMw))) ∧
  (∀ (s u : State) (r : Request) (q : Request) (n : Nat) (t : State), s.passes 0x0806 q = true → u = s.begun 0x0806 q
    → q = requestWithByte r 1 2 → 4 ≤ q.pkt.params.length → n = leAt q.pkt.params 0 1 → n ≤ 3 → u.mode ≠ 0 → u.tcState
    n = 4 ∨ u.tcState n = 5 → t = (u.sendOffer n) →
    exec (.pdPortControlReoffer r) s = .next (t.answered u 0x0806 q 0 (le 4 (t.reg (Reg.TCPD_PORT_STAT_A n)).toNat ++
      le 4 (t.rd (Reg.TCPD_PORT_CONTRACT_MW n)) ++ le 4 (t.rd (Reg.TCPD_PORT_PEND_MW n)) ++ le 4 t.freeMw))) ∧
  (∀ (s u : State) (r : Request) (q : Request) (n : Nat) (t : State), s.passes 0x0806 q = true → u = s.begun 0x0806 q
    → q = requestWithByte r 1 3 → 4 ≤ q.pkt.params.length → n = leAt q.pkt.params 0 1 → n ≤ 3 → u.mode ≠ 0 → u.tcLive
    n = true → t = (u.pdHardReset n 3) →
    exec (.pdPortControlHardReset r) s = .next (t.answered u 0x0806 q 0 (le 4 (t.reg (Reg.TCPD_PORT_STAT_A n)).toNat
      ++ le 4 (t.rd (Reg.TCPD_PORT_CONTRACT_MW n)) ++ le 4 (t.rd (Reg.TCPD_PORT_PEND_MW n)) ++ le 4 t.freeMw))) ∧
  (∀ (s u : State) (r : Request) (q : Request) (n : Nat) (t : State), s.passes 0x0806 q = true → u = s.begun 0x0806 q
    → q = requestWithByte r 1 4 → 4 ≤ q.pkt.params.length → n = leAt q.pkt.params 0 1 → n ≤ 3 → u.mode ≠ 0 → t = u →
    exec (.pdPortControlStatus r) s = .next (t.answered u 0x0806 q 0 (le 4 (t.reg (Reg.TCPD_PORT_STAT_A n)).toNat ++
      le 4 (t.rd (Reg.TCPD_PORT_CONTRACT_MW n)) ++ le 4 (t.rd (Reg.TCPD_PORT_PEND_MW n)) ++ le 4 t.freeMw))) ∧
  (∀ (s u : State) (r : Request) (t : Nat), s.passes 0x0902 r = true → u = s.begun 0x0902 r → 12 ≤ r.pkt.params.length
    → t = leAt r.pkt.params 0 1 → t ≤ 1 → u.trunkServiced t = true → leAt r.pkt.params 1 1 ≤ 31 → leAt r.pkt.params 2
    1 ≤ 4 → leAt r.pkt.params 3 1 ≤ 15 →
    exec (.patternConfig r) s = .next (((((List.range 5).filter (bit (leAt r.pkt.params 1 1))).foldl (fun (s : State)
      k => s.setPattern t k (leAt r.pkt.params 2 1) (leAt r.pkt.params 3 1)) u).settleTest t).answered u 0x0902 r 0
      [])) ∧
  (∀ (s u : State) (r : Request) (t : Nat) (x y : State), s.passes 0x0903 r = true → u = s.begun 0x0903 r → 2 ≤
    r.pkt.params.length → t = leAt r.pkt.params 0 1 → t ≤ 1 → u.trunkServiced t = true → leAt r.pkt.params 1 1 ≤ 3 → x
    = ((u.wr (Reg.TRL_LOOP_LOOP t) (leAt r.pkt.params 1 1)).settleTest t) → y = (if leAt r.pkt.params 1 1 = 1 ∨ leAt
    r.pkt.params 1 1 = 2 then x.put (Reg.TRL_STAT_CLK_VALID t) true else x) →
    exec (.loopbackSet r) s = .next (y.answered u 0x0903 r 0 [])) ∧
  (∀ (s u : State) (r : Request) (t : Nat), s.passes 0x0904 r = true → u = s.begun 0x0904 r → 9 ≤ r.pkt.params.length
    → t = leAt r.pkt.params 0 1 → t ≤ 1 → u.trunkServiced t = true → leAt r.pkt.params 1 1 ≤ 31 → leAt r.pkt.params 3
    1 ≤ 1 → leAt r.pkt.params 2 1 = 0 → 1 ≤ leAt r.pkt.params 4 1 → 64 ≤ leAt r.pkt.params 5 4 →
    exec (.errorInject r) s = .next ((u.injectNow t (leAt r.pkt.params 1 1) (leAt r.pkt.params 3 1) 1).answered u
      0x0904 r 0 [])) ∧
  (∀ (s u : State) (r : Request) (t : Nat) (j : Injection), s.passes 0x0904 r = true → u = s.begun 0x0904 r → 9 ≤
    r.pkt.params.length → t = leAt r.pkt.params 0 1 → t ≤ 1 → u.trunkServiced t = true → leAt r.pkt.params 1 1 ≤ 31 →
    leAt r.pkt.params 3 1 ≤ 1 → leAt r.pkt.params 2 1 = 2 → 1 ≤ leAt r.pkt.params 4 1 → 64 ≤ leAt r.pkt.params 5 4 → j
    =
    { lanes := leAt r.pkt.params 1 1, kind := 2, form := leAt r.pkt.params 3 1, count := leAt r.pkt.params 4 1,
      interval := leAt r.pkt.params 5 4 } →
    exec (.errorInject r) s = .next ((u.withLane t fun l => { l with inject := some j }).answered u 0x0904 r 0 [])) ∧
  (∀ (s : State) (t : Fin 2) (i : Injection), s.hubOn = true → (s.lane t).inject = some i →
    exec (.errorInjectInterval t) s = .next (s.injectNow t i.lanes i.form 1))

/-- While the power die runs and with the conditions named, TYPEC_RD_DETECT, TYPEC_ATTACH, TYPEC_DETACH, VBUS_DISCHARGED,
PD_REQUEST, SRC_TRANSITION_END, POWER_GOOD_TIMEOUT, HARD_RESET_RECEIVED, HARD_RESET_RECOVER, SOFT_RESET,
ROLE_SWAP_REQUEST, VCONN_SWAP_REQUEST, PARTNER_PS_RDY, VCONN_SOURCE_ON_END, CABLE_DISCOVER_IDENTITY, VCONN_OVERCURRENT
and TCS_SOURCE_CAPABILITIES answer exactly the next state written. -/
def Obligations.TypeCEvents : Prop :=
  (∀ (s : State) (n : Fin 4) (c a : Bool), s.nib.on = true → s.tcState n = 1 →
    exec (.typecRdDetect n c a) s = .next (((s.put (Reg.TCPD_PORT_STAT_CC2 n) c).put (Reg.TCPD_PORT_STAT_RA n) a).tcGo
      n 2)) ∧
  (∀ (s y : State) (n : Fin 4), s.nib.on = true → s.tcState n = 2 → y = (s.count (0x258 + 8 * n.val)).tcTake n →
    exec (.typecAttach n) s = .next (y.notice 0x0820 [byte n, 1, byte (y.rd (Reg.TCPD_PORT_STAT_RP n)), byte (b2n
      (y.flag (Reg.TCPD_PORT_STAT_RA n)) + 2 * b2n (y.flag (Reg.TCPD_PORT_STAT_CC2 n)))])) ∧
  (∀ (s : State) (n : Fin 4), s.nib.on = true → s.tcState n = 2 → exec (.typecDetach n) s = .next (s.tcRest n)) ∧
  (∀ (s : State) (n : Fin 4), s.nib.on = true → s.tcState n = 9 →
    exec (.vbusDischarged n) s = .next (((s.tcSink n false).tcRest n).tcLeft n)) ∧
  (∀ (s : State) (n : Fin 4) (p : BitVec 4) (c : BitVec 10) (k m : Nat), s.nib.on = true → s.tcState n = 4 ∨ s.tcState
    n = 5 → 1 ≤ p.toNat → (s.tcPort n).offer[p.toNat - 1]? = some (k, m) → c.toNat ≤ m → k = (s.tcPort n).volt →
    pdoVolts k * c.toNat * 10 ≤ s.rd (Reg.TCPD_PORT_CONTRACT_MW n) →
    exec (.pdRequest n p c) s = .next (s.pdAccept n p.toNat k c.toNat (pdoVolts k * c.toNat * 10) 0)) ∧
  (∀ (s : State) (n : Fin 4) (p : BitVec 4) (c : BitVec 10) (k m : Nat), s.nib.on = true → s.tcState n = 4 ∨ s.tcState
    n = 5 → 1 ≤ p.toNat → (s.tcPort n).offer[p.toNat - 1]? = some (k, m) → c.toNat ≤ m → k ≠ (s.tcPort n).volt ∨ s.rd
    (Reg.TCPD_PORT_CONTRACT_MW n) < pdoVolts k * c.toNat * 10 → pdoVolts k * c.toNat * 10 ≤ s.freeMw →
    exec (.pdRequest n p c) s = .next (s.pdAccept n p.toNat k c.toNat (pdoVolts k * c.toNat * 10) (pdoVolts k *
      c.toNat * 10))) ∧
  (∀ (s : State) (n : Fin 4) (p : BitVec 4) (c : BitVec 10), s.nib.on = true → s.tcState n = 4 ∨ s.tcState n = 5 →
    p.toNat = 0 ∨ (s.tcPort n).offer[p.toNat - 1]? = none →
    exec (.pdRequest n p c) s = .next (s.pdReject n false)) ∧
  (∀ (s y : State) (n : Fin 4) (p k i m : Nat), s.nib.on = true → (s.tcPort n).next = some (p, k, i, m) → s.tcState n
    = 6 → (s.tcPort n).waitPg = false → s.rd (Reg.TCPD_PORT_STAT_VSEL n) ≤ k → (y = (s.withTcPort n fun x =>
    { x with waitPg := true }).tcVsel n k) → y.flag (Reg.TCPD_PORT_STAT_PG n) = false →
    exec (.srcTransitionEnd n) s = .next y) ∧
  (∀ (s : State) (n : Fin 4), s.nib.on = true → s.tcState n = 6 → (s.tcPort n).waitPg = true →
    exec (.powerGoodTimeout n) s = .next ((s.count (0x25D + 8 * n.val)).pdHardReset n 2)) ∧
  (∀ (s : State) (n : Fin 5), s.nib.on = true → n.val < 4 → s.tcLive n = true →
    exec (.hardResetReceived n) s = .next (s.pdHardReset n 1)) ∧
  (∀ (s : State), s.nib.on = true → s.tcsPresent = true →
    exec (.hardResetReceived 4) s = .next ((((((s.wr Reg.TCPD_TCS_STAT_STATE 3).wr Reg.TCPD_TCS_STAT_PDO 0).wr
      Reg.TCPD_TCS_STAT_CONTRACT_MW 0).count 0x27A).notice 0x0823 [4, 1, 0, 0]))) ∧
  (∀ (s : State) (n : Fin 5), s.nib.on = true → n.val < 4 → s.tcState n = 7 →
    exec (.hardResetRecover n) s = .next (s.hardResetRecover n)) ∧
  (∀ (s : State) (n : Fin 5), s.nib.on = true → n.val < 4 → 4 ≤ s.tcState n → s.tcState n ≤ 5 →
    exec (.softReset n) s = .next (((s.withTcPort n fun x => { x with swap := 0 }).emit (.pd n "ACCEPT" []
      [])).sendOffer n)) ∧
  (∀ (s : State) (n : Fin 5) (b : Bool), s.nib.on = true → n.val < 4 → s.tcLive n = true →
    exec (.roleSwapRequest n b) s = .next (s.emit (.pd n "REJECT" [b2n b] []))) ∧
  (∀ (s : State) (n : Fin 5), s.nib.on = true → n.val < 4 → s.tcState n = 5 → (s.tcPort n).swap = 0 → entrySwap
    (s.tcPort n).entry = true → (s.emit (.pd n "ACCEPT" [] [])).flag (Reg.TCPD_PORT_STAT_VCONN_PARTNER n) = true →
    exec (.vconnSwapRequest n) s = .next (((s.emit (.pd n "ACCEPT" [] [])).tcVconn n true).withTcPort n fun x =>
      { x with swap := 2 })) ∧
  (∀ (s : State) (n : Fin 4), s.nib.on = true → (s.tcPort n).swap = 1 →
    exec (.partnerPsRdy n) s = .next ((s.tcVconn n false).vconnSwapped n true)) ∧
  (∀ (s : State) (n : Fin 4), s.nib.on = true → (s.tcPort n).swap = 2 →
    exec (.vconnSourceOnEnd n) s = .next ((s.emit (.pd n "PS_RDY" [] [])).vconnSwapped n false)) ∧
  (∀ (s y : State) (n : Fin 4) (b : Bool), s.nib.on = true → s.tcLive n = true → s.flag (Reg.TCPD_PORT_STAT_VCONN_ON
    n) = true → y = s.put (Reg.TCPD_PORT_STAT_CABLE_5A n) b → y.tcState n ≠ 6 → y.offerNow n ≠ (y.tcPort n).offer →
    exec (.cableDiscoverIdentity n b) s = .next (y.sendOffer n)) ∧
  (∀ (s : State) (n : Fin 4), s.nib.on = true → s.flag (Reg.TCPD_PORT_STAT_VCONN_ON n) = true →
    exec (.vconnOvercurrent n) s = .next ((s.tcVconn n false).notice 0x0825 [byte n, 2])) ∧
  (∀ (s y z : State) (p : Fin 3) (i : Nat), s.nib.on = true → s.tcsPresent = true → y = s.wr Reg.TCPD_TCS_STAT_RP_SEEN
    p.val → y.tc.tflags = 0 → z = ((((y.emit (.pd 4 "REQUEST" [1, min i (if 5000 * i ≥ 750000 then 300 else i)]
    [])).wr Reg.TCPD_TCS_STAT_STATE 2).wr Reg.TCPD_TCS_STAT_PDO 1).wr Reg.TCPD_TCS_STAT_CONTRACT_MW (min 15000 (5000 *
    (min i (if 5000 * i ≥ 750000 then 300 else i)) / 100))).count 0x279 → z.nib.onTcs = false →
    exec (.tcsSourceCapabilities p [(5000, i)]) s = .next z.tcsRises)

/-- While the hub die runs and with the conditions named, RX_CLOCK_VALID, RX_CLOCK_LOST, CLOCK_SOURCE_REVERT,
POISON_HOLD_END, CLOCK_LOCK_ACHIEVED, BIT_LOCK_ACHIEVED, TRAIN_A (in EXCHANGE, and from a far end gone back to
DETECT), TRAIN_B, ALIGN in ON, STEER, CONFIRM_WINDOW_END, TRAINING_STATE_TIMEOUT and TRAIN_FAIL_BACKOFF_END answer
exactly the next state written. -/
def Obligations.LaneTrainingEvents : Prop :=
  (∀ (s : State) (t : Fin 2) (y : State), s.hubOn = true → s.flag (Reg.TLK_CTRL_ENABLED t) = true → y = s.put
    (Reg.TRL_STAT_CLK_VALID t) true → y.rxState t = 1 → (y.lane t).backoff = false →
    exec (.rxClockValid t) s = .next (y.toClockLock t)) ∧
  (∀ (s : State) (t : Fin 2) (y : State), s.hubOn = true → s.flag (Reg.TRL_STAT_CLK_VALID t) = true → y = (s.put
    (Reg.TRL_STAT_CLK_VALID t) false).notice 0x0A08 [byte t] → y.rxState t ≠ 0 → y.rxState t ≠ 12 → y.rxState t ≠ 13 →
    exec (.rxClockLost t) s = .next ((y.toDetect t).clockSelect)) ∧
  (∀ (s : State) (t : Fin 2) (d : Nat), s.hubOn = true → s.clk.candidate = some t.val → s.clockOffer t = some d →
    exec (.clockSourceRevert t) s = .next (s.setSource (t + 1) (d + 1))) ∧
  (∀ (s : State), s.hubOn = true → s.flag (Reg.TRL_CLK_POISON 0) = true →
    exec .poisonHoldEnd s = .next ((s.wrBoth Reg.TRL_CLK_POISON 0).clockSelect)) ∧
  (∀ (s : State) (t : Fin 2), s.hubOn = true → s.rxState t = 2 →
    exec (.clockLockAchieved t) s = .next (((s.wr (Reg.TRL_HEALTH_FAILED t) 0).wr (Reg.TRL_HEALTH_MARGINAL t)
      0).setBoth t 3)) ∧
  (∀ (s : State) (t : Fin 2) (a b : BitVec 5) (y z : State), s.hubOn = true → s.rxState t = 3 → a ≠ 0 → (y = (s.wr
    (Reg.TRL_STAT_POLARITY t) b.toNat).withLane t fun l => { l with locked := a.toNat, goodA := 0 }) → (z =
    ((List.range 5).filter (bit a.toNat)).foldl (fun (m : State) i => m.adapted t (m.pairLane t i)) y) →
    exec (.bitLockAchieved t a b) s = .next ((z.failAll t ((((List.range 5).filter fun i => !a.toNat.testBit i).map
      (z.pairLane t)).foldl setBit 0) 4).setBoth t 4)) ∧
  (∀ (s y : State) (t : Fin 2) (sets : List Bytes) (k : Nat) (b : Bytes) (l : List (Nat × Bytes)) (z w : State),
    s.hubOn = true → s.readSets t sets = (y, (k, b) :: l) → y.rxState t = 4 → (z = (((y.setReversed t (lanesReversed
    sets)).withLane t fun l =>
    { l with farWidth := min 2 (bits (leAt b 9 1) 2 1), farPrecode := bit (leAt b 9 1) 0 }).takeDist t (leAt b 12 1)))
    → z.isRoot = false → leAt b 13 1 ≠ 13 → 4 ≤ leAt b 13 1 → (w = z.withLane t fun l =>
    { l with goodA := l.goodA + 1 }) → (w.lane t).goodA < 8 →
    exec (.trainA t sets) s = .next w) ∧
  (∀ (s y : State) (t : Fin 2) (sets : List Bytes) (k : Nat) (b : Bytes) (l : List (Nat × Bytes)), s.hubOn = true →
    s.readSets t sets = (y, (k, b) :: l) → 6 ≤ y.rxState t → y.rxState t ≤ 9 →
    exec (.trainA t sets) s = .next (y.toDetect t)) ∧
  (∀ (s y z v w : State) (t : Fin 2) (sets : List Bytes) (a c : BitVec 5) (new : List Nat) (l : List (Nat × Bytes)),
    s.hubOn = true → s.readSets t sets = (y, l) → y.rxState t = 5 → (z = ((l.map fun e => e.2.drop 8).eraseDups).foldl
    (fun (s : State) b => (s.onCoefficients t (leAt b 0 1) (leAt b 1 1)).withLane t fun l =>
    { l with farEqDone := if bit (leAt b 3 1) 0 && leAt b 0 1 < 5 then setBit l.farEqDone (leAt b 0 1) else l.farEqDone,
             precodeTx := leAt b 4 1 % 32 }) y) → (new = (List.range 5).filter fun p => a.toNat.testBit p && !bit
    (z.lane t).eqDone p) → (v = new.foldl (fun (s : State) p => (s.adapted t p).bendDfe t p (c.toNat.testBit p)) z) →
    (w = v.withLane t fun l => { l with eqDone := l.eqDone ||| a.toNat, precodeRx := v.precodeAsked t }) →
    exec (.trainB t sets a c) s = .next (if (w.healthy t).all (fun p => bit (w.lane t).eqDone p && bit (w.lane
      t).farEqDone p) then w.toDeskew t else w)) ∧
  (∀ (s y : State) (t : Fin 2) (sets : List Bytes) (k : Nat) (b : Bytes) (l : List (Nat × Bytes)) (m : Bool) (x :
    BitVec 5), s.hubOn = true → s.readSets t sets = (y, (k, b) :: l) → (y.setArrived t b).rxState t = 8 →
    exec (.alignOs t sets x m) s = .next ((((y.setArrived t b).compareInterval t m).onAlign t b).followRetrain t)) ∧
  (∀ (s y : State) (t : Fin 2) (sets : List Bytes) (k : Nat) (b : Bytes) (l : List (Nat × Bytes)) (m : Bool), s.hubOn
    = true → s.readSets t sets = (y, (k, b) :: l) → (y.setArrived t b).rxState t = 8 →
    exec (.steerOs t sets m) s = .next (((((y.setArrived t b).takeDist t (leAt b 11 1)).compareInterval t m).onSteer t
      (leAt b 8 1) (leAt b 9 1)).followRetrain t)) ∧
  (∀ (s : State) (t : Fin 2) (c : List Nat) (y : State), s.hubOn = true → s.rxState t = 7 → (∀ p, p < 5 → c.getD p 0 <
    256) → (y = (List.range 5).foldl (fun (s : State) p => s.wr (Reg.TRL_WIN_CORRECTED t p) (min 0xFFFF (c.getD p 0)))
    s) →
    exec (.confirmWindowEnd t c) s = .next (y.toOn t)) ∧
  (∀ (s : State) (t : Fin 2) (b : BitVec 5), s.hubOn = true → s.rxState t ∈ [2, 3, 4] →
    exec (.trainingStateTimeout t b) s = .next (s.toDetect t)) ∧
  (∀ (s : State) (t : Fin 2) (y : State), s.hubOn = true → (s.lane t).backoff = true → (y = s.withLane t fun l =>
    { l with backoff := false }) → y.rxState t = 1 → y.flag (Reg.TRL_STAT_CLK_VALID t) = true →
    exec (.trainFailBackoffEnd t) s = .next (y.toClockLock t))

/-- While the hub die runs and with the conditions named, HUSH_ENTER, DARK_ENTER, HUSH_IDLE_EXPIRY, LANE_OS_INTERVAL,
LANE_STATE_EXIT_DONE, RECAL_PERIOD_DUE, RECAL_ADAPT_DONE, LANE_LOCK_LOST, LANE_ERROR_WINDOW_END, FAST_RETRAIN_COMPLETE
(both directions) and FAILED_LANE_CLEAN_PERIOD answer exactly the next state written. -/
def Obligations.LaneStateEvents : Prop :=
  (∀ (s y : State) (t : Fin 2) (sets : List Bytes) (k : Nat) (b : Bytes) (l : List (Nat × Bytes)), s.hubOn = true →
    s.readSets t sets = (y, (k, b) :: l) → (y.setArrived t b).rxState t = 8 → leAt b 8 1 = 0 →
    exec (.hushEnter t sets) s = .next ((y.setArrived t b).rxIdle t 10)) ∧
  (∀ (s y : State) (t : Fin 2) (sets : List Bytes) (k : Nat) (b : Bytes) (l : List (Nat × Bytes)) (z : State), s.hubOn
    = true → s.readSets t sets = (y, (k, b) :: l) → (y.setArrived t b).rxState t = 8 → leAt b 8 1 = 0 → z =
    (y.setArrived t b).rxIdle t 11 →
    exec (.darkEnter t sets) s = .next (z.askDark t)) ∧
  (∀ (s : State) (t : Fin 2), s.hubOn = true → s.rd (Reg.TLK_CTRL_HUSH_IDLE t) ≠ 0 → s.lstate t = 2 →
    s.somethingToSend t = false → (s.link t).farIdle = true →
    exec (.hushIdleExpiry t) s = .next (s.beginEnter t 10)) ∧
  (∀ (s : State) (t : Fin 2) (k : Nat) (b : Bytes) (y z w : State), s.hubOn = true → s.nextSet t = some (k, b, y) → (z
    = y.emits ((List.range 5).map fun p => .trunk t "LANE_SET" [p] (laneSetWire ([0x96, 0x69, 0x96, 0x69, byte k, byte
    p, byte (setLogical (y.lane t) p), byte (y.lane t).seq] ++ b)))) → w = (z.restartCoding t).fillLanes t →
    exec (.laneOsInterval t) s = .next
        ((if (y.lane t).txState == 8 then w.merLaunch t (y.lane t).seq w.mer.raw else w).withLane t fun l =>
          { l with seq := (l.seq + 1) % 256, sinceHop := l.sinceHop + 1 })) ∧
  (∀ (s : State) (t : Fin 2), s.hubOn = true → s.rxState t = 10 →
    exec (.laneStateExitDone t false) s = .next ((((s.setRxState t 8).clockSelect).followLanes t).darkStep t)) ∧
  (∀ (s : State) (t : Fin 2), s.hubOn = true → s.rxState t = 11 → s.phasesValid t false = true →
    exec (.laneStateExitDone t false) s = .next (((((s.setRxState t 8).clockSelect).followLanes t).darkStep t).wake (8
      + t))) ∧
  (∀ (s : State) (t : Fin 2), s.hubOn = true → s.rxState t = 11 → s.phasesValid t false = false →
    exec (.laneStateExitDone t false) s = .next ((((s.dropSteering t).linkDown t 1).toClockLock t).wake (8 + t))) ∧
  (∀ (s : State) (t : Fin 2), s.hubOn = true → (s.lane t).txState = 10 →
    exec (.laneStateExitDone t true) s = .next (((((s.withLane t fun l =>
      { l with txState := 8, leaving := false }).merAwake t).clockSelect).followLanes t).darkStep t)) ∧
  (∀ (s : State) (t : Fin 2), s.hubOn = true → (s.lane t).txState = 11 → s.phasesValid t true = false →
    exec (.laneStateExitDone t true) s = .next (((s.dropSteering t).linkDown t 1).toClockLock t)) ∧
  (∀ (s : State) (t : Fin 2), s.hubOn = true → s.rd (Reg.TRL_CTRL_RECAL_PERIOD t) ≠ 0 →
    exec (.recalPeriodDue t) s = .next (s.startRound t)) ∧
  (∀ (s : State) (t : Fin 2) (r : Recal), s.hubOn = true → (s.lane t).recal = some r → r.step = 4 →
    exec (.recalAdaptDone t false) s = .next ((s.restoreLane t r.home r.saved).withLane t fun l =>
      { l with recal := some { r with step := 5 }, back := l.back ++ [(3, r.lane)] })) ∧
  (∀ (s : State) (t : Fin 2) (r : Recal), s.hubOn = true → (s.lane t).recal = some r → r.step = 4 →
    exec (.recalAdaptDone t true) s = .next (((s.adapted t r.home).measured t r.home).withLane t fun l =>
      { l with recal := some { r with step := 5 }, back := l.back ++ [(3, r.lane)] })) ∧
  (∀ (s : State) (t : Fin 2) (p : Fin 5), s.hubOn = true → s.rxState t = 8 ∨ s.rxState t = 9 →
    exec (.laneLockLost t p) s = .next (s.failLane t p 1)) ∧
  (∀ (s : State) (t : Fin 2), s.hubOn = true → s.rxState t = 8 → (∀ p, p < 5 → byVc (s.lane t).window p ≤ 256) →
    exec (.laneErrorWindowEnd t) s = .next
        ((List.range 5).foldl (fun (a : State) p =>
          (a.wr (Reg.TRL_WIN_CORRECTED t p) (min 0xFFFF (byVc (s.lane t).window p))).wr (Reg.TRL_HEALTH_MARGINAL t)
            (putBit (a.rd (Reg.TRL_HEALTH_MARGINAL t)) p false)) (s.withLane t fun l => { l with window := [] }))) ∧
  (∀ (s : State) (t : Fin 2) (w : Nat) (y : State), s.hubOn = true → (s.lane t).retrainTx = some w → (s.lane
    t).txState = 9 → (y = (s.withLane t fun l => { l with retrainTx := none, txState := 8 }).applyTxWidth t w) →
    exec (.fastRetrainComplete t true) s = .next ((((y.widthChanged t 1 (s.rd (Reg.TRL_STAT_TX_WIDTH t))
      w).followLanes t).markNarrow t).allotments)) ∧
  (∀ (s : State) (t : Fin 2) (w : Nat) (y : State), s.hubOn = true → s.rxState t = 9 → ([2, 1, 0].find? (fun k => k ≤
    (s.lane t).retrainRx.getD (s.rd (Reg.TRL_STAT_RX_WIDTH t)) && k ≤ s.widthMax t && k ≤ (s.lane t).farWidth && 2 ^ k
    ≤ (s.healthy t).length) = some w) → (y = ((s.applyWidth t w).withLane t fun l =>
    { l with retrainRx := none }).setRxState t 8) →
    exec (.fastRetrainComplete t false) s = .next (((((y.widthChanged t 0 (s.rd (Reg.TRL_STAT_RX_WIDTH t))
      w).followLanes t).setHold t false).markNarrow t).allotments)) ∧
  (∀ (s : State) (t : Fin 2) (p : Fin 5), s.hubOn = true → s.laneFailed t p = true → s.rxState t = 8 → (s.lane
    t).probe = none →
    exec (.failedLaneCleanPeriod t p true) s = .next (s.withLane t fun l => { l with probe := some p.val })) ∧
  (∀ (s : State) (t : Fin 2) (p : Fin 5) (c : List Nat), s.hubOn = true → s.rxState t = 8 → (s.lane t).probe = some
    p.val →
    exec (.confirmWindowEnd t c) s = .next (s.probeEnd t (c.getD p 0)))

/-- While the hub die runs and with the conditions named, RX_FLIT (an unreadable flit, and a good one), TX_FLIT_SLOT (in
INIT, RESET, ACTIVE and RETRAIN, and a need to send in HUSH or DARK), the five link ordered sets, REPLAY_TIMEOUT,
NAK_REARM_TIMEOUT, HOLD_TIMEOUT, CREDIT_MOVE_RESEND, CREDIT_MOVE_TIMEOUT, LINK_INIT_TIMEOUT and LINK_RESET_COMMAND
answer exactly the next state written. -/
def Obligations.LinkEvents : Prop :=
  (∀ (s : State) (t : Fin 2) (b : Bytes), s.hubOn = true → s.lstate t ≠ 0 → flitRead b = none → (s.count (trunkCounter
    t + 8)).linkLive t = true → (s.count (trunkCounter t + 8)).flag (Reg.TLK_STAT_HOLD_TX t) = false →
    exec (.rxFlit t b) s = .next ((s.count (trunkCounter t + 8)).nakOnce t)) ∧
  (∀ (s : State) (t : Fin 2) (b c : Bytes) (l : List Nat), s.hubOn = true → s.lstate t ≠ 0 → flitRead b = some (c, l,
    true) → (FlitHead.ofBytes c).good = true →
    exec (.rxFlit t b) s = .next ((s.correctedBytes t l).goodFlit t c)) ∧
  (∀ (s : State) (t : Fin 2), s.hubOn = true → (s.lane t).txState = 8 → s.lstate t = 1 →
    exec (.txFlitSlot t) s = .next ((s.withLink t fun l => { l with sinceSet := l.sinceSet + 1 }).initSlot t)) ∧
  (∀ (s : State) (t : Fin 2), s.hubOn = true → (s.lane t).txState = 8 → s.lstate t = 4 →
    exec (.txFlitSlot t) s = .next ((s.withLink t fun l => { l with sinceSet := l.sinceSet + 1 }).resetSlot t)) ∧
  (∀ (s : State) (t : Fin 2), s.hubOn = true → (s.lane t).txState = 8 → s.lstate t = 2 ∨ s.lstate t = 3 →
    exec (.txFlitSlot t) s = .next ((s.withLink t fun l => { l with sinceSet := l.sinceSet + 1 }).liveSlot t)) ∧
  (∀ (s : State) (t : Fin 2), s.hubOn = true → (s.lane t).txState = 10 ∨ (s.lane t).txState = 11 → s.somethingToSend t
    = true → s.mode ≠ 2 → (s.lane t).leaving = false →
    exec (.txFlitSlot t) s = .next (((s.withLane t fun l => { l with leaving := true }).emit (.trunk t "LEAVE"
      [(s.lane t).txState] [])).excluded t)) ∧
  (∀ (s : State) (t : Fin 2) (b : Bytes), s.hubOn = true → s.lstate t = 1 →
    exec (.linkInit t b) s = .next ((s.withLink t fun l =>
      { l with initSeen := l.initSeen || (leAt b 0 1 == s.rd (Reg.TLK_STAT_INIT_ID t)),
               farSeen := l.farSeen || bit (leAt b 11 1) 0, farPos := leAt b 1 1 % 64,
               grants := [0, 1, 2, 3].map fun v => leAt b (3 + 2 * v) 2 }).tryActive t)) ∧
  (∀ (s : State) (t : Fin 2) (b : Bytes), s.hubOn = true → s.linkLive t = true → (s.link t).lastMove = some (leAt b 0
    1) →
    exec (.creditMove t b) s = .next (s.withLink t fun l => { l with moveAck := some (leAt b 0 1) })) ∧
  (∀ (s : State) (t : Fin 2) (b : Bytes) (y : State), s.hubOn = true → s.linkLive t = true → (s.link t).lastMove ≠
    some (leAt b 0 1) → (y = [0, 1, 2, 3].foldl (fun (s : State) v => s.setCredit t v (s.credit t v + toSigned 16
    (leAt b (1 + 2 * v) 2))) s) →
    exec (.creditMove t b) s = .next
        ((y.withLink t fun l => { l with
          lastMove := some (leAt b 0 1)
          granted := [0, 1, 2, 3].foldl (fun x v => Table.set (fun _ => 0) x v (leAt b (9 + 2 * v) 2)) l.granted }).withLink t
            fun l => { l with moveAck := some (leAt b 0 1) })) ∧
  (∀ (s : State) (t : Fin 2) (b : Bytes) (d : List Int) (n : List Nat) (y : State), s.hubOn = true → (s.link t).move =
    some (d, n) → s.flag (Reg.TLK_MOVE_PENDING t) = true → leAt b 0 1 = s.rd (Reg.TLK_MOVE_MOVE_ID t) → (y = [0, 1, 2,
    3].foldl (fun (s : State) v => if d.getD v 0 < 0 then s.wr (Reg.TLK_ALLOT_ACTIVE t v) (n.getD v 0) else s) s) →
    exec (.creditMoveAck t b) s = .next ((((y.put (Reg.TLK_MOVE_PENDING t) false).incr (Reg.TLK_MOVE_DONE t)).withLink
      t fun l => { l with move := none, moveDue := false }).tryReport t)) ∧
  (∀ (s u : State) (t : Fin 2), s.hubOn = true → s.lstate t = 2 ∨ s.lstate t = 3 ∨ s.lstate t = 5 → u = (s.discardLink
    t).1 →
    exec (.linkReset t) s = .next
        (((((u.incr (Reg.TLK_STAT_INIT_ID t)).bump (Reg.TLK_STAT_RESETS t)).withLink t fun l =>
          { l with resets := 4, resetReason := 4 }).setLstate t 4).notice
          0x0A22 ([byte t, 4] ++ le 2 (s.link t).replay.length ++ le 2 (s.discardLink t).2))) ∧
  (∀ (s : State) (t : Fin 2) (b : Bytes), s.hubOn = true → s.linkLive t = true →
    exec (.creditReport t b) s = .next ((s.withLink t fun l => if leAt b 0 1 == l.reportId then
      { l with report := some b } else
      { l with report := some b, reportId := leAt b 0 1, reportDue := true }).tryReport t)) ∧
  (∀ (s : State) (t : Fin 2), s.hubOn = true → s.lstate t = 2 ∨ s.lstate t = 3 → (s.link t).replay ≠ [] → s.flag
    (Reg.TLK_STAT_HOLD_TX t) = false →
    exec (.replayTimeout t) s = .next (s.startReplay t true)) ∧
  (∀ (s : State) (t : Fin 2), s.hubOn = true →
    exec (.nakRearmTimeout t) s = .next (s.withLink t fun l => { l with nakArmed := true })) ∧
  (∀ (s : State) (t : Fin 2), s.hubOn = true → s.flag (Reg.TLK_STAT_HOLD_TX t) = true →
    exec (.holdTimeout t) s = .next (s.linkReset t 8)) ∧
  (∀ (s : State) (t : Fin 2), s.hubOn = true → s.flag (Reg.TLK_MOVE_PENDING t) = true → s.lstate t ≠ 3 →
    exec (.creditMoveResend t) s = .next (s.withLink t fun l => { l with moveDue := true })) ∧
  (∀ (s : State) (t : Fin 2), s.hubOn = true → s.flag (Reg.TLK_MOVE_PENDING t) = true → s.lstate t ≠ 3 →
    exec (.creditMoveTimeout t) s = .next (s.linkReset t 7)) ∧
  (∀ (s : State) (t : Fin 2) (y : State), s.hubOn = true → s.lstate t = 1 → (y = s.withLink t fun l =>
    { l with initFails := l.initFails + 1 }) → (y.link t).initFails < 4 →
    exec (.linkInitTimeout t) s = .next (y.linkReset t 6)) ∧
  (∀ (s : State) (t : Fin 2) (y : State), s.hubOn = true → s.lstate t = 1 → (y = s.withLink t fun l =>
    { l with initFails := l.initFails + 1 }) → 4 ≤ (y.link t).initFails →
    exec (.linkInitTimeout t) s = .next (((y.withLink t fun l => { l with initFails := 0 }).linkDown t 3).toDetect t)) ∧
  (∀ (s : State) (t : Fin 2), s.hubOn = true → exec (.linkResetCommand t) s = .next (s.linkReset t 5))

/-- While the hub die runs and with the conditions named, SEGMENT_ADMISSION (the ports up to its own in ascending order;
the oldest arrived segment is decided upon, and its admission or discard when it travels with SYS = 1 from a trunk),
CONTEXT_SEGMENT_START (the candidate that the scheduler chooses starts, the multicast head replicates, and none),
MULTICAST_HEAD_REPLICATE, RESIDUE_AGE_EXPIRY (AGE_US 0, and one aged entry), WRED_AVG_UPDATE, DESCRIPTOR_AGE_SWEEP,
SWC_SHLOW_CLR and POLICER_SNAPSHOT (a tunnel direction not policed here) answer exactly the next state written. -/
def Obligations.SwitchCoreEvents : Prop :=
  (∀ (s y : State) (p : Fin 32) (id : Nat) (rest : List Nat) (h : Held), s.hubOn = true → (∀ q, q < p.val → Table.get
    (fun _ => []) s.sw.arriving q = []) → (Table.get (fun _ => []) s.sw.arriving p.val = id :: rest) → (y = s.withSw
    fun w => { w with arriving := Table.set (fun _ => []) w.arriving p.val rest }) → y.seg? id = some h →
    exec (.segmentAdmission p) s = .next (y.decide_ id h)) ∧
  (∀ (s y : State) (p : Fin 32) (id : Nat) (rest : List Nat) (h : Held) (d : List Nat), s.hubOn = true → (∀ q, q <
    p.val → Table.get (fun _ => []) s.sw.arriving q = []) → (Table.get (fun _ => []) s.sw.arriving p.val = id :: rest)
    → (y = s.withSw fun w => { w with arriving := Table.set (fun _ => []) w.arriving p.val rest }) → y.seg? id = some
    h → h.input < 4 → h.seg.sys = true → y.target h (some (h.input / 2)) = .outputs d →
    exec (.segmentAdmission p) s = .next
        ((y.cometSelect id h d (y.targetQueue h d).1).admitted id { h with seg := { h.seg with color := 0 } } d)) ∧
  (∀ (s y : State) (p : Fin 32) (id : Nat) (rest : List Nat) (h : Held) (c : Nat), s.hubOn = true → (∀ q, q < p.val →
    Table.get (fun _ => []) s.sw.arriving q = []) → (Table.get (fun _ => []) s.sw.arriving p.val = id :: rest) → (y =
    s.withSw fun w => { w with arriving := Table.set (fun _ => []) w.arriving p.val rest }) → y.seg? id = some h →
    h.input < 4 → y.target h (some (h.input / 2)) = .discard c →
    exec (.segmentAdmission p) s = .next (((y.count c).cometSelect id h [] 0).reject id h 1 1)) ∧
  (∀ (s : State) (p : Fin 32), s.hubOn = true →
    exec (.segmentAdmission p) s = .next (if s.sw.arriving = [] then s else (List.range (p.val + 1)).foldl
      State.admitAt s)) ∧
  (∀ (s y z : State) (o : Fin 32) (c : Fin 4) (room : Bool) (k : Candidate), s.hubOn = true → y = s.parkFullNotice o c
    → (y.context o c).isSome = false → z = y.noteHolds o c → z.choose (portUnits room) o c = some k → k.source ≠
    .multicast →
    exec (.contextSegmentStart o c room) s = .next (z.startCandidate o c k)) ∧
  (∀ (s y z : State) (o : Fin 32) (c : Fin 4) (room : Bool) (k : Candidate), s.hubOn = true → y = s.parkFullNotice o c
    → (y.context o c).isSome = false → z = y.noteHolds o c → z.choose (portUnits room) o c = some k → k.source =
    .multicast →
    exec (.contextSegmentStart o c room) s = .next (z.replicate (portUnits room) k.held.input c)) ∧
  (∀ (s y : State) (o : Fin 32) (c : Fin 4) (room : Bool), s.hubOn = true → y = s.parkFullNotice o c → (y.context o
    c).isSome = true ∨ (y.noteHolds o c).choose (portUnits room) o c = none →
    exec (.contextSegmentStart o c room) s = .next (if (y.context o c).isSome = true then y else y.noteHolds o c)) ∧
  (∀ (s : State) (i : Fin 32) (c : Fin 4), s.hubOn = true →
    exec (.multicastHeadReplicate i c) s = .next (s.replicate (portUnits true) i c)) ∧
  (∀ (s : State) (i : Fin 32), s.hubOn = true → s.rd Reg.SWC_MCAST_AGE_US = 0 →
    exec (.residueAgeExpiry i) s = .next s) ∧
  (∀ (s t : State) (i : Fin 32) (r : Residue) (h : Held), s.hubOn = true → s.rd Reg.SWC_MCAST_AGE_US ≠ 0 → s.residue i
    = [r] → 4 ≤ r.output → r.entered + rawOfNs (1000 * s.rd Reg.SWC_MCAST_AGE_US) < s.mer.raw → s.seg? r.id = some h →
    t = s.setResidue i [] →
    exec (.residueAgeExpiry i) s = .next (((t.aged h [r.output]).cometAged r.id r.output).copyGone r.id
      r.output).wfqSettle) ∧
  (∀ (s : State), s.hubOn = true → exec .wredAvgUpdate s = .next s.wredUpdate) ∧
  (∀ (s : State), s.hubOn = true →
    exec .descriptorAgeSweep s = .next (s.withSw fun w =>
      { w with held := w.held.map fun e => (e.1, e.2.map fun h => if 32768 ≤ w.cycle - h.arrival then { h with ext := true } else h) })) ∧
  (∀ (s : State), s.hubOn = true → exec .swcShlowClr s = .next (s.wr Reg.SWC_SHLOW_LOW (s.poolSize - s.poolUsed))) ∧
  (∀ (s : State) (v : Word), s.hubOn = true → exec (.policerSnapshot v) s = .next (s.policerSnapshot v))

/-- While the hub die runs and with the conditions named, URG_STATE_CLEAR_TIMEOUT, URG_LONG_EXPIRY (URG_LONG_MS 0, at the
root, and at a station), COMPLETION_TIMEOUT, FUNCTION_LEVEL_RESET and FLR_DRAIN_END (busy, and not busy) answer
exactly the next state written. -/
def Obligations.UrgencyAndRequesterEvents : Prop :=
  (∀ (s : State) (tid : Fin 1024), s.hubOn = true → s.isRoot = true → tid.val ∈ s.sw.urgent →
    exec (.urgStateClearTimeout tid) s = .next (s.setUrgent tid false)) ∧
  (∀ (s : State) (tid : Fin 1024), s.hubOn = true → s.rd Reg.SCH_URG_LONG_MS = 0 →
    exec (.urgLongExpiry tid) s = .next s) ∧
  (∀ (s : State) (tid : Fin 1024), s.hubOn = true → s.rd Reg.SCH_URG_LONG_MS ≠ 0 → s.isRoot = true → tid.val ∈
    s.sw.urgent → tid.val ∉ s.sw.urgLong →
    exec (.urgLongExpiry tid) s = .next (({ s with sw := { s.sw with urgLong := s.sw.urgLong ++ [tid.val] } }).notice
      0x0441 (le 2 tid ++ [2]))) ∧
  (∀ (s : State) (tid : Fin 1024) (p : Nat), s.hubOn = true → s.rd Reg.SCH_URG_LONG_MS ≠ 0 → s.isRoot = false → ([0,
    1].find? (fun p => s.sfnTunnel p == some tid.val && s.flag (Reg.DSP_STAT_LOW p) && s.flag Reg.SCH_CTRL_URG_EN) =
    some p) → p ∉ s.sw.urgLong →
    exec (.urgLongExpiry tid) s = .next (({ s with sw := { s.sw with urgLong := s.sw.urgLong ++ [p] } }).notice 0x0441
      (le 2 tid ++ [byte p]))) ∧
  (∀ (s : State) (tag : Fin 1024) (t : SfnTag), s.hubOn = true → (s.pcie.tags.find? (fun t => t.tag == tag.val) = some
    t) →
    exec (.completionTimeout tag) s = .next ((s.tagTimeout t).sfnDone t none)) ∧
  (∀ (s : State), s.hubOn = true → s.isRoot = false →
    exec .functionLevelReset s = .next (s.put Reg.SFN_STAT_FLR_BUSY true)) ∧
  (∀ (s y : State), s.hubOn = true → s.flag Reg.SFN_STAT_FLR_BUSY = true → (y = ((s.setTags []).cfgReset 0).withPcie
    fun p => { p with want := [], pendingMsi := [] }) →
    exec .flrDrainEnd s = .next
        ((((y.withCmd fun c => { c with
          mbxIrqEn := false, mbxReplyLen := 0, mbxOverrun := false, mbxDone := false, mbxBusy := false }).setReg
          Reg.SFN_STAT_A (regReset Reg.SFN_STAT_A)).put Reg.SFN_CTRL_BME false).put Reg.SFN_CTRL_TAG10 false)) ∧
  (∀ (s : State), s.hubOn = true → s.flag Reg.SFN_STAT_FLR_BUSY = false → exec .flrDrainEnd s = .next s)

/-- While the hub die runs and with the conditions named, PCIE_UPSTREAM_RESET (its semaphore, lines and pending reads),
PCIE_LINK_CHANGE (a change with Link Active, reported), VDP_DOWN_TIMEOUT, HOST_TLP_RECEIVED (good and bad),
DEVICE_TLP_RECEIVED (bad, a message, behind the lock, and wrapped) and NP_CREDIT_RETURN answer exactly the next state
written. -/
def Obligations.PortAndTlpEvents : Prop :=
  (∀ (s y : State), s.hubOn = true → s.isRoot = true → (∀ v, v < 64 → (s.vdp v).bound = false) → s.pcie.lines = [] →
    (y = (s.withPcie fun p => { p with cfg := [], reads := [], lockWait := [], npWait := [], intx := 0 })) →
    exec .pcieUpstreamReset s = .next ((y.setOutst []).setLock 0 none)) ∧
  (∀ (s y : State) (port : Fin 3) (l w v : BitVec 4), s.hubOn = true → s.isRoot = (port.val == 2) → y = (((s.wr
    (Reg.PCIE_STAT_LSTATE (s.pcieBlock port)) l.toNat).wr (Reg.PCIE_STAT_WIDTH (s.pcieBlock port)) w.toNat).wr
    (Reg.PCIE_STAT_SPEED (s.pcieBlock port)) v.toNat).put (Reg.PCIE_STAT_DL_ACTIVE (s.pcieBlock port)) true → (s.rd
    (Reg.PCIE_STAT_DL_ACTIVE (s.pcieBlock port)), s.rd (Reg.PCIE_STAT_WIDTH (s.pcieBlock port)), s.rd
    (Reg.PCIE_STAT_SPEED (s.pcieBlock port))) ≠ (1, w.toNat, v.toNat) →
    exec (.pcieLinkChange port l w v true) s = .next ((y.notice 0x0B01 [byte port.val, 1, byte w.toNat, byte
      v.toNat]).sendLevels (s.pcieBlock port))) ∧
  (∀ (s : State) (v : Fin 64), s.hubOn = true → (s.vdp v).bound = true → s.route (s.vdp v).position = .drop →
    exec (.vdpDownTimeout v) s = .next ((s.setVdp v { s.vdp v with dropped := true }).vdpUpdate v)) ∧
  (∀ (s : State) (b : Bytes), s.hubOn = true → s.isRoot = true →
    exec (.hostTlpReceived b true) s = .next (s.hostTlp b)) ∧
  (∀ (s : State) (b : Bytes), s.hubOn = true → s.isRoot = true →
    exec (.hostTlpReceived b false) s = .next (s.count 0x131)) ∧
  (∀ (s : State) (n : Fin 2) (b : Bytes), s.hubOn = true → s.isRoot = false →
    exec (.deviceTlpReceived n b false) s = .next (s.count (0x131 + 8 * n))) ∧
  (∀ (s : State) (n : Fin 2) (b : Bytes), s.hubOn = true → s.isRoot = false → tlpPrefixed b = true →
    exec (.deviceTlpReceived n b true) s = .next (s.count (0x131 + 8 * n))) ∧
  (∀ (s : State) (n : Fin 2) (b : Bytes), s.hubOn = true → s.isRoot = false → s.wrapping = true → s.unitOut (0x20 + n)
    = false → tlpPrefixed b = false → tlpKind b = .message → tlpMsgCode b ≠ 0x1B ∨ s.inEntry = false → tlpMsgCode b ≠
    0x18 →
    exec (.deviceTlpReceived n b true) s = .next (s.deviceMessage n b)) ∧
  (∀ (s : State) (n : Fin 2) (b : Bytes), s.hubOn = true → s.isRoot = false → s.wrapping = true → s.unitOut (0x20 + n)
    = false → tlpPrefixed b = false → tlpKind b = .message → tlpMsgCode b = 0x18 →
    exec (.deviceTlpReceived n b true) s = .next ((s.deviceMessage n b).wake 12)) ∧
  (∀ (s : State) (n : Fin 2) (b : Bytes), s.hubOn = true → s.isRoot = false → tlpPrefixed b = false → tlpKind b =
    .message → tlpMsgCode b = 0x1B → s.inEntry = true →
    exec (.deviceTlpReceived n b true) s = .next (s.pmeAnswered n)) ∧
  (∀ (s : State) (n : Fin 2) (b : Bytes), s.hubOn = true → s.isRoot = false → s.wrapping = true → s.unitOut (0x20 + n)
    = false → tlpPrefixed b = false → tlpNonPosted b = true → s.flag (Reg.PCIE_LOCK_HELD n) = true →
    exec (.deviceTlpReceived n b true) s = .next (s.setWaiting n ((s.side n).waiting ++ [b]))) ∧
  (∀ (s : State) (n : Fin 2) (b : Bytes), s.hubOn = true → s.isRoot = false → s.wrapping = true → s.unitOut (0x20 + n)
    = false → tlpPrefixed b = false → tlpKind b ≠ .message → (tlpNonPosted b && s.flag (Reg.PCIE_LOCK_HELD n)) = false
    →
    exec (.deviceTlpReceived n b true) s = .next (s.wrapDevice n b)) ∧
  (∀ (s : State) (n : Fin 2) (k : Nat), s.hubOn = true →
    exec (.npCreditReturn n k) s = .next (State.unpark (s.pcieBlock n) 2048 (s.withSide (s.pcieBlock n) fun x =>
      { x with credit := x.credit + k })))

/-- While the hub die runs and with the conditions named, LOCKED_READ (at the root and a station), UNLOCK (at the root and
a station), LOCK_TIMEOUT (at the root and a station), PREFETCH_LINE_ARRIVAL, PREFETCH_LINE_AGE, PREFETCH_WINDOW_WRITE,
LEVELS, CONTROL and SIDEBAND_REFRESH (at the root and a station) answer exactly the next state written. -/
def Obligations.LockPrefetchAndSideband : Prop :=
  (∀ (s : State) (n : Fin 2) (b : Bytes), s.hubOn = true → tlpKind b = .memReadLk → s.isRoot = true →
    exec (.lockedRead n b) s = .next (s.hostTlp b)) ∧
  (∀ (s : State) (n : Fin 2) (b : Bytes), s.hubOn = true → tlpKind b = .memReadLk → s.isRoot = false →
    exec (.lockedRead n b) s = .next (((s.setLock n (some (0, s.mer.raw))).count 0x147).sendNonPosted n b)) ∧
  (∀ (s : State) (n : Fin 2) (b : Bytes) (v r : Nat), s.hubOn = true → s.isRoot = true → s.pcie.lock = some (v, r) →
    exec (.unlockMsg n b) s = .next ((s.forward v b).releaseRoot)) ∧
  (∀ (s : State) (n : Fin 2) (b : Bytes), s.hubOn = true → s.isRoot = false →
    exec (.unlockMsg n b) s = .next ((s.toLink n b).releaseStation n)) ∧
  (∀ (s y : State) (n : Fin 2) (v r : Nat), s.hubOn = true → s.pcie.lock = some (v, r) → y = (s.count 0x148).notice
    0x0B04 ([byte v] ++ le 2 (orOne (s.rd (Reg.PCIE_CTRL_LOCK_MS (s.pcieBlock n))))) → s.isRoot = true → y.isRoot =
    true →
    exec (.lockTimeout n) s = .next y.releaseRoot) ∧
  (∀ (s y : State) (n : Fin 2) (v r : Nat), s.hubOn = true → s.pcie.lock = some (v, r) → y = (s.count 0x148).notice
    0x0B04 ([byte v] ++ le 2 (orOne (s.rd (Reg.PCIE_CTRL_LOCK_MS (s.pcieBlock n))))) → s.isRoot = false → s.flag
    (Reg.PCIE_LOCK_HELD n) = true → y.isRoot = false →
    exec (.lockTimeout n) s = .next (y.releaseStation n)) ∧
  (∀ (s : State) (b : Bytes), s.hubOn = true → exec (.prefetchLineArrival b) s = .next (s.lineArrived b)) ∧
  (∀ (s : State) (tag : Fin 1024) (l : PfLine) (r : Nat), s.hubOn = true → (s.pcie.lines.filter (fun l => l.tag ==
    tag.val) = [l]) → l.arrived = some r → r + rawOfNs (orOne (s.rd (Reg.PCIE_CTRL_PF_AGE 0)) * 10000) ≤ s.mer.raw →
    exec (.prefetchLineAge tag) s = .next (s.discardLine l)) ∧
  (∀ (s : State) (n : Fin 8) (v : Word), s.hubOn = true → s.isRoot = true →
    exec (.prefetchWindowWrite n v) s = .next ((s.setReg (Reg.PCIE_PFWIN_A_A 0 n) (v &&& 0xFFFFFF3F)).discardLines fun
      l => l.window == n)) ∧
  (∀ (s : State) (v : Fin 64) (b : Bytes), s.hubOn = true → s.isRoot = true →
    exec (.levelsMsg v b) s = .next (s.onLevels v b)) ∧
  (∀ (s y : State) (b : Bytes), s.hubOn = true → s.isRoot = false → leAt b 1 1 = 0x13 → (y = s.withSide 2 fun x =>
    { x with hotResets := leAt b 6 1 }) →
    exec (.controlMsg b) s = .next (if (s.side 2).hotResets = leAt b 6 1 then y else y.flrBegin)) ∧
  (∀ (s : State) (b : Bytes), s.hubOn = true → s.isRoot = false → exec (.controlMsg b) s = .next (s.onControl b)) ∧
  (∀ (s : State), s.hubOn = true → s.isRoot = true →
    exec .sidebandRefresh s = .next ((List.range 64).foldl (fun (s : State) v => s.sendControl v) s)) ∧
  (∀ (s : State), s.hubOn = true → s.isRoot = false →
    exec .sidebandRefresh s = .next ((s.sendLevels 0).sendLevels 1))

/-- While the hub die runs and with the conditions named, LATCH_EDGE (a running pipe with its tunnel in service),
DSP_COMMIT (running and stopped), PIPE_ENABLE (without frame lock, and of an enabled pipe), ACTIVE_LINE_START (past
the last active line, and a line that has come whole), FETCH_COMPLETION, DSP_FILLMIN_CLR and PROOF_MIS_CLR answer
exactly the next state written. -/
def Obligations.ScanOutEvents : Prop :=
  (∀ (s x y z : State) (p : Fin 2), s.hubOn = true → (s.pipe p).running = true → x = (s.incr (Reg.DSP_FRAME_FRAME
    p)).count (pipeCounter p 0) → (y = x.withPipe p fun q =>
    { q with substitute := q.failed, failed := false, edgeRaw := x.mer.raw }) → z = ((((y.put (Reg.DSP_STAT_VBLANK p)
    true).wr (Reg.DSP_LINE_LINE p) (y.vActive p)).clearLow p).pipeLatch p).lockEdge p → z.wrapping = true → z.pipeIn p
    = true →
    exec (.latchEdge p) s = .next (((z.frameFetch p).dpEdge p).lowCheck p)) ∧
  (∀ (s y : State) (p : Fin 2), s.hubOn = true → y = s.put (Reg.DSP_COMMIT_STAT_PENDING p) true → y.flag
    (Reg.DSP_CTRL_EN p) = true →
    exec (.dspCommit p) s = .next y) ∧
  (∀ (s y : State) (p : Fin 2), s.hubOn = true → y = s.put (Reg.DSP_COMMIT_STAT_PENDING p) true → y.flag
    (Reg.DSP_CTRL_EN p) = false →
    exec (.dspCommit p) s = .next (y.pipeLatch p)) ∧
  (∀ (s y z : State) (p : Fin 2), s.hubOn = true → s.flag (Reg.DSP_CTRL_EN p) = false → y = s.put (Reg.DSP_CTRL_EN p)
    true → y.flag (Reg.DSP_CTRL_EN p) = true → (y.pipe p).running = false → y.pipeIn p = true → y.wrapping = true → z
    = y.lockFollow p → z.rd (Reg.DSP_STAT_LOCK_STATE p) < 2 →
    exec (.pipeEnable p) s = .next ((z.withPipe p fun x => { x with running := true }).latchEdge p)) ∧
  (∀ (s : State) (p : Fin 2), s.hubOn = true → s.flag (Reg.DSP_CTRL_EN p) = true → exec (.pipeEnable p) s = .next s) ∧
  (∀ (s : State) (p : Fin 2), s.hubOn = true → (s.pipe p).running = true → s.vActive p ≤ (s.pipe p).next →
    exec (.activeLineStart p) s = .next s) ∧
  (∀ (s y z : State) (p : Fin 2) (l : PipeLine), s.hubOn = true → (s.pipe p).running = true → 0 < (s.pipe p).next → (s.pipe p).next < s.vActive p → ((s.pipe p).lines.find? (fun l => l.n == (s.pipe p).next && l.left == []) = some l) → y = (s.wr (Reg.DSP_LINE_LINE p) (s.pipe p).next).put (Reg.DSP_STAT_VBLANK p) false → (z = y.withPipe p fun x => { x with
      next := (s.pipe p).next + 1
      lines := x.lines.filter (fun l => l.n != (s.pipe p).next)
      reads := x.reads.map fun r => match r.2 with
        | .base m _ => if m == (s.pipe p).next then (r.1, .passed) else r
        | .overlay m _ => if m == (s.pipe p).next then (r.1, .passed) else r
        | _ => r }) →
    exec (.activeLineStart p) s = .next
        ((State.pipeFetch p 64 ((z.proofLine p (s.pipe p).next (y.compose p l)).showLine p (s.pipe p).next (y.compose p l))).lowCheck p)) ∧
  (∀ (s : State) (p : Fin 2) (a : Nat) (b : Bytes) (g : Bool), s.hubOn = true →
    exec (.fetchCompletion p a b g) s = .next ((s.sfnEnd p a).pipeArrived p a (if g then some b else none))) ∧
  (∀ (s : State) (p : Fin 2), s.hubOn = true →
    exec (.dspFillminClr p) s = .next (s.wr (Reg.DSP_FILLMIN_MIN p) (s.rd (Reg.DSP_STAT_FILL p)))) ∧
  (∀ (s : State) (p : Fin 2) (r : Fin 8), s.hubOn = true →
    exec (.proofMisClr p r) s = .next (s.wr (Reg.DSP_PR_MIS_MISMATCHES p r) 0))

/-- While the hub die runs and with the conditions named, DP_HPD_RISE (ready, and not enabled), DP_HPD_FALL (enabled, and
not), DP_IRQ_HPD (lock kept, and lost), DP_TRAINING_DONE (trained, and failed), DPO_RETRAIN, AUX_START (sent at once),
AUX_REPLY (ACK of a write, NACK, a first DEFER) and AUX_REPLY_TIMEOUT answer exactly the next state written. -/
def Obligations.DisplayPortEvents : Prop :=
  (∀ (s y : State) (k : Fin 4), s.hubOn = true → y = s.put (Reg.DPO_STAT_HPD k) true → y.dpReady k = true →
    exec (.dpHpdRise k) s = .next ((y.dpcdRead k 0 16).dpTrain k false)) ∧
  (∀ (s y : State) (k : Fin 4), s.hubOn = true → y = s.put (Reg.DPO_STAT_HPD k) true → y.dpReady k = false →
    exec (.dpHpdRise k) s = .next y) ∧
  (∀ (s y : State) (k : Fin 4), s.hubOn = true → (y = (((s.put (Reg.DPO_STAT_HPD k) false).put (Reg.DPO_STAT_TRAINED
    k) false).put (Reg.DPO_STAT_VIDEO k) false).withDp k fun x => { x with training := false, lost := false }) →
    exec (.dpHpdFall k) s = .next (if y.flag (Reg.DPO_CTRL_EN k) then y.dpNotice k 0 else y)) ∧
  (∀ (s : State) (k : Fin 4), s.hubOn = true → s.dpReady k = true →
    exec (.dpIrqHpd k false) s = .next (((s.dpcdRead k 0x202 6).put (Reg.DPO_STAT_IRQ_HPD k) true).dpNotice k 5)) ∧
  (∀ (s : State) (k : Fin 4), s.hubOn = true → s.dpReady k = true →
    exec (.dpIrqHpd k true) s = .next (((s.dpcdRead k 0x202 6).count (0x164 + k)).dpTrain k true)) ∧
  (∀ (s y : State) (k : Fin 4) (r n : BitVec 2), s.hubOn = true → (s.dpOut k).training = true → r.toNat ≤ s.rd
    (Reg.DPO_CTRL_MAX_RATE k) → n.toNat ≤ min 2 (s.rd (Reg.DPO_CTRL_MAX_LANES k)) → (y = ((((s.withDp k fun x =>
    { x with training := false, lost := false }).count (0x160 + k)).put (Reg.DPO_STAT_TRAINED k) true).wr
    (Reg.DPO_STAT_RATE k) r.toNat).wr (Reg.DPO_STAT_LANES k) n.toNat) →
    exec (.dpTrainingDone k true r n) s = .next ((if (s.dpOut k).lost then (y.put (Reg.DPO_STAT_LINK_LOSS k)
      true).dpNotice k 4 else y.dpNotice k 1).auxRelease k)) ∧
  (∀ (s : State) (k : Fin 4) (r n : BitVec 2), s.hubOn = true → (s.dpOut k).training = true →
    exec (.dpTrainingDone k false r n) s = .next ((((s.withDp k fun x =>
      { x with training := false, lost := false }).count (0x160 + k)).dpNotice k 2).auxRelease k)) ∧
  (∀ (s : State) (k : Fin 4), s.hubOn = true → s.dpReady k = true →
    exec (.dpoRetrain k) s = .next
        ((((s.put (Reg.DPO_STAT_TRAINED k) false).put (Reg.DPO_STAT_VIDEO k) false).withDp k fun x => { x with
          training := true, lost := false
          ssc := ((s.put (Reg.DPO_STAT_TRAINED k) false).put (Reg.DPO_STAT_VIDEO k) false).flag (Reg.DPO_CTRL_SSC k) }).emit
            (.display k "train" [b2n (((s.put (Reg.DPO_STAT_TRAINED k) false).put (Reg.DPO_STAT_VIDEO k) false).flag (Reg.DPO_CTRL_SSC k))] []))) ∧
  (∀ (s y : State) (k : Fin 4) (v : Word), s.hubOn = true → (y = [Reg.DPO_AUXCMD_CMD k, Reg.DPO_AUXCMD_LEN k,
    Reg.DPO_AUXCMD_ADDR k].foldl (fun (s : State) f => s.wr f (f.get v)) s) → (y.dpOut k).aux = none → y.rd
    (Reg.DPO_AUXCMD_CMD k) < 6 → (y.dpOut k).training = false →
    exec (.auxStart k v) s = .next (((y.withDp k fun x => { x with aux := some 0, auxHeld := false }).put
      (Reg.DPO_AUXSTAT_BUSY k) true).auxSend k)) ∧
  (∀ (s : State) (k : Fin 4) (b : Bytes) (d : Nat), s.hubOn = true → (s.dpOut k).aux = some d → (s.dpOut k).auxHeld =
    false → s.rd (Reg.DPO_AUXCMD_CMD k) ∈ [0, 2, 4] →
    exec (.auxReply k 0 b) s = .next (s.auxEnd k 0 (s.rd (Reg.DPO_AUXCMD_LEN k) + 1))) ∧
  (∀ (s : State) (k : Fin 4) (b : Bytes) (d : Nat), s.hubOn = true → (s.dpOut k).aux = some d → (s.dpOut k).auxHeld =
    false →
    exec (.auxReply k 1 b) s = .next (s.auxEnd k 1 0)) ∧
  (∀ (s : State) (k : Fin 4) (b : Bytes) (d : Nat), s.hubOn = true → (s.dpOut k).aux = some d → (s.dpOut k).auxHeld =
    false → d < 7 →
    exec (.auxReply k 2 b) s = .next ((s.withDp k fun x => { x with aux := some (d + 1) }).auxSend k)) ∧
  (∀ (s : State) (k : Fin 4), s.hubOn = true → (s.dpOut k).aux.isSome = true → (s.dpOut k).auxHeld = false →
    exec (.auxReplyTimeout k) s = .next (s.auxEnd k 3 0))

/-- While the hub die and the host engine run, a descriptor that is the first of its context on a port that holds no burst
and is not being reset, with its context not halted (EP_CLEAR apart) configured on no other port, and no longer than
65,536 bytes: TD_CONTROL, TD_BULK and TD_INTERRUPT start the transfer, TD_NOP finishes with status 0, EP_CONFIG,
EP_RELEASE and EP_CLEAR act on the context; then later bad descriptors finish and the next transaction starts. -/
def Obligations.UsbDescriptorCommands : Prop :=
  (∀ (s : State) (n : Fin 8) (i : BitVec 16) (d : UsbTd) (mem : HostMem), s.hubOn = true → ((s.usbPort n).tds.find?
    (fun d => d.index == i.toNat && d.type == 0 && !d.started) = some d) → s.usbRuns = true → (s.usbPort n).held = []
    → (s.usbPort n).resetDue = false → s.flag (Reg.USBH_PORT_STAT_RESETTING n) = false → (s.tdHead n d.ctx).map
    (·.index) = some i.toNat → (s.usbCtx d.ctx).halted = false → s.ctxElsewhere d.ctx n = false → d.len ≤ 65536 →
    exec (.tdControl n i mem) s = .next (State.usbNext (State.sweepBad n 4096 (s.transferStart n d mem)) n)) ∧
  (∀ (s : State) (n : Fin 8) (i : BitVec 16) (d : UsbTd) (mem : HostMem), s.hubOn = true → ((s.usbPort n).tds.find?
    (fun d => d.index == i.toNat && d.type == 1 && !d.started) = some d) → s.usbRuns = true → (s.usbPort n).held = []
    → (s.usbPort n).resetDue = false → s.flag (Reg.USBH_PORT_STAT_RESETTING n) = false → (s.tdHead n d.ctx).map
    (·.index) = some i.toNat → (s.usbCtx d.ctx).halted = false → s.ctxElsewhere d.ctx n = false → d.len ≤ 65536 →
    exec (.tdBulk n i mem) s = .next (State.usbNext (State.sweepBad n 4096 (s.transferStart n d mem)) n)) ∧
  (∀ (s : State) (n : Fin 8) (i : BitVec 16) (d : UsbTd) (mem : HostMem), s.hubOn = true → ((s.usbPort n).tds.find?
    (fun d => d.index == i.toNat && d.type == 2 && !d.started) = some d) → s.usbRuns = true → (s.usbPort n).held = []
    → (s.usbPort n).resetDue = false → s.flag (Reg.USBH_PORT_STAT_RESETTING n) = false → (s.tdHead n d.ctx).map
    (·.index) = some i.toNat → (s.usbCtx d.ctx).halted = false → s.ctxElsewhere d.ctx n = false → d.len ≤ 65536 →
    exec (.tdInterrupt n i mem) s = .next (State.usbNext (State.sweepBad n 4096 (s.transferStart n d mem)) n)) ∧
  (∀ (s : State) (n : Fin 8) (i : BitVec 16) (d : UsbTd), s.hubOn = true → ((s.usbPort n).tds.find? (fun d => d.index
    == i.toNat && d.type == 3 && !d.started) = some d) → s.usbRuns = true → (s.usbPort n).held = [] → (s.usbPort
    n).resetDue = false → s.flag (Reg.USBH_PORT_STAT_RESETTING n) = false → (s.tdHead n d.ctx).map (·.index) = some
    i.toNat → (s.usbCtx d.ctx).halted = false → s.ctxElsewhere d.ctx n = false → d.len ≤ 65536 →
    exec (.tdNop n i) s = .next (State.usbNext (State.sweepBad n 4096 (s.tdEnd n d 0)) n)) ∧
  (∀ (s : State) (n : Fin 8) (i : BitVec 16) (d : UsbTd), s.hubOn = true → ((s.usbPort n).tds.find? (fun d => d.index
    == i.toNat && d.type == 4 && !d.started) = some d) → s.usbRuns = true → (s.usbPort n).held = [] → (s.usbPort
    n).resetDue = false → s.flag (Reg.USBH_PORT_STAT_RESETTING n) = false → (s.tdHead n d.ctx).map (·.index) = some
    i.toNat → (s.usbCtx d.ctx).halted = false → s.ctxElsewhere d.ctx n = false → d.len ≤ 65536 →
    exec (.epConfig n i) s = .next (State.usbNext (State.sweepBad n 4096 (s.epConfig n d)) n)) ∧
  (∀ (s : State) (n : Fin 8) (i : BitVec 16) (d : UsbTd), s.hubOn = true → ((s.usbPort n).tds.find? (fun d => d.index
    == i.toNat && d.type == 5 && !d.started) = some d) → s.usbRuns = true → (s.usbPort n).held = [] → (s.usbPort
    n).resetDue = false → s.flag (Reg.USBH_PORT_STAT_RESETTING n) = false → (s.tdHead n d.ctx).map (·.index) = some
    i.toNat → (s.usbCtx d.ctx).halted = false → s.ctxElsewhere d.ctx n = false → d.len ≤ 65536 →
    exec (.epRelease n i) s = .next (State.usbNext (State.sweepBad n 4096 (s.epRelease n d)) n)) ∧
  (∀ (s : State) (n : Fin 8) (i : BitVec 16) (d : UsbTd), s.hubOn = true → ((s.usbPort n).tds.find? (fun d => d.index
    == i.toNat && d.type == 6 && !d.started) = some d) → s.usbRuns = true → (s.usbPort n).held = [] → (s.usbPort
    n).resetDue = false → s.flag (Reg.USBH_PORT_STAT_RESETTING n) = false → (s.tdHead n d.ctx).map (·.index) = some
    i.toNat → s.ctxElsewhere d.ctx n = false → d.len ≤ 65536 →
    exec (.epClear n i) s = .next (State.usbNext (State.sweepBad n 4096 (s.epClear n d)) n))

/-- While the hub die runs and with the conditions named, RING_ENABLE (a good block, an unreadable one, a bad RING_LOG2,
and a ring already enabled), RING_DISABLE, USBH_KICK, USB_MICROFRAME_START (no port with SOF), USB_TRANSACTION_END
(acknowledged, NAK of a control transfer, STALL, a first error) and USB_RING_FULL_TIMEOUT answer exactly the next
state written. -/
def Obligations.UsbEngineEvents : Prop :=
  (∀ (s : State) (n : Fin 8) (mem : HostMem), s.hubOn = true → s.flag (Reg.USBH_PORT_CTRL_RING_EN n) = true →
    (s.usbPort n).due = false →
    exec (.ringEnable n mem) s = .next s) ∧
  (∀ (s y : State) (n : Fin 8) (mem : HostMem), s.hubOn = true → s.flag (Reg.USBH_PORT_CTRL_RING_EN n) = false → (y =
    (s.hostRead 3 (s.usbPcb n) 32).withUsbPort n fun x => { x with due := false }) → mem.read (y.usbPcb n) 32 = none →
    exec (.ringEnable n mem) s = .next (y.put (Reg.USBH_PORT_CTRL_RING_EN n) false)) ∧
  (∀ (s y : State) (n : Fin 8) (mem : HostMem) (b : Bytes), s.hubOn = true → s.flag (Reg.USBH_PORT_CTRL_RING_EN n) =
    false → (y = (s.hostRead 3 (s.usbPcb n) 32).withUsbPort n fun x => { x with due := false }) → mem.read (y.usbPcb
    n) 32 = some b → 4 ≤ leAt b 16 1 → leAt b 16 1 ≤ 12 →
    exec (.ringEnable n mem) s = .next
        (((((y.withUsbPort n fun x => { x with
          on := true, tdBase := leAt b 0 8, burstBase := leAt b 8 8, log2 := leAt b 16 1, tdCons := 0, tds := [], held := [] }).put
          (Reg.USBH_PORT_CTRL_RING_EN n) true).wr (Reg.USBH_PORT_RING_RING_LOG2 n) (leAt b 16 1)).wr (Reg.USBH_PORT_SEQ_BSEQ n) 0).wr
          (Reg.USBH_PORT_SEQ_REL n) (leAt b 20 2))) ∧
  (∀ (s y : State) (n : Fin 8) (mem : HostMem) (b : Bytes), s.hubOn = true → s.flag (Reg.USBH_PORT_CTRL_RING_EN n) =
    false → (y = (s.hostRead 3 (s.usbPcb n) 32).withUsbPort n fun x => { x with due := false }) → mem.read (y.usbPcb
    n) 32 = some b → leAt b 16 1 < 4 ∨ 12 < leAt b 16 1 →
    exec (.ringEnable n mem) s = .next ((y.put (Reg.USBH_PORT_CTRL_RING_EN n) false).notice 0x0D04 [byte n, 1])) ∧
  (∀ (s : State) (n : Fin 8), s.hubOn = true →
    exec (.ringDisable n) s = .next (((s.tdEndAll n 10).withUsbPort n fun x =>
      { x with on := false, due := false }).put (Reg.USBH_PORT_CTRL_RING_EN n) false)) ∧
  (∀ (s : State) (p : BitVec 8) (mem : HostMem), s.hubOn = true → s.usbRuns = true →
    exec (.usbhKick p mem) s = .next ((List.range 8).foldl (fun (s : State) n => if bit p.toNat n then s.usbPoll n mem
      else s) s)) ∧
  (∀ (s y : State) (mem : HostMem) (b : BitVec 8), s.hubOn = true → s.usbRuns = true → (y = (List.range 8).foldl (fun
    (s : State) n => s.usbBoundary n (bit b.toNat n)) s) → (List.range 8).find? y.usbSof = none →
    exec (.usbMicroframeStart mem b) s = .next ((List.range 8).foldl (fun (s : State) n => (s.usbPoll n mem).usbNext
      n) y)) ∧
  (∀ (s y : State) (mem : HostMem) (b : BitVec 8) (n : Nat), s.hubOn = true → s.usbRuns = true → (y = (List.range
    8).foldl (fun (s : State) n => s.usbBoundary n (bit b.toNat n)) s) → (List.range 8).find? y.usbSof = some n →
    exec (.usbMicroframeStart mem b) s = .next ((List.range 8).foldl (fun (s : State) n => (s.usbPoll n mem).usbNext
      n) ((y.wr Reg.USBH_FRAME_FRNUM (y.usbPort n).frame).wr Reg.USBH_FRAME_MICRO (y.usbPort n).micro))) ∧
  (∀ (s y z : State) (n : Fin 8) (b : Bytes) (room : Bool) (c : Nat) (d : UsbTd), s.hubOn = true → (s.usbPort n).busy
    = some c → (y = (s.withUsbPort n fun x => { x with busy := none, room := room }).count (usbCounter n 0)) →
    y.tdHead n c = some d → z = State.sweepBad n 4096 (y.tdGood n d b) →
    exec (.usbTransactionEnd n 0 b room) s = .next (if (z.usbPort n).resetDue then z.usbResetNow n else z.usbNext n)) ∧
  (∀ (s y z : State) (n : Fin 8) (b : Bytes) (room : Bool) (c : Nat) (d : UsbTd), s.hubOn = true → (s.usbPort n).busy
    = some c → (y = (s.withUsbPort n fun x => { x with busy := none, room := room }).count (usbCounter n 0)) →
    y.tdHead n c = some d → d.type = 0 → (z = State.sweepBad n 4096 ((y.withUsbPort n fun x =>
    { x with naked := x.naked ++ [c] }).count (usbCounter n 1))) →
    exec (.usbTransactionEnd n 1 b room) s = .next (if (z.usbPort n).resetDue then z.usbResetNow n else z.usbNext n)) ∧
  (∀ (s y z : State) (n : Fin 8) (b : Bytes) (room : Bool) (c : Nat) (d : UsbTd), s.hubOn = true → (s.usbPort n).busy
    = some c → (y = (s.withUsbPort n fun x => { x with busy := none, room := room }).count (usbCounter n 0)) →
    y.tdHead n c = some d → z = State.sweepBad n 4096 ((y.ctxHalt c).tdEnd n d 2) →
    exec (.usbTransactionEnd n 2 b room) s = .next (if (z.usbPort n).resetDue then z.usbResetNow n else z.usbNext n)) ∧
  (∀ (s y z : State) (n : Fin 8) (b : Bytes) (room : Bool) (c : Nat) (d : UsbTd), s.hubOn = true → (s.usbPort n).busy
    = some c → (y = (s.withUsbPort n fun x => { x with busy := none, room := room }).count (usbCounter n 0)) →
    y.tdHead n c = some d → (y.usbCtx c).errors < 2 → (z = State.sweepBad n 4096 ((y.withUsbCtx c fun x =>
    { x with errors := (y.usbCtx c).errors + 1 }).count (usbCounter n 2))) →
    exec (.usbTransactionEnd n 3 b room) s = .next (if (z.usbPort n).resetDue then z.usbResetNow n else z.usbNext n)) ∧
  (∀ (s : State) (n : Fin 8), s.hubOn = true → (s.usbPort n).held ≠ [] →
    exec (.usbRingFullTimeout n) s = .next (s.notice 0x0D04 [byte n, 2]))

/-- While the hub die runs and with the conditions named, USB_PORT_RESET (no device; idle; with a packet in progress),
USB_PORT_RESET_END, USB_PORT_SUSPEND, USB_PORT_RESUME, USB_RESUME_END, USB_DEVICE_REMOTE_WAKE (honored and not),
USB_PORT_DISABLE, USB_CONNECT_CHANGE (a device arrives, and one leaves) and USB_OVERCURRENT (begins at a port, ends,
and no change) answer exactly the next state written. -/
def Obligations.UsbPortEvents : Prop :=
  (∀ (s : State) (n : Fin 8), s.hubOn = true → s.flag (Reg.USBH_PORT_STAT_CONNECT n) = false →
    exec (.usbPortReset n) s = .next (s.usbChange n (Reg.USBH_PORT_STAT_C_RESET n))) ∧
  (∀ (s y : State) (n : Fin 8), s.hubOn = true → s.flag (Reg.USBH_PORT_STAT_CONNECT n) = true → s.flag
    (Reg.USBH_PORT_STAT_RESETTING n) = false → y = s.put (Reg.USBH_PORT_STAT_RESUMING n) false → (y.usbPort n).busy =
    none →
    exec (.usbPortReset n) s = .next (y.usbResetNow n)) ∧
  (∀ (s y : State) (n : Fin 8) (c : Nat), s.hubOn = true → s.flag (Reg.USBH_PORT_STAT_CONNECT n) = true → s.flag
    (Reg.USBH_PORT_STAT_RESETTING n) = false → y = s.put (Reg.USBH_PORT_STAT_RESUMING n) false → (y.usbPort n).busy =
    some c →
    exec (.usbPortReset n) s = .next (y.withUsbPort n fun x => { x with resetDue := true })) ∧
  (∀ (s y : State) (n : Fin 8) (v : Fin 3), s.hubOn = true → s.flag (Reg.USBH_PORT_STAT_RESETTING n) = true → (y =
    (List.range 256).foldl (fun (s : State) c => if s.ctxOn c n then s.withUsbCtx c fun x =>
    { x with halted := false, toggle := false, errors := 0 } else s) s) →
    exec (.usbPortResetEnd n v) s = .next ((((y.put (Reg.USBH_PORT_STAT_RESETTING n) false).put
      (Reg.USBH_PORT_STAT_ENABLED n) true).wr (Reg.USBH_PORT_STAT_SPEED n) v).usbChange n (Reg.USBH_PORT_STAT_C_RESET
      n))) ∧
  (∀ (s : State) (n : Fin 8), s.hubOn = true → s.usbSof n = true →
    exec (.usbPortSuspend n) s = .next (s.withUsbPort n fun x => { x with suspendDue := true })) ∧
  (∀ (s : State) (n : Fin 8), s.hubOn = true → s.flag (Reg.USBH_PORT_STAT_SUSPENDED n) = true → s.flag
    (Reg.USBH_PORT_STAT_RESUMING n) = false →
    exec (.usbPortResume n) s = .next (((s.put (Reg.USBH_PORT_STAT_RESUMING n) true).withUsbPort n fun x =>
      { x with waking := false }).emit (.usb n "resume K" [] []))) ∧
  (∀ (s : State) (n : Fin 8), s.hubOn = true → s.flag (Reg.USBH_PORT_STAT_RESUMING n) = true →
    exec (.usbResumeEnd n) s = .next ((((s.put (Reg.USBH_PORT_STAT_RESUMING n) false).put
      (Reg.USBH_PORT_STAT_SUSPENDED n) false).withUsbPort n fun x =>
      { x with waking := false, byMode := false }).usbChange n (Reg.USBH_PORT_STAT_C_PORT_SUSPEND n))) ∧
  (∀ (s : State) (n : Fin 8), s.hubOn = true → (s.usbPort n).suspendDue = false → s.flag (Reg.USBH_PORT_STAT_SUSPENDED
    n) = true → s.flag (Reg.USBH_PORT_STAT_RESUMING n) = false → s.flag (Reg.USBH_PORT_CTRL_WAKE_EN n) = true →
    exec (.usbDeviceRemoteWake n) s = .next ((((((s.put (Reg.USBH_PORT_STAT_RESUMING n) true).withUsbPort n fun x =>
      { x with waking := true }).emit (.usb n "resume K" [] [])).usbChange n (Reg.USBH_PORT_STAT_WAKE_SEEN n)).notice
      0x0D02 [byte n, 1]).wake 10)) ∧
  (∀ (s : State) (n : Fin 8), s.hubOn = true → (s.usbPort n).suspendDue = false → s.flag (Reg.USBH_PORT_STAT_SUSPENDED
    n) = true → s.flag (Reg.USBH_PORT_STAT_RESUMING n) = false → s.flag (Reg.USBH_PORT_CTRL_WAKE_EN n) = false →
    exec (.usbDeviceRemoteWake n) s = .next (s.count (usbCounter n 4))) ∧
  (∀ (s : State) (n : Fin 8), s.hubOn = true →
    exec (.usbPortDisable n) s = .next (((s.put (Reg.USBH_PORT_STAT_ENABLED n) false).tdEndAll n 6).withUsbPort n fun
      x => { x with busy := none, suspendDue := false })) ∧
  (∀ (s : State) (n : Fin 8), s.hubOn = true → s.flag (Reg.USBH_PORT_STAT_CONNECT n) = false →
    exec (.usbConnectChange n true) s = .next ((s.put (Reg.USBH_PORT_STAT_CONNECT n) true).usbChange n
      (Reg.USBH_PORT_STAT_C_CONNECT n))) ∧
  (∀ (s y : State) (n : Fin 8), s.hubOn = true → s.flag (Reg.USBH_PORT_STAT_CONNECT n) = true → y = (((((s.put
    (Reg.USBH_PORT_STAT_CONNECT n) false).usbDisable n 6).wr (Reg.USBH_PORT_STAT_SPEED n) 3).put
    (Reg.USBH_PORT_STAT_SUSPENDED n) false).put (Reg.USBH_PORT_STAT_RESUMING n) false).put
    (Reg.USBH_PORT_STAT_RESETTING n) false →
    exec (.usbConnectChange n false) s = .next ((y.withUsbPort n fun x =>
      { x with resetDue := false, waking := false }).usbChange n (Reg.USBH_PORT_STAT_C_CONNECT n))) ∧
  (∀ (s : State) (n : Fin 8), s.hubOn = true → s.flag (Reg.USBH_PORT_STAT_OVERCURRENT n) = false → n.val < 4 →
    exec (.usbOvercurrent n true) s = .next (((s.put (Reg.USBH_PORT_STAT_OVERCURRENT n) true).usbDisable n
      6).usbChange n (Reg.USBH_PORT_STAT_C_OVERCURRENT n))) ∧
  (∀ (s : State) (n : Fin 8), s.hubOn = true → s.flag (Reg.USBH_PORT_STAT_OVERCURRENT n) = true →
    exec (.usbOvercurrent n false) s = .next ((s.put (Reg.USBH_PORT_STAT_OVERCURRENT n) false).usbChange n
      (Reg.USBH_PORT_STAT_C_OVERCURRENT n)))

/-- With the conditions named, USBS_VBUS_CHANGE (VBUS appears with the hub die off, and no change), USBS_CONTROL_REQUEST
(in progress, completed, and stalled), USBS_BUS_RESET, USBS_SUSPEND, USBS_REMOTE_WAKE_START, USBS_WAKE_SLICE_END (a
slice, the eighth, and a collision), USBS_HOST_RESUME and USBS_EP3_POLL (a report, and NAK) answer exactly the next
state written. -/
def Obligations.UsbServicePortEvents : Prop :=
  (∀ (s : State) (v : Bool) (r : Fin 3), s.nib.on = true → s.tcsPresent = v → exec (.usbsVbusChange v r) s = .next s) ∧
  (∀ (s y : State) (r : Fin 3), s.nib.on = true → s.tcsPresent = false → s.hubOn = false → y = (s.wr
    Reg.TCPD_TCS_STAT_STATE 1).wr Reg.TCPD_TCS_STAT_RP_SEEN r.val → y.hubOn = false →
    exec (.usbsVbusChange true r) s = .next (((y.wake 4).wake 11).tcsRises)) ∧
  (∀ (s : State) (b d : Bytes), s.hubOn = true → 2 ≤ s.usbsState →
    exec (.usbsControlRequest b d false) s = .next (s.withUsbs fun x => { x with ctrl := some (b ++ d) })) ∧
  (∀ (s y z : State) (b d l : Bytes), s.hubOn = true → 2 ≤ s.usbsState → (y = s.withUsbs fun x =>
    { x with ctrl := none }) → y.usbsStandard b = some (l, z) →
    exec (.usbsControlRequest b d true) s = .next (z.emit (.usb 8 "control" (b.map BitVec.toNat) l))) ∧
  (∀ (s y : State) (b d : Bytes), s.hubOn = true → 2 ≤ s.usbsState → (y = s.withUsbs fun x => { x with ctrl := none })
    → y.usbsStandard b = none →
    exec (.usbsControlRequest b d true) s = .next (y.emit (.usb 8 "stall" [0] []))) ∧
  (∀ (s w x y : State) (hs : Bool), s.hubOn = true → s.usbsState ≠ 0 → s.usb.dev.ctrl = none → (w = s.withUsbs fun d
    => { d with ctrl := none, ep3 := none, slices := none, halted := [] }) → x = ((((w.wr Reg.USBS_STAT_STATE 2).wr
    Reg.USBS_STAT_ADDRESS 0).put Reg.USBS_STAT_HS (hs && s.usb.dev.hsAllowed)).put Reg.USBS_STAT_RWAKE_EN false).put
    Reg.USBS_STAT_SUSPENDED false → y = { x with cmd := { x.cmd with usbsReply := none } }.usbsRelease →
    exec (.usbsBusReset hs) s = .next ((((y.put Reg.USBS_STAT_BUS_RESET true).count 0x1AA).usbsNotice 1).wake 11)) ∧
  (∀ (s : State), s.hubOn = true → s.usbsState ≠ 0 → s.flag Reg.USBS_STAT_SUSPENDED = false →
    exec .usbsSuspend s = .next ((s.put Reg.USBS_STAT_SUSPENDED true).usbsNotice 4)) ∧
  (∀ (s y : State) (b : Bytes), s.hubOn = true → y = s.usbsSync → y.flag Reg.USBS_STAT_RWAKE_EN = true → y.flag
    Reg.USBS_CTRL_WAKE_ALLOW = true → y.flag Reg.USBS_STAT_SUSPENDED = true → y.usb.dev.ep3 = some b →
    y.usb.dev.slices = none →
    exec (.usbsRemoteWakeStart false) s = .next ((y.withUsbs fun d => { d with slices := some 0 }).emit (.usb 8 "K" []
      []))) ∧
  (∀ (s : State) (k : Nat), s.hubOn = true → s.usb.dev.slices = some k → k < 7 →
    exec (.usbsWakeSliceEnd false) s = .next ((s.withUsbs fun d => { d with slices := some (k + 1) }).emit (.usb 8 "K"
      [] []))) ∧
  (∀ (s : State), s.hubOn = true → s.usb.dev.slices = some 7 →
    exec (.usbsWakeSliceEnd false) s = .next ((s.withUsbs fun d => { d with slices := none }).bump
      Reg.USBS_WAKE_DELIVERED)) ∧
  (∀ (s : State) (k : Nat), s.hubOn = true → s.usb.dev.slices = some k →
    exec (.usbsWakeSliceEnd true) s = .next (((s.bump Reg.USBS_WAKE_DELIVERED).bump
      Reg.USBS_WAKE_COLLIDED).usbsResumed)) ∧
  (∀ (s : State), s.hubOn = true → s.flag Reg.USBS_STAT_SUSPENDED = true → s.usb.dev.slices = none →
    exec .usbsHostResume s = .next ((((s.put Reg.USBS_STAT_SUSPENDED false).withUsbs fun d =>
      { d with slices := none }).usbsNotice 8).wake 11)) ∧
  (∀ (s y : State) (b : Bytes), s.hubOn = true → y = s.usbsSync → y.usbsServes 0x83 = true → y.usb.dev.ep3 = some b →
    exec .usbsEp3Poll s = .next ((y.withUsbs fun d => { d with ep3 := none }).emit (.usb 8 "ep3 in" [] b))) ∧
  (∀ (s y : State), s.hubOn = true → y = s.usbsSync → y.usbsServes 0x83 = true → y.usb.dev.ep3 = none →
    exec .usbsEp3Poll s = .next (y.emit (.usb 8 "nak" [3] []))) ∧
  (∀ (s y : State), s.hubOn = true → y = s.usbsSync → y.usbsServes 0x83 = false →
    exec .usbsEp3Poll s = .next (y.usbsRefuses 0x83))

/-- While the hub die runs and with the conditions named, ETH_FRAME_RECEIVED (runt, giant, bad FCS, good, and on a port
whose MAC is stopped), PAUSE_TIME_END, ETH_TX_START (a frame sent by its queue, and a port under PAUSE), ETH_TSF_POP,
ETH_PTP_CLR_LOST, MDIO_START (idle, and busy), MDIO_FRAME_DONE (read and write) and ETH_LINK_CHANGE answer exactly the
next state written. -/
def Obligations.EthernetEvents : Prop :=
  (∀ (s : State) (n : Fin 8) (f : Bytes) (c u : Nat), s.hubOn = true → s.macOn n = false →
    exec (.ethFrameReceived n f c u) s = .next s) ∧
  (∀ (s : State) (n : Fin 8) (f : Bytes) (c u : Nat), s.hubOn = true → s.macOn n = true → (decide (n.val < 4) &&
    s.flag (Reg.ETH_CTRL_FEC n) && s.rd (Reg.ETH_CTRL_MODE n) != 1) = false → f.length < 64 →
    exec (.ethFrameReceived n f c u) s = .next (s.count (ethCounter n 5))) ∧
  (∀ (s : State) (n : Fin 8) (f : Bytes) (c u : Nat), s.hubOn = true → s.macOn n = true → (decide (n.val < 4) &&
    s.flag (Reg.ETH_CTRL_FEC n) && s.rd (Reg.ETH_CTRL_MODE n) != 1) = false → 9720 < f.length →
    exec (.ethFrameReceived n f c u) s = .next (s.count (ethCounter n 6))) ∧
  (∀ (s : State) (n : Fin 8) (f : Bytes) (c u : Nat), s.hubOn = true → s.macOn n = true → (decide (n.val < 4) &&
    s.flag (Reg.ETH_CTRL_FEC n) && s.rd (Reg.ETH_CTRL_MODE n) != 1) = false → 64 ≤ f.length → f.length ≤ 9720 →
    fcsGood f = false →
    exec (.ethFrameReceived n f c u) s = .next (s.count (ethCounter n 4))) ∧
  (∀ (s : State) (n : Fin 8) (f : Bytes) (c u : Nat), s.hubOn = true → s.macOn n = true → (decide (n.val < 4) &&
    s.flag (Reg.ETH_CTRL_FEC n) && s.rd (Reg.ETH_CTRL_MODE n) != 1) = false → 64 ≤ f.length → f.length ≤ 9720 →
    fcsGood f = true →
    exec (.ethFrameReceived n f c u) s = .next (s.goodFrame n f)) ∧
  (∀ (s : State) (n : Fin 8) (f : Bytes) (c u : Nat), s.hubOn = true → s.macOn n = true → n.val < 4 → s.flag
    (Reg.ETH_CTRL_FEC n) = true → s.rd (Reg.ETH_CTRL_MODE n) ≠ 1 → f.length < 64 →
    exec (.ethFrameReceived n f c u) s = .next (((s.count (ethCounter n 0xB) c).count (ethCounter n 0xC) u).count
      (ethCounter n 5))) ∧
  (∀ (s : State) (n : Fin 8), s.hubOn = true →
    exec (.pauseTimeEnd n) s = .next (s.setEthPort n { s.ethPort n with paused := none })) ∧
  (∀ (s : State) (n : Fin 8) (k : Nat), s.hubOn = true → (s.ethPort n).paused = some k →
    exec (.ethTxStart n) s = .next s) ∧
  (∀ (s y : State) (n : Fin 8) (q : Nat) (f g : Bytes) (l : List Bytes), s.hubOn = true → s.macOn n = true →
    (s.ethPort n).paused = none → s.flag (Reg.ETH_STAT_LINK n) = true → s.gated n = false → ([7, 6, 5, 4, 3, 2, 1,
    0].find? (fun q => match s.ethQueue n q with | [] => false | f :: _ => (s.frameMayStart n q f.length)) = some q) →
    s.ethQueue n q = f :: l → (s.setEthQueue n q l).stampSent n f = (g, y) →
    exec (.ethTxStart n) s = .next ((((y.count (ethCounter n 2)).count (ethCounter n 3) g.length).emit (.eth n "frame"
      [q] g)).pointDrain)) ∧
  (∀ (s : State) (n : Fin 8), s.hubOn = true →
    exec (.ethTsfPop n) s = .next (s.setEthPort n { s.ethPort n with fifo := (s.ethPort n).fifo.drop 1 })) ∧
  (∀ (s : State) (n : Fin 8), s.hubOn = true → exec (.ethPtpClrLost n) s = .next (s.wr (Reg.ETH_PTP_LOST n) 0)) ∧
  (∀ (s y : State) (v : Word), s.hubOn = true → (y = [Reg.ETH_MDIO_OP, Reg.ETH_MDIO_PHYAD, Reg.ETH_MDIO_REG,
    Reg.ETH_MDIO_DATA].foldl (fun (s : State) f => s.wr f (f.get v)) s) → y.flag Reg.ETH_MDIO_BUSY = true →
    exec (.mdioStart v) s = .next y) ∧
  (∀ (s y z : State) (v : Word), s.hubOn = true → (y = [Reg.ETH_MDIO_OP, Reg.ETH_MDIO_PHYAD, Reg.ETH_MDIO_REG,
    Reg.ETH_MDIO_DATA].foldl (fun (s : State) f => s.wr f (f.get v)) s) → y.flag Reg.ETH_MDIO_BUSY = false → z =
    { y.put Reg.ETH_MDIO_BUSY true with eth := { y.eth with mdioRead := y.rd Reg.ETH_MDIO_OP == 1 || 4 ≤ y.rd Reg.ETH_MDIO_OP } }
    →
    exec (.mdioStart v) s = .next (z.emit (.eth 8 "MDIO" [y.rd Reg.ETH_MDIO_OP, z.rd Reg.ETH_MDIO_PHYAD, z.rd
      Reg.ETH_MDIO_REG, z.rd Reg.ETH_MDIO_DATA] []))) ∧
  (∀ (s : State) (d : BitVec 16), s.hubOn = true → s.flag Reg.ETH_MDIO_BUSY = true →
    exec (.mdioFrameDone d) s = .next (if s.eth.mdioRead then (s.put Reg.ETH_MDIO_BUSY false).wr Reg.ETH_MDIO_DATA
      d.toNat else s.put Reg.ETH_MDIO_BUSY false)) ∧
  (∀ (s : State) (d : BitVec 16), s.hubOn = true → s.flag Reg.ETH_MDIO_BUSY = false →
    exec (.mdioFrameDone d) s = .next s) ∧
  (∀ (s y z : State) (n : Fin 8) (v : BitVec 2) (l k a b : Bool), s.hubOn = true → y = ((((s.put (Reg.ETH_STAT_LINK n)
    l).wr (Reg.ETH_STAT_SPEED n) v.toNat).put (Reg.ETH_STAT_FEC_LOCK n) k).put (Reg.ETH_STAT_LOCAL_FAULT n) a).put
    (Reg.ETH_STAT_REMOTE_FAULT n) b → z = (if y.reg (Reg.ETH_STAT_A n) = s.reg (Reg.ETH_STAT_A n) then y else y.notice
    0x0E01 [byte n, byte (b2n l), byte v.toNat, byte (b2n k + 2 * b2n a + 4 * b2n b)]) →
    exec (.ethLinkChange n l v k a b) s = .next (if s.flag (Reg.ETH_STAT_LINK n) = l then z else z.wake 13))

/-- While the hub die runs and with the conditions named, GATE_ENTRY_ADVANCE, GATE_COMMIT (refused, and accepted with its
base still to come), GATE_CHANGE_TIME (no pending set, before its time, and at it), VNIC_ENABLE (a good block, an
unreadable one, and at the root) and VNIC_POLL (a queue that is off, and an unreadable block) answer exactly the next
state written. -/
def Obligations.GateAndVnicEvents : Prop :=
  (∀ (s : State) (n : Fin 4), s.hubOn = true → exec (.gateEntryAdvance n) s = .next (s.gateEntry (4 + n))) ∧
  (∀ (s y : State) (n : Fin 4), s.hubOn = true → y = s.gateChange (4 + n) → y.rd (Reg.ETH_GCTL_LEN (4 + n)) = 0 →
    exec (.gateCommit n) s = .next (y.notice 0x0E03 [byte (4 + n), 1])) ∧
  (∀ (s y : State) (n : Fin 4), s.hubOn = true → y = s.gateChange (4 + n) → y.rd (Reg.ETH_GCTL_LEN (4 + n)) ≠ 0 → y.rd
    (Reg.ETH_GCYCLE_CYCLE_NS (4 + n)) < 1000 →
    exec (.gateCommit n) s = .next (y.notice 0x0E03 [byte (4 + n), 2])) ∧
  (∀ (s y : State) (n : Fin 4) (base : Nat) (g : GateList), s.hubOn = true → y = s.gateChange (4 + n) → y.rd
    (Reg.ETH_GCTL_LEN (4 + n)) ≠ 0 → 1000 ≤ y.rd (Reg.ETH_GCYCLE_CYCLE_NS (4 + n)) → base = (y.rd
    (Reg.ETH_GBASE_SL_SEC_LO (4 + n)) + y.rd (Reg.ETH_GBASE_SH_SEC_HI (4 + n)) * 2 ^ 32) * 1000000000 + y.rd
    (Reg.ETH_GBASE_NS_NSEC (4 + n)) → -((-(y.reading + 10000 * 65536)) / 65536) ≤ (base : Int) → (g =
    { len := y.rd (Reg.ETH_GCTL_LEN (4 + n)), cycle := y.rd (Reg.ETH_GCYCLE_CYCLE_NS (4 + n)), base := base,
      words := (List.range 64).map fun i => y.reg (Reg.ETH_GADM_A (4 + n) i) }) →
    exec (.gateCommit n) s = .next
        (((y.setEthPort (4 + n) { y.ethPort (4 + n) with next := some (g, base) }).put (Reg.ETH_GCTL_PENDING (4 + n)) true).setNs
          (Reg.ETH_GCHG_SL_SEC_LO (4 + n)) (Reg.ETH_GCHG_SH_SEC_HI (4 + n)) (Reg.ETH_GCHG_NS_NSEC (4 + n)) base)) ∧
  (∀ (s : State) (n : Fin 4), s.hubOn = true → (s.ethPort (4 + n)).next = none →
    exec (.gateChangeTime n) s = .next s) ∧
  (∀ (s : State) (n : Fin 4) (g : GateList) (c : Nat), s.hubOn = true → (s.ethPort (4 + n)).next = some (g, c) →
    s.reached c = false →
    exec (.gateChangeTime n) s = .next s) ∧
  (∀ (s y z : State) (n : Fin 4) (g : GateList) (c : Nat), s.hubOn = true → (s.ethPort (4 + n)).next = some (g, c) →
    s.reached c = true → y = s.setEthPort (4 + n)
    { s.ethPort (4 + n) with oper := { g with words := [] }, next := none } → (z = g.words.zipIdx.foldl (fun (s :
    State) w => s.setReg (Reg.ETH_GOPR_A (4 + n) w.2) w.1) y) →
    exec (.gateChangeTime n) s = .next
        ((((z.put (Reg.ETH_GCTL_PENDING (4 + n)) false).wr (Reg.ETH_GCTL_ENTRY (4 + n)) 0).gateEntry (4 + n)).notice 0x0E02
          ([byte (4 + n), byte (clamp 1 64 g.len)] ++ le 6 (c / 1000000000) ++ le 4 (c % 1000000000)))) ∧
  (∀ (s : State) (q : Fin 8) (mem : HostMem), s.hubOn = true → s.isRoot = true →
    exec (.vnicEnable q mem) s = .next s) ∧
  (∀ (s y : State) (q : Fin 8) (mem : HostMem), s.hubOn = true → s.isRoot = false → bit (s.rd Reg.ETH_VNIC_CTRL_EN) q
    = false → y = s.hostRead 3 (s.vnicCb q) 32 → mem.read (y.vnicCb q) 32 = none →
    exec (.vnicEnable q mem) s = .next ((y.wr Reg.ETH_VNIC_CTRL_EN (clearBit (s.rd Reg.ETH_VNIC_CTRL_EN) q)).setVnic q
      {})) ∧
  (∀ (s y : State) (q : Fin 8) (mem : HostMem) (b : Bytes), s.hubOn = true → s.isRoot = false → bit (s.rd
    Reg.ETH_VNIC_CTRL_EN) q = false → y = s.hostRead 3 (s.vnicCb q) 32 → mem.read (y.vnicCb q) 32 = some b → 4 ≤ leAt
    b 24 1 → leAt b 24 1 ≤ 12 →
    exec (.vnicEnable q mem) s = .next
        (((y.wr Reg.ETH_VNIC_CTRL_EN (setBit (s.rd Reg.ETH_VNIC_CTRL_EN) q)).setVnic q
          { on := true, txBase := leAt b 0 8, rxBase := leAt b 8 8, cplBase := leAt b 16 8, log2 := leAt b 24 1 }).wr
          (Reg.ETH_VNIC_SEQ_CSEQ q) 0)) ∧
  (∀ (s : State) (q : Fin 8) (mem : HostMem), s.hubOn = true → (s.vnic q).on = false →
    exec (.vnicPoll q mem) s = .next s) ∧
  (∀ (s y : State) (q : Fin 8) (mem : HostMem), s.hubOn = true → s.isRoot = false → (s.vnic q).on = true → y =
    s.hostRead 3 (s.vnicCb q + 26) 6 → mem.read (y.vnicCb q + 26) 6 = none →
    exec (.vnicPoll q mem) s = .next y) ∧
  (∀ (s y z : State) (q : Fin 8) (mem : HostMem) (b : Bytes), s.hubOn = true → s.isRoot = false → (s.vnic q).on = true
    → y = s.hostRead 3 (s.vnicCb q + 26) 6 → mem.read (y.vnicCb q + 26) 6 = some b → z = State.vnicFlush q 4096 (y.wr
    (Reg.ETH_VNIC_SEQ_REL q) (leAt b 4 2)) → ringFetch mem 16 (z.vnic q).txBase (z.vnic q).log2 (z.vnic q).txCons
    (leAt b 0 2) = [] → ringFetch mem 16 (z.vnic q).rxBase (z.vnic q).log2 (z.vnic q).rxCons (leAt b 2 2) = [] →
    exec (.vnicPoll q mem) s = .next
        (State.vnicRun q mem 4096 (z.setVnic q { z.vnic q with
          txCons := (z.vnic q).txCons % 65536, rxCons := (z.vnic q).rxCons % 65536 })))

/-- While the hub die runs and with the conditions named, POINT_ENABLE (already on, refused, and an unreadable block),
POINT_LOAD_GO (refused, and begun), POINT_LOAD_COMPLETION, POINT_FETCH_START, POINT_FETCH_DATA_ARRIVAL (a failed
read), POINT_CYCLE_START (before T_k, halted, and begun), POINT_INPUT_FRAME, POINT_WINDOW_CLOSE (nothing late, no
inputs), POINT_LOSS_PASS_END (published, and skipped) and POINT_COMMIT (EN 1 and EN 0) answer exactly the next state
written. -/
def Obligations.PointEngineEvents : Prop :=
  (∀ (s : State) (mem : HostMem), s.hubOn = true → s.flag Reg.PNT_CTRL_EN = true → s.point.due = false →
    exec (.pointEnable mem) s = .next s) ∧
  (∀ (s y : State) (mem : HostMem), s.hubOn = true → s.flag Reg.PNT_CTRL_EN = false → (y = (s.put Reg.PNT_CTRL_EN
    true).withPoint fun p => { p with due := false, on := false }) → y.pointCheck State.rdAct true ≠ 0 →
    exec (.pointEnable mem) s = .next ((y.pointRefuse State.rdAct (y.pointCheck State.rdAct true)).pointState)) ∧
  (∀ (s y z : State) (mem : HostMem), s.hubOn = true → s.flag Reg.PNT_CTRL_EN = false → (y = (s.put Reg.PNT_CTRL_EN
    true).withPoint fun p => { p with due := false, on := false }) → y.pointCheck State.rdAct true = 0 → z =
    y.hostRead 2 y.pointCb 32 → mem.read z.pointCb 32 = none →
    exec (.pointEnable mem) s = .next ((z.withPoint fun p => { p with due := true }).pointState)) ∧
  (∀ (s : State), s.hubOn = true → s.flag Reg.PNT_LD_CTRL_BUSY = true →
    exec .pointLoadGo s = .next ((s.put Reg.PNT_LD_CTRL_ERR true).loadNotice (s.rd Reg.PNT_LD_FIRST_FIRST) false
      true)) ∧
  (∀ (s y : State), s.hubOn = true → s.flag Reg.PNT_LD_CTRL_BUSY = false → s.rd Reg.PNT_LD_FIRST_FIRST + s.rd
    Reg.PNT_LD_COUNT_COUNT ≤ 262144 → (y = (((s.put Reg.PNT_LD_CTRL_BUSY true).wr Reg.PNT_LD_CTRL_BAD 0).setReg
    Reg.PNT_LD_FIRSTBAD_A 0).withPoint fun p =>
    { p with load := some { next := s.rd Reg.PNT_LD_FIRST_FIRST, stop := s.rd Reg.PNT_LD_FIRST_FIRST + s.rd Reg.PNT_LD_COUNT_COUNT, first := s.rd Reg.PNT_LD_FIRST_FIRST, addr := s.rd Reg.PNT_LD_ADDR_LO_ADDR_LO * 8 + s.rd Reg.PNT_LD_ADDR_HI_ADDR_HI * 2 ^ 32 } })
    →
    exec .pointLoadGo s = .next ((y.hostRead 2 (s.rd Reg.PNT_LD_ADDR_LO_ADDR_LO * 8 + s.rd Reg.PNT_LD_ADDR_HI_ADDR_HI
      * 2 ^ 32) (8 * s.rd Reg.PNT_LD_COUNT_COUNT)).loadEnd)) ∧
  (∀ (s : State) (b : Bytes) (l : PointLoad), s.hubOn = true → s.point.load = some l →
    exec (.pointLoadCompletion b true) s = .next (State.loadEarly 128 (s.loadArrived b true (b.length / 8)))) ∧
  (∀ (s : State) (b : Bytes) (l : PointLoad), s.hubOn = true → s.point.load = some l →
    exec (.pointLoadCompletion b false) s = .next (State.loadEarly 128 (s.loadArrived b false (32 - (l.next - l.first)
      % 32)))) ∧
  (∀ (s : State), s.hubOn = true → s.point.on = true → s.pointHalted = false → s.point.fetch = none → s.reached
    (s.pointT s.point.next - s.rdAct Reg.PNT_FETCH_LEAD_NS) = true →
    exec .pointFetchStart s = .next ((s.withPoint fun p =>
      { p with fetch := some { k := p.next, left := List.range p.outLen } }).hostRead 2 (s.pointCb + 32) 8)) ∧
  (∀ (s : State) (mem : HostMem) (f : PointFetch), s.hubOn = true → s.point.fetch = some f →
    exec (.pointFetchDataArrival mem true) s = .next (s.withPoint fun p =>
      { p with fetch := some { f with failed := true } })) ∧
  (∀ (s : State) (mem : HostMem), s.hubOn = true →
    exec (.pointFetchDataArrival mem false) s = .next (s.fetchArrived mem false)) ∧
  (∀ (s : State), s.hubOn = true → s.point.on = true → s.reached (s.pointT s.point.next) = false →
    exec .pointCycleStart s = .next s) ∧
  (∀ (s y : State), s.hubOn = true → s.point.on = true → s.point.phase = .idle → s.reached (s.pointT s.point.next) =
    true → (y = s.withPoint fun p => { p with phase := .idle, next := s.point.next + 1 }) → y.pointHalted = true →
    exec .pointCycleStart s = .next (((y.withPoint fun p => { p with fetch := none }).pointState).pointSkip
      s.point.next 4 1)) ∧
  (∀ (s w x y z : State), s.hubOn = true → s.point.on = true → s.point.phase = .idle → s.reached (s.pointT
    s.point.next) = true → (w = s.withPoint fun p => { p with phase := .idle, next := s.point.next + 1 }) →
    w.pointHalted = false → x = (w.pointState.pointLatch s.point.next).pointOutputs s.point.next → (y = x.withPoint
    fun p =>
    { p with k := s.point.next, phase := .open_, islands := [], flagLate := p.lateNext, lateNext := false,
             flagInSubst := false, unreached := x.walkReach.2, backlog := [] }) → z = (y.wr Reg.PNT_CYCLE_LO_K_LO
    s.point.next).wr Reg.PNT_CYCLE_HI_K_HI (s.point.next / 2 ^ 32) →
    exec .pointCycleStart s = .next
        (((x.walkReach.1.foldl (fun (s : State) i => s.scatter z.point.k s.point.flagStale s.point.flagSubst i) z).count 0x243).pointDrain)) ∧
  (∀ (s y : State) (n : Fin 8) (f : Bytes) (t : Nat), s.hubOn = true → s.ethStamp n false = (t, y) →
    exec (.pointInputFrame n f) s = .next (y.pointInput n f (t / 65536 % 2 ^ 32))) ∧
  (∀ (s y z : State), s.hubOn = true → s.point.on = true → s.point.phase = .open_ → s.reached (s.pointT s.point.k +
    s.rdAct Reg.PNT_CLOSE_OFF_NS) = true → s.point.unreached = [] → s.point.backlog = [] → (y = s.withPoint fun p =>
    { p with phase := .loss, lost := 0, unreached := [], backlog := [] }) → (z = y.islands.foldl (fun (a : State) i =>
    if a.rdAct (Reg.PNT_ISL_ICNT_BYTES i) = 0 then a else a.lossPass ((s.pointT s.point.k + s.rdAct
    Reg.PNT_CLOSE_OFF_NS) % 2 ^ 32) i) y) →
    exec .pointWindowClose s = .next ((z.wr Reg.PNT_LOST_LO_LOST z.point.lost).wr Reg.PNT_LOST_HI_LOST (z.point.lost /
      2 ^ 32))) ∧
  (∀ (s y : State), s.hubOn = true → s.point.on = true → s.point.phase = .loss → (y = s.withPoint fun p =>
    { p with phase := .idle }) → y.pointWriting = true →
    exec .pointLossPassEnd s = .next (y.pointSkip s.point.k 2 1)) ∧
  (∀ (s y : State), s.hubOn = true → s.point.on = true → s.point.phase = .loss → (y = s.withPoint fun p =>
    { p with phase := .idle }) → y.pointWriting = false →
    exec .pointLossPassEnd s = .next y.publish) ∧
  (∀ (s y : State), s.hubOn = true → s.flag Reg.PNT_COMMIT_STAT_PENDING = false → y = s.put
    Reg.PNT_COMMIT_STAT_PENDING true → y.flag Reg.PNT_CTRL_EN = true →
    exec .pointCommit s = .next (y.withPoint fun p =>
      { p with commitFrom := p.next + b2n (p.on && y.reached (y.pointT p.next)) })) ∧
  (∀ (s : State), s.hubOn = true → s.flag Reg.PNT_COMMIT_STAT_PENDING = true → exec .pointCommit s = .next s) ∧
  (∀ (s y z : State), s.hubOn = true → s.flag Reg.PNT_COMMIT_STAT_PENDING = false → y = s.put
    Reg.PNT_COMMIT_STAT_PENDING true → y.flag Reg.PNT_CTRL_EN = false → (z = y.withPoint fun p =>
    { p with commitFrom := 0 }) →
    exec .pointCommit s = .next (z.pointLatch y.point.k))

/-- For every command c and state s whose queue starts with c, the step is exec of c on s with the queue's rest. -/
def Obligations.StepRunsTheFront : Prop :=
  ∀ (s : State) (c : Instr) (rest : List Instr), s.pending = c :: rest → step s = exec c { s with pending := rest }

/-- With an empty queue the step lets one core cycle pass (State.tick), and then serves the next request of Scribe's input
queue, if any, as the row that the request asks for, or refuses it where no row is asked for. This is the model's own
choice (log entry 1): the table has no row for a tick. -/
def Obligations.EmptyQueueStep : Prop :=
  (∀ (s : State), s.pending = [] → s.tick.nextRequest = none → step s = .next s.tick) ∧
  (∀ (s t : State) (r : Request) (i : Instr), s.pending = [] → s.tick.nextRequest = some (r, t) → instrOfRequest r =
    some i →
    step s = exec i t) ∧
  (∀ (s t : State) (r : Request), s.pending = [] → s.tick.nextRequest = some (r, t) → instrOfRequest r = none →
    step s = .next (t.otherRequest r))

/-- In the state after reset no command waits, the hub die is off, every register and every active copy reads the reset
value of its layout, SYS_MODE shows IDLE with no transition, the four standard queues are enabled and empty with
nothing lost, every event counter is 0 without OVF, no session is open, no job runs and no tunnel entry exists. That
the power die runs and the hub die is off is the model's reading (log entry 5), and where a Reset column gives a
strap, a record or a pin the value is the model's choice (log entry 4). -/
def Obligations.ResetState : Prop :=
  State.reset.pending = [] ∧ State.reset.hubOn = false ∧ (∀ a, State.reset.reg a = regReset a ∧ State.reset.actReg a =
    regReset a) ∧ State.reset.mode = 2 ∧ State.reset.rd Reg.SYS_MODE_TARGET = 2 ∧ State.reset.flag Reg.SYS_MODE_TRANS
    = false ∧ (∀ q, q < 4 → State.reset.flag (Reg.QUE_CFG_ENABLE q) = true ∧ State.reset.flag (Reg.QUE_CFG_INT_EN q) =
    true ∧ State.reset.queueLevel q = 0 ∧ State.reset.queue q = {}) ∧ (∀ i, State.reset.counter i = 0) ∧
    State.reset.overflow = [] ∧ (∀ h, (State.reset.session h).phase = .free) ∧ State.reset.cmd.jobs = [] ∧
    State.reset.tun.books = []

/-- POWER_DIE_STOP on a running power die answers a next state in which Damya is without power: every volatile register
and buffer of both dies is lost, and the fuses, the flash images and settings (with a programming job under way cut
short), the pins, the waiting commands and the record of what has left Damya are kept. -/
def Obligations.PowerDieStopIsDead : Prop :=
  ∀ (s : State), s.nib.on = true → (∀ tcs, Instr.powerOn tcs ∉ s.pending) →
    ∃ t, exec .powerDieStop s = .next t ∧ t.dead ∧ t.pending = s.pending ∧ t.out = s.out ∧ t.pins = s.pins ∧ t.nv =
      s.cmd.jobs.foldl (fun n j => cutJob n j.kind) s.nv

/-- For every state that holds nothing volatile because Damya has no power (State.dead), whatever commands other than
POWER_ON wait, every step that answers a next state answers one that is again without power: no packet, no event of
either die, no register write and no idle cycle brings any volatile state back. -/
def Obligations.DeadIsKept : Prop :=
  ∀ (s t : State), s.dead → step s = .next t → t.dead

/-- While the hub die has no power, every row but those of actsOnPowerDie answers the same state, and while the power die
has no power so does every row but POWER_ON and MGMT_STATUS_READ. -/
def Obligations.NoPowerNoEffect : Prop :=
  (∀ (i : Instr) (s : State), actsOnPowerDie i = false → s.hubOn = false → exec i s = .next s) ∧
  (∀ (i : Instr) (s : State), s.nib.on = false → (∀ tcs, i ≠ .powerOn tcs) → i ≠ .mgmtStatusRead →
    exec i s = .next s)

/-- For every packet row, with Scribe serving and no restart or poll under way: a version other than 1 answers
BAD_VERSION; then a length that disagrees with the delivered bytes or is above 4160, BAD_LENGTH; then a SESSION that
is neither 0 nor an open session of this transport, nor for SESSION_PROVE a half-open one, BAD_SESSION; then on an
open session a missing tag, or a tag other than the first 16 bytes of HMAC-SHA-256 over the header and the parameters,
AUTH_FAIL, except for the resend of the SESSION_PROVE that opened the session. Each refusal leaves the session table
alone but for the run of failed tags. A packet with none of these faults passes the four steps. -/
def Obligations.FrameChecks : Prop :=
  (∀ (i : Instr) (op : Nat) (q : Request) (s : State), packetOf i = some (op, q) → s.serving = true → s.cmd.restarting
    = false → s.scribeBusy = false → q.pkt.ver ≠ 1 →
    exec i s = .next (s.refuse (asked op q) 0x10)) ∧
  (∀ (i : Instr) (op : Nat) (q : Request) (s : State), packetOf i = some (op, q) → s.serving = true → s.cmd.restarting
    = false → s.scribeBusy = false → q.pkt.ver = 1 → 4160 < q.pkt.len ∨ q.pkt.delivered ≠ 16 + q.pkt.len + (if
    q.pkt.flags.testBit 1 then 16 else 0) →
    exec i s = .next (s.refuse (asked op q) 0x11)) ∧
  (∀ (i : Instr) (op : Nat) (q : Request) (s : State), packetOf i = some (op, q) → s.serving = true → s.cmd.restarting
    = false → s.scribeBusy = false → q.pkt.ver = 1 → lengthOk q.pkt = true → q.pkt.session ≠ 0 → q.pkt.session ∉
    handles ∨ (s.session q.pkt.session).via ≠ q.via ∨ (s.session q.pkt.session).phase = .free ∨ ((s.session
    q.pkt.session).phase = .halfOpen ∧ op ≠ 0x0201) →
    exec i s = .next (s.refuse (asked op q) 0x21)) ∧
  (∀ (i : Instr) (op : Nat) (q : Request) (s : State) (x : Session), packetOf i = some (op, q) → s.serving = true →
    s.cmd.restarting = false → s.scribeBusy = false → q.pkt.ver = 1 → lengthOk q.pkt = true → s.openSession q = some x
    → ¬ (op = 0x0201 ∧ hasTag q.pkt = false ∧ q.pkt.seq = x.keptSeq ∧ x.keptProve = true) → hasTag q.pkt = false ∨
    q.pkt.tag ≠ ((hmac x.key (headerBytes (asked op q).pkt ++ q.pkt.params)).take 16) →
    exec i s = .next (s.authFailed (asked op q))) ∧
  (∀ (op : Nat) (q : Request) (s : State), q.pkt.ver = 1 → lengthOk q.pkt = true → q.pkt.session = 0 ∨ (op = 0x0201 ∧
    q.pkt.session ∈ handles ∧ (s.session q.pkt.session).via = q.via ∧ (s.session q.pkt.session).phase = .halfOpen) →
    s.frameStatus (asked op q) = none) ∧
  (∀ (op : Nat) (q : Request) (s : State) (x : Session), q.pkt.ver = 1 → lengthOk q.pkt = true → s.openSession q =
    some x → hasTag q.pkt = true → q.pkt.tag = (hmac x.key (headerBytes (asked op q).pkt ++ q.pkt.params)).take 16 →
    s.frameStatus (asked op q) = none)

/-- For every packet row whose packet passes steps 1 to 4, with Scribe serving and no restart or poll under way: on an
open session a SEQ equal to the kept one is not executed again and the kept reply is sent again; a SEQ 1 to 32,767
above the kept one, or any SEQ on SESSION 0, is taken; any other answers REPLAY and leaves the kept SEQ. A taken
request on an opcode that the mode does not allow (State.modeAllows: the ROM's set in RECOVERY, OP_SET in IDLE, the
trunk tests outside their modes) answers WRONG_MODE, and one that its access class refuses answers that status; both
are kept as the session's reply. While Scribe restarts every packet answers BUSY_RESTART. -/
def Obligations.LaterChecks : Prop :=
  (∀ (i : Instr) (op : Nat) (q : Request) (s : State), packetOf i = some (op, q) → s.serving = true → s.cmd.restarting
    = true →
    exec i s = .next (s.refuse (asked op q) 0x31)) ∧
  (∀ (i : Instr) (op : Nat) (q : Request) (s : State), packetOf i = some (op, q) → s.serving = true → s.cmd.restarting
    = false → s.scribeBusy = true →
    exec i s = .next (s.enqueue (asked op q))) ∧
  (∀ (i : Instr) (op : Nat) (q : Request) (s : State) (x : Session), packetOf i = some (op, q) → s.serving = true →
    s.cmd.restarting = false → s.scribeBusy = false → s.frameStatus (asked op q) = none → s.openSession q = some x →
    q.pkt.seq = x.keptSeq → x.keptReply ≠ [] →
    exec i s = .next ((s.setSession q.pkt.session { x with authFails := 0 }).deliver q.via x.keptReply)) ∧
  (∀ (i : Instr) (op : Nat) (q : Request) (s : State) (x : Session), packetOf i = some (op, q) → s.serving = true →
    s.cmd.restarting = false → s.scribeBusy = false → s.frameStatus (asked op q) = none → s.openSession q = some x →
    q.pkt.seq ≠ x.keptSeq → 32767 < (q.pkt.seq + 65536 - x.keptSeq) % 65536 →
    exec i s = .next (s.refuse (asked op q) 0x23)) ∧
  (∀ (i : Instr) (op : Nat) (q : Request) (s : State), packetOf i = some (op, q) → s.serving = true → s.cmd.restarting
    = false → s.scribeBusy = false → s.frameStatus (asked op q) = none → s.freshSeq (asked op q) = true → s.modeAllows
    op = false →
    exec i s = .next ((s.begun op q).answered (s.begun op q) op q 0x32 [])) ∧
  (∀ (i : Instr) (op : Nat) (q : Request) (s : State) (a : OpAccess) (c : Nat), packetOf i = some (op, q) → s.serving
    = true → s.cmd.restarting = false → s.scribeBusy = false → s.frameStatus (asked op q) = none → s.freshSeq (asked
    op q) = true → s.modeAllows op = true → opcodeAccess op = some a → (s.begun op q).accessStatus op a ((s.begun op
    q).openSession (asked op q)) (asked op q) = some c →
    exec i s = .next ((s.begun op q).answered (s.begun op q) op q c [])) ∧
  (∀ (s : State) (op : Nat) (q : Request) (x : Session), s.openSession q = some x →
    (s.freshSeq (asked op q) = true ↔ q.pkt.seq ≠ x.keptSeq ∧ (q.pkt.seq + 65536 - x.keptSeq) % 65536 ≤ 32767) ∧
      (s.begun op q).session q.pkt.session =
      { x with keptSeq := q.pkt.seq, keptProve := false, keptReply := [], authFails := 0 })

/-- For every packet row outside the tunnel-entry packets of R210 and AUDIT, whose packet passes steps 1 to 5, outside
RECOVERY, in a mode that allows the opcode (State.modeAllows) and in a life cycle other than BLANK and SCRAPPED: a
NORMAL or SECURE opcode on SESSION 0 answers NO_SESSION; a SECURE opcode on a normal-world session answers DENIED; an
OPEN opcode passes in every case, a NORMAL opcode on any open session, and a SECURE opcode on a session of the secure
world. While the life cycle is BLANK, SESSION 0 passes for every class. -/
def Obligations.AccessByClass : Prop :=
  (∀ (i : Instr) (op : Nat) (q : Request) (s : State) (a : OpAccess), packetOf i = some (op, q) → s.serving = true →
    s.cmd.restarting = false → s.scribeBusy = false → s.frameStatus (asked op q) = none → q.pkt.session = 0 → s.mode ≠
    0 → s.modeAllows op = true → opcodeAccess op = some a → a ≠ .open_ → (s.begun op q).nv.lifeCycle ≠ 0 → (s.begun op
    q).nv.lifeCycle ≠ 4 → op < 0x0400 ∨ 0x0402 < op → op ≠ 0x0405 →
    exec i s = .next ((s.begun op q).answered (s.begun op q) op q 0x20 [])) ∧
  (∀ (i : Instr) (op : Nat) (q : Request) (s : State) (x : Session), packetOf i = some (op, q) → s.serving = true →
    s.cmd.restarting = false → s.scribeBusy = false → s.frameStatus (asked op q) = none → s.freshSeq (asked op q) =
    true → s.mode ≠ 0 → s.modeAllows op = true → opcodeAccess op = some .secure → s.openSession q = some x → x.world =
    0 → (s.begun op q).nv.lifeCycle ≠ 0 → (s.begun op q).nv.lifeCycle ≠ 4 → op < 0x0400 ∨ 0x0402 < op → op ≠ 0x0405 →
    exec i s = .next ((s.begun op q).answered (s.begun op q) op q 0x24 [])) ∧
  (∀ (op : Nat) (q : Request) (s : State) (a : OpAccess) (x : Session), s.serving = true → s.cmd.restarting = false →
    s.scribeBusy = false → s.frameStatus (asked op q) = none → s.freshSeq (asked op q) = true → s.mode ≠ 0 →
    s.modeAllows op = true → opcodeAccess op = some a → s.openSession q = some x → a = .open_ ∨ a = .normal ∨ x.world
    ≠ 0 → (s.begun op q).nv.lifeCycle ≠ 0 → (s.begun op q).nv.lifeCycle ≠ 4 → op < 0x0400 ∨ 0x0402 < op → op ≠ 0x0405
    →
    s.passes op q = true) ∧
  (∀ (op : Nat) (q : Request) (s : State), s.serving = true → s.cmd.restarting = false → s.scribeBusy = false →
    s.frameStatus (asked op q) = none → q.pkt.session = 0 → s.mode ≠ 0 → s.modeAllows op = true → opcodeAccess op =
    some .open_ → (s.begun op q).nv.lifeCycle ≠ 0 → (s.begun op q).nv.lifeCycle ≠ 4 → op < 0x0400 ∨ 0x0402 < op → op ≠
    0x0405 →
    s.passes op q = true) ∧
  (∀ (op : Nat) (q : Request) (s : State) (a : OpAccess), s.serving = true → s.cmd.restarting = false → s.scribeBusy =
    false → s.frameStatus (asked op q) = none → q.pkt.session = 0 → s.modeAllows op = true → opcodeAccess op = some a
    → s.nv.lifeCycle = 0 → op < 0x0400 ∨ 0x0402 < op → op ≠ 0x0405 →
    s.passes op q = true)

/-- Every reply that Damya makes to a request, whether it took the request (State.answer) or not (State.refuse), carries
no tag when the request is on SESSION 0 or names no open session, a tag of 16 bytes made with the session's key over
the reply's header and parameters when it is on an open session, and none with status BAD_SESSION or AUTH_FAIL. -/
def Obligations.ReplyTags : Prop :=
  (∀ (s : State) (r : Request) (st : Nat) (p b : Bytes), r.pkt.session = 0 ∨ s.openSession r = none → b = headerBytes
    { opcode := r.pkt.opcode, seq := r.pkt.seq, session := r.pkt.session, len := p.length, status := st, params := p,
      flags := 1 } ++ p →
    s.answer r st p = s.deliver r.via b ∧ (p = [] → s.refuse r st = s.deliver r.via b)) ∧
  (∀ (s : State) (r : Request) (st : Nat) (p b : Bytes) (x : Session), s.openSession r = some x → x.keptSeq =
    r.pkt.seq → st ≠ 0x21 → st ≠ 0x22 → b = headerBytes
    { opcode := r.pkt.opcode, seq := r.pkt.seq, session := r.pkt.session, len := p.length, status := st, params := p,
      flags := 3 } ++ p →
    s.answer r st p = (s.setSession r.pkt.session { x with keptReply := b ++ (hmac x.key b).take 16 }).deliver r.via (b ++ (hmac x.key b).take 16) ∧
      (p = [] → s.refuse r st = s.deliver r.via (b ++ (hmac x.key b).take 16))) ∧
  (∀ (s : State) (r : Request) (st : Nat) (p b : Bytes) (x : Session), s.openSession r = some x → x.keptSeq =
    r.pkt.seq → st = 0x21 ∨ st = 0x22 → b = headerBytes
    { opcode := r.pkt.opcode, seq := r.pkt.seq, session := r.pkt.session, len := p.length, status := st, params := p,
      flags := 1 } ++ p →
    s.answer r st p = (s.setSession r.pkt.session { x with keptReply := b }).deliver r.via b ∧ (p = [] → s.refuse r st
      = s.deliver r.via b)) ∧
  (∀ (s : State) (r : Request) (st : Nat) (p b : Bytes) (x : Session), s.openSession r = some x → x.keptSeq ≠
    r.pkt.seq → st ≠ 0x21 → st ≠ 0x22 → b = headerBytes
    { opcode := r.pkt.opcode, seq := r.pkt.seq, session := r.pkt.session, len := p.length, status := st, params := p,
      flags := 3 } ++ p →
    s.answer r st p = s.deliver r.via (b ++ (hmac x.key b).take 16)) ∧
  (∀ (s : State) (r : Request) (st : Nat) (p b : Bytes) (x : Session), s.openSession r = some x → x.keptSeq ≠
    r.pkt.seq → st = 0x21 ∨ st = 0x22 → b = headerBytes
    { opcode := r.pkt.opcode, seq := r.pkt.seq, session := r.pkt.session, len := p.length, status := st, params := p,
      flags := 1 } ++ p →
    s.answer r st p = s.deliver r.via b)

/-- For every packet whose fields lie in their ranges, whose LEN counts its parameters, whose tag is 16 bytes exactly when
FLAGS.TAG is 1 and whose delivered count is that of its bytes, reading its header, parameters and tag gives the packet
back, every field at every value; and for every byte string whose LEN agrees with its length, writing what was read
gives the same bytes. -/
def Obligations.PacketRoundTrip : Prop :=
  (∀ (p : Packet), p.ver < 16 ∧ p.flags < 16 ∧ p.opcode < 65536 ∧ p.seq < 65536 ∧ p.session < 256 ∧ p.status < 256 ∧
    p.rsv.length = 7 → p.len = p.params.length → p.len ≤ 4160 → p.tag.length = (if p.flags.testBit 1 then 16 else 0) →
    p.delivered = 16 + p.len + p.tag.length →
    parsePacket (headerBytes p ++ p.params ++ p.tag) = p) ∧
  (∀ (b : Bytes), 16 ≤ b.length → lengthOk (parsePacket b) = true →
    headerBytes (parsePacket b) ++ (parsePacket b).params ++ (parsePacket b).tag = b)

/-- With F, M, C and W in order and within the capacity and both copies equal for every queue (State.queuesSound), the
producer, with and without its notices, keeps them so, and so does every one of the queue commands, whatever it
answers, and the enable edge and the integrity reset; and the queues after reset are sound. -/
def Obligations.QueueOrderKept : Prop :=
  (State.reset.queuesSound) ∧
  (∀ (s : State) (q : Nat) (e : Bytes), s.queuesSound → q < 4 →
    (s.produceRaw q e).1.queuesSound ∧ (s.produce q e).queuesSound) ∧
  (∀ (s : State) (code : Nat) (d : Bytes), s.queuesSound → (s.notice code d).queuesSound) ∧
  (∀ (s t : State) (r : Request) (i : Instr), s.queuesSound → i ∈ [.queueConfig r, .queueRead r, .queueMark r,
    .queueRewind r, .queueRelease r] → exec i s = .next t →
    t.queuesSound) ∧
  (∀ (s t : State) (q : Fin 4), s.queuesSound → exec (.queueEnableRise q) s = .next t ∨ exec (.queueIntegrityReset q)
    s = .next t →
    t.queuesSound)

/-- While the hub die runs, the two copies of the notice queue's indices are equal and the queue is enabled, a notice with
a 16-bit code leaves an entry at slot W modulo 512 of queue 0 that is 32 bytes long, with the code in bytes 0 and 1,
POSITION in byte 2, NSEQ in bytes 4 and 5, 0 in bytes 3, 6 and 7, the Meridian stamp in bytes 8 to 19 and the detail
in bytes 20 to 31; W moves up by one, NSEQ is one more than before, modulo 65,536, and with the queue disabled the
entry is dropped and counted in LOST while NSEQ still moves. -/
def Obligations.NoticeEntry : Prop :=
  (∀ (s : State) (code : Nat) (d e : Bytes), s.hubOn = true → (s.queue 0).agrees = true → s.flag (Reg.QUE_CFG_ENABLE
    0) = true → code < 65536 → (e = Table.get (fun _ => []) ((s.notice code d).queue 0).slots ((s.queue 0).w % 512)) →
    e.length = 32 ∧ leAt e 0 2 = code ∧ leAt e 2 1 = s.position % 256 ∧ leAt e 3 1 = 0 ∧ leAt e 4 2 = s.nseq % 65536 ∧ leAt e 6 2 = 0 ∧ slice e 8 12 = timeBytes s.stamp ∧ slice e 20 12 = padTo 12 d ∧
      ((s.notice code d).queue 0).w = ((s.queue 0).w + 1) % 65536 ∧ (s.notice code d).nseq = (s.nseq + 1) % 65536) ∧
  (∀ (s : State) (code : Nat) (d : Bytes), s.hubOn = true → (s.queue 0).agrees = true → s.flag (Reg.QUE_CFG_ENABLE 0)
    = false →
    (s.notice code d).queue 0 = { s.queue 0 with lost := min 0xFFFF ((s.queue 0).lost + 1) } ∧ (s.notice code d).nseq
      = (s.nseq + 1) % 65536)

/-- A command packet of any row whose frame fails one of the steps 1 to 4, with Scribe serving and no restart or poll
under way, answers a next state in which every register and active copy, the fuses and flash, the keys, the tunnel
books, Meridian, the lanes, the eFuse and Type-C channels, the display, the USB engine, the point engine, the jobs and
the input queue are as before, and every session but the one the packet names. -/
def Obligations.RefusalFrame : Prop :=
  ∀ (i : Instr) (op : Nat) (q : Request) (s : State) (c : Nat), packetOf i = some (op, q) → s.serving = true →
    s.cmd.restarting = false → s.scribeBusy = false → s.frameStatus (asked op q) = some c →
    ∃ t, exec i s = .next t ∧ t.pending = s.pending ∧ t.regs = s.regs ∧ t.act = s.act ∧ t.nib = s.nib ∧ t.nv = s.nv ∧ t.ink = s.ink ∧ t.fw = s.fw ∧ t.tun = s.tun ∧ t.mer = s.mer ∧ t.lanes = s.lanes ∧ t.links = s.links ∧ t.fuses = s.fuses ∧ t.tc = s.tc ∧ t.dsp = s.dsp ∧ t.usb = s.usb ∧ t.point = s.point ∧ t.eth = s.eth ∧
      t.cmd.jobs = s.cmd.jobs ∧ t.cmd.input = s.cmd.input ∧ t.cmd.waiting = s.cmd.waiting ∧ ∀ h, h ≠ q.pkt.session → t.session h = s.session h

/-- For every bucket in balance, 0 ≤ TOKENS ≤ BURST and TOKENS = ADDED_CUM − SPENT_CUM − CLIPPED_CUM modulo 2^32, the fill
over any time, a debit of at most its tokens, and a retune keep it in balance; and with every policer in balance,
loading one, retuning one, metering a segment and POLICER_SNAPSHOT leave every policer in balance. That a freshly
loaded bucket counts its first fill in ADDED_CUM is the model's choice (log entry 13). -/
def Obligations.PolicerBooks : Prop :=
  (∀ (b : PolicerBucket) (r n rate kib : Nat), policerBalanced b →
    policerBalanced (b.fill r) ∧ (n ≤ b.tokens → policerBalanced (b.spend n)) ∧ policerBalanced (b.retune rate kib)) ∧
  (∀ (s : State) (tid d cls n : Nat) (x : Rates), s.policersBalanced →
    (s.loadPolicer tid d cls x).policersBalanced ∧ (s.retunePolicer tid d cls x).policersBalanced ∧ (s.meter tid
      n).2.2.policersBalanced) ∧
  (∀ (s t : State) (v : Word), s.policersBalanced → exec (.policerSnapshot v) s = .next t → t.policersBalanced)

/-- SEGMENT_ADMISSION on a segment on TID 0 or TID 1, or with SYS = 1, that has outputs, once the ports below its own have
had their turn, answers the state in which it is admitted with the color green where there is room for it, and else
the state in which it is dropped for want of room: no policer is debited, WRED has no say and its own color is not
looked at. The same holds of one whose local copy is for a unit that is mapped out, which is counted for that unit's
port. -/
def Obligations.SystemSegments : Prop :=
  (∀ (s x y : State) (p : Fin 32) (id : Nat) (rest : List Nat) (h k : Held) (d : List Nat), s.hubOn = true →
    s.sw.arriving ≠ [] → x = (List.range p.val).foldl State.admitAt s → (Table.get (fun _ => []) x.sw.arriving p.val =
    id :: rest) → (y = x.withSw fun w => { w with arriving := Table.set (fun _ => []) w.arriving p.val rest }) →
    y.seg? id = some h → h.seg.tid < 2 ∨ h.seg.sys = true → (k =
    { h with cls := if h.input < 4 then h.cls else if h.seg.urg || decide (h.seg.tid < 2) then 0 else y.tidClass h.seg.tid })
    → y.target k (if h.input < 4 then some (h.input / 2) else none) = .outputs d →
    exec (.segmentAdmission p) s = .next
        (let z := y.cometSelect id k d (y.targetQueue k d).1
        let g := { k with seg := { k.seg with color := 0 } }
        if z.room k.input k.cls k.cells (y.targetQueue k d).1 then z.admitted id g d else z.reject id g 4 4)) ∧
  (∀ (s x y : State) (p : Fin 32) (id : Nat) (rest : List Nat) (h k : Held) (d : List Nat) (w : State) (o u : Nat),
    s.hubOn = true → s.sw.arriving ≠ [] → x = (List.range p.val).foldl State.admitAt s → (Table.get (fun _ => [])
    x.sw.arriving p.val = id :: rest) → (y = x.withSw fun w =>
    { w with arriving := Table.set (fun _ => []) w.arriving p.val rest }) → y.seg? id = some h → h.seg.tid < 2 ∨
    h.seg.sys = true → (k =
    { h with cls := if h.input < 4 then h.cls else if h.seg.urg || decide (h.seg.tid < 2) then 0 else y.tidClass h.seg.tid })
    → y.target k (if h.input < 4 then some (h.input / 2) else none) = .tapOut o u → w = y.count (0x060 + 8 * u + 5)
    k.cells → d = [o] →
    exec (.segmentAdmission p) s = .next
        (let z := w.cometSelect id k d (w.targetQueue k d).1
        let g := { k with seg := { k.seg with color := 0 } }
        if z.room k.input k.cls k.cells (w.targetQueue k d).1 then z.admitted id g d else z.reject id g 4 4))

/-- REG_READ, REG_WRITE and REG_MODIFY that pass their checks and name, with parameters of the right length and a COUNT of
1 to 256, an address that lies in no block or at no register of its block answer BAD_ADDRESS with nothing changed but
the reply; and REGISTER_WRITE to such an address changes nothing. -/
def Obligations.BadAddressRefused : Prop :=
  (∀ (s u : State) (r : Request), s.passes 0x0310 r = true → u = s.begun 0x0310 r → 6 ≤ r.pkt.params.length → 1 ≤ leAt
    r.pkt.params 4 2 → leAt r.pkt.params 4 2 ≤ 256 → badAddress (leAt r.pkt.params 0 4) = true →
    exec (.regRead r) s = .next (u.answered u 0x0310 r 0x14 [])) ∧
  (∀ (s u : State) (r : Request), s.passes 0x0311 r = true → u = s.begun 0x0311 r → 1 ≤ leAt r.pkt.params 4 2 → leAt
    r.pkt.params 4 2 ≤ 256 → 8 + 4 * leAt r.pkt.params 4 2 ≤ r.pkt.params.length → badAddress (leAt r.pkt.params 0 4)
    = true →
    exec (.regWrite r) s = .next (u.answered u 0x0311 r 0x14 [0, 0, 0, 0])) ∧
  (∀ (s u : State) (r : Request), s.passes 0x0312 r = true → u = s.begun 0x0312 r → 12 ≤ r.pkt.params.length →
    badAddress (leAt r.pkt.params 0 4) = true →
    exec (.regModify r) s = .next (u.answered u 0x0312 r 0x14 [])) ∧
  (∀ (s : State) (a w : Word), badAddress a.toNat = true → exec (.registerWrite a w) s = .next s) ∧
  (∀ (a : Nat), badAddress a = true ↔ a % 4 ≠ 0 ∨ ∀ r, r ∈ blockRows (a / 0x10000) → r.index a = none)

/-- For every register of the map and every field of it, the word a write leaves holds the written bits in an RW, RWS or
RWL field, the old bits less those written 1 in a W1C field, and the old bits in an RO or WO field; every reserved bit
keeps its value; and REGISTER_WRITE in a block whose registers cause nothing else leaves exactly that word in that
register, and every other register and everything else as it was. -/
def Obligations.RegisterFieldTypes : Prop :=
  (∀ (a i : Nat) (r : RegRow) (f : FieldDef) (w old : Word), regRow a = some (r, i) → f ∈ r.fields →
    (f.acc = .rw ∨ f.acc = .rws ∨ f.acc = .rwl → (f.at a).get (regWritten a w old) = (f.at a).get w) ∧
      (f.acc = .w1c → (f.at a).get (regWritten a w old) = (f.at a).get (old &&& ~~~w)) ∧
      (f.acc = .ro ∨ f.acc = .wo → (f.at a).get (regWritten a w old) = (f.at a).get old)) ∧
  (∀ (a i j : Nat) (r : RegRow) (w old : Word), regRow a = some (r, i) → (∀ f, f ∈ r.fields → j < f.lo ∨ f.hi < j) →
    (regWritten a w old).getLsbD j = old.getLsbD j) ∧
  (∀ (s : State) (a w : Word), s.hubOn = true → badAddress a.toNat = false → a.toNat / 0x10000 ∈ [0x00, 0x01, 0x10,
    0x12, 0x20, 0x62, 0xA0, 0xB0, 0xB1, 0xC0] →
    exec (.registerWrite a w) s = .next
      { s with regs := Table.set regReset s.regs a.toNat (regWritten a.toNat w (s.reg a.toNat)) })

/-- A rate change, and the folding of the slew made so far, leave the reading of the present instant as it was; a step by
any amount adds exactly that amount to it, ends the correction still to slew and counts GEN up modulo 256; RAW is
never written; and SEC, NSEC and FRAC of a reading are its parts, NSEC below 10^9, from which the reading comes back. -/
def Obligations.ReadingChanges : Prop :=
  (∀ (s : State) (rate : Int),
    s.foldSlew.reading = s.reading ∧ (s.changeRate rate).reading = s.reading ∧ (s.changeRate rate).mer.rateAdj = rate
      ∧ (s.changeRate rate).mer.raw = s.mer.raw ∧ s.foldSlew.mer.raw = s.mer.raw) ∧
  (∀ (s : State) (d : Int) (cause : Nat),
    (s.stepTime d cause).reading = s.reading + d ∧ (s.stepTime d cause).mer.pend = 0 ∧ (s.stepTime d cause).mer.raw =
      s.mer.raw ∧ (s.stepTime d cause).rd Reg.MER_GEN_GEN = (s.rd Reg.MER_GEN_GEN + 1) % 256) ∧
  (∀ (t : Int), 0 ≤ t →
    timeOf (secOf t) (nsecOf t) (fracOf t) = t.toNat ∧ nsecOf t < 1000000000 ∧ fracOf t < 65536 ∧ (fracOf t : Int) = t
      % 65536) ∧
  (∀ (s : State) (e : Int), (s.setPend e).reading = s.reading ∧ (s.setPend e).pendLeft = e)

/-- While the hub die runs, adding to event counter i leaves it at the sum modulo 2^48; a sum of 2^48 or more sets the
counter's OVF bit, which stays set, a smaller one changes no OVF bit; every other counter, every register and active
copy is kept; and while the hub die has no power nothing counts. -/
def Obligations.EventCounterWrap : Prop :=
  (∀ (s : State) (i n : Nat), s.hubOn = true →
    (s.count i n).counter i = (s.counter i + n) % 2 ^ 48 ∧ (∀ j, j ≠ i → (s.count i n).counter j = s.counter j) ∧ (∀
      j, j ∈ (s.count i n).overflow ↔ j ∈ s.overflow ∨ (j = i ∧ 2 ^ 48 ≤ s.counter i + n)) ∧ (s.count i n).regs =
      s.regs ∧ (s.count i n).act = s.act) ∧
  (∀ (s : State) (i n : Nat), s.hubOn = false → s.count i n = s)

/-- For every channel: a trip raises USED by one unless it stands at LIMIT, and leaves LEFT and LIMIT, with the decision
pending; the decision takes one from LEFT and puts the channel in HOLD, or in LATCHED when LEFT is 0, and leaves USED
and LIMIT; so USED + LEFT = LIMIT is kept by the pair, with LIMIT + 1 in between; taking a profile gives LIMIT its
value and LEFT what USED leaves of it; and RETRY_CLEAR_EXPIRY returns USED to 0 and LEFT to LIMIT. -/
def Obligations.RetryBooks : Prop :=
  (∀ (s t : State) (n cause : Nat) (point : Option Nat) (x : FuseSample), n < 8 → t = s.fuseTrip n cause point x →
    (t.fuse n).deciding = true ∧ t.rd (Reg.EFU_CH_RETRY_LIMIT n) = s.rd (Reg.EFU_CH_RETRY_LIMIT n) ∧ t.rd (Reg.EFU_CH_RETRY_LEFT n) = s.rd (Reg.EFU_CH_RETRY_LEFT n) ∧
      t.rd (Reg.EFU_CH_RETRY_USED n) = (if s.rd (Reg.EFU_CH_RETRY_USED n) < s.rd (Reg.EFU_CH_RETRY_LIMIT n) then s.rd (Reg.EFU_CH_RETRY_USED n) + 1 else s.rd (Reg.EFU_CH_RETRY_USED n)) ∧
      ((s.fuse n).deciding = false → s.retryBooks n → t.retryBooks n)) ∧
  (∀ (s t : State) (n : Nat), n < 8 → (s.fuse n).shadow = none → t = s.fuseDecide n →
    (t.fuse n).deciding = false ∧ t.rd (Reg.EFU_CH_RETRY_LIMIT n) = s.rd (Reg.EFU_CH_RETRY_LIMIT n) ∧ t.rd
      (Reg.EFU_CH_RETRY_USED n) = s.rd (Reg.EFU_CH_RETRY_USED n) ∧ t.rd (Reg.EFU_CH_RETRY_LEFT n) = s.rd
      (Reg.EFU_CH_RETRY_LEFT n) - 1 ∧ t.fuseState n = (if s.rd (Reg.EFU_CH_RETRY_LEFT n) = 0 then 8 else 7)) ∧
  (∀ (s t : State) (n : Nat) (p : Bytes), n < 8 → profLimit p ≤ 15 → t = s.takeProfile n p →
    t.rd (Reg.EFU_CH_RETRY_LIMIT n) = profLimit p ∧ t.rd (Reg.EFU_CH_RETRY_USED n) = min (s.rd (Reg.EFU_CH_RETRY_USED
      n)) (profLimit p) ∧ t.rd (Reg.EFU_CH_RETRY_USED n) + t.rd (Reg.EFU_CH_RETRY_LEFT n) = t.rd
      (Reg.EFU_CH_RETRY_LIMIT n)) ∧
  (∀ (s : State) (n : Fin 8), s.nib.on = true → s.flag (Reg.EFU_CH_STAT_PG n) = true → s.rd (Reg.EFU_CH_RETRY_USED n)
    ≠ 0 →
    ∃ t, exec (.retryClearExpiry n) s = .next t ∧ t.rd (Reg.EFU_CH_RETRY_USED n) = 0 ∧ t.rd (Reg.EFU_CH_RETRY_LEFT n)
      = s.rd (Reg.EFU_CH_RETRY_LIMIT n) ∧ t.rd (Reg.EFU_CH_RETRY_LIMIT n) = s.rd (Reg.EFU_CH_RETRY_LIMIT n))

end
end

