-- ==== Sys2Proof/Laws/Table.lean ====
section
/-!
SUPPORT. Laws of the sparse maps: a read after a write, and the canonical form that every write keeps.
-/

namespace Sys2Proof.Table

variable {α : Type}

@[simp] theorem get_nil (d : Nat → α) (k : Nat) : get d [] k = d k := rfl

theorem get_cons (d : Nat → α) (e : Nat × α) (t : Table α) (k : Nat) :
    get d (e :: t) k = if e.1 = k then e.2 else get d t k := by
  by_cases h : e.1 = k <;> simp [get, h]

theorem get_insert_self (d : Nat → α) (t : Table α) (k : Nat) (v : α) : get d (insert k v t) k = v := by
  induction t with
  | nil => simp [insert, get_cons]
  | cons e r ih =>
    rcases Nat.lt_trichotomy k e.1 with h | h | h
    · simp [insert, h, get_cons]
    · simp [insert, h, get_cons]
    · simp [insert, h.not_gt, h.ne', h.ne, get_cons, ih]

theorem get_insert_ne (d : Nat → α) (t : Table α) {k j : Nat} (v : α) (h : j ≠ k) :
    get d (insert k v t) j = get d t j := by
  induction t with
  | nil => simp [insert, get_cons, h.symm]
  | cons e r ih =>
    rcases Nat.lt_trichotomy k e.1 with g | g | g
    · simp [insert, g, get_cons, h.symm]
    · subst g
      simp [insert, get_cons, h.symm]
    · simp [insert, g.not_gt, g.ne', get_cons, ih]

theorem get_filter_ne (d : Nat → α) (t : Table α) (k j : Nat) :
    get d (t.filter fun e => e.1 != k) j = if j = k then d j else get d t j := by
  induction t with
  | nil => simp
  | cons e r ih =>
    by_cases h : e.1 = k
    · by_cases g : j = k <;> simp_all [get_cons]
      intro h'; exact absurd h'.symm g
    · by_cases g : j = k <;> simp_all [get_cons]

/-- A read after a write. -/
theorem get_set [DecidableEq α] (d : Nat → α) (t : Table α) (k j : Nat) (v : α) :
    get d (set d t k v) j = if j = k then v else get d t j := by
  unfold set
  split
  · rename_i h
    rw [get_filter_ne]
    split
    · simp_all
    · rfl
  · split
    · simp_all [get_insert_self]
    · exact get_insert_ne d t v ‹_›

@[simp] theorem get_set_self [DecidableEq α] (d : Nat → α) (t : Table α) (k : Nat) (v : α) : get d (set d t k v) k = v := by
  simp [get_set]

theorem get_set_ne [DecidableEq α] (d : Nat → α) (t : Table α) {k j : Nat} (v : α) (h : j ≠ k) :
    get d (set d t k v) j = get d t j := by simp [get_set, h]

/-- The canonical form, said of a table's entries. -/
theorem wf_iff [DecidableEq α] (d : Nat → α) (t : Table α) :
    wf d t = true ↔ t.Pairwise (fun e f => e.1 < f.1) ∧ ∀ e ∈ t, e.2 ≠ d e.1 := by
  induction t with
  | nil => simp [wf]
  | cons e r ih =>
    cases r with
    | nil => simp [wf]
    | cons f r =>
      simp only [wf, Bool.and_eq_true, decide_eq_true_eq, ih]
      simp only [List.pairwise_cons, List.mem_cons, forall_eq_or_imp]
      constructor
      · rintro ⟨⟨he, hl⟩, ⟨⟨hf, hr⟩, hd⟩⟩
        exact ⟨⟨⟨hl, fun a ha => hl.trans (hf a ha)⟩, hf, hr⟩, he, hd⟩
      · rintro ⟨⟨⟨hl, _⟩, hf, hr⟩, he, hd⟩
        exact ⟨⟨he, hl⟩, ⟨hf, hr⟩, hd⟩

theorem mem_insert {k : Nat} {v : α} {t : Table α} {e : Nat × α} (h : e ∈ insert k v t) : e = (k, v) ∨ e ∈ t := by
  induction t with
  | nil => simpa [insert] using h
  | cons f r ih =>
    simp only [insert] at h
    split at h
    · simpa using h
    · split at h
      · rcases List.mem_cons.1 h with h | h
        · exact .inl h
        · exact .inr (List.mem_cons_of_mem _ h)
      · rcases List.mem_cons.1 h with h | h
        · exact .inr (h ▸ List.mem_cons_self)
        · rcases ih h with h | h
          · exact .inl h
          · exact .inr (List.mem_cons_of_mem _ h)

theorem pairwise_insert {k : Nat} {v : α} {t : Table α} (h : t.Pairwise fun e f => e.1 < f.1) :
    (insert k v t).Pairwise fun e f => e.1 < f.1 := by
  induction t with
  | nil => simp [insert]
  | cons f r ih =>
    have hr := List.pairwise_cons.1 h
    simp only [insert]
    split
    · rename_i g
      refine List.pairwise_cons.2 ⟨fun e he => ?_, h⟩
      rcases List.mem_cons.1 he with rfl | he
      · exact g
      · exact g.trans (hr.1 e he)
    · split
      · rename_i g
        exact List.pairwise_cons.2 ⟨fun e he => g ▸ hr.1 e he, hr.2⟩
      · refine List.pairwise_cons.2 ⟨fun e he => ?_, ih hr.2⟩
        rcases mem_insert he with rfl | he
        · simp only; omega
        · exact hr.1 e he

/-- Every write keeps the canonical form. -/
theorem wf_set [DecidableEq α] (d : Nat → α) (t : Table α) (k : Nat) (v : α) (h : wf d t = true) : wf d (set d t k v) = true := by
  rw [wf_iff] at h ⊢
  unfold set
  split
  · exact ⟨h.1.filter _, fun e he => h.2 e (List.mem_filter.1 he).1⟩
  · refine ⟨pairwise_insert h.1, fun e he => ?_⟩
    rcases mem_insert he with rfl | he
    · assumption
    · exact h.2 e he

theorem wf_keep [DecidableEq α] (d : Nat → α) (p : Nat → Bool) (t : Table α) (h : wf d t = true) : wf d (keep p t) = true := by
  rw [wf_iff] at h ⊢
  exact ⟨h.1.filter _, fun e he => h.2 e (List.mem_filter.1 he).1⟩

theorem wf_setFrom [DecidableEq α] (d : Nat → α) (l : List α) : ∀ (t : Table α) (k : Nat), wf d t = true → wf d (setFrom d t k l) = true := by
  induction l with
  | nil => exact fun _ _ h => h
  | cons v r ih => exact fun t k h => ih _ _ (wf_set d t k v h)

end Sys2Proof.Table
end

