-- ==== Sys2Proof/Laws/Registers.lean ====
section
/-!
SUPPORT. Laws of registers and their fields: what a field reads after a write of it, and what every write leaves alone.
-/

namespace Sys2Proof.Machine

theorem Fld.get_put_same (f : Fld) (w : Word) (v : Nat) (h : f.lo + f.width ≤ 32) :
    f.get (f.put w v) = v % 2 ^ f.width := by
  have : (f.put w v).extractLsb' f.lo f.width = BitVec.ofNat f.width v := by
    apply BitVec.eq_of_getLsbD_eq
    intro i hi
    have h1 : f.lo + i < 32 := by omega
    simp [Fld.put, Fld.mask, hi, h1]
  simp [Fld.get, this]

theorem Fld.get_put_other (f g : Fld) (w : Word) (v : Nat) (h : g.lo + g.width ≤ f.lo ∨ f.lo + f.width ≤ g.lo) :
    g.get (f.put w v) = g.get w := by
  have : (f.put w v).extractLsb' g.lo g.width = w.extractLsb' g.lo g.width := by
    apply BitVec.eq_of_getLsbD_eq
    intro i hi
    by_cases h1 : g.lo + i < 32
    · simp [Fld.put, Fld.mask, hi, h1]
      rcases h with h | h
      · have : g.lo + i < f.lo := by omega
        simp [this]
      · have : ¬ g.lo + i < f.lo := by omega
        have : ¬ (g.lo + i - f.lo < f.width) := by omega
        simp_all
    · simp [hi, BitVec.getLsbD_of_ge _ _ (Nat.le_of_not_lt h1)]
  simp [Fld.get, this]

theorem State.reg_setReg (s : State) (a b : Nat) (w : Word) :
    (s.setReg a w).reg b = if b = a then w else s.reg b := Table.get_set _ _ _ _ _

@[simp] theorem State.reg_setReg_self (s : State) (a : Nat) (w : Word) : (s.setReg a w).reg a = w := by
  simp [State.reg_setReg]

theorem State.reg_wr (s : State) (f : Fld) (v b : Nat) :
    (s.wr f v).reg b = if b = f.addr then f.put (s.reg f.addr) v else s.reg b := State.reg_setReg ..

/-- A field reads what was written, modulo its width. -/
theorem State.rd_wr_self (s : State) (f : Fld) (v : Nat) (h : f.lo + f.width ≤ 32) :
    (s.wr f v).rd f = v % 2 ^ f.width := by
  simp [State.rd, State.reg_wr, Fld.get_put_same _ _ _ h]

/-- A write of one field leaves every other field alone. -/
theorem State.rd_wr_other (s : State) (f g : Fld) (v : Nat)
    (h : g.addr ≠ f.addr ∨ g.lo + g.width ≤ f.lo ∨ f.lo + f.width ≤ g.lo) : (s.wr f v).rd g = s.rd g := by
  by_cases e : g.addr = f.addr
  · simp [State.rd, State.reg_wr, e, Fld.get_put_other f g _ _ (h.resolve_left (fun k => k e))]
  · simp [State.rd, State.reg_wr, e]

theorem State.flag_put_self (s : State) (f : Fld) (b : Bool) (h : f.lo + f.width ≤ 32) (h1 : 0 < f.width) :
    (s.put f b).flag f = b := by
  have : 1 < 2 ^ f.width := Nat.one_lt_two_pow h1.ne'
  cases b <;> simp [State.flag, State.put, State.rd_wr_self _ _ _ h, b2n, Nat.mod_eq_of_lt this]

theorem State.reg_put (s : State) (f : Fld) (b : Bool) (a : Nat) (h : a ≠ f.addr) : (s.put f b).reg a = s.reg a := by
  simp [State.put, State.reg_wr, h]

end Sys2Proof.Machine
end

