-- ==== Sys2Proof/Laws/State.lean ====
section
/-!
SUPPORT. Laws of the named updates of the state: for each, every field it leaves alone, and what the field it changes holds.
-/

namespace Sys2Proof.Machine

namespace State

@[simp] theorem setReg_frame (s : State) (a : Nat) (w : Word) :
    (s.setReg a w).pending = s.pending ∧ (s.setReg a w).act = s.act ∧ (s.setReg a w).counters = s.counters ∧
    (s.setReg a w).overflow = s.overflow ∧ (s.setReg a w).out = s.out ∧ (s.setReg a w).fresh = s.fresh ∧
    (s.setReg a w).limits = s.limits ∧ (s.setReg a w).nseq = s.nseq ∧ (s.setReg a w).pins = s.pins ∧
    (s.setReg a w).nib = s.nib ∧ (s.setReg a w).cmd = s.cmd ∧ (s.setReg a w).queues = s.queues ∧
    (s.setReg a w).mer = s.mer ∧ (s.setReg a w).tio = s.tio ∧ (s.setReg a w).nv = s.nv ∧ (s.setReg a w).ink = s.ink ∧
    (s.setReg a w).fw = s.fw ∧ (s.setReg a w).perf = s.perf ∧ (s.setReg a w).sw = s.sw ∧ (s.setReg a w).tun = s.tun ∧
    (s.setReg a w).links = s.links ∧ (s.setReg a w).lanes = s.lanes ∧ (s.setReg a w).clk = s.clk ∧
    (s.setReg a w).pcie = s.pcie ∧ (s.setReg a w).eth = s.eth ∧ (s.setReg a w).point = s.point ∧
    (s.setReg a w).dsp = s.dsp ∧ (s.setReg a w).usb = s.usb ∧ (s.setReg a w).fuses = s.fuses ∧
    (s.setReg a w).tc = s.tc :=
  ⟨rfl, rfl, rfl, rfl, rfl, rfl, rfl, rfl, rfl, rfl, rfl, rfl, rfl, rfl, rfl, rfl, rfl, rfl, rfl, rfl, rfl, rfl, rfl, rfl, rfl, rfl, rfl, rfl, rfl, rfl⟩

@[simp] theorem wr_frame (s : State) (f : Fld) (v : Nat) :
    (s.wr f v).pending = s.pending ∧ (s.wr f v).act = s.act ∧ (s.wr f v).counters = s.counters ∧
    (s.wr f v).overflow = s.overflow ∧ (s.wr f v).out = s.out ∧ (s.wr f v).fresh = s.fresh ∧
    (s.wr f v).limits = s.limits ∧ (s.wr f v).nseq = s.nseq ∧ (s.wr f v).pins = s.pins ∧ (s.wr f v).nib = s.nib ∧
    (s.wr f v).cmd = s.cmd ∧ (s.wr f v).queues = s.queues ∧ (s.wr f v).mer = s.mer ∧ (s.wr f v).tio = s.tio ∧
    (s.wr f v).nv = s.nv ∧ (s.wr f v).ink = s.ink ∧ (s.wr f v).fw = s.fw ∧ (s.wr f v).perf = s.perf ∧
    (s.wr f v).sw = s.sw ∧ (s.wr f v).tun = s.tun ∧ (s.wr f v).links = s.links ∧ (s.wr f v).lanes = s.lanes ∧
    (s.wr f v).clk = s.clk ∧ (s.wr f v).pcie = s.pcie ∧ (s.wr f v).eth = s.eth ∧ (s.wr f v).point = s.point ∧
    (s.wr f v).dsp = s.dsp ∧ (s.wr f v).usb = s.usb ∧ (s.wr f v).fuses = s.fuses ∧ (s.wr f v).tc = s.tc :=
  ⟨rfl, rfl, rfl, rfl, rfl, rfl, rfl, rfl, rfl, rfl, rfl, rfl, rfl, rfl, rfl, rfl, rfl, rfl, rfl, rfl, rfl, rfl, rfl, rfl, rfl, rfl, rfl, rfl, rfl, rfl⟩

@[simp] theorem put_frame (s : State) (f : Fld) (b : Bool) :
    (s.put f b).pending = s.pending ∧ (s.put f b).act = s.act ∧ (s.put f b).counters = s.counters ∧
    (s.put f b).overflow = s.overflow ∧ (s.put f b).out = s.out ∧ (s.put f b).fresh = s.fresh ∧
    (s.put f b).limits = s.limits ∧ (s.put f b).nseq = s.nseq ∧ (s.put f b).pins = s.pins ∧ (s.put f b).nib = s.nib ∧
    (s.put f b).cmd = s.cmd ∧ (s.put f b).queues = s.queues ∧ (s.put f b).mer = s.mer ∧ (s.put f b).tio = s.tio ∧
    (s.put f b).nv = s.nv ∧ (s.put f b).ink = s.ink ∧ (s.put f b).fw = s.fw ∧ (s.put f b).perf = s.perf ∧
    (s.put f b).sw = s.sw ∧ (s.put f b).tun = s.tun ∧ (s.put f b).links = s.links ∧ (s.put f b).lanes = s.lanes ∧
    (s.put f b).clk = s.clk ∧ (s.put f b).pcie = s.pcie ∧ (s.put f b).eth = s.eth ∧ (s.put f b).point = s.point ∧
    (s.put f b).dsp = s.dsp ∧ (s.put f b).usb = s.usb ∧ (s.put f b).fuses = s.fuses ∧ (s.put f b).tc = s.tc :=
  ⟨rfl, rfl, rfl, rfl, rfl, rfl, rfl, rfl, rfl, rfl, rfl, rfl, rfl, rfl, rfl, rfl, rfl, rfl, rfl, rfl, rfl, rfl, rfl, rfl, rfl, rfl, rfl, rfl, rfl, rfl⟩

@[simp] theorem bump_frame (s : State) (f : Fld) (n : Nat) :
    (s.bump f n).pending = s.pending ∧ (s.bump f n).act = s.act ∧ (s.bump f n).counters = s.counters ∧
    (s.bump f n).overflow = s.overflow ∧ (s.bump f n).out = s.out ∧ (s.bump f n).fresh = s.fresh ∧
    (s.bump f n).limits = s.limits ∧ (s.bump f n).nseq = s.nseq ∧ (s.bump f n).pins = s.pins ∧
    (s.bump f n).nib = s.nib ∧ (s.bump f n).cmd = s.cmd ∧ (s.bump f n).queues = s.queues ∧ (s.bump f n).mer = s.mer ∧
    (s.bump f n).tio = s.tio ∧ (s.bump f n).nv = s.nv ∧ (s.bump f n).ink = s.ink ∧ (s.bump f n).fw = s.fw ∧
    (s.bump f n).perf = s.perf ∧ (s.bump f n).sw = s.sw ∧ (s.bump f n).tun = s.tun ∧ (s.bump f n).links = s.links ∧
    (s.bump f n).lanes = s.lanes ∧ (s.bump f n).clk = s.clk ∧ (s.bump f n).pcie = s.pcie ∧ (s.bump f n).eth = s.eth ∧
    (s.bump f n).point = s.point ∧ (s.bump f n).dsp = s.dsp ∧ (s.bump f n).usb = s.usb ∧ (s.bump f n).fuses = s.fuses ∧
    (s.bump f n).tc = s.tc :=
  ⟨rfl, rfl, rfl, rfl, rfl, rfl, rfl, rfl, rfl, rfl, rfl, rfl, rfl, rfl, rfl, rfl, rfl, rfl, rfl, rfl, rfl, rfl, rfl, rfl, rfl, rfl, rfl, rfl, rfl, rfl⟩

@[simp] theorem incr_frame (s : State) (f : Fld) (n : Nat) :
    (s.incr f n).pending = s.pending ∧ (s.incr f n).act = s.act ∧ (s.incr f n).counters = s.counters ∧
    (s.incr f n).overflow = s.overflow ∧ (s.incr f n).out = s.out ∧ (s.incr f n).fresh = s.fresh ∧
    (s.incr f n).limits = s.limits ∧ (s.incr f n).nseq = s.nseq ∧ (s.incr f n).pins = s.pins ∧
    (s.incr f n).nib = s.nib ∧ (s.incr f n).cmd = s.cmd ∧ (s.incr f n).queues = s.queues ∧ (s.incr f n).mer = s.mer ∧
    (s.incr f n).tio = s.tio ∧ (s.incr f n).nv = s.nv ∧ (s.incr f n).ink = s.ink ∧ (s.incr f n).fw = s.fw ∧
    (s.incr f n).perf = s.perf ∧ (s.incr f n).sw = s.sw ∧ (s.incr f n).tun = s.tun ∧ (s.incr f n).links = s.links ∧
    (s.incr f n).lanes = s.lanes ∧ (s.incr f n).clk = s.clk ∧ (s.incr f n).pcie = s.pcie ∧ (s.incr f n).eth = s.eth ∧
    (s.incr f n).point = s.point ∧ (s.incr f n).dsp = s.dsp ∧ (s.incr f n).usb = s.usb ∧ (s.incr f n).fuses = s.fuses ∧
    (s.incr f n).tc = s.tc :=
  ⟨rfl, rfl, rfl, rfl, rfl, rfl, rfl, rfl, rfl, rfl, rfl, rfl, rfl, rfl, rfl, rfl, rfl, rfl, rfl, rfl, rfl, rfl, rfl, rfl, rfl, rfl, rfl, rfl, rfl, rfl⟩

@[simp] theorem latchReg_frame (s : State) (a : Nat) :
    (s.latchReg a).pending = s.pending ∧ (s.latchReg a).regs = s.regs ∧ (s.latchReg a).counters = s.counters ∧
    (s.latchReg a).overflow = s.overflow ∧ (s.latchReg a).out = s.out ∧ (s.latchReg a).fresh = s.fresh ∧
    (s.latchReg a).limits = s.limits ∧ (s.latchReg a).nseq = s.nseq ∧ (s.latchReg a).pins = s.pins ∧
    (s.latchReg a).nib = s.nib ∧ (s.latchReg a).cmd = s.cmd ∧ (s.latchReg a).queues = s.queues ∧
    (s.latchReg a).mer = s.mer ∧ (s.latchReg a).tio = s.tio ∧ (s.latchReg a).nv = s.nv ∧ (s.latchReg a).ink = s.ink ∧
    (s.latchReg a).fw = s.fw ∧ (s.latchReg a).perf = s.perf ∧ (s.latchReg a).sw = s.sw ∧ (s.latchReg a).tun = s.tun ∧
    (s.latchReg a).links = s.links ∧ (s.latchReg a).lanes = s.lanes ∧ (s.latchReg a).clk = s.clk ∧
    (s.latchReg a).pcie = s.pcie ∧ (s.latchReg a).eth = s.eth ∧ (s.latchReg a).point = s.point ∧
    (s.latchReg a).dsp = s.dsp ∧ (s.latchReg a).usb = s.usb ∧ (s.latchReg a).fuses = s.fuses ∧
    (s.latchReg a).tc = s.tc :=
  ⟨rfl, rfl, rfl, rfl, rfl, rfl, rfl, rfl, rfl, rfl, rfl, rfl, rfl, rfl, rfl, rfl, rfl, rfl, rfl, rfl, rfl, rfl, rfl, rfl, rfl, rfl, rfl, rfl, rfl, rfl⟩
@[simp] theorem latchReg_reg (s : State) (a : Nat) (r : Nat) : (s.latchReg a).reg r = s.reg r := rfl
@[simp] theorem latchReg_rd (s : State) (a : Nat) (r : Fld) : (s.latchReg a).rd r = s.rd r := rfl
@[simp] theorem latchReg_flag (s : State) (a : Nat) (r : Fld) : (s.latchReg a).flag r = s.flag r := rfl

@[simp] theorem setMode_frame (s : State) (m : Nat) :
    (s.setMode m).pending = s.pending ∧ (s.setMode m).act = s.act ∧ (s.setMode m).counters = s.counters ∧
    (s.setMode m).overflow = s.overflow ∧ (s.setMode m).out = s.out ∧ (s.setMode m).fresh = s.fresh ∧
    (s.setMode m).limits = s.limits ∧ (s.setMode m).nseq = s.nseq ∧ (s.setMode m).pins = s.pins ∧
    (s.setMode m).nib = s.nib ∧ (s.setMode m).cmd = s.cmd ∧ (s.setMode m).queues = s.queues ∧
    (s.setMode m).mer = s.mer ∧ (s.setMode m).tio = s.tio ∧ (s.setMode m).nv = s.nv ∧ (s.setMode m).ink = s.ink ∧
    (s.setMode m).fw = s.fw ∧ (s.setMode m).perf = s.perf ∧ (s.setMode m).sw = s.sw ∧ (s.setMode m).tun = s.tun ∧
    (s.setMode m).links = s.links ∧ (s.setMode m).lanes = s.lanes ∧ (s.setMode m).clk = s.clk ∧
    (s.setMode m).pcie = s.pcie ∧ (s.setMode m).eth = s.eth ∧ (s.setMode m).point = s.point ∧
    (s.setMode m).dsp = s.dsp ∧ (s.setMode m).usb = s.usb ∧ (s.setMode m).fuses = s.fuses ∧ (s.setMode m).tc = s.tc :=
  ⟨rfl, rfl, rfl, rfl, rfl, rfl, rfl, rfl, rfl, rfl, rfl, rfl, rfl, rfl, rfl, rfl, rfl, rfl, rfl, rfl, rfl, rfl, rfl, rfl, rfl, rfl, rfl, rfl, rfl, rfl⟩

@[simp] theorem beginMode_frame (s : State) (m : Nat) :
    (s.beginMode m).pending = s.pending ∧ (s.beginMode m).act = s.act ∧ (s.beginMode m).counters = s.counters ∧
    (s.beginMode m).overflow = s.overflow ∧ (s.beginMode m).out = s.out ∧ (s.beginMode m).fresh = s.fresh ∧
    (s.beginMode m).limits = s.limits ∧ (s.beginMode m).nseq = s.nseq ∧ (s.beginMode m).pins = s.pins ∧
    (s.beginMode m).nib = s.nib ∧ (s.beginMode m).cmd = s.cmd ∧ (s.beginMode m).queues = s.queues ∧
    (s.beginMode m).mer = s.mer ∧ (s.beginMode m).tio = s.tio ∧ (s.beginMode m).nv = s.nv ∧
    (s.beginMode m).ink = s.ink ∧ (s.beginMode m).fw = s.fw ∧ (s.beginMode m).perf = s.perf ∧
    (s.beginMode m).sw = s.sw ∧ (s.beginMode m).tun = s.tun ∧ (s.beginMode m).links = s.links ∧
    (s.beginMode m).lanes = s.lanes ∧ (s.beginMode m).clk = s.clk ∧ (s.beginMode m).pcie = s.pcie ∧
    (s.beginMode m).eth = s.eth ∧ (s.beginMode m).point = s.point ∧ (s.beginMode m).dsp = s.dsp ∧
    (s.beginMode m).usb = s.usb ∧ (s.beginMode m).fuses = s.fuses ∧ (s.beginMode m).tc = s.tc :=
  ⟨rfl, rfl, rfl, rfl, rfl, rfl, rfl, rfl, rfl, rfl, rfl, rfl, rfl, rfl, rfl, rfl, rfl, rfl, rfl, rfl, rfl, rfl, rfl, rfl, rfl, rfl, rfl, rfl, rfl, rfl⟩

@[simp] theorem plainWrite_frame (s : State) (a : Nat) (w : Word) :
    (s.plainWrite a w).pending = s.pending ∧ (s.plainWrite a w).act = s.act ∧
    (s.plainWrite a w).counters = s.counters ∧ (s.plainWrite a w).overflow = s.overflow ∧
    (s.plainWrite a w).out = s.out ∧ (s.plainWrite a w).fresh = s.fresh ∧ (s.plainWrite a w).limits = s.limits ∧
    (s.plainWrite a w).nseq = s.nseq ∧ (s.plainWrite a w).pins = s.pins ∧ (s.plainWrite a w).nib = s.nib ∧
    (s.plainWrite a w).cmd = s.cmd ∧ (s.plainWrite a w).queues = s.queues ∧ (s.plainWrite a w).mer = s.mer ∧
    (s.plainWrite a w).tio = s.tio ∧ (s.plainWrite a w).nv = s.nv ∧ (s.plainWrite a w).ink = s.ink ∧
    (s.plainWrite a w).fw = s.fw ∧ (s.plainWrite a w).perf = s.perf ∧ (s.plainWrite a w).sw = s.sw ∧
    (s.plainWrite a w).tun = s.tun ∧ (s.plainWrite a w).links = s.links ∧ (s.plainWrite a w).lanes = s.lanes ∧
    (s.plainWrite a w).clk = s.clk ∧ (s.plainWrite a w).pcie = s.pcie ∧ (s.plainWrite a w).eth = s.eth ∧
    (s.plainWrite a w).point = s.point ∧ (s.plainWrite a w).dsp = s.dsp ∧ (s.plainWrite a w).usb = s.usb ∧
    (s.plainWrite a w).fuses = s.fuses ∧ (s.plainWrite a w).tc = s.tc :=
  ⟨rfl, rfl, rfl, rfl, rfl, rfl, rfl, rfl, rfl, rfl, rfl, rfl, rfl, rfl, rfl, rfl, rfl, rfl, rfl, rfl, rfl, rfl, rfl, rfl, rfl, rfl, rfl, rfl, rfl, rfl⟩

@[simp] theorem emit_frame (s : State) (o : Output) :
    (s.emit o).pending = s.pending ∧ (s.emit o).regs = s.regs ∧ (s.emit o).act = s.act ∧
    (s.emit o).counters = s.counters ∧ (s.emit o).overflow = s.overflow ∧ (s.emit o).fresh = s.fresh ∧
    (s.emit o).limits = s.limits ∧ (s.emit o).nseq = s.nseq ∧ (s.emit o).pins = s.pins ∧ (s.emit o).nib = s.nib ∧
    (s.emit o).cmd = s.cmd ∧ (s.emit o).queues = s.queues ∧ (s.emit o).mer = s.mer ∧ (s.emit o).tio = s.tio ∧
    (s.emit o).nv = s.nv ∧ (s.emit o).ink = s.ink ∧ (s.emit o).fw = s.fw ∧ (s.emit o).perf = s.perf ∧
    (s.emit o).sw = s.sw ∧ (s.emit o).tun = s.tun ∧ (s.emit o).links = s.links ∧ (s.emit o).lanes = s.lanes ∧
    (s.emit o).clk = s.clk ∧ (s.emit o).pcie = s.pcie ∧ (s.emit o).eth = s.eth ∧ (s.emit o).point = s.point ∧
    (s.emit o).dsp = s.dsp ∧ (s.emit o).usb = s.usb ∧ (s.emit o).fuses = s.fuses ∧ (s.emit o).tc = s.tc :=
  ⟨rfl, rfl, rfl, rfl, rfl, rfl, rfl, rfl, rfl, rfl, rfl, rfl, rfl, rfl, rfl, rfl, rfl, rfl, rfl, rfl, rfl, rfl, rfl, rfl, rfl, rfl, rfl, rfl, rfl, rfl⟩
@[simp] theorem emit_reg (s : State) (o : Output) (r : Nat) : (s.emit o).reg r = s.reg r := rfl
@[simp] theorem emit_rd (s : State) (o : Output) (r : Fld) : (s.emit o).rd r = s.rd r := rfl
@[simp] theorem emit_flag (s : State) (o : Output) (r : Fld) : (s.emit o).flag r = s.flag r := rfl

@[simp] theorem emits_frame (s : State) (o : List Output) :
    (s.emits o).pending = s.pending ∧ (s.emits o).regs = s.regs ∧ (s.emits o).act = s.act ∧
    (s.emits o).counters = s.counters ∧ (s.emits o).overflow = s.overflow ∧ (s.emits o).fresh = s.fresh ∧
    (s.emits o).limits = s.limits ∧ (s.emits o).nseq = s.nseq ∧ (s.emits o).pins = s.pins ∧ (s.emits o).nib = s.nib ∧
    (s.emits o).cmd = s.cmd ∧ (s.emits o).queues = s.queues ∧ (s.emits o).mer = s.mer ∧ (s.emits o).tio = s.tio ∧
    (s.emits o).nv = s.nv ∧ (s.emits o).ink = s.ink ∧ (s.emits o).fw = s.fw ∧ (s.emits o).perf = s.perf ∧
    (s.emits o).sw = s.sw ∧ (s.emits o).tun = s.tun ∧ (s.emits o).links = s.links ∧ (s.emits o).lanes = s.lanes ∧
    (s.emits o).clk = s.clk ∧ (s.emits o).pcie = s.pcie ∧ (s.emits o).eth = s.eth ∧ (s.emits o).point = s.point ∧
    (s.emits o).dsp = s.dsp ∧ (s.emits o).usb = s.usb ∧ (s.emits o).fuses = s.fuses ∧ (s.emits o).tc = s.tc :=
  ⟨rfl, rfl, rfl, rfl, rfl, rfl, rfl, rfl, rfl, rfl, rfl, rfl, rfl, rfl, rfl, rfl, rfl, rfl, rfl, rfl, rfl, rfl, rfl, rfl, rfl, rfl, rfl, rfl, rfl, rfl⟩
@[simp] theorem emits_reg (s : State) (o : List Output) (r : Nat) : (s.emits o).reg r = s.reg r := rfl
@[simp] theorem emits_rd (s : State) (o : List Output) (r : Fld) : (s.emits o).rd r = s.rd r := rfl
@[simp] theorem emits_flag (s : State) (o : List Output) (r : Fld) : (s.emits o).flag r = s.flag r := rfl

@[simp] theorem pin_frame (s : State) (n : String) (l : Nat) :
    (s.pin n l).pending = s.pending ∧ (s.pin n l).regs = s.regs ∧ (s.pin n l).act = s.act ∧
    (s.pin n l).counters = s.counters ∧ (s.pin n l).overflow = s.overflow ∧ (s.pin n l).fresh = s.fresh ∧
    (s.pin n l).limits = s.limits ∧ (s.pin n l).nseq = s.nseq ∧ (s.pin n l).pins = s.pins ∧ (s.pin n l).nib = s.nib ∧
    (s.pin n l).cmd = s.cmd ∧ (s.pin n l).queues = s.queues ∧ (s.pin n l).mer = s.mer ∧ (s.pin n l).tio = s.tio ∧
    (s.pin n l).nv = s.nv ∧ (s.pin n l).ink = s.ink ∧ (s.pin n l).fw = s.fw ∧ (s.pin n l).perf = s.perf ∧
    (s.pin n l).sw = s.sw ∧ (s.pin n l).tun = s.tun ∧ (s.pin n l).links = s.links ∧ (s.pin n l).lanes = s.lanes ∧
    (s.pin n l).clk = s.clk ∧ (s.pin n l).pcie = s.pcie ∧ (s.pin n l).eth = s.eth ∧ (s.pin n l).point = s.point ∧
    (s.pin n l).dsp = s.dsp ∧ (s.pin n l).usb = s.usb ∧ (s.pin n l).fuses = s.fuses ∧ (s.pin n l).tc = s.tc :=
  ⟨rfl, rfl, rfl, rfl, rfl, rfl, rfl, rfl, rfl, rfl, rfl, rfl, rfl, rfl, rfl, rfl, rfl, rfl, rfl, rfl, rfl, rfl, rfl, rfl, rfl, rfl, rfl, rfl, rfl, rfl⟩
@[simp] theorem pin_reg (s : State) (n : String) (l : Nat) (r : Nat) : (s.pin n l).reg r = s.reg r := rfl
@[simp] theorem pin_rd (s : State) (n : String) (l : Nat) (r : Fld) : (s.pin n l).rd r = s.rd r := rfl
@[simp] theorem pin_flag (s : State) (n : String) (l : Nat) (r : Fld) : (s.pin n l).flag r = s.flag r := rfl

@[simp] theorem free_frame (s : State) (w : Nat) :
    ((s.free w).2).pending = s.pending ∧ ((s.free w).2).regs = s.regs ∧ ((s.free w).2).act = s.act ∧
    ((s.free w).2).counters = s.counters ∧ ((s.free w).2).overflow = s.overflow ∧ ((s.free w).2).out = s.out ∧
    ((s.free w).2).limits = s.limits ∧ ((s.free w).2).nseq = s.nseq ∧ ((s.free w).2).pins = s.pins ∧
    ((s.free w).2).nib = s.nib ∧ ((s.free w).2).cmd = s.cmd ∧ ((s.free w).2).queues = s.queues ∧
    ((s.free w).2).mer = s.mer ∧ ((s.free w).2).tio = s.tio ∧ ((s.free w).2).nv = s.nv ∧ ((s.free w).2).ink = s.ink ∧
    ((s.free w).2).fw = s.fw ∧ ((s.free w).2).perf = s.perf ∧ ((s.free w).2).sw = s.sw ∧ ((s.free w).2).tun = s.tun ∧
    ((s.free w).2).links = s.links ∧ ((s.free w).2).lanes = s.lanes ∧ ((s.free w).2).clk = s.clk ∧
    ((s.free w).2).pcie = s.pcie ∧ ((s.free w).2).eth = s.eth ∧ ((s.free w).2).point = s.point ∧
    ((s.free w).2).dsp = s.dsp ∧ ((s.free w).2).usb = s.usb ∧ ((s.free w).2).fuses = s.fuses ∧
    ((s.free w).2).tc = s.tc :=
  ⟨rfl, rfl, rfl, rfl, rfl, rfl, rfl, rfl, rfl, rfl, rfl, rfl, rfl, rfl, rfl, rfl, rfl, rfl, rfl, rfl, rfl, rfl, rfl, rfl, rfl, rfl, rfl, rfl, rfl, rfl⟩
@[simp] theorem free_reg (s : State) (w : Nat) (r : Nat) : ((s.free w).2).reg r = s.reg r := rfl
@[simp] theorem free_rd (s : State) (w : Nat) (r : Fld) : ((s.free w).2).rd r = s.rd r := rfl
@[simp] theorem free_flag (s : State) (w : Nat) (r : Fld) : ((s.free w).2).flag r = s.flag r := rfl

@[simp] theorem freeBytes_frame (s : State) (n : Nat) :
    ((s.freeBytes n).2).pending = s.pending ∧ ((s.freeBytes n).2).regs = s.regs ∧ ((s.freeBytes n).2).act = s.act ∧
    ((s.freeBytes n).2).counters = s.counters ∧ ((s.freeBytes n).2).overflow = s.overflow ∧
    ((s.freeBytes n).2).out = s.out ∧ ((s.freeBytes n).2).limits = s.limits ∧ ((s.freeBytes n).2).nseq = s.nseq ∧
    ((s.freeBytes n).2).pins = s.pins ∧ ((s.freeBytes n).2).nib = s.nib ∧ ((s.freeBytes n).2).cmd = s.cmd ∧
    ((s.freeBytes n).2).queues = s.queues ∧ ((s.freeBytes n).2).mer = s.mer ∧ ((s.freeBytes n).2).tio = s.tio ∧
    ((s.freeBytes n).2).nv = s.nv ∧ ((s.freeBytes n).2).ink = s.ink ∧ ((s.freeBytes n).2).fw = s.fw ∧
    ((s.freeBytes n).2).perf = s.perf ∧ ((s.freeBytes n).2).sw = s.sw ∧ ((s.freeBytes n).2).tun = s.tun ∧
    ((s.freeBytes n).2).links = s.links ∧ ((s.freeBytes n).2).lanes = s.lanes ∧ ((s.freeBytes n).2).clk = s.clk ∧
    ((s.freeBytes n).2).pcie = s.pcie ∧ ((s.freeBytes n).2).eth = s.eth ∧ ((s.freeBytes n).2).point = s.point ∧
    ((s.freeBytes n).2).dsp = s.dsp ∧ ((s.freeBytes n).2).usb = s.usb ∧ ((s.freeBytes n).2).fuses = s.fuses ∧
    ((s.freeBytes n).2).tc = s.tc :=
  ⟨rfl, rfl, rfl, rfl, rfl, rfl, rfl, rfl, rfl, rfl, rfl, rfl, rfl, rfl, rfl, rfl, rfl, rfl, rfl, rfl, rfl, rfl, rfl, rfl, rfl, rfl, rfl, rfl, rfl, rfl⟩
@[simp] theorem freeBytes_reg (s : State) (n : Nat) (r : Nat) : ((s.freeBytes n).2).reg r = s.reg r := rfl
@[simp] theorem freeBytes_rd (s : State) (n : Nat) (r : Fld) : ((s.freeBytes n).2).rd r = s.rd r := rfl
@[simp] theorem freeBytes_flag (s : State) (n : Nat) (r : Fld) : ((s.freeBytes n).2).flag r = s.flag r := rfl

@[simp] theorem setQueue_frame (s : State) (q : Nat) (x : Queue) :
    (s.setQueue q x).pending = s.pending ∧ (s.setQueue q x).regs = s.regs ∧ (s.setQueue q x).act = s.act ∧
    (s.setQueue q x).counters = s.counters ∧ (s.setQueue q x).overflow = s.overflow ∧ (s.setQueue q x).out = s.out ∧
    (s.setQueue q x).fresh = s.fresh ∧ (s.setQueue q x).limits = s.limits ∧ (s.setQueue q x).nseq = s.nseq ∧
    (s.setQueue q x).pins = s.pins ∧ (s.setQueue q x).nib = s.nib ∧ (s.setQueue q x).cmd = s.cmd ∧
    (s.setQueue q x).mer = s.mer ∧ (s.setQueue q x).tio = s.tio ∧ (s.setQueue q x).nv = s.nv ∧
    (s.setQueue q x).ink = s.ink ∧ (s.setQueue q x).fw = s.fw ∧ (s.setQueue q x).perf = s.perf ∧
    (s.setQueue q x).sw = s.sw ∧ (s.setQueue q x).tun = s.tun ∧ (s.setQueue q x).links = s.links ∧
    (s.setQueue q x).lanes = s.lanes ∧ (s.setQueue q x).clk = s.clk ∧ (s.setQueue q x).pcie = s.pcie ∧
    (s.setQueue q x).eth = s.eth ∧ (s.setQueue q x).point = s.point ∧ (s.setQueue q x).dsp = s.dsp ∧
    (s.setQueue q x).usb = s.usb ∧ (s.setQueue q x).fuses = s.fuses ∧ (s.setQueue q x).tc = s.tc :=
  ⟨rfl, rfl, rfl, rfl, rfl, rfl, rfl, rfl, rfl, rfl, rfl, rfl, rfl, rfl, rfl, rfl, rfl, rfl, rfl, rfl, rfl, rfl, rfl, rfl, rfl, rfl, rfl, rfl, rfl, rfl⟩
@[simp] theorem setQueue_reg (s : State) (q : Nat) (x : Queue) (r : Nat) : (s.setQueue q x).reg r = s.reg r := rfl
@[simp] theorem setQueue_rd (s : State) (q : Nat) (x : Queue) (r : Fld) : (s.setQueue q x).rd r = s.rd r := rfl
@[simp] theorem setQueue_flag (s : State) (q : Nat) (x : Queue) (r : Fld) : (s.setQueue q x).flag r = s.flag r := rfl

@[simp] theorem sfnAsk_frame (s : State) (u : Nat) (k : SfnKind) :
    (s.sfnAsk u k).pending = s.pending ∧ (s.sfnAsk u k).regs = s.regs ∧ (s.sfnAsk u k).act = s.act ∧
    (s.sfnAsk u k).counters = s.counters ∧ (s.sfnAsk u k).overflow = s.overflow ∧ (s.sfnAsk u k).out = s.out ∧
    (s.sfnAsk u k).fresh = s.fresh ∧ (s.sfnAsk u k).limits = s.limits ∧ (s.sfnAsk u k).nseq = s.nseq ∧
    (s.sfnAsk u k).pins = s.pins ∧ (s.sfnAsk u k).nib = s.nib ∧ (s.sfnAsk u k).cmd = s.cmd ∧
    (s.sfnAsk u k).queues = s.queues ∧ (s.sfnAsk u k).mer = s.mer ∧ (s.sfnAsk u k).tio = s.tio ∧
    (s.sfnAsk u k).nv = s.nv ∧ (s.sfnAsk u k).ink = s.ink ∧ (s.sfnAsk u k).fw = s.fw ∧ (s.sfnAsk u k).perf = s.perf ∧
    (s.sfnAsk u k).sw = s.sw ∧ (s.sfnAsk u k).tun = s.tun ∧ (s.sfnAsk u k).links = s.links ∧
    (s.sfnAsk u k).lanes = s.lanes ∧ (s.sfnAsk u k).clk = s.clk ∧ (s.sfnAsk u k).eth = s.eth ∧
    (s.sfnAsk u k).point = s.point ∧ (s.sfnAsk u k).dsp = s.dsp ∧ (s.sfnAsk u k).usb = s.usb ∧
    (s.sfnAsk u k).fuses = s.fuses ∧ (s.sfnAsk u k).tc = s.tc :=
  ⟨rfl, rfl, rfl, rfl, rfl, rfl, rfl, rfl, rfl, rfl, rfl, rfl, rfl, rfl, rfl, rfl, rfl, rfl, rfl, rfl, rfl, rfl, rfl, rfl, rfl, rfl, rfl, rfl, rfl, rfl⟩
@[simp] theorem sfnAsk_reg (s : State) (u : Nat) (k : SfnKind) (r : Nat) : (s.sfnAsk u k).reg r = s.reg r := rfl
@[simp] theorem sfnAsk_rd (s : State) (u : Nat) (k : SfnKind) (r : Fld) : (s.sfnAsk u k).rd r = s.rd r := rfl
@[simp] theorem sfnAsk_flag (s : State) (u : Nat) (k : SfnKind) (r : Fld) : (s.sfnAsk u k).flag r = s.flag r := rfl

@[simp] theorem withNib_frame (s : State) (f : Nib → Nib) :
    (s.withNib f).pending = s.pending ∧ (s.withNib f).regs = s.regs ∧ (s.withNib f).act = s.act ∧
    (s.withNib f).counters = s.counters ∧ (s.withNib f).overflow = s.overflow ∧ (s.withNib f).out = s.out ∧
    (s.withNib f).fresh = s.fresh ∧ (s.withNib f).limits = s.limits ∧ (s.withNib f).nseq = s.nseq ∧
    (s.withNib f).pins = s.pins ∧ (s.withNib f).cmd = s.cmd ∧ (s.withNib f).queues = s.queues ∧
    (s.withNib f).mer = s.mer ∧ (s.withNib f).tio = s.tio ∧ (s.withNib f).nv = s.nv ∧ (s.withNib f).ink = s.ink ∧
    (s.withNib f).fw = s.fw ∧ (s.withNib f).perf = s.perf ∧ (s.withNib f).sw = s.sw ∧ (s.withNib f).tun = s.tun ∧
    (s.withNib f).links = s.links ∧ (s.withNib f).lanes = s.lanes ∧ (s.withNib f).clk = s.clk ∧
    (s.withNib f).pcie = s.pcie ∧ (s.withNib f).eth = s.eth ∧ (s.withNib f).point = s.point ∧
    (s.withNib f).dsp = s.dsp ∧ (s.withNib f).usb = s.usb ∧ (s.withNib f).fuses = s.fuses ∧ (s.withNib f).tc = s.tc :=
  ⟨rfl, rfl, rfl, rfl, rfl, rfl, rfl, rfl, rfl, rfl, rfl, rfl, rfl, rfl, rfl, rfl, rfl, rfl, rfl, rfl, rfl, rfl, rfl, rfl, rfl, rfl, rfl, rfl, rfl, rfl⟩
@[simp] theorem withNib_reg (s : State) (f : Nib → Nib) (r : Nat) : (s.withNib f).reg r = s.reg r := rfl
@[simp] theorem withNib_rd (s : State) (f : Nib → Nib) (r : Fld) : (s.withNib f).rd r = s.rd r := rfl
@[simp] theorem withNib_flag (s : State) (f : Nib → Nib) (r : Fld) : (s.withNib f).flag r = s.flag r := rfl

@[simp] theorem withCmd_frame (s : State) (f : Cmd → Cmd) :
    (s.withCmd f).pending = s.pending ∧ (s.withCmd f).regs = s.regs ∧ (s.withCmd f).act = s.act ∧
    (s.withCmd f).counters = s.counters ∧ (s.withCmd f).overflow = s.overflow ∧ (s.withCmd f).out = s.out ∧
    (s.withCmd f).fresh = s.fresh ∧ (s.withCmd f).limits = s.limits ∧ (s.withCmd f).nseq = s.nseq ∧
    (s.withCmd f).pins = s.pins ∧ (s.withCmd f).nib = s.nib ∧ (s.withCmd f).queues = s.queues ∧
    (s.withCmd f).mer = s.mer ∧ (s.withCmd f).tio = s.tio ∧ (s.withCmd f).nv = s.nv ∧ (s.withCmd f).ink = s.ink ∧
    (s.withCmd f).fw = s.fw ∧ (s.withCmd f).perf = s.perf ∧ (s.withCmd f).sw = s.sw ∧ (s.withCmd f).tun = s.tun ∧
    (s.withCmd f).links = s.links ∧ (s.withCmd f).lanes = s.lanes ∧ (s.withCmd f).clk = s.clk ∧
    (s.withCmd f).pcie = s.pcie ∧ (s.withCmd f).eth = s.eth ∧ (s.withCmd f).point = s.point ∧
    (s.withCmd f).dsp = s.dsp ∧ (s.withCmd f).usb = s.usb ∧ (s.withCmd f).fuses = s.fuses ∧ (s.withCmd f).tc = s.tc :=
  ⟨rfl, rfl, rfl, rfl, rfl, rfl, rfl, rfl, rfl, rfl, rfl, rfl, rfl, rfl, rfl, rfl, rfl, rfl, rfl, rfl, rfl, rfl, rfl, rfl, rfl, rfl, rfl, rfl, rfl, rfl⟩
@[simp] theorem withCmd_reg (s : State) (f : Cmd → Cmd) (r : Nat) : (s.withCmd f).reg r = s.reg r := rfl
@[simp] theorem withCmd_rd (s : State) (f : Cmd → Cmd) (r : Fld) : (s.withCmd f).rd r = s.rd r := rfl
@[simp] theorem withCmd_flag (s : State) (f : Cmd → Cmd) (r : Fld) : (s.withCmd f).flag r = s.flag r := rfl

@[simp] theorem setSession_frame (s : State) (h : Nat) (x : Session) :
    (s.setSession h x).pending = s.pending ∧ (s.setSession h x).regs = s.regs ∧ (s.setSession h x).act = s.act ∧
    (s.setSession h x).counters = s.counters ∧ (s.setSession h x).overflow = s.overflow ∧
    (s.setSession h x).out = s.out ∧ (s.setSession h x).fresh = s.fresh ∧ (s.setSession h x).limits = s.limits ∧
    (s.setSession h x).nseq = s.nseq ∧ (s.setSession h x).pins = s.pins ∧ (s.setSession h x).nib = s.nib ∧
    (s.setSession h x).queues = s.queues ∧ (s.setSession h x).mer = s.mer ∧ (s.setSession h x).tio = s.tio ∧
    (s.setSession h x).nv = s.nv ∧ (s.setSession h x).ink = s.ink ∧ (s.setSession h x).fw = s.fw ∧
    (s.setSession h x).perf = s.perf ∧ (s.setSession h x).sw = s.sw ∧ (s.setSession h x).tun = s.tun ∧
    (s.setSession h x).links = s.links ∧ (s.setSession h x).lanes = s.lanes ∧ (s.setSession h x).clk = s.clk ∧
    (s.setSession h x).pcie = s.pcie ∧ (s.setSession h x).eth = s.eth ∧ (s.setSession h x).point = s.point ∧
    (s.setSession h x).dsp = s.dsp ∧ (s.setSession h x).usb = s.usb ∧ (s.setSession h x).fuses = s.fuses ∧
    (s.setSession h x).tc = s.tc :=
  ⟨rfl, rfl, rfl, rfl, rfl, rfl, rfl, rfl, rfl, rfl, rfl, rfl, rfl, rfl, rfl, rfl, rfl, rfl, rfl, rfl, rfl, rfl, rfl, rfl, rfl, rfl, rfl, rfl, rfl, rfl⟩
@[simp] theorem setSession_reg (s : State) (h : Nat) (x : Session) (r : Nat) : (s.setSession h x).reg r = s.reg r := rfl
@[simp] theorem setSession_rd (s : State) (h : Nat) (x : Session) (r : Fld) : (s.setSession h x).rd r = s.rd r := rfl
@[simp] theorem setSession_flag (s : State) (h : Nat) (x : Session) (r : Fld) : (s.setSession h x).flag r = s.flag r := rfl

@[simp] theorem schedule_frame (s : State) (v : Transport) (a : Deferred) :
    (s.schedule v a).pending = s.pending ∧ (s.schedule v a).regs = s.regs ∧ (s.schedule v a).act = s.act ∧
    (s.schedule v a).counters = s.counters ∧ (s.schedule v a).overflow = s.overflow ∧ (s.schedule v a).out = s.out ∧
    (s.schedule v a).fresh = s.fresh ∧ (s.schedule v a).limits = s.limits ∧ (s.schedule v a).nseq = s.nseq ∧
    (s.schedule v a).pins = s.pins ∧ (s.schedule v a).nib = s.nib ∧ (s.schedule v a).queues = s.queues ∧
    (s.schedule v a).mer = s.mer ∧ (s.schedule v a).tio = s.tio ∧ (s.schedule v a).nv = s.nv ∧
    (s.schedule v a).ink = s.ink ∧ (s.schedule v a).fw = s.fw ∧ (s.schedule v a).perf = s.perf ∧
    (s.schedule v a).sw = s.sw ∧ (s.schedule v a).tun = s.tun ∧ (s.schedule v a).links = s.links ∧
    (s.schedule v a).lanes = s.lanes ∧ (s.schedule v a).clk = s.clk ∧ (s.schedule v a).pcie = s.pcie ∧
    (s.schedule v a).eth = s.eth ∧ (s.schedule v a).point = s.point ∧ (s.schedule v a).dsp = s.dsp ∧
    (s.schedule v a).usb = s.usb ∧ (s.schedule v a).fuses = s.fuses ∧ (s.schedule v a).tc = s.tc :=
  ⟨rfl, rfl, rfl, rfl, rfl, rfl, rfl, rfl, rfl, rfl, rfl, rfl, rfl, rfl, rfl, rfl, rfl, rfl, rfl, rfl, rfl, rfl, rfl, rfl, rfl, rfl, rfl, rfl, rfl, rfl⟩
@[simp] theorem schedule_reg (s : State) (v : Transport) (a : Deferred) (r : Nat) : (s.schedule v a).reg r = s.reg r := rfl
@[simp] theorem schedule_rd (s : State) (v : Transport) (a : Deferred) (r : Fld) : (s.schedule v a).rd r = s.rd r := rfl
@[simp] theorem schedule_flag (s : State) (v : Transport) (a : Deferred) (r : Fld) : (s.schedule v a).flag r = s.flag r := rfl

@[simp] theorem handOver_frame (s : State) (v : Transport) :
    (s.handOver v).pending = s.pending ∧ (s.handOver v).regs = s.regs ∧ (s.handOver v).act = s.act ∧
    (s.handOver v).counters = s.counters ∧ (s.handOver v).overflow = s.overflow ∧ (s.handOver v).out = s.out ∧
    (s.handOver v).fresh = s.fresh ∧ (s.handOver v).limits = s.limits ∧ (s.handOver v).nseq = s.nseq ∧
    (s.handOver v).pins = s.pins ∧ (s.handOver v).nib = s.nib ∧ (s.handOver v).queues = s.queues ∧
    (s.handOver v).mer = s.mer ∧ (s.handOver v).tio = s.tio ∧ (s.handOver v).nv = s.nv ∧ (s.handOver v).ink = s.ink ∧
    (s.handOver v).fw = s.fw ∧ (s.handOver v).perf = s.perf ∧ (s.handOver v).sw = s.sw ∧ (s.handOver v).tun = s.tun ∧
    (s.handOver v).links = s.links ∧ (s.handOver v).lanes = s.lanes ∧ (s.handOver v).clk = s.clk ∧
    (s.handOver v).pcie = s.pcie ∧ (s.handOver v).eth = s.eth ∧ (s.handOver v).point = s.point ∧
    (s.handOver v).dsp = s.dsp ∧ (s.handOver v).usb = s.usb ∧ (s.handOver v).fuses = s.fuses ∧
    (s.handOver v).tc = s.tc :=
  ⟨rfl, rfl, rfl, rfl, rfl, rfl, rfl, rfl, rfl, rfl, rfl, rfl, rfl, rfl, rfl, rfl, rfl, rfl, rfl, rfl, rfl, rfl, rfl, rfl, rfl, rfl, rfl, rfl, rfl, rfl⟩
@[simp] theorem handOver_reg (s : State) (v : Transport) (r : Nat) : (s.handOver v).reg r = s.reg r := rfl
@[simp] theorem handOver_rd (s : State) (v : Transport) (r : Fld) : (s.handOver v).rd r = s.rd r := rfl
@[simp] theorem handOver_flag (s : State) (v : Transport) (r : Fld) : (s.handOver v).flag r = s.flag r := rfl

@[simp] theorem setKeySlot_frame (s : State) (i : Nat) (k : Option KeySlot) :
    (s.setKeySlot i k).pending = s.pending ∧ (s.setKeySlot i k).regs = s.regs ∧ (s.setKeySlot i k).act = s.act ∧
    (s.setKeySlot i k).counters = s.counters ∧ (s.setKeySlot i k).overflow = s.overflow ∧
    (s.setKeySlot i k).out = s.out ∧ (s.setKeySlot i k).fresh = s.fresh ∧ (s.setKeySlot i k).limits = s.limits ∧
    (s.setKeySlot i k).nseq = s.nseq ∧ (s.setKeySlot i k).pins = s.pins ∧ (s.setKeySlot i k).nib = s.nib ∧
    (s.setKeySlot i k).cmd = s.cmd ∧ (s.setKeySlot i k).queues = s.queues ∧ (s.setKeySlot i k).mer = s.mer ∧
    (s.setKeySlot i k).tio = s.tio ∧ (s.setKeySlot i k).nv = s.nv ∧ (s.setKeySlot i k).fw = s.fw ∧
    (s.setKeySlot i k).perf = s.perf ∧ (s.setKeySlot i k).sw = s.sw ∧ (s.setKeySlot i k).tun = s.tun ∧
    (s.setKeySlot i k).links = s.links ∧ (s.setKeySlot i k).lanes = s.lanes ∧ (s.setKeySlot i k).clk = s.clk ∧
    (s.setKeySlot i k).pcie = s.pcie ∧ (s.setKeySlot i k).eth = s.eth ∧ (s.setKeySlot i k).point = s.point ∧
    (s.setKeySlot i k).dsp = s.dsp ∧ (s.setKeySlot i k).usb = s.usb ∧ (s.setKeySlot i k).fuses = s.fuses ∧
    (s.setKeySlot i k).tc = s.tc :=
  ⟨rfl, rfl, rfl, rfl, rfl, rfl, rfl, rfl, rfl, rfl, rfl, rfl, rfl, rfl, rfl, rfl, rfl, rfl, rfl, rfl, rfl, rfl, rfl, rfl, rfl, rfl, rfl, rfl, rfl, rfl⟩
@[simp] theorem setKeySlot_reg (s : State) (i : Nat) (k : Option KeySlot) (r : Nat) : (s.setKeySlot i k).reg r = s.reg r := rfl
@[simp] theorem setKeySlot_rd (s : State) (i : Nat) (k : Option KeySlot) (r : Fld) : (s.setKeySlot i k).rd r = s.rd r := rfl
@[simp] theorem setKeySlot_flag (s : State) (i : Nat) (k : Option KeySlot) (r : Fld) : (s.setKeySlot i k).flag r = s.flag r := rfl

@[simp] theorem setOtpSlot_frame (s : State) (i : Nat) (o : OtpSlot) :
    (s.setOtpSlot i o).pending = s.pending ∧ (s.setOtpSlot i o).regs = s.regs ∧ (s.setOtpSlot i o).act = s.act ∧
    (s.setOtpSlot i o).counters = s.counters ∧ (s.setOtpSlot i o).overflow = s.overflow ∧
    (s.setOtpSlot i o).out = s.out ∧ (s.setOtpSlot i o).fresh = s.fresh ∧ (s.setOtpSlot i o).limits = s.limits ∧
    (s.setOtpSlot i o).nseq = s.nseq ∧ (s.setOtpSlot i o).pins = s.pins ∧ (s.setOtpSlot i o).nib = s.nib ∧
    (s.setOtpSlot i o).cmd = s.cmd ∧ (s.setOtpSlot i o).queues = s.queues ∧ (s.setOtpSlot i o).mer = s.mer ∧
    (s.setOtpSlot i o).tio = s.tio ∧ (s.setOtpSlot i o).ink = s.ink ∧ (s.setOtpSlot i o).fw = s.fw ∧
    (s.setOtpSlot i o).perf = s.perf ∧ (s.setOtpSlot i o).sw = s.sw ∧ (s.setOtpSlot i o).tun = s.tun ∧
    (s.setOtpSlot i o).links = s.links ∧ (s.setOtpSlot i o).lanes = s.lanes ∧ (s.setOtpSlot i o).clk = s.clk ∧
    (s.setOtpSlot i o).pcie = s.pcie ∧ (s.setOtpSlot i o).eth = s.eth ∧ (s.setOtpSlot i o).point = s.point ∧
    (s.setOtpSlot i o).dsp = s.dsp ∧ (s.setOtpSlot i o).usb = s.usb ∧ (s.setOtpSlot i o).fuses = s.fuses ∧
    (s.setOtpSlot i o).tc = s.tc :=
  ⟨rfl, rfl, rfl, rfl, rfl, rfl, rfl, rfl, rfl, rfl, rfl, rfl, rfl, rfl, rfl, rfl, rfl, rfl, rfl, rfl, rfl, rfl, rfl, rfl, rfl, rfl, rfl, rfl, rfl, rfl⟩
@[simp] theorem setOtpSlot_reg (s : State) (i : Nat) (o : OtpSlot) (r : Nat) : (s.setOtpSlot i o).reg r = s.reg r := rfl
@[simp] theorem setOtpSlot_rd (s : State) (i : Nat) (o : OtpSlot) (r : Fld) : (s.setOtpSlot i o).rd r = s.rd r := rfl
@[simp] theorem setOtpSlot_flag (s : State) (i : Nat) (o : OtpSlot) (r : Fld) : (s.setOtpSlot i o).flag r = s.flag r := rfl

@[simp] theorem setFallback_frame (s : State) (f : Nat) :
    (s.setFallback f).pending = s.pending ∧ (s.setFallback f).regs = s.regs ∧ (s.setFallback f).act = s.act ∧
    (s.setFallback f).counters = s.counters ∧ (s.setFallback f).overflow = s.overflow ∧ (s.setFallback f).out = s.out ∧
    (s.setFallback f).fresh = s.fresh ∧ (s.setFallback f).limits = s.limits ∧ (s.setFallback f).nseq = s.nseq ∧
    (s.setFallback f).pins = s.pins ∧ (s.setFallback f).nib = s.nib ∧ (s.setFallback f).cmd = s.cmd ∧
    (s.setFallback f).queues = s.queues ∧ (s.setFallback f).mer = s.mer ∧ (s.setFallback f).tio = s.tio ∧
    (s.setFallback f).ink = s.ink ∧ (s.setFallback f).fw = s.fw ∧ (s.setFallback f).perf = s.perf ∧
    (s.setFallback f).sw = s.sw ∧ (s.setFallback f).tun = s.tun ∧ (s.setFallback f).links = s.links ∧
    (s.setFallback f).lanes = s.lanes ∧ (s.setFallback f).clk = s.clk ∧ (s.setFallback f).pcie = s.pcie ∧
    (s.setFallback f).eth = s.eth ∧ (s.setFallback f).point = s.point ∧ (s.setFallback f).dsp = s.dsp ∧
    (s.setFallback f).usb = s.usb ∧ (s.setFallback f).fuses = s.fuses ∧ (s.setFallback f).tc = s.tc :=
  ⟨rfl, rfl, rfl, rfl, rfl, rfl, rfl, rfl, rfl, rfl, rfl, rfl, rfl, rfl, rfl, rfl, rfl, rfl, rfl, rfl, rfl, rfl, rfl, rfl, rfl, rfl, rfl, rfl, rfl, rfl⟩
@[simp] theorem setFallback_reg (s : State) (f : Nat) (r : Nat) : (s.setFallback f).reg r = s.reg r := rfl
@[simp] theorem setFallback_rd (s : State) (f : Nat) (r : Fld) : (s.setFallback f).rd r = s.rd r := rfl
@[simp] theorem setFallback_flag (s : State) (f : Nat) (r : Fld) : (s.setFallback f).flag r = s.flag r := rfl

@[simp] theorem withFw_frame (s : State) (f : Firmware → Firmware) :
    (s.withFw f).pending = s.pending ∧ (s.withFw f).regs = s.regs ∧ (s.withFw f).act = s.act ∧
    (s.withFw f).counters = s.counters ∧ (s.withFw f).overflow = s.overflow ∧ (s.withFw f).out = s.out ∧
    (s.withFw f).fresh = s.fresh ∧ (s.withFw f).limits = s.limits ∧ (s.withFw f).nseq = s.nseq ∧
    (s.withFw f).pins = s.pins ∧ (s.withFw f).nib = s.nib ∧ (s.withFw f).cmd = s.cmd ∧ (s.withFw f).queues = s.queues ∧
    (s.withFw f).mer = s.mer ∧ (s.withFw f).tio = s.tio ∧ (s.withFw f).nv = s.nv ∧ (s.withFw f).ink = s.ink ∧
    (s.withFw f).perf = s.perf ∧ (s.withFw f).sw = s.sw ∧ (s.withFw f).tun = s.tun ∧ (s.withFw f).links = s.links ∧
    (s.withFw f).lanes = s.lanes ∧ (s.withFw f).clk = s.clk ∧ (s.withFw f).pcie = s.pcie ∧ (s.withFw f).eth = s.eth ∧
    (s.withFw f).point = s.point ∧ (s.withFw f).dsp = s.dsp ∧ (s.withFw f).usb = s.usb ∧ (s.withFw f).fuses = s.fuses ∧
    (s.withFw f).tc = s.tc :=
  ⟨rfl, rfl, rfl, rfl, rfl, rfl, rfl, rfl, rfl, rfl, rfl, rfl, rfl, rfl, rfl, rfl, rfl, rfl, rfl, rfl, rfl, rfl, rfl, rfl, rfl, rfl, rfl, rfl, rfl, rfl⟩
@[simp] theorem withFw_reg (s : State) (f : Firmware → Firmware) (r : Nat) : (s.withFw f).reg r = s.reg r := rfl
@[simp] theorem withFw_rd (s : State) (f : Firmware → Firmware) (r : Fld) : (s.withFw f).rd r = s.rd r := rfl
@[simp] theorem withFw_flag (s : State) (f : Firmware → Firmware) (r : Fld) : (s.withFw f).flag r = s.flag r := rfl

@[simp] theorem withPerf_frame (s : State) (f : Perf → Perf) :
    (s.withPerf f).pending = s.pending ∧ (s.withPerf f).regs = s.regs ∧ (s.withPerf f).act = s.act ∧
    (s.withPerf f).counters = s.counters ∧ (s.withPerf f).overflow = s.overflow ∧ (s.withPerf f).out = s.out ∧
    (s.withPerf f).fresh = s.fresh ∧ (s.withPerf f).limits = s.limits ∧ (s.withPerf f).nseq = s.nseq ∧
    (s.withPerf f).pins = s.pins ∧ (s.withPerf f).nib = s.nib ∧ (s.withPerf f).cmd = s.cmd ∧
    (s.withPerf f).queues = s.queues ∧ (s.withPerf f).mer = s.mer ∧ (s.withPerf f).tio = s.tio ∧
    (s.withPerf f).nv = s.nv ∧ (s.withPerf f).ink = s.ink ∧ (s.withPerf f).fw = s.fw ∧ (s.withPerf f).sw = s.sw ∧
    (s.withPerf f).tun = s.tun ∧ (s.withPerf f).links = s.links ∧ (s.withPerf f).lanes = s.lanes ∧
    (s.withPerf f).clk = s.clk ∧ (s.withPerf f).pcie = s.pcie ∧ (s.withPerf f).eth = s.eth ∧
    (s.withPerf f).point = s.point ∧ (s.withPerf f).dsp = s.dsp ∧ (s.withPerf f).usb = s.usb ∧
    (s.withPerf f).fuses = s.fuses ∧ (s.withPerf f).tc = s.tc :=
  ⟨rfl, rfl, rfl, rfl, rfl, rfl, rfl, rfl, rfl, rfl, rfl, rfl, rfl, rfl, rfl, rfl, rfl, rfl, rfl, rfl, rfl, rfl, rfl, rfl, rfl, rfl, rfl, rfl, rfl, rfl⟩
@[simp] theorem withPerf_reg (s : State) (f : Perf → Perf) (r : Nat) : (s.withPerf f).reg r = s.reg r := rfl
@[simp] theorem withPerf_rd (s : State) (f : Perf → Perf) (r : Fld) : (s.withPerf f).rd r = s.rd r := rfl
@[simp] theorem withPerf_flag (s : State) (f : Perf → Perf) (r : Fld) : (s.withPerf f).flag r = s.flag r := rfl

@[simp] theorem withMer_frame (s : State) (f : Meridian → Meridian) :
    (s.withMer f).pending = s.pending ∧ (s.withMer f).regs = s.regs ∧ (s.withMer f).act = s.act ∧
    (s.withMer f).counters = s.counters ∧ (s.withMer f).overflow = s.overflow ∧ (s.withMer f).out = s.out ∧
    (s.withMer f).fresh = s.fresh ∧ (s.withMer f).limits = s.limits ∧ (s.withMer f).nseq = s.nseq ∧
    (s.withMer f).pins = s.pins ∧ (s.withMer f).nib = s.nib ∧ (s.withMer f).cmd = s.cmd ∧
    (s.withMer f).queues = s.queues ∧ (s.withMer f).tio = s.tio ∧ (s.withMer f).nv = s.nv ∧ (s.withMer f).ink = s.ink ∧
    (s.withMer f).fw = s.fw ∧ (s.withMer f).perf = s.perf ∧ (s.withMer f).sw = s.sw ∧ (s.withMer f).tun = s.tun ∧
    (s.withMer f).links = s.links ∧ (s.withMer f).lanes = s.lanes ∧ (s.withMer f).clk = s.clk ∧
    (s.withMer f).pcie = s.pcie ∧ (s.withMer f).eth = s.eth ∧ (s.withMer f).point = s.point ∧
    (s.withMer f).dsp = s.dsp ∧ (s.withMer f).usb = s.usb ∧ (s.withMer f).fuses = s.fuses ∧ (s.withMer f).tc = s.tc :=
  ⟨rfl, rfl, rfl, rfl, rfl, rfl, rfl, rfl, rfl, rfl, rfl, rfl, rfl, rfl, rfl, rfl, rfl, rfl, rfl, rfl, rfl, rfl, rfl, rfl, rfl, rfl, rfl, rfl, rfl, rfl⟩
@[simp] theorem withMer_reg (s : State) (f : Meridian → Meridian) (r : Nat) : (s.withMer f).reg r = s.reg r := rfl
@[simp] theorem withMer_rd (s : State) (f : Meridian → Meridian) (r : Fld) : (s.withMer f).rd r = s.rd r := rfl
@[simp] theorem withMer_flag (s : State) (f : Meridian → Meridian) (r : Fld) : (s.withMer f).flag r = s.flag r := rfl

@[simp] theorem setMerTrunk_frame (s : State) (t : Nat) (x : MerTrunk) :
    (s.setMerTrunk t x).pending = s.pending ∧ (s.setMerTrunk t x).regs = s.regs ∧ (s.setMerTrunk t x).act = s.act ∧
    (s.setMerTrunk t x).counters = s.counters ∧ (s.setMerTrunk t x).overflow = s.overflow ∧
    (s.setMerTrunk t x).out = s.out ∧ (s.setMerTrunk t x).fresh = s.fresh ∧ (s.setMerTrunk t x).limits = s.limits ∧
    (s.setMerTrunk t x).nseq = s.nseq ∧ (s.setMerTrunk t x).pins = s.pins ∧ (s.setMerTrunk t x).nib = s.nib ∧
    (s.setMerTrunk t x).cmd = s.cmd ∧ (s.setMerTrunk t x).queues = s.queues ∧ (s.setMerTrunk t x).tio = s.tio ∧
    (s.setMerTrunk t x).nv = s.nv ∧ (s.setMerTrunk t x).ink = s.ink ∧ (s.setMerTrunk t x).fw = s.fw ∧
    (s.setMerTrunk t x).perf = s.perf ∧ (s.setMerTrunk t x).sw = s.sw ∧ (s.setMerTrunk t x).tun = s.tun ∧
    (s.setMerTrunk t x).links = s.links ∧ (s.setMerTrunk t x).lanes = s.lanes ∧ (s.setMerTrunk t x).clk = s.clk ∧
    (s.setMerTrunk t x).pcie = s.pcie ∧ (s.setMerTrunk t x).eth = s.eth ∧ (s.setMerTrunk t x).point = s.point ∧
    (s.setMerTrunk t x).dsp = s.dsp ∧ (s.setMerTrunk t x).usb = s.usb ∧ (s.setMerTrunk t x).fuses = s.fuses ∧
    (s.setMerTrunk t x).tc = s.tc :=
  ⟨rfl, rfl, rfl, rfl, rfl, rfl, rfl, rfl, rfl, rfl, rfl, rfl, rfl, rfl, rfl, rfl, rfl, rfl, rfl, rfl, rfl, rfl, rfl, rfl, rfl, rfl, rfl, rfl, rfl, rfl⟩
@[simp] theorem setMerTrunk_reg (s : State) (t : Nat) (x : MerTrunk) (r : Nat) : (s.setMerTrunk t x).reg r = s.reg r := rfl
@[simp] theorem setMerTrunk_rd (s : State) (t : Nat) (x : MerTrunk) (r : Fld) : (s.setMerTrunk t x).rd r = s.rd r := rfl
@[simp] theorem setMerTrunk_flag (s : State) (t : Nat) (x : MerTrunk) (r : Fld) : (s.setMerTrunk t x).flag r = s.flag r := rfl

@[simp] theorem setTioPin_frame (s : State) (n : Nat) (p : TioPin) :
    (s.setTioPin n p).pending = s.pending ∧ (s.setTioPin n p).regs = s.regs ∧ (s.setTioPin n p).act = s.act ∧
    (s.setTioPin n p).counters = s.counters ∧ (s.setTioPin n p).overflow = s.overflow ∧ (s.setTioPin n p).out = s.out ∧
    (s.setTioPin n p).fresh = s.fresh ∧ (s.setTioPin n p).limits = s.limits ∧ (s.setTioPin n p).nseq = s.nseq ∧
    (s.setTioPin n p).pins = s.pins ∧ (s.setTioPin n p).nib = s.nib ∧ (s.setTioPin n p).cmd = s.cmd ∧
    (s.setTioPin n p).queues = s.queues ∧ (s.setTioPin n p).mer = s.mer ∧ (s.setTioPin n p).nv = s.nv ∧
    (s.setTioPin n p).ink = s.ink ∧ (s.setTioPin n p).fw = s.fw ∧ (s.setTioPin n p).perf = s.perf ∧
    (s.setTioPin n p).sw = s.sw ∧ (s.setTioPin n p).tun = s.tun ∧ (s.setTioPin n p).links = s.links ∧
    (s.setTioPin n p).lanes = s.lanes ∧ (s.setTioPin n p).clk = s.clk ∧ (s.setTioPin n p).pcie = s.pcie ∧
    (s.setTioPin n p).eth = s.eth ∧ (s.setTioPin n p).point = s.point ∧ (s.setTioPin n p).dsp = s.dsp ∧
    (s.setTioPin n p).usb = s.usb ∧ (s.setTioPin n p).fuses = s.fuses ∧ (s.setTioPin n p).tc = s.tc :=
  ⟨rfl, rfl, rfl, rfl, rfl, rfl, rfl, rfl, rfl, rfl, rfl, rfl, rfl, rfl, rfl, rfl, rfl, rfl, rfl, rfl, rfl, rfl, rfl, rfl, rfl, rfl, rfl, rfl, rfl, rfl⟩
@[simp] theorem setTioPin_reg (s : State) (n : Nat) (p : TioPin) (r : Nat) : (s.setTioPin n p).reg r = s.reg r := rfl
@[simp] theorem setTioPin_rd (s : State) (n : Nat) (p : TioPin) (r : Fld) : (s.setTioPin n p).rd r = s.rd r := rfl
@[simp] theorem setTioPin_flag (s : State) (n : Nat) (p : TioPin) (r : Fld) : (s.setTioPin n p).flag r = s.flag r := rfl

@[simp] theorem withSw_frame (s : State) (f : SwitchCore → SwitchCore) :
    (s.withSw f).pending = s.pending ∧ (s.withSw f).regs = s.regs ∧ (s.withSw f).act = s.act ∧
    (s.withSw f).counters = s.counters ∧ (s.withSw f).overflow = s.overflow ∧ (s.withSw f).out = s.out ∧
    (s.withSw f).fresh = s.fresh ∧ (s.withSw f).limits = s.limits ∧ (s.withSw f).nseq = s.nseq ∧
    (s.withSw f).pins = s.pins ∧ (s.withSw f).nib = s.nib ∧ (s.withSw f).cmd = s.cmd ∧ (s.withSw f).queues = s.queues ∧
    (s.withSw f).mer = s.mer ∧ (s.withSw f).tio = s.tio ∧ (s.withSw f).nv = s.nv ∧ (s.withSw f).ink = s.ink ∧
    (s.withSw f).fw = s.fw ∧ (s.withSw f).perf = s.perf ∧ (s.withSw f).tun = s.tun ∧ (s.withSw f).links = s.links ∧
    (s.withSw f).lanes = s.lanes ∧ (s.withSw f).clk = s.clk ∧ (s.withSw f).pcie = s.pcie ∧ (s.withSw f).eth = s.eth ∧
    (s.withSw f).point = s.point ∧ (s.withSw f).dsp = s.dsp ∧ (s.withSw f).usb = s.usb ∧ (s.withSw f).fuses = s.fuses ∧
    (s.withSw f).tc = s.tc :=
  ⟨rfl, rfl, rfl, rfl, rfl, rfl, rfl, rfl, rfl, rfl, rfl, rfl, rfl, rfl, rfl, rfl, rfl, rfl, rfl, rfl, rfl, rfl, rfl, rfl, rfl, rfl, rfl, rfl, rfl, rfl⟩
@[simp] theorem withSw_reg (s : State) (f : SwitchCore → SwitchCore) (r : Nat) : (s.withSw f).reg r = s.reg r := rfl
@[simp] theorem withSw_rd (s : State) (f : SwitchCore → SwitchCore) (r : Fld) : (s.withSw f).rd r = s.rd r := rfl
@[simp] theorem withSw_flag (s : State) (f : SwitchCore → SwitchCore) (r : Fld) : (s.withSw f).flag r = s.flag r := rfl

@[simp] theorem setSeg_frame (s : State) (i : Nat) (h : Option Held) :
    (s.setSeg i h).pending = s.pending ∧ (s.setSeg i h).regs = s.regs ∧ (s.setSeg i h).act = s.act ∧
    (s.setSeg i h).counters = s.counters ∧ (s.setSeg i h).overflow = s.overflow ∧ (s.setSeg i h).out = s.out ∧
    (s.setSeg i h).fresh = s.fresh ∧ (s.setSeg i h).limits = s.limits ∧ (s.setSeg i h).nseq = s.nseq ∧
    (s.setSeg i h).pins = s.pins ∧ (s.setSeg i h).nib = s.nib ∧ (s.setSeg i h).cmd = s.cmd ∧
    (s.setSeg i h).queues = s.queues ∧ (s.setSeg i h).mer = s.mer ∧ (s.setSeg i h).tio = s.tio ∧
    (s.setSeg i h).nv = s.nv ∧ (s.setSeg i h).ink = s.ink ∧ (s.setSeg i h).fw = s.fw ∧ (s.setSeg i h).perf = s.perf ∧
    (s.setSeg i h).tun = s.tun ∧ (s.setSeg i h).links = s.links ∧ (s.setSeg i h).lanes = s.lanes ∧
    (s.setSeg i h).clk = s.clk ∧ (s.setSeg i h).pcie = s.pcie ∧ (s.setSeg i h).eth = s.eth ∧
    (s.setSeg i h).point = s.point ∧ (s.setSeg i h).dsp = s.dsp ∧ (s.setSeg i h).usb = s.usb ∧
    (s.setSeg i h).fuses = s.fuses ∧ (s.setSeg i h).tc = s.tc :=
  ⟨rfl, rfl, rfl, rfl, rfl, rfl, rfl, rfl, rfl, rfl, rfl, rfl, rfl, rfl, rfl, rfl, rfl, rfl, rfl, rfl, rfl, rfl, rfl, rfl, rfl, rfl, rfl, rfl, rfl, rfl⟩
@[simp] theorem setSeg_reg (s : State) (i : Nat) (h : Option Held) (r : Nat) : (s.setSeg i h).reg r = s.reg r := rfl
@[simp] theorem setSeg_rd (s : State) (i : Nat) (h : Option Held) (r : Fld) : (s.setSeg i h).rd r = s.rd r := rfl
@[simp] theorem setSeg_flag (s : State) (i : Nat) (h : Option Held) (r : Fld) : (s.setSeg i h).flag r = s.flag r := rfl

@[simp] theorem setVoq_frame (s : State) (i o c : Nat) (q : List Nat) :
    (s.setVoq i o c q).pending = s.pending ∧ (s.setVoq i o c q).regs = s.regs ∧ (s.setVoq i o c q).act = s.act ∧
    (s.setVoq i o c q).counters = s.counters ∧ (s.setVoq i o c q).overflow = s.overflow ∧
    (s.setVoq i o c q).out = s.out ∧ (s.setVoq i o c q).fresh = s.fresh ∧ (s.setVoq i o c q).limits = s.limits ∧
    (s.setVoq i o c q).nseq = s.nseq ∧ (s.setVoq i o c q).pins = s.pins ∧ (s.setVoq i o c q).nib = s.nib ∧
    (s.setVoq i o c q).cmd = s.cmd ∧ (s.setVoq i o c q).queues = s.queues ∧ (s.setVoq i o c q).mer = s.mer ∧
    (s.setVoq i o c q).tio = s.tio ∧ (s.setVoq i o c q).nv = s.nv ∧ (s.setVoq i o c q).ink = s.ink ∧
    (s.setVoq i o c q).fw = s.fw ∧ (s.setVoq i o c q).perf = s.perf ∧ (s.setVoq i o c q).tun = s.tun ∧
    (s.setVoq i o c q).links = s.links ∧ (s.setVoq i o c q).lanes = s.lanes ∧ (s.setVoq i o c q).clk = s.clk ∧
    (s.setVoq i o c q).pcie = s.pcie ∧ (s.setVoq i o c q).eth = s.eth ∧ (s.setVoq i o c q).point = s.point ∧
    (s.setVoq i o c q).dsp = s.dsp ∧ (s.setVoq i o c q).usb = s.usb ∧ (s.setVoq i o c q).fuses = s.fuses ∧
    (s.setVoq i o c q).tc = s.tc :=
  ⟨rfl, rfl, rfl, rfl, rfl, rfl, rfl, rfl, rfl, rfl, rfl, rfl, rfl, rfl, rfl, rfl, rfl, rfl, rfl, rfl, rfl, rfl, rfl, rfl, rfl, rfl, rfl, rfl, rfl, rfl⟩
@[simp] theorem setVoq_reg (s : State) (i o c : Nat) (q : List Nat) (r : Nat) : (s.setVoq i o c q).reg r = s.reg r := rfl
@[simp] theorem setVoq_rd (s : State) (i o c : Nat) (q : List Nat) (r : Fld) : (s.setVoq i o c q).rd r = s.rd r := rfl
@[simp] theorem setVoq_flag (s : State) (i o c : Nat) (q : List Nat) (r : Fld) : (s.setVoq i o c q).flag r = s.flag r := rfl

@[simp] theorem setMcq_frame (s : State) (i c : Nat) (q : List Nat) :
    (s.setMcq i c q).pending = s.pending ∧ (s.setMcq i c q).regs = s.regs ∧ (s.setMcq i c q).act = s.act ∧
    (s.setMcq i c q).counters = s.counters ∧ (s.setMcq i c q).overflow = s.overflow ∧ (s.setMcq i c q).out = s.out ∧
    (s.setMcq i c q).fresh = s.fresh ∧ (s.setMcq i c q).limits = s.limits ∧ (s.setMcq i c q).nseq = s.nseq ∧
    (s.setMcq i c q).pins = s.pins ∧ (s.setMcq i c q).nib = s.nib ∧ (s.setMcq i c q).cmd = s.cmd ∧
    (s.setMcq i c q).queues = s.queues ∧ (s.setMcq i c q).mer = s.mer ∧ (s.setMcq i c q).tio = s.tio ∧
    (s.setMcq i c q).nv = s.nv ∧ (s.setMcq i c q).ink = s.ink ∧ (s.setMcq i c q).fw = s.fw ∧
    (s.setMcq i c q).perf = s.perf ∧ (s.setMcq i c q).tun = s.tun ∧ (s.setMcq i c q).links = s.links ∧
    (s.setMcq i c q).lanes = s.lanes ∧ (s.setMcq i c q).clk = s.clk ∧ (s.setMcq i c q).pcie = s.pcie ∧
    (s.setMcq i c q).eth = s.eth ∧ (s.setMcq i c q).point = s.point ∧ (s.setMcq i c q).dsp = s.dsp ∧
    (s.setMcq i c q).usb = s.usb ∧ (s.setMcq i c q).fuses = s.fuses ∧ (s.setMcq i c q).tc = s.tc :=
  ⟨rfl, rfl, rfl, rfl, rfl, rfl, rfl, rfl, rfl, rfl, rfl, rfl, rfl, rfl, rfl, rfl, rfl, rfl, rfl, rfl, rfl, rfl, rfl, rfl, rfl, rfl, rfl, rfl, rfl, rfl⟩
@[simp] theorem setMcq_reg (s : State) (i c : Nat) (q : List Nat) (r : Nat) : (s.setMcq i c q).reg r = s.reg r := rfl
@[simp] theorem setMcq_rd (s : State) (i c : Nat) (q : List Nat) (r : Fld) : (s.setMcq i c q).rd r = s.rd r := rfl
@[simp] theorem setMcq_flag (s : State) (i c : Nat) (q : List Nat) (r : Fld) : (s.setMcq i c q).flag r = s.flag r := rfl

@[simp] theorem setMcDepth_frame (s : State) (i c d : Nat) :
    (s.setMcDepth i c d).pending = s.pending ∧ (s.setMcDepth i c d).regs = s.regs ∧ (s.setMcDepth i c d).act = s.act ∧
    (s.setMcDepth i c d).counters = s.counters ∧ (s.setMcDepth i c d).overflow = s.overflow ∧
    (s.setMcDepth i c d).out = s.out ∧ (s.setMcDepth i c d).fresh = s.fresh ∧ (s.setMcDepth i c d).limits = s.limits ∧
    (s.setMcDepth i c d).nseq = s.nseq ∧ (s.setMcDepth i c d).pins = s.pins ∧ (s.setMcDepth i c d).nib = s.nib ∧
    (s.setMcDepth i c d).cmd = s.cmd ∧ (s.setMcDepth i c d).queues = s.queues ∧ (s.setMcDepth i c d).mer = s.mer ∧
    (s.setMcDepth i c d).tio = s.tio ∧ (s.setMcDepth i c d).nv = s.nv ∧ (s.setMcDepth i c d).ink = s.ink ∧
    (s.setMcDepth i c d).fw = s.fw ∧ (s.setMcDepth i c d).perf = s.perf ∧ (s.setMcDepth i c d).tun = s.tun ∧
    (s.setMcDepth i c d).links = s.links ∧ (s.setMcDepth i c d).lanes = s.lanes ∧ (s.setMcDepth i c d).clk = s.clk ∧
    (s.setMcDepth i c d).pcie = s.pcie ∧ (s.setMcDepth i c d).eth = s.eth ∧ (s.setMcDepth i c d).point = s.point ∧
    (s.setMcDepth i c d).dsp = s.dsp ∧ (s.setMcDepth i c d).usb = s.usb ∧ (s.setMcDepth i c d).fuses = s.fuses ∧
    (s.setMcDepth i c d).tc = s.tc :=
  ⟨rfl, rfl, rfl, rfl, rfl, rfl, rfl, rfl, rfl, rfl, rfl, rfl, rfl, rfl, rfl, rfl, rfl, rfl, rfl, rfl, rfl, rfl, rfl, rfl, rfl, rfl, rfl, rfl, rfl, rfl⟩
@[simp] theorem setMcDepth_reg (s : State) (i c d : Nat) (r : Nat) : (s.setMcDepth i c d).reg r = s.reg r := rfl
@[simp] theorem setMcDepth_rd (s : State) (i c d : Nat) (r : Fld) : (s.setMcDepth i c d).rd r = s.rd r := rfl
@[simp] theorem setMcDepth_flag (s : State) (i c d : Nat) (r : Fld) : (s.setMcDepth i c d).flag r = s.flag r := rfl

@[simp] theorem setPolicer_frame (s : State) (t d : Nat) (p : Option Policer) :
    (s.setPolicer t d p).pending = s.pending ∧ (s.setPolicer t d p).regs = s.regs ∧ (s.setPolicer t d p).act = s.act ∧
    (s.setPolicer t d p).counters = s.counters ∧ (s.setPolicer t d p).overflow = s.overflow ∧
    (s.setPolicer t d p).out = s.out ∧ (s.setPolicer t d p).fresh = s.fresh ∧ (s.setPolicer t d p).limits = s.limits ∧
    (s.setPolicer t d p).nseq = s.nseq ∧ (s.setPolicer t d p).pins = s.pins ∧ (s.setPolicer t d p).nib = s.nib ∧
    (s.setPolicer t d p).cmd = s.cmd ∧ (s.setPolicer t d p).queues = s.queues ∧ (s.setPolicer t d p).mer = s.mer ∧
    (s.setPolicer t d p).tio = s.tio ∧ (s.setPolicer t d p).nv = s.nv ∧ (s.setPolicer t d p).ink = s.ink ∧
    (s.setPolicer t d p).fw = s.fw ∧ (s.setPolicer t d p).perf = s.perf ∧ (s.setPolicer t d p).tun = s.tun ∧
    (s.setPolicer t d p).links = s.links ∧ (s.setPolicer t d p).lanes = s.lanes ∧ (s.setPolicer t d p).clk = s.clk ∧
    (s.setPolicer t d p).pcie = s.pcie ∧ (s.setPolicer t d p).eth = s.eth ∧ (s.setPolicer t d p).point = s.point ∧
    (s.setPolicer t d p).dsp = s.dsp ∧ (s.setPolicer t d p).usb = s.usb ∧ (s.setPolicer t d p).fuses = s.fuses ∧
    (s.setPolicer t d p).tc = s.tc :=
  ⟨rfl, rfl, rfl, rfl, rfl, rfl, rfl, rfl, rfl, rfl, rfl, rfl, rfl, rfl, rfl, rfl, rfl, rfl, rfl, rfl, rfl, rfl, rfl, rfl, rfl, rfl, rfl, rfl, rfl, rfl⟩
@[simp] theorem setPolicer_reg (s : State) (t d : Nat) (p : Option Policer) (r : Nat) : (s.setPolicer t d p).reg r = s.reg r := rfl
@[simp] theorem setPolicer_rd (s : State) (t d : Nat) (p : Option Policer) (r : Fld) : (s.setPolicer t d p).rd r = s.rd r := rfl
@[simp] theorem setPolicer_flag (s : State) (t d : Nat) (p : Option Policer) (r : Fld) : (s.setPolicer t d p).flag r = s.flag r := rfl

@[simp] theorem withTun_frame (s : State) (f : Tunnels → Tunnels) :
    (s.withTun f).pending = s.pending ∧ (s.withTun f).regs = s.regs ∧ (s.withTun f).act = s.act ∧
    (s.withTun f).counters = s.counters ∧ (s.withTun f).overflow = s.overflow ∧ (s.withTun f).out = s.out ∧
    (s.withTun f).fresh = s.fresh ∧ (s.withTun f).limits = s.limits ∧ (s.withTun f).nseq = s.nseq ∧
    (s.withTun f).pins = s.pins ∧ (s.withTun f).nib = s.nib ∧ (s.withTun f).cmd = s.cmd ∧
    (s.withTun f).queues = s.queues ∧ (s.withTun f).mer = s.mer ∧ (s.withTun f).tio = s.tio ∧ (s.withTun f).nv = s.nv ∧
    (s.withTun f).ink = s.ink ∧ (s.withTun f).fw = s.fw ∧ (s.withTun f).perf = s.perf ∧ (s.withTun f).sw = s.sw ∧
    (s.withTun f).links = s.links ∧ (s.withTun f).lanes = s.lanes ∧ (s.withTun f).clk = s.clk ∧
    (s.withTun f).pcie = s.pcie ∧ (s.withTun f).eth = s.eth ∧ (s.withTun f).point = s.point ∧
    (s.withTun f).dsp = s.dsp ∧ (s.withTun f).usb = s.usb ∧ (s.withTun f).fuses = s.fuses ∧ (s.withTun f).tc = s.tc :=
  ⟨rfl, rfl, rfl, rfl, rfl, rfl, rfl, rfl, rfl, rfl, rfl, rfl, rfl, rfl, rfl, rfl, rfl, rfl, rfl, rfl, rfl, rfl, rfl, rfl, rfl, rfl, rfl, rfl, rfl, rfl⟩
@[simp] theorem withTun_reg (s : State) (f : Tunnels → Tunnels) (r : Nat) : (s.withTun f).reg r = s.reg r := rfl
@[simp] theorem withTun_rd (s : State) (f : Tunnels → Tunnels) (r : Fld) : (s.withTun f).rd r = s.rd r := rfl
@[simp] theorem withTun_flag (s : State) (f : Tunnels → Tunnels) (r : Fld) : (s.withTun f).flag r = s.flag r := rfl

@[simp] theorem setTunInfo_frame (s : State) (t : Nat) (x : TunnelInfo) :
    (s.setTunInfo t x).pending = s.pending ∧ (s.setTunInfo t x).regs = s.regs ∧ (s.setTunInfo t x).act = s.act ∧
    (s.setTunInfo t x).counters = s.counters ∧ (s.setTunInfo t x).overflow = s.overflow ∧
    (s.setTunInfo t x).out = s.out ∧ (s.setTunInfo t x).fresh = s.fresh ∧ (s.setTunInfo t x).limits = s.limits ∧
    (s.setTunInfo t x).nseq = s.nseq ∧ (s.setTunInfo t x).pins = s.pins ∧ (s.setTunInfo t x).nib = s.nib ∧
    (s.setTunInfo t x).cmd = s.cmd ∧ (s.setTunInfo t x).queues = s.queues ∧ (s.setTunInfo t x).mer = s.mer ∧
    (s.setTunInfo t x).tio = s.tio ∧ (s.setTunInfo t x).nv = s.nv ∧ (s.setTunInfo t x).ink = s.ink ∧
    (s.setTunInfo t x).fw = s.fw ∧ (s.setTunInfo t x).perf = s.perf ∧ (s.setTunInfo t x).sw = s.sw ∧
    (s.setTunInfo t x).links = s.links ∧ (s.setTunInfo t x).lanes = s.lanes ∧ (s.setTunInfo t x).clk = s.clk ∧
    (s.setTunInfo t x).pcie = s.pcie ∧ (s.setTunInfo t x).eth = s.eth ∧ (s.setTunInfo t x).point = s.point ∧
    (s.setTunInfo t x).dsp = s.dsp ∧ (s.setTunInfo t x).usb = s.usb ∧ (s.setTunInfo t x).fuses = s.fuses ∧
    (s.setTunInfo t x).tc = s.tc :=
  ⟨rfl, rfl, rfl, rfl, rfl, rfl, rfl, rfl, rfl, rfl, rfl, rfl, rfl, rfl, rfl, rfl, rfl, rfl, rfl, rfl, rfl, rfl, rfl, rfl, rfl, rfl, rfl, rfl, rfl, rfl⟩
@[simp] theorem setTunInfo_reg (s : State) (t : Nat) (x : TunnelInfo) (r : Nat) : (s.setTunInfo t x).reg r = s.reg r := rfl
@[simp] theorem setTunInfo_rd (s : State) (t : Nat) (x : TunnelInfo) (r : Fld) : (s.setTunInfo t x).rd r = s.rd r := rfl
@[simp] theorem setTunInfo_flag (s : State) (t : Nat) (x : TunnelInfo) (r : Fld) : (s.setTunInfo t x).flag r = s.flag r := rfl

@[simp] theorem setBook_frame (s : State) (t : Nat) (e : Option BookEntry) :
    (s.setBook t e).pending = s.pending ∧ (s.setBook t e).regs = s.regs ∧ (s.setBook t e).act = s.act ∧
    (s.setBook t e).counters = s.counters ∧ (s.setBook t e).overflow = s.overflow ∧ (s.setBook t e).out = s.out ∧
    (s.setBook t e).fresh = s.fresh ∧ (s.setBook t e).limits = s.limits ∧ (s.setBook t e).nseq = s.nseq ∧
    (s.setBook t e).pins = s.pins ∧ (s.setBook t e).nib = s.nib ∧ (s.setBook t e).cmd = s.cmd ∧
    (s.setBook t e).queues = s.queues ∧ (s.setBook t e).mer = s.mer ∧ (s.setBook t e).tio = s.tio ∧
    (s.setBook t e).nv = s.nv ∧ (s.setBook t e).ink = s.ink ∧ (s.setBook t e).fw = s.fw ∧
    (s.setBook t e).perf = s.perf ∧ (s.setBook t e).sw = s.sw ∧ (s.setBook t e).links = s.links ∧
    (s.setBook t e).lanes = s.lanes ∧ (s.setBook t e).clk = s.clk ∧ (s.setBook t e).pcie = s.pcie ∧
    (s.setBook t e).eth = s.eth ∧ (s.setBook t e).point = s.point ∧ (s.setBook t e).dsp = s.dsp ∧
    (s.setBook t e).usb = s.usb ∧ (s.setBook t e).fuses = s.fuses ∧ (s.setBook t e).tc = s.tc :=
  ⟨rfl, rfl, rfl, rfl, rfl, rfl, rfl, rfl, rfl, rfl, rfl, rfl, rfl, rfl, rfl, rfl, rfl, rfl, rfl, rfl, rfl, rfl, rfl, rfl, rfl, rfl, rfl, rfl, rfl, rfl⟩
@[simp] theorem setBook_reg (s : State) (t : Nat) (e : Option BookEntry) (r : Nat) : (s.setBook t e).reg r = s.reg r := rfl
@[simp] theorem setBook_rd (s : State) (t : Nat) (e : Option BookEntry) (r : Fld) : (s.setBook t e).rd r = s.rd r := rfl
@[simp] theorem setBook_flag (s : State) (t : Nat) (e : Option BookEntry) (r : Fld) : (s.setBook t e).flag r = s.flag r := rfl

@[simp] theorem setPhase_frame (s : State) (t : Nat) (p : Option Phase) :
    (s.setPhase t p).pending = s.pending ∧ (s.setPhase t p).regs = s.regs ∧ (s.setPhase t p).act = s.act ∧
    (s.setPhase t p).counters = s.counters ∧ (s.setPhase t p).overflow = s.overflow ∧ (s.setPhase t p).out = s.out ∧
    (s.setPhase t p).fresh = s.fresh ∧ (s.setPhase t p).limits = s.limits ∧ (s.setPhase t p).nseq = s.nseq ∧
    (s.setPhase t p).pins = s.pins ∧ (s.setPhase t p).nib = s.nib ∧ (s.setPhase t p).cmd = s.cmd ∧
    (s.setPhase t p).queues = s.queues ∧ (s.setPhase t p).mer = s.mer ∧ (s.setPhase t p).tio = s.tio ∧
    (s.setPhase t p).nv = s.nv ∧ (s.setPhase t p).ink = s.ink ∧ (s.setPhase t p).fw = s.fw ∧
    (s.setPhase t p).perf = s.perf ∧ (s.setPhase t p).sw = s.sw ∧ (s.setPhase t p).links = s.links ∧
    (s.setPhase t p).lanes = s.lanes ∧ (s.setPhase t p).clk = s.clk ∧ (s.setPhase t p).pcie = s.pcie ∧
    (s.setPhase t p).eth = s.eth ∧ (s.setPhase t p).point = s.point ∧ (s.setPhase t p).dsp = s.dsp ∧
    (s.setPhase t p).usb = s.usb ∧ (s.setPhase t p).fuses = s.fuses ∧ (s.setPhase t p).tc = s.tc :=
  ⟨rfl, rfl, rfl, rfl, rfl, rfl, rfl, rfl, rfl, rfl, rfl, rfl, rfl, rfl, rfl, rfl, rfl, rfl, rfl, rfl, rfl, rfl, rfl, rfl, rfl, rfl, rfl, rfl, rfl, rfl⟩
@[simp] theorem setPhase_reg (s : State) (t : Nat) (p : Option Phase) (r : Nat) : (s.setPhase t p).reg r = s.reg r := rfl
@[simp] theorem setPhase_rd (s : State) (t : Nat) (p : Option Phase) (r : Fld) : (s.setPhase t p).rd r = s.rd r := rfl
@[simp] theorem setPhase_flag (s : State) (t : Nat) (p : Option Phase) (r : Fld) : (s.setPhase t p).flag r = s.flag r := rfl

@[simp] theorem withLink_frame (s : State) (t : Nat) (f : Link → Link) :
    (s.withLink t f).pending = s.pending ∧ (s.withLink t f).regs = s.regs ∧ (s.withLink t f).act = s.act ∧
    (s.withLink t f).counters = s.counters ∧ (s.withLink t f).overflow = s.overflow ∧ (s.withLink t f).out = s.out ∧
    (s.withLink t f).fresh = s.fresh ∧ (s.withLink t f).limits = s.limits ∧ (s.withLink t f).nseq = s.nseq ∧
    (s.withLink t f).pins = s.pins ∧ (s.withLink t f).nib = s.nib ∧ (s.withLink t f).cmd = s.cmd ∧
    (s.withLink t f).queues = s.queues ∧ (s.withLink t f).mer = s.mer ∧ (s.withLink t f).tio = s.tio ∧
    (s.withLink t f).nv = s.nv ∧ (s.withLink t f).ink = s.ink ∧ (s.withLink t f).fw = s.fw ∧
    (s.withLink t f).perf = s.perf ∧ (s.withLink t f).sw = s.sw ∧ (s.withLink t f).tun = s.tun ∧
    (s.withLink t f).lanes = s.lanes ∧ (s.withLink t f).clk = s.clk ∧ (s.withLink t f).pcie = s.pcie ∧
    (s.withLink t f).eth = s.eth ∧ (s.withLink t f).point = s.point ∧ (s.withLink t f).dsp = s.dsp ∧
    (s.withLink t f).usb = s.usb ∧ (s.withLink t f).fuses = s.fuses ∧ (s.withLink t f).tc = s.tc :=
  ⟨rfl, rfl, rfl, rfl, rfl, rfl, rfl, rfl, rfl, rfl, rfl, rfl, rfl, rfl, rfl, rfl, rfl, rfl, rfl, rfl, rfl, rfl, rfl, rfl, rfl, rfl, rfl, rfl, rfl, rfl⟩
@[simp] theorem withLink_reg (s : State) (t : Nat) (f : Link → Link) (r : Nat) : (s.withLink t f).reg r = s.reg r := rfl
@[simp] theorem withLink_rd (s : State) (t : Nat) (f : Link → Link) (r : Fld) : (s.withLink t f).rd r = s.rd r := rfl
@[simp] theorem withLink_flag (s : State) (t : Nat) (f : Link → Link) (r : Fld) : (s.withLink t f).flag r = s.flag r := rfl

@[simp] theorem setTx_frame (s : State) (t v : Nat) (x : TxChannel) :
    (s.setTx t v x).pending = s.pending ∧ (s.setTx t v x).regs = s.regs ∧ (s.setTx t v x).act = s.act ∧
    (s.setTx t v x).counters = s.counters ∧ (s.setTx t v x).overflow = s.overflow ∧ (s.setTx t v x).out = s.out ∧
    (s.setTx t v x).fresh = s.fresh ∧ (s.setTx t v x).limits = s.limits ∧ (s.setTx t v x).nseq = s.nseq ∧
    (s.setTx t v x).pins = s.pins ∧ (s.setTx t v x).nib = s.nib ∧ (s.setTx t v x).cmd = s.cmd ∧
    (s.setTx t v x).queues = s.queues ∧ (s.setTx t v x).mer = s.mer ∧ (s.setTx t v x).tio = s.tio ∧
    (s.setTx t v x).nv = s.nv ∧ (s.setTx t v x).ink = s.ink ∧ (s.setTx t v x).fw = s.fw ∧
    (s.setTx t v x).perf = s.perf ∧ (s.setTx t v x).sw = s.sw ∧ (s.setTx t v x).tun = s.tun ∧
    (s.setTx t v x).lanes = s.lanes ∧ (s.setTx t v x).clk = s.clk ∧ (s.setTx t v x).pcie = s.pcie ∧
    (s.setTx t v x).eth = s.eth ∧ (s.setTx t v x).point = s.point ∧ (s.setTx t v x).dsp = s.dsp ∧
    (s.setTx t v x).usb = s.usb ∧ (s.setTx t v x).fuses = s.fuses ∧ (s.setTx t v x).tc = s.tc :=
  ⟨rfl, rfl, rfl, rfl, rfl, rfl, rfl, rfl, rfl, rfl, rfl, rfl, rfl, rfl, rfl, rfl, rfl, rfl, rfl, rfl, rfl, rfl, rfl, rfl, rfl, rfl, rfl, rfl, rfl, rfl⟩
@[simp] theorem setTx_reg (s : State) (t v : Nat) (x : TxChannel) (r : Nat) : (s.setTx t v x).reg r = s.reg r := rfl
@[simp] theorem setTx_rd (s : State) (t v : Nat) (x : TxChannel) (r : Fld) : (s.setTx t v x).rd r = s.rd r := rfl
@[simp] theorem setTx_flag (s : State) (t v : Nat) (x : TxChannel) (r : Fld) : (s.setTx t v x).flag r = s.flag r := rfl

@[simp] theorem setRx_frame (s : State) (t v : Nat) (x : RxChannel) :
    (s.setRx t v x).pending = s.pending ∧ (s.setRx t v x).regs = s.regs ∧ (s.setRx t v x).act = s.act ∧
    (s.setRx t v x).counters = s.counters ∧ (s.setRx t v x).overflow = s.overflow ∧ (s.setRx t v x).out = s.out ∧
    (s.setRx t v x).fresh = s.fresh ∧ (s.setRx t v x).limits = s.limits ∧ (s.setRx t v x).nseq = s.nseq ∧
    (s.setRx t v x).pins = s.pins ∧ (s.setRx t v x).nib = s.nib ∧ (s.setRx t v x).cmd = s.cmd ∧
    (s.setRx t v x).queues = s.queues ∧ (s.setRx t v x).mer = s.mer ∧ (s.setRx t v x).tio = s.tio ∧
    (s.setRx t v x).nv = s.nv ∧ (s.setRx t v x).ink = s.ink ∧ (s.setRx t v x).fw = s.fw ∧
    (s.setRx t v x).perf = s.perf ∧ (s.setRx t v x).sw = s.sw ∧ (s.setRx t v x).tun = s.tun ∧
    (s.setRx t v x).lanes = s.lanes ∧ (s.setRx t v x).clk = s.clk ∧ (s.setRx t v x).pcie = s.pcie ∧
    (s.setRx t v x).eth = s.eth ∧ (s.setRx t v x).point = s.point ∧ (s.setRx t v x).dsp = s.dsp ∧
    (s.setRx t v x).usb = s.usb ∧ (s.setRx t v x).fuses = s.fuses ∧ (s.setRx t v x).tc = s.tc :=
  ⟨rfl, rfl, rfl, rfl, rfl, rfl, rfl, rfl, rfl, rfl, rfl, rfl, rfl, rfl, rfl, rfl, rfl, rfl, rfl, rfl, rfl, rfl, rfl, rfl, rfl, rfl, rfl, rfl, rfl, rfl⟩
@[simp] theorem setRx_reg (s : State) (t v : Nat) (x : RxChannel) (r : Nat) : (s.setRx t v x).reg r = s.reg r := rfl
@[simp] theorem setRx_rd (s : State) (t v : Nat) (x : RxChannel) (r : Fld) : (s.setRx t v x).rd r = s.rd r := rfl
@[simp] theorem setRx_flag (s : State) (t v : Nat) (x : RxChannel) (r : Fld) : (s.setRx t v x).flag r = s.flag r := rfl

@[simp] theorem nakOnce_frame (s : State) (t : Nat) :
    (s.nakOnce t).pending = s.pending ∧ (s.nakOnce t).regs = s.regs ∧ (s.nakOnce t).act = s.act ∧
    (s.nakOnce t).counters = s.counters ∧ (s.nakOnce t).overflow = s.overflow ∧ (s.nakOnce t).out = s.out ∧
    (s.nakOnce t).fresh = s.fresh ∧ (s.nakOnce t).limits = s.limits ∧ (s.nakOnce t).nseq = s.nseq ∧
    (s.nakOnce t).pins = s.pins ∧ (s.nakOnce t).nib = s.nib ∧ (s.nakOnce t).cmd = s.cmd ∧
    (s.nakOnce t).queues = s.queues ∧ (s.nakOnce t).mer = s.mer ∧ (s.nakOnce t).tio = s.tio ∧ (s.nakOnce t).nv = s.nv ∧
    (s.nakOnce t).ink = s.ink ∧ (s.nakOnce t).fw = s.fw ∧ (s.nakOnce t).perf = s.perf ∧ (s.nakOnce t).sw = s.sw ∧
    (s.nakOnce t).tun = s.tun ∧ (s.nakOnce t).lanes = s.lanes ∧ (s.nakOnce t).clk = s.clk ∧
    (s.nakOnce t).pcie = s.pcie ∧ (s.nakOnce t).eth = s.eth ∧ (s.nakOnce t).point = s.point ∧
    (s.nakOnce t).dsp = s.dsp ∧ (s.nakOnce t).usb = s.usb ∧ (s.nakOnce t).fuses = s.fuses ∧ (s.nakOnce t).tc = s.tc :=
  ⟨rfl, rfl, rfl, rfl, rfl, rfl, rfl, rfl, rfl, rfl, rfl, rfl, rfl, rfl, rfl, rfl, rfl, rfl, rfl, rfl, rfl, rfl, rfl, rfl, rfl, rfl, rfl, rfl, rfl, rfl⟩
@[simp] theorem nakOnce_reg (s : State) (t : Nat) (r : Nat) : (s.nakOnce t).reg r = s.reg r := rfl
@[simp] theorem nakOnce_rd (s : State) (t : Nat) (r : Fld) : (s.nakOnce t).rd r = s.rd r := rfl
@[simp] theorem nakOnce_flag (s : State) (t : Nat) (r : Fld) : (s.nakOnce t).flag r = s.flag r := rfl

@[simp] theorem withLane_frame (s : State) (t : Nat) (f : Lanes → Lanes) :
    (s.withLane t f).pending = s.pending ∧ (s.withLane t f).regs = s.regs ∧ (s.withLane t f).act = s.act ∧
    (s.withLane t f).counters = s.counters ∧ (s.withLane t f).overflow = s.overflow ∧ (s.withLane t f).out = s.out ∧
    (s.withLane t f).fresh = s.fresh ∧ (s.withLane t f).limits = s.limits ∧ (s.withLane t f).nseq = s.nseq ∧
    (s.withLane t f).pins = s.pins ∧ (s.withLane t f).nib = s.nib ∧ (s.withLane t f).cmd = s.cmd ∧
    (s.withLane t f).queues = s.queues ∧ (s.withLane t f).mer = s.mer ∧ (s.withLane t f).tio = s.tio ∧
    (s.withLane t f).nv = s.nv ∧ (s.withLane t f).ink = s.ink ∧ (s.withLane t f).fw = s.fw ∧
    (s.withLane t f).perf = s.perf ∧ (s.withLane t f).sw = s.sw ∧ (s.withLane t f).tun = s.tun ∧
    (s.withLane t f).links = s.links ∧ (s.withLane t f).clk = s.clk ∧ (s.withLane t f).pcie = s.pcie ∧
    (s.withLane t f).eth = s.eth ∧ (s.withLane t f).point = s.point ∧ (s.withLane t f).dsp = s.dsp ∧
    (s.withLane t f).usb = s.usb ∧ (s.withLane t f).fuses = s.fuses ∧ (s.withLane t f).tc = s.tc :=
  ⟨rfl, rfl, rfl, rfl, rfl, rfl, rfl, rfl, rfl, rfl, rfl, rfl, rfl, rfl, rfl, rfl, rfl, rfl, rfl, rfl, rfl, rfl, rfl, rfl, rfl, rfl, rfl, rfl, rfl, rfl⟩
@[simp] theorem withLane_reg (s : State) (t : Nat) (f : Lanes → Lanes) (r : Nat) : (s.withLane t f).reg r = s.reg r := rfl
@[simp] theorem withLane_rd (s : State) (t : Nat) (f : Lanes → Lanes) (r : Fld) : (s.withLane t f).rd r = s.rd r := rfl
@[simp] theorem withLane_flag (s : State) (t : Nat) (f : Lanes → Lanes) (r : Fld) : (s.withLane t f).flag r = s.flag r := rfl

@[simp] theorem setTxState_frame (s : State) (t n : Nat) :
    (s.setTxState t n).pending = s.pending ∧ (s.setTxState t n).regs = s.regs ∧ (s.setTxState t n).act = s.act ∧
    (s.setTxState t n).counters = s.counters ∧ (s.setTxState t n).overflow = s.overflow ∧
    (s.setTxState t n).out = s.out ∧ (s.setTxState t n).fresh = s.fresh ∧ (s.setTxState t n).limits = s.limits ∧
    (s.setTxState t n).nseq = s.nseq ∧ (s.setTxState t n).pins = s.pins ∧ (s.setTxState t n).nib = s.nib ∧
    (s.setTxState t n).cmd = s.cmd ∧ (s.setTxState t n).queues = s.queues ∧ (s.setTxState t n).mer = s.mer ∧
    (s.setTxState t n).tio = s.tio ∧ (s.setTxState t n).nv = s.nv ∧ (s.setTxState t n).ink = s.ink ∧
    (s.setTxState t n).fw = s.fw ∧ (s.setTxState t n).perf = s.perf ∧ (s.setTxState t n).sw = s.sw ∧
    (s.setTxState t n).tun = s.tun ∧ (s.setTxState t n).links = s.links ∧ (s.setTxState t n).clk = s.clk ∧
    (s.setTxState t n).pcie = s.pcie ∧ (s.setTxState t n).eth = s.eth ∧ (s.setTxState t n).point = s.point ∧
    (s.setTxState t n).dsp = s.dsp ∧ (s.setTxState t n).usb = s.usb ∧ (s.setTxState t n).fuses = s.fuses ∧
    (s.setTxState t n).tc = s.tc :=
  ⟨rfl, rfl, rfl, rfl, rfl, rfl, rfl, rfl, rfl, rfl, rfl, rfl, rfl, rfl, rfl, rfl, rfl, rfl, rfl, rfl, rfl, rfl, rfl, rfl, rfl, rfl, rfl, rfl, rfl, rfl⟩
@[simp] theorem setTxState_reg (s : State) (t n : Nat) (r : Nat) : (s.setTxState t n).reg r = s.reg r := rfl
@[simp] theorem setTxState_rd (s : State) (t n : Nat) (r : Fld) : (s.setTxState t n).rd r = s.rd r := rfl
@[simp] theorem setTxState_flag (s : State) (t n : Nat) (r : Fld) : (s.setTxState t n).flag r = s.flag r := rfl

@[simp] theorem withPcie_frame (s : State) (f : Pcie → Pcie) :
    (s.withPcie f).pending = s.pending ∧ (s.withPcie f).regs = s.regs ∧ (s.withPcie f).act = s.act ∧
    (s.withPcie f).counters = s.counters ∧ (s.withPcie f).overflow = s.overflow ∧ (s.withPcie f).out = s.out ∧
    (s.withPcie f).fresh = s.fresh ∧ (s.withPcie f).limits = s.limits ∧ (s.withPcie f).nseq = s.nseq ∧
    (s.withPcie f).pins = s.pins ∧ (s.withPcie f).nib = s.nib ∧ (s.withPcie f).cmd = s.cmd ∧
    (s.withPcie f).queues = s.queues ∧ (s.withPcie f).mer = s.mer ∧ (s.withPcie f).tio = s.tio ∧
    (s.withPcie f).nv = s.nv ∧ (s.withPcie f).ink = s.ink ∧ (s.withPcie f).fw = s.fw ∧ (s.withPcie f).perf = s.perf ∧
    (s.withPcie f).sw = s.sw ∧ (s.withPcie f).tun = s.tun ∧ (s.withPcie f).links = s.links ∧
    (s.withPcie f).lanes = s.lanes ∧ (s.withPcie f).clk = s.clk ∧ (s.withPcie f).eth = s.eth ∧
    (s.withPcie f).point = s.point ∧ (s.withPcie f).dsp = s.dsp ∧ (s.withPcie f).usb = s.usb ∧
    (s.withPcie f).fuses = s.fuses ∧ (s.withPcie f).tc = s.tc :=
  ⟨rfl, rfl, rfl, rfl, rfl, rfl, rfl, rfl, rfl, rfl, rfl, rfl, rfl, rfl, rfl, rfl, rfl, rfl, rfl, rfl, rfl, rfl, rfl, rfl, rfl, rfl, rfl, rfl, rfl, rfl⟩
@[simp] theorem withPcie_reg (s : State) (f : Pcie → Pcie) (r : Nat) : (s.withPcie f).reg r = s.reg r := rfl
@[simp] theorem withPcie_rd (s : State) (f : Pcie → Pcie) (r : Fld) : (s.withPcie f).rd r = s.rd r := rfl
@[simp] theorem withPcie_flag (s : State) (f : Pcie → Pcie) (r : Fld) : (s.withPcie f).flag r = s.flag r := rfl

@[simp] theorem withSide_frame (s : State) (n : Nat) (f : PortSide → PortSide) :
    (s.withSide n f).pending = s.pending ∧ (s.withSide n f).regs = s.regs ∧ (s.withSide n f).act = s.act ∧
    (s.withSide n f).counters = s.counters ∧ (s.withSide n f).overflow = s.overflow ∧ (s.withSide n f).out = s.out ∧
    (s.withSide n f).fresh = s.fresh ∧ (s.withSide n f).limits = s.limits ∧ (s.withSide n f).nseq = s.nseq ∧
    (s.withSide n f).pins = s.pins ∧ (s.withSide n f).nib = s.nib ∧ (s.withSide n f).cmd = s.cmd ∧
    (s.withSide n f).queues = s.queues ∧ (s.withSide n f).mer = s.mer ∧ (s.withSide n f).tio = s.tio ∧
    (s.withSide n f).nv = s.nv ∧ (s.withSide n f).ink = s.ink ∧ (s.withSide n f).fw = s.fw ∧
    (s.withSide n f).perf = s.perf ∧ (s.withSide n f).sw = s.sw ∧ (s.withSide n f).tun = s.tun ∧
    (s.withSide n f).links = s.links ∧ (s.withSide n f).lanes = s.lanes ∧ (s.withSide n f).clk = s.clk ∧
    (s.withSide n f).eth = s.eth ∧ (s.withSide n f).point = s.point ∧ (s.withSide n f).dsp = s.dsp ∧
    (s.withSide n f).usb = s.usb ∧ (s.withSide n f).fuses = s.fuses ∧ (s.withSide n f).tc = s.tc :=
  ⟨rfl, rfl, rfl, rfl, rfl, rfl, rfl, rfl, rfl, rfl, rfl, rfl, rfl, rfl, rfl, rfl, rfl, rfl, rfl, rfl, rfl, rfl, rfl, rfl, rfl, rfl, rfl, rfl, rfl, rfl⟩
@[simp] theorem withSide_reg (s : State) (n : Nat) (f : PortSide → PortSide) (r : Nat) : (s.withSide n f).reg r = s.reg r := rfl
@[simp] theorem withSide_rd (s : State) (n : Nat) (f : PortSide → PortSide) (r : Fld) : (s.withSide n f).rd r = s.rd r := rfl
@[simp] theorem withSide_flag (s : State) (n : Nat) (f : PortSide → PortSide) (r : Fld) : (s.withSide n f).flag r = s.flag r := rfl

@[simp] theorem setVdp_frame (s : State) (v : Nat) (x : Vdp) :
    (s.setVdp v x).pending = s.pending ∧ (s.setVdp v x).regs = s.regs ∧ (s.setVdp v x).act = s.act ∧
    (s.setVdp v x).counters = s.counters ∧ (s.setVdp v x).overflow = s.overflow ∧ (s.setVdp v x).out = s.out ∧
    (s.setVdp v x).fresh = s.fresh ∧ (s.setVdp v x).limits = s.limits ∧ (s.setVdp v x).nseq = s.nseq ∧
    (s.setVdp v x).pins = s.pins ∧ (s.setVdp v x).nib = s.nib ∧ (s.setVdp v x).cmd = s.cmd ∧
    (s.setVdp v x).queues = s.queues ∧ (s.setVdp v x).mer = s.mer ∧ (s.setVdp v x).tio = s.tio ∧
    (s.setVdp v x).nv = s.nv ∧ (s.setVdp v x).ink = s.ink ∧ (s.setVdp v x).fw = s.fw ∧ (s.setVdp v x).perf = s.perf ∧
    (s.setVdp v x).sw = s.sw ∧ (s.setVdp v x).tun = s.tun ∧ (s.setVdp v x).links = s.links ∧
    (s.setVdp v x).lanes = s.lanes ∧ (s.setVdp v x).clk = s.clk ∧ (s.setVdp v x).eth = s.eth ∧
    (s.setVdp v x).point = s.point ∧ (s.setVdp v x).dsp = s.dsp ∧ (s.setVdp v x).usb = s.usb ∧
    (s.setVdp v x).fuses = s.fuses ∧ (s.setVdp v x).tc = s.tc :=
  ⟨rfl, rfl, rfl, rfl, rfl, rfl, rfl, rfl, rfl, rfl, rfl, rfl, rfl, rfl, rfl, rfl, rfl, rfl, rfl, rfl, rfl, rfl, rfl, rfl, rfl, rfl, rfl, rfl, rfl, rfl⟩
@[simp] theorem setVdp_reg (s : State) (v : Nat) (x : Vdp) (r : Nat) : (s.setVdp v x).reg r = s.reg r := rfl
@[simp] theorem setVdp_rd (s : State) (v : Nat) (x : Vdp) (r : Fld) : (s.setVdp v x).rd r = s.rd r := rfl
@[simp] theorem setVdp_flag (s : State) (v : Nat) (x : Vdp) (r : Fld) : (s.setVdp v x).flag r = s.flag r := rfl

@[simp] theorem setEthPort_frame (s : State) (n : Nat) (x : EthPort) :
    (s.setEthPort n x).pending = s.pending ∧ (s.setEthPort n x).regs = s.regs ∧ (s.setEthPort n x).act = s.act ∧
    (s.setEthPort n x).counters = s.counters ∧ (s.setEthPort n x).overflow = s.overflow ∧
    (s.setEthPort n x).out = s.out ∧ (s.setEthPort n x).fresh = s.fresh ∧ (s.setEthPort n x).limits = s.limits ∧
    (s.setEthPort n x).nseq = s.nseq ∧ (s.setEthPort n x).pins = s.pins ∧ (s.setEthPort n x).nib = s.nib ∧
    (s.setEthPort n x).cmd = s.cmd ∧ (s.setEthPort n x).queues = s.queues ∧ (s.setEthPort n x).mer = s.mer ∧
    (s.setEthPort n x).tio = s.tio ∧ (s.setEthPort n x).nv = s.nv ∧ (s.setEthPort n x).ink = s.ink ∧
    (s.setEthPort n x).fw = s.fw ∧ (s.setEthPort n x).perf = s.perf ∧ (s.setEthPort n x).sw = s.sw ∧
    (s.setEthPort n x).tun = s.tun ∧ (s.setEthPort n x).links = s.links ∧ (s.setEthPort n x).lanes = s.lanes ∧
    (s.setEthPort n x).clk = s.clk ∧ (s.setEthPort n x).pcie = s.pcie ∧ (s.setEthPort n x).point = s.point ∧
    (s.setEthPort n x).dsp = s.dsp ∧ (s.setEthPort n x).usb = s.usb ∧ (s.setEthPort n x).fuses = s.fuses ∧
    (s.setEthPort n x).tc = s.tc :=
  ⟨rfl, rfl, rfl, rfl, rfl, rfl, rfl, rfl, rfl, rfl, rfl, rfl, rfl, rfl, rfl, rfl, rfl, rfl, rfl, rfl, rfl, rfl, rfl, rfl, rfl, rfl, rfl, rfl, rfl, rfl⟩
@[simp] theorem setEthPort_reg (s : State) (n : Nat) (x : EthPort) (r : Nat) : (s.setEthPort n x).reg r = s.reg r := rfl
@[simp] theorem setEthPort_rd (s : State) (n : Nat) (x : EthPort) (r : Fld) : (s.setEthPort n x).rd r = s.rd r := rfl
@[simp] theorem setEthPort_flag (s : State) (n : Nat) (x : EthPort) (r : Fld) : (s.setEthPort n x).flag r = s.flag r := rfl

@[simp] theorem setVnic_frame (s : State) (q : Nat) (x : Vnic) :
    (s.setVnic q x).pending = s.pending ∧ (s.setVnic q x).regs = s.regs ∧ (s.setVnic q x).act = s.act ∧
    (s.setVnic q x).counters = s.counters ∧ (s.setVnic q x).overflow = s.overflow ∧ (s.setVnic q x).out = s.out ∧
    (s.setVnic q x).fresh = s.fresh ∧ (s.setVnic q x).limits = s.limits ∧ (s.setVnic q x).nseq = s.nseq ∧
    (s.setVnic q x).pins = s.pins ∧ (s.setVnic q x).nib = s.nib ∧ (s.setVnic q x).cmd = s.cmd ∧
    (s.setVnic q x).queues = s.queues ∧ (s.setVnic q x).mer = s.mer ∧ (s.setVnic q x).tio = s.tio ∧
    (s.setVnic q x).nv = s.nv ∧ (s.setVnic q x).ink = s.ink ∧ (s.setVnic q x).fw = s.fw ∧
    (s.setVnic q x).perf = s.perf ∧ (s.setVnic q x).sw = s.sw ∧ (s.setVnic q x).tun = s.tun ∧
    (s.setVnic q x).links = s.links ∧ (s.setVnic q x).lanes = s.lanes ∧ (s.setVnic q x).clk = s.clk ∧
    (s.setVnic q x).pcie = s.pcie ∧ (s.setVnic q x).point = s.point ∧ (s.setVnic q x).dsp = s.dsp ∧
    (s.setVnic q x).usb = s.usb ∧ (s.setVnic q x).fuses = s.fuses ∧ (s.setVnic q x).tc = s.tc :=
  ⟨rfl, rfl, rfl, rfl, rfl, rfl, rfl, rfl, rfl, rfl, rfl, rfl, rfl, rfl, rfl, rfl, rfl, rfl, rfl, rfl, rfl, rfl, rfl, rfl, rfl, rfl, rfl, rfl, rfl, rfl⟩
@[simp] theorem setVnic_reg (s : State) (q : Nat) (x : Vnic) (r : Nat) : (s.setVnic q x).reg r = s.reg r := rfl
@[simp] theorem setVnic_rd (s : State) (q : Nat) (x : Vnic) (r : Fld) : (s.setVnic q x).rd r = s.rd r := rfl
@[simp] theorem setVnic_flag (s : State) (q : Nat) (x : Vnic) (r : Fld) : (s.setVnic q x).flag r = s.flag r := rfl

@[simp] theorem withPoint_frame (s : State) (f : Point → Point) :
    (s.withPoint f).pending = s.pending ∧ (s.withPoint f).regs = s.regs ∧ (s.withPoint f).act = s.act ∧
    (s.withPoint f).counters = s.counters ∧ (s.withPoint f).overflow = s.overflow ∧ (s.withPoint f).out = s.out ∧
    (s.withPoint f).fresh = s.fresh ∧ (s.withPoint f).limits = s.limits ∧ (s.withPoint f).nseq = s.nseq ∧
    (s.withPoint f).pins = s.pins ∧ (s.withPoint f).nib = s.nib ∧ (s.withPoint f).cmd = s.cmd ∧
    (s.withPoint f).queues = s.queues ∧ (s.withPoint f).mer = s.mer ∧ (s.withPoint f).tio = s.tio ∧
    (s.withPoint f).nv = s.nv ∧ (s.withPoint f).ink = s.ink ∧ (s.withPoint f).fw = s.fw ∧
    (s.withPoint f).perf = s.perf ∧ (s.withPoint f).sw = s.sw ∧ (s.withPoint f).tun = s.tun ∧
    (s.withPoint f).links = s.links ∧ (s.withPoint f).lanes = s.lanes ∧ (s.withPoint f).clk = s.clk ∧
    (s.withPoint f).pcie = s.pcie ∧ (s.withPoint f).eth = s.eth ∧ (s.withPoint f).dsp = s.dsp ∧
    (s.withPoint f).usb = s.usb ∧ (s.withPoint f).fuses = s.fuses ∧ (s.withPoint f).tc = s.tc :=
  ⟨rfl, rfl, rfl, rfl, rfl, rfl, rfl, rfl, rfl, rfl, rfl, rfl, rfl, rfl, rfl, rfl, rfl, rfl, rfl, rfl, rfl, rfl, rfl, rfl, rfl, rfl, rfl, rfl, rfl, rfl⟩
@[simp] theorem withPoint_reg (s : State) (f : Point → Point) (r : Nat) : (s.withPoint f).reg r = s.reg r := rfl
@[simp] theorem withPoint_rd (s : State) (f : Point → Point) (r : Fld) : (s.withPoint f).rd r = s.rd r := rfl
@[simp] theorem withPoint_flag (s : State) (f : Point → Point) (r : Fld) : (s.withPoint f).flag r = s.flag r := rfl

@[simp] theorem setIsland_frame (s : State) (i : Nat) (x : Island) :
    (s.setIsland i x).pending = s.pending ∧ (s.setIsland i x).regs = s.regs ∧ (s.setIsland i x).act = s.act ∧
    (s.setIsland i x).counters = s.counters ∧ (s.setIsland i x).overflow = s.overflow ∧ (s.setIsland i x).out = s.out ∧
    (s.setIsland i x).fresh = s.fresh ∧ (s.setIsland i x).limits = s.limits ∧ (s.setIsland i x).nseq = s.nseq ∧
    (s.setIsland i x).pins = s.pins ∧ (s.setIsland i x).nib = s.nib ∧ (s.setIsland i x).cmd = s.cmd ∧
    (s.setIsland i x).queues = s.queues ∧ (s.setIsland i x).mer = s.mer ∧ (s.setIsland i x).tio = s.tio ∧
    (s.setIsland i x).nv = s.nv ∧ (s.setIsland i x).ink = s.ink ∧ (s.setIsland i x).fw = s.fw ∧
    (s.setIsland i x).perf = s.perf ∧ (s.setIsland i x).sw = s.sw ∧ (s.setIsland i x).tun = s.tun ∧
    (s.setIsland i x).links = s.links ∧ (s.setIsland i x).lanes = s.lanes ∧ (s.setIsland i x).clk = s.clk ∧
    (s.setIsland i x).pcie = s.pcie ∧ (s.setIsland i x).eth = s.eth ∧ (s.setIsland i x).dsp = s.dsp ∧
    (s.setIsland i x).usb = s.usb ∧ (s.setIsland i x).fuses = s.fuses ∧ (s.setIsland i x).tc = s.tc :=
  ⟨rfl, rfl, rfl, rfl, rfl, rfl, rfl, rfl, rfl, rfl, rfl, rfl, rfl, rfl, rfl, rfl, rfl, rfl, rfl, rfl, rfl, rfl, rfl, rfl, rfl, rfl, rfl, rfl, rfl, rfl⟩
@[simp] theorem setIsland_reg (s : State) (i : Nat) (x : Island) (r : Nat) : (s.setIsland i x).reg r = s.reg r := rfl
@[simp] theorem setIsland_rd (s : State) (i : Nat) (x : Island) (r : Fld) : (s.setIsland i x).rd r = s.rd r := rfl
@[simp] theorem setIsland_flag (s : State) (i : Nat) (x : Island) (r : Fld) : (s.setIsland i x).flag r = s.flag r := rfl

@[simp] theorem withPipe_frame (s : State) (p : Nat) (f : Pipe → Pipe) :
    (s.withPipe p f).pending = s.pending ∧ (s.withPipe p f).regs = s.regs ∧ (s.withPipe p f).act = s.act ∧
    (s.withPipe p f).counters = s.counters ∧ (s.withPipe p f).overflow = s.overflow ∧ (s.withPipe p f).out = s.out ∧
    (s.withPipe p f).fresh = s.fresh ∧ (s.withPipe p f).limits = s.limits ∧ (s.withPipe p f).nseq = s.nseq ∧
    (s.withPipe p f).pins = s.pins ∧ (s.withPipe p f).nib = s.nib ∧ (s.withPipe p f).cmd = s.cmd ∧
    (s.withPipe p f).queues = s.queues ∧ (s.withPipe p f).mer = s.mer ∧ (s.withPipe p f).tio = s.tio ∧
    (s.withPipe p f).nv = s.nv ∧ (s.withPipe p f).ink = s.ink ∧ (s.withPipe p f).fw = s.fw ∧
    (s.withPipe p f).perf = s.perf ∧ (s.withPipe p f).sw = s.sw ∧ (s.withPipe p f).tun = s.tun ∧
    (s.withPipe p f).links = s.links ∧ (s.withPipe p f).lanes = s.lanes ∧ (s.withPipe p f).clk = s.clk ∧
    (s.withPipe p f).pcie = s.pcie ∧ (s.withPipe p f).eth = s.eth ∧ (s.withPipe p f).point = s.point ∧
    (s.withPipe p f).usb = s.usb ∧ (s.withPipe p f).fuses = s.fuses ∧ (s.withPipe p f).tc = s.tc :=
  ⟨rfl, rfl, rfl, rfl, rfl, rfl, rfl, rfl, rfl, rfl, rfl, rfl, rfl, rfl, rfl, rfl, rfl, rfl, rfl, rfl, rfl, rfl, rfl, rfl, rfl, rfl, rfl, rfl, rfl, rfl⟩
@[simp] theorem withPipe_reg (s : State) (p : Nat) (f : Pipe → Pipe) (r : Nat) : (s.withPipe p f).reg r = s.reg r := rfl
@[simp] theorem withPipe_rd (s : State) (p : Nat) (f : Pipe → Pipe) (r : Fld) : (s.withPipe p f).rd r = s.rd r := rfl
@[simp] theorem withPipe_flag (s : State) (p : Nat) (f : Pipe → Pipe) (r : Fld) : (s.withPipe p f).flag r = s.flag r := rfl

@[simp] theorem withDp_frame (s : State) (k : Nat) (f : DpOut → DpOut) :
    (s.withDp k f).pending = s.pending ∧ (s.withDp k f).regs = s.regs ∧ (s.withDp k f).act = s.act ∧
    (s.withDp k f).counters = s.counters ∧ (s.withDp k f).overflow = s.overflow ∧ (s.withDp k f).out = s.out ∧
    (s.withDp k f).fresh = s.fresh ∧ (s.withDp k f).limits = s.limits ∧ (s.withDp k f).nseq = s.nseq ∧
    (s.withDp k f).pins = s.pins ∧ (s.withDp k f).nib = s.nib ∧ (s.withDp k f).cmd = s.cmd ∧
    (s.withDp k f).queues = s.queues ∧ (s.withDp k f).mer = s.mer ∧ (s.withDp k f).tio = s.tio ∧
    (s.withDp k f).nv = s.nv ∧ (s.withDp k f).ink = s.ink ∧ (s.withDp k f).fw = s.fw ∧ (s.withDp k f).perf = s.perf ∧
    (s.withDp k f).sw = s.sw ∧ (s.withDp k f).tun = s.tun ∧ (s.withDp k f).links = s.links ∧
    (s.withDp k f).lanes = s.lanes ∧ (s.withDp k f).clk = s.clk ∧ (s.withDp k f).pcie = s.pcie ∧
    (s.withDp k f).eth = s.eth ∧ (s.withDp k f).point = s.point ∧ (s.withDp k f).usb = s.usb ∧
    (s.withDp k f).fuses = s.fuses ∧ (s.withDp k f).tc = s.tc :=
  ⟨rfl, rfl, rfl, rfl, rfl, rfl, rfl, rfl, rfl, rfl, rfl, rfl, rfl, rfl, rfl, rfl, rfl, rfl, rfl, rfl, rfl, rfl, rfl, rfl, rfl, rfl, rfl, rfl, rfl, rfl⟩
@[simp] theorem withDp_reg (s : State) (k : Nat) (f : DpOut → DpOut) (r : Nat) : (s.withDp k f).reg r = s.reg r := rfl
@[simp] theorem withDp_rd (s : State) (k : Nat) (f : DpOut → DpOut) (r : Fld) : (s.withDp k f).rd r = s.rd r := rfl
@[simp] theorem withDp_flag (s : State) (k : Nat) (f : DpOut → DpOut) (r : Fld) : (s.withDp k f).flag r = s.flag r := rfl

@[simp] theorem withUsbs_frame (s : State) (f : Usbs → Usbs) :
    (s.withUsbs f).pending = s.pending ∧ (s.withUsbs f).regs = s.regs ∧ (s.withUsbs f).act = s.act ∧
    (s.withUsbs f).counters = s.counters ∧ (s.withUsbs f).overflow = s.overflow ∧ (s.withUsbs f).out = s.out ∧
    (s.withUsbs f).fresh = s.fresh ∧ (s.withUsbs f).limits = s.limits ∧ (s.withUsbs f).nseq = s.nseq ∧
    (s.withUsbs f).pins = s.pins ∧ (s.withUsbs f).nib = s.nib ∧ (s.withUsbs f).cmd = s.cmd ∧
    (s.withUsbs f).queues = s.queues ∧ (s.withUsbs f).mer = s.mer ∧ (s.withUsbs f).tio = s.tio ∧
    (s.withUsbs f).nv = s.nv ∧ (s.withUsbs f).ink = s.ink ∧ (s.withUsbs f).fw = s.fw ∧ (s.withUsbs f).perf = s.perf ∧
    (s.withUsbs f).sw = s.sw ∧ (s.withUsbs f).tun = s.tun ∧ (s.withUsbs f).links = s.links ∧
    (s.withUsbs f).lanes = s.lanes ∧ (s.withUsbs f).clk = s.clk ∧ (s.withUsbs f).pcie = s.pcie ∧
    (s.withUsbs f).eth = s.eth ∧ (s.withUsbs f).point = s.point ∧ (s.withUsbs f).dsp = s.dsp ∧
    (s.withUsbs f).fuses = s.fuses ∧ (s.withUsbs f).tc = s.tc :=
  ⟨rfl, rfl, rfl, rfl, rfl, rfl, rfl, rfl, rfl, rfl, rfl, rfl, rfl, rfl, rfl, rfl, rfl, rfl, rfl, rfl, rfl, rfl, rfl, rfl, rfl, rfl, rfl, rfl, rfl, rfl⟩
@[simp] theorem withUsbs_reg (s : State) (f : Usbs → Usbs) (r : Nat) : (s.withUsbs f).reg r = s.reg r := rfl
@[simp] theorem withUsbs_rd (s : State) (f : Usbs → Usbs) (r : Fld) : (s.withUsbs f).rd r = s.rd r := rfl
@[simp] theorem withUsbs_flag (s : State) (f : Usbs → Usbs) (r : Fld) : (s.withUsbs f).flag r = s.flag r := rfl

@[simp] theorem withUsbPort_frame (s : State) (n : Nat) (f : UsbPort → UsbPort) :
    (s.withUsbPort n f).pending = s.pending ∧ (s.withUsbPort n f).regs = s.regs ∧ (s.withUsbPort n f).act = s.act ∧
    (s.withUsbPort n f).counters = s.counters ∧ (s.withUsbPort n f).overflow = s.overflow ∧
    (s.withUsbPort n f).out = s.out ∧ (s.withUsbPort n f).fresh = s.fresh ∧ (s.withUsbPort n f).limits = s.limits ∧
    (s.withUsbPort n f).nseq = s.nseq ∧ (s.withUsbPort n f).pins = s.pins ∧ (s.withUsbPort n f).nib = s.nib ∧
    (s.withUsbPort n f).cmd = s.cmd ∧ (s.withUsbPort n f).queues = s.queues ∧ (s.withUsbPort n f).mer = s.mer ∧
    (s.withUsbPort n f).tio = s.tio ∧ (s.withUsbPort n f).nv = s.nv ∧ (s.withUsbPort n f).ink = s.ink ∧
    (s.withUsbPort n f).fw = s.fw ∧ (s.withUsbPort n f).perf = s.perf ∧ (s.withUsbPort n f).sw = s.sw ∧
    (s.withUsbPort n f).tun = s.tun ∧ (s.withUsbPort n f).links = s.links ∧ (s.withUsbPort n f).lanes = s.lanes ∧
    (s.withUsbPort n f).clk = s.clk ∧ (s.withUsbPort n f).pcie = s.pcie ∧ (s.withUsbPort n f).eth = s.eth ∧
    (s.withUsbPort n f).point = s.point ∧ (s.withUsbPort n f).dsp = s.dsp ∧ (s.withUsbPort n f).fuses = s.fuses ∧
    (s.withUsbPort n f).tc = s.tc :=
  ⟨rfl, rfl, rfl, rfl, rfl, rfl, rfl, rfl, rfl, rfl, rfl, rfl, rfl, rfl, rfl, rfl, rfl, rfl, rfl, rfl, rfl, rfl, rfl, rfl, rfl, rfl, rfl, rfl, rfl, rfl⟩
@[simp] theorem withUsbPort_reg (s : State) (n : Nat) (f : UsbPort → UsbPort) (r : Nat) : (s.withUsbPort n f).reg r = s.reg r := rfl
@[simp] theorem withUsbPort_rd (s : State) (n : Nat) (f : UsbPort → UsbPort) (r : Fld) : (s.withUsbPort n f).rd r = s.rd r := rfl
@[simp] theorem withUsbPort_flag (s : State) (n : Nat) (f : UsbPort → UsbPort) (r : Fld) : (s.withUsbPort n f).flag r = s.flag r := rfl

@[simp] theorem withUsbCtx_frame (s : State) (c : Nat) (f : UsbCtx → UsbCtx) :
    (s.withUsbCtx c f).pending = s.pending ∧ (s.withUsbCtx c f).regs = s.regs ∧ (s.withUsbCtx c f).act = s.act ∧
    (s.withUsbCtx c f).counters = s.counters ∧ (s.withUsbCtx c f).overflow = s.overflow ∧
    (s.withUsbCtx c f).out = s.out ∧ (s.withUsbCtx c f).fresh = s.fresh ∧ (s.withUsbCtx c f).limits = s.limits ∧
    (s.withUsbCtx c f).nseq = s.nseq ∧ (s.withUsbCtx c f).pins = s.pins ∧ (s.withUsbCtx c f).nib = s.nib ∧
    (s.withUsbCtx c f).cmd = s.cmd ∧ (s.withUsbCtx c f).queues = s.queues ∧ (s.withUsbCtx c f).mer = s.mer ∧
    (s.withUsbCtx c f).tio = s.tio ∧ (s.withUsbCtx c f).nv = s.nv ∧ (s.withUsbCtx c f).ink = s.ink ∧
    (s.withUsbCtx c f).fw = s.fw ∧ (s.withUsbCtx c f).perf = s.perf ∧ (s.withUsbCtx c f).sw = s.sw ∧
    (s.withUsbCtx c f).tun = s.tun ∧ (s.withUsbCtx c f).links = s.links ∧ (s.withUsbCtx c f).lanes = s.lanes ∧
    (s.withUsbCtx c f).clk = s.clk ∧ (s.withUsbCtx c f).pcie = s.pcie ∧ (s.withUsbCtx c f).eth = s.eth ∧
    (s.withUsbCtx c f).point = s.point ∧ (s.withUsbCtx c f).dsp = s.dsp ∧ (s.withUsbCtx c f).fuses = s.fuses ∧
    (s.withUsbCtx c f).tc = s.tc :=
  ⟨rfl, rfl, rfl, rfl, rfl, rfl, rfl, rfl, rfl, rfl, rfl, rfl, rfl, rfl, rfl, rfl, rfl, rfl, rfl, rfl, rfl, rfl, rfl, rfl, rfl, rfl, rfl, rfl, rfl, rfl⟩
@[simp] theorem withUsbCtx_reg (s : State) (c : Nat) (f : UsbCtx → UsbCtx) (r : Nat) : (s.withUsbCtx c f).reg r = s.reg r := rfl
@[simp] theorem withUsbCtx_rd (s : State) (c : Nat) (f : UsbCtx → UsbCtx) (r : Fld) : (s.withUsbCtx c f).rd r = s.rd r := rfl
@[simp] theorem withUsbCtx_flag (s : State) (c : Nat) (f : UsbCtx → UsbCtx) (r : Fld) : (s.withUsbCtx c f).flag r = s.flag r := rfl

@[simp] theorem withFuse_frame (s : State) (n : Nat) (f : Fuse → Fuse) :
    (s.withFuse n f).pending = s.pending ∧ (s.withFuse n f).regs = s.regs ∧ (s.withFuse n f).act = s.act ∧
    (s.withFuse n f).counters = s.counters ∧ (s.withFuse n f).overflow = s.overflow ∧ (s.withFuse n f).out = s.out ∧
    (s.withFuse n f).fresh = s.fresh ∧ (s.withFuse n f).limits = s.limits ∧ (s.withFuse n f).nseq = s.nseq ∧
    (s.withFuse n f).pins = s.pins ∧ (s.withFuse n f).nib = s.nib ∧ (s.withFuse n f).cmd = s.cmd ∧
    (s.withFuse n f).queues = s.queues ∧ (s.withFuse n f).mer = s.mer ∧ (s.withFuse n f).tio = s.tio ∧
    (s.withFuse n f).nv = s.nv ∧ (s.withFuse n f).ink = s.ink ∧ (s.withFuse n f).fw = s.fw ∧
    (s.withFuse n f).perf = s.perf ∧ (s.withFuse n f).sw = s.sw ∧ (s.withFuse n f).tun = s.tun ∧
    (s.withFuse n f).links = s.links ∧ (s.withFuse n f).lanes = s.lanes ∧ (s.withFuse n f).clk = s.clk ∧
    (s.withFuse n f).pcie = s.pcie ∧ (s.withFuse n f).eth = s.eth ∧ (s.withFuse n f).point = s.point ∧
    (s.withFuse n f).dsp = s.dsp ∧ (s.withFuse n f).usb = s.usb ∧ (s.withFuse n f).tc = s.tc :=
  ⟨rfl, rfl, rfl, rfl, rfl, rfl, rfl, rfl, rfl, rfl, rfl, rfl, rfl, rfl, rfl, rfl, rfl, rfl, rfl, rfl, rfl, rfl, rfl, rfl, rfl, rfl, rfl, rfl, rfl, rfl⟩
@[simp] theorem withFuse_reg (s : State) (n : Nat) (f : Fuse → Fuse) (r : Nat) : (s.withFuse n f).reg r = s.reg r := rfl
@[simp] theorem withFuse_rd (s : State) (n : Nat) (f : Fuse → Fuse) (r : Fld) : (s.withFuse n f).rd r = s.rd r := rfl
@[simp] theorem withFuse_flag (s : State) (n : Nat) (f : Fuse → Fuse) (r : Fld) : (s.withFuse n f).flag r = s.flag r := rfl

@[simp] theorem withTcPort_frame (s : State) (n : Nat) (f : TcPort → TcPort) :
    (s.withTcPort n f).pending = s.pending ∧ (s.withTcPort n f).regs = s.regs ∧ (s.withTcPort n f).act = s.act ∧
    (s.withTcPort n f).counters = s.counters ∧ (s.withTcPort n f).overflow = s.overflow ∧
    (s.withTcPort n f).out = s.out ∧ (s.withTcPort n f).fresh = s.fresh ∧ (s.withTcPort n f).limits = s.limits ∧
    (s.withTcPort n f).nseq = s.nseq ∧ (s.withTcPort n f).pins = s.pins ∧ (s.withTcPort n f).nib = s.nib ∧
    (s.withTcPort n f).cmd = s.cmd ∧ (s.withTcPort n f).queues = s.queues ∧ (s.withTcPort n f).mer = s.mer ∧
    (s.withTcPort n f).tio = s.tio ∧ (s.withTcPort n f).nv = s.nv ∧ (s.withTcPort n f).ink = s.ink ∧
    (s.withTcPort n f).fw = s.fw ∧ (s.withTcPort n f).perf = s.perf ∧ (s.withTcPort n f).sw = s.sw ∧
    (s.withTcPort n f).tun = s.tun ∧ (s.withTcPort n f).links = s.links ∧ (s.withTcPort n f).lanes = s.lanes ∧
    (s.withTcPort n f).clk = s.clk ∧ (s.withTcPort n f).pcie = s.pcie ∧ (s.withTcPort n f).eth = s.eth ∧
    (s.withTcPort n f).point = s.point ∧ (s.withTcPort n f).dsp = s.dsp ∧ (s.withTcPort n f).usb = s.usb ∧
    (s.withTcPort n f).fuses = s.fuses :=
  ⟨rfl, rfl, rfl, rfl, rfl, rfl, rfl, rfl, rfl, rfl, rfl, rfl, rfl, rfl, rfl, rfl, rfl, rfl, rfl, rfl, rfl, rfl, rfl, rfl, rfl, rfl, rfl, rfl, rfl, rfl⟩
@[simp] theorem withTcPort_reg (s : State) (n : Nat) (f : TcPort → TcPort) (r : Nat) : (s.withTcPort n f).reg r = s.reg r := rfl
@[simp] theorem withTcPort_rd (s : State) (n : Nat) (f : TcPort → TcPort) (r : Fld) : (s.withTcPort n f).rd r = s.rd r := rfl
@[simp] theorem withTcPort_flag (s : State) (n : Nat) (f : TcPort → TcPort) (r : Fld) : (s.withTcPort n f).flag r = s.flag r := rfl

@[simp] theorem withNib_nib (s : State) (f : Nib → Nib) : (s.withNib f).nib = f s.nib := rfl
@[simp] theorem withCmd_cmd (s : State) (f : Cmd → Cmd) : (s.withCmd f).cmd = f s.cmd := rfl
@[simp] theorem withFw_fw (s : State) (f : Firmware → Firmware) : (s.withFw f).fw = f s.fw := rfl
@[simp] theorem withPerf_perf (s : State) (f : Perf → Perf) : (s.withPerf f).perf = f s.perf := rfl
@[simp] theorem withMer_mer (s : State) (f : Meridian → Meridian) : (s.withMer f).mer = f s.mer := rfl
@[simp] theorem withSw_sw (s : State) (f : SwitchCore → SwitchCore) : (s.withSw f).sw = f s.sw := rfl
@[simp] theorem withTun_tun (s : State) (f : Tunnels → Tunnels) : (s.withTun f).tun = f s.tun := rfl
@[simp] theorem withPcie_pcie (s : State) (f : Pcie → Pcie) : (s.withPcie f).pcie = f s.pcie := rfl
@[simp] theorem withPoint_point (s : State) (f : Point → Point) : (s.withPoint f).point = f s.point := rfl
@[simp] theorem emit_out (s : State) (o : Output) : (s.emit o).out = s.out ++ [o] := rfl
@[simp] theorem emits_out (s : State) (o : List Output) : (s.emits o).out = s.out ++ o := rfl
@[simp] theorem pin_out (s : State) (n : String) (l : Nat) : (s.pin n l).out = s.out ++ [.pin n l] := rfl
@[simp] theorem queue_setQueue (s : State) (q : Nat) (x : Queue) : (s.setQueue q x).queue q = x := Table.get_set_self ..
@[simp] theorem session_setSession (s : State) (h : Nat) (x : Session) : (s.setSession h x).session h = x := Table.get_set_self ..
@[simp] theorem keySlot_setKeySlot (s : State) (i : Nat) (k : Option KeySlot) : (s.setKeySlot i k).keySlot i = k := Table.get_set_self ..
@[simp] theorem otpSlot_setOtpSlot (s : State) (i : Nat) (o : OtpSlot) : (s.setOtpSlot i o).otpSlot i = o := Table.get_set_self ..
@[simp] theorem merTrunk_setMerTrunk (s : State) (t : Nat) (x : MerTrunk) : (s.setMerTrunk t x).merTrunk t = x := Table.get_set_self ..
@[simp] theorem tioPin_setTioPin (s : State) (n : Nat) (p : TioPin) : (s.setTioPin n p).tioPin n = p := Table.get_set_self ..
@[simp] theorem lane_withLane (s : State) (t : Nat) (f : Lanes → Lanes) : (s.withLane t f).lane t = f (s.lane t) := Table.get_set_self ..
@[simp] theorem link_withLink (s : State) (t : Nat) (f : Link → Link) : (s.withLink t f).link t = f (s.link t) := Table.get_set_self ..
@[simp] theorem fuse_withFuse (s : State) (n : Nat) (f : Fuse → Fuse) : (s.withFuse n f).fuse n = f (s.fuse n) := Table.get_set_self ..
@[simp] theorem tcPort_withTcPort (s : State) (n : Nat) (f : TcPort → TcPort) : (s.withTcPort n f).tcPort n = f (s.tcPort n) := Table.get_set_self ..
@[simp] theorem pipe_withPipe (s : State) (p : Nat) (f : Pipe → Pipe) : (s.withPipe p f).pipe p = f (s.pipe p) := Table.get_set_self ..
@[simp] theorem dpOut_withDp (s : State) (k : Nat) (f : DpOut → DpOut) : (s.withDp k f).dpOut k = f (s.dpOut k) := Table.get_set_self ..
@[simp] theorem usbPort_withUsbPort (s : State) (n : Nat) (f : UsbPort → UsbPort) : (s.withUsbPort n f).usbPort n = f (s.usbPort n) := Table.get_set_self ..
@[simp] theorem usbCtx_withUsbCtx (s : State) (c : Nat) (f : UsbCtx → UsbCtx) : (s.withUsbCtx c f).usbCtx c = f (s.usbCtx c) := Table.get_set_self ..
@[simp] theorem ethPort_setEthPort (s : State) (n : Nat) (x : EthPort) : (s.setEthPort n x).ethPort n = x := Table.get_set_self ..
@[simp] theorem vnic_setVnic (s : State) (q : Nat) (x : Vnic) : (s.setVnic q x).vnic q = x := Table.get_set_self ..
@[simp] theorem island_setIsland (s : State) (i : Nat) (x : Island) : (s.setIsland i x).island i = x := Table.get_set_self ..
@[simp] theorem actReg_latchReg (s : State) (a : Nat) : (s.latchReg a).actReg a = s.reg a := Table.get_set_self ..
@[simp] theorem side_withSide (s : State) (n : Nat) (f : PortSide → PortSide) : (s.withSide n f).side n = f (s.side n) := Table.get_set_self ..
@[simp] theorem vdp_setVdp (s : State) (v : Nat) (x : Vdp) : (s.setVdp v x).vdp v = x := Table.get_set_self ..

end State

end Sys2Proof.Machine
end

