-- ==== Sys2Proof/Laws/Signals.lean ====
section
/-!
SUPPORT. Laws of the operations that tell the outside something: notices, counters, queue entries, interrupts and host
writes touch the queues, the counters, what leaves Damya, and nothing else.
-/

namespace Sys2Proof.Machine

namespace State

@[simp] theorem hostWrite_keeps (s : State) (u a : Nat) (d : Bytes) :
    (s.hostWrite u a d).pending = s.pending ∧ (s.hostWrite u a d).regs = s.regs ∧ (s.hostWrite u a d).act = s.act ∧
    (s.hostWrite u a d).counters = s.counters ∧ (s.hostWrite u a d).overflow = s.overflow ∧
    (s.hostWrite u a d).fresh = s.fresh ∧ (s.hostWrite u a d).limits = s.limits ∧ (s.hostWrite u a d).nseq = s.nseq ∧
    (s.hostWrite u a d).pins = s.pins ∧ (s.hostWrite u a d).nib = s.nib ∧ (s.hostWrite u a d).cmd = s.cmd ∧
    (s.hostWrite u a d).queues = s.queues ∧ (s.hostWrite u a d).mer = s.mer ∧ (s.hostWrite u a d).tio = s.tio ∧
    (s.hostWrite u a d).nv = s.nv ∧ (s.hostWrite u a d).ink = s.ink ∧ (s.hostWrite u a d).fw = s.fw ∧
    (s.hostWrite u a d).perf = s.perf ∧ (s.hostWrite u a d).sw = s.sw ∧ (s.hostWrite u a d).tun = s.tun ∧
    (s.hostWrite u a d).links = s.links ∧ (s.hostWrite u a d).lanes = s.lanes ∧ (s.hostWrite u a d).clk = s.clk ∧
    (s.hostWrite u a d).eth = s.eth ∧ (s.hostWrite u a d).point = s.point ∧ (s.hostWrite u a d).dsp = s.dsp ∧
    (s.hostWrite u a d).usb = s.usb ∧ (s.hostWrite u a d).fuses = s.fuses ∧ (s.hostWrite u a d).tc = s.tc := by unfold hostWrite; split <;> simp
@[simp] theorem hostWrite_reg (s : State) (u a : Nat) (d : Bytes) (r : Nat) : (s.hostWrite u a d).reg r = s.reg r := by simp [reg]
@[simp] theorem hostWrite_rd (s : State) (u a : Nat) (d : Bytes) (r : Fld) : (s.hostWrite u a d).rd r = s.rd r := by simp [rd]
@[simp] theorem hostWrite_flag (s : State) (u a : Nat) (d : Bytes) (r : Fld) : (s.hostWrite u a d).flag r = s.flag r := by simp [flag]

@[simp] theorem msiPends_keeps (s : State) (v n : Nat) :
    (s.msiPends v n).pending = s.pending ∧ (s.msiPends v n).regs = s.regs ∧ (s.msiPends v n).act = s.act ∧
    (s.msiPends v n).counters = s.counters ∧ (s.msiPends v n).overflow = s.overflow ∧ (s.msiPends v n).out = s.out ∧
    (s.msiPends v n).fresh = s.fresh ∧ (s.msiPends v n).limits = s.limits ∧ (s.msiPends v n).nseq = s.nseq ∧
    (s.msiPends v n).pins = s.pins ∧ (s.msiPends v n).nib = s.nib ∧ (s.msiPends v n).cmd = s.cmd ∧
    (s.msiPends v n).queues = s.queues ∧ (s.msiPends v n).mer = s.mer ∧ (s.msiPends v n).tio = s.tio ∧
    (s.msiPends v n).nv = s.nv ∧ (s.msiPends v n).ink = s.ink ∧ (s.msiPends v n).fw = s.fw ∧
    (s.msiPends v n).perf = s.perf ∧ (s.msiPends v n).sw = s.sw ∧ (s.msiPends v n).tun = s.tun ∧
    (s.msiPends v n).links = s.links ∧ (s.msiPends v n).lanes = s.lanes ∧ (s.msiPends v n).clk = s.clk ∧
    (s.msiPends v n).eth = s.eth ∧ (s.msiPends v n).point = s.point ∧ (s.msiPends v n).dsp = s.dsp ∧
    (s.msiPends v n).usb = s.usb ∧ (s.msiPends v n).fuses = s.fuses ∧ (s.msiPends v n).tc = s.tc := by unfold msiPends; simp
@[simp] theorem msiPends_reg (s : State) (v n : Nat) (r : Nat) : (s.msiPends v n).reg r = s.reg r := by simp [reg]
@[simp] theorem msiPends_rd (s : State) (v n : Nat) (r : Fld) : (s.msiPends v n).rd r = s.rd r := by simp [rd]
@[simp] theorem msiPends_flag (s : State) (v n : Nat) (r : Fld) : (s.msiPends v n).flag r = s.flag r := by simp [flag]

@[simp] theorem sendMsi_keeps (s : State) (v : Nat) :
    (s.sendMsi v).pending = s.pending ∧ (s.sendMsi v).regs = s.regs ∧ (s.sendMsi v).act = s.act ∧
    (s.sendMsi v).counters = s.counters ∧ (s.sendMsi v).overflow = s.overflow ∧ (s.sendMsi v).fresh = s.fresh ∧
    (s.sendMsi v).limits = s.limits ∧ (s.sendMsi v).nseq = s.nseq ∧ (s.sendMsi v).pins = s.pins ∧
    (s.sendMsi v).nib = s.nib ∧ (s.sendMsi v).cmd = s.cmd ∧ (s.sendMsi v).queues = s.queues ∧
    (s.sendMsi v).mer = s.mer ∧ (s.sendMsi v).tio = s.tio ∧ (s.sendMsi v).nv = s.nv ∧ (s.sendMsi v).ink = s.ink ∧
    (s.sendMsi v).fw = s.fw ∧ (s.sendMsi v).perf = s.perf ∧ (s.sendMsi v).sw = s.sw ∧ (s.sendMsi v).tun = s.tun ∧
    (s.sendMsi v).links = s.links ∧ (s.sendMsi v).lanes = s.lanes ∧ (s.sendMsi v).clk = s.clk ∧
    (s.sendMsi v).eth = s.eth ∧ (s.sendMsi v).point = s.point ∧ (s.sendMsi v).dsp = s.dsp ∧ (s.sendMsi v).usb = s.usb ∧
    (s.sendMsi v).fuses = s.fuses ∧ (s.sendMsi v).tc = s.tc := by
  unfold sendMsi; dsimp only
  split
  · simp
  · split
    · simp
    · split <;> simp
@[simp] theorem sendMsi_reg (s : State) (v : Nat) (r : Nat) : (s.sendMsi v).reg r = s.reg r := by simp [reg]
@[simp] theorem sendMsi_rd (s : State) (v : Nat) (r : Fld) : (s.sendMsi v).rd r = s.rd r := by simp [rd]
@[simp] theorem sendMsi_flag (s : State) (v : Nat) (r : Fld) : (s.sendMsi v).flag r = s.flag r := by simp [flag]

@[simp] theorem queueDma_keeps (s : State) (q : Nat) (x : Queue) (i : Nat) (e : Bytes) :
    (s.queueDma q x i e).pending = s.pending ∧ (s.queueDma q x i e).regs = s.regs ∧ (s.queueDma q x i e).act = s.act ∧
    (s.queueDma q x i e).counters = s.counters ∧ (s.queueDma q x i e).overflow = s.overflow ∧
    (s.queueDma q x i e).fresh = s.fresh ∧ (s.queueDma q x i e).limits = s.limits ∧
    (s.queueDma q x i e).nseq = s.nseq ∧ (s.queueDma q x i e).pins = s.pins ∧ (s.queueDma q x i e).nib = s.nib ∧
    (s.queueDma q x i e).cmd = s.cmd ∧ (s.queueDma q x i e).queues = s.queues ∧ (s.queueDma q x i e).mer = s.mer ∧
    (s.queueDma q x i e).tio = s.tio ∧ (s.queueDma q x i e).nv = s.nv ∧ (s.queueDma q x i e).ink = s.ink ∧
    (s.queueDma q x i e).fw = s.fw ∧ (s.queueDma q x i e).perf = s.perf ∧ (s.queueDma q x i e).sw = s.sw ∧
    (s.queueDma q x i e).tun = s.tun ∧ (s.queueDma q x i e).links = s.links ∧ (s.queueDma q x i e).lanes = s.lanes ∧
    (s.queueDma q x i e).clk = s.clk ∧ (s.queueDma q x i e).eth = s.eth ∧ (s.queueDma q x i e).point = s.point ∧
    (s.queueDma q x i e).dsp = s.dsp ∧ (s.queueDma q x i e).usb = s.usb ∧ (s.queueDma q x i e).fuses = s.fuses ∧
    (s.queueDma q x i e).tc = s.tc := by unfold queueDma; split <;> simp
@[simp] theorem queueDma_reg (s : State) (q : Nat) (x : Queue) (i : Nat) (e : Bytes) (r : Nat) : (s.queueDma q x i e).reg r = s.reg r := by simp [reg]
@[simp] theorem queueDma_rd (s : State) (q : Nat) (x : Queue) (i : Nat) (e : Bytes) (r : Fld) : (s.queueDma q x i e).rd r = s.rd r := by simp [rd]
@[simp] theorem queueDma_flag (s : State) (q : Nat) (x : Queue) (i : Nat) (e : Bytes) (r : Fld) : (s.queueDma q x i e).flag r = s.flag r := by simp [flag]

@[simp] theorem sendMsiIf_keeps (s : State) (c : Bool) (v : Nat) :
    (if c = true then s.sendMsi v else s).pending = s.pending ∧ (if c = true then s.sendMsi v else s).regs = s.regs ∧
    (if c = true then s.sendMsi v else s).act = s.act ∧ (if c = true then s.sendMsi v else s).counters = s.counters ∧
    (if c = true then s.sendMsi v else s).overflow = s.overflow ∧
    (if c = true then s.sendMsi v else s).fresh = s.fresh ∧ (if c = true then s.sendMsi v else s).limits = s.limits ∧
    (if c = true then s.sendMsi v else s).nseq = s.nseq ∧ (if c = true then s.sendMsi v else s).pins = s.pins ∧
    (if c = true then s.sendMsi v else s).nib = s.nib ∧ (if c = true then s.sendMsi v else s).cmd = s.cmd ∧
    (if c = true then s.sendMsi v else s).queues = s.queues ∧ (if c = true then s.sendMsi v else s).mer = s.mer ∧
    (if c = true then s.sendMsi v else s).tio = s.tio ∧ (if c = true then s.sendMsi v else s).nv = s.nv ∧
    (if c = true then s.sendMsi v else s).ink = s.ink ∧ (if c = true then s.sendMsi v else s).fw = s.fw ∧
    (if c = true then s.sendMsi v else s).perf = s.perf ∧ (if c = true then s.sendMsi v else s).sw = s.sw ∧
    (if c = true then s.sendMsi v else s).tun = s.tun ∧ (if c = true then s.sendMsi v else s).links = s.links ∧
    (if c = true then s.sendMsi v else s).lanes = s.lanes ∧ (if c = true then s.sendMsi v else s).clk = s.clk ∧
    (if c = true then s.sendMsi v else s).eth = s.eth ∧ (if c = true then s.sendMsi v else s).point = s.point ∧
    (if c = true then s.sendMsi v else s).dsp = s.dsp ∧ (if c = true then s.sendMsi v else s).usb = s.usb ∧
    (if c = true then s.sendMsi v else s).fuses = s.fuses ∧ (if c = true then s.sendMsi v else s).tc = s.tc := by split <;> simp
@[simp] theorem sendMsiIf_reg (s : State) (c : Bool) (v : Nat) (r : Nat) : (if c = true then s.sendMsi v else s).reg r = s.reg r := by simp [reg]
@[simp] theorem sendMsiIf_rd (s : State) (c : Bool) (v : Nat) (r : Fld) : (if c = true then s.sendMsi v else s).rd r = s.rd r := by simp [rd]
@[simp] theorem sendMsiIf_flag (s : State) (c : Bool) (v : Nat) (r : Fld) : (if c = true then s.sendMsi v else s).flag r = s.flag r := by simp [flag]

@[simp] theorem producePlain_keeps (s : State) (q : Nat) (e : Bytes) :
    ((s.producePlain q e).1).pending = s.pending ∧ ((s.producePlain q e).1).regs = s.regs ∧
    ((s.producePlain q e).1).act = s.act ∧ ((s.producePlain q e).1).counters = s.counters ∧
    ((s.producePlain q e).1).overflow = s.overflow ∧ ((s.producePlain q e).1).fresh = s.fresh ∧
    ((s.producePlain q e).1).limits = s.limits ∧ ((s.producePlain q e).1).nseq = s.nseq ∧
    ((s.producePlain q e).1).pins = s.pins ∧ ((s.producePlain q e).1).nib = s.nib ∧
    ((s.producePlain q e).1).cmd = s.cmd ∧ ((s.producePlain q e).1).mer = s.mer ∧
    ((s.producePlain q e).1).tio = s.tio ∧ ((s.producePlain q e).1).nv = s.nv ∧ ((s.producePlain q e).1).ink = s.ink ∧
    ((s.producePlain q e).1).fw = s.fw ∧ ((s.producePlain q e).1).perf = s.perf ∧ ((s.producePlain q e).1).sw = s.sw ∧
    ((s.producePlain q e).1).tun = s.tun ∧ ((s.producePlain q e).1).links = s.links ∧
    ((s.producePlain q e).1).lanes = s.lanes ∧ ((s.producePlain q e).1).clk = s.clk ∧
    ((s.producePlain q e).1).eth = s.eth ∧ ((s.producePlain q e).1).point = s.point ∧
    ((s.producePlain q e).1).dsp = s.dsp ∧ ((s.producePlain q e).1).usb = s.usb ∧
    ((s.producePlain q e).1).fuses = s.fuses ∧ ((s.producePlain q e).1).tc = s.tc := by
  unfold producePlain
  dsimp only
  split
  · simp
  · simp only [sendMsiIf_keeps, queueDma_keeps, setQueue_frame, and_self]
@[simp] theorem producePlain_reg (s : State) (q : Nat) (e : Bytes) (r : Nat) : ((s.producePlain q e).1).reg r = s.reg r := by simp [reg]
@[simp] theorem producePlain_rd (s : State) (q : Nat) (e : Bytes) (r : Fld) : ((s.producePlain q e).1).rd r = s.rd r := by simp [rd]
@[simp] theorem producePlain_flag (s : State) (q : Nat) (e : Bytes) (r : Fld) : ((s.producePlain q e).1).flag r = s.flag r := by simp [flag]

@[simp] theorem noticePlain_keeps (s : State) (c : Nat) (d : Bytes) :
    (s.noticePlain c d).pending = s.pending ∧ (s.noticePlain c d).regs = s.regs ∧ (s.noticePlain c d).act = s.act ∧
    (s.noticePlain c d).counters = s.counters ∧ (s.noticePlain c d).overflow = s.overflow ∧
    (s.noticePlain c d).fresh = s.fresh ∧ (s.noticePlain c d).limits = s.limits ∧ (s.noticePlain c d).pins = s.pins ∧
    (s.noticePlain c d).nib = s.nib ∧ (s.noticePlain c d).cmd = s.cmd ∧ (s.noticePlain c d).mer = s.mer ∧
    (s.noticePlain c d).tio = s.tio ∧ (s.noticePlain c d).nv = s.nv ∧ (s.noticePlain c d).ink = s.ink ∧
    (s.noticePlain c d).fw = s.fw ∧ (s.noticePlain c d).perf = s.perf ∧ (s.noticePlain c d).sw = s.sw ∧
    (s.noticePlain c d).tun = s.tun ∧ (s.noticePlain c d).links = s.links ∧ (s.noticePlain c d).lanes = s.lanes ∧
    (s.noticePlain c d).clk = s.clk ∧ (s.noticePlain c d).eth = s.eth ∧ (s.noticePlain c d).point = s.point ∧
    (s.noticePlain c d).dsp = s.dsp ∧ (s.noticePlain c d).usb = s.usb ∧ (s.noticePlain c d).fuses = s.fuses ∧
    (s.noticePlain c d).tc = s.tc := by unfold noticePlain; simp
@[simp] theorem noticePlain_reg (s : State) (c : Nat) (d : Bytes) (r : Nat) : (s.noticePlain c d).reg r = s.reg r := by simp [reg]
@[simp] theorem noticePlain_rd (s : State) (c : Nat) (d : Bytes) (r : Fld) : (s.noticePlain c d).rd r = s.rd r := by simp [rd]
@[simp] theorem noticePlain_flag (s : State) (c : Nat) (d : Bytes) (r : Fld) : (s.noticePlain c d).flag r = s.flag r := by simp [flag]

@[simp] theorem integrityReset_keeps (s : State) (q : Nat) :
    (s.integrityReset q).pending = s.pending ∧ (s.integrityReset q).regs = s.regs ∧ (s.integrityReset q).act = s.act ∧
    (s.integrityReset q).counters = s.counters ∧ (s.integrityReset q).overflow = s.overflow ∧
    (s.integrityReset q).fresh = s.fresh ∧ (s.integrityReset q).limits = s.limits ∧
    (s.integrityReset q).pins = s.pins ∧ (s.integrityReset q).nib = s.nib ∧ (s.integrityReset q).cmd = s.cmd ∧
    (s.integrityReset q).mer = s.mer ∧ (s.integrityReset q).tio = s.tio ∧ (s.integrityReset q).nv = s.nv ∧
    (s.integrityReset q).ink = s.ink ∧ (s.integrityReset q).fw = s.fw ∧ (s.integrityReset q).perf = s.perf ∧
    (s.integrityReset q).sw = s.sw ∧ (s.integrityReset q).tun = s.tun ∧ (s.integrityReset q).links = s.links ∧
    (s.integrityReset q).lanes = s.lanes ∧ (s.integrityReset q).clk = s.clk ∧ (s.integrityReset q).eth = s.eth ∧
    (s.integrityReset q).point = s.point ∧ (s.integrityReset q).dsp = s.dsp ∧ (s.integrityReset q).usb = s.usb ∧
    (s.integrityReset q).fuses = s.fuses ∧ (s.integrityReset q).tc = s.tc := by unfold integrityReset; simp
@[simp] theorem integrityReset_reg (s : State) (q : Nat) (r : Nat) : (s.integrityReset q).reg r = s.reg r := by simp [reg]
@[simp] theorem integrityReset_rd (s : State) (q : Nat) (r : Fld) : (s.integrityReset q).rd r = s.rd r := by simp [rd]
@[simp] theorem integrityReset_flag (s : State) (q : Nat) (r : Fld) : (s.integrityReset q).flag r = s.flag r := by simp [flag]

@[simp] theorem noticeCompared_keeps (s : State)  :
    (s.noticeCompared).pending = s.pending ∧ (s.noticeCompared).regs = s.regs ∧ (s.noticeCompared).act = s.act ∧
    (s.noticeCompared).counters = s.counters ∧ (s.noticeCompared).overflow = s.overflow ∧
    (s.noticeCompared).fresh = s.fresh ∧ (s.noticeCompared).limits = s.limits ∧ (s.noticeCompared).pins = s.pins ∧
    (s.noticeCompared).nib = s.nib ∧ (s.noticeCompared).cmd = s.cmd ∧ (s.noticeCompared).mer = s.mer ∧
    (s.noticeCompared).tio = s.tio ∧ (s.noticeCompared).nv = s.nv ∧ (s.noticeCompared).ink = s.ink ∧
    (s.noticeCompared).fw = s.fw ∧ (s.noticeCompared).perf = s.perf ∧ (s.noticeCompared).sw = s.sw ∧
    (s.noticeCompared).tun = s.tun ∧ (s.noticeCompared).links = s.links ∧ (s.noticeCompared).lanes = s.lanes ∧
    (s.noticeCompared).clk = s.clk ∧ (s.noticeCompared).eth = s.eth ∧ (s.noticeCompared).point = s.point ∧
    (s.noticeCompared).dsp = s.dsp ∧ (s.noticeCompared).usb = s.usb ∧ (s.noticeCompared).fuses = s.fuses ∧
    (s.noticeCompared).tc = s.tc := by unfold noticeCompared; split <;> simp
@[simp] theorem noticeCompared_reg (s : State)  (r : Nat) : (s.noticeCompared).reg r = s.reg r := by simp [reg]
@[simp] theorem noticeCompared_rd (s : State)  (r : Fld) : (s.noticeCompared).rd r = s.rd r := by simp [rd]
@[simp] theorem noticeCompared_flag (s : State)  (r : Fld) : (s.noticeCompared).flag r = s.flag r := by simp [flag]

@[simp] theorem compared_keeps (s : State) (q : Nat) :
    (s.compared q).pending = s.pending ∧ (s.compared q).regs = s.regs ∧ (s.compared q).act = s.act ∧
    (s.compared q).counters = s.counters ∧ (s.compared q).overflow = s.overflow ∧ (s.compared q).fresh = s.fresh ∧
    (s.compared q).limits = s.limits ∧ (s.compared q).pins = s.pins ∧ (s.compared q).nib = s.nib ∧
    (s.compared q).cmd = s.cmd ∧ (s.compared q).mer = s.mer ∧ (s.compared q).tio = s.tio ∧ (s.compared q).nv = s.nv ∧
    (s.compared q).ink = s.ink ∧ (s.compared q).fw = s.fw ∧ (s.compared q).perf = s.perf ∧ (s.compared q).sw = s.sw ∧
    (s.compared q).tun = s.tun ∧ (s.compared q).links = s.links ∧ (s.compared q).lanes = s.lanes ∧
    (s.compared q).clk = s.clk ∧ (s.compared q).eth = s.eth ∧ (s.compared q).point = s.point ∧
    (s.compared q).dsp = s.dsp ∧ (s.compared q).usb = s.usb ∧ (s.compared q).fuses = s.fuses ∧
    (s.compared q).tc = s.tc := by unfold compared; split <;> (try split) <;> simp
@[simp] theorem compared_reg (s : State) (q : Nat) (r : Nat) : (s.compared q).reg r = s.reg r := by simp [reg]
@[simp] theorem compared_rd (s : State) (q : Nat) (r : Fld) : (s.compared q).rd r = s.rd r := by simp [rd]
@[simp] theorem compared_flag (s : State) (q : Nat) (r : Fld) : (s.compared q).flag r = s.flag r := by simp [flag]

@[simp] theorem produceRaw_keeps (s : State) (q : Nat) (e : Bytes) :
    ((s.produceRaw q e).1).pending = s.pending ∧ ((s.produceRaw q e).1).regs = s.regs ∧
    ((s.produceRaw q e).1).act = s.act ∧ ((s.produceRaw q e).1).counters = s.counters ∧
    ((s.produceRaw q e).1).overflow = s.overflow ∧ ((s.produceRaw q e).1).fresh = s.fresh ∧
    ((s.produceRaw q e).1).limits = s.limits ∧ ((s.produceRaw q e).1).pins = s.pins ∧
    ((s.produceRaw q e).1).nib = s.nib ∧ ((s.produceRaw q e).1).cmd = s.cmd ∧ ((s.produceRaw q e).1).mer = s.mer ∧
    ((s.produceRaw q e).1).tio = s.tio ∧ ((s.produceRaw q e).1).nv = s.nv ∧ ((s.produceRaw q e).1).ink = s.ink ∧
    ((s.produceRaw q e).1).fw = s.fw ∧ ((s.produceRaw q e).1).perf = s.perf ∧ ((s.produceRaw q e).1).sw = s.sw ∧
    ((s.produceRaw q e).1).tun = s.tun ∧ ((s.produceRaw q e).1).links = s.links ∧
    ((s.produceRaw q e).1).lanes = s.lanes ∧ ((s.produceRaw q e).1).clk = s.clk ∧ ((s.produceRaw q e).1).eth = s.eth ∧
    ((s.produceRaw q e).1).point = s.point ∧ ((s.produceRaw q e).1).dsp = s.dsp ∧ ((s.produceRaw q e).1).usb = s.usb ∧
    ((s.produceRaw q e).1).fuses = s.fuses ∧ ((s.produceRaw q e).1).tc = s.tc := by unfold produceRaw; simp
@[simp] theorem produceRaw_reg (s : State) (q : Nat) (e : Bytes) (r : Nat) : ((s.produceRaw q e).1).reg r = s.reg r := by simp [reg]
@[simp] theorem produceRaw_rd (s : State) (q : Nat) (e : Bytes) (r : Fld) : ((s.produceRaw q e).1).rd r = s.rd r := by simp [rd]
@[simp] theorem produceRaw_flag (s : State) (q : Nat) (e : Bytes) (r : Fld) : ((s.produceRaw q e).1).flag r = s.flag r := by simp [flag]

@[simp] theorem notice_keeps (s : State) (c : Nat) (d : Bytes) :
    (s.notice c d).pending = s.pending ∧ (s.notice c d).regs = s.regs ∧ (s.notice c d).act = s.act ∧
    (s.notice c d).counters = s.counters ∧ (s.notice c d).overflow = s.overflow ∧ (s.notice c d).fresh = s.fresh ∧
    (s.notice c d).limits = s.limits ∧ (s.notice c d).pins = s.pins ∧ (s.notice c d).nib = s.nib ∧
    (s.notice c d).cmd = s.cmd ∧ (s.notice c d).mer = s.mer ∧ (s.notice c d).tio = s.tio ∧ (s.notice c d).nv = s.nv ∧
    (s.notice c d).ink = s.ink ∧ (s.notice c d).fw = s.fw ∧ (s.notice c d).perf = s.perf ∧ (s.notice c d).sw = s.sw ∧
    (s.notice c d).tun = s.tun ∧ (s.notice c d).links = s.links ∧ (s.notice c d).lanes = s.lanes ∧
    (s.notice c d).clk = s.clk ∧ (s.notice c d).eth = s.eth ∧ (s.notice c d).point = s.point ∧
    (s.notice c d).dsp = s.dsp ∧ (s.notice c d).usb = s.usb ∧ (s.notice c d).fuses = s.fuses ∧
    (s.notice c d).tc = s.tc := by unfold notice; split <;> simp
@[simp] theorem notice_reg (s : State) (c : Nat) (d : Bytes) (r : Nat) : (s.notice c d).reg r = s.reg r := by simp [reg]
@[simp] theorem notice_rd (s : State) (c : Nat) (d : Bytes) (r : Fld) : (s.notice c d).rd r = s.rd r := by simp [rd]
@[simp] theorem notice_flag (s : State) (c : Nat) (d : Bytes) (r : Fld) : (s.notice c d).flag r = s.flag r := by simp [flag]

@[simp] theorem produce_keeps (s : State) (q : Nat) (e : Bytes) :
    (s.produce q e).pending = s.pending ∧ (s.produce q e).regs = s.regs ∧ (s.produce q e).act = s.act ∧
    (s.produce q e).counters = s.counters ∧ (s.produce q e).overflow = s.overflow ∧ (s.produce q e).fresh = s.fresh ∧
    (s.produce q e).limits = s.limits ∧ (s.produce q e).pins = s.pins ∧ (s.produce q e).nib = s.nib ∧
    (s.produce q e).cmd = s.cmd ∧ (s.produce q e).mer = s.mer ∧ (s.produce q e).tio = s.tio ∧
    (s.produce q e).nv = s.nv ∧ (s.produce q e).ink = s.ink ∧ (s.produce q e).fw = s.fw ∧
    (s.produce q e).perf = s.perf ∧ (s.produce q e).sw = s.sw ∧ (s.produce q e).tun = s.tun ∧
    (s.produce q e).links = s.links ∧ (s.produce q e).lanes = s.lanes ∧ (s.produce q e).clk = s.clk ∧
    (s.produce q e).eth = s.eth ∧ (s.produce q e).point = s.point ∧ (s.produce q e).dsp = s.dsp ∧
    (s.produce q e).usb = s.usb ∧ (s.produce q e).fuses = s.fuses ∧ (s.produce q e).tc = s.tc := by unfold produce; dsimp only; split <;> simp
@[simp] theorem produce_reg (s : State) (q : Nat) (e : Bytes) (r : Nat) : (s.produce q e).reg r = s.reg r := by simp [reg]
@[simp] theorem produce_rd (s : State) (q : Nat) (e : Bytes) (r : Fld) : (s.produce q e).rd r = s.rd r := by simp [rd]
@[simp] theorem produce_flag (s : State) (q : Nat) (e : Bytes) (r : Fld) : (s.produce q e).flag r = s.flag r := by simp [flag]

@[simp] theorem limited_keeps (s : State) (k c : Nat) (d : Nat → Bytes) (n : Nat) :
    (s.limited k c d n).pending = s.pending ∧ (s.limited k c d n).regs = s.regs ∧ (s.limited k c d n).act = s.act ∧
    (s.limited k c d n).counters = s.counters ∧ (s.limited k c d n).overflow = s.overflow ∧
    (s.limited k c d n).fresh = s.fresh ∧ (s.limited k c d n).pins = s.pins ∧ (s.limited k c d n).nib = s.nib ∧
    (s.limited k c d n).cmd = s.cmd ∧ (s.limited k c d n).mer = s.mer ∧ (s.limited k c d n).tio = s.tio ∧
    (s.limited k c d n).nv = s.nv ∧ (s.limited k c d n).ink = s.ink ∧ (s.limited k c d n).fw = s.fw ∧
    (s.limited k c d n).perf = s.perf ∧ (s.limited k c d n).sw = s.sw ∧ (s.limited k c d n).tun = s.tun ∧
    (s.limited k c d n).links = s.links ∧ (s.limited k c d n).lanes = s.lanes ∧ (s.limited k c d n).clk = s.clk ∧
    (s.limited k c d n).eth = s.eth ∧ (s.limited k c d n).point = s.point ∧ (s.limited k c d n).dsp = s.dsp ∧
    (s.limited k c d n).usb = s.usb ∧ (s.limited k c d n).fuses = s.fuses ∧ (s.limited k c d n).tc = s.tc := by unfold limited; dsimp only; split <;> split <;> simp
@[simp] theorem limited_reg (s : State) (k c : Nat) (d : Nat → Bytes) (n : Nat) (r : Nat) : (s.limited k c d n).reg r = s.reg r := by simp [reg]
@[simp] theorem limited_rd (s : State) (k c : Nat) (d : Nat → Bytes) (n : Nat) (r : Fld) : (s.limited k c d n).rd r = s.rd r := by simp [rd]
@[simp] theorem limited_flag (s : State) (k c : Nat) (d : Nat → Bytes) (n : Nat) (r : Fld) : (s.limited k c d n).flag r = s.flag r := by simp [flag]

@[simp] theorem count_keeps (s : State) (i n : Nat) :
    (s.count i n).pending = s.pending ∧ (s.count i n).regs = s.regs ∧ (s.count i n).act = s.act ∧
    (s.count i n).fresh = s.fresh ∧ (s.count i n).pins = s.pins ∧ (s.count i n).nib = s.nib ∧
    (s.count i n).cmd = s.cmd ∧ (s.count i n).mer = s.mer ∧ (s.count i n).tio = s.tio ∧ (s.count i n).nv = s.nv ∧
    (s.count i n).ink = s.ink ∧ (s.count i n).fw = s.fw ∧ (s.count i n).perf = s.perf ∧ (s.count i n).sw = s.sw ∧
    (s.count i n).tun = s.tun ∧ (s.count i n).links = s.links ∧ (s.count i n).lanes = s.lanes ∧
    (s.count i n).clk = s.clk ∧ (s.count i n).eth = s.eth ∧ (s.count i n).point = s.point ∧ (s.count i n).dsp = s.dsp ∧
    (s.count i n).usb = s.usb ∧ (s.count i n).fuses = s.fuses ∧ (s.count i n).tc = s.tc := by unfold count; dsimp only; split <;> (try split) <;> simp
@[simp] theorem count_reg (s : State) (i n : Nat) (r : Nat) : (s.count i n).reg r = s.reg r := by simp [reg]
@[simp] theorem count_rd (s : State) (i n : Nat) (r : Fld) : (s.count i n).rd r = s.rd r := by simp [rd]
@[simp] theorem count_flag (s : State) (i n : Nat) (r : Fld) : (s.count i n).flag r = s.flag r := by simp [flag]

@[simp] theorem modeChanged_keeps (s : State) (o n c : Nat) :
    (s.modeChanged o n c).pending = s.pending ∧ (s.modeChanged o n c).regs = s.regs ∧
    (s.modeChanged o n c).act = s.act ∧ (s.modeChanged o n c).counters = s.counters ∧
    (s.modeChanged o n c).overflow = s.overflow ∧ (s.modeChanged o n c).fresh = s.fresh ∧
    (s.modeChanged o n c).limits = s.limits ∧ (s.modeChanged o n c).pins = s.pins ∧ (s.modeChanged o n c).nib = s.nib ∧
    (s.modeChanged o n c).cmd = s.cmd ∧ (s.modeChanged o n c).mer = s.mer ∧ (s.modeChanged o n c).tio = s.tio ∧
    (s.modeChanged o n c).nv = s.nv ∧ (s.modeChanged o n c).ink = s.ink ∧ (s.modeChanged o n c).fw = s.fw ∧
    (s.modeChanged o n c).perf = s.perf ∧ (s.modeChanged o n c).sw = s.sw ∧ (s.modeChanged o n c).tun = s.tun ∧
    (s.modeChanged o n c).links = s.links ∧ (s.modeChanged o n c).lanes = s.lanes ∧ (s.modeChanged o n c).clk = s.clk ∧
    (s.modeChanged o n c).eth = s.eth ∧ (s.modeChanged o n c).point = s.point ∧ (s.modeChanged o n c).dsp = s.dsp ∧
    (s.modeChanged o n c).usb = s.usb ∧ (s.modeChanged o n c).fuses = s.fuses ∧ (s.modeChanged o n c).tc = s.tc := by unfold modeChanged; simp
@[simp] theorem modeChanged_reg (s : State) (o n c : Nat) (r : Nat) : (s.modeChanged o n c).reg r = s.reg r := by simp [reg]
@[simp] theorem modeChanged_rd (s : State) (o n c : Nat) (r : Fld) : (s.modeChanged o n c).rd r = s.rd r := by simp [rd]
@[simp] theorem modeChanged_flag (s : State) (o n c : Nat) (r : Fld) : (s.modeChanged o n c).flag r = s.flag r := by simp [flag]

end State

end Sys2Proof.Machine
end

