-- ==== Sys2Proof/Laws/Command.lean ====
section
/-!
SUPPORT. Laws of the command pipeline: what a packet that passes its checks does, what one that fails does, and that every
packet row goes through it.
-/

namespace Sys2Proof.Machine

@[simp] theorem asked_asked (op : Nat) (r : Request) : asked op (asked op r) = asked op r := rfl

@[simp] theorem asked_via (op : Nat) (r : Request) : (asked op r).via = r.via := rfl

@[simp] theorem asked_params (op : Nat) (r : Request) : (asked op r).pkt.params = r.pkt.params := rfl

@[simp] theorem asked_session (op : Nat) (r : Request) : (asked op r).pkt.session = r.pkt.session := rfl

/-- A packet that passes every check does what the opcode's body does on the machine that has taken it. -/
theorem State.command_of_passes {s : State} {op : Nat} {r : Request} (h : s.passes op r = true) (body : Body) :
    s.command op r body = match body (asked op r) (s.begun op r) with
      | .reply t status params => t.answered (s.begun op r) op r status params
      | .later t => t := by
  simp only [passes, Bool.and_eq_true, Option.isNone_iff_eq_none, Bool.not_eq_true'] at h
  obtain ⟨⟨⟨⟨⟨h1, h2⟩, h3⟩, h4⟩, h5⟩, h6⟩ := h
  have hx : ((s.begun op r).execute op (asked op r) body) = match body (asked op r) (s.begun op r) with
      | .reply t status params => t.answered (s.begun op r) op r status params
      | .later t => t := by
    simp only [execute, letsThrough] at h6 ⊢
    split at h6
    · rename_i a ha
      simp only [Bool.and_eq_true, Option.isNone_iff_eq_none] at h6
      simp only [ha, h6.1, h6.2, Bool.not_true, Bool.false_eq_true, if_false]
      rfl
    · simp at h6
  have h4' : s.frameStatus (requestWithOpcode r op) = none := h4
  simp only [command, h1, h2, h3, h4', Bool.not_true, Bool.false_eq_true, if_false]
  split
  · rename_i x hx'
    have h5' := h5
    simp only [freshSeq, asked, hx', Bool.and_eq_true, bne_iff_ne, ne_eq] at h5'
    simp only [beq_iff_eq, h5'.1, if_false]
    rw [if_pos (of_decide_eq_true h5'.2)]
    exact hx
  · exact hx

/-- Taking a request leaves the mode, and so what it allows, as it was. -/
theorem State.begun_modeAllows (s : State) (op : Nat) (r : Request) (o : Nat) :
    (s.begun op r).modeAllows o = s.modeAllows o := by
  have e : (s.begun op r).mode = s.mode := by
    unfold State.begun State.take
    dsimp only
    split <;> simp [State.mode, State.setSession]
    rfl
  simp only [State.modeAllows, e]

/-- Parameters of the length the rule names, or more, reach the opcode's own part. -/
theorem takes_of_length {n : Nat} {body : Bytes → State → Answer} {r : Request} {s : State}
    (h : n ≤ r.pkt.params.length) : takes n body r s = body r.pkt.params s := if_neg (Nat.not_lt.2 h)

/-- A body that replies. -/
theorem runCommand_reply {s t : State} {op status : Nat} {r : Request} {body : Body} {params : Bytes}
    (h : s.passes op r = true) (hb : body (asked op r) (s.begun op r) = .reply t status params) :
    runCommand op body r s = .next (t.answered (s.begun op r) op r status params) := by
  simp only [runCommand, State.command_of_passes h, hb]

/-- A body that answers later. -/
theorem runCommand_later {s t : State} {op : Nat} {r : Request} {body : Body}
    (h : s.passes op r = true) (hb : body (asked op r) (s.begun op r) = .later t) : runCommand op body r s = .next t := by
  simp only [runCommand, State.command_of_passes h, hb]

/-- A body that replies, with its parameters long enough. -/
theorem runCommand_takes {s t : State} {op n status : Nat} {r : Request} {body : Bytes → State → Answer} {params : Bytes}
    (h : s.passes op r = true) (hn : n ≤ r.pkt.params.length)
    (hb : body r.pkt.params (s.begun op r) = .reply t status params) :
    runCommand op (takes n body) r s = .next (t.answered (s.begun op r) op r status params) :=
  runCommand_reply h ((takes_of_length (r := asked op r) hn).trans hb)

/-- The same for an opcode's part that also looks at the request. -/
theorem runCommand_takes_request {s t : State} {op n status : Nat} {r : Request}
    {body : Request → Bytes → State → Answer} {params : Bytes} (h : s.passes op r = true) (hn : n ≤ r.pkt.params.length)
    (hb : body (asked op r) r.pkt.params (s.begun op r) = .reply t status params) :
    runCommand op (fun r s => takes n (body r) r s) r s = .next (t.answered (s.begun op r) op r status params) :=
  runCommand_reply h ((takes_of_length (r := asked op r) hn).trans hb)

/-- And for one that answers later. -/
theorem runCommand_takes_later {s t : State} {op n : Nat} {r : Request} {body : Request → Bytes → State → Answer}
    (h : s.passes op r = true) (hn : n ≤ r.pkt.params.length)
    (hb : body (asked op r) r.pkt.params (s.begun op r) = .later t) :
    runCommand op (fun r s => takes n (body r) r s) r s = .next t :=
  runCommand_later h ((takes_of_length (r := asked op r) hn).trans hb)

/-- Every packet row runs its body through the pipeline. -/
theorem exec_packet (i : Instr) {op : Nat} {q : Request} (h : packetOf i = some (op, q)) :
    ∃ body, ∀ s, exec i s = .next (s.command op q body) := by
  cases i <;> first
    | (simp only [packetOf, reduceCtorEq] at h; done)
    | (simp only [packetOf, Option.some.injEq, Prod.mk.injEq] at h
       obtain ⟨rfl, rfl⟩ := h
       exact ⟨_, fun s => rfl⟩)

end Sys2Proof.Machine
end

