-- ==== Sys2Proof/Laws/Queues.lean ====
section
/-!
SUPPORT. Laws of the standard queues: what the producer, and a notice, do to each queue.
-/

namespace Sys2Proof.Machine

namespace State

@[simp] theorem hostWrite_queue (s : State) (u a q : Nat) (d : Bytes) : (s.hostWrite u a d).queue q = s.queue q := by
  simp [queue]

@[simp] theorem queueDma_queue (s : State) (p i q : Nat) (x : Queue) (e : Bytes) :
    (s.queueDma p x i e).queue q = s.queue q := by simp [queue]

@[simp] theorem sendMsiIf_queue (s : State) (b : Bool) (v q : Nat) :
    (if b = true then s.sendMsi v else s).queue q = s.queue q := by simp [queue]

theorem queue_setQueue_ne (s : State) {q p : Nat} (x : Queue) (h : p ≠ q) : (s.setQueue q x).queue p = s.queue p :=
  Table.get_set_ne _ _ _ h

/-- A disabled producer counts the entry in LOST. -/
theorem producePlain_off {s : State} {q : Nat} (e : Bytes) (h : s.flag (Reg.QUE_CFG_ENABLE q) = false) :
    (s.producePlain q e).1 = s.setQueue q { s.queue q with lost := satAdd 0xFFFF (s.queue q).lost 1 } := by
  simp [producePlain, h]

/-- An enabled producer replaces queue q, writes to the ring in DMA mode and may send an MSI; the queue is the pushed one
with the level interrupt's two flags set anew. -/
theorem producePlain_on {s : State} {q : Nat} (e : Bytes) (h : s.flag (Reg.QUE_CFG_ENABLE q) = true) :
    ∃ b z, (s.producePlain q e).1 = (if b = true then ((s.setQueue q z).queueDma q z (s.queue q).w e).sendMsi (q + 1)
        else (s.setQueue q z).queueDma q z (s.queue q).w e) ∧
      z = { (s.queue q).push (queueCap q) e with armed := z.armed, pendingIrq := z.pendingIrq } := by
  unfold producePlain
  simp only [h, Bool.not_true, Bool.false_eq_true, if_false]
  refine ⟨_, _, rfl, ?_⟩
  split <;> rfl

/-- The producer's queue afterwards. -/
theorem producePlain_queue {s : State} {q : Nat} (e : Bytes) (h : s.flag (Reg.QUE_CFG_ENABLE q) = true) :
    ∃ armed irq, ((s.producePlain q e).1).queue q =
      { (s.queue q).push (queueCap q) e with armed := armed, pendingIrq := irq } := by
  obtain ⟨b, z, hs, hz⟩ := producePlain_on e h
  exact ⟨z.armed, z.pendingIrq, by rw [hs, sendMsiIf_queue, queueDma_queue, queue_setQueue]; exact hz⟩

/-- The other queues are left alone. -/
theorem producePlain_other (s : State) {q p : Nat} (e : Bytes) (h : p ≠ q) :
    ((s.producePlain q e).1).queue p = s.queue p := by
  cases hf : s.flag (Reg.QUE_CFG_ENABLE q) with
  | false => rw [producePlain_off e hf, queue_setQueue_ne _ _ h]
  | true =>
    obtain ⟨b, z, hs, _⟩ := producePlain_on e hf
    rw [hs, sendMsiIf_queue, queueDma_queue, queue_setQueue_ne _ _ h]

/-- Where the copies of a queue's indices agree, the comparison changes nothing (R87). -/
theorem compared_of_agrees {s : State} {q : Nat} (h : (s.queue q).agrees = true) : s.compared q = s := if_pos h

/-- Where the notice queue's copies agree, its comparison changes nothing (R87). -/
theorem noticeCompared_of_agrees {s : State} (h : (s.queue 0).agrees = true) : s.noticeCompared = s := if_pos h

/-- On a queue whose copies agree the producer is the plain one. -/
theorem produceRaw_of_agrees {s : State} {q : Nat} (e : Bytes) (h : (s.queue q).agrees = true) :
    s.produceRaw q e = s.producePlain q e := by rw [produceRaw, compared_of_agrees h]

/-- A notice raised while the hub die runs is one entry into a notice queue whose copies agree. -/
theorem notice_on {s : State} (code : Nat) (d : Bytes) (h : s.hubOn = true) (hq : (s.queue 0).agrees = true) :
    s.notice code d = (({ s with nseq := (s.nseq + 1) % 65536 } : State).producePlain 0 (s.noticeEntry code d)).1 := by
  simp [notice, h, noticeCompared_of_agrees hq, noticePlain]

/-- A notice raised while the hub die is unpowered leaves nothing. -/
theorem notice_off {s : State} (code : Nat) (d : Bytes) (h : s.hubOn = false) : s.notice code d = s := by simp [notice, h]

end State

end Sys2Proof.Machine
end

