-- ==== Sys2Proof/Laws/Switch.lean ====
section
/-!
SUPPORT. Laws of the switch core: which admissions a core cycle holds.
-/

namespace Sys2Proof.Machine

namespace State

/-- At a port where nothing has arrived, admission changes nothing. -/
theorem admitAt_empty {s : State} {q : Nat} (h : Table.get (fun _ => []) s.sw.arriving q = []) : s.admitAt q = s := by
  simp only [admitAt, h]

/-- Ports where nothing has arrived are passed over. -/
theorem foldl_admitAt_empty {s : State} {l : List Nat} (h : ∀ q ∈ l, Table.get (fun _ => []) s.sw.arriving q = []) :
    l.foldl admitAt s = s := by
  induction l with
  | nil => rfl
  | cons q l ih => rw [List.foldl_cons, admitAt_empty (h q (by simp)), ih fun r hr => h r (by simp [hr])]

/-- Where no segment has reached a port before p, the admissions up to p are p's own (R226). -/
theorem admitTo_first {s : State} {p id : Nat} {rest : List Nat}
    (h : ∀ q, q < p → Table.get (fun _ => []) s.sw.arriving q = [])
    (hp : Table.get (fun _ => []) s.sw.arriving p = id :: rest) :
    s.admitTo (p + 1) =
      let t := s.withSw fun w => { w with arriving := Table.set (fun _ => []) w.arriving p rest }
      match t.seg? id with
      | some x => t.decide_ id x
      | none => t := by
  have he : (s.sw.arriving == []) = false := by
    rw [beq_eq_false_iff_ne]
    intro e
    rw [e] at hp
    cases hp
  rw [admitTo, he, List.range_succ, List.foldl_append, foldl_admitAt_empty fun q hq => h q (List.mem_range.1 hq)]
  simp only [Bool.false_eq_true, if_false, List.foldl_cons, List.foldl_nil, admitAt, hp] <;> rfl

end State

end Sys2Proof.Machine
end

