-- ==== Sys2Proof/Tests/Slice0.lean ====
section
/-!
SUPPORT. Tests: ill-formed commands refused, hypotheses of the statements met, and small steps checked against the manual.
-/

namespace Sys2Proof.Tests

set_option Elab.async false

open Sys2Proof Sys2Proof.Machine

/-- The hub die is up, in RUN, as a station. -/
def up : State := { nib := { stage := .up }, regs := [(0x10, 0x33#32)] }

/-- The same as the root. -/
def atRoot : State := { nib := { stage := .up }, regs := [(0x10, 0x833#32)] }

/-- In IDLE. -/
def inIdle : State := { nib := { stage := .up }, regs := [(0x10, 0x22#32)] }

/-- In SERVICE. -/
def inService : State := { nib := { stage := .up }, regs := [(0x10, 0x55#32)] }

/-- A power die alone. -/
def nibOnly : State := {}

/-- In STANDBY with the intake outside its window and every wake enabled. -/
def stby : State := ({ nib := { startDue := false } } : State).wr Reg.PWR_WAKE_EN_STBY 0x1F

/-- In STANDBY with the intake in its window, every wake enabled and an alarm set. -/
def stbyOn : State := (stby.put Reg.EFU_INTAKE_OK true).wr Reg.PWR_ALARM_SECONDS 5

/-- Up, with the intake in its window. -/
def fed : State := up.put Reg.EFU_INTAKE_OK true

/-- Up, with the point engine mapped out. -/
def mapped : State := { up with nib := { stage := .up, mappedOut := [0x50] } }

/-- A request on SESSION 0 through the mailbox. -/
def ask (params : Bytes) : Request :=
  { via := .mailbox, pkt := { len := params.length, params := params, delivered := 16 + params.length } }

/-- The header of an image of sixteen body bytes with five empty sections, its tag bytes 0 (R582, R583). -/
def imageHead : Bytes :=
  [0x47, 0x58, 0x46, 0x57, 1, 0] ++ le 2 0x4828 ++ zeros 4 ++ [0, 1] ++ zeros 2 ++ zeros 4 ++ le 4 16 ++ zeros 40 ++
    ([1, 2, 3, 4, 5].flatMap fun t => [t] ++ zeros 15) ++ zeros 112

/-- That image in slot A, sealed under the key in Inkwell slot 0, with the ROM about to run it. -/
def imageReady : State :=
  let x := gcmSeal (zeros 32) (zeros 12) imageHead (zeros 16)
  { nib := { stage := .rom }
    ink := { slots := [(0, some { key := zeros 32, attr := 0xFFFFFF })] }
    nv := { slotA := [(0, imageHead.take 36 ++ x.2 ++ imageHead.drop 52), (1, x.1)] } }

/-- A request from the root's Scribe. -/
def fromRoot (params : Bytes) : Request := { ask params with via := .tid0, sys := true }

/-- A password derivation under way. -/
def deriving_ : State :=
  { up with cmd := { derivation := some { req := ask [], nc := [], password := [] } }
            nv := { password := some ([], []) } }

/-- A hitless restart under way, with the image of `imageReady`. -/
def restarting_ : State := { imageReady with nib := { stage := .up }, fw := { restart := some (1, 0) } }

/-- Up, with a self-test running. -/
def withJob : State := { up with cmd := { jobs := [{ num := 1, opcode := 0x0905, kind := .selftest 0x50 }] } }

/-- Up, with a key in slot 0. -/
def keyed : State := { up with ink := { slots := [(0, some { key := zeros 32, attr := 0xFFFFFF })] } }

/-- Up, with handle 1 half-open. -/
def halfOpened : State := up.setSession 1 { phase := .halfOpen, slotKey := zeros 32 }

/-- The same machine for the proof. -/
def proving : State := halfOpened

/-- A SESSION_PROVE on handle 1 with the right proof. -/
def proof : Request :=
  { via := .mailbox
    pkt := { session := 1, seq := 1, len := 32, params := hmac (zeros 32) (ascii "GXHOST" ++ [1]), delivered := 48 } }

/-- The same with a wrong one. -/
def badProof : Request :=
  { via := .mailbox, pkt := { session := 1, seq := 1, len := 32, params := zeros 32, delivered := 48 } }

/-- Up, with a service password. -/
def withPw : State := { up with nv := { password := some ([], []) } }

/-- An OPEN_SESSION_PW with a password of one byte. -/
def pwAsk : Request :=
  { via := .usbs, pkt := { len := 18, params := zeros 16 ++ [1, 0x41], delivered := 34 } }

/-- Up, with one notice in queue 0. -/
def noticed : State := up.notice 0x0101 []

/-- A CRYPTO_OPEN of one byte sealed under the zero key. -/
def sealedAsk : Request :=
  let x := gcmSeal (zeros 32) (zeros 12) [] [9]
  ask ([0, 0, 0, 0] ++ zeros 12 ++ x.1 ++ x.2)

/-- PROVISIONED, with handle 1 open in the SECURE world. -/
def provisioned : State :=
  ({ up with nv := { lifeCycle := 1 } } : State).setSession 1 { phase := .opened, world := 1, key := zeros 32 }

/-- OTP_PROGRAM RETIRE on that session. -/
def retireAsk : Request :=
  let p : Packet := { flags := 2, opcode := 0x0508, session := 1, seq := 1, len := 4, params := [2, 2, 0, 0], delivered := 36 }
  { via := .mailbox, pkt := { p with tag := packetTag (zeros 32) p } }

/-- KEY_LOAD and OTP_PROGRAM KEY on that session, with a wrapping that does not hold. -/
def sessionAsk (op : Nat) (params : Bytes) : Request :=
  let p : Packet := { flags := 2, opcode := op, session := 1, seq := 1, len := params.length, params := params, delivered := 32 + params.length }
  { via := .mailbox, pkt := { p with tag := packetTag (zeros 32) p } }
def wrappedLoad : Request := sessionAsk 0x0500 ([20, 1, 0, 0, 1, 0x3F, 3, 0] ++ zeros 60)
def wrappedOtp : Request := sessionAsk 0x0508 ([0, 2, 1, 0, 0, 1, 0x3F, 3, 0] ++ zeros 60)

/-- Up, with no point forced. -/
def unforced : State := up.put Reg.CLK_OP_FORCED false

/-- Up, with an update of one block to slot B begun. -/
def updating : State := { up with fw := { update := some (1, 1) } }

/-- FW_WRITE_BLOCK of that block. -/
def blockAsk : Request := ask (zeros 4 ++ [1, 0, 0, 0] ++ sha256 [7] ++ zeros 24 ++ [7])

/-- Up, with slot B VERIFIED. -/
def verified : State := up.setSlotState 1 2 0

/-- Up, on trial. -/
def trying : State := { up with fw := { trial := true } }

/-- A Comet in flight. -/
def aComet : Comet :=
  { id := 3, seg := 1, selector := 0, dropsOnly := false, input := 4, output := 5, tid := 1, sseq := 0, cls := 0,
    color := 0, len := 1, hop := 0, flags := 0, gen := 0, start := 0, time := 0, stages := [], depth := 0 }

/-- A HOP that advertises MGEN 0 and DIST 2. -/
def goodHop : Bytes := [1, 1, 2, 2] ++ zeros 60

/-- Up, with link 0 ACTIVE and one lane ordered set from it held. -/
def hopReady : State :=
  { up with mer := { trunks := [(0, { rx := [(0, 5)] })] } }.wr (Reg.TLK_STAT_LSTATE 0) 2

/-- Up, with the far end of TRK1 a candidate of DIST 2. -/
def candidate : State :=
  { up with mer := { candidate := some 1, trunks := [(1, { samples := [0, 0, 0, 0], hop := some (0, 2, 0) })] } }.wr
    (Reg.TLK_STAT_LSTATE 1) 2

/-- The MASTER. -/
def master : State := up.wr Reg.MER_STAT_STATE 4

/-- The root of a line of one station. -/
def lineRoot : State := { atRoot with tun := { n := 1, announced := [(1, 0)] } }

/-- A USB tunnel from the root to the station at position 1. -/
def aTunnel : BookEntry :=
  { ttype := 1, cls := 0, ringProt := false, posA := 0, posB := 1, unitA := 0x20, subA := 0, unitB := 0x28, subB := 0
    taps := [], rates := {} }

/-- Up, with the entry of tunnel 5 STAGED. -/
def staged : State := up.stageEntry 5 (zeros 16) {} []

/-- The root, with that tunnel in its books. -/
def booked : State := { atRoot with tun := { n := 1, announced := [(1, 0)], books := [(5, some aTunnel)] } }

/-- The same, with its entry made. -/
def bookedStaged : State := booked.stageEntry 5 (zeros 16) {} []

/-- The phase that stages it, waiting for position 1. -/
def aPhase : Phase := { kind := .stage, tid := 5, seq := 9, req := none, waiting := [1], entry := some aTunnel }

/-- The root in that phase. -/
def staging : State := { booked with tun := { booked.tun with phases := [aPhase] } }

/-- The root while the tunnel drains. -/
def draining : State := { booked with tun := { booked.tun with phases := [{ aPhase with kind := .drain }] } }

/-- A reply to SEQ 9 with status OK, and one with BAD_PARAM. -/
def hopOk : Bytes := headerBytes { opcode := 0x8400, seq := 9 }
def hopBad : Bytes := headerBytes { opcode := 0x8400, seq := 9, status := 0x11 }

/-- A station without a position, its trunk 1 ACTIVE. -/
def lined : State := (up.wr (Reg.TLK_STAT_LSTATE 0) 2).wr (Reg.TLK_STAT_LSTATE 1) 2

/-- A station at position 3 whose trunk 1 has served and is DOWN. -/
def downed : State := (up.wr Reg.SYS_MODE_POSITION 3).withLink 1 fun l => { l with served := true }

/-- CH2 requested by SRC 3 and inserted, in the insertion delay. -/
def inserted : State :=
  ((up.wr (Reg.EFU_CH_CTRL_SRC 2) 3).put (Reg.EFU_CH_STAT_WINDOW 2) true).wr (Reg.EFU_CH_STAT_STATE 2) 3
    |>.put (Reg.EFU_CH_STAT_PRES 2) true

/-- CH1 under EFUSE_CONTROL. -/
def src0 : State := up.wr (Reg.EFU_CH_CTRL_SRC 1) 0

/-- CH1 LATCHED. -/
def latched : State := up.wr (Reg.EFU_CH_STAT_STATE 1) 8

/-- SERVICE with CH1 under test, and OFF. -/
def testing1 : State := { inService with nib := { stage := .up, underTest := [0x71] } }.wr (Reg.EFU_CH_STAT_STATE 1) 0

/-- SERVICE with trunk 0 under test. -/
def trunkTested : State := { inService with nib := { stage := .up, underTest := [0x10] } }

/-- An entry of a policy table: EN, SWAP and VCONN, Rp 3 A, 15 W, 5 V 3 A. -/
def anEntry : Bytes := [13, 2, 0, 0] ++ le 4 15000 ++ le 2 300 ++ zeros 6

/-- Source port 1 with that entry. -/
def tabled : State := (up.wr Reg.TCPD_FREE_FREE_MW 100000).withTcPort 1 fun x => { x with entry := anEntry }

/-- The port in READY. -/
def attached : State := tabled.wr (Reg.TCPD_PORT_STAT_STATE 1) 5

/-- The port with an offer made that its entry no longer gives. -/
def offering : State := attached.withTcPort 1 fun x => { x with offer := [(0, 300), (1, 100)] }

/-- The port in TRANSITION to 9 V. -/
def moving : State :=
  (tabled.wr (Reg.TCPD_PORT_STAT_STATE 1) 6).withTcPort 1 fun x => { x with next := some (2, 1, 100, 9000) }

/-- The port in READY, free to swap. -/
def swapping : State := attached

/-- TRK0 enabled, in DETECT. -/
def enabled0 : State := (up.put (Reg.TLK_CTRL_ENABLED 0) true).wr (Reg.TRL_STAT_TSTATE 0) 1

/-- TRK0 in ON, with a valid clock of distance 2. -/
def onLane : State :=
  ((up.put (Reg.TRL_STAT_CLK_VALID 0) true).wr (Reg.TRL_STAT_TSTATE 0) 8).wr (Reg.TRL_STAT_CLK_DIST_RX 0) 2

/-- TRK0 in DETECT, in the wait after eight failed trainings. -/
def backed : State :=
  ((up.put (Reg.TRL_STAT_CLK_VALID 0) true).wr (Reg.TRL_STAT_TSTATE 0) 1).withLane 0 fun l => { l with backoff := true }

/-- A lane ordered set with a good CRC, and a TRAIN_A from a station in EXCHANGE at distance 2 that offers four lanes. -/
def aSet : Bytes := laneSetWire ([0x96, 0x69, 0x96, 0x69, 5, 0, 0, 7] ++ zeros 22)
def trainSet : Bytes := laneSetWire ([0x96, 0x69, 0x96, 0x69, 1, 0, 0, 7, 0, 5, 0x48, 0x28, 2, 4] ++ zeros 16)

/-- TRK0 transmitting in ON. -/
def sending : State := (up.withLane 0 fun l => { l with txState := 8 }).wr (Reg.TRL_STAT_TX_WIDTH 0) 2

/-- Link 0 ACTIVE. -/
def active0 : State := up.wr (Reg.TLK_STAT_LSTATE 0) 2

/-- A NULL flit as it arrives. -/
def aFlit : Bytes := flitWire (nullHead.bytes ++ zeros 244)

/-- Link 0 with a credit move pending. -/
def movingCredit : State :=
  (active0.put (Reg.TLK_MOVE_PENDING 0) true).withLink 0 fun l => { l with move := some ([0, 0, 0, 0], [0, 0, 0, 0]) }

/-- A MGMT segment to this Damya itself that has reached input 19, and one with SYS = 1 from trunk 0. -/
def aHeld : Held := { seg := { ttype := 2, payload := [] }, input := 19, cells := 1 }
def aTrunkHeld : Held := { seg := { ttype := 2, sys := true, dst := 1 }, input := 0, cells := 1 }
def hopless : Held := { seg := { ttype := 1 }, input := 0, cells := 1 }
def arrived : State := { up with sw := { arriving := [(19, [1])], held := [(1, some aHeld)] } }
def arrivedTrunk : State := { up.wr Reg.SYS_MODE_POSITION 1 with sw := { arriving := [(0, [1])], held := [(1, some aTrunkHeld)] } }
def arrivedTrunk0 : State := { up with sw := { arriving := [(0, [1])], held := [(1, some hopless)] } }

/-- The segment admitted to the Scribe's queue. -/
def queuedHeld : Held := { aHeld with taken := 1, dests := [19] }
def queued19 : State :=
  ({ up with sw := { held := [(1, some queuedHeld)] } } : State).enqueueSeg 19 19 0 1 1

/-- A multicast segment of input 0 with a copy for Scribe and one for Meridian. -/
def copiesHeld : Held := { aTrunkHeld with taken := 1, dests := [19, 20] }
def queuedCopies : State := ({ up with sw := { held := [(1, some copiesHeld)] } } : State).setMcq 0 0 [1]

/-- A segment with SYS = 1 of tunnel 5, tapped at this Damya for USB port 0, which is mapped out. -/
def aTapHeld : Held := { seg := { ttype := 2, sys := true, tid := 5, mc := true, dst := 2, hop := 9 }, cells := 1 }
def tappedOut : State :=
  let s := ((up.wr Reg.SYS_MODE_POSITION 1).put (Reg.TUN_ENTRY_W0_VALID 5) true).wr (Reg.TUN_ENTRY_W0_TTYPE 5) 2
  let s := (s.wr (Reg.TUN_ENTRY_W1_ROLE 5) 3).wr (Reg.TUN_ENTRY_W1_UNIT 5) 0x20
  { s with nib := { s.nib with mappedOut := [0x48] }, tun := { n := 3 },
           sw := { arriving := [(0, [1])], held := [(1, some aTapHeld)] } }

/-- An old residue entry of input 0 for port 11. -/
def aging : State :=
  { up with mer := { raw := 10 ^ 12 }, sw := { held := [(1, some queuedHeld)], residue := [(0, [⟨1, 11, 3, 0⟩])] } }

/-- A station whose display fetch tunnel 5 is OPEN, its pipe low. -/
def lowPipe : State :=
  ((((up.stageEntry 5 (zeros 16) {} []).wr (Reg.TUN_ENTRY_W0_STATE 5) 1).wr (Reg.TUN_ENTRY_W1_ROLE 5) 1).wr
    (Reg.TUN_ENTRY_W1_UNIT 5) 0x13).put (Reg.DSP_STAT_LOW 0) true

/-- A fetch outstanding under tag 7. -/
def fetching : State := { up with pcie := { tags := [⟨7, 0, 0, 64, []⟩] } }

/-- Virtual downstream port 0 bound to a position with no route. -/
def bound0 : State := { atRoot with pcie := { vdps := [(0, { bound := true, position := 3 })] } }

/-- A prefetch line that arrived long ago. -/
def agedLine : State :=
  { atRoot with mer := { raw := 10 ^ 12 }
                pcie := { lines := [{ addr := 0, vdp := 0, window := 0, tag := 3, arrived := some 0 }] } }

/-- Pipe 0 scanning. -/
def scanning : State := (up.put (Reg.DSP_CTRL_EN 0) true).withPipe 0 fun x => { x with running := true }

/-- A small raster with line 1 in the buffer. -/
def scanLine : State :=
  ((scanning.wr (Reg.DSP_V0_VACTIVE 0) 240).latchRegs [Reg.DSP_V0_A 0]).withPipe 0 fun x =>
    { x with next := 1, lines := [{ n := 1 }] }

/-- Output 1 enabled and plugged; in training; and with an AUX transaction under way. -/
def plugged : State := (up.put (Reg.DPO_CTRL_EN 1) true).put (Reg.DPO_STAT_HPD 1) true
def dpTraining : State := plugged.withDp 1 fun x => { x with training := true }
def auxing : State := plugged.withDp 1 fun x => { x with aux := some 0 }

/-- The USB host engine runs. -/
def usbUp : State := up.put Reg.USBH_CTRL_EN true

/-- A descriptor of a type in context 5, and port 0 with it at the head; and with its transaction on the bus. -/
def aTd (type : Nat) : UsbTd := { index := 3, buf := 0, len := 0, type := type, ctx := 5, flags := 0, setup := zeros 8, param := zeros 8 }
def tdAt (type : Nat) : State := usbUp.withUsbPort 0 fun x => { x with on := true, tds := [aTd type] }
def onBus (type : Nat) : State :=
  usbUp.withUsbPort 0 fun x => { x with on := true, busy := some 5, tds := [{ aTd type with started := true }] }

/-- A device at port 0; and suspended. -/
def present0 : State := usbUp.put (Reg.USBH_PORT_STAT_CONNECT 0) true
def suspended0 : State := (present0.put (Reg.USBH_PORT_STAT_ENABLED 0) true).put (Reg.USBH_PORT_STAT_SUSPENDED 0) true

/-- USBS in the default state; with nothing to report; and suspended with a report that waits. -/
def usbsUp : State := up.wr Reg.USBS_STAT_STATE 2
def usbsQuiet : State := usbsUp.withUsbs fun d => { d with last := usbsUp.usbsReport }
def usbsWake : State :=
  ((usbsQuiet.put Reg.USBS_STAT_RWAKE_EN true).put Reg.USBS_CTRL_WAKE_ALLOW true).put Reg.USBS_STAT_SUSPENDED true
    |>.withUsbs fun d => { d with ep3 := some (zeros 16) }

/-- A station whose root port 0 holds the semaphore, and one that is on its way to STANDBY. -/
def heldLock : State := (up.put (Reg.PCIE_LOCK_HELD 0) true).setLock 0 (some (0, 0))
def entering : State := { up with nib := { stage := .up, seq := .slow } }

/-- ETH5's MAC runs; with its link up and one frame in queue 3. -/
def mac5 : State := up.put (Reg.ETH_CTRL_EN 5) true
def linked5 : State := (mac5.put (Reg.ETH_STAT_LINK 5) true).setEthQueue 5 3 [zeros 64]

/-- ETH4's gate list of one entry, with its base a second ahead. -/
def gateAhead : State :=
  ((up.wr (Reg.ETH_GCTL_LEN 4) 1).wr (Reg.ETH_GCYCLE_CYCLE_NS 4) 1000000).wr (Reg.ETH_GBASE_SL_SEC_LO 4) 1

/-- Up, with Meridian running. -/
def running5 : State := up.put Reg.MER_STAT_RUN true

/-- The point engine with a set that it accepts; a map load under way; and the engine on, its first cycle due. -/
def pointSet : State := up
def loading : State := { up with point := { load := some { next := 0, stop := 4, first := 0, addr := 0 } } }
def cycling : State := { running5 with point := { on := true } }

/-- Its input window past the end. -/
def late5 : State := { cycling with mer := { raw := 10 ^ 12 }, point := { on := true, phase := .open_ } }

/-- Without power, one event waiting. -/
def unplugged : State := { nib := { on := false }, pending := [.railPgRise] }

/-- Requests with a wrong version, a wrong length, on handle 1 without a tag, with a NOP, and with an opcode of no row. -/
def badVer : Request := { via := .mailbox, pkt := { ver := 2 } }
def badLen : Request := { via := .mailbox, pkt := { len := 4 } }
def onHandle : Request := { via := .mailbox, pkt := { session := 1, seq := 1 } }
def nopAsk : Request := { via := .mailbox, pkt := { opcode := 0x0100 } }
def asking9 : Request := { via := .mgmt, pkt := { opcode := 0x0FF0 } }

/-- A NOP on handle 1 with its tag under the zero key, with a SEQ. -/
def tagged (seq : Nat) : Request :=
  let p : Packet := { flags := 2, opcode := 0x0100, session := 1, seq := seq, delivered := 32 }
  { via := .mailbox, pkt := { p with tag := packetTag (zeros 32) p } }

/-- PROVISIONED, without a session; and with handle 1 open in the NORMAL world. -/
def provisioned0 : State := { up with nv := { lifeCycle := 1 } }
def normal1 : State := provisioned0.setSession 1 { phase := .opened, key := zeros 32, keptReply := [1] }

/-! SHA-256 never answers the empty string. -/

theorem shaRound_length (v : List Word) (k : Word) (h : v.length = 8) : (shaRound v k).length = 8 := by
  unfold shaRound; split <;> simp_all

theorem shaFold_length (l : List Word) : ∀ v : List Word, v.length = 8 → (l.foldl shaRound v).length = 8 := by
  induction l with
  | nil => exact fun v h => h
  | cons a r ih => exact fun v h => ih _ (shaRound_length v a h)

theorem shaBlocks_length (n : Nat) : ∀ (m : Bytes) (h : List Word), h.length = 8 → (shaBlocks n m h).length = 8 := by
  induction n with
  | zero => exact fun m h e => e
  | succ n ih => exact fun m h e => ih _ _ (by simp [shaBlock, shaFold_length _ h e, e])

theorem sha256_ne_nil (m : Bytes) : sha256 m ≠ [] := by
  intro e
  let p := m ++ [0x80] ++ zeros ((55 - (m.length % 64 : Int)) % 64).toNat ++ be 8 (8 * m.length)
  have h := shaBlocks_length (p.length / 64) p shaH rfl
  simp only [sha256, List.flatten_eq_nil_iff, List.mem_map, forall_exists_index, and_imp] at e
  match hb : shaBlocks _ _ shaH, h, e with
  | a :: r, _, e => exact absurd (e _ a List.mem_cons_self rfl) (by simp [be, le])

/-- An opcode on handle 1 with its tag under the zero key, with a SEQ. -/
def taggedAs (op seq : Nat) : Request :=
  let p : Packet := { flags := 2, opcode := op, session := 1, seq := seq, delivered := 32 }
  { via := .mailbox, pkt := { p with tag := packetTag (zeros 32) p } }

/-- The row of QUE_CFGq, and a channel's sample. -/
def aRow : RegRow := ((regRow 0xD20000).map (·.1)).getD ⟨0, [], []⟩
def aSample : FuseSample := {}


theorem witness_PowerDieAndRailEvents_1 : (fun (s : State) => s.nib.on = false) (nibOnly.unpowered) := by
  beta_reduce
  decide +kernel

theorem witness_PowerDieAndRailEvents_2 : (fun (s : State) => s.nib.on = true) (up) := by
  beta_reduce
  decide +kernel

theorem witness_PowerDieAndRailEvents_3 : (fun (s : State) => s.nib.on = true ∧ s.nib.stage = .rising ∧ s.nib.rails <
    6) ({ nib := { stage := .rising, rails := 1 } }) := by
  beta_reduce
  and_intros <;> first | with_reducible rfl | decide +kernel

theorem witness_PowerDieAndRailEvents_4 : (fun (s : State) => s.nib.on = true ∧ s.nib.stage = .rising ∧ 6 ≤
    s.nib.rails) ({ nib := { stage := .rising, rails := 6 } }) := by
  beta_reduce
  and_intros <;> first | with_reducible rfl | decide +kernel

theorem witness_PowerDieAndRailEvents_5 : (fun (s : State) => s.hubOn = true) (up) := by
  beta_reduce
  decide +kernel

theorem witness_PowerDieAndRailEvents_6 : (fun (s : State) => s.nib.on = true ∧ s.nib.stage = .falling ∧ s.nib.rails ≠
    0) ({ nib := { stage := .falling, rails := 3 } }) := by
  beta_reduce
  and_intros <;> first | with_reducible rfl | decide +kernel

theorem witness_PowerDieAndRailEvents_7 : (fun (s y : State) => s.nib.on = true ∧ s.nib.stage = .falling ∧ s.nib.rails
    = 0 ∧ s.nib.after = .powerCycle ∧ (y = ((s.wr Reg.PWR_STAT_RAIL_PG (clearBit (s.rd Reg.PWR_STAT_RAIL_PG)
    0)).withNib fun n => { n with stage := .off, offMin := true }).wr Reg.PWR_STAT_SEQ 0) ∧ (y.intakeOk = true ∨
    s.nib.onTcs = true)) (({ nib := { stage := .falling, after := .powerCycle } } : State).put Reg.EFU_INTAKE_OK true)
    (((({ nib := { stage := .falling, after := .powerCycle } } : State).put Reg.EFU_INTAKE_OK true).wr
    Reg.PWR_STAT_RAIL_PG 0).withNib (fun n => { n with stage := .off, offMin := true }) |>.wr Reg.PWR_STAT_SEQ 0) :=
    by
  beta_reduce
  and_intros <;> first | with_reducible rfl | decide +kernel

theorem witness_PowerDieAndRailEvents_8 : (fun (s : State) => s.nib.on = true ∧ s.nib.stage = .off ∧ s.nib.upDue =
    true) ({ nib := { upDue := true } }) := by
  beta_reduce
  and_intros <;> first | with_reducible rfl | decide +kernel

theorem witness_PowerDieAndRailEvents_9 : (fun (s : State) => s.nib.on = true ∧ s.nib.stage = .off ∧
    s.nib.pathSettling = true) ({ nib := { pathSettling := true } }) := by
  beta_reduce
  and_intros <;> first | with_reducible rfl | decide +kernel

theorem witness_PowerDieAndRailEvents_10 : (fun (s : State) => s.nib.on = true) (up) := by
  beta_reduce
  decide +kernel

theorem witness_StartAndResetEvents_1 : (fun (s : State) (forceRec : BitVec 7) => s.nib.on = true ∧ s.nib.stage =
    .held ∧ majority forceRec = true) ({ nib := { stage := .held } }) (0x0F) := by
  beta_reduce
  and_intros <;> first | with_reducible rfl | decide +kernel

theorem witness_StartAndResetEvents_2 : (fun (s : State) => s.hubOn = true ∧ s.nib.stage = .rom ∧ (s.imagePlain
    s.fw.slot).isSome = true) (imageReady) := by
  beta_reduce
  and_intros <;> first | with_reducible rfl | decide +kernel

theorem witness_StartAndResetEvents_3 : (fun (s : State) => s.hubOn = true ∧ s.nib.stage = .rom)
    ({ nib := { stage := .rom } }) := by
  beta_reduce
  and_intros <;> first | with_reducible rfl | decide +kernel

theorem witness_StartAndResetEvents_4 : (fun (s : State) => s.hubOn = true ∧ s.nib.stage = .scribe)
    ({ nib := { stage := .scribe } }) := by
  beta_reduce
  and_intros <;> first | with_reducible rfl | decide +kernel

theorem witness_StartAndResetEvents_5 : (fun (s : State) => s.hubOn = true) (up) := by
  beta_reduce
  decide +kernel

theorem witness_StartAndResetEvents_6 : (fun (s : State) => s.hubOn = true ∧ s.serving = true ∧ s.mode ≠ 0 ∧
    s.nib.watchdogAt = none) (up) := by
  beta_reduce
  and_intros <;> first | with_reducible rfl | decide +kernel

theorem witness_StartAndResetEvents_7 : (fun (s : State) (t : Nat) => s.hubOn = true ∧ s.nib.watchdogAt = some t ∧
    s.mer.raw ≤ t + 10 * rawSecond) ({ nib := { stage := .up, watchdogAt := some 0 } }) (0) := by
  beta_reduce
  and_intros <;> first | with_reducible rfl | decide +kernel

theorem witness_StartAndResetEvents_8 : (fun (s : State) (u : Fin 9) => s.hubOn = true ∧ u ≠ 0) (up) (3) := by
  beta_reduce
  and_intros <;> first | with_reducible rfl | decide +kernel

theorem witness_StartAndResetEvents_9 : (fun (s : State) => s.hubOn = true) (up) := by
  beta_reduce
  decide +kernel

theorem witness_StartAndResetEvents_10 : (fun (s : State) => s.hubOn = true) (up) := by
  beta_reduce
  decide +kernel

theorem witness_StartAndResetEvents_11 : (fun (s : State) (m : Fin 8) => s.hubOn = true ∧ m ≠ 5) (up) (2) := by
  beta_reduce
  and_intros <;> first | with_reducible rfl | decide +kernel

theorem witness_StartAndResetEvents_12 : (fun (s : State) (v : Transport) (l : List Waiting) => s.hubOn = true ∧
    s.cmd.waiting = { via := v, act := .reset 0, handed := true } :: l)
    ({ up with cmd := { waiting := [{ via := .mgmt, act := .reset 0, handed := true }] } }) (.mgmt) ([]) := by
  beta_reduce
  and_intros <;> first | with_reducible rfl | decide +kernel

theorem witness_StartAndResetEvents_13 : (fun (s : State) (v : Transport) (l : List Waiting) => s.hubOn = true ∧
    s.cmd.waiting = { via := v, act := .reset 1, handed := true } :: l)
    ({ up with cmd := { waiting := [{ via := .mgmt, act := .reset 1, handed := true }] } }) (.mgmt) ([]) := by
  beta_reduce
  and_intros <;> first | with_reducible rfl | decide +kernel

theorem witness_StartAndResetEvents_14 : (fun (s : State) => s.hubOn = true ∧ s.nib.stage = .scribe)
    ({ nib := { stage := .scribe } }) := by
  beta_reduce
  and_intros <;> first | with_reducible rfl | decide +kernel

theorem witness_IntakeWakeAndThermalEvents_1 : (fun (s w a b : State) (vin : Nat) (reason : Fin 3) => s.nib.on = true
    ∧ s.intakeOk = true ∧ s.nib.stage ≠ .off ∧ s.nib.stage ≠ .falling ∧ s.nib.onTcs = false ∧ w = (s.intakeWindow
    false vin reason).put Reg.SYS_MODE_INTAKE_OK false ∧ (a = if w.tcsLevel then w.tcsSource true else w) ∧ (b =
    ((a.abortEntry 0xFF).recordCause 0x0A).withNib fun n => { n with standbyCmd := false })) (fed) ((fed.intakeWindow
    false 900 1).put Reg.SYS_MODE_INTAKE_OK false) ((fed.intakeWindow false 900 1).put Reg.SYS_MODE_INTAKE_OK false)
    (((((fed.intakeWindow false 900 1).put Reg.SYS_MODE_INTAKE_OK false).abortEntry 0xFF).recordCause 0x0A).withNib
    fun n => { n with standbyCmd := false }) (900) (1) := by
  beta_reduce
  and_intros <;> first | with_reducible rfl | decide +kernel

theorem witness_IntakeWakeAndThermalEvents_2 : (fun (s a : State) (vin : Nat) => s.nib.on = true ∧ s.intakeOk = false
    ∧ a = ((s.intakeWindow true vin 0).put Reg.SYS_MODE_INTAKE_OK s.hubOn).tcsSource false ∧ a.nib.onTcs = false ∧
    a.nib.stage = .off ∧ a.nib.startDue = false ∧ a.nib.upDue = false ∧ a.nib.thermalHold = false ∧ a.wakeEnabled 1 3
    = true) (stby) (((stby.intakeWindow true 1200 0).put Reg.SYS_MODE_INTAKE_OK stby.hubOn).tcsSource false) (1200) :=
    by
  beta_reduce
  and_intros <;> first | with_reducible rfl | decide +kernel

theorem witness_IntakeWakeAndThermalEvents_3 : (fun (s : State) => s.nib.on = true ∧ s.intakeOk = false) (stby) := by
  beta_reduce
  and_intros <;> first | with_reducible rfl | decide +kernel

theorem witness_IntakeWakeAndThermalEvents_4 : (fun (s : State) => s.nib.on = true) (up) := by
  beta_reduce
  decide +kernel

theorem witness_IntakeWakeAndThermalEvents_5 : (fun (s : State) (b : Fin 14) => s.nib.on = true ∧ 2 ≤ b ∧ s.nib.stage
    = .off ∧ s.intakeOk = true ∧ s.wakeEnabled 1 b = true ∧ s.nib.thermalHold = false ∧ s.nib.upDue = false ∧
    s.nib.startDue = false) (stbyOn) (2) := by
  beta_reduce
  and_intros <;> first | with_reducible rfl | decide +kernel

theorem witness_IntakeWakeAndThermalEvents_6 : (fun (s : State) => s.nib.on = true ∧ s.nib.stage = .off ∧ s.rd
    Reg.PWR_ALARM_SECONDS ≠ 0 ∧ s.intakeOk = true ∧ s.wakeEnabled 1 2 = true ∧ s.nib.thermalHold = false ∧ s.nib.upDue
    = false ∧ s.nib.startDue = false) (stbyOn) := by
  beta_reduce
  and_intros <;> first | with_reducible rfl | decide +kernel

theorem witness_IntakeWakeAndThermalEvents_7 : (fun (s a : State) (tj : BitVec 8) => s.hubOn = true ∧ a = s.tempRead
    tj ∧ tj.toInt > a.warnLevel ∧ a.nib.warnArmed = true) (up) (up.tempRead 0x7F) (0x7F) := by
  beta_reduce
  and_intros <;> first | with_reducible rfl | decide +kernel

theorem witness_IntakeWakeAndThermalEvents_8 : (fun (s a : State) (tj : BitVec 8) => s.hubOn = true ∧ a = s.tempRead
    tj ∧ 125 ≤ tj.toInt ∧ a.flag Reg.CLK_TEMP_THROTTLE_EN = true ∧ a.flag Reg.CLK_OP_THROTTLE = false) (up)
    (up.tempRead 0x7F) (0x7F) := by
  beta_reduce
  and_intros <;> first | with_reducible rfl | decide +kernel

theorem witness_IntakeWakeAndThermalEvents_9 : (fun (s a : State) (tj : BitVec 8) => s.hubOn = true ∧ a = s.tempRead
    tj ∧ tj.toInt < 120 ∧ a.flag Reg.CLK_OP_THROTTLE = true) (up.put Reg.CLK_OP_THROTTLE true) ((up.put
    Reg.CLK_OP_THROTTLE true).tempRead 0x20) (0x20) := by
  beta_reduce
  and_intros <;> first | with_reducible rfl | decide +kernel

theorem witness_IntakeWakeAndThermalEvents_10 : (fun (s : State) => s.nib.on = true ∧ s.nib.stage ≠ .off ∧ s.nib.stage
    ≠ .falling) (up) := by
  beta_reduce
  and_intros <;> first | with_reducible rfl | decide +kernel

theorem witness_IntakeWakeAndThermalEvents_11 : (fun (s : State) (tj : BitVec 8) => s.nib.on = true ∧ s.nib.stage =
    .off ∧ s.nib.thermalHold = true ∧ tj.toInt < 105) ({ nib := { thermalHold := true } }) (0x20) := by
  beta_reduce
  and_intros <;> first | with_reducible rfl | decide +kernel

theorem witness_ModeSequencerEvents_1 : (fun (s : State) => s.hubOn = true ∧ s.rd Reg.CLK_OP_STEP = 1 ∧ s.flag
    Reg.CLK_VR_IF = true) ((up.wr Reg.CLK_OP_STEP 1).put Reg.CLK_VR_IF true) := by
  beta_reduce
  and_intros <;> first | with_reducible rfl | decide +kernel

theorem witness_ModeSequencerEvents_2 : (fun (s : State) => s.hubOn = true) (up) := by
  beta_reduce
  decide +kernel

theorem witness_ModeSequencerEvents_3 : (fun (s : State) (m : Mode) => s.hubOn = true ∧ s.nib.seq = .ask m ∧
    s.notReady m.code = []) ({ up with nib := { stage := .up, seq := .ask .idle } }) (.idle) := by
  beta_reduce
  and_intros <;> first | with_reducible rfl | decide +kernel

theorem witness_ModeSequencerEvents_4 : (fun (s : State) (m : Mode) (u : Nat) (l : List Nat) => s.hubOn = true ∧
    s.nib.seq = .ask m ∧ s.notReady m.code = u :: l)
    ({ up with nib := { stage := .up, seq := .ask .idle },
               point := { load := some { next := 0, stop := 1, first := 0, addr := 0 } } }) (.idle) (0x50) ([]) := by
  beta_reduce
  and_intros <;> first | with_reducible rfl | decide +kernel

theorem witness_ModeSequencerEvents_5 : (fun (s a : State) (m : Mode) => s.hubOn = true ∧ s.nib.seq = .drain m ∧
    s.outputsEmpty = true ∧ (a = [0, 1].foldl (fun (s : State) t => if s.flag (Reg.TLK_CTRL_ENABLED t) then
    s.trunkEnterDark t else s) s) ∧ a.pmePorts = 0) ({ up with nib := { stage := .up, seq := .drain .idle } })
    ({ up with nib := { stage := .up, seq := .drain .idle } }) (.idle) := by
  beta_reduce
  and_intros <;> first | with_reducible rfl | decide +kernel

theorem witness_ModeSequencerEvents_6 : (fun (s : State) (m : Mode) (k : Nat) (port : Fin 2) => s.hubOn = true ∧
    s.nib.seq = .pmeWait m k ∧ bit k port = true ∧ clearBit k port = 0)
    ({ up with nib := { stage := .up, seq := .pmeWait .idle 1 } }) (.idle) (1) (0) := by
  beta_reduce
  and_intros <;> first | with_reducible rfl | decide +kernel

theorem witness_ModeSequencerEvents_7 : (fun (s : State) (c : Nat) => s.hubOn = true ∧ s.nib.seq = .trunks c ∧
    s.trunkLow 0 = false ∧ s.trunkLow 1 = false ∧ s.flag Reg.SYS_MODE_DEGR = false)
    ({ up with nib := { stage := .up, seq := .trunks 4 } }) (4) := by
  beta_reduce
  and_intros <;> first | with_reducible rfl | decide +kernel

theorem witness_ModeSequencerEvents_8 : (fun (s a : State) (v : Transport) (l : List Waiting) (trk efu tcp units :
    Nat) => s.hubOn = true ∧ s.cmd.waiting = { via := v, act := .serviceEnter trk efu tcp units, handed := true } :: l
    ∧ (a = s.withCmd fun c => { c with waiting := l }))
    ({ up with cmd := { waiting := [{ via := .mgmt, act := .serviceEnter 1 0 0 0, handed := true }] } }) (up) (.mgmt)
    ([]) (1) (0) (0) (0) := by
  beta_reduce
  and_intros <;> first | with_reducible rfl | decide +kernel

theorem witness_ModeSequencerEvents_9 : (fun (s : State) => s.hubOn = true ∧ s.nib.seq = .serviceExit ∧ s.flag
    Reg.SYS_MODE_DEGR = true) (({ nib := { stage := .up, seq := .serviceExit } } : State).put Reg.SYS_MODE_DEGR true)
    := by
  beta_reduce
  and_intros <;> first | with_reducible rfl | decide +kernel

theorem witness_ModeAndPowerCommands_1 : (fun (s u : State) (r : Request) => s.passes 0x0102 r = true ∧ u = s.begun
    0x0102 r ∧ 4 ≤ r.pkt.params.length ∧ leAt r.pkt.params 0 1 = 3 ∧ u.flag Reg.SYS_MODE_TRANS = false ∧ u.mode = 2)
    (inIdle) ((inIdle.begun 0x0102 (ask [3, 0, 0, 0]))) (ask [3, 0, 0, 0]) := by
  beta_reduce
  and_intros <;> first | with_reducible rfl | decide +kernel

theorem witness_ModeAndPowerCommands_2 : (fun (s u : State) (r : Request) => s.passes 0x0102 r = true ∧ u = s.begun
    0x0102 r ∧ 4 ≤ r.pkt.params.length ∧ leAt r.pkt.params 0 1 = 1 ∧ u.flag Reg.SYS_MODE_TRANS = false) (up)
    ((up.begun 0x0102 (ask [1, 0, 0, 0]))) (ask [1, 0, 0, 0]) := by
  beta_reduce
  and_intros <;> first | with_reducible rfl | decide +kernel

theorem witness_ModeAndPowerCommands_3 : (fun (s u : State) (r : Request) => s.passes 0x0102 r = true ∧ u = s.begun
    0x0102 r ∧ 4 ≤ r.pkt.params.length ∧ leAt r.pkt.params 0 1 = 2 ∧ u.flag Reg.SYS_MODE_TRANS = false ∧ u.mode ≠ 2)
    (up) ((up.begun 0x0102 (ask [2, 0, 0, 0]))) (ask [2, 0, 0, 0]) := by
  beta_reduce
  and_intros <;> first | with_reducible rfl | decide +kernel

theorem witness_ModeAndPowerCommands_4 : (fun (s u : State) (r : Request) => s.passes 0x0103 r = true ∧ u = s.begun
    0x0103 r ∧ 4 ≤ r.pkt.params.length ∧ (unitBit u.isRoot (leAt r.pkt.params 0 1)).isSome = true ∧ leAt r.pkt.params
    0 1 ∉ u.nib.mappedOut) (up) ((up.begun 0x0103 (ask [0x50, 0, 0, 0]))) (ask [0x50, 0, 0, 0]) := by
  beta_reduce
  and_intros <;> first | with_reducible rfl | decide +kernel

theorem witness_ModeAndPowerCommands_5 : (fun (s u : State) (r : Request) => s.passes 0x0103 r = true ∧ u = s.begun
    0x0103 r ∧ 4 ≤ r.pkt.params.length ∧ (unitBit u.isRoot (leAt r.pkt.params 0 1)).isSome = true ∧ leAt r.pkt.params
    0 1 ∈ u.nib.mappedOut) (mapped) ((mapped.begun 0x0103 (ask [0x50, 0, 0, 0]))) (ask [0x50, 0, 0, 0]) := by
  beta_reduce
  and_intros <;> first | with_reducible rfl | decide +kernel

theorem witness_ModeAndPowerCommands_6 : (fun (s u : State) (r : Request) => s.passes 0x0104 r = true ∧ u = s.begun
    0x0104 r ∧ 4 ≤ r.pkt.params.length ∧ (unitBit u.isRoot (leAt r.pkt.params 0 1)).isSome = true ∧ leAt r.pkt.params
    0 1 ∈ u.nib.mappedOut ∧ u.cmd.jobs.length < 2) (mapped) ((mapped.begun 0x0104 (ask [0x50, 0, 0, 0]))) (ask [0x50,
    0, 0, 0]) := by
  beta_reduce
  and_intros <;> first | with_reducible rfl | decide +kernel

theorem witness_ModeAndPowerCommands_7 : (fun (s u : State) (r : Request) => s.passes 0x0905 r = true ∧ u = s.begun
    0x0905 r ∧ 4 ≤ r.pkt.params.length ∧ (unitBit u.isRoot (leAt r.pkt.params 0 1)).isSome = true ∧ u.unitOut (leAt
    r.pkt.params 0 1) = true ∧ u.cmd.jobs.length < 2) (mapped) ((mapped.begun 0x0905 (ask [0x50, 0, 0, 0]))) (ask
    [0x50, 0, 0, 0]) := by
  beta_reduce
  and_intros <;> first | with_reducible rfl | decide +kernel

theorem witness_ModeAndPowerCommands_8 : (fun (s u : State) (r : Request) => s.passes 0x0105 r = true ∧ u = s.begun
    0x0105 r ∧ 4 ≤ r.pkt.params.length ∧ leAt r.pkt.params 0 1 ≤ 1) (up) ((up.begun 0x0105 (ask [1, 0, 0, 0]))) (ask
    [1, 0, 0, 0]) := by
  beta_reduce
  and_intros <;> first | with_reducible rfl | decide +kernel

theorem witness_ModeAndPowerCommands_9 : (fun (s u : State) (r : Request) (v : State) => s.passes 0x0800 r = true ∧ u
    = s.begun 0x0800 r ∧ 4 ≤ r.pkt.params.length ∧ leAt r.pkt.params 0 1 ≤ 2 ∧ v = (u.wr Reg.CLK_OP_TARGET (leAt
    r.pkt.params 0 1)).opChange 0 ∧ v.rd Reg.CLK_OP_STEP ≠ 0) (unforced) ((unforced.begun 0x0800 (ask [0, 0, 0, 0])))
    (ask [0, 0, 0, 0]) ((((unforced.begun 0x0800 (ask [0, 0, 0, 0])).wr Reg.CLK_OP_TARGET 0).opChange 0)) := by
  beta_reduce
  and_intros <;> first | with_reducible rfl | decide +kernel

theorem witness_ModeAndPowerCommands_10 : (fun (s u : State) (r : Request) (v : State) => s.passes 0x0800 r = true ∧ u
    = s.begun 0x0800 r ∧ 4 ≤ r.pkt.params.length ∧ leAt r.pkt.params 0 1 ≤ 2 ∧ v = (u.wr Reg.CLK_OP_TARGET (leAt
    r.pkt.params 0 1)).opChange 0 ∧ v.rd Reg.CLK_OP_STEP = 0) (up) ((up.begun 0x0800 (ask [2, 0, 0, 0]))) (ask [2, 0,
    0, 0]) ((((up.begun 0x0800 (ask [2, 0, 0, 0])).wr Reg.CLK_OP_TARGET 2).opChange 0)) := by
  beta_reduce
  and_intros <;> first | with_reducible rfl | decide +kernel

theorem witness_ModeAndPowerCommands_11 : (fun (s u : State) (r : Request) => s.passes 0x0801 r = true ∧ u = s.begun
    0x0801 r) (up) ((up.begun 0x0801 (ask []))) (ask []) := by
  beta_reduce
  and_intros <;> first | with_reducible rfl | decide +kernel

theorem witness_ModeAndPowerCommands_12 : (fun (s u : State) (r : Request) => s.passes 0x0802 r = true ∧ u = s.begun
    0x0802 r ∧ 8 ≤ r.pkt.params.length ∧ (∀ k, k ∈ [6, 7, 14, 15] → bit (leAt r.pkt.params 0 2) k = false ∧ bit (leAt
    r.pkt.params 2 2) k = false)) (up) ((up.begun 0x0802 (ask [4, 0, 1, 0, 9, 0, 0, 0]))) (ask [4, 0, 1, 0, 9, 0, 0,
    0]) := by
  beta_reduce
  and_intros <;> first | with_reducible rfl | decide +kernel

theorem witness_ModeAndPowerCommands_13 : (fun (s u : State) (r : Request) (trk efu tcp units : Nat) => s.passes
    0x0900 r = true ∧ u = s.begun 0x0900 r ∧ 8 ≤ r.pkt.params.length ∧ trk = leAt r.pkt.params 0 1 ∧ efu = leAt
    r.pkt.params 1 1 ∧ tcp = leAt r.pkt.params 2 1 ∧ leAt r.pkt.params 3 1 = 0 ∧ units = leAt r.pkt.params 4 4 ∧ (trk
    ≠ 0 ∨ efu ≠ 0 ∨ tcp ≠ 0 ∨ units ≠ 0) ∧ bit efu 0 = false ∧ trk ≤ 3 ∧ tcp ≤ 15 ∧ units < 2 ^ 19 ∧ (u.isRoot = true
    → bits units 1 0 = 0) ∧ u.flag Reg.SYS_MODE_TRANS = false ∧ (u.mode = 3 ∨ u.mode = 4)) (up) ((up.begun 0x0900 (ask
    [1, 2, 0, 0, 0, 0, 0, 0]))) (ask [1, 2, 0, 0, 0, 0, 0, 0]) (1) (2) (0) (0) := by
  beta_reduce
  and_intros <;> first | with_reducible rfl | decide +kernel

theorem witness_ModeAndPowerCommands_14 : (fun (s u : State) (r : Request) => s.passes 0x0901 r = true ∧ u = s.begun
    0x0901 r ∧ u.flag Reg.SYS_MODE_TRANS = false ∧ u.mode = 5) (inService) ((inService.begun 0x0901 (ask []))) (ask
    []) := by
  beta_reduce
  and_intros <;> first | with_reducible rfl | decide +kernel

theorem witness_TransportEvents_1 : (fun (s : State) => s.hubOn = true ∧ s.cmd.mbxBusy = true)
    ({ up with cmd := { mbxBusy := true } }) := by
  beta_reduce
  and_intros <;> first | with_reducible rfl | decide +kernel

theorem witness_TransportEvents_2 : (fun (s a : State) (e : Bool) => s.hubOn = true ∧ s.cmd.mbxBusy = false ∧ s.isRoot
    = false ∧ (a = s.withCmd fun c => { c with mbxIrqEn := e, mbxBusy := true, mbxDone := false, mbxReplyLen := 0 }))
    (up) (up.withCmd fun c => { c with mbxIrqEn := true, mbxBusy := true, mbxDone := false, mbxReplyLen := 0 }) (true)
    := by
  beta_reduce
  and_intros <;> first | with_reducible rfl | decide +kernel

theorem witness_TransportEvents_3 : (fun (s : State) (p : Nat) (r : Request) => s.hubOn = true ∧ s.cmd.relay = some
    (p, r)) ({ up with cmd := { relay := some (1, ask []) } }) (1) (ask []) := by
  beta_reduce
  and_intros <;> first | with_reducible rfl | decide +kernel

theorem witness_TransportEvents_4 : (fun (s : State) (p : Fin 33) (r : Request) (b : Bytes) => s.hubOn = true ∧
    s.cmd.relay = some (p.val, r) ∧ (parsePacket b).seq = r.pkt.seq ∧ (parsePacket b).opcode = r.pkt.opcode)
    ({ up with cmd := { relay := some (1, ask []) } }) (1) (ask []) ([]) := by
  beta_reduce
  and_intros <;> first | with_reducible rfl | decide +kernel

theorem witness_TransportEvents_5 : (fun (s a : State) (f : MgmtFrame) => a = s.mgmtStart f.addr ∧ a.mgmtAddressed
    f.addr = true ∧ f.byte = 0xA1 ∧ a.serving = true ∧ a.cmd.mgmtBusy = false) (up) (up.mgmtStart 0x5A)
    ({ byte := 0xA1 }) := by
  beta_reduce
  and_intros <;> first | with_reducible rfl | decide +kernel

theorem witness_TransportEvents_6 : (fun (s a : State) (f : MgmtFrame) => a = s.mgmtStart f.addr ∧ a.mgmtAddressed
    f.addr = true ∧ f.byte = 0xA1 ∧ a.serving = true ∧ a.cmd.mgmtBusy = true)
    ({ up with cmd := { mgmtBusy := true } }) (({ up with cmd := { mgmtBusy := true } } : State).mgmtStart 0x5A)
    ({ byte := 0xA1 }) := by
  beta_reduce
  and_intros <;> first | with_reducible rfl | decide +kernel

theorem witness_TransportEvents_7 : (fun (s a : State) (f : MgmtFrame) => a = s.mgmtStart f.addr ∧ a.mgmtAddressed
    f.addr = true ∧ a.hubOn = true ∧ f.byte ≠ 0xA1 ∧ f.byte ≠ 0xA2 ∧ f.byte ≠ 0xA3) (up) (up.mgmtStart 0x5A)
    ({ byte := 0 }) := by
  beta_reduce
  and_intros <;> first | with_reducible rfl | decide +kernel

theorem witness_TransportEvents_8 : (fun (s a : State) (f : MgmtFrame) => a = s.mgmtStart f.addr ∧ a.mgmtAddressed
    f.addr = false) ({ up with pins := { mgmtI2c := true } }) (({ up with pins := { mgmtI2c := true } } :
    State).mgmtStart 0x10) ({ addr := 0x10, byte := 0 }) := by
  beta_reduce
  and_intros <;> first | with_reducible rfl | decide +kernel

theorem witness_TransportEvents_9 : (fun (s a : State) (b : Bytes) (n : MgmtRead) => a = s.mgmtStart n.addr ∧
    a.mgmtAddressed n.addr = true ∧ a.mgmtAnswers = true ∧ a.hubOn = true ∧ a.cmd.mgmtReply = some b ∧ b.length ≤
    n.count) ({ up with cmd := { mgmtReply := some [1] } }) (({ up with cmd := { mgmtReply := some [1] } } :
    State).mgmtStart 0x5A) ([1]) ({ count := 20 }) := by
  beta_reduce
  and_intros <;> first | with_reducible rfl | decide +kernel

theorem witness_TransportEvents_10 : (fun (s a : State) (n : MgmtRead) => a = s.mgmtStart n.addr ∧ a.mgmtAddressed
    n.addr = true ∧ a.mgmtAnswers = true ∧ a.hubOn = true ∧ a.cmd.mgmtReply = none) (up) (up.mgmtStart 0x5A)
    ({ count := 4 }) := by
  beta_reduce
  and_intros <;> first | with_reducible rfl | decide +kernel

theorem witness_TransportEvents_11 : (fun (s a : State) => a = s.mgmtStart (BitVec.ofNat 7 (s.setting 0x0005)) ∧
    a.serving = true) (up) (up.mgmtStart (BitVec.ofNat 7 (up.setting 0x0005))) := by
  beta_reduce
  and_intros <;> first | with_reducible rfl | decide +kernel

theorem witness_TransportEvents_12 : (fun (s a : State) => a = s.mgmtStart (BitVec.ofNat 7 (s.setting 0x0005)) ∧
    a.serving = false ∧ a.pins.mgmtI2c = false) (nibOnly) (nibOnly.mgmtStart (BitVec.ofNat 7 (nibOnly.setting
    0x0005))) := by
  beta_reduce
  and_intros <;> first | with_reducible rfl | decide +kernel

theorem witness_TransportEvents_13 : (fun (s a : State) => a = s.mgmtStart (BitVec.ofNat 7 (s.setting 0x0005)) ∧
    a.serving = false ∧ a.pins.mgmtI2c = true) ({ nibOnly with pins := { mgmtI2c := true } })
    (({ nibOnly with pins := { mgmtI2c := true } } : State).mgmtStart (BitVec.ofNat 7
    (({ nibOnly with pins := { mgmtI2c := true } } : State).setting 0x0005))) := by
  beta_reduce
  and_intros <;> first | with_reducible rfl | decide +kernel

theorem witness_TransportEvents_14 : (fun (s : State) => s.hubOn = true) (up) := by
  beta_reduce
  decide +kernel

theorem witness_TransportEvents_15 : (fun (s : State) => s.serving = true ∧ s.usbsServes 0x01 = true ∧ s.cmd.usbsReply
    = none ∧ s.cmd.usbsBusy = false) (up.wr Reg.USBS_STAT_STATE 4) := by
  beta_reduce
  and_intros <;> first | with_reducible rfl | decide +kernel

theorem witness_TransportEvents_16 : (fun (s : State) => s.serving = true ∧ s.usbsServes 0x01 = true ∧
    s.cmd.usbsReply.isSome = true) (({ up with cmd := { usbsReply := some [] } } : State).wr Reg.USBS_STAT_STATE 4) :=
    by
  beta_reduce
  and_intros <;> first | with_reducible rfl | decide +kernel

theorem witness_TransportEvents_17 : (fun (s : State) (b : Bytes) => s.hubOn = true ∧ s.usbsServes 0x82 = true ∧
    s.cmd.usbsReply = some b ∧ s.cmd.usbsHeld = none) (({ up with cmd := { usbsReply := some [] } } : State).wr
    Reg.USBS_STAT_STATE 4) ([]) := by
  beta_reduce
  and_intros <;> first | with_reducible rfl | decide +kernel

theorem witness_TransportEvents_18 : (fun (s : State) => s.hubOn = true) (up) := by
  beta_reduce
  decide +kernel

theorem witness_TransportEvents_19 : (fun (s : State) => s.hubOn = true) (up) := by
  beta_reduce
  decide +kernel

theorem witness_SessionTimersAndJobs_1 : (fun (s : State) (h : Fin 9) => s.hubOn = true ∧ (s.session h).phase =
    .halfOpen) (up.setSession 1 { phase := .halfOpen }) (1) := by
  beta_reduce
  and_intros <;> first | with_reducible rfl | decide +kernel

theorem witness_SessionTimersAndJobs_2 : (fun (s : State) (h : Fin 9) => s.hubOn = true ∧ (s.session h).phase =
    .opened ∧ s.setting 0x0004 ≠ 0) (up.setSession 1 { phase := .opened }) (1) := by
  beta_reduce
  and_intros <;> first | with_reducible rfl | decide +kernel

theorem witness_SessionTimersAndJobs_3 : (fun (s a : State) (d : Derivation) (salt v : Bytes) => s.hubOn = true ∧
    s.cmd.derivation = some d ∧ s.nv.password = some (salt, v) ∧ sha256 (pbkdf2 d.password salt) ≠ v ∧ a =
    { s with cmd := { s.cmd with derivation := none },
             nib := { s.nib with wrongPasswords := s.nib.wrongPasswords + 1, lockout := true } }) (deriving_)
    ({ deriving_ with cmd := { deriving_.cmd with derivation := none },
                      nib := { deriving_.nib with wrongPasswords := 1, lockout := true } })
    ({ req := ask [], nc := [], password := [] }) ([]) ([]) := by
  beta_reduce
  and_intros
  · decide +kernel
  · decide +kernel
  · decide +kernel
  · exact sha256_ne_nil _
  · decide +kernel

theorem witness_SessionTimersAndJobs_4 : (fun (s : State) => s.nib.on = true) (up) := by
  beta_reduce
  decide +kernel

theorem witness_SessionTimersAndJobs_5 : (fun (s : State) (j : Job) (g : Bool) => s.hubOn = true ∧ (s.cmd.jobs.find?
    (fun k => k.num == j.num) = some j) ∧ s.jobMayEnd j = true ∧ (s.jobEffect j g).1.cmd.restarting = false)
    ({ up with cmd := { jobs := [{ num := 1, opcode := 0x0905, kind := .selftest 0x50 }] } })
    ({ num := 1, opcode := 0x0905, kind := .selftest 0x50 }) (true) := by
  beta_reduce
  and_intros <;> first | with_reducible rfl | decide +kernel

theorem witness_SessionTimersAndJobs_6 : (fun (s : State) (c : Fin 3) => s.serving = true ∧ s.mode ≠ 0 ∧ c ≠ 0) (up)
    (1) := by
  beta_reduce
  and_intros <;> first | with_reducible rfl | decide +kernel

theorem witness_SessionTimersAndJobs_7 : (fun (s a : State) (ms c k : Nat) (b : Bytes) => s.hubOn = true ∧
    s.fw.restart = some (c, k) ∧ s.imagePlain k = some b ∧ (a = (((((s.runImage k (s.slotState k == 3) b).withFw fun f
    => { f with restart := none }).withCmd fun c => { c with restarting := false }).bump Reg.FWU_RESTART_COUNT).wr
    Reg.FWU_RESTART_DUR_MS (min ms 0xFFFF)))) (restarting_) ((((restarting_.runImage 0 (restarting_.slotState 0 == 3)
    (zeros 16)).withFw fun f => { f with restart := none }).withCmd fun c => { c with restarting := false }).bump
    Reg.FWU_RESTART_COUNT |>.wr Reg.FWU_RESTART_DUR_MS (min 5 0xFFFF)) (5) (1) (0) (zeros 16) := by
  beta_reduce
  and_intros <;> first | with_reducible rfl | decide +kernel

theorem witness_SessionTimersAndJobs_8 : (fun (s : State) (c k : Nat) => s.hubOn = true ∧ s.fw.restart = some (c, k) ∧
    s.imagePlain k = none) ({ up with fw := { restart := some (1, 0) } }) (1) (0) := by
  beta_reduce
  and_intros <;> first | with_reducible rfl | decide +kernel

theorem witness_SessionTimersAndJobs_9 : (fun (s : State) (k : Fin 6) (b : Bytes) => s.hubOn = true ∧
    (s.fw.waiting.find? (fun e => e.1 == k.val) = some (k.val, b))) ({ up with fw := { waiting := [(2, [1])] } }) (2)
    ([1]) := by
  beta_reduce
  and_intros <;> first | with_reducible rfl | decide +kernel

theorem witness_SessionTimersAndJobs_10 : (fun (s : State) => s.hubOn = true ∧ s.tun.assignDue = false) (up) := by
  beta_reduce
  and_intros <;> first | with_reducible rfl | decide +kernel

theorem witness_SessionCommands_1 : (fun (s u : State) (r : Request) => s.passes 0x0100 r = true ∧ u = s.begun 0x0100
    r) (up) ((up.begun 0x0100 (ask [1, 2]))) (ask [1, 2]) := by
  beta_reduce
  and_intros <;> first | with_reducible rfl | decide +kernel

theorem witness_SessionCommands_2 : (fun (s u : State) (r : Request) => s.passes 0x0101 r = true ∧ u = s.begun 0x0101
    r) (up) ((up.begun 0x0101 (ask []))) (ask []) := by
  beta_reduce
  and_intros <;> first | with_reducible rfl | decide +kernel

theorem witness_SessionCommands_3 : (fun (s u : State) (r : Request) (j : Job) => s.passes 0x0106 r = true ∧ u =
    s.begun 0x0106 r ∧ 4 ≤ r.pkt.params.length ∧ (u.cmd.jobs.find? (fun k => k.num == leAt r.pkt.params 0 1) = some
    j)) (withJob) ((withJob.begun 0x0106 (ask [1, 0, 0, 0]))) (ask [1, 0, 0, 0])
    ({ num := 1, opcode := 0x0905, kind := .selftest 0x50 }) := by
  beta_reduce
  and_intros <;> first | with_reducible rfl | decide +kernel

theorem witness_SessionCommands_4 : (fun (s u : State) (r : Request) (k : KeySlot) (h : Nat) => s.passes 0x0200 r =
    true ∧ u = s.begun 0x0200 r ∧ 20 ≤ r.pkt.params.length ∧ leAt r.pkt.params 0 1 ≤ 63 ∧ leAt r.pkt.params 1 1 ≤ 1 ∧
    u.keyFor (leAt r.pkt.params 0 1) 0 (masterBit r.via) (leAt r.pkt.params 1 1) = .ok k ∧ u.freeHandle = some h ∧
    u.ink.drbgBad = false) (keyed) ((keyed.begun 0x0200 (ask (zeros 20)))) (ask (zeros 20))
    ({ key := zeros 32, attr := 0xFFFFFF }) (1) := by
  beta_reduce
  and_intros <;> first | with_reducible rfl | decide +kernel

theorem witness_SessionCommands_5 : (fun (s u : State) (r : Request) (h : Nat) (x : Session) => s.passes 0x0201 r =
    true ∧ u = s.begun 0x0201 r ∧ h = r.pkt.session ∧ x = u.session h ∧ h ∈ handles ∧ x.phase = .halfOpen ∧ x.via =
    r.via ∧ r.pkt.params.take 32 = hmac x.slotKey (ascii "GXHOST" ++ x.nd ++ x.nc ++ [byte h])) (proving)
    ((proving.begun 0x0201 proof)) (proof) (1) (proving.session 1) := by
  beta_reduce
  and_intros <;> first | with_reducible rfl | decide +kernel

theorem witness_SessionCommands_6 : (fun (s u : State) (r : Request) (h : Nat) (x : Session) => s.passes 0x0201 r =
    true ∧ u = s.begun 0x0201 r ∧ h = r.pkt.session ∧ x = u.session h ∧ h ∈ handles ∧ x.phase = .halfOpen ∧ x.via =
    r.via ∧ r.pkt.params.take 32 ≠ hmac x.slotKey (ascii "GXHOST" ++ x.nd ++ x.nc ++ [byte h])) (proving)
    ((proving.begun 0x0201 badProof)) (badProof) (1) (proving.session 1) := by
  beta_reduce
  and_intros <;> first | with_reducible rfl | decide +kernel

theorem witness_SessionCommands_7 : (fun (s u : State) (r : Request) (n h : Nat) => s.passes 0x0202 r = true ∧ u =
    s.begun 0x0202 r ∧ r.via = .usbs ∧ u.nv.password.isSome = true ∧ u.nv.pwPartial = false ∧ n = leAt r.pkt.params 16
    1 ∧ 1 ≤ n ∧ n ≤ 64 ∧ r.pkt.params.length = 17 + n ∧ u.nib.lockout = false ∧ u.freeHandle = some h ∧ u.ink.drbgBad
    = false ∧ u.cmd.derivation = none) (withPw) ((withPw.begun 0x0202 pwAsk)) (pwAsk) (1) (1) := by
  beta_reduce
  and_intros <;> first | with_reducible rfl | decide +kernel

theorem witness_SessionCommands_8 : (fun (s u : State) (r : Request) (h : Nat) => s.passes 0x0203 r = true ∧ u =
    s.begun 0x0203 r ∧ 4 ≤ r.pkt.params.length ∧ h = leAt r.pkt.params 0 1 ∧ h ∈ handles ∧ (u.session h).phase ≠ .free
    ∧ (u.session h).via = r.via) (halfOpened) ((halfOpened.begun 0x0203 (ask [1, 0, 0, 0]))) (ask [1, 0, 0, 0]) (1) :=
    by
  beta_reduce
  and_intros <;> first | with_reducible rfl | decide +kernel

theorem witness_SessionCommands_9 : (fun (s u : State) (r : Request) => s.passes 0x0204 r = true ∧ u = s.begun 0x0204
    r) (up) ((up.begun 0x0204 (ask []))) (ask []) := by
  beta_reduce
  and_intros <;> first | with_reducible rfl | decide +kernel

theorem witness_SessionCommands_10 : (fun (s u : State) (r : Request) (q : Request) => s.passes 0x0107 q = true ∧ u =
    s.begun 0x0107 q ∧ q = requestWithByte r 0 0 ∧ u.isRoot = true) (atRoot) ((atRoot.begun 0x0107 (ask [0]))) (ask
    [0]) (ask [0]) := by
  beta_reduce
  and_intros <;> first | with_reducible rfl | decide +kernel

theorem witness_SessionCommands_11 : (fun (s u : State) (r : Request) (q : Request) => s.passes 0x0107 q = true ∧ u =
    s.begun 0x0107 q ∧ q = requestWithByte r 0 1 ∧ u.isRoot = true ∧ u.hostTunnels = false ∧ u.ink.drbgBad = false)
    (atRoot) ((atRoot.begun 0x0107 (ask [1]))) (ask [1]) (ask [1]) := by
  beta_reduce
  and_intros <;> first | with_reducible rfl | decide +kernel

theorem witness_QueueCommandsAndEvents_1 : (fun (s u : State) (r : Request) (q : Nat) => s.passes 0x0110 r = true ∧ u
    = s.begun 0x0110 r ∧ 13 ≤ r.pkt.params.length ∧ q = leAt r.pkt.params 0 1 ∧ q ≤ 3 ∧ (u.mode = 0 → q = 0)) (up)
    ((up.begun 0x0110 (ask ([1, 5, 0, 4, 0] ++ zeros 8)))) (ask ([1, 5, 0, 4, 0] ++ zeros 8)) (1) := by
  beta_reduce
  and_intros <;> first | with_reducible rfl | decide +kernel

theorem witness_QueueCommandsAndEvents_2 : (fun (s u : State) (r : Request) (q n : Nat) (x : Queue) (v : State) =>
    s.passes 0x0111 r = true ∧ u = s.begun 0x0111 r ∧ 3 ≤ r.pkt.params.length ∧ q = leAt r.pkt.params 0 1 ∧ q ≤ 3 ∧
    (u.mode = 0 → q = 0) ∧ v = u.compared q ∧ x = v.queue q ∧ (u.queue q).dma = false ∧ n = min (leAt r.pkt.params 1
    2) (min (x.dist x.w - x.dist x.c) (4152 / queueBytes q))) (noticed) ((noticed.begun 0x0111 (ask [0, 4, 0]))) (ask
    [0, 4, 0]) (0) (1) (((noticed.begun 0x0111 (ask [0, 4, 0])).compared 0).queue 0) ((noticed.begun 0x0111 (ask [0,
    4, 0])).compared 0) := by
  beta_reduce
  and_intros <;> first | with_reducible rfl | decide +kernel

theorem witness_QueueCommandsAndEvents_3 : (fun (s u : State) (r : Request) (q : Nat) (x : Queue) (v : State) =>
    s.passes 0x0112 r = true ∧ u = s.begun 0x0112 r ∧ 1 ≤ r.pkt.params.length ∧ q = leAt r.pkt.params 0 1 ∧ q ≤ 3 ∧
    (u.mode = 0 → q = 0) ∧ v = u.compared q ∧ x = v.queue q ∧ (u.queue q).dma = false) (up) ((up.begun 0x0112 (ask
    [2]))) (ask [2]) (2) (((up.begun 0x0112 (ask [2])).compared 2).queue 2) ((up.begun 0x0112 (ask [2])).compared 2)
    := by
  beta_reduce
  and_intros <;> first | with_reducible rfl | decide +kernel

theorem witness_QueueCommandsAndEvents_4 : (fun (s u : State) (r : Request) (q : Nat) (x : Queue) (v : State) =>
    s.passes 0x0113 r = true ∧ u = s.begun 0x0113 r ∧ 1 ≤ r.pkt.params.length ∧ q = leAt r.pkt.params 0 1 ∧ q ≤ 3 ∧
    (u.mode = 0 → q = 0) ∧ v = u.compared q ∧ x = v.queue q ∧ (u.queue q).dma = false) (up) ((up.begun 0x0113 (ask
    [2]))) (ask [2]) (2) (((up.begun 0x0113 (ask [2])).compared 2).queue 2) ((up.begun 0x0113 (ask [2])).compared 2)
    := by
  beta_reduce
  and_intros <;> first | with_reducible rfl | decide +kernel

theorem witness_QueueCommandsAndEvents_5 : (fun (s u : State) (r : Request) (q : Nat) (x : Queue) (v : State) =>
    s.passes 0x0114 r = true ∧ u = s.begun 0x0114 r ∧ 4 ≤ r.pkt.params.length ∧ q = leAt r.pkt.params 0 1 ∧ q ≤ 3 ∧
    (u.mode = 0 → q = 0) ∧ v = u.compared q ∧ x = v.queue q ∧ x.dma = false ∧ leAt r.pkt.params 3 1 = 0) (up)
    ((up.begun 0x0114 (ask [2, 0, 0, 0]))) (ask [2, 0, 0, 0]) (2) (((up.begun 0x0114 (ask [2, 0, 0, 0])).compared
    2).queue 2) ((up.begun 0x0114 (ask [2, 0, 0, 0])).compared 2) := by
  beta_reduce
  and_intros <;> first | with_reducible rfl | decide +kernel

theorem witness_QueueCommandsAndEvents_6 : (fun (s u : State) (r : Request) (q : Nat) (x : Queue) (v : State) =>
    s.passes 0x0114 r = true ∧ u = s.begun 0x0114 r ∧ 4 ≤ r.pkt.params.length ∧ q = leAt r.pkt.params 0 1 ∧ q ≤ 3 ∧
    (u.mode = 0 → q = 0) ∧ v = u.compared q ∧ x = v.queue q ∧ x.dma = true ∧ leAt r.pkt.params 3 1 = 3 ∧ x.dist (leAt
    r.pkt.params 1 2) ≤ x.dist x.w) ((up.setQueue 2 { dma := true })) (((up.setQueue 2 { dma := true }).begun 0x0114
    (ask [2, 0, 0, 3]))) (ask [2, 0, 0, 3]) (2) ((((up.setQueue 2 { dma := true }).begun 0x0114 (ask [2, 0, 0,
    3])).compared 2).queue 2) (((up.setQueue 2 { dma := true }).begun 0x0114 (ask [2, 0, 0, 3])).compared 2) := by
  beta_reduce
  and_intros <;> first | with_reducible rfl | decide +kernel

theorem witness_QueueCommandsAndEvents_7 : (fun (s u : State) (r : Request) (q i : Nat) (x : Queue) (v : State) =>
    s.passes 0x0114 r = true ∧ u = s.begun 0x0114 r ∧ 4 ≤ r.pkt.params.length ∧ q = leAt r.pkt.params 0 1 ∧ q ≤ 3 ∧
    (u.mode = 0 → q = 0) ∧ v = u.compared q ∧ x = v.queue q ∧ x.dma = false ∧ leAt r.pkt.params 3 1 = 2 ∧ i = leAt
    r.pkt.params 1 2 ∧ x.dist i ≤ x.dist x.c) (up) ((up.begun 0x0114 (ask [2, 0, 0, 2]))) (ask [2, 0, 0, 2]) (2) (0)
    (((up.begun 0x0114 (ask [2, 0, 0, 2])).compared 2).queue 2) ((up.begun 0x0114 (ask [2, 0, 0, 2])).compared 2) :=
    by
  beta_reduce
  and_intros <;> first | with_reducible rfl | decide +kernel

theorem witness_QueueCommandsAndEvents_8 : (fun (s : State) (q : Fin 4) => s.hubOn = true ∧ s.flag (Reg.QUE_CFG_ENABLE
    q) = false) (up.put (Reg.QUE_CFG_ENABLE 1) false) (1) := by
  beta_reduce
  and_intros <;> first | with_reducible rfl | decide +kernel

theorem witness_QueueCommandsAndEvents_9 : (fun (s : State) (q : Fin 4) => s.hubOn = true ∧ (s.queue q).agrees = true)
    (up) (1) := by
  beta_reduce
  and_intros <;> first | with_reducible rfl | decide +kernel

theorem witness_QueueCommandsAndEvents_10 : (fun (s : State) (q : Fin 4) => s.hubOn = true ∧ (s.queue q).agrees =
    false ∧ (q.val = 0 ∨ (s.queue 0).agrees = true)) (up.setQueue 1 { w := 1 }) (1) := by
  beta_reduce
  and_intros <;> first | with_reducible rfl | decide +kernel

theorem witness_RegisterCommands_1 : (fun (s u : State) (r : Request) (a n : Nat) => s.passes 0x0310 r = true ∧ u =
    s.begun 0x0310 r ∧ 6 ≤ r.pkt.params.length ∧ a = leAt r.pkt.params 0 4 ∧ n = leAt r.pkt.params 4 2 ∧ 1 ≤ n ∧ n ≤
    256 ∧ (∀ i, i < n → u.readStatus (asked 0x0310 r) (a + 4 * i) = 0)) (up) ((up.begun 0x0310 (ask [0x10, 0, 0, 0, 1,
    0]))) (ask [0x10, 0, 0, 0, 1, 0]) (0x10) (1) := by
  beta_reduce
  and_intros <;> first | with_reducible rfl | decide +kernel

theorem witness_RegisterCommands_2 : (fun (s u : State) (r : Request) (n : Nat) (x : State × Nat × Nat) => s.passes
    0x0311 r = true ∧ u = s.begun 0x0311 r ∧ n = leAt r.pkt.params 4 2 ∧ 1 ≤ n ∧ n ≤ 256 ∧ 8 + 4 * n ≤
    r.pkt.params.length ∧ (x = u.writeWords (asked 0x0311 r) (leAt r.pkt.params 0 4) ((List.range n).map fun i =>
    BitVec.ofNat 32 (leAt r.pkt.params (8 + 4 * i) 4)) 0)) (up) ((up.begun 0x0311 (ask [0, 0, 0xD2, 0, 1, 0, 0, 0, 1,
    0, 0, 0]))) (ask [0, 0, 0xD2, 0, 1, 0, 0, 0, 1, 0, 0, 0]) (1) ((up.begun 0x0311 (ask [0, 0, 0xD2, 0, 1, 0, 0, 0,
    1, 0, 0, 0])).writeWords (asked 0x0311 (ask [0, 0, 0xD2, 0, 1, 0, 0, 0, 1, 0, 0, 0])) 0xD20000 [1] 0) := by
  beta_reduce
  and_intros <;> first | with_reducible rfl | decide +kernel

theorem witness_RegisterCommands_3 : (fun (s u : State) (r : Request) (a : Nat) (m v w : Word) => s.passes 0x0312 r =
    true ∧ u = s.begun 0x0312 r ∧ 12 ≤ r.pkt.params.length ∧ a = leAt r.pkt.params 0 4 ∧ m = BitVec.ofNat 32 (leAt
    r.pkt.params 4 4) ∧ v = BitVec.ofNat 32 (leAt r.pkt.params 8 4) ∧ w = ((u.regView a &&& ~~~m) ||| (v &&& m)) &&&
    ~~~(w1cMask a &&& ~~~m) ∧ u.readStatus (asked 0x0312 r) a = 0 ∧ u.writeStatus (asked 0x0312 r) a w = 0) (up)
    ((up.begun 0x0312 (ask [0, 0, 0xD2, 0, 1, 0, 0, 0, 0, 0, 0, 0]))) (ask [0, 0, 0xD2, 0, 1, 0, 0, 0, 0, 0, 0, 0])
    (0xD20000) (1) (0) (4) := by
  beta_reduce
  and_intros <;> first | with_reducible rfl | decide +kernel

theorem witness_RegisterCommands_4 : (fun (s u : State) (r : Request) (a : Nat) => s.passes 0x0313 r = true ∧ u =
    s.begun 0x0313 r ∧ 16 ≤ r.pkt.params.length ∧ a = leAt r.pkt.params 0 4 ∧ 1 ≤ leAt r.pkt.params 12 2 ∧ leAt
    r.pkt.params 12 2 ≤ 1000 ∧ u.readStatus (asked 0x0313 r) a = 0 ∧ u.regView a &&& BitVec.ofNat 32 (leAt
    r.pkt.params 4 4) = BitVec.ofNat 32 (leAt r.pkt.params 8 4)) (up) ((up.begun 0x0313 (ask ([0x10, 0, 0, 0, 0xF, 0,
    0, 0, 3, 0, 0, 0, 5, 0, 0, 0])))) (ask ([0x10, 0, 0, 0, 0xF, 0, 0, 0, 3, 0, 0, 0, 5, 0, 0, 0])) (0x10) := by
  beta_reduce
  and_intros <;> first | with_reducible rfl | decide +kernel

theorem witness_RegisterCommands_5 : (fun (s u : State) (r : Request) (a : Nat) (y : Poll) => s.passes 0x0313 r = true
    ∧ u = s.begun 0x0313 r ∧ 16 ≤ r.pkt.params.length ∧ a = leAt r.pkt.params 0 4 ∧ 1 ≤ leAt r.pkt.params 12 2 ∧ leAt
    r.pkt.params 12 2 ≤ 1000 ∧ u.readStatus (asked 0x0313 r) a = 0 ∧ u.regView a &&& BitVec.ofNat 32 (leAt
    r.pkt.params 4 4) ≠ BitVec.ofNat 32 (leAt r.pkt.params 8 4) ∧ y =
    { req := asked 0x0313 r, addr := a, mask := BitVec.ofNat 32 (leAt r.pkt.params 4 4),
      value := BitVec.ofNat 32 (leAt r.pkt.params 8 4),
      deadline := u.mer.raw + rawOfNs (1000 * leAt r.pkt.params 12 2) }) (up) ((up.begun 0x0313 (ask ([0x10, 0, 0, 0,
    0xF, 0, 0, 0, 2, 0, 0, 0, 5, 0, 0, 0])))) (ask ([0x10, 0, 0, 0, 0xF, 0, 0, 0, 2, 0, 0, 0, 5, 0, 0, 0])) (0x10)
    ({ req := asked 0x0313 (ask [0x10, 0, 0, 0, 0xF, 0, 0, 0, 2, 0, 0, 0, 5, 0, 0, 0]), addr := 0x10, mask := 0xF,
       value := 2, deadline := rawOfNs 5000 }) := by
  beta_reduce
  and_intros <;> first | with_reducible rfl | decide +kernel

theorem witness_RegisterCommands_6 : (fun (s : State) (a w : Word) => badAddress a.toNat = false ∧ s.lockedWrite
    a.toNat w = false ∧ (onPowerDie a.toNat = true → s.nib.on = true) ∧ (onPowerDie a.toNat = false → s.hubOn = true))
    (up) (0xD20000) (1) := by
  beta_reduce
  and_intros <;> first | with_reducible rfl | decide +kernel

theorem witness_KeyCommands_1 : (fun (s u : State) (r : Request) (slot : Nat) (k : Bytes) => s.passes 0x0500 r = true
    ∧ u = s.begun 0x0500 r ∧ 52 ≤ r.pkt.params.length ∧ slot = leAt r.pkt.params 0 1 ∧ 16 ≤ slot ∧ slot ≤ 63 ∧
    u.pins.tamperN = true ∧ attrOk (leAt r.pkt.params 4 4) = true ∧ (((u.openSession (asked 0x0500 r) = none ∧ bit
    (leAt r.pkt.params 1 1) 0 = false) ∨ ((u.openSession (asked 0x0500 r)).isSome = true ∧ bit (leAt r.pkt.params 1 1)
    0 = true ∧ 68 ≤ r.pkt.params.length))) ∧ u.keySlot slot = none ∧ u.carriedKey (asked 0x0500 r) (slice r.pkt.params
    0 8) (slice r.pkt.params 8 12) (slice r.pkt.params 20 32) (slice r.pkt.params 52 16) = some k) (up) ((up.begun
    0x0500 (ask ([20, 0, 0, 0, 1, 0x3F, 3, 0] ++ zeros 44)))) (ask ([20, 0, 0, 0, 1, 0x3F, 3, 0] ++ zeros 44)) (20)
    (zeros 32) := by
  beta_reduce
  and_intros <;> first | with_reducible rfl | decide +kernel

theorem witness_KeyCommands_2 : (fun (s u : State) (r : Request) (slot : Nat) => s.passes 0x0500 r = true ∧ u =
    s.begun 0x0500 r ∧ 52 ≤ r.pkt.params.length ∧ slot = leAt r.pkt.params 0 1 ∧ 16 ≤ slot ∧ slot ≤ 63 ∧
    u.pins.tamperN = true ∧ attrOk (leAt r.pkt.params 4 4) = true ∧ (((u.openSession (asked 0x0500 r) = none ∧ bit
    (leAt r.pkt.params 1 1) 0 = false) ∨ ((u.openSession (asked 0x0500 r)).isSome = true ∧ bit (leAt r.pkt.params 1 1)
    0 = true ∧ 68 ≤ r.pkt.params.length))) ∧ u.keySlot slot = none ∧ u.carriedKey (asked 0x0500 r) (slice r.pkt.params
    0 8) (slice r.pkt.params 8 12) (slice r.pkt.params 20 32) (slice r.pkt.params 52 16) = none) (provisioned)
    ((provisioned.begun 0x0500 wrappedLoad)) (wrappedLoad) (20) := by
  beta_reduce
  and_intros <;> first | with_reducible rfl | decide +kernel

theorem witness_KeyCommands_3 : (fun (s u : State) (r : Request) (slot : Nat) => s.passes 0x0501 r = true ∧ u =
    s.begun 0x0501 r ∧ 4 ≤ r.pkt.params.length ∧ slot = leAt r.pkt.params 0 1 ∧ slot ≤ 63 ∧ (u.keySlot slot).isSome =
    true) (keyed) ((keyed.begun 0x0501 (ask [0, 0, 0, 0]))) (ask [0, 0, 0, 0]) (0) := by
  beta_reduce
  and_intros <;> first | with_reducible rfl | decide +kernel

theorem witness_KeyCommands_4 : (fun (s u : State) (r : Request) (slot : Nat) => s.passes 0x0502 r = true ∧ u =
    s.begun 0x0502 r ∧ 4 ≤ r.pkt.params.length ∧ slot = leAt r.pkt.params 0 1 ∧ slot ≤ 63) (keyed) ((keyed.begun
    0x0502 (ask [0, 0, 0, 0]))) (ask [0, 0, 0, 0]) (0) := by
  beta_reduce
  and_intros <;> first | with_reducible rfl | decide +kernel

theorem witness_KeyCommands_5 : (fun (s u : State) (r : Request) (slot : Nat) (k : KeySlot) (m : Bytes) => s.passes
    0x0503 r = true ∧ u = s.begun 0x0503 r ∧ 36 ≤ r.pkt.params.length ∧ slot = leAt r.pkt.params 0 1 ∧ slot ≤ 63 ∧
    u.keyFor slot 1 (masterBit r.via) (u.worldOf (asked 0x0503 r)) = .ok k ∧ m = u.report slot (slice r.pkt.params 4
    32)) (keyed) ((keyed.begun 0x0503 (ask (zeros 36)))) (ask (zeros 36)) (0) ({ key := zeros 32, attr := 0xFFFFFF })
    (((keyed.begun 0x0503 (ask (zeros 36)))).report (0 : Nat) (slice (ask (zeros 36)).pkt.params 4 32)) := by
  beta_reduce
  and_intros <;> first | with_reducible rfl | decide +kernel

theorem witness_KeyCommands_6 : (fun (s u : State) (r : Request) => s.passes 0x0504 r = true ∧ u = s.begun 0x0504 r ∧
    12 ≤ r.pkt.params.length ∧ leAt r.pkt.params 4 8 = u.nv.deviceId ∧ u.lcStatus (leAt r.pkt.params 0 1) = 0 ∧
    u.cmd.jobs.length < 2) (up) ((up.begun 0x0504 (ask ([4] ++ zeros 11)))) (ask ([4] ++ zeros 11)) := by
  beta_reduce
  and_intros <;> first | with_reducible rfl | decide +kernel

theorem witness_KeyCommands_7 : (fun (s u : State) (r : Request) (k : KeySlot) => s.passes 0x0505 r = true ∧ u =
    s.begun 0x0505 r ∧ 4 ≤ r.pkt.params.length ∧ r.pkt.params.length ≤ 4100 ∧ leAt r.pkt.params 0 1 ≤ 63 ∧ u.keyFor
    (leAt r.pkt.params 0 1) 3 (masterBit r.via) (u.worldOf (asked 0x0505 r)) = .ok k) (keyed) ((keyed.begun 0x0505
    (ask [0, 0, 0, 0, 9]))) (ask [0, 0, 0, 0, 9]) ({ key := zeros 32, attr := 0xFFFFFF }) := by
  beta_reduce
  and_intros <;> first | with_reducible rfl | decide +kernel

theorem witness_KeyCommands_8 : (fun (s u : State) (r : Request) (k : KeySlot) (n : Nat) (x : Bytes × Bytes) =>
    s.passes 0x0506 r = true ∧ u = s.begun 0x0506 r ∧ 4 ≤ r.pkt.params.length ∧ r.pkt.params.length ≤ 4100 ∧ leAt
    r.pkt.params 0 1 ≤ 63 ∧ u.keyFor (leAt r.pkt.params 0 1) 4 (masterBit r.via) (u.worldOf (asked 0x0506 r)) = .ok k
    ∧ n = leAt r.pkt.params 2 2 ∧ n + 4 ≤ r.pkt.params.length ∧ u.ink.drbgBad = false ∧ x = gcmSeal k.key (u.draw
    12).1 ((r.pkt.params.drop 4).take n) ((r.pkt.params.drop 4).drop n)) (keyed) ((keyed.begun 0x0506 (ask [0, 0, 1,
    0, 9, 9]))) (ask [0, 0, 1, 0, 9, 9]) ({ key := zeros 32, attr := 0xFFFFFF }) (1) (gcmSeal
    ({ key := zeros 32, attr := 0xFFFFFF } : KeySlot).key (((keyed.begun 0x0506 (ask [0, 0, 1, 0, 9, 9]))).draw 12).1
    (((ask [0, 0, 1, 0, 9, 9]).pkt.params.drop 4).take (1 : Nat)) (((ask [0, 0, 1, 0, 9, 9]).pkt.params.drop 4).drop
    (1 : Nat))) := by
  beta_reduce
  and_intros <;> first | with_reducible rfl | decide +kernel

theorem witness_KeyCommands_9 : (fun (s u : State) (r : Request) (k : KeySlot) (n : Nat) (m b : Bytes) => s.passes
    0x0507 r = true ∧ u = s.begun 0x0507 r ∧ 16 ≤ r.pkt.params.length ∧ leAt r.pkt.params 0 1 ≤ 63 ∧ u.keyFor (leAt
    r.pkt.params 0 1) 4 (masterBit r.via) (u.worldOf (asked 0x0507 r)) = .ok k ∧ n = leAt r.pkt.params 2 2 ∧ m =
    r.pkt.params.drop 16 ∧ n + 16 ≤ m.length ∧ m.length ≤ 4112 ∧ gcmOpen k.key (slice r.pkt.params 4 12) (m.take n)
    (slice m n (m.length - n - 16)) (m.drop (m.length - 16)) = some b) (keyed) (keyed.begun 0x0507 sealedAsk)
    (sealedAsk) ({ key := zeros 32, attr := 0xFFFFFF }) (0) (sealedAsk.pkt.params.drop 16) ([9]) := by
  beta_reduce
  and_intros <;> first | with_reducible rfl | decide +kernel

theorem witness_KeyCommands_10 : (fun (s u : State) (r : Request) (k : KeySlot) (n : Nat) (m : Bytes) => s.passes
    0x0507 r = true ∧ u = s.begun 0x0507 r ∧ 16 ≤ r.pkt.params.length ∧ leAt r.pkt.params 0 1 ≤ 63 ∧ u.keyFor (leAt
    r.pkt.params 0 1) 4 (masterBit r.via) (u.worldOf (asked 0x0507 r)) = .ok k ∧ n = leAt r.pkt.params 2 2 ∧ m =
    r.pkt.params.drop 16 ∧ n + 16 ≤ m.length ∧ m.length ≤ 4112 ∧ gcmOpen k.key (slice r.pkt.params 4 12) (m.take n)
    (slice m n (m.length - n - 16)) (m.drop (m.length - 16)) = none) (keyed) (keyed.begun 0x0507 (ask (zeros 33)))
    (ask (zeros 33)) ({ key := zeros 32, attr := 0xFFFFFF }) (0) ((ask (zeros 33)).pkt.params.drop 16) := by
  beta_reduce
  and_intros <;> first | with_reducible rfl | decide +kernel

theorem witness_KeyCommands_11 : (fun (s u : State) (r : Request) (q : Request) (slot : Nat) (k : Bytes) => s.passes
    0x0508 q = true ∧ u = s.begun 0x0508 q ∧ q = requestWithByte r 0 0 ∧ 53 ≤ q.pkt.params.length ∧ slot = leAt
    q.pkt.params 1 1 ∧ u.nv.lifeCycle ≤ 1 ∧ 2 ≤ slot ∧ slot ≤ 15 ∧ u.pins.tamperN = true ∧ attrOk (leAt q.pkt.params 5
    4) = true ∧ (((u.openSession (asked 0x0508 q) = none ∧ bit (leAt q.pkt.params 2 1) 0 = false) ∨ ((u.openSession
    (asked 0x0508 q)).isSome = true ∧ bit (leAt q.pkt.params 2 1) 0 = true ∧ 69 ≤ q.pkt.params.length))) ∧ (u.otpSlot
    slot).programmed = false ∧ (u.otpSlot slot).retired = false ∧ u.carriedKey (asked 0x0508 q) (slice q.pkt.params 1
    8) (slice q.pkt.params 9 12) (slice q.pkt.params 21 32) (slice q.pkt.params 53 16) = some k ∧ u.cmd.jobs.length <
    2) (up) ((up.begun 0x0508 (ask ([0, 2, 0, 0, 0, 1, 0x3F, 3, 0] ++ zeros 44)))) (ask ([0, 2, 0, 0, 0, 1, 0x3F, 3,
    0] ++ zeros 44)) (ask ([0, 2, 0, 0, 0, 1, 0x3F, 3, 0] ++ zeros 44)) (2) (zeros 32) := by
  beta_reduce
  and_intros <;> first | with_reducible rfl | decide +kernel

theorem witness_KeyCommands_12 : (fun (s u : State) (r : Request) (q : Request) (slot : Nat) => s.passes 0x0508 q =
    true ∧ u = s.begun 0x0508 q ∧ q = requestWithByte r 0 0 ∧ 53 ≤ q.pkt.params.length ∧ slot = leAt q.pkt.params 1 1
    ∧ u.nv.lifeCycle ≤ 1 ∧ 2 ≤ slot ∧ slot ≤ 15 ∧ u.pins.tamperN = true ∧ attrOk (leAt q.pkt.params 5 4) = true ∧
    (((u.openSession (asked 0x0508 q) = none ∧ bit (leAt q.pkt.params 2 1) 0 = false) ∨ ((u.openSession (asked 0x0508
    q)).isSome = true ∧ bit (leAt q.pkt.params 2 1) 0 = true ∧ 69 ≤ q.pkt.params.length))) ∧ (u.otpSlot
    slot).programmed = false ∧ (u.otpSlot slot).retired = false ∧ u.carriedKey (asked 0x0508 q) (slice q.pkt.params 1
    8) (slice q.pkt.params 9 12) (slice q.pkt.params 21 32) (slice q.pkt.params 53 16) = none) (provisioned)
    ((provisioned.begun 0x0508 wrappedOtp)) (wrappedOtp) (wrappedOtp) (2) := by
  beta_reduce
  and_intros <;> first | with_reducible rfl | decide +kernel

theorem witness_KeyCommands_13 : (fun (s u : State) (r : Request) (q : Request) => s.passes 0x0508 q = true ∧ u =
    s.begun 0x0508 q ∧ q = requestWithByte r 0 1 ∧ 52 ≤ q.pkt.params.length ∧ u.nv.lifeCycle ≤ 1 ∧ u.pins.tamperN =
    true ∧ u.nv.password = none ∧ u.cmd.jobs.length < 2) (up) ((up.begun 0x0508 (ask ([1] ++ zeros 51)))) (ask ([1] ++
    zeros 51)) (ask ([1] ++ zeros 51)) := by
  beta_reduce
  and_intros <;> first | with_reducible rfl | decide +kernel

theorem witness_KeyCommands_14 : (fun (s u : State) (r : Request) (q : Request) (slot : Nat) => s.passes 0x0508 q =
    true ∧ u = s.begun 0x0508 q ∧ q = requestWithByte r 0 2 ∧ 4 ≤ q.pkt.params.length ∧ slot = leAt q.pkt.params 1 1 ∧
    1 ≤ u.nv.lifeCycle ∧ u.nv.lifeCycle ≤ 3 ∧ 2 ≤ slot ∧ slot ≤ 15 ∧ u.pins.tamperN = true ∧ u.cmd.jobs.length < 2)
    (provisioned) ((provisioned.begun 0x0508 retireAsk)) (retireAsk) (retireAsk) (2) := by
  beta_reduce
  and_intros <;> first | with_reducible rfl | decide +kernel

theorem witness_EntropyTamperAndUpdateEvents_1 : (fun (s : State) => s.hubOn = true) (up) := by
  beta_reduce
  decide +kernel

theorem witness_EntropyTamperAndUpdateEvents_2 : (fun (s : State) => s.hubOn = true) (up) := by
  beta_reduce
  decide +kernel

theorem witness_EntropyTamperAndUpdateEvents_3 : (fun (s : State) => s.nib.on = true ∧ s.hubOn = false) (nibOnly) :=
    by
  beta_reduce
  and_intros <;> first | with_reducible rfl | decide +kernel

theorem witness_EntropyTamperAndUpdateEvents_4 : (fun (s : State) => s.nib.on = true) (up) := by
  beta_reduce
  decide +kernel

theorem witness_EntropyTamperAndUpdateEvents_5 : (fun (s : State) (v : Transport) (k : Nat) (l : List Waiting) =>
    s.hubOn = true ∧ s.cmd.waiting = { via := v, act := .fwActivate k 0, handed := true } :: l)
    ({ up with cmd := { waiting := [{ via := .mgmt, act := .fwActivate 1 0, handed := true }] } }) (.mgmt) (1) ([]) :=
    by
  beta_reduce
  and_intros <;> first | with_reducible rfl | decide +kernel

theorem witness_EntropyTamperAndUpdateEvents_6 : (fun (s : State) (v : Transport) (k m : Nat) (l : List Waiting) =>
    s.hubOn = true ∧ s.cmd.waiting = { via := v, act := .fwActivate k m, handed := true } :: l ∧ m ≠ 0)
    ({ up with cmd := { waiting := [{ via := .mgmt, act := .fwActivate 1 1, handed := true }] } }) (.mgmt) (1) (1)
    ([]) := by
  beta_reduce
  and_intros <;> first | with_reducible rfl | decide +kernel

theorem witness_EntropyTamperAndUpdateEvents_7 : (fun (s : State) => s.serving = true ∧ s.fw.trial = true ∧ s.setting
    0x000A ≠ 0) ({ up with fw := { trial := true } }) := by
  beta_reduce
  and_intros <;> first | with_reducible rfl | decide +kernel

theorem witness_FirmwareAndSettingsCommands_1 : (fun (s u : State) (r : Request) (n k : Nat) (t : State) => s.passes
    0x0600 r = true ∧ u = s.begun 0x0600 r ∧ 8 ≤ r.pkt.params.length ∧ n = leAt r.pkt.params 4 4 ∧ 4112 ≤ n ∧ n ≤
    12582912 ∧ u.mode ≠ 0 ∧ k = leAt r.pkt.params 0 1 ∧ k ≤ 1 ∧ k ≠ u.fw.slot ∧ u.trialSlot = none ∧ u.groupJob 6 =
    false ∧ u.cmd.jobs.length < 2 ∧ (t = (((u.setSlotState k 0 0).eraseSectors k n).withFw fun f =>
    { f with update := some (k, n), written := [], length := n }))) (up) ((up.begun 0x0600 (ask [1, 0, 0, 0, 0, 0x20,
    0, 0]))) (ask [1, 0, 0, 0, 0, 0x20, 0, 0]) (0x2000) (1) (((((up.begun 0x0600 (ask [1, 0, 0, 0, 0, 0x20, 0,
    0])).setSlotState 1 0 0).eraseSectors 1 0x2000).withFw fun f =>
    { f with update := some (1, 0x2000), written := [], length := 0x2000 })) := by
  beta_reduce
  and_intros <;> first | with_reducible rfl | decide +kernel

theorem witness_FirmwareAndSettingsCommands_2 : (fun (s u : State) (r : Request) (k n o : Nat) => s.passes 0x0601 r =
    true ∧ u = s.begun 0x0601 r ∧ 64 ≤ r.pkt.params.length ∧ u.fw.update = some (k, n) ∧ o = leAt r.pkt.params 0 4 ∧ o
    % 4096 = 0 ∧ o < n ∧ leAt r.pkt.params 4 2 = blockLen n o ∧ (r.pkt.params.drop 64).length = blockLen n o ∧ sha256
    (r.pkt.params.drop 64) = slice r.pkt.params 8 32 ∧ (Table.get (fun _ => []) u.fw.written (o / 4096) = []) ∧ slice
    r.pkt.params 8 32 ≠ [] ∧ u.cmd.jobs.length < 2) (updating) (updating.begun 0x0601 blockAsk) (blockAsk) (1) (1) (0)
    := by
  beta_reduce
  and_intros <;> first | with_reducible rfl | decide +kernel

theorem witness_FirmwareAndSettingsCommands_3 : (fun (s u : State) (r : Request) (k n : Nat) => s.passes 0x0602 r =
    true ∧ u = s.begun 0x0602 r ∧ u.fw.update = some (k, n) ∧ u.cmd.jobs.length < 2) (updating) (updating.begun 0x0602
    (ask [])) (ask []) (1) (1) := by
  beta_reduce
  and_intros <;> first | with_reducible rfl | decide +kernel

theorem witness_FirmwareAndSettingsCommands_4 : (fun (s u : State) (r : Request) (k : Nat) => s.passes 0x0603 r = true
    ∧ u = s.begun 0x0603 r ∧ 4 ≤ r.pkt.params.length ∧ leAt r.pkt.params 0 1 = 2 ∧ ([0, 1].find? (fun j => u.slotState
    j == 2) = some k) ∧ u.rd Reg.FWU_RUN_VERSION ≤ hdrVersion (u.imageHeader k) ∧ u.trialSlot = none ∧ u.groupJob 6 =
    false) (verified) (verified.begun 0x0603 (ask [2, 0, 0, 0])) (ask [2, 0, 0, 0]) (1) := by
  beta_reduce
  and_intros <;> first | with_reducible rfl | decide +kernel

theorem witness_FirmwareAndSettingsCommands_5 : (fun (s u : State) (r : Request) => s.passes 0x0604 r = true ∧ u =
    s.begun 0x0604 r) (up) ((up.begun 0x0604 (ask []))) (ask []) := by
  beta_reduce
  and_intros <;> first | with_reducible rfl | decide +kernel

theorem witness_FirmwareAndSettingsCommands_6 : (fun (s u : State) (r : Request) (t : State) => s.passes 0x0605 r =
    true ∧ u = s.begun 0x0605 r ∧ u.fw.trial = true ∧ (t = ((u.setSlotState u.fw.slot 4 (u.slotAttempts
    u.fw.slot)).withFw fun f => { f with trial := false }))) (trying) (trying.begun 0x0605 (ask [])) (ask [])
    ((((trying.begun 0x0605 (ask [])).setSlotState 0 4 0).withFw fun f => { f with trial := false })) := by
  beta_reduce
  and_intros <;> first | with_reducible rfl | decide +kernel

theorem witness_FirmwareAndSettingsCommands_7 : (fun (s u : State) (r : Request) (v : Bytes) => s.passes 0x0606 r =
    true ∧ u = s.begun 0x0606 r ∧ 4 ≤ r.pkt.params.length ∧ settingKnown (leAt r.pkt.params 0 2) = true ∧
    u.settingRecord (leAt r.pkt.params 0 2) = some v) ({ up with fw := { settings := [(1, [0])] } })
    (({ up with fw := { settings := [(1, [0])] } } : State).begun 0x0606 (ask [1, 0, 0, 0])) (ask [1, 0, 0, 0]) ([0])
    := by
  beta_reduce
  and_intros <;> first | with_reducible rfl | decide +kernel

theorem witness_FirmwareAndSettingsCommands_8 : (fun (s u : State) (r : Request) (v : Bytes) => s.passes 0x0606 r =
    true ∧ u = s.begun 0x0606 r ∧ 4 ≤ r.pkt.params.length ∧ settingKnown (leAt r.pkt.params 0 2) = true ∧
    u.settingRecord (leAt r.pkt.params 0 2) = none ∧ v = (settingDefault (leAt r.pkt.params 0 2)).getD []) (up)
    ((up.begun 0x0606 (ask [4, 0, 0, 0]))) (ask [4, 0, 0, 0]) (le 2 300) := by
  beta_reduce
  and_intros <;> first | with_reducible rfl | decide +kernel

theorem witness_FirmwareAndSettingsCommands_9 : (fun (s u : State) (r : Request) (l : List (Nat × Bytes)) => s.passes
    0x0607 r = true ∧ u = s.begun 0x0607 r ∧ 4 ≤ r.pkt.params.length ∧ parseRecords (leAt r.pkt.params 0 1)
    (r.pkt.params.drop 4) = some l ∧ l.all settingValid = true ∧ u.cmd.jobs.length < 2) (up) ((up.begun 0x0607 (ask
    [1, 0, 0, 0, 1, 0, 1, 0, 0, 0, 0, 0]))) (ask [1, 0, 0, 0, 1, 0, 1, 0, 0, 0, 0, 0]) ([(1, [0])]) := by
  beta_reduce
  and_intros <;> first | with_reducible rfl | decide +kernel

theorem witness_CounterAndCometCommands_1 : (fun (s : State) => s.hubOn = true) (up) := by
  beta_reduce
  decide +kernel

theorem witness_CounterAndCometCommands_2 : (fun (s : State) (f : BitVec 10) => s.hubOn = true ∧ f.toNat ≤ 767) (up)
    (3) := by
  beta_reduce
  and_intros <;> first | with_reducible rfl | decide +kernel

theorem witness_CounterAndCometCommands_3 : (fun (s : State) => s.hubOn = true) (up) := by
  beta_reduce
  decide +kernel

theorem witness_CounterAndCometCommands_4 : (fun (s : State) (c : Comet) => s.hubOn = true ∧ (s.perf.comets.find? (fun
    x => x.id == c.id) = some c) ∧ (s.perf.comets.find? (fun x => x.seg == c.seg) = some c) ∧ c.id < 2 ^ 32)
    ({ up with perf := { comets := [aComet] } }) (aComet) := by
  beta_reduce
  and_intros <;> first | with_reducible rfl | decide +kernel

theorem witness_CounterAndCometCommands_5 : (fun (s u : State) (r : Request) (k : Nat) (a b : Word) => s.passes 0x0906
    r = true ∧ u = s.begun 0x0906 r ∧ 12 ≤ r.pkt.params.length ∧ u.mayPerfRead r.via = true ∧ k = leAt r.pkt.params 0
    1 ∧ k ≤ 3 ∧ a = BitVec.ofNat 32 (leAt r.pkt.params 4 4) ∧ b = BitVec.ofNat 32 (leAt r.pkt.params 8 4) ∧ u.portOk
    ((Reg.CMT_SEL_A_INPUT 0).get a) true = true ∧ u.portOk ((Reg.CMT_SEL_B_OUTPUT 0).get b) true = true ∧
    (Reg.CMT_SEL_A_CLASSES 0).get a ≠ 0) ((up.wr Reg.PERF_ACCESS_READ 0xF)) (((up.wr Reg.PERF_ACCESS_READ 0xF).begun
    0x0906 (ask [1, 0, 0, 0, 0xF0, 0xFF, 0, 0xC0, 0, 0xFF, 5, 0]))) (ask [1, 0, 0, 0, 0xF0, 0xFF, 0, 0xC0, 0, 0xFF, 5,
    0]) (1) (0xC000FFF0) (0x0005FF00) := by
  beta_reduce
  and_intros <;> first | with_reducible rfl | decide +kernel

theorem witness_CounterAndCometCommands_6 : (fun (s u : State) (r : Request) (k : Nat) (a b : Word) => s.passes 0x0907
    r = true ∧ u = s.begun 0x0907 r ∧ 12 ≤ r.pkt.params.length ∧ k = leAt r.pkt.params 0 1 ∧ k ≤ 7 ∧ a = BitVec.ofNat
    32 (leAt r.pkt.params 4 4) ∧ b = BitVec.ofNat 32 (leAt r.pkt.params 8 4) ∧ u.portOk ((Reg.SCH_SMP_A_OUTPUT 0).get
    a) false = true ∧ u.portOk ((Reg.SCH_SMP_A_INPUT 0).get a) true = true ∧ (Reg.SCH_SMP_A_EN 0).get a = 0) (up)
    ((up.begun 0x0907 (ask ([1] ++ zeros 11)))) (ask ([1] ++ zeros 11)) (1) (0) (0) := by
  beta_reduce
  and_intros <;> first | with_reducible rfl | decide +kernel

theorem witness_MeridianEvents_1 : (fun (s : State) (t : Fin 2) (b : Bytes) => s.hubOn = true ∧ b.length = 64 ∧ leAt b
    0 1 = 1 ∧ s.hopRefers t b = true) (hopReady) (0) (goodHop) := by
  beta_reduce
  and_intros <;> first | with_reducible rfl | decide +kernel

theorem witness_MeridianEvents_2 : (fun (s : State) (t : Fin 2) (b : Bytes) => s.hubOn = true ∧ (b.length ≠ 64 ∨ leAt
    b 0 1 ≠ 1 ∨ s.hopRefers t b = false)) (up) (0) ([]) := by
  beta_reduce
  and_intros <;> first | with_reducible rfl | decide +kernel

theorem witness_MeridianEvents_3 : (fun (s y : State) (t : Fin 2) => s.hubOn = true ∧ s.merHold t = false ∧ s.rd
    (Reg.TLK_STAT_LSTATE t) = 2 ∧ s.xchg ≤ (s.merTrunk t).sets ∧ y = ((s.setMerTrunk t
    { s.merTrunk t with srcChanged := false }).count (0x248 + 4 * t)).sendTime t (s.hopBytes t false)) ((up.wr
    (Reg.TLK_STAT_LSTATE 0) 2).setMerTrunk 0 { sets := 48 }) (((((up.wr (Reg.TLK_STAT_LSTATE 0) 2).setMerTrunk 0
    { sets := 48 }).setMerTrunk (0 : Fin 2)
    { ((up.wr (Reg.TLK_STAT_LSTATE 0) 2).setMerTrunk 0 { sets := 48 }).merTrunk (0 : Fin 2) with srcChanged := false }).count
    (0x248 + 4 * (0 : Fin 2))).sendTime (0 : Fin 2) (((up.wr (Reg.TLK_STAT_LSTATE 0) 2).setMerTrunk 0
    { sets := 48 }).hopBytes (0 : Fin 2) false)) (0) := by
  beta_reduce
  and_intros <;> first | with_reducible rfl | decide +kernel

theorem witness_MeridianEvents_4 : (fun (s : State) (p : Nat) => s.hubOn = true ∧ s.parentTrunk = some p ∧ s.rd
    (Reg.TLK_STAT_LSTATE p) ≠ 5) (up.wr Reg.MER_STAT_PARENT 1) (0) := by
  beta_reduce
  and_intros <;> first | with_reducible rfl | decide +kernel

theorem witness_MeridianEvents_5 : (fun (s : State) (t d : Nat) => s.hubOn = true ∧ s.mer.candidate = some t ∧
    s.candidateDist t = some d) (candidate) (1) (2) := by
  beta_reduce
  and_intros <;> first | with_reducible rfl | decide +kernel

theorem witness_MeridianEvents_6 : (fun (s : State) => s.hubOn = true) (up) := by
  beta_reduce
  decide +kernel

theorem witness_MeridianEvents_7 : (fun (s : State) (x : Int) (k : Nat) => s.hubOn = true ∧ s.mer.rateNext = some (x,
    k) ∧ (k * 65536 : Nat) ≤ s.reading) ({ up with mer := { rateNext := some (5, 0) } }) (5) (0) := by
  beta_reduce
  and_intros <;> first | with_reducible rfl | decide +kernel

theorem witness_MeridianEvents_8 : (fun (s : State) (g : Nat) => s.hubOn = true ∧ s.isRoot = true ∧ s.mer.mgenWindow =
    true ∧ s.mer.mgenSeen = some g) ({ atRoot with mer := { mgenWindow := true, mgenSeen := some 4 } }) (4) := by
  beta_reduce
  and_intros <;> first | with_reducible rfl | decide +kernel

theorem witness_MeridianEvents_9 : (fun (s : State) => s.hubOn = true) (up) := by
  beta_reduce
  decide +kernel

theorem witness_TimeAndPinCommands_1 : (fun (s u : State) (r : Request) => s.passes 0x0700 r = true ∧ u = s.begun
    0x0700 r) (up) ((up.begun 0x0700 (ask []))) (ask []) := by
  beta_reduce
  and_intros <;> first | with_reducible rfl | decide +kernel

theorem witness_TimeAndPinCommands_2 : (fun (s u : State) (r : Request) (v : Nat) (t : State) => s.passes 0x0701 r =
    true ∧ u = s.begun 0x0701 r ∧ 20 ≤ r.pkt.params.length ∧ leAt r.pkt.params 0 1 = 0 ∧ u.rd Reg.MER_STAT_STATE = 4 ∧
    leAt r.pkt.params 14 4 ≤ 999999999 ∧ v = timeOf (leAt r.pkt.params 8 6) (leAt r.pkt.params 14 4) (leAt
    r.pkt.params 18 2) ∧ t = (((u.startRunning).stepTime ((v : Int) - u.reading) 0).prompt u) ∧ u.startRunning.rd
    Reg.MER_STAT_STATE = 4) (master) ((master.begun 0x0701 (ask (zeros 20)))) (ask (zeros 20)) (0) (((((master.begun
    0x0701 (ask (zeros 20))).startRunning).stepTime (0 - (master.begun 0x0701 (ask (zeros 20))).reading) 0).prompt
    (master.begun 0x0701 (ask (zeros 20))))) := by
  beta_reduce
  and_intros <;> first | with_reducible rfl | decide +kernel

theorem witness_TimeAndPinCommands_3 : (fun (s u : State) (r : Request) (x : Int) (k : Nat) => s.passes 0x0702 r =
    true ∧ u = s.begun 0x0702 r ∧ 4 ≤ r.pkt.params.length ∧ u.timeAllowed = true ∧ x = toSigned 32 (leAt r.pkt.params
    0 4) ∧ x.natAbs ≤ 549755813 ∧ u.mer.rateNext = none ∧ k = ceilDiv u.reading.toNat 65536 + 1000000) (master)
    ((master.begun 0x0702 (ask [5, 0, 0, 0]))) (ask [5, 0, 0, 0]) (5) (ceilDiv (master.begun 0x0702 (ask [5, 0, 0,
    0])).reading.toNat 65536 + 1000000) := by
  beta_reduce
  and_intros <;> first | with_reducible rfl | decide +kernel

theorem witness_TimeAndPinCommands_4 : (fun (s u : State) (r : Request) => s.passes 0x0703 r = true ∧ u = s.begun
    0x0703 r ∧ 4 ≤ r.pkt.params.length ∧ u.isRoot = true ∧ leAt r.pkt.params 0 1 = 63) (atRoot) ((atRoot.begun 0x0703
    (ask [63, 0, 0, 0]))) (ask [63, 0, 0, 0]) := by
  beta_reduce
  and_intros <;> first | with_reducible rfl | decide +kernel

theorem witness_TimeAndPinCommands_5 : (fun (s u : State) (r : Request) (n m : Nat) => s.passes 0x0704 r = true ∧ u =
    s.begun 0x0704 r ∧ 24 ≤ r.pkt.params.length ∧ n = leAt r.pkt.params 0 1 ∧ m = leAt r.pkt.params 1 1 ∧ n ≤ 15 ∧ m ∈
    [0, 1, 4]) (up) ((up.begun 0x0704 (ask ([3, 1] ++ zeros 22)))) (ask ([3, 1] ++ zeros 22)) (3) (1) := by
  beta_reduce
  and_intros <;> first | with_reducible rfl | decide +kernel

theorem witness_TimeAndPinCommands_6 : (fun (s u : State) (r : Request) (n : Nat) => s.passes 0x0705 r = true ∧ u =
    s.begun 0x0705 r ∧ 20 ≤ r.pkt.params.length ∧ n = leAt r.pkt.params 0 1 ∧ n ≤ 15 ∧ leAt r.pkt.params 1 1 = 1) (up)
    ((up.begun 0x0705 (ask ([3, 1] ++ zeros 18)))) (ask ([3, 1] ++ zeros 18)) (3) := by
  beta_reduce
  and_intros <;> first | with_reducible rfl | decide +kernel

theorem witness_TimeAndPinCommands_7 : (fun (s u : State) (r : Request) (n x : Nat) (t : State) => s.passes 0x0705 r =
    true ∧ u = s.begun 0x0705 r ∧ 20 ≤ r.pkt.params.length ∧ n = leAt r.pkt.params 0 1 ∧ n ≤ 15 ∧ leAt r.pkt.params 1
    1 = 0 ∧ u.tioMode n = 2 ∧ x = timeOf (leAt r.pkt.params 8 6) (leAt r.pkt.params 14 4) (leAt r.pkt.params 18 2) ∧
    u.reading.toNat + 2000 * 65536 ≤ x ∧ t = (u.setTioPin n
    { armed := true, start := x, k := 0, left := some 1, endAt := (u.tioPin n).endAt }).tioShow n) ((up.wr
    (Reg.TIO_CFG_MODE 3) 2)) (((up.wr (Reg.TIO_CFG_MODE 3) 2).begun 0x0705 (ask ([3, 0] ++ zeros 6 ++ [1] ++ zeros
    11)))) (ask ([3, 0] ++ zeros 6 ++ [1] ++ zeros 11)) (3) (timeOf 1 0 0) ((((up.wr (Reg.TIO_CFG_MODE 3) 2).begun
    0x0705 (ask ([3, 0] ++ zeros 6 ++ [1] ++ zeros 11))).setTioPin 3
    { armed := true, start := timeOf 1 0 0, k := 0, left := some 1, endAt := none }).tioShow 3) := by
  beta_reduce
  and_intros <;> first | with_reducible rfl | decide +kernel

theorem witness_TimeAndPinCommands_8 : (fun (s : State) => s.hubOn = true) (up) := by
  beta_reduce
  decide +kernel

theorem witness_TimeAndPinCommands_9 : (fun (s a : State) (n : Fin 16) (f : Bool) => s.hubOn = true ∧ a = s.wr
    Reg.TIO_LEVEL_LEVEL (putBit (s.rd Reg.TIO_LEVEL_LEVEL) n (!f)) ∧ a.tioMode n = 1 ∧ bit (orOne (a.rd
    (Reg.TIO_CFG_EDGE n))) (b2n f) = true) (up.wr (Reg.TIO_CFG_MODE 3) 1) ((up.wr (Reg.TIO_CFG_MODE 3) 1).wr
    Reg.TIO_LEVEL_LEVEL 8) (3) (false) := by
  beta_reduce
  and_intros <;> first | with_reducible rfl | decide +kernel

theorem witness_TimeAndPinCommands_10 : (fun (s : State) (n : Fin 16) (e : Nat) => s.hubOn = true ∧ 2 ≤ s.tioMode n ∧
    (s.tioPin n).endAt = some e ∧ (s.tioPin n).armed = false ∧ e ≤ (s.reading + s.tioDelay n).toNat) ((up.wr
    (Reg.TIO_CFG_MODE 3) 2).setTioPin 3 { endAt := some 0 }) (3) (0) := by
  beta_reduce
  and_intros <;> first | with_reducible rfl | decide +kernel

theorem witness_TimeAndPinCommands_11 : (fun (s : State) (n : Fin 16) => s.hubOn = true ∧ 2 ≤ s.tioMode n ∧ (s.tioPin
    n).endAt = none ∧ (s.tioPin n).armed = true ∧ s.merRun = true ∧ s.tioNext n ≤ (s.reading + s.tioDelay n).toNat)
    (((up.wr (Reg.TIO_CFG_MODE 3) 2).put Reg.MER_STAT_RUN true).setTioPin 3 { armed := true }) (3) := by
  beta_reduce
  and_intros <;> first | with_reducible rfl | decide +kernel

theorem witness_TunnelCommands_1 : (fun (s u : State) (r : Request) (q : Request) (t : Nat) (e f : BookEntry) (y :
    State) => s.passes 0x0400 q = true ∧ u = s.begun 0x0400 q ∧ q = requestWithByte r 0 0 ∧ 44 ≤ q.pkt.params.length ∧
    e = bookOf q.pkt.params ∧ u.createValid q.pkt.params e = true ∧ t = leAt q.pkt.params 4 2 ∧ t ≠ 65535 ∧ u.book t =
    none ∧ u.phaseOf t = none ∧ u.admits u.bookList e = true ∧ u.reachable e = true ∧ f =
    { e with tapUnits := (u.freeBytes e.taps.length).1.map (·.toNat) } ∧ y = (u.freeBytes e.taps.length).2.setBook t
    (some f)) (lineRoot) ((lineRoot.begun 0x0400 (requestWithByte (ask ([0, 1, 0, 0, 5, 0, 0, 1, 0x20, 0, 0x28, 0] ++
    zeros 16 ++ [1, 0, 1, 0, 1, 0, 1, 0] ++ zeros 8)) 0 0))) (ask ([0, 1, 0, 0, 5, 0, 0, 1, 0x20, 0, 0x28, 0] ++ zeros
    16 ++ [1, 0, 1, 0, 1, 0, 1, 0] ++ zeros 8)) (requestWithByte (ask ([0, 1, 0, 0, 5, 0, 0, 1, 0x20, 0, 0x28, 0] ++
    zeros 16 ++ [1, 0, 1, 0, 1, 0, 1, 0] ++ zeros 8)) 0 0) (5) (bookOf ([0, 1, 0, 0, 5, 0, 0, 1, 0x20, 0, 0x28, 0] ++
    zeros 16 ++ [1, 0, 1, 0, 1, 0, 1, 0] ++ zeros 8))
    ({ bookOf ([0, 1, 0, 0, 5, 0, 0, 1, 0x20, 0, 0x28, 0] ++ zeros 16 ++ [1, 0, 1, 0, 1, 0, 1, 0] ++ zeros 8) with tapUnits := ((((lineRoot.begun 0x0400 (requestWithByte (ask ([0, 1, 0, 0, 5, 0, 0, 1, 0x20, 0, 0x28, 0] ++ zeros 16 ++ [1, 0, 1, 0, 1, 0, 1, 0] ++ zeros 8)) 0 0))).freeBytes (bookOf ([0, 1, 0, 0, 5, 0, 0, 1, 0x20, 0, 0x28, 0] ++ zeros 16 ++ [1, 0, 1, 0, 1, 0, 1, 0] ++ zeros 8)).taps.length).1.map (·.toNat)) })
    (((((lineRoot.begun 0x0400 (requestWithByte (ask ([0, 1, 0, 0, 5, 0, 0, 1, 0x20, 0, 0x28, 0] ++ zeros 16 ++ [1, 0,
    1, 0, 1, 0, 1, 0] ++ zeros 8)) 0 0))).freeBytes (bookOf ([0, 1, 0, 0, 5, 0, 0, 1, 0x20, 0, 0x28, 0] ++ zeros 16 ++
    [1, 0, 1, 0, 1, 0, 1, 0] ++ zeros 8)).taps.length).2.setBook 5 (some
    { bookOf ([0, 1, 0, 0, 5, 0, 0, 1, 0x20, 0, 0x28, 0] ++ zeros 16 ++ [1, 0, 1, 0, 1, 0, 1, 0] ++ zeros 8) with tapUnits := ((((lineRoot.begun 0x0400 (requestWithByte (ask ([0, 1, 0, 0, 5, 0, 0, 1, 0x20, 0, 0x28, 0] ++ zeros 16 ++ [1, 0, 1, 0, 1, 0, 1, 0] ++ zeros 8)) 0 0))).freeBytes (bookOf ([0, 1, 0, 0, 5, 0, 0, 1, 0x20, 0, 0x28, 0] ++ zeros 16 ++ [1, 0, 1, 0, 1, 0, 1, 0] ++ zeros 8)).taps.length).1.map (·.toNat)) })))
    := by
  beta_reduce
  and_intros <;> first | with_reducible rfl | decide +kernel

theorem witness_TunnelCommands_2 : (fun (s u : State) (r : Request) (q : Request) (t : Nat) => s.passes 0x0400 q =
    true ∧ u = s.begun 0x0400 q ∧ q = requestWithByte r 0 1 ∧ 52 ≤ q.pkt.params.length ∧ t = leAt q.pkt.params 2 2 ∧ 2
    ≤ t ∧ t ≤ 1023 ∧ leAt q.pkt.params 1 1 = 0) (up) ((up.begun 0x0400 (requestWithByte (fromRoot ([1, 0, 5, 0] ++
    zeros 48)) 0 1))) (fromRoot ([1, 0, 5, 0] ++ zeros 48)) (requestWithByte (fromRoot ([1, 0, 5, 0] ++ zeros 48)) 0
    1) (5) := by
  beta_reduce
  and_intros <;> first | with_reducible rfl | decide +kernel

theorem witness_TunnelCommands_3 : (fun (s u : State) (r : Request) (q : Request) (t : Nat) => s.passes 0x0400 q =
    true ∧ u = s.begun 0x0400 q ∧ q = requestWithByte r 0 1 ∧ 52 ≤ q.pkt.params.length ∧ t = leAt q.pkt.params 2 2 ∧ 2
    ≤ t ∧ t ≤ 1023 ∧ leAt q.pkt.params 1 1 = 1 ∧ u.tidValid t = true ∧ u.rd (Reg.TUN_ENTRY_W0_STATE t) = 0 ∧
    ((List.range 4).all fun w => ((u.reg (Reg.TUN_ENTRY_W0_A t + 4 * w)).toNat &&& (if w == 0 then 0x1FBF3FFF else
    entryMask.getD w 0)) == (leAt (slice q.pkt.params 4 16) (4 * w) 4 &&& (if w == 0 then 0x1FBF3FFF else
    entryMask.getD w 0))) = true) (staged) ((staged.begun 0x0400 (requestWithByte (fromRoot ([1, 1, 5, 0] ++ zeros
    48)) 0 1))) (fromRoot ([1, 1, 5, 0] ++ zeros 48)) (requestWithByte (fromRoot ([1, 1, 5, 0] ++ zeros 48)) 0 1) (5)
    := by
  beta_reduce
  and_intros <;> first | with_reducible rfl | decide +kernel

theorem witness_TunnelCommands_4 : (fun (s u : State) (r : Request) (q : Request) (t : Nat) (e : BookEntry) =>
    s.passes 0x0402 q = true ∧ u = s.begun 0x0402 q ∧ q = requestWithByte r 0 0 ∧ 4 ≤ q.pkt.params.length ∧ t = leAt
    q.pkt.params 2 2 ∧ 2 ≤ t ∧ t ≤ 1023 ∧ u.phaseOf t = none ∧ u.book t = some e) (booked) ((booked.begun 0x0402
    (requestWithByte (ask [0, 0, 5, 0]) 0 0))) (ask [0, 0, 5, 0]) (requestWithByte (ask [0, 0, 5, 0]) 0 0) (5)
    (aTunnel) := by
  beta_reduce
  and_intros <;> first | with_reducible rfl | decide +kernel

theorem witness_TunnelCommands_5 : (fun (s u : State) (r : Request) (q : Request) (t : Nat) => s.passes 0x0402 q =
    true ∧ u = s.begun 0x0402 q ∧ q = requestWithByte r 0 1 ∧ 4 ≤ q.pkt.params.length ∧ t = leAt q.pkt.params 2 2 ∧ 2
    ≤ t ∧ t ≤ 1023 ∧ leAt q.pkt.params 1 1 = 0 ∧ u.tidValid t = true) (staged) ((staged.begun 0x0402 (requestWithByte
    (fromRoot [1, 0, 5, 0]) 0 1))) (fromRoot [1, 0, 5, 0]) (requestWithByte (fromRoot [1, 0, 5, 0]) 0 1) (5) := by
  beta_reduce
  and_intros <;> first | with_reducible rfl | decide +kernel

theorem witness_TunnelCommands_6 : (fun (s u : State) (r : Request) (q : Request) (t : Nat) => s.passes 0x0402 q =
    true ∧ u = s.begun 0x0402 q ∧ q = requestWithByte r 0 1 ∧ 4 ≤ q.pkt.params.length ∧ t = leAt q.pkt.params 2 2 ∧ 2
    ≤ t ∧ t ≤ 1023 ∧ leAt q.pkt.params 1 1 = 1) (staged) ((staged.begun 0x0402 (requestWithByte (fromRoot [1, 1, 5,
    0]) 0 1))) (fromRoot [1, 1, 5, 0]) (requestWithByte (fromRoot [1, 1, 5, 0]) 0 1) (5) := by
  beta_reduce
  and_intros <;> first | with_reducible rfl | decide +kernel

theorem witness_TunnelCommands_7 : (fun (s u : State) (r : Request) (q : Request) (t a : Nat) (e : BookEntry) (x :
    Rates) => s.passes 0x0401 q = true ∧ u = s.begun 0x0401 q ∧ q = requestWithByte r 0 0 ∧ 28 ≤ q.pkt.params.length ∧
    t = leAt q.pkt.params 2 2 ∧ 2 ≤ t ∧ t ≤ 1023 ∧ x = Rates.ofBytes (slice q.pkt.params 4 24) ∧ x.valid = true ∧
    u.book t = some e ∧ u.phaseOf t = none ∧ u.retunePending e = false ∧ (u.tunInfo t).prep = none ∧ (u.admits
    ((u.tun.books.filter fun b => b.1 != t).filterMap (·.2)) { e with rates := x } = true) ∧ a = (u.reading / (65536 :
    Int)).toNat + 1000000) (booked) ((booked.begun 0x0401 (requestWithByte (ask ([0, 0, 5, 0] ++ zeros 16 ++ [1, 0, 1,
    0, 1, 0, 1, 0])) 0 0))) (ask ([0, 0, 5, 0] ++ zeros 16 ++ [1, 0, 1, 0, 1, 0, 1, 0])) (requestWithByte (ask ([0, 0,
    5, 0] ++ zeros 16 ++ [1, 0, 1, 0, 1, 0, 1, 0])) 0 0) (5) ((((booked.begun 0x0401 (requestWithByte (ask ([0, 0, 5,
    0] ++ zeros 16 ++ [1, 0, 1, 0, 1, 0, 1, 0])) 0 0))).reading / (65536 : Int)).toNat + 1000000) (aTunnel)
    ({ cbsAb := 1, cbsBa := 1, pbsAb := 1, pbsBa := 1 }) := by
  beta_reduce
  and_intros <;> first | with_reducible rfl | decide +kernel

theorem witness_TunnelCommands_8 : (fun (s u : State) (r : Request) (q : Request) (t : Nat) (y : Prepared) => s.passes
    0x0401 q = true ∧ u = s.begun 0x0401 q ∧ q = requestWithByte r 0 1 ∧ 38 ≤ q.pkt.params.length ∧ t = leAt
    q.pkt.params 2 2 ∧ 2 ≤ t ∧ t ≤ 1023 ∧ u.tidValid t = true ∧ (u.tunInfo t).prep = none ∧ y =
    { rates := Rates.ofBytes (slice q.pkt.params 4 24),
      at_ := leAt q.pkt.params 28 6 * 1000000000 + leAt q.pkt.params 34 4 }) (staged) ((staged.begun 0x0401
    (requestWithByte (fromRoot ([1, 0, 5, 0] ++ zeros 34)) 0 1))) (fromRoot ([1, 0, 5, 0] ++ zeros 34))
    (requestWithByte (fromRoot ([1, 0, 5, 0] ++ zeros 34)) 0 1) (5) ({ rates := {}, at_ := 0 }) := by
  beta_reduce
  and_intros <;> first | with_reducible rfl | decide +kernel

theorem witness_TunnelCommands_9 : (fun (s u : State) (r : Request) (q : Request) (t : Nat) => s.passes 0x0401 q =
    true ∧ u = s.begun 0x0401 q ∧ q = requestWithByte r 0 2 ∧ 4 ≤ q.pkt.params.length ∧ t = leAt q.pkt.params 2 2)
    (staged) ((staged.begun 0x0401 (requestWithByte (fromRoot [2, 0, 5, 0]) 0 2))) (fromRoot [2, 0, 5, 0])
    (requestWithByte (fromRoot [2, 0, 5, 0]) 0 2) (5) := by
  beta_reduce
  and_intros <;> first | with_reducible rfl | decide +kernel

theorem witness_TunnelCommands_10 : (fun (s u : State) (r : Request) (t : Nat) => s.passes 0x0403 r = true ∧ u =
    s.begun 0x0403 r ∧ 2 ≤ r.pkt.params.length ∧ t = leAt r.pkt.params 0 2 ∧ t ≤ 1023 ∧ u.tidValid t = true ∧ u.isRoot
    = false) (staged) ((staged.begun 0x0403 (ask [5, 0]))) (ask [5, 0]) (5) := by
  beta_reduce
  and_intros <;> first | with_reducible rfl | decide +kernel

theorem witness_TunnelCommands_11 : (fun (s u : State) (r : Request) (t : Nat) (e : BookEntry) => s.passes 0x0403 r =
    true ∧ u = s.begun 0x0403 r ∧ 2 ≤ r.pkt.params.length ∧ t = leAt r.pkt.params 0 2 ∧ t ≤ 1023 ∧ u.tidValid t = true
    ∧ u.isRoot = true ∧ u.book t = some e ∧ e.retune = none) (bookedStaged) ((bookedStaged.begun 0x0403 (ask [5, 0])))
    (ask [5, 0]) (5) (aTunnel) := by
  beta_reduce
  and_intros <;> first | with_reducible rfl | decide +kernel

theorem witness_TunnelCommands_12 : (fun (s u : State) (r : Request) (q : Request) (n : Nat) (x : State × Bytes) =>
    s.passes 0x0404 q = true ∧ u = s.begun 0x0404 q ∧ q = requestWithByte r 0 2 ∧ 4 ≤ q.pkt.params.length ∧ n = leAt
    q.pkt.params 1 1 ∧ 1 ≤ n ∧ n ≤ 32 ∧ leAt q.pkt.params 2 1 = 0 ∧ u.isRoot = true ∧ u.hostTunnels = false ∧ x =
    u.sendChange 2 n 0) (lineRoot) ((lineRoot.begun 0x0404 (requestWithByte (ask [2, 1, 0, 0]) 0 2))) (ask [2, 1, 0,
    0]) (requestWithByte (ask [2, 1, 0, 0]) 0 2) (1) (((lineRoot.begun 0x0404 (requestWithByte (ask [2, 1, 0, 0]) 0
    2))).sendChange 2 1 0) := by
  beta_reduce
  and_intros <;> first | with_reducible rfl | decide +kernel

theorem witness_TunnelCommands_13 : (fun (s u : State) (r : Request) (q : Request) (n : Nat) (x : State × Bytes) =>
    s.passes 0x0404 q = true ∧ u = s.begun 0x0404 q ∧ q = requestWithByte r 0 0 ∧ 4 ≤ q.pkt.params.length ∧ n = leAt
    q.pkt.params 1 1 ∧ n ≤ 32 ∧ u.isRoot = true ∧ x = u.sendChange 0 n 0) (lineRoot) ((lineRoot.begun 0x0404
    (requestWithByte (ask [0, 1, 0, 0]) 0 0))) (ask [0, 1, 0, 0]) (requestWithByte (ask [0, 1, 0, 0]) 0 0) (1)
    (((lineRoot.begun 0x0404 (requestWithByte (ask [0, 1, 0, 0]) 0 0))).sendChange 0 1 0) := by
  beta_reduce
  and_intros <;> first | with_reducible rfl | decide +kernel

theorem witness_TunnelCommands_14 : (fun (s u : State) (r : Request) (q : Request) (n : Nat) (x : State × Bytes) =>
    s.passes 0x0404 q = true ∧ u = s.begun 0x0404 q ∧ q = requestWithByte r 0 1 ∧ 4 ≤ q.pkt.params.length ∧ n = leAt
    q.pkt.params 1 1 ∧ n ≤ 32 ∧ u.isRoot = true ∧ x = u.sendChange 1 n 0) (lineRoot) ((lineRoot.begun 0x0404
    (requestWithByte (ask [1, 1, 0, 0]) 0 1))) (ask [1, 1, 0, 0]) (requestWithByte (ask [1, 1, 0, 0]) 0 1) (1)
    (((lineRoot.begun 0x0404 (requestWithByte (ask [1, 1, 0, 0]) 0 1))).sendChange 1 1 0) := by
  beta_reduce
  and_intros <;> first | with_reducible rfl | decide +kernel

theorem witness_TunnelCommands_15 : (fun (s u : State) (r : Request) (n : Nat) (y : State) => s.passes 0x0405 r = true
    ∧ u = s.begun 0x0405 r ∧ 4 ≤ r.pkt.params.length ∧ leAt r.pkt.params 1 1 = 0 ∧ u.cmd.jobs.length < 2 ∧ r.via ≠
    .tid0 ∧ n = u.cmd.lastJob % 255 + 1 ∧ (y = u.withCmd fun c =>
    { c with jobs := c.jobs ++ [{ num := n, opcode := 0x0405, kind := .audit (leAt r.pkt.params 0 1) 0 none }],
             lastJob := n })) (up) ((up.begun 0x0405 (ask [255, 0, 0, 0]))) (ask [255, 0, 0, 0]) (1) (((up.begun
    0x0405 (ask [255, 0, 0, 0]))).withCmd fun c =>
    { c with jobs := c.jobs ++ [{ num := 1, opcode := 0x0405, kind := .audit 255 0 none }], lastJob := 1 }) := by
  beta_reduce
  and_intros <;> first | with_reducible rfl | decide +kernel

theorem witness_TunnelCommands_16 : (fun (s u : State) (r : Request) (t : Nat) => s.passes 0x0406 r = true ∧ u =
    s.begun 0x0406 r ∧ 4 ≤ r.pkt.params.length ∧ t = leAt r.pkt.params 0 1 ∧ t ≤ 1 ∧ leAt r.pkt.params 1 1 = 255 ∧
    u.flag (Reg.TLK_CTRL_ENABLED t) = false) ((up.put (Reg.TLK_CTRL_ENABLED 0) false)) (((up.put (Reg.TLK_CTRL_ENABLED
    0) false).begun 0x0406 (ask [0, 255, 0, 0]))) (ask [0, 255, 0, 0]) (0) := by
  beta_reduce
  and_intros <;> first | with_reducible rfl | decide +kernel

theorem witness_TunnelCommands_17 : (fun (s u : State) (r : Request) (t : Nat) => s.passes 0x0407 r = true ∧ u =
    s.begun 0x0407 r ∧ 4 ≤ r.pkt.params.length ∧ t = leAt r.pkt.params 0 1 ∧ t ≤ 1) (up) ((up.begun 0x0407 (ask [1, 0,
    0, 0]))) (ask [1, 0, 0, 0]) (1) := by
  beta_reduce
  and_intros <;> first | with_reducible rfl | decide +kernel

theorem witness_TunnelAndRouteEvents_1 : (fun (s : State) (n : Fin 33) (b : Bytes) (p : Phase) (l : List Phase) =>
    s.hubOn = true ∧ s.tun.phases = p :: l ∧ p.seq = (parsePacket b).seq ∧ n.val ∈ p.waiting ∧ (parsePacket b).status
    = 0) (staging) (1) (hopOk) (aPhase) ([]) := by
  beta_reduce
  and_intros <;> first | with_reducible rfl | decide +kernel

theorem witness_TunnelAndRouteEvents_2 : (fun (s : State) (n : Fin 33) (b : Bytes) (p : Phase) (l : List Phase) =>
    s.hubOn = true ∧ s.tun.phases = p :: l ∧ p.seq = (parsePacket b).seq ∧ n.val ∈ p.waiting ∧ (parsePacket b).status
    ≠ 0 ∧ p.failed = none) (staging) (1) (hopBad) (aPhase) ([]) := by
  beta_reduce
  and_intros <;> first | with_reducible rfl | decide +kernel

theorem witness_TunnelAndRouteEvents_3 : (fun (s : State) (t : Fin 1024) (p : Phase) => s.hubOn = true ∧ s.phaseOf t =
    some p ∧ p.kind ≠ .drain) (staging) (5) (aPhase) := by
  beta_reduce
  and_intros <;> first | with_reducible rfl | decide +kernel

theorem witness_TunnelAndRouteEvents_4 : (fun (s : State) (t : Fin 1024) (p : Phase) (e : BookEntry) => s.hubOn = true
    ∧ s.phaseOf t = some p ∧ p.kind = .drain ∧ p.entry = some e) (draining) (5) ({ aPhase with kind := .drain })
    (aTunnel) := by
  beta_reduce
  and_intros <;> first | with_reducible rfl | decide +kernel

theorem witness_TunnelAndRouteEvents_5 : (fun (s : State) => s.hubOn = true) (up) := by
  beta_reduce
  decide +kernel

theorem witness_TunnelAndRouteEvents_6 : (fun (s : State) (n : Fin 33) (a : LineAudit) => s.hubOn = true ∧ s.tun.audit
    = some a ∧ n.val ∈ a.waiting ∧ n.val ≠ 32)
    ({ atRoot with tun := { audit := some { job := 1, seq := 1, waiting := [3] } } }) (3)
    ({ job := 1, seq := 1, waiting := [3] }) := by
  beta_reduce
  and_intros <;> first | with_reducible rfl | decide +kernel

theorem witness_TunnelAndRouteEvents_7 : (fun (s : State) (v : Transport) (t : Nat) (l : List Waiting) => s.hubOn =
    true ∧ s.cmd.waiting = { via := v, act := .trunkDisable t, handed := true } :: l)
    ({ up with cmd := { waiting := [{ via := .mgmt, act := .trunkDisable 1, handed := true }] } }) (.mgmt) (1) ([]) :=
    by
  beta_reduce
  and_intros <;> first | with_reducible rfl | decide +kernel

theorem witness_TunnelAndRouteEvents_8 : (fun (s y : State) (b : Bytes) => s.hubOn = true ∧ s.isRoot = false ∧
    s.position = 0 ∧ 1 ≤ leAt b 1 1 ∧ leAt b 1 1 ≤ 32 ∧ y = ((((s.count 0x056).setPosition (leAt b 1
    1)).rerouted).sendRecord none 0 ([0xE2, byte (leAt b 1 1)] ++ le 4 (((s.count 0x056).setPosition (leAt b 1
    1)).rerouted.reg Reg.SYS_ID_A).toNat)) ∧ y.mode ≠ 0 ∧ leAt b 1 1 < 32 ∧ y.linkActive 1 = true) (lined)
    (((((lined.count 0x056).setPosition 3).rerouted).sendRecord none 0 ([0xE2, 3] ++ le 4 (((lined.count
    0x056).setPosition 3).rerouted.reg Reg.SYS_ID_A).toNat))) ([0xE1, 3]) := by
  beta_reduce
  and_intros <;> first | with_reducible rfl | decide +kernel

theorem witness_TunnelAndRouteEvents_9 : (fun (s : State) => s.hubOn = true ∧ s.isRoot = true) (atRoot) := by
  beta_reduce
  and_intros <;> first | with_reducible rfl | decide +kernel

theorem witness_TunnelAndRouteEvents_10 : (fun (s : State) => s.hubOn = true ∧ s.isRoot = false) (up) := by
  beta_reduce
  and_intros <;> first | with_reducible rfl | decide +kernel

theorem witness_TunnelAndRouteEvents_11 : (fun (s : State) (b : Bytes) => s.hubOn = true ∧ s.recordSeen b = false ∧
    leAt b 1 1 ≤ 32) (up) ([0xE3, 1, 2, 0]) := by
  beta_reduce
  and_intros <;> first | with_reducible rfl | decide +kernel

theorem witness_TunnelAndRouteEvents_12 : (fun (s : State) (b : Bytes) => s.hubOn = true ∧ s.recordSeen b = false)
    (up) ([0xE4, 1, 2, 0]) := by
  beta_reduce
  and_intros <;> first | with_reducible rfl | decide +kernel

theorem witness_TunnelAndRouteEvents_13 : (fun (s : State) (b : Bytes) => s.hubOn = true ∧ s.recordSeen b = false)
    (up) ([0xE5, 1, 2, 0]) := by
  beta_reduce
  and_intros <;> first | with_reducible rfl | decide +kernel

theorem witness_TunnelAndRouteEvents_14 : (fun (s : State) (k : BitVec 16) (c : RouteChange) (l : List RouteChange) =>
    s.hubOn = true ∧ s.tun.pendingChanges = c :: l ∧ c.number = k.toNat ∧ ((c.at_ * 65536 : Nat) : Int) ≤ s.reading)
    ({ lineRoot with tun := { pendingChanges := [{ op := 0, value := 1, ring := false, at_ := 0, number := 7 }] } })
    (7) ({ op := 0, value := 1, ring := false, at_ := 0, number := 7 }) ([]) := by
  beta_reduce
  and_intros <;> first | with_reducible rfl | decide +kernel

theorem witness_TunnelAndRouteEvents_15 : (fun (s : State) => s.hubOn = true) (up) := by
  beta_reduce
  decide +kernel

theorem witness_TunnelAndRouteEvents_16 : (fun (s y w z : State) (t : Fin 2) (i : Nat) => s.hubOn = true ∧ s.rd
    (Reg.TLK_STAT_LSTATE t) = 0 ∧ (s.link t).served = true ∧ (y = (s.withLink t fun l =>
    { l with served := false }).flushTrunk t) ∧ y.cutIndex t = some i ∧ w = (if bit y.cutSet i = true then y else
    y.setCut i true).notice 0x0401 [byte i, 0] ∧ z = w.sendRecord (some (1 - t.val)) 63 [0xE3, byte i, byte
    w.position, 0]) (downed) (((downed.withLink 1 fun l => { l with served := false }).flushTrunk 1))
    (((((downed.withLink 1 fun l => { l with served := false }).flushTrunk 1).setCut 3 true).notice 0x0401 [3, 0]))
    (((((downed.withLink 1 fun l => { l with served := false }).flushTrunk 1).setCut 3 true).notice 0x0401 [3,
    0]).sendRecord (some 0) 63 [0xE3, 3, 3, 0]) (1) (3) := by
  beta_reduce
  and_intros <;> first | with_reducible rfl | decide +kernel

theorem witness_TunnelAndRouteEvents_17 : (fun (s : State) (t : Fin 2) (i k : Nat) (l : List (Nat × Nat × Nat)) =>
    s.hubOn = true ∧ s.tun.repeats = (i, t.val, k) :: l ∧ k < 2) ({ lined with tun := { repeats := [(3, 0, 1)] } })
    (0) (3) (1) ([]) := by
  beta_reduce
  and_intros <;> first | with_reducible rfl | decide +kernel

theorem witness_TunnelAndRouteEvents_18 : (fun (s y : State) (t : Fin 2) (i : Nat) (l : List (Nat × Nat × Nat)) =>
    s.hubOn = true ∧ s.tun.repeats = (i, t.val, 2) :: l ∧ y = s.sendRecord (some t.val) 63 [0xE3, byte i, byte
    s.position, 2]) ({ lined with tun := { repeats := [(3, 0, 2)] } })
    ({ lined with tun := { repeats := [(3, 0, 2)] } }.sendRecord (some 0) 63 [0xE3, 3, byte
    { lined with tun := { repeats := [(3, 0, 2)] } }.position, 2]) (0) (3) ([]) := by
  beta_reduce
  and_intros <;> first | with_reducible rfl | decide +kernel

theorem witness_EfuseEvents_1 : (fun (s : State) (n : Fin 8) => s.nib.on = true ∧ s.rd (Reg.EFU_CH_CTRL_SRC n) = 1)
    (up.wr (Reg.EFU_CH_CTRL_SRC 2) 1) (2) := by
  beta_reduce
  and_intros <;> first | with_reducible rfl | decide +kernel

theorem witness_EfuseEvents_2 : (fun (s : State) (n : Fin 8) => s.nib.on = true ∧ s.rd (Reg.EFU_CH_CTRL_SRC n) = 2)
    (up.wr (Reg.EFU_CH_CTRL_SRC 5) 2) (5) := by
  beta_reduce
  and_intros <;> first | with_reducible rfl | decide +kernel

theorem witness_EfuseEvents_3 : (fun (s : State) (n : Fin 8) => s.nib.on = true ∧ n ≠ 0) (up) (2) := by
  beta_reduce
  and_intros <;> first | with_reducible rfl | decide +kernel

theorem witness_EfuseEvents_4 : (fun (s : State) (x : FuseSample) => s.nib.on = true ∧ (s.sensed 0 x).intakeOk = false
    ∧ (s.sensed 0 x).fuseWindow 0 x.vin = true) (up) ({ vin := 4800 }) := by
  beta_reduce
  and_intros <;> first | with_reducible rfl | decide +kernel

theorem witness_EfuseEvents_5 : (fun (s : State) (n : Fin 8) => s.nib.on = true ∧ 1 ≤ n.val ∧ n.val ≤ 3) (up) (2) :=
    by
  beta_reduce
  and_intros <;> first | with_reducible rfl | decide +kernel

theorem witness_EfuseEvents_6 : (fun (s : State) (n : Fin 8) => s.nib.on = true ∧ s.fuseState n = 3 ∧ s.fuseInserted n
    = true) (inserted) (2) := by
  beta_reduce
  and_intros <;> first | with_reducible rfl | decide +kernel

theorem witness_EfuseEvents_7 : (fun (s : State) (n : Fin 8) => s.nib.on = true ∧ s.fuseState n = 4) ((up.wr
    (Reg.EFU_CH_STAT_STATE 2) 4)) (2) := by
  beta_reduce
  and_intros <;> first | with_reducible rfl | decide +kernel

theorem witness_EfuseEvents_8 : (fun (s : State) (n : Fin 8) (x : FuseSample) => s.nib.on = true ∧ s.fuseState n = 5 ∧
    (s.fuse n).deciding = false ∧ x.vds < 300) ((up.wr (Reg.EFU_CH_STAT_STATE 2) 5)) (2) ({ vds := 299 }) := by
  beta_reduce
  and_intros <;> first | with_reducible rfl | decide +kernel

theorem witness_EfuseEvents_9 : (fun (s : State) (n : Fin 8) => s.nib.on = true ∧ s.fuseState n = 5 ∧ (s.fuse
    n).deciding = false) ((up.wr (Reg.EFU_CH_STAT_STATE 2) 5)) (2) := by
  beta_reduce
  and_intros <;> first | with_reducible rfl | decide +kernel

theorem witness_EfuseEvents_10 : (fun (s : State) (n : Fin 8) (k : Fin 16) (p : Bytes) => s.nib.on = true ∧
    s.fuseState n = 6 ∧ (s.fuse n).deciding = false ∧ s.fuseProfile n = some p ∧ k.val < profPoints p) ((up.wr
    (Reg.EFU_CH_STAT_STATE 1) 6)) (1) (0) (romProfile) := by
  beta_reduce
  and_intros <;> first | with_reducible rfl | decide +kernel

theorem witness_EfuseEvents_11 : (fun (s : State) (n : Fin 8) => s.nib.on = true ∧ (s.fuseState n = 5 ∨ s.fuseState n
    = 6) ∧ (s.fuse n).deciding = false) ((up.wr (Reg.EFU_CH_STAT_STATE 2) 6)) (2) := by
  beta_reduce
  and_intros <;> first | with_reducible rfl | decide +kernel

theorem witness_EfuseEvents_12 : (fun (s : State) (n : Fin 8) (p : Bytes) => s.nib.on = true ∧ (s.fuseState n = 5 ∨
    s.fuseState n = 6) ∧ (s.fuse n).deciding = false ∧ s.fuseProfile n = some p) ((up.wr (Reg.EFU_CH_STAT_STATE 1) 6))
    (1) (romProfile) := by
  beta_reduce
  and_intros <;> first | with_reducible rfl | decide +kernel

theorem witness_EfuseEvents_13 : (fun (s : State) (n : Fin 8) => s.nib.on = true ∧ (s.fuse n).deciding = true)
    (up.withFuse 3 fun f => { f with deciding := true }) (3) := by
  beta_reduce
  and_intros <;> first | with_reducible rfl | decide +kernel

theorem witness_EfuseEvents_14 : (fun (s y : State) (n : Fin 8) => s.nib.on = true ∧ s.fuseState n = 7 ∧ n.val < 4 ∧ y
    = s.wr (Reg.EFU_CH_RETRY_HOLD_LEFT_MS n) 0) ((up.wr (Reg.EFU_CH_STAT_STATE 2) 7)) ((up.wr (Reg.EFU_CH_STAT_STATE
    2) 7).wr (Reg.EFU_CH_RETRY_HOLD_LEFT_MS 2) 0) (2) := by
  beta_reduce
  and_intros <;> first | with_reducible rfl | decide +kernel

theorem witness_EfuseEvents_15 : (fun (s : State) (n : Fin 8) (x : FuseSample) (p : Bytes) => s.nib.on = true ∧
    s.fuseState n = 6 ∧ (s.fuse n).deciding = false ∧ s.flag (Reg.EFU_CH_STAT_PG n) = false ∧ s.fuseProfile n = some p
    ∧ x.vds ≤ profVdsMax p ∧ s.fuseOutputOk n x.vout = true ∧ n.val < 4) ((up.wr (Reg.EFU_CH_STAT_STATE 1) 6)) (1)
    ({ vin := 4800, vout := 4800 }) (romProfile) := by
  beta_reduce
  and_intros <;> first | with_reducible rfl | decide +kernel

theorem witness_EfuseEvents_16 : (fun (s : State) (n : Fin 8) (x : FuseSample) (p : Bytes) => s.nib.on = true ∧
    s.fuseState n = 6 ∧ s.flag (Reg.EFU_CH_STAT_PG n) = true ∧ s.fuseProfile n = some p ∧ (profVdsMax p < x.vds ∨
    s.fuseOutputOk n x.vout = false)) ((up.wr (Reg.EFU_CH_STAT_STATE 1) 6).put (Reg.EFU_CH_STAT_PG 1) true) (1)
    ({ vds := 5000 }) (romProfile) := by
  beta_reduce
  and_intros <;> first | with_reducible rfl | decide +kernel

theorem witness_EfuseEvents_17 : (fun (s : State) (n : Fin 8) => s.nib.on = true ∧ s.flag (Reg.EFU_CH_STAT_PG n) =
    true ∧ s.rd (Reg.EFU_CH_RETRY_USED n) ≠ 0) ((up.put (Reg.EFU_CH_STAT_PG 1) true).wr (Reg.EFU_CH_RETRY_USED 1) 2)
    (1) := by
  beta_reduce
  and_intros <;> first | with_reducible rfl | decide +kernel

theorem witness_EfuseEvents_18 : (fun (s : State) (n : Fin 8) (x : FuseSample) (y : State) => s.nib.on = true ∧
    s.fuseState n = 6 ∧ (s.fuse n).deciding = false ∧ n.val < 4 ∧ y = (((((s.sensed n x).wr (Reg.EFU_CH_STAT_CAUSE n)
    7).wr (Reg.EFU_CH_RETRY_HOLD_LEFT_MS n) 0))) ∧ y.fuseState n ≠ 8) ((up.wr (Reg.EFU_CH_STAT_STATE 1) 6)) (1) ({})
    (((((up.wr (Reg.EFU_CH_STAT_STATE 1) 6).sensed 1 {}).wr (Reg.EFU_CH_STAT_CAUSE 1) 7).wr
    (Reg.EFU_CH_RETRY_HOLD_LEFT_MS 1) 0)) := by
  beta_reduce
  and_intros <;> first | with_reducible rfl | decide +kernel

theorem witness_EfuseEvents_19 : (fun (s : State) (n : Fin 8) (x : FuseSample) (p o : Bytes) => s.nib.on = true ∧
    (s.fuse n).shadow = some p ∧ s.fuseProfile n = some o ∧ s.fuseState n = 6 ∧ (s.fuse n).deciding = false ∧ x.i ≤
    min (profI p 0) (profI o 0) ∧ (s.fuse n).timers.all (· == 0) = true) ((up.wr (Reg.EFU_CH_STAT_STATE 1) 6).withFuse
    1 fun f => { f with shadow := some romProfile }) (1) ({}) (romProfile) (romProfile) := by
  beta_reduce
  and_intros <;> first | with_reducible rfl | decide +kernel

theorem witness_PowerAndTestCommands_1 : (fun (s u : State) (r : Request) (q : Request) (n : Nat) (t : State) =>
    s.passes 0x0803 q = true ∧ u = s.begun 0x0803 q ∧ q = requestWithByte r 1 0 ∧ 4 ≤ q.pkt.params.length ∧ n = leAt
    q.pkt.params 0 1 ∧ n ≤ 7 ∧ u.mode ≠ 0 ∧ u.nib.underTest.contains (0x70 + n) = false ∧ u.rd (Reg.EFU_CH_CTRL_SRC n)
    = 0 ∧ (t = ((u.fuseAsk n fun x => { x with byCommand := false }).fuseServes n))) (src0) ((src0.begun 0x0803
    (requestWithByte (ask [1, 0, 0, 0]) 1 0))) (ask [1, 0, 0, 0]) (requestWithByte (ask [1, 0, 0, 0]) 1 0) (1)
    (((((src0.begun 0x0803 (requestWithByte (ask [1, 0, 0, 0]) 1 0))).fuseAsk 1 fun x =>
    { x with byCommand := false }).fuseServes 1)) := by
  beta_reduce
  and_intros <;> first | with_reducible rfl | decide +kernel

theorem witness_PowerAndTestCommands_2 : (fun (s u : State) (r : Request) (q : Request) (n : Nat) (t : State) =>
    s.passes 0x0803 q = true ∧ u = s.begun 0x0803 q ∧ q = requestWithByte r 1 1 ∧ 4 ≤ q.pkt.params.length ∧ n = leAt
    q.pkt.params 0 1 ∧ n ≤ 7 ∧ u.mode ≠ 0 ∧ u.nib.underTest.contains (0x70 + n) = false ∧ u.rd (Reg.EFU_CH_CTRL_SRC n)
    = 0 ∧ u.fuseState n ≠ 1 ∧ (t = ((u.fuseAsk n fun x => { x with byCommand := true }).fuseServes n))) (src0)
    ((src0.begun 0x0803 (requestWithByte (ask [1, 0, 0, 0]) 1 1))) (ask [1, 0, 0, 0]) (requestWithByte (ask [1, 0, 0,
    0]) 1 1) (1) (((((src0.begun 0x0803 (requestWithByte (ask [1, 0, 0, 0]) 1 1))).fuseAsk 1 fun x =>
    { x with byCommand := true }).fuseServes 1)) := by
  beta_reduce
  and_intros <;> first | with_reducible rfl | decide +kernel

theorem witness_PowerAndTestCommands_3 : (fun (s u : State) (r : Request) (q : Request) (n : Nat) (t y : State) =>
    s.passes 0x0803 q = true ∧ u = s.begun 0x0803 q ∧ q = requestWithByte r 1 2 ∧ 4 ≤ q.pkt.params.length ∧ n = leAt
    q.pkt.params 0 1 ∧ n ≤ 7 ∧ u.mode ≠ 0 ∧ u.fuseState n = 8 ∧ n < 4 ∧ y = ((u.fuseCountsReset n).clearShort n) ∧ t =
    (((y.fuseGo n (if (y.fuseProfile n).isNone then 1 else if y.fuseRequested n then 2 else 0)).fuseFollow
    n).fuseServes n)) (latched) ((latched.begun 0x0803 (requestWithByte (ask [1, 0, 0, 0]) 1 2))) (ask [1, 0, 0, 0])
    (requestWithByte (ask [1, 0, 0, 0]) 1 2) (1) (((((((latched.begun 0x0803 (requestWithByte (ask [1, 0, 0, 0]) 1
    2))).fuseCountsReset 1).clearShort 1).fuseGo 1 (if ((((((latched.begun 0x0803 (requestWithByte (ask [1, 0, 0, 0])
    1 2))).fuseCountsReset 1).clearShort 1)).fuseProfile 1).isNone then 1 else if ((((latched.begun 0x0803
    (requestWithByte (ask [1, 0, 0, 0]) 1 2))).fuseCountsReset 1).clearShort 1).fuseRequested 1 then 2 else
    0)).fuseFollow 1).fuseServes 1) (((((latched.begun 0x0803 (requestWithByte (ask [1, 0, 0, 0]) 1
    2))).fuseCountsReset 1).clearShort 1)) := by
  beta_reduce
  and_intros <;> first | with_reducible rfl | decide +kernel

theorem witness_PowerAndTestCommands_4 : (fun (s u : State) (r : Request) (q : Request) (n : Nat) (t : State) =>
    s.passes 0x0803 q = true ∧ u = s.begun 0x0803 q ∧ q = requestWithByte r 1 2 ∧ 4 ≤ q.pkt.params.length ∧ n = leAt
    q.pkt.params 0 1 ∧ n ≤ 7 ∧ u.mode ≠ 0 ∧ u.fuseState n = 0 ∧ t = ((u.fuseCountsReset n).clearShort n)) ((up.wr
    (Reg.EFU_CH_STAT_STATE 1) 0)) (((up.wr (Reg.EFU_CH_STAT_STATE 1) 0).begun 0x0803 (requestWithByte (ask [1, 0, 0,
    0]) 1 2))) (ask [1, 0, 0, 0]) (requestWithByte (ask [1, 0, 0, 0]) 1 2) (1) ((((((up.wr (Reg.EFU_CH_STAT_STATE 1)
    0).begun 0x0803 (requestWithByte (ask [1, 0, 0, 0]) 1 2))).fuseCountsReset (1 : Nat)).clearShort (1 : Nat))) := by
  beta_reduce
  and_intros <;> first | with_reducible rfl | decide +kernel

theorem witness_PowerAndTestCommands_5 : (fun (s u : State) (r : Request) (q : Request) (n : Nat) => s.passes 0x0803 q
    = true ∧ u = s.begun 0x0803 q ∧ q = requestWithByte r 1 3 ∧ 4 ≤ q.pkt.params.length ∧ n = leAt q.pkt.params 0 1 ∧
    n ≤ 7 ∧ u.mode ≠ 0) (up) ((up.begun 0x0803 (requestWithByte (ask [1, 0, 0, 0]) 1 3))) (ask [1, 0, 0, 0])
    (requestWithByte (ask [1, 0, 0, 0]) 1 3) (1) := by
  beta_reduce
  and_intros <;> first | with_reducible rfl | decide +kernel

theorem witness_PowerAndTestCommands_6 : (fun (s u : State) (r : Request) (q : Request) (n : Nat) => s.passes 0x0803 q
    = true ∧ u = s.begun 0x0803 q ∧ q = requestWithByte r 1 4 ∧ 4 ≤ q.pkt.params.length ∧ n = leAt q.pkt.params 0 1 ∧
    n ≤ 7 ∧ u.mode ≠ 0 ∧ u.mode = 5 ∧ u.nib.underTest.contains (0x70 + n) = true ∧ u.fuseState n = 0) (testing1)
    ((testing1.begun 0x0803 (requestWithByte (ask [1, 0, 0, 0]) 1 4))) (ask [1, 0, 0, 0]) (requestWithByte (ask [1, 0,
    0, 0]) 1 4) (1) := by
  beta_reduce
  and_intros <;> first | with_reducible rfl | decide +kernel

theorem witness_PowerAndTestCommands_7 : (fun (s u : State) (r : Request) (n : Nat) (p : Bytes) => s.passes 0x0804 r =
    true ∧ u = s.begun 0x0804 r ∧ 172 ≤ r.pkt.params.length ∧ n = leAt r.pkt.params 0 1 ∧ n ≤ 7 ∧ p = slice
    r.pkt.params 4 168 ∧ profileOk n p = true ∧ u.mode ≠ 0 ∧ leAt r.pkt.params 1 1 = 0) (up) ((up.begun 0x0804 (ask
    ([1, 0, 0, 0] ++ romProfile)))) (ask ([1, 0, 0, 0] ++ romProfile)) (1) (romProfile) := by
  beta_reduce
  and_intros <;> first | with_reducible rfl | decide +kernel

theorem witness_PowerAndTestCommands_8 : (fun (s u : State) (r : Request) (p : Bytes) => s.passes 0x0805 r = true ∧ u
    = s.begun 0x0805 r ∧ 80 ≤ r.pkt.params.length ∧ p = tableStored r.pkt.params ∧ tableOk (r.pkt.params.take 80) =
    true ∧ u.countedMw ≤ leAt p 4 4 ∧ bit (leAt p 0 1) 0 = false) (up) ((up.begun 0x0805 (ask ([0, 1, 0, 0] ++ le 4
    100000 ++ (List.range 4).flatMap (fun _ => [1, 2, 0, 0] ++ le 4 15000 ++ le 2 300 ++ zeros 6) ++ zeros 8)))) (ask
    ([0, 1, 0, 0] ++ le 4 100000 ++ (List.range 4).flatMap (fun _ => [1, 2, 0, 0] ++ le 4 15000 ++ le 2 300 ++ zeros
    6) ++ zeros 8)) (tableStored ([0, 1, 0, 0] ++ le 4 100000 ++ (List.range 4).flatMap (fun _ => [1, 2, 0, 0] ++ le 4
    15000 ++ le 2 300 ++ zeros 6) ++ zeros 8)) := by
  beta_reduce
  and_intros <;> first | with_reducible rfl | decide +kernel

theorem witness_PowerAndTestCommands_9 : (fun (s u : State) (r : Request) (q : Request) (n : Nat) (t : State) =>
    s.passes 0x0806 q = true ∧ u = s.begun 0x0806 q ∧ q = requestWithByte r 1 0 ∧ 4 ≤ q.pkt.params.length ∧ n = leAt
    q.pkt.params 0 1 ∧ n ≤ 3 ∧ u.mode ≠ 0 ∧ (t = ((u.withTcPort n fun x => { x with disabled := true }).tcFollow n)))
    (up) ((up.begun 0x0806 (requestWithByte (ask [1, 0, 0, 0]) 1 0))) (ask [1, 0, 0, 0]) (requestWithByte (ask [1, 0,
    0, 0]) 1 0) (1) ((((up.begun 0x0806 (requestWithByte (ask [1, 0, 0, 0]) 1 0)).withTcPort 1 fun x =>
    { x with disabled := true }).tcFollow 1)) := by
  beta_reduce
  and_intros <;> first | with_reducible rfl | decide +kernel

theorem witness_PowerAndTestCommands_10 : (fun (s u : State) (r : Request) (q : Request) (n : Nat) (t : State) =>
    s.passes 0x0806 q = true ∧ u = s.begun 0x0806 q ∧ q = requestWithByte r 1 1 ∧ 4 ≤ q.pkt.params.length ∧ n = leAt
    q.pkt.params 0 1 ∧ n ≤ 3 ∧ u.mode ≠ 0 ∧ entryEn (u.tcPort n).entry = true ∧ (t = ((u.withTcPort n fun x =>
    { x with disabled := false }).tcFollow n))) (tabled) ((tabled.begun 0x0806 (requestWithByte (ask [1, 0, 0, 0]) 1
    1))) (ask [1, 0, 0, 0]) (requestWithByte (ask [1, 0, 0, 0]) 1 1) (1) ((((tabled.begun 0x0806 (requestWithByte (ask
    [1, 0, 0, 0]) 1 1)).withTcPort 1 fun x => { x with disabled := false }).tcFollow 1)) := by
  beta_reduce
  and_intros <;> first | with_reducible rfl | decide +kernel

theorem witness_PowerAndTestCommands_11 : (fun (s u : State) (r : Request) (q : Request) (n : Nat) (t : State) =>
    s.passes 0x0806 q = true ∧ u = s.begun 0x0806 q ∧ q = requestWithByte r 1 2 ∧ 4 ≤ q.pkt.params.length ∧ n = leAt
    q.pkt.params 0 1 ∧ n ≤ 3 ∧ u.mode ≠ 0 ∧ (u.tcState n = 4 ∨ u.tcState n = 5) ∧ t = (u.sendOffer n)) (attached)
    ((attached.begun 0x0806 (requestWithByte (ask [1, 0, 0, 0]) 1 2))) (ask [1, 0, 0, 0]) (requestWithByte (ask [1, 0,
    0, 0]) 1 2) (1) (((attached.begun 0x0806 (requestWithByte (ask [1, 0, 0, 0]) 1 2)).sendOffer 1)) := by
  beta_reduce
  and_intros <;> first | with_reducible rfl | decide +kernel

theorem witness_PowerAndTestCommands_12 : (fun (s u : State) (r : Request) (q : Request) (n : Nat) (t : State) =>
    s.passes 0x0806 q = true ∧ u = s.begun 0x0806 q ∧ q = requestWithByte r 1 3 ∧ 4 ≤ q.pkt.params.length ∧ n = leAt
    q.pkt.params 0 1 ∧ n ≤ 3 ∧ u.mode ≠ 0 ∧ u.tcLive n = true ∧ t = (u.pdHardReset n 3)) (attached) ((attached.begun
    0x0806 (requestWithByte (ask [1, 0, 0, 0]) 1 3))) (ask [1, 0, 0, 0]) (requestWithByte (ask [1, 0, 0, 0]) 1 3) (1)
    (((attached.begun 0x0806 (requestWithByte (ask [1, 0, 0, 0]) 1 3)).pdHardReset 1 3)) := by
  beta_reduce
  and_intros <;> first | with_reducible rfl | decide +kernel

theorem witness_PowerAndTestCommands_13 : (fun (s u : State) (r : Request) (q : Request) (n : Nat) (t : State) =>
    s.passes 0x0806 q = true ∧ u = s.begun 0x0806 q ∧ q = requestWithByte r 1 4 ∧ 4 ≤ q.pkt.params.length ∧ n = leAt
    q.pkt.params 0 1 ∧ n ≤ 3 ∧ u.mode ≠ 0 ∧ t = u) (up) ((up.begun 0x0806 (requestWithByte (ask [1, 0, 0, 0]) 1 4)))
    (ask [1, 0, 0, 0]) (requestWithByte (ask [1, 0, 0, 0]) 1 4) (1) ((up.begun 0x0806 (requestWithByte (ask [1, 0, 0,
    0]) 1 4))) := by
  beta_reduce
  and_intros <;> first | with_reducible rfl | decide +kernel

theorem witness_PowerAndTestCommands_14 : (fun (s u : State) (r : Request) (t : Nat) => s.passes 0x0902 r = true ∧ u =
    s.begun 0x0902 r ∧ 12 ≤ r.pkt.params.length ∧ t = leAt r.pkt.params 0 1 ∧ t ≤ 1 ∧ u.trunkServiced t = true ∧ leAt
    r.pkt.params 1 1 ≤ 31 ∧ leAt r.pkt.params 2 1 ≤ 4 ∧ leAt r.pkt.params 3 1 ≤ 15) (trunkTested) ((trunkTested.begun
    0x0902 (ask ([0, 3, 1, 1] ++ zeros 8)))) (ask ([0, 3, 1, 1] ++ zeros 8)) (0) := by
  beta_reduce
  and_intros <;> first | with_reducible rfl | decide +kernel

theorem witness_PowerAndTestCommands_15 : (fun (s u : State) (r : Request) (t : Nat) (x y : State) => s.passes 0x0903
    r = true ∧ u = s.begun 0x0903 r ∧ 2 ≤ r.pkt.params.length ∧ t = leAt r.pkt.params 0 1 ∧ t ≤ 1 ∧ u.trunkServiced t
    = true ∧ leAt r.pkt.params 1 1 ≤ 3 ∧ x = ((u.wr (Reg.TRL_LOOP_LOOP t) (leAt r.pkt.params 1 1)).settleTest t) ∧ (y
    = (if leAt r.pkt.params 1 1 = 1 ∨ leAt r.pkt.params 1 1 = 2 then x.put (Reg.TRL_STAT_CLK_VALID t) true else x)))
    (trunkTested) ((trunkTested.begun 0x0903 (ask [0, 2]))) (ask [0, 2]) (0) (((((trunkTested.begun 0x0903 (ask [0,
    2]))).wr (Reg.TRL_LOOP_LOOP 0) 2).settleTest 0)) ((((((trunkTested.begun 0x0903 (ask [0, 2]))).wr
    (Reg.TRL_LOOP_LOOP 0) 2).settleTest 0).put (Reg.TRL_STAT_CLK_VALID 0) true)) := by
  beta_reduce
  and_intros <;> first | with_reducible rfl | decide +kernel

theorem witness_PowerAndTestCommands_16 : (fun (s u : State) (r : Request) (t : Nat) => s.passes 0x0904 r = true ∧ u =
    s.begun 0x0904 r ∧ 9 ≤ r.pkt.params.length ∧ t = leAt r.pkt.params 0 1 ∧ t ≤ 1 ∧ u.trunkServiced t = true ∧ leAt
    r.pkt.params 1 1 ≤ 31 ∧ leAt r.pkt.params 3 1 ≤ 1 ∧ leAt r.pkt.params 2 1 = 0 ∧ 1 ≤ leAt r.pkt.params 4 1 ∧ 64 ≤
    leAt r.pkt.params 5 4) (trunkTested) ((trunkTested.begun 0x0904 (ask ([0, 3, 0, 0, 1, 64, 0, 0, 0])))) (ask ([0,
    3, 0, 0, 1, 64, 0, 0, 0])) (0) := by
  beta_reduce
  and_intros <;> first | with_reducible rfl | decide +kernel

theorem witness_PowerAndTestCommands_17 : (fun (s u : State) (r : Request) (t : Nat) (j : Injection) => s.passes
    0x0904 r = true ∧ u = s.begun 0x0904 r ∧ 9 ≤ r.pkt.params.length ∧ t = leAt r.pkt.params 0 1 ∧ t ≤ 1 ∧
    u.trunkServiced t = true ∧ leAt r.pkt.params 1 1 ≤ 31 ∧ leAt r.pkt.params 3 1 ≤ 1 ∧ leAt r.pkt.params 2 1 = 2 ∧ 1
    ≤ leAt r.pkt.params 4 1 ∧ 64 ≤ leAt r.pkt.params 5 4 ∧ j =
    { lanes := leAt r.pkt.params 1 1, kind := 2, form := leAt r.pkt.params 3 1, count := leAt r.pkt.params 4 1,
      interval := leAt r.pkt.params 5 4 }) (trunkTested) ((trunkTested.begun 0x0904 (ask ([0, 3, 2, 0, 1, 64, 0, 0,
    0])))) (ask ([0, 3, 2, 0, 1, 64, 0, 0, 0])) (0) ({ lanes := 3, kind := 2, form := 0, count := 1, interval := 64 })
    := by
  beta_reduce
  and_intros <;> first | with_reducible rfl | decide +kernel

theorem witness_PowerAndTestCommands_18 : (fun (s : State) (t : Fin 2) (i : Injection) => s.hubOn = true ∧ (s.lane
    t).inject = some i) (trunkTested.withLane 0 fun l => { l with inject := some ⟨3, 2, 0, 0, 64⟩ }) (0) (⟨3, 2, 0, 0,
    64⟩) := by
  beta_reduce
  and_intros <;> first | with_reducible rfl | decide +kernel

theorem witness_TypeCEvents_1 : (fun (s : State) (n : Fin 4) => s.nib.on = true ∧ s.tcState n = 1) ((up.wr
    (Reg.TCPD_PORT_STAT_STATE 1) 1)) (1) := by
  beta_reduce
  and_intros <;> first | with_reducible rfl | decide +kernel

theorem witness_TypeCEvents_2 : (fun (s y : State) (n : Fin 4) => s.nib.on = true ∧ s.tcState n = 2 ∧ y = (s.count
    (0x258 + 8 * n.val)).tcTake n) ((up.wr (Reg.TCPD_PORT_STAT_STATE 1) 2)) (((up.wr (Reg.TCPD_PORT_STAT_STATE 1)
    2).count (0x258 + 8 * 1)).tcTake 1) (1) := by
  beta_reduce
  and_intros <;> first | with_reducible rfl | decide +kernel

theorem witness_TypeCEvents_3 : (fun (s : State) (n : Fin 4) => s.nib.on = true ∧ s.tcState n = 2) ((up.wr
    (Reg.TCPD_PORT_STAT_STATE 1) 2)) (1) := by
  beta_reduce
  and_intros <;> first | with_reducible rfl | decide +kernel

theorem witness_TypeCEvents_4 : (fun (s : State) (n : Fin 4) => s.nib.on = true ∧ s.tcState n = 9) ((up.wr
    (Reg.TCPD_PORT_STAT_STATE 1) 9)) (1) := by
  beta_reduce
  and_intros <;> first | with_reducible rfl | decide +kernel

theorem witness_TypeCEvents_5 : (fun (s : State) (n : Fin 4) (p : BitVec 4) (c : BitVec 10) (k m : Nat) => s.nib.on =
    true ∧ (s.tcState n = 4 ∨ s.tcState n = 5) ∧ 1 ≤ p.toNat ∧ (s.tcPort n).offer[p.toNat - 1]? = some (k, m) ∧
    c.toNat ≤ m ∧ k = (s.tcPort n).volt ∧ pdoVolts k * c.toNat * 10 ≤ s.rd (Reg.TCPD_PORT_CONTRACT_MW n)) (offering.wr
    (Reg.TCPD_PORT_CONTRACT_MW 1) 15000) (1) (1) (300) (0) (300) := by
  beta_reduce
  and_intros <;> first | with_reducible rfl | decide +kernel

theorem witness_TypeCEvents_6 : (fun (s : State) (n : Fin 4) (p : BitVec 4) (c : BitVec 10) (k m : Nat) => s.nib.on =
    true ∧ (s.tcState n = 4 ∨ s.tcState n = 5) ∧ 1 ≤ p.toNat ∧ (s.tcPort n).offer[p.toNat - 1]? = some (k, m) ∧
    c.toNat ≤ m ∧ (k ≠ (s.tcPort n).volt ∨ s.rd (Reg.TCPD_PORT_CONTRACT_MW n) < pdoVolts k * c.toNat * 10) ∧ pdoVolts
    k * c.toNat * 10 ≤ s.freeMw) (offering) (1) (1) (300) (0) (300) := by
  beta_reduce
  and_intros <;> first | with_reducible rfl | decide +kernel

theorem witness_TypeCEvents_7 : (fun (s : State) (n : Fin 4) (p : BitVec 4) => s.nib.on = true ∧ (s.tcState n = 4 ∨
    s.tcState n = 5) ∧ (p.toNat = 0 ∨ (s.tcPort n).offer[p.toNat - 1]? = none)) (offering) (1) (7) := by
  beta_reduce
  and_intros <;> first | with_reducible rfl | decide +kernel

theorem witness_TypeCEvents_8 : (fun (s y : State) (n : Fin 4) (p k i m : Nat) => s.nib.on = true ∧ (s.tcPort n).next
    = some (p, k, i, m) ∧ s.tcState n = 6 ∧ (s.tcPort n).waitPg = false ∧ s.rd (Reg.TCPD_PORT_STAT_VSEL n) ≤ k ∧ (y =
    (s.withTcPort n fun x => { x with waitPg := true }).tcVsel n k) ∧ y.flag (Reg.TCPD_PORT_STAT_PG n) = false)
    (moving) ((moving.withTcPort 1 fun x => { x with waitPg := true }).tcVsel 1 1) (1) (2) (1) (100) (9000) := by
  beta_reduce
  and_intros <;> first | with_reducible rfl | decide +kernel

theorem witness_TypeCEvents_9 : (fun (s : State) (n : Fin 4) => s.nib.on = true ∧ s.tcState n = 6 ∧ (s.tcPort
    n).waitPg = true) (moving.withTcPort 1 fun x => { x with waitPg := true }) (1) := by
  beta_reduce
  and_intros <;> first | with_reducible rfl | decide +kernel

theorem witness_TypeCEvents_10 : (fun (s : State) (n : Fin 5) => s.nib.on = true ∧ n.val < 4 ∧ s.tcLive n = true)
    (attached) (1) := by
  beta_reduce
  and_intros <;> first | with_reducible rfl | decide +kernel

theorem witness_TypeCEvents_11 : (fun (s : State) => s.nib.on = true ∧ s.tcsPresent = true) (up.wr
    Reg.TCPD_TCS_STAT_STATE 1) := by
  beta_reduce
  and_intros <;> first | with_reducible rfl | decide +kernel

theorem witness_TypeCEvents_12 : (fun (s : State) (n : Fin 5) => s.nib.on = true ∧ n.val < 4 ∧ s.tcState n = 7)
    ((up.wr (Reg.TCPD_PORT_STAT_STATE 1) 7)) (1) := by
  beta_reduce
  and_intros <;> first | with_reducible rfl | decide +kernel

theorem witness_TypeCEvents_13 : (fun (s : State) (n : Fin 5) => s.nib.on = true ∧ n.val < 4 ∧ 4 ≤ s.tcState n ∧
    s.tcState n ≤ 5) (attached) (1) := by
  beta_reduce
  and_intros <;> first | with_reducible rfl | decide +kernel

theorem witness_TypeCEvents_14 : (fun (s : State) (n : Fin 5) => s.nib.on = true ∧ n.val < 4 ∧ s.tcLive n = true)
    (attached) (1) := by
  beta_reduce
  and_intros <;> first | with_reducible rfl | decide +kernel

theorem witness_TypeCEvents_15 : (fun (s : State) (n : Fin 5) => s.nib.on = true ∧ n.val < 4 ∧ s.tcState n = 5 ∧
    (s.tcPort n).swap = 0 ∧ entrySwap (s.tcPort n).entry = true ∧ (s.emit (.pd n "ACCEPT" [] [])).flag
    (Reg.TCPD_PORT_STAT_VCONN_PARTNER n) = true) ((swapping.put (Reg.TCPD_PORT_STAT_VCONN_PARTNER 1) true)) (1) := by
  beta_reduce
  and_intros <;> first | with_reducible rfl | decide +kernel

theorem witness_TypeCEvents_16 : (fun (s : State) (n : Fin 4) => s.nib.on = true ∧ (s.tcPort n).swap = 1)
    (up.withTcPort 1 fun x => { x with swap := 1 }) (1) := by
  beta_reduce
  and_intros <;> first | with_reducible rfl | decide +kernel

theorem witness_TypeCEvents_17 : (fun (s : State) (n : Fin 4) => s.nib.on = true ∧ (s.tcPort n).swap = 2)
    (up.withTcPort 1 fun x => { x with swap := 2 }) (1) := by
  beta_reduce
  and_intros <;> first | with_reducible rfl | decide +kernel

theorem witness_TypeCEvents_18 : (fun (s y : State) (n : Fin 4) (b : Bool) => s.nib.on = true ∧ s.tcLive n = true ∧
    s.flag (Reg.TCPD_PORT_STAT_VCONN_ON n) = true ∧ y = s.put (Reg.TCPD_PORT_STAT_CABLE_5A n) b ∧ y.tcState n ≠ 6 ∧
    y.offerNow n ≠ (y.tcPort n).offer) ((offering.put (Reg.TCPD_PORT_STAT_VCONN_ON 1) true)) ((offering.put
    (Reg.TCPD_PORT_STAT_VCONN_ON 1) true).put (Reg.TCPD_PORT_STAT_CABLE_5A 1) true) (1) (true) := by
  beta_reduce
  and_intros <;> first | with_reducible rfl | decide +kernel

theorem witness_TypeCEvents_19 : (fun (s : State) (n : Fin 4) => s.nib.on = true ∧ s.flag (Reg.TCPD_PORT_STAT_VCONN_ON
    n) = true) (up.put (Reg.TCPD_PORT_STAT_VCONN_ON 1) true) (1) := by
  beta_reduce
  and_intros <;> first | with_reducible rfl | decide +kernel

theorem witness_TypeCEvents_20 : (fun (s y z : State) (p : Fin 3) (i : Nat) => s.nib.on = true ∧ s.tcsPresent = true ∧
    y = s.wr Reg.TCPD_TCS_STAT_RP_SEEN p.val ∧ y.tc.tflags = 0 ∧ z = ((((y.emit (.pd 4 "REQUEST" [1, min i (if 5000 *
    i ≥ 750000 then 300 else i)] [])).wr Reg.TCPD_TCS_STAT_STATE 2).wr Reg.TCPD_TCS_STAT_PDO 1).wr
    Reg.TCPD_TCS_STAT_CONTRACT_MW (min 15000 (5000 * (min i (if 5000 * i ≥ 750000 then 300 else i)) / 100))).count
    0x279 ∧ z.nib.onTcs = false) (up.wr Reg.TCPD_TCS_STAT_STATE 1) (((up.wr Reg.TCPD_TCS_STAT_STATE 1).wr
    Reg.TCPD_TCS_STAT_RP_SEEN 2)) (((((((up.wr Reg.TCPD_TCS_STAT_STATE 1).wr Reg.TCPD_TCS_STAT_RP_SEEN 2).emit (.pd 4
    "REQUEST" [1, 300] [])).wr Reg.TCPD_TCS_STAT_STATE 2).wr Reg.TCPD_TCS_STAT_PDO 1).wr Reg.TCPD_TCS_STAT_CONTRACT_MW
    15000).count 0x279) (2) (300) := by
  beta_reduce
  and_intros <;> first | with_reducible rfl | decide +kernel

theorem witness_LaneTrainingEvents_1 : (fun (s : State) (t : Fin 2) (y : State) => s.hubOn = true ∧ s.flag
    (Reg.TLK_CTRL_ENABLED t) = true ∧ y = s.put (Reg.TRL_STAT_CLK_VALID t) true ∧ y.rxState t = 1 ∧ (y.lane t).backoff
    = false) (enabled0) (0) (enabled0.put (Reg.TRL_STAT_CLK_VALID 0) true) := by
  beta_reduce
  and_intros <;> first | with_reducible rfl | decide +kernel

theorem witness_LaneTrainingEvents_2 : (fun (s : State) (t : Fin 2) (y : State) => s.hubOn = true ∧ s.flag
    (Reg.TRL_STAT_CLK_VALID t) = true ∧ y = (s.put (Reg.TRL_STAT_CLK_VALID t) false).notice 0x0A08 [byte t] ∧
    y.rxState t ≠ 0 ∧ y.rxState t ≠ 12 ∧ y.rxState t ≠ 13) (onLane) (0) ((onLane.put (Reg.TRL_STAT_CLK_VALID 0)
    false).notice 0x0A08 [0]) := by
  beta_reduce
  and_intros <;> first | with_reducible rfl | decide +kernel

theorem witness_LaneTrainingEvents_3 : (fun (s : State) (t : Fin 2) (d : Nat) => s.hubOn = true ∧ s.clk.candidate =
    some t.val ∧ s.clockOffer t = some d) ({ onLane with clk := { candidate := some 0 } }) (0) (2) := by
  beta_reduce
  and_intros <;> first | with_reducible rfl | decide +kernel

theorem witness_LaneTrainingEvents_4 : (fun (s : State) => s.hubOn = true ∧ s.flag (Reg.TRL_CLK_POISON 0) = true)
    (up.wrBoth Reg.TRL_CLK_POISON 1) := by
  beta_reduce
  and_intros <;> first | with_reducible rfl | decide +kernel

theorem witness_LaneTrainingEvents_5 : (fun (s : State) (t : Fin 2) => s.hubOn = true ∧ s.rxState t = 2) ((up.wr
    (Reg.TRL_STAT_TSTATE 0) 2)) (0) := by
  beta_reduce
  and_intros <;> first | with_reducible rfl | decide +kernel

theorem witness_LaneTrainingEvents_6 : (fun (s : State) (t : Fin 2) (a b : BitVec 5) (y z : State) => s.hubOn = true ∧
    s.rxState t = 3 ∧ a ≠ 0 ∧ (y = (s.wr (Reg.TRL_STAT_POLARITY t) b.toNat).withLane t fun l =>
    { l with locked := a.toNat, goodA := 0 }) ∧ (z = ((List.range 5).filter (bit a.toNat)).foldl (fun (m : State) i =>
    m.adapted t (m.pairLane t i)) y)) ((up.wr (Reg.TRL_STAT_TSTATE 0) 3)) (0) (31) (0) ((((up.wr (Reg.TRL_STAT_TSTATE
    0) 3)).wr (Reg.TRL_STAT_POLARITY (0 : Fin 2)) (0 : BitVec 5).toNat).withLane (0 : Fin 2) fun l =>
    { l with locked := (31 : BitVec 5).toNat, goodA := 0 }) (((List.range 5).filter (bit (31 : BitVec 5).toNat)).foldl
    (fun (m : State) i => m.adapted (0 : Fin 2) (m.pairLane (0 : Fin 2) i)) ((((up.wr (Reg.TRL_STAT_TSTATE 0) 3)).wr
    (Reg.TRL_STAT_POLARITY (0 : Fin 2)) (0 : BitVec 5).toNat).withLane (0 : Fin 2) fun l =>
    { l with locked := (31 : BitVec 5).toNat, goodA := 0 })) := by
  beta_reduce
  and_intros <;> first | with_reducible rfl | decide +kernel

theorem witness_LaneTrainingEvents_7 : (fun (s y : State) (t : Fin 2) (sets : List Bytes) (k : Nat) (b : Bytes) (l :
    List (Nat × Bytes)) (z w : State) => s.hubOn = true ∧ s.readSets t sets = (y, (k, b) :: l) ∧ y.rxState t = 4 ∧ (z
    = (((y.setReversed t (lanesReversed sets)).withLane t fun l =>
    { l with farWidth := min 2 (bits (leAt b 9 1) 2 1), farPrecode := bit (leAt b 9 1) 0 }).takeDist t (leAt b 12 1)))
    ∧ z.isRoot = false ∧ leAt b 13 1 ≠ 13 ∧ 4 ≤ leAt b 13 1 ∧ (w = z.withLane t fun l =>
    { l with goodA := l.goodA + 1 }) ∧ (w.lane t).goodA < 8) ((up.wr (Reg.TRL_STAT_TSTATE 0) 4)) (((up.wr
    (Reg.TRL_STAT_TSTATE 0) 4).readSets 0 [trainSet]).1) (0) ([trainSet]) (0) (trainSet) ([]) (((((((up.wr
    (Reg.TRL_STAT_TSTATE 0) 4).readSets 0 [trainSet]).1).setReversed 0 (lanesReversed [trainSet])).withLane 0 fun l =>
    { l with farWidth := 2, farPrecode := true }).takeDist 0 2)) (((((((up.wr (Reg.TRL_STAT_TSTATE 0) 4).readSets 0
    [trainSet]).1).setReversed 0 (lanesReversed [trainSet])).withLane 0 fun l =>
    { l with farWidth := 2, farPrecode := true }).takeDist 0 2).withLane 0 fun l => { l with goodA := l.goodA + 1 })
    := by
  beta_reduce
  and_intros <;> first | with_reducible rfl | decide +kernel

theorem witness_LaneTrainingEvents_8 : (fun (s y : State) (t : Fin 2) (sets : List Bytes) (k : Nat) (b : Bytes) (l :
    List (Nat × Bytes)) => s.hubOn = true ∧ s.readSets t sets = (y, (k, b) :: l) ∧ 6 ≤ y.rxState t ∧ y.rxState t ≤ 9)
    (((up.wr (Reg.TRL_STAT_TSTATE 0) 8).wr (Reg.TRL_HEALTH_FAILED 0) 31)) ((((up.wr (Reg.TRL_STAT_TSTATE 0) 8).wr
    (Reg.TRL_HEALTH_FAILED 0) 31).readSets 0 [aSet]).1) (0) ([aSet]) (0) (aSet) ([]) := by
  beta_reduce
  and_intros <;> first | with_reducible rfl | decide +kernel

theorem witness_LaneTrainingEvents_9 : (fun (s y z v w : State) (t : Fin 2) (sets : List Bytes) (a c : BitVec 5) (new
    : List Nat) (l : List (Nat × Bytes)) => s.hubOn = true ∧ s.readSets t sets = (y, l) ∧ y.rxState t = 5 ∧ (z =
    ((l.map fun e => e.2.drop 8).eraseDups).foldl (fun (s : State) b => (s.onCoefficients t (leAt b 0 1) (leAt b 1
    1)).withLane t fun l =>
    { l with farEqDone := if bit (leAt b 3 1) 0 && leAt b 0 1 < 5 then setBit l.farEqDone (leAt b 0 1) else l.farEqDone,
             precodeTx := leAt b 4 1 % 32 }) y) ∧ (new = (List.range 5).filter fun p => a.toNat.testBit p && !bit
    (z.lane t).eqDone p) ∧ (v = new.foldl (fun (s : State) p => (s.adapted t p).bendDfe t p (c.toNat.testBit p)) z) ∧
    (w = v.withLane t fun l => { l with eqDone := l.eqDone ||| a.toNat, precodeRx := v.precodeAsked t })) ((up.wr
    (Reg.TRL_STAT_TSTATE 0) 5)) ((up.wr (Reg.TRL_STAT_TSTATE 0) 5).count 0x25 0) ((up.wr (Reg.TRL_STAT_TSTATE 0)
    5).count 0x25 0) ((up.wr (Reg.TRL_STAT_TSTATE 0) 5).count 0x25 0) (((up.wr (Reg.TRL_STAT_TSTATE 0) 5).count 0x25
    0).withLane 0 fun l =>
    { l with eqDone := l.eqDone ||| 0, precodeRx := ((up.wr (Reg.TRL_STAT_TSTATE 0) 5).count 0x25 0).precodeAsked 0 })
    (0) ([]) (0) (0) ([]) ([]) := by
  beta_reduce
  and_intros <;> first | with_reducible rfl | decide +kernel

theorem witness_LaneTrainingEvents_10 : (fun (s y : State) (t : Fin 2) (sets : List Bytes) (k : Nat) (b : Bytes) (l :
    List (Nat × Bytes)) => s.hubOn = true ∧ s.readSets t sets = (y, (k, b) :: l) ∧ (y.setArrived t b).rxState t = 8)
    (((up.wr (Reg.TRL_STAT_TSTATE 0) 8).wr (Reg.TRL_HEALTH_FAILED 0) 31)) ((((up.wr (Reg.TRL_STAT_TSTATE 0) 8).wr
    (Reg.TRL_HEALTH_FAILED 0) 31).readSets 0 [aSet]).1) (0) ([aSet]) (0) (aSet) ([]) := by
  beta_reduce
  and_intros <;> first | with_reducible rfl | decide +kernel

theorem witness_LaneTrainingEvents_11 : (fun (s y : State) (t : Fin 2) (sets : List Bytes) (k : Nat) (b : Bytes) (l :
    List (Nat × Bytes)) => s.hubOn = true ∧ s.readSets t sets = (y, (k, b) :: l) ∧ (y.setArrived t b).rxState t = 8)
    (((up.wr (Reg.TRL_STAT_TSTATE 0) 8).wr (Reg.TRL_HEALTH_FAILED 0) 31)) ((((up.wr (Reg.TRL_STAT_TSTATE 0) 8).wr
    (Reg.TRL_HEALTH_FAILED 0) 31).readSets 0 [aSet]).1) (0) ([aSet]) (0) (aSet) ([]) := by
  beta_reduce
  and_intros <;> first | with_reducible rfl | decide +kernel

theorem witness_LaneTrainingEvents_12 : (fun (s : State) (t : Fin 2) (c : List Nat) (y : State) => s.hubOn = true ∧
    s.rxState t = 7 ∧ (∀ p, p < 5 → c.getD p 0 < 256) ∧ (y = (List.range 5).foldl (fun (s : State) p => s.wr
    (Reg.TRL_WIN_CORRECTED t p) (min 0xFFFF (c.getD p 0))) s)) ((up.wr (Reg.TRL_STAT_TSTATE 0) 7)) (0) ([3])
    ((List.range 5).foldl (fun (s : State) p => s.wr (Reg.TRL_WIN_CORRECTED 0 p) (min 0xFFFF (([3] : List Nat).getD p
    0))) (up.wr (Reg.TRL_STAT_TSTATE 0) 7)) := by
  beta_reduce
  and_intros <;> first | with_reducible rfl | decide +kernel

theorem witness_LaneTrainingEvents_13 : (fun (s : State) (t : Fin 2) => s.hubOn = true ∧ s.rxState t ∈ [2, 3, 4])
    ((up.wr (Reg.TRL_STAT_TSTATE 0) 3)) (0) := by
  beta_reduce
  and_intros <;> first | with_reducible rfl | decide +kernel

theorem witness_LaneTrainingEvents_14 : (fun (s : State) (t : Fin 2) (y : State) => s.hubOn = true ∧ (s.lane
    t).backoff = true ∧ (y = s.withLane t fun l => { l with backoff := false }) ∧ y.rxState t = 1 ∧ y.flag
    (Reg.TRL_STAT_CLK_VALID t) = true) (backed) (0) (backed.withLane 0 fun l => { l with backoff := false }) := by
  beta_reduce
  and_intros <;> first | with_reducible rfl | decide +kernel

theorem witness_LaneStateEvents_1 : (fun (s y : State) (t : Fin 2) (sets : List Bytes) (k : Nat) (b : Bytes) (l : List
    (Nat × Bytes)) => s.hubOn = true ∧ s.readSets t sets = (y, (k, b) :: l) ∧ (y.setArrived t b).rxState t = 8 ∧ leAt
    b 8 1 = 0) (((up.wr (Reg.TRL_STAT_TSTATE 0) 8).wr (Reg.TRL_HEALTH_FAILED 0) 31)) ((((up.wr (Reg.TRL_STAT_TSTATE 0)
    8).wr (Reg.TRL_HEALTH_FAILED 0) 31).readSets 0 [aSet]).1) (0) ([aSet]) (0) (aSet) ([]) := by
  beta_reduce
  and_intros <;> first | with_reducible rfl | decide +kernel

theorem witness_LaneStateEvents_2 : (fun (s y : State) (t : Fin 2) (sets : List Bytes) (k : Nat) (b : Bytes) (l : List
    (Nat × Bytes)) (z : State) => s.hubOn = true ∧ s.readSets t sets = (y, (k, b) :: l) ∧ (y.setArrived t b).rxState t
    = 8 ∧ leAt b 8 1 = 0 ∧ z = (y.setArrived t b).rxIdle t 11) (((up.wr (Reg.TRL_STAT_TSTATE 0) 8).wr
    (Reg.TRL_HEALTH_FAILED 0) 31)) ((((up.wr (Reg.TRL_STAT_TSTATE 0) 8).wr (Reg.TRL_HEALTH_FAILED 0) 31).readSets 0
    [aSet]).1) (0) ([aSet]) (0) (aSet) ([]) ((((((up.wr (Reg.TRL_STAT_TSTATE 0) 8).wr (Reg.TRL_HEALTH_FAILED 0)
    31).readSets 0 [aSet]).1).setArrived 0 aSet).rxIdle 0 11) := by
  beta_reduce
  and_intros <;> first | with_reducible rfl | decide +kernel

theorem witness_LaneStateEvents_3 : (fun (s : State) (t : Fin 2) => s.hubOn = true ∧ s.rd (Reg.TLK_CTRL_HUSH_IDLE t) ≠
    0 ∧ s.lstate t = 2 ∧ s.somethingToSend t = false ∧ (s.link t).farIdle = true) (((up.wr (Reg.TLK_STAT_LSTATE 0)
    2).wr (Reg.TLK_CTRL_HUSH_IDLE 0) 1).withLink 0 fun l => { l with farIdle := true }) (0) := by
  beta_reduce
  and_intros <;> first | with_reducible rfl | decide +kernel

theorem witness_LaneStateEvents_4 : (fun (s : State) (t : Fin 2) (k : Nat) (b : Bytes) (y z w : State) => s.hubOn =
    true ∧ s.nextSet t = some (k, b, y) ∧ (z = y.emits ((List.range 5).map fun p => .trunk t "LANE_SET" [p]
    (laneSetWire ([0x96, 0x69, 0x96, 0x69, byte k, byte p, byte (setLogical (y.lane t) p), byte (y.lane t).seq] ++
    b)))) ∧ w = (z.restartCoding t).fillLanes t) (sending) (0) (3) ([byte 63, 0, 0, 0, 0, 0, 0, 0]) (((sending.nextSet
    (0 : Fin 2)).getD (0, [], up)).2.2) ((((sending.nextSet (0 : Fin 2)).getD (0, [], up)).2.2).emits ((List.range
    5).map fun p => .trunk (0 : Fin 2) "LANE_SET" [p] (laneSetWire ([0x96, 0x69, 0x96, 0x69, byte (3 : Nat), byte p,
    byte (setLogical ((((sending.nextSet (0 : Fin 2)).getD (0, [], up)).2.2).lane (0 : Fin 2)) p), byte
    ((((sending.nextSet (0 : Fin 2)).getD (0, [], up)).2.2).lane (0 : Fin 2)).seq] ++ ([byte 63, 0, 0, 0, 0, 0, 0,
    0]))))) ((((((sending.nextSet (0 : Fin 2)).getD (0, [], up)).2.2).emits ((List.range 5).map fun p => .trunk (0 :
    Fin 2) "LANE_SET" [p] (laneSetWire ([0x96, 0x69, 0x96, 0x69, byte (3 : Nat), byte p, byte (setLogical
    ((((sending.nextSet (0 : Fin 2)).getD (0, [], up)).2.2).lane (0 : Fin 2)) p), byte ((((sending.nextSet (0 : Fin
    2)).getD (0, [], up)).2.2).lane (0 : Fin 2)).seq] ++ ([byte 63, 0, 0, 0, 0, 0, 0, 0]))))).restartCoding (0 : Fin
    2)).fillLanes (0 : Fin 2)) := by
  beta_reduce
  and_intros <;> first | with_reducible rfl | decide +kernel

theorem witness_LaneStateEvents_5 : (fun (s : State) (t : Fin 2) => s.hubOn = true ∧ s.rxState t = 10) ((up.wr
    (Reg.TRL_STAT_TSTATE 0) 10)) (0) := by
  beta_reduce
  and_intros <;> first | with_reducible rfl | decide +kernel

theorem witness_LaneStateEvents_6 : (fun (s : State) (t : Fin 2) => s.hubOn = true ∧ s.rxState t = 11 ∧ s.phasesValid
    t false = true) ((up.wr (Reg.TRL_STAT_TSTATE 0) 11).withLane 0 fun l => { l with darkRx := some (0, 0) }) (0) :=
    by
  beta_reduce
  and_intros <;> first | with_reducible rfl | decide +kernel

theorem witness_LaneStateEvents_7 : (fun (s : State) (t : Fin 2) => s.hubOn = true ∧ s.rxState t = 11 ∧ s.phasesValid
    t false = false) ((up.wr (Reg.TRL_STAT_TSTATE 0) 11)) (0) := by
  beta_reduce
  and_intros <;> first | with_reducible rfl | decide +kernel

theorem witness_LaneStateEvents_8 : (fun (s : State) (t : Fin 2) => s.hubOn = true ∧ (s.lane t).txState = 10)
    (up.withLane 0 fun l => { l with txState := 10 }) (0) := by
  beta_reduce
  and_intros <;> first | with_reducible rfl | decide +kernel

theorem witness_LaneStateEvents_9 : (fun (s : State) (t : Fin 2) => s.hubOn = true ∧ (s.lane t).txState = 11 ∧
    s.phasesValid t true = false) (up.withLane 0 fun l => { l with txState := 11 }) (0) := by
  beta_reduce
  and_intros <;> first | with_reducible rfl | decide +kernel

theorem witness_LaneStateEvents_10 : (fun (s : State) (t : Fin 2) => s.hubOn = true ∧ s.rd (Reg.TRL_CTRL_RECAL_PERIOD
    t) ≠ 0) (up) (0) := by
  beta_reduce
  and_intros <;> first | with_reducible rfl | decide +kernel

theorem witness_LaneStateEvents_11 : (fun (s : State) (t : Fin 2) (r : Recal) => s.hubOn = true ∧ (s.lane t).recal =
    some r ∧ r.step = 4) (up.withLane 0 fun l => { l with recal := some { lane := 1, step := 4, home := 1 } }) (0)
    ({ lane := 1, step := 4, home := 1 }) := by
  beta_reduce
  and_intros <;> first | with_reducible rfl | decide +kernel

theorem witness_LaneStateEvents_12 : (fun (s : State) (t : Fin 2) (r : Recal) => s.hubOn = true ∧ (s.lane t).recal =
    some r ∧ r.step = 4) (up.withLane 0 fun l => { l with recal := some { lane := 1, step := 4, home := 1 } }) (0)
    ({ lane := 1, step := 4, home := 1 }) := by
  beta_reduce
  and_intros <;> first | with_reducible rfl | decide +kernel

theorem witness_LaneStateEvents_13 : (fun (s : State) (t : Fin 2) => s.hubOn = true ∧ (s.rxState t = 8 ∨ s.rxState t =
    9)) ((up.wr (Reg.TRL_STAT_TSTATE 0) 8)) (0) := by
  beta_reduce
  and_intros <;> first | with_reducible rfl | decide +kernel

theorem witness_LaneStateEvents_14 : (fun (s : State) (t : Fin 2) => s.hubOn = true ∧ s.rxState t = 8 ∧ (∀ p, p < 5 →
    byVc (s.lane t).window p ≤ 256)) ((up.wr (Reg.TRL_STAT_TSTATE 0) 8)) (0) := by
  beta_reduce
  and_intros <;> first | with_reducible rfl | decide +kernel

theorem witness_LaneStateEvents_15 : (fun (s : State) (t : Fin 2) (w : Nat) (y : State) => s.hubOn = true ∧ (s.lane
    t).retrainTx = some w ∧ (s.lane t).txState = 9 ∧ (y = (s.withLane t fun l =>
    { l with retrainTx := none, txState := 8 }).applyTxWidth t w)) (up.withLane 0 fun l =>
    { l with retrainTx := some 1, txState := 9 }) (0) (1) (((up.withLane 0 fun l =>
    { l with retrainTx := some 1, txState := 9 }).withLane 0 fun l =>
    { l with retrainTx := none, txState := 8 }).applyTxWidth 0 1) := by
  beta_reduce
  and_intros <;> first | with_reducible rfl | decide +kernel

theorem witness_LaneStateEvents_16 : (fun (s : State) (t : Fin 2) (w : Nat) (y : State) => s.hubOn = true ∧ s.rxState
    t = 9 ∧ ([2, 1, 0].find? (fun k => k ≤ (s.lane t).retrainRx.getD (s.rd (Reg.TRL_STAT_RX_WIDTH t)) && k ≤
    s.widthMax t && k ≤ (s.lane t).farWidth && 2 ^ k ≤ (s.healthy t).length) = some w) ∧ (y = ((s.applyWidth t
    w).withLane t fun l => { l with retrainRx := none }).setRxState t 8)) ((up.wr (Reg.TRL_STAT_TSTATE 0) 9)) (0) (0)
    (((((up.wr (Reg.TRL_STAT_TSTATE 0) 9)).applyWidth (0 : Fin 2) (0 : Nat)).withLane (0 : Fin 2) fun l =>
    { l with retrainRx := none }).setRxState (0 : Fin 2) 8) := by
  beta_reduce
  and_intros <;> first | with_reducible rfl | decide +kernel

theorem witness_LaneStateEvents_17 : (fun (s : State) (t : Fin 2) (p : Fin 5) => s.hubOn = true ∧ s.laneFailed t p =
    true ∧ s.rxState t = 8 ∧ (s.lane t).probe = none) (((up.wr (Reg.TRL_STAT_TSTATE 0) 8).markFailed 0 4 true)) (0)
    (4) := by
  beta_reduce
  and_intros <;> first | with_reducible rfl | decide +kernel

theorem witness_LaneStateEvents_18 : (fun (s : State) (t : Fin 2) (p : Fin 5) => s.hubOn = true ∧ s.rxState t = 8 ∧
    (s.lane t).probe = some p.val) ((up.wr (Reg.TRL_STAT_TSTATE 0) 8).withLane 0 fun l => { l with probe := some 4 })
    (0) (4) := by
  beta_reduce
  and_intros <;> first | with_reducible rfl | decide +kernel

theorem witness_LinkEvents_1 : (fun (s : State) (t : Fin 2) (b : Bytes) => s.hubOn = true ∧ s.lstate t ≠ 0 ∧ flitRead
    b = none ∧ (s.count (trunkCounter t + 8)).linkLive t = true ∧ (s.count (trunkCounter t + 8)).flag
    (Reg.TLK_STAT_HOLD_TX t) = false) (active0) (0) ([]) := by
  beta_reduce
  and_intros <;> first | with_reducible rfl | decide +kernel

set_option maxRecDepth 100000 in
theorem witness_LinkEvents_2 : (fun (s : State) (t : Fin 2) (b c : Bytes) (l : List Nat) => s.hubOn = true ∧ s.lstate
    t ≠ 0 ∧ flitRead b = some (c, l, true) ∧ (FlitHead.ofBytes c).good = true) (active0) (0) (aFlit) ((nullHead.bytes
    ++ zeros 244)) ([]) := by
  beta_reduce
  and_intros <;> first | with_reducible rfl | decide +kernel

theorem witness_LinkEvents_3 : (fun (s : State) (t : Fin 2) => s.hubOn = true ∧ (s.lane t).txState = 8 ∧ s.lstate t =
    1) ((up.withLane 0 fun l => { l with txState := 8 }).wr (Reg.TLK_STAT_LSTATE 0) 1) (0) := by
  beta_reduce
  and_intros <;> first | with_reducible rfl | decide +kernel

theorem witness_LinkEvents_4 : (fun (s : State) (t : Fin 2) => s.hubOn = true ∧ (s.lane t).txState = 8 ∧ s.lstate t =
    4) ((up.withLane 0 fun l => { l with txState := 8 }).wr (Reg.TLK_STAT_LSTATE 0) 4) (0) := by
  beta_reduce
  and_intros <;> first | with_reducible rfl | decide +kernel

theorem witness_LinkEvents_5 : (fun (s : State) (t : Fin 2) => s.hubOn = true ∧ (s.lane t).txState = 8 ∧ (s.lstate t =
    2 ∨ s.lstate t = 3)) (active0.withLane 0 fun l => { l with txState := 8 }) (0) := by
  beta_reduce
  and_intros <;> first | with_reducible rfl | decide +kernel

theorem witness_LinkEvents_6 : (fun (s : State) (t : Fin 2) => s.hubOn = true ∧ ((s.lane t).txState = 10 ∨ (s.lane
    t).txState = 11) ∧ s.somethingToSend t = true ∧ s.mode ≠ 2 ∧ (s.lane t).leaving = false) ((active0.withLane 0 fun
    l => { l with txState := 10 }).withLink 0 fun l => { l with nakDue := true }) (0) := by
  beta_reduce
  and_intros <;> first | with_reducible rfl | decide +kernel

theorem witness_LinkEvents_7 : (fun (s : State) (t : Fin 2) => s.hubOn = true ∧ s.lstate t = 1) ((up.wr
    (Reg.TLK_STAT_LSTATE 0) 1)) (0) := by
  beta_reduce
  and_intros <;> first | with_reducible rfl | decide +kernel

theorem witness_LinkEvents_8 : (fun (s : State) (t : Fin 2) (b : Bytes) => s.hubOn = true ∧ s.linkLive t = true ∧
    (s.link t).lastMove = some (leAt b 0 1)) (active0.withLink 0 fun l => { l with lastMove := some 5 }) (0) ([5]) :=
    by
  beta_reduce
  and_intros <;> first | with_reducible rfl | decide +kernel

theorem witness_LinkEvents_9 : (fun (s : State) (t : Fin 2) (b : Bytes) (y : State) => s.hubOn = true ∧ s.linkLive t =
    true ∧ (s.link t).lastMove ≠ some (leAt b 0 1) ∧ (y = [0, 1, 2, 3].foldl (fun (s : State) v => s.setCredit t v
    (s.credit t v + toSigned 16 (leAt b (1 + 2 * v) 2))) s)) (active0) (0) ([5]) ([0, 1, 2, 3].foldl (fun (s : State)
    v => s.setCredit 0 v (s.credit 0 v + toSigned 16 (leAt [5] (1 + 2 * v) 2))) active0) := by
  beta_reduce
  and_intros <;> first | with_reducible rfl | decide +kernel

theorem witness_LinkEvents_10 : (fun (s : State) (t : Fin 2) (b : Bytes) (d : List Int) (n : List Nat) (y : State) =>
    s.hubOn = true ∧ (s.link t).move = some (d, n) ∧ s.flag (Reg.TLK_MOVE_PENDING t) = true ∧ leAt b 0 1 = s.rd
    (Reg.TLK_MOVE_MOVE_ID t) ∧ (y = [0, 1, 2, 3].foldl (fun (s : State) v => if d.getD v 0 < 0 then s.wr
    (Reg.TLK_ALLOT_ACTIVE t v) (n.getD v 0) else s) s)) (movingCredit) (0) ([0]) ([0, 0, 0, 0]) ([0, 0, 0, 0]) ([0, 1,
    2, 3].foldl (fun (s : State) v => if ([0, 0, 0, 0] : List Int).getD v 0 < 0 then s.wr (Reg.TLK_ALLOT_ACTIVE 0 v) 0
    else s) movingCredit) := by
  beta_reduce
  and_intros <;> first | with_reducible rfl | decide +kernel

theorem witness_LinkEvents_11 : (fun (s u : State) (t : Fin 2) => s.hubOn = true ∧ (s.lstate t = 2 ∨ s.lstate t = 3 ∨
    s.lstate t = 5) ∧ u = (s.discardLink t).1) (active0) ((active0.discardLink 0).1) (0) := by
  beta_reduce
  and_intros <;> first | with_reducible rfl | decide +kernel

theorem witness_LinkEvents_12 : (fun (s : State) (t : Fin 2) => s.hubOn = true ∧ s.linkLive t = true) (active0) (0) :=
    by
  beta_reduce
  and_intros <;> first | with_reducible rfl | decide +kernel

theorem witness_LinkEvents_13 : (fun (s : State) (t : Fin 2) => s.hubOn = true ∧ (s.lstate t = 2 ∨ s.lstate t = 3) ∧
    (s.link t).replay ≠ [] ∧ s.flag (Reg.TLK_STAT_HOLD_TX t) = false) (active0.withLink 0 fun l =>
    { l with replay := [{ seq := 0, vc := 0, fill := 0, first := 255, payload := [] }] }) (0) := by
  beta_reduce
  and_intros <;> first | with_reducible rfl | decide +kernel

theorem witness_LinkEvents_14 : (fun (s : State) => s.hubOn = true) (up) := by
  beta_reduce
  decide +kernel

theorem witness_LinkEvents_15 : (fun (s : State) (t : Fin 2) => s.hubOn = true ∧ s.flag (Reg.TLK_STAT_HOLD_TX t) =
    true) (active0.put (Reg.TLK_STAT_HOLD_TX 0) true) (0) := by
  beta_reduce
  and_intros <;> first | with_reducible rfl | decide +kernel

theorem witness_LinkEvents_16 : (fun (s : State) (t : Fin 2) => s.hubOn = true ∧ s.flag (Reg.TLK_MOVE_PENDING t) =
    true ∧ s.lstate t ≠ 3) (movingCredit) (0) := by
  beta_reduce
  and_intros <;> first | with_reducible rfl | decide +kernel

theorem witness_LinkEvents_17 : (fun (s : State) (t : Fin 2) => s.hubOn = true ∧ s.flag (Reg.TLK_MOVE_PENDING t) =
    true ∧ s.lstate t ≠ 3) (movingCredit) (0) := by
  beta_reduce
  and_intros <;> first | with_reducible rfl | decide +kernel

theorem witness_LinkEvents_18 : (fun (s : State) (t : Fin 2) (y : State) => s.hubOn = true ∧ s.lstate t = 1 ∧ (y =
    s.withLink t fun l => { l with initFails := l.initFails + 1 }) ∧ (y.link t).initFails < 4) ((up.wr
    (Reg.TLK_STAT_LSTATE 0) 1)) (0) ((up.wr (Reg.TLK_STAT_LSTATE 0) 1).withLink 0 fun l =>
    { l with initFails := l.initFails + 1 }) := by
  beta_reduce
  and_intros <;> first | with_reducible rfl | decide +kernel

theorem witness_LinkEvents_19 : (fun (s : State) (t : Fin 2) (y : State) => s.hubOn = true ∧ s.lstate t = 1 ∧ (y =
    s.withLink t fun l => { l with initFails := l.initFails + 1 }) ∧ 4 ≤ (y.link t).initFails) ((up.wr
    (Reg.TLK_STAT_LSTATE 0) 1).withLink 0 fun l => { l with initFails := 3 }) (0) (((up.wr (Reg.TLK_STAT_LSTATE 0)
    1).withLink 0 fun l => { l with initFails := 3 }).withLink 0 fun l => { l with initFails := l.initFails + 1 }) :=
    by
  beta_reduce
  and_intros <;> first | with_reducible rfl | decide +kernel

theorem witness_LinkEvents_20 : (fun (s : State) => s.hubOn = true) (up) := by
  beta_reduce
  decide +kernel

theorem witness_SwitchCoreEvents_1 : (fun (s y : State) (p : Fin 32) (id : Nat) (rest : List Nat) (h : Held) =>
    s.hubOn = true ∧ (∀ q, q < p.val → Table.get (fun _ => []) s.sw.arriving q = []) ∧ (Table.get (fun _ => [])
    s.sw.arriving p.val = id :: rest) ∧ (y = s.withSw fun w =>
    { w with arriving := Table.set (fun _ => []) w.arriving p.val rest }) ∧ y.seg? id = some h) (arrived)
    ((arrived.withSw fun w => { w with arriving := Table.set (fun _ => []) w.arriving 19 [] })) (19) (1) ([]) (aHeld)
    := by
  beta_reduce
  and_intros <;> first | with_reducible rfl | decide +kernel

theorem witness_SwitchCoreEvents_2 : (fun (s y : State) (p : Fin 32) (id : Nat) (rest : List Nat) (h : Held) (d : List
    Nat) => s.hubOn = true ∧ (∀ q, q < p.val → Table.get (fun _ => []) s.sw.arriving q = []) ∧ (Table.get (fun _ =>
    []) s.sw.arriving p.val = id :: rest) ∧ (y = s.withSw fun w =>
    { w with arriving := Table.set (fun _ => []) w.arriving p.val rest }) ∧ y.seg? id = some h ∧ h.input < 4 ∧
    h.seg.sys = true ∧ y.target h (some (h.input / 2)) = .outputs d) (arrivedTrunk) ((arrivedTrunk.withSw fun w =>
    { w with arriving := Table.set (fun _ => []) w.arriving 0 [] })) (0) (1) ([]) (aTrunkHeld) ([19]) := by
  beta_reduce
  and_intros <;> first | with_reducible rfl | decide +kernel

theorem witness_SwitchCoreEvents_3 : (fun (s y : State) (p : Fin 32) (id : Nat) (rest : List Nat) (h : Held) (c : Nat)
    => s.hubOn = true ∧ (∀ q, q < p.val → Table.get (fun _ => []) s.sw.arriving q = []) ∧ (Table.get (fun _ => [])
    s.sw.arriving p.val = id :: rest) ∧ (y = s.withSw fun w =>
    { w with arriving := Table.set (fun _ => []) w.arriving p.val rest }) ∧ y.seg? id = some h ∧ h.input < 4 ∧
    y.target h (some (h.input / 2)) = .discard c) (arrivedTrunk0) ((arrivedTrunk0.withSw fun w =>
    { w with arriving := Table.set (fun _ => []) w.arriving 0 [] })) (0) (1) ([]) (hopless) (0x51) := by
  beta_reduce
  and_intros <;> first | with_reducible rfl | decide +kernel

theorem witness_SwitchCoreEvents_4 : (fun (s : State) => s.hubOn = true) (arrived) := by
  beta_reduce
  decide +kernel

theorem witness_SwitchCoreEvents_5 : (fun (s y z : State) (o : Fin 32) (c : Fin 4) (room : Bool) (k : Candidate) =>
    s.hubOn = true ∧ y = s.parkFullNotice o c ∧ (y.context o c).isSome = false ∧ z = y.noteHolds o c ∧ z.choose
    (portUnits room) o c = some k ∧ k.source ≠ .multicast) (queued19) (queued19) (queued19) (19) (0) (true) (⟨1,
    queuedHeld, .unicast⟩) := by
  beta_reduce
  and_intros <;> first | with_reducible rfl | decide +kernel

theorem witness_SwitchCoreEvents_6 : (fun (s y z : State) (o : Fin 32) (c : Fin 4) (room : Bool) (k : Candidate) =>
    s.hubOn = true ∧ y = s.parkFullNotice o c ∧ (y.context o c).isSome = false ∧ z = y.noteHolds o c ∧ z.choose
    (portUnits room) o c = some k ∧ k.source = .multicast) (queuedCopies) (queuedCopies) (queuedCopies) (19) (0)
    (true) (⟨1, copiesHeld, .multicast⟩) := by
  beta_reduce
  and_intros <;> first | with_reducible rfl | decide +kernel

theorem witness_SwitchCoreEvents_7 : (fun (s y : State) (o : Fin 32) (c : Fin 4) (room : Bool) => s.hubOn = true ∧ y =
    s.parkFullNotice o c ∧ ((y.context o c).isSome = true ∨ (y.noteHolds o c).choose (portUnits room) o c = none))
    (up) (up) (19) (0) (true) := by
  beta_reduce
  and_intros <;> first | with_reducible rfl | decide +kernel

theorem witness_SwitchCoreEvents_8 : (fun (s : State) => s.hubOn = true) (up) := by
  beta_reduce
  decide +kernel

theorem witness_SwitchCoreEvents_9 : (fun (s : State) => s.hubOn = true ∧ s.rd Reg.SWC_MCAST_AGE_US = 0) ((up.wr
    Reg.SWC_MCAST_AGE_US 0)) := by
  beta_reduce
  and_intros <;> first | with_reducible rfl | decide +kernel

theorem witness_SwitchCoreEvents_10 : (fun (s t : State) (i : Fin 32) (r : Residue) (h : Held) => s.hubOn = true ∧
    s.rd Reg.SWC_MCAST_AGE_US ≠ 0 ∧ s.residue i = [r] ∧ 4 ≤ r.output ∧ r.entered + rawOfNs (1000 * s.rd
    Reg.SWC_MCAST_AGE_US) < s.mer.raw ∧ s.seg? r.id = some h ∧ t = s.setResidue i []) (aging) (aging.setResidue 0 [])
    (0) (⟨1, 11, 3, 0⟩) (queuedHeld) := by
  beta_reduce
  and_intros <;> first | with_reducible rfl | decide +kernel

theorem witness_SwitchCoreEvents_11 : (fun (s : State) => s.hubOn = true) (up) := by
  beta_reduce
  decide +kernel

theorem witness_SwitchCoreEvents_12 : (fun (s : State) => s.hubOn = true) (up) := by
  beta_reduce
  decide +kernel

theorem witness_SwitchCoreEvents_13 : (fun (s : State) => s.hubOn = true) (up) := by
  beta_reduce
  decide +kernel

theorem witness_SwitchCoreEvents_14 : (fun (s : State) => s.hubOn = true) (up) := by
  beta_reduce
  decide +kernel

theorem witness_UrgencyAndRequesterEvents_1 : (fun (s : State) (tid : Fin 1024) => s.hubOn = true ∧ s.isRoot = true ∧
    tid.val ∈ s.sw.urgent) ({ atRoot with sw := { urgent := [5] } }) (5) := by
  beta_reduce
  and_intros <;> first | with_reducible rfl | decide +kernel

theorem witness_UrgencyAndRequesterEvents_2 : (fun (s : State) => s.hubOn = true ∧ s.rd Reg.SCH_URG_LONG_MS = 0)
    (up.wr Reg.SCH_URG_LONG_MS 0) := by
  beta_reduce
  and_intros <;> first | with_reducible rfl | decide +kernel

theorem witness_UrgencyAndRequesterEvents_3 : (fun (s : State) (tid : Fin 1024) => s.hubOn = true ∧ s.rd
    Reg.SCH_URG_LONG_MS ≠ 0 ∧ s.isRoot = true ∧ tid.val ∈ s.sw.urgent ∧ tid.val ∉ s.sw.urgLong)
    ({ atRoot with sw := { urgent := [5] } }) (5) := by
  beta_reduce
  and_intros <;> first | with_reducible rfl | decide +kernel

theorem witness_UrgencyAndRequesterEvents_4 : (fun (s : State) (tid : Fin 1024) (p : Nat) => s.hubOn = true ∧ s.rd
    Reg.SCH_URG_LONG_MS ≠ 0 ∧ s.isRoot = false ∧ ([0, 1].find? (fun p => s.sfnTunnel p == some tid.val && s.flag
    (Reg.DSP_STAT_LOW p) && s.flag Reg.SCH_CTRL_URG_EN) = some p) ∧ p ∉ s.sw.urgLong) (lowPipe) (5) (0) := by
  beta_reduce
  and_intros <;> first | with_reducible rfl | decide +kernel

theorem witness_UrgencyAndRequesterEvents_5 : (fun (s : State) (tag : Fin 1024) (t : SfnTag) => s.hubOn = true ∧
    (s.pcie.tags.find? (fun t => t.tag == tag.val) = some t)) (fetching) (7) (⟨7, 0, 0, 64, []⟩) := by
  beta_reduce
  and_intros <;> first | with_reducible rfl | decide +kernel

theorem witness_UrgencyAndRequesterEvents_6 : (fun (s : State) => s.hubOn = true ∧ s.isRoot = false) (up) := by
  beta_reduce
  and_intros <;> first | with_reducible rfl | decide +kernel

theorem witness_UrgencyAndRequesterEvents_7 : (fun (s y : State) => s.hubOn = true ∧ s.flag Reg.SFN_STAT_FLR_BUSY =
    true ∧ (y = ((s.setTags []).cfgReset 0).withPcie fun p => { p with want := [], pendingMsi := [] })) (up.put
    Reg.SFN_STAT_FLR_BUSY true) ((((up.put Reg.SFN_STAT_FLR_BUSY true).setTags []).cfgReset 0).withPcie fun p =>
    { p with want := [], pendingMsi := [] }) := by
  beta_reduce
  and_intros <;> first | with_reducible rfl | decide +kernel

theorem witness_UrgencyAndRequesterEvents_8 : (fun (s : State) => s.hubOn = true ∧ s.flag Reg.SFN_STAT_FLR_BUSY =
    false) (up) := by
  beta_reduce
  and_intros <;> first | with_reducible rfl | decide +kernel

theorem witness_PortAndTlpEvents_1 : (fun (s y : State) => s.hubOn = true ∧ s.isRoot = true ∧ (∀ v, v < 64 → (s.vdp
    v).bound = false) ∧ s.pcie.lines = [] ∧ (y = (s.withPcie fun p =>
    { p with cfg := [], reads := [], lockWait := [], npWait := [], intx := 0 }))) (atRoot) ((atRoot.withPcie fun p =>
    { p with cfg := [], reads := [], lockWait := [], npWait := [], intx := 0 })) := by
  beta_reduce
  and_intros <;> first | with_reducible rfl | decide +kernel

theorem witness_PortAndTlpEvents_2 : (fun (s y : State) (port : Fin 3) (l w v : BitVec 4) => s.hubOn = true ∧ s.isRoot
    = (port.val == 2) ∧ y = (((s.wr (Reg.PCIE_STAT_LSTATE (s.pcieBlock port)) l.toNat).wr (Reg.PCIE_STAT_WIDTH
    (s.pcieBlock port)) w.toNat).wr (Reg.PCIE_STAT_SPEED (s.pcieBlock port)) v.toNat).put (Reg.PCIE_STAT_DL_ACTIVE
    (s.pcieBlock port)) true ∧ (s.rd (Reg.PCIE_STAT_DL_ACTIVE (s.pcieBlock port)), s.rd (Reg.PCIE_STAT_WIDTH
    (s.pcieBlock port)), s.rd (Reg.PCIE_STAT_SPEED (s.pcieBlock port))) ≠ (1, w.toNat, v.toNat)) (up) ((((up.wr
    (Reg.PCIE_STAT_LSTATE 0) 3).wr (Reg.PCIE_STAT_WIDTH 0) 4).wr (Reg.PCIE_STAT_SPEED 0) 5).put
    (Reg.PCIE_STAT_DL_ACTIVE 0) true) (0) (3) (4) (5) := by
  beta_reduce
  and_intros <;> first | with_reducible rfl | decide +kernel

theorem witness_PortAndTlpEvents_3 : (fun (s : State) (v : Fin 64) => s.hubOn = true ∧ (s.vdp v).bound = true ∧
    s.route (s.vdp v).position = .drop) (bound0) (0) := by
  beta_reduce
  and_intros <;> first | with_reducible rfl | decide +kernel

theorem witness_PortAndTlpEvents_4 : (fun (s : State) => s.hubOn = true ∧ s.isRoot = true) (atRoot) := by
  beta_reduce
  and_intros <;> first | with_reducible rfl | decide +kernel

theorem witness_PortAndTlpEvents_5 : (fun (s : State) => s.hubOn = true ∧ s.isRoot = true) (atRoot) := by
  beta_reduce
  and_intros <;> first | with_reducible rfl | decide +kernel

theorem witness_PortAndTlpEvents_6 : (fun (s : State) => s.hubOn = true ∧ s.isRoot = false) (up) := by
  beta_reduce
  and_intros <;> first | with_reducible rfl | decide +kernel

theorem witness_PortAndTlpEvents_7 : (fun (s : State) (b : Bytes) => s.hubOn = true ∧ s.isRoot = false ∧ tlpPrefixed b
    = true) (up) ([0x80]) := by
  beta_reduce
  and_intros <;> first | with_reducible rfl | decide +kernel

theorem witness_PortAndTlpEvents_8 : (fun (s : State) (n : Fin 2) (b : Bytes) => s.hubOn = true ∧ s.isRoot = false ∧
    s.wrapping = true ∧ s.unitOut (0x20 + n) = false ∧ tlpPrefixed b = false ∧ tlpKind b = .message ∧ (tlpMsgCode b ≠
    0x1B ∨ s.inEntry = false) ∧ tlpMsgCode b ≠ 0x18) (up) (1) ([0x30]) := by
  beta_reduce
  and_intros <;> first | with_reducible rfl | decide +kernel

theorem witness_PortAndTlpEvents_9 : (fun (s : State) (n : Fin 2) (b : Bytes) => s.hubOn = true ∧ s.isRoot = false ∧
    s.wrapping = true ∧ s.unitOut (0x20 + n) = false ∧ tlpPrefixed b = false ∧ tlpKind b = .message ∧ tlpMsgCode b =
    0x18) (up) (1) ([0x30, 0, 0, 0, 0, 0, 0, 0x18]) := by
  beta_reduce
  and_intros <;> first | with_reducible rfl | decide +kernel

theorem witness_PortAndTlpEvents_10 : (fun (s : State) (b : Bytes) => s.hubOn = true ∧ s.isRoot = false ∧ tlpPrefixed
    b = false ∧ tlpKind b = .message ∧ tlpMsgCode b = 0x1B ∧ s.inEntry = true) (entering) ([0x30, 0, 0, 0, 0, 0, 0,
    0x1B]) := by
  beta_reduce
  and_intros <;> first | with_reducible rfl | decide +kernel

theorem witness_PortAndTlpEvents_11 : (fun (s : State) (n : Fin 2) (b : Bytes) => s.hubOn = true ∧ s.isRoot = false ∧
    s.wrapping = true ∧ s.unitOut (0x20 + n) = false ∧ tlpPrefixed b = false ∧ tlpNonPosted b = true ∧ s.flag
    (Reg.PCIE_LOCK_HELD n) = true) (up.put (Reg.PCIE_LOCK_HELD 1) true) (1) ([0]) := by
  beta_reduce
  and_intros <;> first | with_reducible rfl | decide +kernel

theorem witness_PortAndTlpEvents_12 : (fun (s : State) (n : Fin 2) (b : Bytes) => s.hubOn = true ∧ s.isRoot = false ∧
    s.wrapping = true ∧ s.unitOut (0x20 + n) = false ∧ tlpPrefixed b = false ∧ tlpKind b ≠ .message ∧ (tlpNonPosted b
    && s.flag (Reg.PCIE_LOCK_HELD n)) = false) (up) (1) ([0x40]) := by
  beta_reduce
  and_intros <;> first | with_reducible rfl | decide +kernel

theorem witness_PortAndTlpEvents_13 : (fun (s : State) => s.hubOn = true) (up) := by
  beta_reduce
  decide +kernel

theorem witness_LockPrefetchAndSideband_1 : (fun (s : State) (b : Bytes) => s.hubOn = true ∧ tlpKind b = .memReadLk ∧
    s.isRoot = true) (atRoot) ([1]) := by
  beta_reduce
  and_intros <;> first | with_reducible rfl | decide +kernel

theorem witness_LockPrefetchAndSideband_2 : (fun (s : State) (b : Bytes) => s.hubOn = true ∧ tlpKind b = .memReadLk ∧
    s.isRoot = false) (up) ([1]) := by
  beta_reduce
  and_intros <;> first | with_reducible rfl | decide +kernel

theorem witness_LockPrefetchAndSideband_3 : (fun (s : State) (v r : Nat) => s.hubOn = true ∧ s.isRoot = true ∧
    s.pcie.lock = some (v, r)) (atRoot.setLock 0 (some (0, 0))) (0) (0) := by
  beta_reduce
  and_intros <;> first | with_reducible rfl | decide +kernel

theorem witness_LockPrefetchAndSideband_4 : (fun (s : State) => s.hubOn = true ∧ s.isRoot = false) (up) := by
  beta_reduce
  and_intros <;> first | with_reducible rfl | decide +kernel

theorem witness_LockPrefetchAndSideband_5 : (fun (s y : State) (n : Fin 2) (v r : Nat) => s.hubOn = true ∧ s.pcie.lock
    = some (v, r) ∧ y = (s.count 0x148).notice 0x0B04 ([byte v] ++ le 2 (orOne (s.rd (Reg.PCIE_CTRL_LOCK_MS
    (s.pcieBlock n))))) ∧ s.isRoot = true ∧ y.isRoot = true) (atRoot.setLock 0 (some (0, 0))) (((atRoot.setLock 0
    (some (0, 0))).count 0x148).notice 0x0B04 ([byte 0] ++ le 2 (orOne ((atRoot.setLock 0 (some (0, 0))).rd
    (Reg.PCIE_CTRL_LOCK_MS 0))))) (0) (0) (0) := by
  beta_reduce
  and_intros <;> first | with_reducible rfl | decide +kernel

theorem witness_LockPrefetchAndSideband_6 : (fun (s y : State) (n : Fin 2) (v r : Nat) => s.hubOn = true ∧ s.pcie.lock
    = some (v, r) ∧ y = (s.count 0x148).notice 0x0B04 ([byte v] ++ le 2 (orOne (s.rd (Reg.PCIE_CTRL_LOCK_MS
    (s.pcieBlock n))))) ∧ s.isRoot = false ∧ s.flag (Reg.PCIE_LOCK_HELD n) = true ∧ y.isRoot = false) (heldLock)
    (((heldLock).count 0x148).notice 0x0B04 ([byte 0] ++ le 2 (orOne ((heldLock).rd (Reg.PCIE_CTRL_LOCK_MS 0))))) (0)
    (0) (0) := by
  beta_reduce
  and_intros <;> first | with_reducible rfl | decide +kernel

theorem witness_LockPrefetchAndSideband_7 : (fun (s : State) => s.hubOn = true) (up) := by
  beta_reduce
  decide +kernel

theorem witness_LockPrefetchAndSideband_8 : (fun (s : State) (tag : Fin 1024) (l : PfLine) (r : Nat) => s.hubOn = true
    ∧ (s.pcie.lines.filter (fun l => l.tag == tag.val) = [l]) ∧ l.arrived = some r ∧ r + rawOfNs (orOne (s.rd
    (Reg.PCIE_CTRL_PF_AGE 0)) * 10000) ≤ s.mer.raw) (agedLine) (3)
    ({ addr := 0, vdp := 0, window := 0, tag := 3, arrived := some 0 }) (0) := by
  beta_reduce
  and_intros <;> first | with_reducible rfl | decide +kernel

theorem witness_LockPrefetchAndSideband_9 : (fun (s : State) => s.hubOn = true ∧ s.isRoot = true) (atRoot) := by
  beta_reduce
  and_intros <;> first | with_reducible rfl | decide +kernel

theorem witness_LockPrefetchAndSideband_10 : (fun (s : State) => s.hubOn = true ∧ s.isRoot = true) (atRoot) := by
  beta_reduce
  and_intros <;> first | with_reducible rfl | decide +kernel

theorem witness_LockPrefetchAndSideband_11 : (fun (s y : State) (b : Bytes) => s.hubOn = true ∧ s.isRoot = false ∧
    leAt b 1 1 = 0x13 ∧ (y = s.withSide 2 fun x => { x with hotResets := leAt b 6 1 })) (up) (up.withSide 2 fun x =>
    { x with hotResets := 0 }) ([0, 0x13]) := by
  beta_reduce
  and_intros <;> first | with_reducible rfl | decide +kernel

theorem witness_LockPrefetchAndSideband_12 : (fun (s : State) => s.hubOn = true ∧ s.isRoot = false) (up) := by
  beta_reduce
  and_intros <;> first | with_reducible rfl | decide +kernel

theorem witness_LockPrefetchAndSideband_13 : (fun (s : State) => s.hubOn = true ∧ s.isRoot = true) (atRoot) := by
  beta_reduce
  and_intros <;> first | with_reducible rfl | decide +kernel

theorem witness_LockPrefetchAndSideband_14 : (fun (s : State) => s.hubOn = true ∧ s.isRoot = false) (up) := by
  beta_reduce
  and_intros <;> first | with_reducible rfl | decide +kernel

theorem witness_ScanOutEvents_1 : (fun (s x y z : State) (p : Fin 2) => s.hubOn = true ∧ (s.pipe p).running = true ∧ x
    = (s.incr (Reg.DSP_FRAME_FRAME p)).count (pipeCounter p 0) ∧ (y = x.withPipe p fun q =>
    { q with substitute := q.failed, failed := false, edgeRaw := x.mer.raw }) ∧ z = ((((y.put (Reg.DSP_STAT_VBLANK p)
    true).wr (Reg.DSP_LINE_LINE p) (y.vActive p)).clearLow p).pipeLatch p).lockEdge p ∧ z.wrapping = true ∧ z.pipeIn p
    = true) (scanning) (((scanning).incr (Reg.DSP_FRAME_FRAME (0 : Fin 2))).count (pipeCounter (0 : Fin 2) 0))
    ((((scanning).incr (Reg.DSP_FRAME_FRAME (0 : Fin 2))).count (pipeCounter (0 : Fin 2) 0)).withPipe (0 : Fin 2) fun
    q =>
    { q with substitute := q.failed, failed := false,
             edgeRaw := (((scanning).incr (Reg.DSP_FRAME_FRAME (0 : Fin 2))).count (pipeCounter (0 : Fin 2) 0)).mer.raw })
    (((((((((scanning).incr (Reg.DSP_FRAME_FRAME (0 : Fin 2))).count (pipeCounter (0 : Fin 2) 0)).withPipe (0 : Fin 2)
    fun q =>
    { q with substitute := q.failed, failed := false,
             edgeRaw := (((scanning).incr (Reg.DSP_FRAME_FRAME (0 : Fin 2))).count (pipeCounter (0 : Fin 2) 0)).mer.raw }).put
    (Reg.DSP_STAT_VBLANK (0 : Fin 2)) true).wr (Reg.DSP_LINE_LINE (0 : Fin 2)) (((((scanning).incr
    (Reg.DSP_FRAME_FRAME (0 : Fin 2))).count (pipeCounter (0 : Fin 2) 0)).withPipe (0 : Fin 2) fun q =>
    { q with substitute := q.failed, failed := false,
             edgeRaw := (((scanning).incr (Reg.DSP_FRAME_FRAME (0 : Fin 2))).count (pipeCounter (0 : Fin 2) 0)).mer.raw }).vActive
    (0 : Fin 2))).clearLow (0 : Fin 2)).pipeLatch (0 : Fin 2)).lockEdge (0 : Fin 2)) (0) := by
  beta_reduce
  and_intros <;> first | with_reducible rfl | decide +kernel

theorem witness_ScanOutEvents_2 : (fun (s y : State) (p : Fin 2) => s.hubOn = true ∧ y = s.put
    (Reg.DSP_COMMIT_STAT_PENDING p) true ∧ y.flag (Reg.DSP_CTRL_EN p) = true) (up.put (Reg.DSP_CTRL_EN 0) true)
    ((up.put (Reg.DSP_CTRL_EN 0) true).put (Reg.DSP_COMMIT_STAT_PENDING 0) true) (0) := by
  beta_reduce
  and_intros <;> first | with_reducible rfl | decide +kernel

theorem witness_ScanOutEvents_3 : (fun (s y : State) (p : Fin 2) => s.hubOn = true ∧ y = s.put
    (Reg.DSP_COMMIT_STAT_PENDING p) true ∧ y.flag (Reg.DSP_CTRL_EN p) = false) (up) (up.put
    (Reg.DSP_COMMIT_STAT_PENDING 0) true) (0) := by
  beta_reduce
  and_intros <;> first | with_reducible rfl | decide +kernel

theorem witness_ScanOutEvents_4 : (fun (s y z : State) (p : Fin 2) => s.hubOn = true ∧ s.flag (Reg.DSP_CTRL_EN p) =
    false ∧ y = s.put (Reg.DSP_CTRL_EN p) true ∧ y.flag (Reg.DSP_CTRL_EN p) = true ∧ (y.pipe p).running = false ∧
    y.pipeIn p = true ∧ y.wrapping = true ∧ z = y.lockFollow p ∧ z.rd (Reg.DSP_STAT_LOCK_STATE p) < 2) (up) (up.put
    (Reg.DSP_CTRL_EN 0) true) ((up.put (Reg.DSP_CTRL_EN 0) true).lockFollow 0) (0) := by
  beta_reduce
  and_intros <;> first | with_reducible rfl | decide +kernel

theorem witness_ScanOutEvents_5 : (fun (s : State) (p : Fin 2) => s.hubOn = true ∧ s.flag (Reg.DSP_CTRL_EN p) = true)
    (up.put (Reg.DSP_CTRL_EN 0) true) (0) := by
  beta_reduce
  and_intros <;> first | with_reducible rfl | decide +kernel

theorem witness_ScanOutEvents_6 : (fun (s : State) (p : Fin 2) => s.hubOn = true ∧ (s.pipe p).running = true ∧
    s.vActive p ≤ (s.pipe p).next) (scanning.withPipe 0 fun x => { x with next := 5000 }) (0) := by
  beta_reduce
  and_intros <;> first | with_reducible rfl | decide +kernel

theorem witness_ScanOutEvents_7 : (fun (s y z : State) (p : Fin 2) (l : PipeLine) => s.hubOn = true ∧ (s.pipe p).running = true ∧ 0 < (s.pipe p).next ∧ (s.pipe p).next < s.vActive p ∧ ((s.pipe p).lines.find? (fun l => l.n == (s.pipe p).next && l.left == []) = some l) ∧ y = (s.wr (Reg.DSP_LINE_LINE p) (s.pipe p).next).put (Reg.DSP_STAT_VBLANK p) false ∧ (z = y.withPipe p fun x => { x with
      next := (s.pipe p).next + 1
      lines := x.lines.filter (fun l => l.n != (s.pipe p).next)
      reads := x.reads.map fun r => match r.2 with
        | .base m _ => if m == (s.pipe p).next then (r.1, .passed) else r
        | .overlay m _ => if m == (s.pipe p).next then (r.1, .passed) else r
        | _ => r })) (scanLine) ((scanLine.wr (Reg.DSP_LINE_LINE 0) 1).put (Reg.DSP_STAT_VBLANK 0) false) (((scanLine.wr (Reg.DSP_LINE_LINE 0) 1).put (Reg.DSP_STAT_VBLANK 0) false).withPipe 0 fun x => { x with next := 2, lines := [] }) (0) ({ n := 1 }) := by
  beta_reduce
  and_intros <;> first | with_reducible rfl | decide +kernel

theorem witness_ScanOutEvents_8 : (fun (s : State) => s.hubOn = true) (up) := by
  beta_reduce
  decide +kernel

theorem witness_ScanOutEvents_9 : (fun (s : State) => s.hubOn = true) (up) := by
  beta_reduce
  decide +kernel

theorem witness_ScanOutEvents_10 : (fun (s : State) => s.hubOn = true) (up) := by
  beta_reduce
  decide +kernel

theorem witness_DisplayPortEvents_1 : (fun (s y : State) (k : Fin 4) => s.hubOn = true ∧ y = s.put (Reg.DPO_STAT_HPD
    k) true ∧ y.dpReady k = true) (up.put (Reg.DPO_CTRL_EN 1) true) ((up.put (Reg.DPO_CTRL_EN 1) true).put
    (Reg.DPO_STAT_HPD 1) true) (1) := by
  beta_reduce
  and_intros <;> first | with_reducible rfl | decide +kernel

theorem witness_DisplayPortEvents_2 : (fun (s y : State) (k : Fin 4) => s.hubOn = true ∧ y = s.put (Reg.DPO_STAT_HPD
    k) true ∧ y.dpReady k = false) (up) (up.put (Reg.DPO_STAT_HPD 1) true) (1) := by
  beta_reduce
  and_intros <;> first | with_reducible rfl | decide +kernel

theorem witness_DisplayPortEvents_3 : (fun (s y : State) (k : Fin 4) => s.hubOn = true ∧ (y = (((s.put
    (Reg.DPO_STAT_HPD k) false).put (Reg.DPO_STAT_TRAINED k) false).put (Reg.DPO_STAT_VIDEO k) false).withDp k fun x
    => { x with training := false, lost := false })) (up) ((((up.put (Reg.DPO_STAT_HPD 1) false).put
    (Reg.DPO_STAT_TRAINED 1) false).put (Reg.DPO_STAT_VIDEO 1) false).withDp 1 fun x =>
    { x with training := false, lost := false }) (1) := by
  beta_reduce
  and_intros <;> first | with_reducible rfl | decide +kernel

theorem witness_DisplayPortEvents_4 : (fun (s : State) (k : Fin 4) => s.hubOn = true ∧ s.dpReady k = true) (plugged)
    (1) := by
  beta_reduce
  and_intros <;> first | with_reducible rfl | decide +kernel

theorem witness_DisplayPortEvents_5 : (fun (s : State) (k : Fin 4) => s.hubOn = true ∧ s.dpReady k = true) (plugged)
    (1) := by
  beta_reduce
  and_intros <;> first | with_reducible rfl | decide +kernel

theorem witness_DisplayPortEvents_6 : (fun (s y : State) (k : Fin 4) (r n : BitVec 2) => s.hubOn = true ∧ (s.dpOut
    k).training = true ∧ r.toNat ≤ s.rd (Reg.DPO_CTRL_MAX_RATE k) ∧ n.toNat ≤ min 2 (s.rd (Reg.DPO_CTRL_MAX_LANES k))
    ∧ (y = ((((s.withDp k fun x => { x with training := false, lost := false }).count (0x160 + k)).put
    (Reg.DPO_STAT_TRAINED k) true).wr (Reg.DPO_STAT_RATE k) r.toNat).wr (Reg.DPO_STAT_LANES k) n.toNat)) (dpTraining)
    (((((dpTraining.withDp 1 fun x => { x with training := false, lost := false }).count 0x161).put
    (Reg.DPO_STAT_TRAINED 1) true).wr (Reg.DPO_STAT_RATE 1) 0).wr (Reg.DPO_STAT_LANES 1) 0) (1) (0) (0) := by
  beta_reduce
  and_intros <;> first | with_reducible rfl | decide +kernel

theorem witness_DisplayPortEvents_7 : (fun (s : State) (k : Fin 4) => s.hubOn = true ∧ (s.dpOut k).training = true)
    (dpTraining) (1) := by
  beta_reduce
  and_intros <;> first | with_reducible rfl | decide +kernel

theorem witness_DisplayPortEvents_8 : (fun (s : State) (k : Fin 4) => s.hubOn = true ∧ s.dpReady k = true) (plugged)
    (1) := by
  beta_reduce
  and_intros <;> first | with_reducible rfl | decide +kernel

theorem witness_DisplayPortEvents_9 : (fun (s y : State) (k : Fin 4) (v : Word) => s.hubOn = true ∧ (y =
    [Reg.DPO_AUXCMD_CMD k, Reg.DPO_AUXCMD_LEN k, Reg.DPO_AUXCMD_ADDR k].foldl (fun (s : State) f => s.wr f (f.get v))
    s) ∧ (y.dpOut k).aux = none ∧ y.rd (Reg.DPO_AUXCMD_CMD k) < 6 ∧ (y.dpOut k).training = false) (plugged)
    ([Reg.DPO_AUXCMD_CMD 1, Reg.DPO_AUXCMD_LEN 1, Reg.DPO_AUXCMD_ADDR 1].foldl (fun (s : State) f => s.wr f (f.get 0))
    plugged) (1) (0) := by
  beta_reduce
  and_intros <;> first | with_reducible rfl | decide +kernel

theorem witness_DisplayPortEvents_10 : (fun (s : State) (k : Fin 4) (d : Nat) => s.hubOn = true ∧ (s.dpOut k).aux =
    some d ∧ (s.dpOut k).auxHeld = false ∧ s.rd (Reg.DPO_AUXCMD_CMD k) ∈ [0, 2, 4]) (auxing) (1) (0) := by
  beta_reduce
  and_intros <;> first | with_reducible rfl | decide +kernel

theorem witness_DisplayPortEvents_11 : (fun (s : State) (k : Fin 4) (d : Nat) => s.hubOn = true ∧ (s.dpOut k).aux =
    some d ∧ (s.dpOut k).auxHeld = false) (auxing) (1) (0) := by
  beta_reduce
  and_intros <;> first | with_reducible rfl | decide +kernel

theorem witness_DisplayPortEvents_12 : (fun (s : State) (k : Fin 4) (d : Nat) => s.hubOn = true ∧ (s.dpOut k).aux =
    some d ∧ (s.dpOut k).auxHeld = false ∧ d < 7) (auxing) (1) (0) := by
  beta_reduce
  and_intros <;> first | with_reducible rfl | decide +kernel

theorem witness_DisplayPortEvents_13 : (fun (s : State) (k : Fin 4) => s.hubOn = true ∧ (s.dpOut k).aux.isSome = true
    ∧ (s.dpOut k).auxHeld = false) (auxing) (1) := by
  beta_reduce
  and_intros <;> first | with_reducible rfl | decide +kernel

theorem witness_UsbDescriptorCommands_1 : (fun (s : State) (n : Fin 8) (i : BitVec 16) (d : UsbTd) => s.hubOn = true ∧
    ((s.usbPort n).tds.find? (fun d => d.index == i.toNat && d.type == 0 && !d.started) = some d) ∧ s.usbRuns = true ∧
    (s.usbPort n).held = [] ∧ (s.usbPort n).resetDue = false ∧ s.flag (Reg.USBH_PORT_STAT_RESETTING n) = false ∧
    (s.tdHead n d.ctx).map (·.index) = some i.toNat ∧ (s.usbCtx d.ctx).halted = false ∧ s.ctxElsewhere d.ctx n = false
    ∧ d.len ≤ 65536) ((tdAt 0)) (0) (3) ((aTd 0)) := by
  beta_reduce
  and_intros <;> first | with_reducible rfl | decide +kernel

theorem witness_UsbDescriptorCommands_2 : (fun (s : State) (n : Fin 8) (i : BitVec 16) (d : UsbTd) => s.hubOn = true ∧
    ((s.usbPort n).tds.find? (fun d => d.index == i.toNat && d.type == 1 && !d.started) = some d) ∧ s.usbRuns = true ∧
    (s.usbPort n).held = [] ∧ (s.usbPort n).resetDue = false ∧ s.flag (Reg.USBH_PORT_STAT_RESETTING n) = false ∧
    (s.tdHead n d.ctx).map (·.index) = some i.toNat ∧ (s.usbCtx d.ctx).halted = false ∧ s.ctxElsewhere d.ctx n = false
    ∧ d.len ≤ 65536) ((tdAt 1)) (0) (3) ((aTd 1)) := by
  beta_reduce
  and_intros <;> first | with_reducible rfl | decide +kernel

theorem witness_UsbDescriptorCommands_3 : (fun (s : State) (n : Fin 8) (i : BitVec 16) (d : UsbTd) => s.hubOn = true ∧
    ((s.usbPort n).tds.find? (fun d => d.index == i.toNat && d.type == 2 && !d.started) = some d) ∧ s.usbRuns = true ∧
    (s.usbPort n).held = [] ∧ (s.usbPort n).resetDue = false ∧ s.flag (Reg.USBH_PORT_STAT_RESETTING n) = false ∧
    (s.tdHead n d.ctx).map (·.index) = some i.toNat ∧ (s.usbCtx d.ctx).halted = false ∧ s.ctxElsewhere d.ctx n = false
    ∧ d.len ≤ 65536) ((tdAt 2)) (0) (3) ((aTd 2)) := by
  beta_reduce
  and_intros <;> first | with_reducible rfl | decide +kernel

theorem witness_UsbDescriptorCommands_4 : (fun (s : State) (n : Fin 8) (i : BitVec 16) (d : UsbTd) => s.hubOn = true ∧
    ((s.usbPort n).tds.find? (fun d => d.index == i.toNat && d.type == 3 && !d.started) = some d) ∧ s.usbRuns = true ∧
    (s.usbPort n).held = [] ∧ (s.usbPort n).resetDue = false ∧ s.flag (Reg.USBH_PORT_STAT_RESETTING n) = false ∧
    (s.tdHead n d.ctx).map (·.index) = some i.toNat ∧ (s.usbCtx d.ctx).halted = false ∧ s.ctxElsewhere d.ctx n = false
    ∧ d.len ≤ 65536) ((tdAt 3)) (0) (3) ((aTd 3)) := by
  beta_reduce
  and_intros <;> first | with_reducible rfl | decide +kernel

theorem witness_UsbDescriptorCommands_5 : (fun (s : State) (n : Fin 8) (i : BitVec 16) (d : UsbTd) => s.hubOn = true ∧
    ((s.usbPort n).tds.find? (fun d => d.index == i.toNat && d.type == 4 && !d.started) = some d) ∧ s.usbRuns = true ∧
    (s.usbPort n).held = [] ∧ (s.usbPort n).resetDue = false ∧ s.flag (Reg.USBH_PORT_STAT_RESETTING n) = false ∧
    (s.tdHead n d.ctx).map (·.index) = some i.toNat ∧ (s.usbCtx d.ctx).halted = false ∧ s.ctxElsewhere d.ctx n = false
    ∧ d.len ≤ 65536) ((tdAt 4)) (0) (3) ((aTd 4)) := by
  beta_reduce
  and_intros <;> first | with_reducible rfl | decide +kernel

theorem witness_UsbDescriptorCommands_6 : (fun (s : State) (n : Fin 8) (i : BitVec 16) (d : UsbTd) => s.hubOn = true ∧
    ((s.usbPort n).tds.find? (fun d => d.index == i.toNat && d.type == 5 && !d.started) = some d) ∧ s.usbRuns = true ∧
    (s.usbPort n).held = [] ∧ (s.usbPort n).resetDue = false ∧ s.flag (Reg.USBH_PORT_STAT_RESETTING n) = false ∧
    (s.tdHead n d.ctx).map (·.index) = some i.toNat ∧ (s.usbCtx d.ctx).halted = false ∧ s.ctxElsewhere d.ctx n = false
    ∧ d.len ≤ 65536) ((tdAt 5)) (0) (3) ((aTd 5)) := by
  beta_reduce
  and_intros <;> first | with_reducible rfl | decide +kernel

theorem witness_UsbDescriptorCommands_7 : (fun (s : State) (n : Fin 8) (i : BitVec 16) (d : UsbTd) => s.hubOn = true ∧
    ((s.usbPort n).tds.find? (fun d => d.index == i.toNat && d.type == 6 && !d.started) = some d) ∧ s.usbRuns = true ∧
    (s.usbPort n).held = [] ∧ (s.usbPort n).resetDue = false ∧ s.flag (Reg.USBH_PORT_STAT_RESETTING n) = false ∧
    (s.tdHead n d.ctx).map (·.index) = some i.toNat ∧ s.ctxElsewhere d.ctx n = false ∧ d.len ≤ 65536) ((tdAt 6)) (0)
    (3) ((aTd 6)) := by
  beta_reduce
  and_intros <;> first | with_reducible rfl | decide +kernel

theorem witness_UsbEngineEvents_1 : (fun (s : State) (n : Fin 8) => s.hubOn = true ∧ s.flag
    (Reg.USBH_PORT_CTRL_RING_EN n) = true ∧ (s.usbPort n).due = false) (up.put (Reg.USBH_PORT_CTRL_RING_EN 0) true)
    (0) := by
  beta_reduce
  and_intros <;> first | with_reducible rfl | decide +kernel

theorem witness_UsbEngineEvents_2 : (fun (s y : State) (n : Fin 8) (mem : HostMem) => s.hubOn = true ∧ s.flag
    (Reg.USBH_PORT_CTRL_RING_EN n) = false ∧ (y = (s.hostRead 3 (s.usbPcb n) 32).withUsbPort n fun x =>
    { x with due := false }) ∧ mem.read (y.usbPcb n) 32 = none) (up) ((up.hostRead 3 (up.usbPcb 0) 32).withUsbPort 0
    fun x => { x with due := false }) (0) ([]) := by
  beta_reduce
  and_intros <;> first | with_reducible rfl | decide +kernel

theorem witness_UsbEngineEvents_3 : (fun (s y : State) (n : Fin 8) (mem : HostMem) (b : Bytes) => s.hubOn = true ∧
    s.flag (Reg.USBH_PORT_CTRL_RING_EN n) = false ∧ (y = (s.hostRead 3 (s.usbPcb n) 32).withUsbPort n fun x =>
    { x with due := false }) ∧ mem.read (y.usbPcb n) 32 = some b ∧ 4 ≤ leAt b 16 1 ∧ leAt b 16 1 ≤ 12) (up)
    ((up.hostRead 3 (up.usbPcb 0) 32).withUsbPort 0 fun x => { x with due := false }) (0) ([(0, zeros 16 ++ [4] ++
    zeros 47)]) ((zeros 16 ++ [4] ++ zeros 15)) := by
  beta_reduce
  and_intros <;> first | with_reducible rfl | decide +kernel

theorem witness_UsbEngineEvents_4 : (fun (s y : State) (n : Fin 8) (mem : HostMem) (b : Bytes) => s.hubOn = true ∧
    s.flag (Reg.USBH_PORT_CTRL_RING_EN n) = false ∧ (y = (s.hostRead 3 (s.usbPcb n) 32).withUsbPort n fun x =>
    { x with due := false }) ∧ mem.read (y.usbPcb n) 32 = some b ∧ (leAt b 16 1 < 4 ∨ 12 < leAt b 16 1)) (up)
    ((up.hostRead 3 (up.usbPcb 0) 32).withUsbPort 0 fun x => { x with due := false }) (0) ([(0, zeros 64)]) ((zeros
    32)) := by
  beta_reduce
  and_intros <;> first | with_reducible rfl | decide +kernel

theorem witness_UsbEngineEvents_5 : (fun (s : State) => s.hubOn = true) (up) := by
  beta_reduce
  decide +kernel

theorem witness_UsbEngineEvents_6 : (fun (s : State) => s.hubOn = true ∧ s.usbRuns = true) (usbUp) := by
  beta_reduce
  and_intros <;> first | with_reducible rfl | decide +kernel

theorem witness_UsbEngineEvents_7 : (fun (s y : State) (b : BitVec 8) => s.hubOn = true ∧ s.usbRuns = true ∧ (y =
    (List.range 8).foldl (fun (s : State) n => s.usbBoundary n (bit b.toNat n)) s) ∧ (List.range 8).find? y.usbSof =
    none) (usbUp) ((List.range 8).foldl (fun (s : State) n => s.usbBoundary n false) usbUp) (0) := by
  beta_reduce
  and_intros <;> first | with_reducible rfl | decide +kernel

theorem witness_UsbEngineEvents_8 : (fun (s y : State) (b : BitVec 8) (n : Nat) => s.hubOn = true ∧ s.usbRuns = true ∧
    (y = (List.range 8).foldl (fun (s : State) n => s.usbBoundary n (bit b.toNat n)) s) ∧ (List.range 8).find?
    y.usbSof = some n) (usbUp.put (Reg.USBH_PORT_STAT_ENABLED 1) true) ((List.range 8).foldl (fun (s : State) n =>
    s.usbBoundary n false) (usbUp.put (Reg.USBH_PORT_STAT_ENABLED 1) true)) (0) (1) := by
  beta_reduce
  and_intros <;> first | with_reducible rfl | decide +kernel

theorem witness_UsbEngineEvents_9 : (fun (s y z : State) (n : Fin 8) (b : Bytes) (room : Bool) (c : Nat) (d : UsbTd)
    => s.hubOn = true ∧ (s.usbPort n).busy = some c ∧ (y = (s.withUsbPort n fun x =>
    { x with busy := none, room := room }).count (usbCounter n 0)) ∧ y.tdHead n c = some d ∧ z = State.sweepBad n 4096
    (y.tdGood n d b)) ((onBus 1)) (((onBus 1).withUsbPort 0 fun x => { x with busy := none, room := true }).count
    (usbCounter 0 0)) (State.sweepBad 0 4096 ((((onBus 1).withUsbPort 0 fun x =>
    { x with busy := none, room := true }).count (usbCounter 0 0)).tdGood 0 ({ aTd 1 with started := true }) [])) (0)
    ([]) (true) (5) ({ aTd 1 with started := true }) := by
  beta_reduce
  and_intros <;> first | with_reducible rfl | decide +kernel

theorem witness_UsbEngineEvents_10 : (fun (s y z : State) (n : Fin 8) (room : Bool) (c : Nat) (d : UsbTd) => s.hubOn =
    true ∧ (s.usbPort n).busy = some c ∧ (y = (s.withUsbPort n fun x => { x with busy := none, room := room }).count
    (usbCounter n 0)) ∧ y.tdHead n c = some d ∧ d.type = 0 ∧ (z = State.sweepBad n 4096 ((y.withUsbPort n fun x =>
    { x with naked := x.naked ++ [c] }).count (usbCounter n 1)))) ((onBus 0)) (((onBus 0).withUsbPort 0 fun x =>
    { x with busy := none, room := true }).count (usbCounter 0 0)) (State.sweepBad 0 4096 (((((onBus 0).withUsbPort 0
    fun x => { x with busy := none, room := true }).count (usbCounter 0 0)).withUsbPort 0 fun x =>
    { x with naked := x.naked ++ [5] }).count (usbCounter 0 1))) (0) (true) (5) ({ aTd 0 with started := true }) := by
  beta_reduce
  and_intros <;> first | with_reducible rfl | decide +kernel

theorem witness_UsbEngineEvents_11 : (fun (s y z : State) (n : Fin 8) (room : Bool) (c : Nat) (d : UsbTd) => s.hubOn =
    true ∧ (s.usbPort n).busy = some c ∧ (y = (s.withUsbPort n fun x => { x with busy := none, room := room }).count
    (usbCounter n 0)) ∧ y.tdHead n c = some d ∧ z = State.sweepBad n 4096 ((y.ctxHalt c).tdEnd n d 2)) ((onBus 1))
    (((onBus 1).withUsbPort 0 fun x => { x with busy := none, room := true }).count (usbCounter 0 0)) (State.sweepBad
    0 4096 (((((onBus 1).withUsbPort 0 fun x => { x with busy := none, room := true }).count (usbCounter 0 0)).ctxHalt
    5).tdEnd 0 ({ aTd 1 with started := true }) 2)) (0) (true) (5) ({ aTd 1 with started := true }) := by
  beta_reduce
  and_intros <;> first | with_reducible rfl | decide +kernel

theorem witness_UsbEngineEvents_12 : (fun (s y z : State) (n : Fin 8) (room : Bool) (c : Nat) (d : UsbTd) => s.hubOn =
    true ∧ (s.usbPort n).busy = some c ∧ (y = (s.withUsbPort n fun x => { x with busy := none, room := room }).count
    (usbCounter n 0)) ∧ y.tdHead n c = some d ∧ (y.usbCtx c).errors < 2 ∧ (z = State.sweepBad n 4096 ((y.withUsbCtx c
    fun x => { x with errors := (y.usbCtx c).errors + 1 }).count (usbCounter n 2)))) ((onBus 1)) (((onBus
    1).withUsbPort 0 fun x => { x with busy := none, room := true }).count (usbCounter 0 0)) (State.sweepBad 0 4096
    (((((onBus 1).withUsbPort 0 fun x => { x with busy := none, room := true }).count (usbCounter 0 0)).withUsbCtx 5
    fun x => { x with errors := 1 }).count (usbCounter 0 2))) (0) (true) (5) ({ aTd 1 with started := true }) := by
  beta_reduce
  and_intros <;> first | with_reducible rfl | decide +kernel

theorem witness_UsbEngineEvents_13 : (fun (s : State) (n : Fin 8) => s.hubOn = true ∧ (s.usbPort n).held ≠ [])
    (usbUp.withUsbPort 0 fun x => { x with held := [(0, [], [], false)] }) (0) := by
  beta_reduce
  and_intros <;> first | with_reducible rfl | decide +kernel

theorem witness_UsbPortEvents_1 : (fun (s : State) (n : Fin 8) => s.hubOn = true ∧ s.flag (Reg.USBH_PORT_STAT_CONNECT
    n) = false) (up) (0) := by
  beta_reduce
  and_intros <;> first | with_reducible rfl | decide +kernel

theorem witness_UsbPortEvents_2 : (fun (s y : State) (n : Fin 8) => s.hubOn = true ∧ s.flag
    (Reg.USBH_PORT_STAT_CONNECT n) = true ∧ s.flag (Reg.USBH_PORT_STAT_RESETTING n) = false ∧ y = s.put
    (Reg.USBH_PORT_STAT_RESUMING n) false ∧ (y.usbPort n).busy = none) (present0) (present0.put
    (Reg.USBH_PORT_STAT_RESUMING 0) false) (0) := by
  beta_reduce
  and_intros <;> first | with_reducible rfl | decide +kernel

theorem witness_UsbPortEvents_3 : (fun (s y : State) (n : Fin 8) (c : Nat) => s.hubOn = true ∧ s.flag
    (Reg.USBH_PORT_STAT_CONNECT n) = true ∧ s.flag (Reg.USBH_PORT_STAT_RESETTING n) = false ∧ y = s.put
    (Reg.USBH_PORT_STAT_RESUMING n) false ∧ (y.usbPort n).busy = some c) (present0.withUsbPort 0 fun x =>
    { x with busy := some 5 }) ((present0.withUsbPort 0 fun x => { x with busy := some 5 }).put
    (Reg.USBH_PORT_STAT_RESUMING 0) false) (0) (5) := by
  beta_reduce
  and_intros <;> first | with_reducible rfl | decide +kernel

theorem witness_UsbPortEvents_4 : (fun (s y : State) (n : Fin 8) => s.hubOn = true ∧ s.flag
    (Reg.USBH_PORT_STAT_RESETTING n) = true ∧ (y = (List.range 256).foldl (fun (s : State) c => if s.ctxOn c n then
    s.withUsbCtx c fun x => { x with halted := false, toggle := false, errors := 0 } else s) s)) (present0.put
    (Reg.USBH_PORT_STAT_RESETTING 0) true) (present0.put (Reg.USBH_PORT_STAT_RESETTING 0) true) (0) := by
  beta_reduce
  and_intros <;> first | with_reducible rfl | decide +kernel

theorem witness_UsbPortEvents_5 : (fun (s : State) (n : Fin 8) => s.hubOn = true ∧ s.usbSof n = true) (present0.put
    (Reg.USBH_PORT_STAT_ENABLED 0) true) (0) := by
  beta_reduce
  and_intros <;> first | with_reducible rfl | decide +kernel

theorem witness_UsbPortEvents_6 : (fun (s : State) (n : Fin 8) => s.hubOn = true ∧ s.flag
    (Reg.USBH_PORT_STAT_SUSPENDED n) = true ∧ s.flag (Reg.USBH_PORT_STAT_RESUMING n) = false) (suspended0) (0) := by
  beta_reduce
  and_intros <;> first | with_reducible rfl | decide +kernel

theorem witness_UsbPortEvents_7 : (fun (s : State) (n : Fin 8) => s.hubOn = true ∧ s.flag (Reg.USBH_PORT_STAT_RESUMING
    n) = true) (suspended0.put (Reg.USBH_PORT_STAT_RESUMING 0) true) (0) := by
  beta_reduce
  and_intros <;> first | with_reducible rfl | decide +kernel

theorem witness_UsbPortEvents_8 : (fun (s : State) (n : Fin 8) => s.hubOn = true ∧ (s.usbPort n).suspendDue = false ∧
    s.flag (Reg.USBH_PORT_STAT_SUSPENDED n) = true ∧ s.flag (Reg.USBH_PORT_STAT_RESUMING n) = false ∧ s.flag
    (Reg.USBH_PORT_CTRL_WAKE_EN n) = true) (suspended0.put (Reg.USBH_PORT_CTRL_WAKE_EN 0) true) (0) := by
  beta_reduce
  and_intros <;> first | with_reducible rfl | decide +kernel

theorem witness_UsbPortEvents_9 : (fun (s : State) (n : Fin 8) => s.hubOn = true ∧ (s.usbPort n).suspendDue = false ∧
    s.flag (Reg.USBH_PORT_STAT_SUSPENDED n) = true ∧ s.flag (Reg.USBH_PORT_STAT_RESUMING n) = false ∧ s.flag
    (Reg.USBH_PORT_CTRL_WAKE_EN n) = false) (suspended0.put (Reg.USBH_PORT_CTRL_WAKE_EN 0) false) (0) := by
  beta_reduce
  and_intros <;> first | with_reducible rfl | decide +kernel

theorem witness_UsbPortEvents_10 : (fun (s : State) => s.hubOn = true) (up) := by
  beta_reduce
  decide +kernel

theorem witness_UsbPortEvents_11 : (fun (s : State) (n : Fin 8) => s.hubOn = true ∧ s.flag (Reg.USBH_PORT_STAT_CONNECT
    n) = false) (up) (0) := by
  beta_reduce
  and_intros <;> first | with_reducible rfl | decide +kernel

theorem witness_UsbPortEvents_12 : (fun (s y : State) (n : Fin 8) => s.hubOn = true ∧ s.flag
    (Reg.USBH_PORT_STAT_CONNECT n) = true ∧ y = (((((s.put (Reg.USBH_PORT_STAT_CONNECT n) false).usbDisable n 6).wr
    (Reg.USBH_PORT_STAT_SPEED n) 3).put (Reg.USBH_PORT_STAT_SUSPENDED n) false).put (Reg.USBH_PORT_STAT_RESUMING n)
    false).put (Reg.USBH_PORT_STAT_RESETTING n) false) (present0) (((((((present0.put (Reg.USBH_PORT_STAT_CONNECT 0)
    false).usbDisable 0 6).wr (Reg.USBH_PORT_STAT_SPEED 0) 3).put (Reg.USBH_PORT_STAT_SUSPENDED 0) false).put
    (Reg.USBH_PORT_STAT_RESUMING 0) false).put (Reg.USBH_PORT_STAT_RESETTING 0) false)) (0) := by
  beta_reduce
  and_intros <;> first | with_reducible rfl | decide +kernel

theorem witness_UsbPortEvents_13 : (fun (s : State) (n : Fin 8) => s.hubOn = true ∧ s.flag
    (Reg.USBH_PORT_STAT_OVERCURRENT n) = false ∧ n.val < 4) (up) (1) := by
  beta_reduce
  and_intros <;> first | with_reducible rfl | decide +kernel

theorem witness_UsbPortEvents_14 : (fun (s : State) (n : Fin 8) => s.hubOn = true ∧ s.flag
    (Reg.USBH_PORT_STAT_OVERCURRENT n) = true) (up.put (Reg.USBH_PORT_STAT_OVERCURRENT 1) true) (1) := by
  beta_reduce
  and_intros <;> first | with_reducible rfl | decide +kernel

theorem witness_UsbServicePortEvents_1 : (fun (s : State) (v : Bool) => s.nib.on = true ∧ s.tcsPresent = v) (up)
    (false) := by
  beta_reduce
  and_intros <;> first | with_reducible rfl | decide +kernel

theorem witness_UsbServicePortEvents_2 : (fun (s y : State) (r : Fin 3) => s.nib.on = true ∧ s.tcsPresent = false ∧
    s.hubOn = false ∧ y = (s.wr Reg.TCPD_TCS_STAT_STATE 1).wr Reg.TCPD_TCS_STAT_RP_SEEN r.val ∧ y.hubOn = false)
    (nibOnly) ((nibOnly.wr Reg.TCPD_TCS_STAT_STATE 1).wr Reg.TCPD_TCS_STAT_RP_SEEN 1) (1) := by
  beta_reduce
  and_intros <;> first | with_reducible rfl | decide +kernel

theorem witness_UsbServicePortEvents_3 : (fun (s : State) => s.hubOn = true ∧ 2 ≤ s.usbsState) (usbsUp) := by
  beta_reduce
  and_intros <;> first | with_reducible rfl | decide +kernel

theorem witness_UsbServicePortEvents_4 : (fun (s y z : State) (b l : Bytes) => s.hubOn = true ∧ 2 ≤ s.usbsState ∧ (y =
    s.withUsbs fun x => { x with ctrl := none }) ∧ y.usbsStandard b = some (l, z)) (usbsUp) (usbsUp.withUsbs fun x =>
    { x with ctrl := none }) (usbsUp.withUsbs fun x => { x with ctrl := none }) ([0x80, 0, 0, 0, 0, 0, 2, 0]) ([1, 0])
    := by
  beta_reduce
  and_intros <;> first | with_reducible rfl | decide +kernel

theorem witness_UsbServicePortEvents_5 : (fun (s y : State) (b : Bytes) => s.hubOn = true ∧ 2 ≤ s.usbsState ∧ (y =
    s.withUsbs fun x => { x with ctrl := none }) ∧ y.usbsStandard b = none) (usbsUp) (usbsUp.withUsbs fun x =>
    { x with ctrl := none }) ([0x40, 0, 0, 0, 0, 0, 2, 0]) := by
  beta_reduce
  and_intros <;> first | with_reducible rfl | decide +kernel

theorem witness_UsbServicePortEvents_6 : (fun (s w x y : State) (hs : Bool) => s.hubOn = true ∧ s.usbsState ≠ 0 ∧
    s.usb.dev.ctrl = none ∧ (w = s.withUsbs fun d =>
    { d with ctrl := none, ep3 := none, slices := none, halted := [] }) ∧ x = ((((w.wr Reg.USBS_STAT_STATE 2).wr
    Reg.USBS_STAT_ADDRESS 0).put Reg.USBS_STAT_HS (hs && s.usb.dev.hsAllowed)).put Reg.USBS_STAT_RWAKE_EN false).put
    Reg.USBS_STAT_SUSPENDED false ∧ y = { x with cmd := { x.cmd with usbsReply := none } }.usbsRelease) (usbsUp)
    (usbsUp.withUsbs fun d => { d with ctrl := none, ep3 := none, slices := none, halted := [] })
    ((((((usbsUp.withUsbs fun d => { d with ctrl := none, ep3 := none, slices := none, halted := [] }).wr
    Reg.USBS_STAT_STATE 2).wr Reg.USBS_STAT_ADDRESS 0).put Reg.USBS_STAT_HS false).put Reg.USBS_STAT_RWAKE_EN
    false).put Reg.USBS_STAT_SUSPENDED false) (((((((usbsUp.withUsbs fun d =>
    { d with ctrl := none, ep3 := none, slices := none, halted := [] }).wr Reg.USBS_STAT_STATE 2).wr
    Reg.USBS_STAT_ADDRESS 0).put Reg.USBS_STAT_HS false).put Reg.USBS_STAT_RWAKE_EN false).put Reg.USBS_STAT_SUSPENDED
    false).usbsRelease) (false) := by
  beta_reduce
  and_intros <;> first | with_reducible rfl | decide +kernel

theorem witness_UsbServicePortEvents_7 : (fun (s : State) => s.hubOn = true ∧ s.usbsState ≠ 0 ∧ s.flag
    Reg.USBS_STAT_SUSPENDED = false) (usbsUp) := by
  beta_reduce
  and_intros <;> first | with_reducible rfl | decide +kernel

theorem witness_UsbServicePortEvents_8 : (fun (s y : State) (b : Bytes) => s.hubOn = true ∧ y = s.usbsSync ∧ y.flag
    Reg.USBS_STAT_RWAKE_EN = true ∧ y.flag Reg.USBS_CTRL_WAKE_ALLOW = true ∧ y.flag Reg.USBS_STAT_SUSPENDED = true ∧
    y.usb.dev.ep3 = some b ∧ y.usb.dev.slices = none) (usbsWake) (usbsWake) ((zeros 16)) := by
  beta_reduce
  and_intros <;> first | with_reducible rfl | decide +kernel

theorem witness_UsbServicePortEvents_9 : (fun (s : State) (k : Nat) => s.hubOn = true ∧ s.usb.dev.slices = some k ∧ k
    < 7) (usbsUp.withUsbs fun d => { d with slices := some 0 }) (0) := by
  beta_reduce
  and_intros <;> first | with_reducible rfl | decide +kernel

theorem witness_UsbServicePortEvents_10 : (fun (s : State) => s.hubOn = true ∧ s.usb.dev.slices = some 7)
    (usbsUp.withUsbs fun d => { d with slices := some 7 }) := by
  beta_reduce
  and_intros <;> first | with_reducible rfl | decide +kernel

theorem witness_UsbServicePortEvents_11 : (fun (s : State) (k : Nat) => s.hubOn = true ∧ s.usb.dev.slices = some k)
    (usbsUp.withUsbs fun d => { d with slices := some 0 }) (0) := by
  beta_reduce
  and_intros <;> first | with_reducible rfl | decide +kernel

theorem witness_UsbServicePortEvents_12 : (fun (s : State) => s.hubOn = true ∧ s.flag Reg.USBS_STAT_SUSPENDED = true ∧
    s.usb.dev.slices = none) (usbsUp.put Reg.USBS_STAT_SUSPENDED true) := by
  beta_reduce
  and_intros <;> first | with_reducible rfl | decide +kernel

theorem witness_UsbServicePortEvents_13 : (fun (s y : State) (b : Bytes) => s.hubOn = true ∧ y = s.usbsSync ∧
    y.usbsServes 0x83 = true ∧ y.usb.dev.ep3 = some b) (usbsWake.wr Reg.USBS_STAT_STATE 4) (usbsWake.wr
    Reg.USBS_STAT_STATE 4) ((zeros 16)) := by
  beta_reduce
  and_intros <;> first | with_reducible rfl | decide +kernel

theorem witness_UsbServicePortEvents_14 : (fun (s y : State) => s.hubOn = true ∧ y = s.usbsSync ∧ y.usbsServes 0x83 =
    true ∧ y.usb.dev.ep3 = none) (usbsQuiet.wr Reg.USBS_STAT_STATE 4) (usbsQuiet.wr Reg.USBS_STAT_STATE 4) := by
  beta_reduce
  and_intros <;> first | with_reducible rfl | decide +kernel

theorem witness_UsbServicePortEvents_15 : (fun (s y : State) => s.hubOn = true ∧ y = s.usbsSync ∧ y.usbsServes 0x83 =
    false) (usbsQuiet) (usbsQuiet) := by
  beta_reduce
  and_intros <;> first | with_reducible rfl | decide +kernel

theorem witness_EthernetEvents_1 : (fun (s : State) (n : Fin 8) => s.hubOn = true ∧ s.macOn n = false) (up) (5) := by
  beta_reduce
  and_intros <;> first | with_reducible rfl | decide +kernel

theorem witness_EthernetEvents_2 : (fun (s : State) (n : Fin 8) (f : Bytes) => s.hubOn = true ∧ s.macOn n = true ∧
    (decide (n.val < 4) && s.flag (Reg.ETH_CTRL_FEC n) && s.rd (Reg.ETH_CTRL_MODE n) != 1) = false ∧ f.length < 64)
    (mac5) (5) ([]) := by
  beta_reduce
  and_intros <;> first | with_reducible rfl | decide +kernel

theorem witness_EthernetEvents_3 : (fun (s : State) (n : Fin 8) (f : Bytes) => s.hubOn = true ∧ s.macOn n = true ∧
    (decide (n.val < 4) && s.flag (Reg.ETH_CTRL_FEC n) && s.rd (Reg.ETH_CTRL_MODE n) != 1) = false ∧ 9720 < f.length)
    (mac5) (5) (zeros 9721) := by
  beta_reduce
  and_intros <;> first | with_reducible rfl | decide +kernel

theorem witness_EthernetEvents_4 : (fun (s : State) (n : Fin 8) (f : Bytes) => s.hubOn = true ∧ s.macOn n = true ∧
    (decide (n.val < 4) && s.flag (Reg.ETH_CTRL_FEC n) && s.rd (Reg.ETH_CTRL_MODE n) != 1) = false ∧ 64 ≤ f.length ∧
    f.length ≤ 9720 ∧ fcsGood f = false) (mac5) (5) (List.replicate 64 (1 : Byte)) := by
  beta_reduce
  and_intros <;> first | with_reducible rfl | decide +kernel

theorem witness_EthernetEvents_5 : (fun (s : State) (n : Fin 8) (f : Bytes) => s.hubOn = true ∧ s.macOn n = true ∧
    (decide (n.val < 4) && s.flag (Reg.ETH_CTRL_FEC n) && s.rd (Reg.ETH_CTRL_MODE n) != 1) = false ∧ 64 ≤ f.length ∧
    f.length ≤ 9720 ∧ fcsGood f = true) (mac5) (5) (withFcs (zeros 60)) := by
  beta_reduce
  and_intros <;> first | with_reducible rfl | decide +kernel

theorem witness_EthernetEvents_6 : (fun (s : State) (n : Fin 8) (f : Bytes) => s.hubOn = true ∧ s.macOn n = true ∧
    n.val < 4 ∧ s.flag (Reg.ETH_CTRL_FEC n) = true ∧ s.rd (Reg.ETH_CTRL_MODE n) ≠ 1 ∧ f.length < 64) (((up.put
    (Reg.ETH_CTRL_EN 1) true).put (Reg.ETH_CTRL_FEC 1) true)) (1) ([]) := by
  beta_reduce
  and_intros <;> first | with_reducible rfl | decide +kernel

theorem witness_EthernetEvents_7 : (fun (s : State) => s.hubOn = true) (up) := by
  beta_reduce
  decide +kernel

theorem witness_EthernetEvents_8 : (fun (s : State) (n : Fin 8) (k : Nat) => s.hubOn = true ∧ (s.ethPort n).paused =
    some k) (mac5.setEthPort 5 { paused := some 3 }) (5) (3) := by
  beta_reduce
  and_intros <;> first | with_reducible rfl | decide +kernel

theorem witness_EthernetEvents_9 : (fun (s y : State) (n : Fin 8) (q : Nat) (f g : Bytes) (l : List Bytes) => s.hubOn
    = true ∧ s.macOn n = true ∧ (s.ethPort n).paused = none ∧ s.flag (Reg.ETH_STAT_LINK n) = true ∧ s.gated n = false
    ∧ ([7, 6, 5, 4, 3, 2, 1, 0].find? (fun q => match s.ethQueue n q with | [] => false | f :: _ => (s.frameMayStart n
    q f.length)) = some q) ∧ s.ethQueue n q = f :: l ∧ (s.setEthQueue n q l).stampSent n f = (g, y)) (linked5)
    (((linked5.setEthQueue 5 3 []).stampSent 5 (zeros 64)).2) (5) (3) ((zeros 64)) (((linked5.setEthQueue 5 3
    []).stampSent 5 (zeros 64)).1) ([]) := by
  beta_reduce
  and_intros <;> first | with_reducible rfl | decide +kernel

theorem witness_EthernetEvents_10 : (fun (s : State) => s.hubOn = true) (up) := by
  beta_reduce
  decide +kernel

theorem witness_EthernetEvents_11 : (fun (s : State) => s.hubOn = true) (up) := by
  beta_reduce
  decide +kernel

theorem witness_EthernetEvents_12 : (fun (s y : State) (v : Word) => s.hubOn = true ∧ (y = [Reg.ETH_MDIO_OP,
    Reg.ETH_MDIO_PHYAD, Reg.ETH_MDIO_REG, Reg.ETH_MDIO_DATA].foldl (fun (s : State) f => s.wr f (f.get v)) s) ∧ y.flag
    Reg.ETH_MDIO_BUSY = true) (up.put Reg.ETH_MDIO_BUSY true) ([Reg.ETH_MDIO_OP, Reg.ETH_MDIO_PHYAD, Reg.ETH_MDIO_REG,
    Reg.ETH_MDIO_DATA].foldl (fun (s : State) f => s.wr f (f.get 0)) (up.put Reg.ETH_MDIO_BUSY true)) (0) := by
  beta_reduce
  and_intros <;> first | with_reducible rfl | decide +kernel

theorem witness_EthernetEvents_13 : (fun (s y z : State) (v : Word) => s.hubOn = true ∧ (y = [Reg.ETH_MDIO_OP,
    Reg.ETH_MDIO_PHYAD, Reg.ETH_MDIO_REG, Reg.ETH_MDIO_DATA].foldl (fun (s : State) f => s.wr f (f.get v)) s) ∧ y.flag
    Reg.ETH_MDIO_BUSY = false ∧ z =
    { y.put Reg.ETH_MDIO_BUSY true with eth := { y.eth with mdioRead := y.rd Reg.ETH_MDIO_OP == 1 || 4 ≤ y.rd Reg.ETH_MDIO_OP } })
    (up) ([Reg.ETH_MDIO_OP, Reg.ETH_MDIO_PHYAD, Reg.ETH_MDIO_REG, Reg.ETH_MDIO_DATA].foldl (fun (s : State) f => s.wr
    f (f.get 0)) up) (([Reg.ETH_MDIO_OP, Reg.ETH_MDIO_PHYAD, Reg.ETH_MDIO_REG, Reg.ETH_MDIO_DATA].foldl (fun (s :
    State) f => s.wr f (f.get 0)) up).put Reg.ETH_MDIO_BUSY true) (0) := by
  beta_reduce
  and_intros <;> first | with_reducible rfl | decide +kernel

theorem witness_EthernetEvents_14 : (fun (s : State) => s.hubOn = true ∧ s.flag Reg.ETH_MDIO_BUSY = true) (up.put
    Reg.ETH_MDIO_BUSY true) := by
  beta_reduce
  and_intros <;> first | with_reducible rfl | decide +kernel

theorem witness_EthernetEvents_15 : (fun (s : State) => s.hubOn = true ∧ s.flag Reg.ETH_MDIO_BUSY = false) (up) := by
  beta_reduce
  and_intros <;> first | with_reducible rfl | decide +kernel

theorem witness_EthernetEvents_16 : (fun (s y z : State) (n : Fin 8) (v : BitVec 2) (l k a b : Bool) => s.hubOn = true
    ∧ y = ((((s.put (Reg.ETH_STAT_LINK n) l).wr (Reg.ETH_STAT_SPEED n) v.toNat).put (Reg.ETH_STAT_FEC_LOCK n) k).put
    (Reg.ETH_STAT_LOCAL_FAULT n) a).put (Reg.ETH_STAT_REMOTE_FAULT n) b ∧ z = (if y.reg (Reg.ETH_STAT_A n) = s.reg
    (Reg.ETH_STAT_A n) then y else y.notice 0x0E01 [byte n, byte (b2n l), byte v.toNat, byte (b2n k + 2 * b2n a + 4 *
    b2n b)])) (up) (((((up.put (Reg.ETH_STAT_LINK 5) true).wr (Reg.ETH_STAT_SPEED 5) 2).put (Reg.ETH_STAT_FEC_LOCK 5)
    false).put (Reg.ETH_STAT_LOCAL_FAULT 5) false).put (Reg.ETH_STAT_REMOTE_FAULT 5) false) ((((((up.put
    (Reg.ETH_STAT_LINK 5) true).wr (Reg.ETH_STAT_SPEED 5) 2).put (Reg.ETH_STAT_FEC_LOCK 5) false).put
    (Reg.ETH_STAT_LOCAL_FAULT 5) false).put (Reg.ETH_STAT_REMOTE_FAULT 5) false).notice 0x0E01 [5, 1, 2, 0]) (5) (2)
    (true) (false) (false) (false) := by
  beta_reduce
  and_intros <;> first | with_reducible rfl | decide +kernel

theorem witness_GateAndVnicEvents_1 : (fun (s : State) => s.hubOn = true) (up) := by
  beta_reduce
  decide +kernel

theorem witness_GateAndVnicEvents_2 : (fun (s y : State) (n : Fin 4) => s.hubOn = true ∧ y = s.gateChange (4 + n) ∧
    y.rd (Reg.ETH_GCTL_LEN (4 + n)) = 0) (up.wr (Reg.ETH_GCTL_LEN 4) 0) (up.wr (Reg.ETH_GCTL_LEN 4) 0) (0) := by
  beta_reduce
  and_intros <;> first | with_reducible rfl | decide +kernel

theorem witness_GateAndVnicEvents_3 : (fun (s y : State) (n : Fin 4) => s.hubOn = true ∧ y = s.gateChange (4 + n) ∧
    y.rd (Reg.ETH_GCTL_LEN (4 + n)) ≠ 0 ∧ y.rd (Reg.ETH_GCYCLE_CYCLE_NS (4 + n)) < 1000) ((up.wr (Reg.ETH_GCTL_LEN 4)
    1).wr (Reg.ETH_GCYCLE_CYCLE_NS 4) 999) ((up.wr (Reg.ETH_GCTL_LEN 4) 1).wr (Reg.ETH_GCYCLE_CYCLE_NS 4) 999) (0) :=
    by
  beta_reduce
  and_intros <;> first | with_reducible rfl | decide +kernel

theorem witness_GateAndVnicEvents_4 : (fun (s y : State) (n : Fin 4) (base : Nat) (g : GateList) => s.hubOn = true ∧ y
    = s.gateChange (4 + n) ∧ y.rd (Reg.ETH_GCTL_LEN (4 + n)) ≠ 0 ∧ 1000 ≤ y.rd (Reg.ETH_GCYCLE_CYCLE_NS (4 + n)) ∧
    base = (y.rd (Reg.ETH_GBASE_SL_SEC_LO (4 + n)) + y.rd (Reg.ETH_GBASE_SH_SEC_HI (4 + n)) * 2 ^ 32) * 1000000000 +
    y.rd (Reg.ETH_GBASE_NS_NSEC (4 + n)) ∧ -((-(y.reading + 10000 * 65536)) / 65536) ≤ (base : Int) ∧ (g =
    { len := y.rd (Reg.ETH_GCTL_LEN (4 + n)), cycle := y.rd (Reg.ETH_GCYCLE_CYCLE_NS (4 + n)), base := base,
      words := (List.range 64).map fun i => y.reg (Reg.ETH_GADM_A (4 + n) i) })) (gateAhead) (gateAhead) (0)
    (1000000000)
    ({ len := 1, cycle := 1000000, base := 1000000000,
       words := (List.range 64).map fun i => gateAhead.reg (Reg.ETH_GADM_A 4 i) }) := by
  beta_reduce
  and_intros <;> first | with_reducible rfl | decide +kernel

theorem witness_GateAndVnicEvents_5 : (fun (s : State) (n : Fin 4) => s.hubOn = true ∧ (s.ethPort (4 + n)).next =
    none) (up) (0) := by
  beta_reduce
  and_intros <;> first | with_reducible rfl | decide +kernel

theorem witness_GateAndVnicEvents_6 : (fun (s : State) (n : Fin 4) (g : GateList) (c : Nat) => s.hubOn = true ∧
    (s.ethPort (4 + n)).next = some (g, c) ∧ s.reached c = false) (up.setEthPort 4 { next := some ({}, 5) }) (0) ({})
    (5) := by
  beta_reduce
  and_intros <;> first | with_reducible rfl | decide +kernel

theorem witness_GateAndVnicEvents_7 : (fun (s y z : State) (n : Fin 4) (g : GateList) (c : Nat) => s.hubOn = true ∧
    (s.ethPort (4 + n)).next = some (g, c) ∧ s.reached c = true ∧ y = s.setEthPort (4 + n)
    { s.ethPort (4 + n) with oper := { g with words := [] }, next := none } ∧ (z = g.words.zipIdx.foldl (fun (s :
    State) w => s.setReg (Reg.ETH_GOPR_A (4 + n) w.2) w.1) y)) ((running5.setEthPort 4 { next := some ({}, 0) }))
    (running5.setEthPort 4 { next := none }) (running5.setEthPort 4 { next := none }) (0) ({}) (0) := by
  beta_reduce
  and_intros <;> first | with_reducible rfl | decide +kernel

theorem witness_GateAndVnicEvents_8 : (fun (s : State) => s.hubOn = true ∧ s.isRoot = true) (atRoot) := by
  beta_reduce
  and_intros <;> first | with_reducible rfl | decide +kernel

theorem witness_GateAndVnicEvents_9 : (fun (s y : State) (q : Fin 8) (mem : HostMem) => s.hubOn = true ∧ s.isRoot =
    false ∧ bit (s.rd Reg.ETH_VNIC_CTRL_EN) q = false ∧ y = s.hostRead 3 (s.vnicCb q) 32 ∧ mem.read (y.vnicCb q) 32 =
    none) (up) (up.hostRead 3 (up.vnicCb 1) 32) (1) ([]) := by
  beta_reduce
  and_intros <;> first | with_reducible rfl | decide +kernel

theorem witness_GateAndVnicEvents_10 : (fun (s y : State) (q : Fin 8) (mem : HostMem) (b : Bytes) => s.hubOn = true ∧
    s.isRoot = false ∧ bit (s.rd Reg.ETH_VNIC_CTRL_EN) q = false ∧ y = s.hostRead 3 (s.vnicCb q) 32 ∧ mem.read
    (y.vnicCb q) 32 = some b ∧ 4 ≤ leAt b 24 1 ∧ leAt b 24 1 ≤ 12) (up) (up.hostRead 3 (up.vnicCb 1) 32) (1) ([(0,
    zeros 88 ++ [4] ++ zeros 39)]) ((zeros 24 ++ [4] ++ zeros 7)) := by
  beta_reduce
  and_intros <;> first | with_reducible rfl | decide +kernel

theorem witness_GateAndVnicEvents_11 : (fun (s : State) (q : Fin 8) => s.hubOn = true ∧ (s.vnic q).on = false) (up)
    (1) := by
  beta_reduce
  and_intros <;> first | with_reducible rfl | decide +kernel

theorem witness_GateAndVnicEvents_12 : (fun (s y : State) (q : Fin 8) (mem : HostMem) => s.hubOn = true ∧ s.isRoot =
    false ∧ (s.vnic q).on = true ∧ y = s.hostRead 3 (s.vnicCb q + 26) 6 ∧ mem.read (y.vnicCb q + 26) 6 = none)
    (up.setVnic 1 { on := true }) ((up.setVnic 1 { on := true }).hostRead 3 (up.vnicCb 1 + 26) 6) (1) ([]) := by
  beta_reduce
  and_intros <;> first | with_reducible rfl | decide +kernel

theorem witness_GateAndVnicEvents_13 : (fun (s y z : State) (q : Fin 8) (mem : HostMem) (b : Bytes) => s.hubOn = true
    ∧ s.isRoot = false ∧ (s.vnic q).on = true ∧ y = s.hostRead 3 (s.vnicCb q + 26) 6 ∧ mem.read (y.vnicCb q + 26) 6 =
    some b ∧ z = State.vnicFlush q 4096 (y.wr (Reg.ETH_VNIC_SEQ_REL q) (leAt b 4 2)) ∧ ringFetch mem 16 (z.vnic
    q).txBase (z.vnic q).log2 (z.vnic q).txCons (leAt b 0 2) = [] ∧ ringFetch mem 16 (z.vnic q).rxBase (z.vnic q).log2
    (z.vnic q).rxCons (leAt b 2 2) = []) (up.setVnic 1 { on := true }) ((up.setVnic 1 { on := true }).hostRead 3
    (up.vnicCb 1 + 26) 6) (State.vnicFlush 1 4096 (((up.setVnic 1 { on := true }).hostRead 3 (up.vnicCb 1 + 26) 6).wr
    (Reg.ETH_VNIC_SEQ_REL 1) 0)) (1) ([(0, zeros 256)]) ((zeros 6)) := by
  beta_reduce
  and_intros <;> first | with_reducible rfl | decide +kernel

theorem witness_PointEngineEvents_1 : (fun (s : State) => s.hubOn = true ∧ s.flag Reg.PNT_CTRL_EN = true ∧ s.point.due
    = false) (up.put Reg.PNT_CTRL_EN true) := by
  beta_reduce
  and_intros <;> first | with_reducible rfl | decide +kernel

theorem witness_PointEngineEvents_2 : (fun (s y : State) => s.hubOn = true ∧ s.flag Reg.PNT_CTRL_EN = false ∧ (y =
    (s.put Reg.PNT_CTRL_EN true).withPoint fun p => { p with due := false, on := false }) ∧ y.pointCheck State.rdAct
    true ≠ 0) ((up.wr Reg.PNT_PERIOD_PERIOD_N 0)) (((up.wr Reg.PNT_PERIOD_PERIOD_N 0).put Reg.PNT_CTRL_EN
    true).withPoint fun p => { p with due := false, on := false }) := by
  beta_reduce
  and_intros <;> first | with_reducible rfl | decide +kernel

theorem witness_PointEngineEvents_3 : (fun (s y z : State) (mem : HostMem) => s.hubOn = true ∧ s.flag Reg.PNT_CTRL_EN
    = false ∧ (y = (s.put Reg.PNT_CTRL_EN true).withPoint fun p => { p with due := false, on := false }) ∧
    y.pointCheck State.rdAct true = 0 ∧ z = y.hostRead 2 y.pointCb 32 ∧ mem.read z.pointCb 32 = none) (pointSet)
    ((pointSet.put Reg.PNT_CTRL_EN true).withPoint fun p => { p with due := false, on := false }) (((pointSet.put
    Reg.PNT_CTRL_EN true).withPoint fun p => { p with due := false, on := false }).hostRead 2 pointSet.pointCb 32)
    ([]) := by
  beta_reduce
  and_intros <;> first | with_reducible rfl | decide +kernel

theorem witness_PointEngineEvents_4 : (fun (s : State) => s.hubOn = true ∧ s.flag Reg.PNT_LD_CTRL_BUSY = true) (up.put
    Reg.PNT_LD_CTRL_BUSY true) := by
  beta_reduce
  and_intros <;> first | with_reducible rfl | decide +kernel

theorem witness_PointEngineEvents_5 : (fun (s y : State) => s.hubOn = true ∧ s.flag Reg.PNT_LD_CTRL_BUSY = false ∧
    s.rd Reg.PNT_LD_FIRST_FIRST + s.rd Reg.PNT_LD_COUNT_COUNT ≤ 262144 ∧ (y = (((s.put Reg.PNT_LD_CTRL_BUSY true).wr
    Reg.PNT_LD_CTRL_BAD 0).setReg Reg.PNT_LD_FIRSTBAD_A 0).withPoint fun p =>
    { p with load := some { next := s.rd Reg.PNT_LD_FIRST_FIRST, stop := s.rd Reg.PNT_LD_FIRST_FIRST + s.rd Reg.PNT_LD_COUNT_COUNT, first := s.rd Reg.PNT_LD_FIRST_FIRST, addr := s.rd Reg.PNT_LD_ADDR_LO_ADDR_LO * 8 + s.rd Reg.PNT_LD_ADDR_HI_ADDR_HI * 2 ^ 32 } }))
    (up.wr Reg.PNT_LD_COUNT_COUNT 4) (((((up.wr Reg.PNT_LD_COUNT_COUNT 4).put Reg.PNT_LD_CTRL_BUSY true).wr
    Reg.PNT_LD_CTRL_BAD 0).setReg Reg.PNT_LD_FIRSTBAD_A 0).withPoint fun p =>
    { p with load := some { next := 0, stop := 4, first := 0, addr := 0 } }) := by
  beta_reduce
  and_intros <;> first | with_reducible rfl | decide +kernel

theorem witness_PointEngineEvents_6 : (fun (s : State) (l : PointLoad) => s.hubOn = true ∧ s.point.load = some l)
    (loading) ({ next := 0, stop := 4, first := 0, addr := 0 }) := by
  beta_reduce
  and_intros <;> first | with_reducible rfl | decide +kernel

theorem witness_PointEngineEvents_7 : (fun (s : State) (l : PointLoad) => s.hubOn = true ∧ s.point.load = some l)
    (loading) ({ next := 0, stop := 4, first := 0, addr := 0 }) := by
  beta_reduce
  and_intros <;> first | with_reducible rfl | decide +kernel

theorem witness_PointEngineEvents_8 : (fun (s : State) => s.hubOn = true ∧ s.point.on = true ∧ s.pointHalted = false ∧
    s.point.fetch = none ∧ s.reached (s.pointT s.point.next - s.rdAct Reg.PNT_FETCH_LEAD_NS) = true) (cycling) := by
  beta_reduce
  and_intros <;> first | with_reducible rfl | decide +kernel

theorem witness_PointEngineEvents_9 : (fun (s : State) (f : PointFetch) => s.hubOn = true ∧ s.point.fetch = some f)
    ({ up with point := { fetch := some { k := 0 } } }) ({ k := 0 }) := by
  beta_reduce
  and_intros <;> first | with_reducible rfl | decide +kernel

theorem witness_PointEngineEvents_10 : (fun (s : State) => s.hubOn = true) (up) := by
  beta_reduce
  decide +kernel

theorem witness_PointEngineEvents_11 : (fun (s : State) => s.hubOn = true ∧ s.point.on = true ∧ s.reached (s.pointT
    s.point.next) = false) ({ up with point := { on := true } }) := by
  beta_reduce
  and_intros <;> first | with_reducible rfl | decide +kernel

theorem witness_PointEngineEvents_12 : (fun (s y : State) => s.hubOn = true ∧ s.point.on = true ∧ s.point.phase =
    .idle ∧ s.reached (s.pointT s.point.next) = true ∧ (y = s.withPoint fun p =>
    { p with phase := .idle, next := s.point.next + 1 }) ∧ y.pointHalted = true)
    ({ cycling with nib := { stage := .up, mappedOut := [0x50] } })
    (({ cycling with nib := { stage := .up, mappedOut := [0x50] } } : State).withPoint fun p => { p with next := 1 })
    := by
  beta_reduce
  and_intros <;> first | with_reducible rfl | decide +kernel

theorem witness_PointEngineEvents_13 : (fun (s w x y z : State) => s.hubOn = true ∧ s.point.on = true ∧ s.point.phase
    = .idle ∧ s.reached (s.pointT s.point.next) = true ∧ (w = s.withPoint fun p =>
    { p with phase := .idle, next := s.point.next + 1 }) ∧ w.pointHalted = false ∧ x = (w.pointState.pointLatch
    s.point.next).pointOutputs s.point.next ∧ (y = x.withPoint fun p =>
    { p with k := s.point.next, phase := .open_, islands := [], flagLate := p.lateNext, lateNext := false,
             flagInSubst := false, unreached := x.walkReach.2, backlog := [] }) ∧ z = (y.wr Reg.PNT_CYCLE_LO_K_LO
    s.point.next).wr Reg.PNT_CYCLE_HI_K_HI (s.point.next / 2 ^ 32)) (cycling) (cycling.withPoint fun p =>
    { p with next := 1 }) (((cycling.withPoint fun p => { p with next := 1 }).pointState.pointLatch 0).pointOutputs 0)
    ((((cycling.withPoint fun p => { p with next := 1 }).pointState.pointLatch 0).pointOutputs 0).withPoint fun p =>
    { p with k := 0, phase := .open_, islands := [], flagLate := p.lateNext, lateNext := false, flagInSubst := false,
             unreached := [], backlog := [] }) ((((((cycling.withPoint fun p =>
    { p with next := 1 }).pointState.pointLatch 0).pointOutputs 0).withPoint fun p =>
    { p with k := 0, phase := .open_, islands := [], flagLate := p.lateNext, lateNext := false, flagInSubst := false,
             unreached := [], backlog := [] }).wr Reg.PNT_CYCLE_LO_K_LO 0).wr Reg.PNT_CYCLE_HI_K_HI 0) := by
  beta_reduce
  and_intros <;> first | with_reducible rfl | decide +kernel

theorem witness_PointEngineEvents_14 : (fun (s y : State) (n : Fin 8) (t : Nat) => s.hubOn = true ∧ s.ethStamp n false
    = (t, y)) (up) ((up.ethStamp (5 : Fin 8) false).2) (5) ((up.ethStamp (5 : Fin 8) false).1) := by
  beta_reduce
  and_intros <;> first | with_reducible rfl | decide +kernel

theorem witness_PointEngineEvents_15 : (fun (s y z : State) => s.hubOn = true ∧ s.point.on = true ∧ s.point.phase =
    .open_ ∧ s.reached (s.pointT s.point.k + s.rdAct Reg.PNT_CLOSE_OFF_NS) = true ∧ s.point.unreached = [] ∧
    s.point.backlog = [] ∧ (y = s.withPoint fun p =>
    { p with phase := .loss, lost := 0, unreached := [], backlog := [] }) ∧ (z = y.islands.foldl (fun (a : State) i =>
    if a.rdAct (Reg.PNT_ISL_ICNT_BYTES i) = 0 then a else a.lossPass ((s.pointT s.point.k + s.rdAct
    Reg.PNT_CLOSE_OFF_NS) % 2 ^ 32) i) y)) (late5) ((late5).withPoint fun p =>
    { p with phase := .loss, lost := 0, unreached := [], backlog := [] }) (((late5).withPoint fun p =>
    { p with phase := .loss, lost := 0, unreached := [], backlog := [] }).islands.foldl (fun (a : State) i => if
    a.rdAct (Reg.PNT_ISL_ICNT_BYTES i) = 0 then a else a.lossPass (((late5).pointT (late5).point.k + (late5).rdAct
    Reg.PNT_CLOSE_OFF_NS) % 2 ^ 32) i) ((late5).withPoint fun p =>
    { p with phase := .loss, lost := 0, unreached := [], backlog := [] })) := by
  beta_reduce
  and_intros <;> first | with_reducible rfl | decide +kernel

theorem witness_PointEngineEvents_16 : (fun (s y : State) => s.hubOn = true ∧ s.point.on = true ∧ s.point.phase =
    .loss ∧ (y = s.withPoint fun p => { p with phase := .idle }) ∧ y.pointWriting = true)
    ({ (cycling.withPoint fun p => { p with phase := .loss }) with pcie := { want := [{ sub := 2, kind := .write 0 [] }] } })
    ({ cycling with pcie := { want := [{ sub := 2, kind := .write 0 [] }] } }) := by
  beta_reduce
  and_intros <;> first | with_reducible rfl | decide +kernel

theorem witness_PointEngineEvents_17 : (fun (s y : State) => s.hubOn = true ∧ s.point.on = true ∧ s.point.phase =
    .loss ∧ (y = s.withPoint fun p => { p with phase := .idle }) ∧ y.pointWriting = false) (cycling.withPoint fun p =>
    { p with phase := .loss }) (cycling) := by
  beta_reduce
  and_intros <;> first | with_reducible rfl | decide +kernel

theorem witness_PointEngineEvents_18 : (fun (s y : State) => s.hubOn = true ∧ s.flag Reg.PNT_COMMIT_STAT_PENDING =
    false ∧ y = s.put Reg.PNT_COMMIT_STAT_PENDING true ∧ y.flag Reg.PNT_CTRL_EN = true) (up.put Reg.PNT_CTRL_EN true)
    ((up.put Reg.PNT_CTRL_EN true).put Reg.PNT_COMMIT_STAT_PENDING true) := by
  beta_reduce
  and_intros <;> first | with_reducible rfl | decide +kernel

theorem witness_PointEngineEvents_19 : (fun (s : State) => s.hubOn = true ∧ s.flag Reg.PNT_COMMIT_STAT_PENDING = true)
    (up.put Reg.PNT_COMMIT_STAT_PENDING true) := by
  beta_reduce
  and_intros <;> first | with_reducible rfl | decide +kernel

theorem witness_PointEngineEvents_20 : (fun (s y z : State) => s.hubOn = true ∧ s.flag Reg.PNT_COMMIT_STAT_PENDING =
    false ∧ y = s.put Reg.PNT_COMMIT_STAT_PENDING true ∧ y.flag Reg.PNT_CTRL_EN = false ∧ (z = y.withPoint fun p =>
    { p with commitFrom := 0 })) (up) (up.put Reg.PNT_COMMIT_STAT_PENDING true) (up.put Reg.PNT_COMMIT_STAT_PENDING
    true) := by
  beta_reduce
  and_intros <;> first | with_reducible rfl | decide +kernel

theorem witness_StepRunsTheFront : (fun (s : State) (c : Instr) (rest : List Instr) => s.pending = c :: rest)
    ({ up with pending := [.tcsVbusLoss, .nop (ask [])] }) (.tcsVbusLoss) ([.nop (ask [])]) := by
  beta_reduce
  decide +kernel

theorem witness_EmptyQueueStep_1 : (fun (s : State) => s.pending = [] ∧ s.tick.nextRequest = none) (up) := by
  beta_reduce
  and_intros <;> first | with_reducible rfl | decide +kernel

theorem witness_EmptyQueueStep_2 : (fun (s t : State) (r : Request) (i : Instr) => s.pending = [] ∧ s.tick.nextRequest
    = some (r, t) ∧ instrOfRequest r = some i) ({ up with cmd := { input := [nopAsk] } })
    ((({ up with cmd := { input := [nopAsk] } } : State).tick.withCmd fun c => { c with turn := 0, input := [] }))
    (nopAsk) (.nop nopAsk) := by
  beta_reduce
  and_intros <;> first | with_reducible rfl | decide +kernel

theorem witness_EmptyQueueStep_3 : (fun (s t : State) (r : Request) => s.pending = [] ∧ s.tick.nextRequest = some (r,
    t) ∧ instrOfRequest r = none) ({ up with cmd := { input := [asking9] } })
    ((({ up with cmd := { input := [asking9] } } : State).tick.withCmd fun c => { c with turn := 2, input := [] }))
    (asking9) := by
  beta_reduce
  and_intros <;> first | with_reducible rfl | decide +kernel

theorem witness_PowerDieStopIsDead : (fun (s : State) => s.nib.on = true ∧ (∀ tcs, Instr.powerOn tcs ∉ s.pending))
    (up) := by
  beta_reduce
  and_intros <;> first | with_reducible rfl | decide +kernel

theorem witness_DeadIsKept : (fun (s t : State) => s.dead ∧ step s = .next t) (unplugged)
    ({ unplugged with pending := [] }) := by
  beta_reduce
  refine ⟨⟨by decide +kernel, by decide +kernel⟩, rfl⟩

theorem witness_NoPowerNoEffect_1 : (fun (i : Instr) (s : State) => actsOnPowerDie i = false ∧ s.hubOn = false)
    (.schedulerEpoch) ({}) := by
  beta_reduce
  and_intros <;> first | with_reducible rfl | decide +kernel

theorem witness_NoPowerNoEffect_2 : (fun (i : Instr) (s : State) => s.nib.on = false ∧ (∀ tcs, i ≠ .powerOn tcs) ∧ i ≠
    .mgmtStatusRead) (.railPgRise) (unplugged) := by
  beta_reduce
  and_intros <;> first | with_reducible rfl | decide +kernel

theorem witness_FrameChecks_1 : (fun (i : Instr) (op : Nat) (q : Request) (s : State) => packetOf i = some (op, q) ∧
    s.serving = true ∧ s.cmd.restarting = false ∧ s.scribeBusy = false ∧ q.pkt.ver ≠ 1) (.nop (badVer)) (0x0100)
    (badVer) (up) := by
  beta_reduce
  and_intros <;> first | with_reducible rfl | decide +kernel

theorem witness_FrameChecks_2 : (fun (i : Instr) (op : Nat) (q : Request) (s : State) => packetOf i = some (op, q) ∧
    s.serving = true ∧ s.cmd.restarting = false ∧ s.scribeBusy = false ∧ q.pkt.ver = 1 ∧ (4160 < q.pkt.len ∨
    q.pkt.delivered ≠ 16 + q.pkt.len + (if q.pkt.flags.testBit 1 then 16 else 0))) (.nop badLen) (0x0100) (badLen)
    (up) := by
  beta_reduce
  and_intros <;> first | with_reducible rfl | decide +kernel

theorem witness_FrameChecks_3 : (fun (i : Instr) (op : Nat) (q : Request) (s : State) => packetOf i = some (op, q) ∧
    s.serving = true ∧ s.cmd.restarting = false ∧ s.scribeBusy = false ∧ q.pkt.ver = 1 ∧ lengthOk q.pkt = true ∧
    q.pkt.session ≠ 0 ∧ (q.pkt.session ∉ handles ∨ (s.session q.pkt.session).via ≠ q.via ∨ (s.session
    q.pkt.session).phase = .free ∨ ((s.session q.pkt.session).phase = .halfOpen ∧ op ≠ 0x0201))) (.nop onHandle)
    (0x0100) (onHandle) (up) := by
  beta_reduce
  and_intros <;> first | with_reducible rfl | decide +kernel

theorem witness_FrameChecks_4 : (fun (i : Instr) (op : Nat) (q : Request) (s : State) (x : Session) => packetOf i =
    some (op, q) ∧ s.serving = true ∧ s.cmd.restarting = false ∧ s.scribeBusy = false ∧ q.pkt.ver = 1 ∧ lengthOk q.pkt
    = true ∧ s.openSession q = some x ∧ ¬ (op = 0x0201 ∧ hasTag q.pkt = false ∧ q.pkt.seq = x.keptSeq ∧ x.keptProve =
    true) ∧ (hasTag q.pkt = false ∨ q.pkt.tag ≠ ((hmac x.key (headerBytes (asked op q).pkt ++ q.pkt.params)).take
    16))) (.nop onHandle) (0x0100) (onHandle) (provisioned) ({ phase := .opened, world := 1, key := zeros 32 }) := by
  beta_reduce
  and_intros <;> first | with_reducible rfl | decide +kernel

theorem witness_FrameChecks_5 : (fun (op : Nat) (q : Request) (s : State) => q.pkt.ver = 1 ∧ lengthOk q.pkt = true ∧
    (q.pkt.session = 0 ∨ (op = 0x0201 ∧ q.pkt.session ∈ handles ∧ (s.session q.pkt.session).via = q.via ∧ (s.session
    q.pkt.session).phase = .halfOpen))) (0x0201) (proof) (halfOpened) := by
  beta_reduce
  and_intros <;> first | with_reducible rfl | decide +kernel

theorem witness_FrameChecks_6 : (fun (op : Nat) (q : Request) (s : State) (x : Session) => q.pkt.ver = 1 ∧ lengthOk
    q.pkt = true ∧ s.openSession q = some x ∧ hasTag q.pkt = true ∧ q.pkt.tag = (hmac x.key (headerBytes (asked op
    q).pkt ++ q.pkt.params)).take 16) (0x0100) (tagged 1) (provisioned)
    ({ phase := .opened, world := 1, key := zeros 32 }) := by
  beta_reduce
  and_intros <;> first | with_reducible rfl | decide +kernel

theorem witness_LaterChecks_1 : (fun (i : Instr) (op : Nat) (q : Request) (s : State) => packetOf i = some (op, q) ∧
    s.serving = true ∧ s.cmd.restarting = true) (.nop nopAsk) (0x0100) (nopAsk)
    ({ up with cmd := { restarting := true } }) := by
  beta_reduce
  and_intros <;> first | with_reducible rfl | decide +kernel

theorem witness_LaterChecks_2 : (fun (i : Instr) (op : Nat) (q : Request) (s : State) => packetOf i = some (op, q) ∧
    s.serving = true ∧ s.cmd.restarting = false ∧ s.scribeBusy = true) (.nop nopAsk) (0x0100) (nopAsk)
    ({ up with cmd := { poll := some ⟨nopAsk, 0, 0, 0, 0⟩ } }) := by
  beta_reduce
  and_intros <;> first | with_reducible rfl | decide +kernel

theorem witness_LaterChecks_3 : (fun (i : Instr) (op : Nat) (q : Request) (s : State) (x : Session) => packetOf i =
    some (op, q) ∧ s.serving = true ∧ s.cmd.restarting = false ∧ s.scribeBusy = false ∧ s.frameStatus (asked op q) =
    none ∧ s.openSession q = some x ∧ q.pkt.seq = x.keptSeq ∧ x.keptReply ≠ []) (.nop (tagged 0)) (0x0100) (tagged 0)
    (normal1) ({ phase := .opened, key := zeros 32, keptReply := [1] }) := by
  beta_reduce
  and_intros <;> first | with_reducible rfl | decide +kernel

theorem witness_LaterChecks_4 : (fun (i : Instr) (op : Nat) (q : Request) (s : State) (x : Session) => packetOf i =
    some (op, q) ∧ s.serving = true ∧ s.cmd.restarting = false ∧ s.scribeBusy = false ∧ s.frameStatus (asked op q) =
    none ∧ s.openSession q = some x ∧ q.pkt.seq ≠ x.keptSeq ∧ 32767 < (q.pkt.seq + 65536 - x.keptSeq) % 65536) (.nop
    (tagged 32768)) (0x0100) (tagged 32768) (normal1) ({ phase := .opened, key := zeros 32, keptReply := [1] }) := by
  beta_reduce
  and_intros <;> first | with_reducible rfl | decide +kernel

theorem witness_LaterChecks_5 : (fun (i : Instr) (op : Nat) (q : Request) (s : State) => packetOf i = some (op, q) ∧
    s.serving = true ∧ s.cmd.restarting = false ∧ s.scribeBusy = false ∧ s.frameStatus (asked op q) = none ∧
    s.freshSeq (asked op q) = true ∧ s.modeAllows op = false) (.sessionList nopAsk) (0x0204) (nopAsk) (up.setMode 0)
    := by
  beta_reduce
  and_intros <;> first | with_reducible rfl | decide +kernel

theorem witness_LaterChecks_6 : (fun (i : Instr) (op : Nat) (q : Request) (s : State) (a : OpAccess) (c : Nat) =>
    packetOf i = some (op, q) ∧ s.serving = true ∧ s.cmd.restarting = false ∧ s.scribeBusy = false ∧ s.frameStatus
    (asked op q) = none ∧ s.freshSeq (asked op q) = true ∧ s.modeAllows op = true ∧ opcodeAccess op = some a ∧
    (s.begun op q).accessStatus op a ((s.begun op q).openSession (asked op q)) (asked op q) = some c) (.sessionList
    nopAsk) (0x0204) (nopAsk) (provisioned0) (.normal) (0x20) := by
  beta_reduce
  and_intros <;> first | with_reducible rfl | decide +kernel

theorem witness_LaterChecks_7 : (fun (s : State) (q : Request) (x : Session) => s.openSession q = some x) (normal1)
    (tagged 1) ({ phase := .opened, key := zeros 32, keptReply := [1] }) := by
  beta_reduce
  decide +kernel

theorem witness_AccessByClass_1 : (fun (i : Instr) (op : Nat) (q : Request) (s : State) (a : OpAccess) => packetOf i =
    some (op, q) ∧ s.serving = true ∧ s.cmd.restarting = false ∧ s.scribeBusy = false ∧ s.frameStatus (asked op q) =
    none ∧ q.pkt.session = 0 ∧ s.mode ≠ 0 ∧ s.modeAllows op = true ∧ opcodeAccess op = some a ∧ a ≠ .open_ ∧ (s.begun
    op q).nv.lifeCycle ≠ 0 ∧ (s.begun op q).nv.lifeCycle ≠ 4 ∧ (op < 0x0400 ∨ 0x0402 < op) ∧ op ≠ 0x0405)
    (.sessionList nopAsk) (0x0204) (nopAsk) (provisioned0) (.normal) := by
  beta_reduce
  and_intros <;> first | with_reducible rfl | decide +kernel

theorem witness_AccessByClass_2 : (fun (i : Instr) (op : Nat) (q : Request) (s : State) (x : Session) => packetOf i =
    some (op, q) ∧ s.serving = true ∧ s.cmd.restarting = false ∧ s.scribeBusy = false ∧ s.frameStatus (asked op q) =
    none ∧ s.freshSeq (asked op q) = true ∧ s.mode ≠ 0 ∧ s.modeAllows op = true ∧ opcodeAccess op = some .secure ∧
    s.openSession q = some x ∧ x.world = 0 ∧ (s.begun op q).nv.lifeCycle ≠ 0 ∧ (s.begun op q).nv.lifeCycle ≠ 4 ∧ (op <
    0x0400 ∨ 0x0402 < op) ∧ op ≠ 0x0405) (.reset (taggedAs 0x0105 1)) (0x0105) (taggedAs 0x0105 1) (normal1)
    ({ phase := .opened, key := zeros 32, keptReply := [1] }) := by
  beta_reduce
  and_intros <;> first | with_reducible rfl | decide +kernel

theorem witness_AccessByClass_3 : (fun (op : Nat) (q : Request) (s : State) (a : OpAccess) (x : Session) => s.serving
    = true ∧ s.cmd.restarting = false ∧ s.scribeBusy = false ∧ s.frameStatus (asked op q) = none ∧ s.freshSeq (asked
    op q) = true ∧ s.mode ≠ 0 ∧ s.modeAllows op = true ∧ opcodeAccess op = some a ∧ s.openSession q = some x ∧ (a =
    .open_ ∨ a = .normal ∨ x.world ≠ 0) ∧ (s.begun op q).nv.lifeCycle ≠ 0 ∧ (s.begun op q).nv.lifeCycle ≠ 4 ∧ (op <
    0x0400 ∨ 0x0402 < op) ∧ op ≠ 0x0405) (0x0204) (taggedAs 0x0204 1) (normal1) (.normal)
    ({ phase := .opened, key := zeros 32, keptReply := [1] }) := by
  beta_reduce
  and_intros <;> first | with_reducible rfl | decide +kernel

theorem witness_AccessByClass_4 : (fun (op : Nat) (q : Request) (s : State) => s.serving = true ∧ s.cmd.restarting =
    false ∧ s.scribeBusy = false ∧ s.frameStatus (asked op q) = none ∧ q.pkt.session = 0 ∧ s.mode ≠ 0 ∧ s.modeAllows
    op = true ∧ opcodeAccess op = some .open_ ∧ (s.begun op q).nv.lifeCycle ≠ 0 ∧ (s.begun op q).nv.lifeCycle ≠ 4 ∧
    (op < 0x0400 ∨ 0x0402 < op) ∧ op ≠ 0x0405) (0x0100) (nopAsk) (provisioned0) := by
  beta_reduce
  and_intros <;> first | with_reducible rfl | decide +kernel

theorem witness_AccessByClass_5 : (fun (op : Nat) (q : Request) (s : State) (a : OpAccess) => s.serving = true ∧
    s.cmd.restarting = false ∧ s.scribeBusy = false ∧ s.frameStatus (asked op q) = none ∧ q.pkt.session = 0 ∧
    s.modeAllows op = true ∧ opcodeAccess op = some a ∧ s.nv.lifeCycle = 0 ∧ (op < 0x0400 ∨ 0x0402 < op) ∧ op ≠
    0x0405) (0x0500) (nopAsk) (up) (.secure) := by
  beta_reduce
  and_intros <;> first | with_reducible rfl | decide +kernel

theorem witness_ReplyTags_1 : (fun (s : State) (r : Request) (st : Nat) (p b : Bytes) => (r.pkt.session = 0 ∨
    s.openSession r = none) ∧ b = headerBytes
    { opcode := r.pkt.opcode, seq := r.pkt.seq, session := r.pkt.session, len := p.length, status := st, params := p,
      flags := 1 } ++ p) (up) (nopAsk) (0) (([] : Bytes)) (headerBytes
    { opcode := (nopAsk).pkt.opcode, seq := (nopAsk).pkt.seq, session := (nopAsk).pkt.session,
      len := (([] : Bytes)).length, status := (0 : Nat), params := (([] : Bytes)), flags := 1 } ++ (([] : Bytes))) :=
    by
  beta_reduce
  and_intros <;> first | with_reducible rfl | decide +kernel

theorem witness_ReplyTags_2 : (fun (s : State) (r : Request) (st : Nat) (p b : Bytes) (x : Session) => s.openSession r
    = some x ∧ x.keptSeq = r.pkt.seq ∧ st ≠ 0x21 ∧ st ≠ 0x22 ∧ b = headerBytes
    { opcode := r.pkt.opcode, seq := r.pkt.seq, session := r.pkt.session, len := p.length, status := st, params := p,
      flags := 3 } ++ p) (normal1) (tagged 0) (0) (([] : Bytes)) (headerBytes
    { opcode := (tagged 0).pkt.opcode, seq := (tagged 0).pkt.seq, session := (tagged 0).pkt.session,
      len := (([] : Bytes)).length, status := (0 : Nat), params := (([] : Bytes)), flags := 3 } ++ (([] : Bytes)))
    ({ phase := .opened, key := zeros 32, keptReply := [1] }) := by
  beta_reduce
  and_intros <;> first | with_reducible rfl | decide +kernel

theorem witness_ReplyTags_3 : (fun (s : State) (r : Request) (st : Nat) (p b : Bytes) (x : Session) => s.openSession r
    = some x ∧ x.keptSeq = r.pkt.seq ∧ (st = 0x21 ∨ st = 0x22) ∧ b = headerBytes
    { opcode := r.pkt.opcode, seq := r.pkt.seq, session := r.pkt.session, len := p.length, status := st, params := p,
      flags := 1 } ++ p) (normal1) (tagged 0) (0x22) (([] : Bytes)) (headerBytes
    { opcode := (tagged 0).pkt.opcode, seq := (tagged 0).pkt.seq, session := (tagged 0).pkt.session,
      len := (([] : Bytes)).length, status := (0x22 : Nat), params := (([] : Bytes)), flags := 1 } ++ (([] : Bytes)))
    ({ phase := .opened, key := zeros 32, keptReply := [1] }) := by
  beta_reduce
  and_intros <;> first | with_reducible rfl | decide +kernel

theorem witness_ReplyTags_4 : (fun (s : State) (r : Request) (st : Nat) (p b : Bytes) (x : Session) => s.openSession r
    = some x ∧ x.keptSeq ≠ r.pkt.seq ∧ st ≠ 0x21 ∧ st ≠ 0x22 ∧ b = headerBytes
    { opcode := r.pkt.opcode, seq := r.pkt.seq, session := r.pkt.session, len := p.length, status := st, params := p,
      flags := 3 } ++ p) (normal1) (tagged 1) (0) (([] : Bytes)) (headerBytes
    { opcode := (tagged 1).pkt.opcode, seq := (tagged 1).pkt.seq, session := (tagged 1).pkt.session,
      len := (([] : Bytes)).length, status := (0 : Nat), params := (([] : Bytes)), flags := 3 } ++ (([] : Bytes)))
    ({ phase := .opened, key := zeros 32, keptReply := [1] }) := by
  beta_reduce
  and_intros <;> first | with_reducible rfl | decide +kernel

theorem witness_ReplyTags_5 : (fun (s : State) (r : Request) (st : Nat) (p b : Bytes) (x : Session) => s.openSession r
    = some x ∧ x.keptSeq ≠ r.pkt.seq ∧ (st = 0x21 ∨ st = 0x22) ∧ b = headerBytes
    { opcode := r.pkt.opcode, seq := r.pkt.seq, session := r.pkt.session, len := p.length, status := st, params := p,
      flags := 1 } ++ p) (normal1) (tagged 1) (0x22) (([] : Bytes)) (headerBytes
    { opcode := (tagged 1).pkt.opcode, seq := (tagged 1).pkt.seq, session := (tagged 1).pkt.session,
      len := (([] : Bytes)).length, status := (0x22 : Nat), params := (([] : Bytes)), flags := 1 } ++ (([] : Bytes)))
    ({ phase := .opened, key := zeros 32, keptReply := [1] }) := by
  beta_reduce
  and_intros <;> first | with_reducible rfl | decide +kernel

theorem witness_PacketRoundTrip_1 : (fun (p : Packet) => p.ver < 16 ∧ p.flags < 16 ∧ p.opcode < 65536 ∧ p.seq < 65536
    ∧ p.session < 256 ∧ p.status < 256 ∧ p.rsv.length = 7 ∧ p.len = p.params.length ∧ p.len ≤ 4160 ∧ p.tag.length =
    (if p.flags.testBit 1 then 16 else 0) ∧ p.delivered = 16 + p.len + p.tag.length)
    ({ flags := 2, len := 2, rsv := zeros 7, params := [1, 2], tag := zeros 16, delivered := 34 }) := by
  beta_reduce
  and_intros <;> first | with_reducible rfl | decide +kernel

theorem witness_PacketRoundTrip_2 : (fun (b : Bytes) => 16 ≤ b.length ∧ lengthOk (parsePacket b) = true) (headerBytes
    { flags := 2 } ++ zeros 16) := by
  beta_reduce
  and_intros <;> first | with_reducible rfl | decide +kernel

theorem witness_QueueOrderKept_2 : (fun (s : State) (q : Nat) => s.queuesSound ∧ q < 4) (noticed) (0) := by
  beta_reduce
  and_intros <;> first | with_reducible rfl | decide +kernel

theorem witness_QueueOrderKept_3 : (fun (s : State) => s.queuesSound) (noticed) := by
  beta_reduce
  decide +kernel

theorem witness_QueueOrderKept_4 : (fun (s t : State) (r : Request) (i : Instr) => s.queuesSound ∧ i ∈ [.queueConfig
    r, .queueRead r, .queueMark r, .queueRewind r, .queueRelease r] ∧ exec i s = .next t) (noticed) (stateOf (exec
    (.queueMark (ask [0])) noticed) noticed) (ask [0]) (.queueMark (ask [0])) := by
  beta_reduce
  exact ⟨by decide +kernel, by decide +kernel, rfl⟩

theorem witness_QueueOrderKept_5 : (fun (s t : State) (q : Fin 4) => s.queuesSound ∧ (exec (.queueEnableRise q) s =
    .next t ∨ exec (.queueIntegrityReset q) s = .next t)) (noticed) (stateOf (exec (.queueEnableRise 0) noticed)
    noticed) (0) := by
  beta_reduce
  exact ⟨by decide +kernel, .inl rfl⟩

theorem witness_NoticeEntry_1 : (fun (s : State) (code : Nat) (d e : Bytes) => s.hubOn = true ∧ (s.queue 0).agrees =
    true ∧ s.flag (Reg.QUE_CFG_ENABLE 0) = true ∧ code < 65536 ∧ (e = Table.get (fun _ => []) ((s.notice code d).queue
    0).slots ((s.queue 0).w % 512))) (up) (0x0101) ([]) (Table.get (fun _ => []) (((up).notice (0x0101 : Nat)
    ([])).queue 0).slots (((up).queue 0).w % 512)) := by
  beta_reduce
  and_intros <;> first | with_reducible rfl | decide +kernel

theorem witness_NoticeEntry_2 : (fun (s : State) => s.hubOn = true ∧ (s.queue 0).agrees = true ∧ s.flag
    (Reg.QUE_CFG_ENABLE 0) = false) (up.put (Reg.QUE_CFG_ENABLE 0) false) := by
  beta_reduce
  and_intros <;> first | with_reducible rfl | decide +kernel

theorem witness_RefusalFrame : (fun (i : Instr) (op : Nat) (q : Request) (s : State) (c : Nat) => packetOf i = some
    (op, q) ∧ s.serving = true ∧ s.cmd.restarting = false ∧ s.scribeBusy = false ∧ s.frameStatus (asked op q) = some
    c) (.nop badVer) (0x0100) (badVer) (up) (0x10) := by
  beta_reduce
  and_intros <;> first | with_reducible rfl | decide +kernel

theorem witness_PolicerBooks_1 : (fun (b : PolicerBucket) => policerBalanced b)
    ({ size := 10, tokens := 4, added := 9, spent := 5 }) := by
  beta_reduce
  decide +kernel

theorem witness_PolicerBooks_2 : (fun (s : State) => s.policersBalanced) (up) := by
  beta_reduce
  intro tid d p h; simp [State.policer, up] at h

theorem witness_PolicerBooks_3 : (fun (s t : State) (v : Word) => s.policersBalanced ∧ exec (.policerSnapshot v) s =
    .next t) (up) (stateOf (exec (.policerSnapshot 0) up) up) (0) := by
  beta_reduce
  exact ⟨fun tid d p h => by simp [State.policer, up] at h, rfl⟩

theorem witness_SystemSegments_1 : (fun (s x y : State) (p : Fin 32) (id : Nat) (rest : List Nat) (h k : Held) (d :
    List Nat) => s.hubOn = true ∧ s.sw.arriving ≠ [] ∧ x = (List.range p.val).foldl State.admitAt s ∧ (Table.get (fun
    _ => []) x.sw.arriving p.val = id :: rest) ∧ (y = x.withSw fun w =>
    { w with arriving := Table.set (fun _ => []) w.arriving p.val rest }) ∧ y.seg? id = some h ∧ (h.seg.tid < 2 ∨
    h.seg.sys = true) ∧ (k =
    { h with cls := if h.input < 4 then h.cls else if h.seg.urg || decide (h.seg.tid < 2) then 0 else y.tidClass h.seg.tid })
    ∧ y.target k (if h.input < 4 then some (h.input / 2) else none) = .outputs d) (arrivedTrunk) (arrivedTrunk)
    ((arrivedTrunk).withSw fun w => { w with arriving := Table.set (fun _ => []) w.arriving (0 : Fin 32).val ([]) })
    (0) (1) ([]) (aTrunkHeld)
    ({ (aTrunkHeld : Held) with cls := if (aTrunkHeld : Held).input < 4 then (aTrunkHeld : Held).cls else if (aTrunkHeld : Held).seg.urg || decide ((aTrunkHeld : Held).seg.tid < 2) then 0 else ((arrivedTrunk).withSw fun w => { w with arriving := Table.set (fun _ => []) w.arriving (0 : Fin 32).val ([]) }).tidClass (aTrunkHeld : Held).seg.tid })
    ([19]) := by
  beta_reduce
  and_intros <;> first | with_reducible rfl | decide +kernel

theorem witness_SystemSegments_2 : (fun (s x y : State) (p : Fin 32) (id : Nat) (rest : List Nat) (h k : Held) (d :
    List Nat) (w : State) (o u : Nat) => s.hubOn = true ∧ s.sw.arriving ≠ [] ∧ x = (List.range p.val).foldl
    State.admitAt s ∧ (Table.get (fun _ => []) x.sw.arriving p.val = id :: rest) ∧ (y = x.withSw fun w =>
    { w with arriving := Table.set (fun _ => []) w.arriving p.val rest }) ∧ y.seg? id = some h ∧ (h.seg.tid < 2 ∨
    h.seg.sys = true) ∧ (k =
    { h with cls := if h.input < 4 then h.cls else if h.seg.urg || decide (h.seg.tid < 2) then 0 else y.tidClass h.seg.tid })
    ∧ y.target k (if h.input < 4 then some (h.input / 2) else none) = .tapOut o u ∧ w = y.count (0x060 + 8 * u + 5)
    k.cells ∧ d = [o]) (tappedOut) (tappedOut) ((tappedOut).withSw fun w =>
    { w with arriving := Table.set (fun _ => []) w.arriving (0 : Fin 32).val ([]) }) (0) (1) ([]) (aTapHeld)
    ({ (aTapHeld : Held) with cls := if (aTapHeld : Held).input < 4 then (aTapHeld : Held).cls else if (aTapHeld : Held).seg.urg || decide ((aTapHeld : Held).seg.tid < 2) then 0 else ((tappedOut).withSw fun w => { w with arriving := Table.set (fun _ => []) w.arriving (0 : Fin 32).val ([]) }).tidClass (aTapHeld : Held).seg.tid })
    ([2]) (((tappedOut).withSw fun w =>
    { w with arriving := Table.set (fun _ => []) w.arriving (0 : Fin 32).val ([]) }).count (0x060 + 8 * (11 : Nat) +
    5)
    ({ (aTapHeld : Held) with cls := if (aTapHeld : Held).input < 4 then (aTapHeld : Held).cls else if (aTapHeld : Held).seg.urg || decide ((aTapHeld : Held).seg.tid < 2) then 0 else ((tappedOut).withSw fun w => { w with arriving := Table.set (fun _ => []) w.arriving (0 : Fin 32).val ([]) }).tidClass (aTapHeld : Held).seg.tid }
    : Held).cells) (2) (11) := by
  beta_reduce
  and_intros <;> first | with_reducible rfl | decide +kernel

theorem witness_BadAddressRefused_1 : (fun (s u : State) (r : Request) => s.passes 0x0310 r = true ∧ u = s.begun
    0x0310 r ∧ 6 ≤ r.pkt.params.length ∧ 1 ≤ leAt r.pkt.params 4 2 ∧ leAt r.pkt.params 4 2 ≤ 256 ∧ badAddress (leAt
    r.pkt.params 0 4) = true) (up) ((up).begun 0x0310 (ask [1, 0, 0, 0, 1, 0])) (ask [1, 0, 0, 0, 1, 0]) := by
  beta_reduce
  and_intros <;> first | with_reducible rfl | decide +kernel

theorem witness_BadAddressRefused_2 : (fun (s u : State) (r : Request) => s.passes 0x0311 r = true ∧ u = s.begun
    0x0311 r ∧ 1 ≤ leAt r.pkt.params 4 2 ∧ leAt r.pkt.params 4 2 ≤ 256 ∧ 8 + 4 * leAt r.pkt.params 4 2 ≤
    r.pkt.params.length ∧ badAddress (leAt r.pkt.params 0 4) = true) (up) ((up).begun 0x0311 (ask [1, 0, 0, 0, 1, 0,
    0, 0, 1, 2, 3, 4])) (ask [1, 0, 0, 0, 1, 0, 0, 0, 1, 2, 3, 4]) := by
  beta_reduce
  and_intros <;> first | with_reducible rfl | decide +kernel

theorem witness_BadAddressRefused_3 : (fun (s u : State) (r : Request) => s.passes 0x0312 r = true ∧ u = s.begun
    0x0312 r ∧ 12 ≤ r.pkt.params.length ∧ badAddress (leAt r.pkt.params 0 4) = true) (up) ((up).begun 0x0312 (ask ([1,
    0, 0, 0] ++ zeros 8))) (ask ([1, 0, 0, 0] ++ zeros 8)) := by
  beta_reduce
  and_intros <;> first | with_reducible rfl | decide +kernel

theorem witness_BadAddressRefused_4 : (fun (a : Word) => badAddress a.toNat = true) (1) := by
  beta_reduce
  decide +kernel

theorem witness_RegisterFieldTypes_1 : (fun (a i : Nat) (r : RegRow) (f : FieldDef) => regRow a = some (r, i) ∧ f ∈
    r.fields) (0xD20000) (0) (aRow) ((aRow.fields.getD 0 ⟨0, 0, .rw, []⟩)) := by
  beta_reduce
  and_intros <;> first | with_reducible rfl | decide +kernel

theorem witness_RegisterFieldTypes_2 : (fun (a i j : Nat) (r : RegRow) => regRow a = some (r, i) ∧ ((∀ f, f ∈ r.fields
    → j < f.lo ∨ f.hi < j))) (0xD20000) (0) (31) (aRow) := by
  beta_reduce
  and_intros <;> first | with_reducible rfl | decide +kernel

theorem witness_RegisterFieldTypes_3 : (fun (s : State) (a : Word) => s.hubOn = true ∧ badAddress a.toNat = false ∧
    a.toNat / 0x10000 ∈ [0x00, 0x01, 0x10, 0x12, 0x20, 0x62, 0xA0, 0xB0, 0xB1, 0xC0]) (up) (0x200000) := by
  beta_reduce
  and_intros <;> first | with_reducible rfl | decide +kernel

theorem witness_ReadingChanges_3 : (fun (t : Int) => 0 ≤ t) (70000) := by
  beta_reduce
  decide +kernel

theorem witness_EventCounterWrap_1 : (fun (s : State) => s.hubOn = true) (up) := by
  beta_reduce
  decide +kernel

theorem witness_EventCounterWrap_2 : (fun (s : State) => s.hubOn = false) ({}) := by
  beta_reduce
  decide +kernel

theorem witness_RetryBooks_1 : (fun (s t : State) (n cause : Nat) (point : Option Nat) (x : FuseSample) => n < 8 ∧ t =
    s.fuseTrip n cause point x) (up) ((up).fuseTrip (1 : Nat) (1 : Nat) (none : Option Nat) (aSample : FuseSample))
    (1) (1) (none) (aSample) := by
  beta_reduce
  and_intros <;> first | with_reducible rfl | decide +kernel

theorem witness_RetryBooks_2 : (fun (s t : State) (n : Nat) => n < 8 ∧ (s.fuse n).shadow = none ∧ t = s.fuseDecide n)
    (up) ((up).fuseDecide (1 : Nat)) (1) := by
  beta_reduce
  and_intros <;> first | with_reducible rfl | decide +kernel

theorem witness_RetryBooks_3 : (fun (s t : State) (n : Nat) (p : Bytes) => n < 8 ∧ profLimit p ≤ 15 ∧ t =
    s.takeProfile n p) (up) ((up).takeProfile (1 : Nat) (zeros 168)) (1) (zeros 168) := by
  beta_reduce
  and_intros <;> first | with_reducible rfl | decide +kernel

theorem witness_RetryBooks_4 : (fun (s : State) (n : Fin 8) => s.nib.on = true ∧ s.flag (Reg.EFU_CH_STAT_PG n) = true
    ∧ s.rd (Reg.EFU_CH_RETRY_USED n) ≠ 0) ((up.put (Reg.EFU_CH_STAT_PG 1) true).wr (Reg.EFU_CH_RETRY_USED 1) 2) (1) :=
    by
  beta_reduce
  and_intros <;> first | with_reducible rfl | decide +kernel

/-! Ill-formed commands (R47, R49, R78 and the lengths of the layouts) -/

/-- A well-formed NOP, and the packets that spoil one field each. -/
def goodNop : Packet := { opcode := 0x0100, rsv := zeros 7 }

theorem test_wf_good : (Instr.nop { via := .mailbox, pkt := goodNop }).wf = true := by decide +kernel

theorem test_wf_packet : ∀ p ∈ ([{ goodNop with ver := 16 }, { goodNop with flags := 16 }, { goodNop with opcode := 0x0101 },
    { goodNop with seq := 65536 }, { goodNop with session := 256 }, { goodNop with len := 65536 },
    { goodNop with status := 256 }, { goodNop with rsv := zeros 6 }, { goodNop with params := [0] },
    { goodNop with tag := zeros 15 }] : List Packet), (Instr.nop { via := .mailbox, pkt := p }).wf = false := by
  decide +kernel

/-- A well-formed packet with another row's opcode; no row has the opcode 0xFFFF. -/
def strange : Request := { via := .mailbox, pkt := { opcode := 0xFFFF, rsv := zeros 7, len := 2, params := [9, 9] } }

/-- Packet rows with an opcode of no row. -/
theorem test_wf_opcode1 : ∀ i ∈ ([
    .nop strange, .identify strange, .modeSet strange, .unitMapOut strange, .unitMapIn strange, .selftest strange,
    .reset strange, .jobStatus strange, .positionSetAssign strange, .positionSetClear strange,
    .queueConfig strange, .queueRead strange, .queueMark strange, .queueRewind strange, .queueRelease strange,
    .openSession strange, .sessionProve strange, .openSessionPw strange, .closeSession strange,
    .sessionList strange, .regRead strange, .regWrite strange, .regModify strange, .regPoll strange,
    .tunnelCreate strange, .hopInstall strange, .tunnelDestroy strange, .tunnelClose strange,
    .tunnelRetune strange, .retunePrepare strange, .retuneCancel strange, .tunnelQuery strange,
    .routeSetLine strange, .routeSetCut strange, .routeSetRestore strange, .audit strange, .trunkEnable strange,
    .trunkDisable strange, .keyLoad strange, .keyClear strange, .keyInfo strange, .attest strange,
    .lcAdvance strange] : List Instr), i.wf = false := by
  decide +kernel

/-- The other packet rows. -/
theorem test_wf_opcode2 : ∀ i ∈ ([
    .cryptoHmac strange, .cryptoSeal strange, .cryptoOpen strange, .otpProgramKey strange,
    .otpProgramPassword strange, .otpProgramRetire strange, .fwBegin strange, .fwWriteBlock strange,
    .fwVerify strange, .fwActivate strange, .fwStatus strange, .fwConfirm strange, .settingsRead strange,
    .settingsWrite strange, .timeGet strange, .timeSetOffset strange, .timeSetRate strange, .timeMasterSet strange,
    .tioConfig strange, .tioArm strange, .opSet strange, .pwrStatus strange, .wakeConfig strange,
    .efuseControlOff strange, .efuseControlOn strange, .efuseControlClear strange, .efuseControlStatus strange,
    .efuseControlTest strange, .efuseCurveLoad strange, .pdTableLoad strange, .pdPortControlDisable strange,
    .pdPortControlEnable strange, .pdPortControlReoffer strange, .pdPortControlHardReset strange,
    .pdPortControlStatus strange, .diagServiceEnter strange, .diagServiceExit strange, .patternConfig strange,
    .loopbackSet strange, .errorInject strange, .cometConfig strange, .sampleConfig strange] : List Instr), i.wf = false := by
  decide +kernel

/-- A packet with a row's opcode and another row's selecting byte. -/
def selecting (op : Nat) : Request := { via := .mailbox, pkt := { opcode := op, rsv := zeros 7, len := 2, params := [9, 9] } }

/-- Rows that share an opcode, with a selecting byte of none of them. -/
theorem test_wf_selects : ∀ i ∈ ([
    .positionSetAssign (selecting 0x0107), .positionSetClear (selecting 0x0107), .tunnelCreate (selecting 0x0400),
    .hopInstall (selecting 0x0400), .tunnelDestroy (selecting 0x0402), .tunnelClose (selecting 0x0402),
    .tunnelRetune (selecting 0x0401), .retunePrepare (selecting 0x0401), .retuneCancel (selecting 0x0401),
    .routeSetLine (selecting 0x0404), .routeSetCut (selecting 0x0404), .routeSetRestore (selecting 0x0404),
    .otpProgramKey (selecting 0x0508), .otpProgramPassword (selecting 0x0508),
    .otpProgramRetire (selecting 0x0508), .efuseControlOff (selecting 0x0803), .efuseControlOn (selecting 0x0803),
    .efuseControlClear (selecting 0x0803), .efuseControlStatus (selecting 0x0803),
    .efuseControlTest (selecting 0x0803), .pdPortControlDisable (selecting 0x0806),
    .pdPortControlEnable (selecting 0x0806), .pdPortControlReoffer (selecting 0x0806),
    .pdPortControlHardReset (selecting 0x0806), .pdPortControlStatus (selecting 0x0806)] : List Instr), i.wf = false := by
  decide +kernel

/-- Events whose operands break one check each. -/
theorem test_wf_event1 : ∀ i ∈ ([
    .bootComplete false [256], .bootComplete false [1, 1], .intakeWindowLeave 65536 1, .intakeWindowLeave 0 0,
    .intakeWindowEnter 65536, .sramDoubleBitError 0 false 262144, .relayedReplyArrival 0 (zeros 16),
    .relayedReplyArrival 1 (zeros 15), .mgmtRequest { byte := 0 } (zeros 15), .tid0Request false (zeros 15),
    .usbsRequest (zeros 15), .usbsRequest (zeros 4193), .hopReplyReceived 0 (zeros 15), .mgmtReplyRead { count := 4193 },
    .halfOpenSessionTimeout 0, .sessionIdleTimeout 0, .jobComplete 0 false, .jobComplete 256 false,
    .hitlessRestartEnd false 65536, .installPhaseTimeout 1, .tunnelDrainEnd 1, .retuneApply 1, .routePauseEnd 1,
    .auditStationTimeout 0, .trainA 0 [zeros 31], .trainA 0 (List.replicate 6 (zeros 32)),
    .trainB 0 [zeros 31] 0 0, .alignOs 0 [zeros 31] 0 false, .steerOs 0 [zeros 31] false, .hushEnter 0 [zeros 31],
    .darkEnter 0 [zeros 31], .confirmWindowEnd 0 [0, 0, 0, 0], .confirmWindowEnd 0 [0, 0, 0, 0, 65536],
    .rxFlit 0 (zeros 271), .linkInit 0 (zeros 245), .creditMove 0 (zeros 245), .creditMoveAck 0 (zeros 245),
    .creditReport 0 (zeros 245), .assignRecord 0 (zeros 15) 0, .announceRecord 0 (zeros 15) 0,
    .healRecord 0 (zeros 15) 0, .routeChange 0 (zeros 15) 0, .clearRecord 0 (zeros 15) 0,
    .hostTlpReceived (zeros 4129) false, .deviceTlpReceived 0 (zeros 4129) false, .lockedRead 0 (zeros 4129)] : List Instr), i.wf = false := by
  decide +kernel

/-- The other events. -/
theorem test_wf_event2 : ∀ i ∈ ([
    .unlockMsg 0 (zeros 4129), .prefetchLineArrival (zeros 513), .levelsMsg 0 (zeros 513), .controlMsg (zeros 513),
    .npCreditReturn 0 0, .fetchCompletion 0 (2 ^ 64) [] false, .fetchCompletion 0 0 (zeros 257) false,
    .auxReply 0 0 (zeros 17), .usbMicroframeStart [(2 ^ 64, [0])] 0, .usbhKick 0 [(2 ^ 64, [0])],
    .ringEnable 0 [(2 ^ 64, [0])], .tdControl 0 0 [(2 ^ 64, [0])], .tdBulk 0 0 [(2 ^ 64, [0])],
    .tdInterrupt 0 0 [(2 ^ 64, [0])], .vnicEnable 0 [(2 ^ 64, [0])], .vnicPoll 0 [(2 ^ 64, [0])],
    .pointEnable [(2 ^ 64, [0])], .pointFetchDataArrival [(2 ^ 64, [0])] false,
    .usbTransactionEnd 0 0 (zeros 1025) false, .usbsControlRequest (zeros 7) [] false,
    .ethFrameReceived 0 (zeros 16385) 0 0, .ethFrameReceived 0 [] 65536 0, .ethFrameReceived 0 [] 0 65536,
    .pointLoadCompletion (zeros 264) false, .pointLoadCompletion (zeros 7) false, .pointInputFrame 0 (zeros 1519),
    .hopMsg 0 (zeros 63), .tcsSourceCapabilities 0 (List.replicate 8 (0, 0)),
    .tcsSourceCapabilities 0 [(65536, 0)], .tcsSourceCapabilities 0 [(0, 1024)],
    .efuseInputWindowChange 0 { vin := 65536 }, .efusePrecheckEnd 0 { vin := 65536 },
    .efuseRampDone 0 { vin := 65536 }, .efuseRampTimeout 0 { vin := 65536 }, .efusePgRise 0 { vin := 65536 },
    .efusePgRise 0 { vout := 65536 }, .efusePgRise 0 { i := 2 ^ 20 }, .efusePgRise 0 { vds := 65536 },
    .efuseCurveTrip 0 0 { vin := 65536 }, .efuseFastTrip 0 { vin := 65536 },
    .efuseSoaTrip 0 { vin := 65536 }, .efuseDamageDetect 0 0 { vin := 65536 },
    .profileSafePoint 0 { vin := 65536 }, .efusePgFall 0 { vin := 65536 }] : List Instr), i.wf = false := by
  decide +kernel

/-! The table gives no row any bits -/

theorem test_no_word : ∀ n ∈ [0, 8, 16, 32], decodeTableWord n 0x0100 = none := by decide +kernel

theorem test_fetch_nothing : (up.withFetchWord 16 0x0100) = up := by decide +kernel

/-! The check codes and ciphers against published values -/

/-- FIPS 180-4: SHA-256 of "abc" begins BA 78 16 BF. -/
theorem test_sha256_abc : (sha256 [0x61, 0x62, 0x63]).take 4 = [0xBA, 0x78, 0x16, 0xBF] := by decide +kernel

/-- FIPS 197, C.3: AES-256 of 00112233… begins 8E A2 B7 CA. -/
theorem test_aes256 : (aesBlock (aesKeys ((List.range 32).map fun i => BitVec.ofNat 8 i))
    ((List.range 16).map fun i => BitVec.ofNat 8 (17 * i))).take 4 = [0x8E, 0xA2, 0xB7, 0xCA] := by
  decide +kernel

/-- The check value of CRC-32 over "123456789". -/
theorem test_crc32 : crc32 [0x31, 0x32, 0x33, 0x34, 0x35, 0x36, 0x37, 0x38, 0x39] = 0xCBF43926 := by decide +kernel

/-! Small steps -/

/-- A NOP in front of the queue is taken from it and answered OK in the mailbox (R54, R79). -/
theorem test_nop : (stateOf (step { up with pending := [.nop nopAsk, .tcsVbusLoss] }) up).pending = [.tcsVbusLoss] ∧
    leAt ((stateOf (exec (.nop nopAsk) up) up).cmd.mbxReply.map (·.2)) 8 1 = 0 ∧
    (stateOf (exec (.nop nopAsk) up) up).cmd.mbxDone = true := by
  decide +kernel

/-- A version other than 1 is BAD_VERSION, and the reply carries version 1 and RESPONSE (R50). -/
theorem test_bad_version : (stateOf (exec (.nop badVer) up) up).cmd.mbxReply =
    [(0, 0x11), (2, 1), (8, 0x10)] := by
  decide +kernel

/-- A packet to a hub die without power is lost. -/
theorem test_no_power : stateOf (exec (.nop nopAsk) {}) up = {} := by decide +kernel

/-- The first notice is entry 0 of queue 0 with NSEQ 0, and W moves to 1 (R85, R93). -/
theorem test_notice : (noticed.queue 0).w = 1 ∧ noticed.nseq = 1 ∧
    ((noticed.queue 0).slots.map (·.2)).map (·.take 6) = [[1, 1, 0, 0, 0, 0]] := by
  decide +kernel

/-- A store to PWR_STAT acts on each field by its type (R17): bit 7 is W1C and is cleared, bits 6 and 5 are RO and stay. -/
theorem test_w1c : (stateOf (exec (.registerWrite 0x10004 0x81) (up.setReg 0x10004 0xE0)) up).reg 0x10004 = 0x60 := by
  decide +kernel

/-- A second of 1.5625 GHz ticks reads as one second (R440, R441). -/
theorem test_second : secOf (({ up with mer := { raw := rawSecond } } : State).reading) = 1 ∧
    nsecOf (({ up with mer := { raw := rawSecond } } : State).reading) = 0 := by
  decide +kernel

/-- The bit pairs of 0x1B are sent at the levels −3, −1, +3, +1 (R98). -/
theorem test_levels : ((bitPairs 0x1B).map fun p => levelOf (gray p)) = [-3, -1, 3, 1] ∧
    symbolsByte ((bitPairs 0x1B).map gray) = 0x1B := by
  decide +kernel

/-- Four zero bytes through lane 0's scrambler, by R99's program. -/
theorem test_scrambler : (scramble (scramblerSeed 0) [0, 0, 0, 0]).1 = [0xB4, 0x78, 0x02, 0x2A] := by
  decide +kernel

/-- Gray symbols 1, 0, 3 are precoded as 1, 3, 0, and recovered (R100). -/
theorem test_precode : precode 0 [1, 0, 3] = [1, 3, 0] ∧ unprecode 0 [1, 3, 0] = [1, 0, 3] := by decide +kernel

end Sys2Proof.Tests
end

section
/-!
PROOFS. The registers: how a word written acts on each field of its register, which addresses are refused, and what the
register commands answer (R13 to R17, R80, R81).
-/

namespace Sys2Proof.Machine

/-! Rows of the register map -/

/-- No two fields of the row share a bit, and each lies within the word. -/
abbrev RegRow.laidOut (r : RegRow) : Prop :=
  (∀ f ∈ r.fields, f.lo ≤ f.hi ∧ f.hi < 32) ∧ r.fields.Pairwise fun f g => f.hi < g.lo ∨ g.hi < f.lo

/-- Every row of every block of the manual's tables is laid out so. -/
theorem laidOut_of_mem_blockRows : ∀ b, ∀ r ∈ blockRows b, r.laidOut := by
  intro b
  unfold blockRows
  split <;> decide +kernel

theorem regRow_eq_none_iff (a : Nat) :
    regRow a = none ↔ a % 4 ≠ 0 ∨ ∀ r ∈ blockRows (a / 0x10000), r.index a = none := by
  by_cases h : a % 4 = 0 <;> simp [regRow, h, List.findSome?_eq_none_iff]

theorem mem_blockRows_of_regRow {a i : Nat} {r : RegRow} (h : regRow a = some (r, i)) : r ∈ blockRows (a / 0x10000) := by
  unfold regRow at h
  split at h
  · obtain ⟨q, hq, hr⟩ := List.exists_of_findSome?_eq_some h
    obtain ⟨j, -, e⟩ := Option.map_eq_some_iff.1 hr
    rw [Prod.mk.injEq] at e
    exact e.1 ▸ hq
  · cases h

theorem laidOut_of_regRow {a i : Nat} {r : RegRow} (h : regRow a = some (r, i)) : r.laidOut :=
  laidOut_of_mem_blockRows _ r (mem_blockRows_of_regRow h)

theorem badAddress_iff (a : Nat) :
    badAddress a = true ↔ a % 4 ≠ 0 ∨ ∀ r ∈ blockRows (a / 0x10000), r.index a = none := by
  rw [← regRow_eq_none_iff, badAddress, Option.isNone_iff_eq_none]

/-! What a write leaves in a field -/

/-- A field's value after bits have been cleared depends on its value before alone. -/
theorem Fld.get_clear_congr {f : Fld} {x y : Word} (w : Word) (h : f.get x = f.get y) :
    f.get (x &&& ~~~w) = f.get (y &&& ~~~w) := by
  simp only [Fld.get, ← BitVec.toNat_eq, BitVec.extractLsb'_and] at h ⊢
  rw [h]

theorem Fld.getLsbD_put_outside (f : Fld) (w : Word) (v : Nat) {j : Nat} (h : j < f.lo ∨ f.lo + f.width ≤ j) :
    (f.put w v).getLsbD j = w.getLsbD j := by
  by_cases hj : j < 32
  · rcases h with h | h
    · simp [Fld.put, Fld.mask, hj, h]
    · have hw : f.width ≤ j - f.lo := by omega
      simp [Fld.put, Fld.mask, hj, hw, BitVec.getLsbD_of_ge]
  · simp [BitVec.getLsbD_of_ge _ _ (Nat.le_of_not_lt hj)]

/-- The word `new` holds of the field what a write of `w` over `old` leaves by the field's type (R13, R17). -/
def FieldDef.actsByType (f : FieldDef) (a : Nat) (w old new : Word) : Prop :=
  (f.acc = .rw ∨ f.acc = .rws ∨ f.acc = .rwl → (f.at a).get new = (f.at a).get w) ∧
    (f.acc = .w1c → (f.at a).get new = (f.at a).get (old &&& ~~~w)) ∧
    (f.acc = .ro ∨ f.acc = .wo → (f.at a).get new = (f.at a).get old)

/-- Only the field's own bits of the old and the new word count. -/
theorem FieldDef.actsByType_congr {f : FieldDef} {a : Nat} {w old old' new new' : Word}
    (ho : (f.at a).get old' = (f.at a).get old) (hn : (f.at a).get new' = (f.at a).get new)
    (h : f.actsByType a w old new) : f.actsByType a w old' new' := by
  unfold actsByType at h ⊢
  rw [hn, ho, Fld.get_clear_congr w ho]
  exact h

/-- A write either keeps the word or puts a value in the field. -/
theorem FieldDef.written_eq_self_or_put (f : FieldDef) (a : Nat) (w old : Word) :
    f.written a w old = old ∨ ∃ v, f.written a w old = (f.at a).put old v := by
  unfold FieldDef.written
  cases f.acc
  case ro => exact .inl rfl
  case wo => exact .inl rfl
  all_goals exact .inr ⟨_, rfl⟩

/-- A write acts on the field itself by its type. -/
theorem FieldDef.actsByType_written {f : FieldDef} (a : Nat) (w old : Word) (hf : f.lo ≤ f.hi ∧ f.hi < 32) :
    f.actsByType a w old (f.written a w old) := by
  have hput (x : Word) : (f.at a).get ((f.at a).put old ((f.at a).get x)) = (f.at a).get x := by
    rw [Fld.get_put_same _ _ _ (by simp only [FieldDef.at]; omega)]
    exact Nat.mod_eq_of_lt (BitVec.isLt _)
  unfold actsByType FieldDef.written
  cases f.acc <;> simp [hput]

/-- A write of one field leaves a field that shares no bit with it alone. -/
theorem FieldDef.get_written_apart {f g : FieldDef} (a : Nat) (w old : Word) (h : f.hi < g.lo ∨ g.hi < f.lo)
    (hf : f.lo ≤ f.hi) (hg : g.lo ≤ g.hi) : (g.at a).get (f.written a w old) = (g.at a).get old := by
  obtain e | ⟨v, e⟩ := f.written_eq_self_or_put a w old
  · rw [e]
  · rw [e, Fld.get_put_other _ _ _ _ (by simp only [FieldDef.at]; omega)]

theorem FieldDef.getLsbD_written_outside {f : FieldDef} (a : Nat) (w old : Word) {j : Nat} (h : j < f.lo ∨ f.hi < j) :
    (f.written a w old).getLsbD j = old.getLsbD j := by
  obtain e | ⟨v, e⟩ := f.written_eq_self_or_put a w old
  · rw [e]
  · rw [e, Fld.getLsbD_put_outside _ _ _ (by simp only [FieldDef.at]; omega)]

/-- What the writes of several fields leave of a field that shares no bit with them. -/
theorem get_foldl_written_apart {l : List FieldDef} {g : FieldDef} (a : Nat) (w : Word) (hg : g.lo ≤ g.hi)
    (h : ∀ f ∈ l, (f.hi < g.lo ∨ g.hi < f.lo) ∧ f.lo ≤ f.hi) (old : Word) :
    (g.at a).get (l.foldl (fun x f => f.written a w x) old) = (g.at a).get old := by
  induction l generalizing old with
  | nil => rfl
  | cons f l ih =>
    obtain ⟨hf, hl⟩ := List.forall_mem_cons.1 h
    rw [List.foldl_cons, ih hl, FieldDef.get_written_apart a w old hf.1 hf.2 hg]

theorem getLsbD_foldl_written_outside {l : List FieldDef} (a : Nat) (w : Word) {j : Nat}
    (h : ∀ f ∈ l, j < f.lo ∨ f.hi < j) (old : Word) :
    (l.foldl (fun x f => f.written a w x) old).getLsbD j = old.getLsbD j := by
  induction l generalizing old with
  | nil => rfl
  | cons f l ih =>
    obtain ⟨hf, hl⟩ := List.forall_mem_cons.1 h
    rw [List.foldl_cons, ih hl, FieldDef.getLsbD_written_outside a w old hf]

/-- On a row whose fields share no bits, the writes of all fields act on each by its type. -/
theorem RegRow.actsByType_foldl {r : RegRow} {f : FieldDef} (hr : r.laidOut) (hf : f ∈ r.fields) (a : Nat) (w old : Word) :
    f.actsByType a w old (r.fields.foldl (fun x f => f.written a w x) old) := by
  obtain ⟨hin, happ⟩ := hr
  obtain ⟨l, m, e⟩ := List.append_of_mem hf
  rw [e] at hin happ ⊢
  obtain ⟨-, hm, hl⟩ := List.pairwise_append.1 happ
  have hl' : ∀ g ∈ l, (g.hi < f.lo ∨ f.hi < g.lo) ∧ g.lo ≤ g.hi := fun g hg =>
    ⟨hl g hg f (by simp), (hin g (by simp [hg])).1⟩
  have hm' : ∀ g ∈ m, (g.hi < f.lo ∨ f.hi < g.lo) ∧ g.lo ≤ g.hi := fun g hg =>
    ⟨(List.rel_of_pairwise_cons hm hg).symm, (hin g (by simp [hg])).1⟩
  have hfin := hin f (by simp)
  rw [List.foldl_append, List.foldl_cons]
  exact FieldDef.actsByType_congr (get_foldl_written_apart a w hfin.1 hl' old).symm
    (get_foldl_written_apart a w hfin.1 hm' _) (FieldDef.actsByType_written a w _ hfin)

theorem regWritten_of_regRow {a i : Nat} {r : RegRow} (w old : Word) (h : regRow a = some (r, i)) :
    regWritten a w old = r.fields.foldl (fun x f => f.written a w x) old := by
  simp only [regWritten, h]

/-! Which write goes through, and where it causes nothing else -/

/-- The only lock of the register map is that of PERF_ACCESS (R14). -/
theorem State.lockedWrite_of_ne {s : State} {a : Nat} {w : Word} (h : a ≠ Reg.PERF_ACCESS_A) :
    s.lockedWrite a w = false := by
  simp [State.lockedWrite, h]

theorem execRegisterWrite_bad {a w : Word} {s : State} (h : badAddress a.toNat = true) :
    execRegisterWrite a w s = .next s := by
  simp [execRegisterWrite, h]

/-- A write to a register whose die has power, and that no lock refuses, is made. -/
theorem execRegisterWrite_ok {a w : Word} {s : State} (hb : badAddress a.toNat = false)
    (hl : s.lockedWrite a.toNat w = false) (hp : onPowerDie a.toNat = true → s.nib.on = true)
    (hh : onPowerDie a.toNat = false → s.hubOn = true) : execRegisterWrite a w s = .next (s.writeReg a.toNat w) := by
  have hon : (if onPowerDie a.toNat then s.nib.on else s.hubOn) = true := by
    cases h : onPowerDie a.toNat with
    | false => simpa using hh h
    | true => simpa using hp h
  simp only [execRegisterWrite, hb, hl, hon, Bool.or_self, Bool.not_true, Bool.false_eq_true, if_false]

/-- The hub die runs on the power die's power. -/
theorem State.nib_on_of_hubOn {s : State} (h : s.hubOn = true) : s.nib.on = true := by
  simp only [State.hubOn, Bool.and_eq_true] at h
  exact h.1

/-- The blocks whose registers cause nothing beyond their own fields. -/
theorem State.writeReg_plain {s : State} {a : Nat} {w : Word}
    (h : a / 0x10000 ∈ [0x00, 0x01, 0x10, 0x12, 0x20, 0x62, 0xA0, 0xB0, 0xB1, 0xC0]) :
    s.writeReg a w = s.plainWrite a w := by
  simp only [List.mem_cons, List.not_mem_nil, or_false] at h
  rcases h with h | h | h | h | h | h | h | h | h | h <;> simp only [State.writeReg, h]

/-- REGISTER_WRITE in such a block leaves the written word in that register and everything else as it was (R15, R17). -/
theorem execRegisterWrite_plain {a w : Word} {s : State} (hs : s.hubOn = true) (hb : badAddress a.toNat = false)
    (ha : a.toNat / 0x10000 ∈ [0x00, 0x01, 0x10, 0x12, 0x20, 0x62, 0xA0, 0xB0, 0xB1, 0xC0]) :
    execRegisterWrite a w s = .next (s.setReg a.toNat (regWritten a.toNat w (s.reg a.toNat))) := by
  have hne : a.toNat ≠ Reg.PERF_ACCESS_A := fun e => absurd (e ▸ ha) (by decide)
  rw [execRegisterWrite_ok hb (State.lockedWrite_of_ne hne) (fun _ => s.nib_on_of_hubOn hs) (fun _ => hs),
    State.writeReg_plain ha]
  rfl

/-! The register commands -/

theorem State.readStatus_of_bad {s : State} {r : Request} {a : Nat} (h : badAddress a = true) :
    s.readStatus r a = Status.badAddress := if_pos h

theorem State.writeStatus_of_bad {s : State} {r : Request} {a : Nat} {w : Word} (h : badAddress a = true) :
    s.writeStatus r a w = Status.badAddress := if_pos h

/-- The check of REG_READ's COUNT and of REG_POLL's TIMEOUT passes the numbers from 1 to the largest allowed. -/
theorem inRange_iff {n top : Nat} : ¬(n == 0 || decide (top < n)) = true ↔ 1 ≤ n ∧ n ≤ top := by
  simp only [Bool.or_eq_true, beq_iff_eq, decide_eq_true_eq]
  omega

/-- The first refusal among `n` registers where each may be read. -/
theorem find?_status_eq_none {f : Nat → Nat} {n : Nat} (h : ∀ i, i < n → f i = 0) :
    ((List.range n).map f).find? (· != 0) = none := by
  rw [List.find?_eq_none]
  intro c hc
  obtain ⟨i, hi, rfl⟩ := List.mem_map.1 hc
  simp [h i (List.mem_range.1 hi)]

/-- The first refusal among `n` registers where the first may not be read. -/
theorem find?_status_eq_first {f : Nat → Nat} {n : Nat} (hn : 1 ≤ n) (h : f 0 ≠ 0) :
    ((List.range n).map f).find? (· != 0) = some (f 0) := by
  obtain ⟨m, rfl⟩ := Nat.exists_eq_add_of_le' hn
  simp [List.range_succ_eq_map, h]

/-- A first word that is refused ends REG_WRITE with nothing written. -/
theorem State.writeWords_refused {s : State} {r : Request} {a k : Nat} {w : Word} (l : List Word)
    (h : s.writeStatus r a w ≠ Status.ok) : s.writeWords r a (w :: l) k = (s, s.writeStatus r a w, k) := by
  rw [State.writeWords, if_pos (bne_iff_ne.2 h)]

section

variable {s : State} {r : Request}

/-- REG_READ of 1 to 256 registers that all may be read. -/
theorem execRegRead_ok (h : s.passes 0x0310 r = true) (hl : 6 ≤ r.pkt.params.length) (h1 : 1 ≤ leAt r.pkt.params 4 2)
    (h256 : leAt r.pkt.params 4 2 ≤ 256) (hr : ∀ i, i < leAt r.pkt.params 4 2 →
      (s.begun 0x0310 r).readStatus (asked 0x0310 r) (leAt r.pkt.params 0 4 + 4 * i) = 0) :
    execRegRead r s = .next (((s.begun 0x0310 r).readTakes (leAt r.pkt.params 0 4) (leAt r.pkt.params 4 2)).answered
      (s.begun 0x0310 r) 0x0310 r 0
      ((s.begun 0x0310 r).readWords (leAt r.pkt.params 0 4) (leAt r.pkt.params 4 2))) := by
  refine runCommand_takes_request h hl ?_
  rw [if_neg (inRange_iff.2 ⟨h1, h256⟩), find?_status_eq_none hr]
  rfl

/-- REG_READ whose first register may not be read. -/
theorem execRegRead_refused {c : Nat} (h : s.passes 0x0310 r = true) (hl : 6 ≤ r.pkt.params.length)
    (h1 : 1 ≤ leAt r.pkt.params 4 2) (h256 : leAt r.pkt.params 4 2 ≤ 256)
    (hc : (s.begun 0x0310 r).readStatus (asked 0x0310 r) (leAt r.pkt.params 0 4) = c) (h0 : c ≠ 0) :
    execRegRead r s = .next ((s.begun 0x0310 r).answered (s.begun 0x0310 r) 0x0310 r c []) := by
  subst hc
  refine runCommand_takes_request h hl ?_
  rw [if_neg (inRange_iff.2 ⟨h1, h256⟩), find?_status_eq_first h1 h0]
  rfl

/-- REG_WRITE of 1 to 256 words answers what the writes in ascending order come to. -/
theorem execRegWrite_words (h : s.passes 0x0311 r = true) (h1 : 1 ≤ leAt r.pkt.params 4 2)
    (h256 : leAt r.pkt.params 4 2 ≤ 256) (hl : 8 + 4 * leAt r.pkt.params 4 2 ≤ r.pkt.params.length)
    {x : State × Nat × Nat} (hx : x = (s.begun 0x0311 r).writeWords (asked 0x0311 r) (leAt r.pkt.params 0 4)
      ((List.range (leAt r.pkt.params 4 2)).map fun i => BitVec.ofNat 32 (leAt r.pkt.params (8 + 4 * i) 4)) 0) :
    execRegWrite r s = .next (x.1.answered (s.begun 0x0311 r) 0x0311 r x.2.1 (le 2 x.2.2 ++ [0, 0])) := by
  have hn : ¬(decide (r.pkt.params.length < 8) || leAt r.pkt.params 4 2 == 0 || decide (256 < leAt r.pkt.params 4 2) ||
      decide (r.pkt.params.length < 8 + 4 * leAt r.pkt.params 4 2)) = true := by
    simp only [Bool.or_eq_true, beq_iff_eq, decide_eq_true_eq]
    omega
  subst hx
  refine runCommand_reply h ?_
  exact if_neg hn

/-- REG_WRITE whose first register may not be written: WRITTEN is 0. -/
theorem execRegWrite_refused {c : Nat} (h : s.passes 0x0311 r = true) (h1 : 1 ≤ leAt r.pkt.params 4 2)
    (h256 : leAt r.pkt.params 4 2 ≤ 256) (hl : 8 + 4 * leAt r.pkt.params 4 2 ≤ r.pkt.params.length)
    (hc : ∀ w, (s.begun 0x0311 r).writeStatus (asked 0x0311 r) (leAt r.pkt.params 0 4) w = c) (h0 : c ≠ 0) :
    execRegWrite r s = .next ((s.begun 0x0311 r).answered (s.begun 0x0311 r) 0x0311 r c [0, 0, 0, 0]) := by
  have hle : le 2 0 ++ [0, 0] = ([0, 0, 0, 0] : Bytes) := by decide
  obtain ⟨n, hn⟩ := Nat.exists_eq_add_of_le' h1
  have hx : (s.begun 0x0311 r, c, 0) = (s.begun 0x0311 r).writeWords (asked 0x0311 r) (leAt r.pkt.params 0 4)
      ((List.range (leAt r.pkt.params 4 2)).map fun i => BitVec.ofNat 32 (leAt r.pkt.params (8 + 4 * i) 4)) 0 := by
    rw [hn, List.range_succ_eq_map, List.map_cons, State.writeWords_refused _ (by rw [hc]; exact h0), hc]
  rw [execRegWrite_words h h1 h256 hl hx, hle]

/-- REG_MODIFY of a register that may be read and may be written so. -/
theorem execRegModify_ok {a : Nat} {m v w : Word} (h : s.passes 0x0312 r = true) (hl : 12 ≤ r.pkt.params.length)
    (ha : a = leAt r.pkt.params 0 4) (hm : m = BitVec.ofNat 32 (leAt r.pkt.params 4 4))
    (hv : v = BitVec.ofNat 32 (leAt r.pkt.params 8 4))
    (hw : w = (((s.begun 0x0312 r).regView a &&& ~~~m) ||| (v &&& m)) &&& ~~~(w1cMask a &&& ~~~m))
    (hr : (s.begun 0x0312 r).readStatus (asked 0x0312 r) a = 0)
    (hs : (s.begun 0x0312 r).writeStatus (asked 0x0312 r) a w = 0) :
    execRegModify r s = .next (((s.begun 0x0312 r).writeReg a w).answered (s.begun 0x0312 r) 0x0312 r 0
      (le 4 w.toNat)) := by
  subst ha hm hv
  refine runCommand_takes_request h hl ?_
  simp only [hr, ← hw, hs]
  rfl

/-- REG_MODIFY of a register that may not be read. -/
theorem execRegModify_refused {c : Nat} (h : s.passes 0x0312 r = true) (hl : 12 ≤ r.pkt.params.length)
    (hc : (s.begun 0x0312 r).readStatus (asked 0x0312 r) (leAt r.pkt.params 0 4) = c) (h0 : c ≠ 0) :
    execRegModify r s = .next ((s.begun 0x0312 r).answered (s.begun 0x0312 r) 0x0312 r c []) := by
  subst hc
  refine runCommand_takes_request h hl ?_
  exact if_pos (bne_iff_ne.2 h0)

/-- REG_POLL of a register that matches answers at once. -/
theorem execRegPoll_match {a : Nat} (h : s.passes 0x0313 r = true) (hl : 16 ≤ r.pkt.params.length)
    (ha : a = leAt r.pkt.params 0 4) (h1 : 1 ≤ leAt r.pkt.params 12 2) (h2 : leAt r.pkt.params 12 2 ≤ 1000)
    (hr : (s.begun 0x0313 r).readStatus (asked 0x0313 r) a = 0)
    (hm : (s.begun 0x0313 r).regView a &&& BitVec.ofNat 32 (leAt r.pkt.params 4 4) =
      BitVec.ofNat 32 (leAt r.pkt.params 8 4)) :
    execRegPoll r s = .next ((s.begun 0x0313 r).answered (s.begun 0x0313 r) 0x0313 r 0
      (le 4 ((s.begun 0x0313 r).regView a).toNat)) := by
  subst ha
  refine runCommand_takes_request h hl ?_
  rw [if_neg (inRange_iff.2 ⟨h1, h2⟩), hr, if_neg (by decide)]
  exact if_pos (by simpa using hm)

/-- REG_POLL of a register that does not match yet waits. -/
theorem execRegPoll_wait {a : Nat} (h : s.passes 0x0313 r = true) (hl : 16 ≤ r.pkt.params.length)
    (ha : a = leAt r.pkt.params 0 4) (h1 : 1 ≤ leAt r.pkt.params 12 2) (h2 : leAt r.pkt.params 12 2 ≤ 1000)
    (hr : (s.begun 0x0313 r).readStatus (asked 0x0313 r) a = 0)
    (hm : (s.begun 0x0313 r).regView a &&& BitVec.ofNat 32 (leAt r.pkt.params 4 4) ≠
      BitVec.ofNat 32 (leAt r.pkt.params 8 4)) :
    execRegPoll r s = .next ((s.begun 0x0313 r).withCmd fun c => { c with
      poll := some { req := asked 0x0313 r, addr := a, mask := BitVec.ofNat 32 (leAt r.pkt.params 4 4),
                     value := BitVec.ofNat 32 (leAt r.pkt.params 8 4),
                     deadline := (s.begun 0x0313 r).mer.raw + rawOfNs (1000 * leAt r.pkt.params 12 2) } }) := by
  subst ha
  refine runCommand_takes_later h hl ?_
  rw [if_neg (inRange_iff.2 ⟨h1, h2⟩), hr, if_neg (by decide)]
  exact if_neg (by simpa using hm)

end

end Sys2Proof.Machine

open Sys2Proof.Machine

/-- Settles O54: the address check comes before every effect of the four accesses. -/
theorem badAddressRefused : Obligations.BadAddressRefused := by
  unfold Obligations.BadAddressRefused
  refine ⟨?read, ?write, ?modify, fun s a w hb => execRegisterWrite_bad hb, badAddress_iff⟩
  case read =>
    rintro s _ r h rfl hl h1 h256 hb
    exact execRegRead_refused h hl h1 h256 (State.readStatus_of_bad hb) (by decide)
  case write =>
    rintro s _ r h rfl h1 h256 hl hb
    exact execRegWrite_refused h h1 h256 hl (fun w => State.writeStatus_of_bad hb) (by decide)
  case modify =>
    rintro s _ r h rfl hl hb
    exact execRegModify_refused h hl (State.readStatus_of_bad hb) (by decide)

/-- Settles O55: no two fields of a register share a bit, so the writes of its fields do not meet. -/
theorem registerFieldTypes : Obligations.RegisterFieldTypes := by
  unfold Obligations.RegisterFieldTypes
  refine ⟨?fields, ?reserved, fun s a w hs hb ha => execRegisterWrite_plain hs hb ha⟩
  case fields =>
    intro a i r f w old h hf
    rw [regWritten_of_regRow w old h]
    exact RegRow.actsByType_foldl (laidOut_of_regRow h) hf a w old
  case reserved =>
    intro a i j r w old h hj
    rw [regWritten_of_regRow w old h, getLsbD_foldl_written_outside a w hj]

/-- Settles O10, a command at a time. -/
theorem registerCommands : Obligations.RegisterCommands := by
  unfold Obligations.RegisterCommands
  refine ⟨?read, ?write, ?modify, ?pollMatch, ?pollWait, fun s a w hb hl hp hh => execRegisterWrite_ok hb hl hp hh⟩
  case read =>
    rintro s _ r _ _ h rfl hl rfl rfl h1 h256 hr
    exact execRegRead_ok h hl h1 h256 hr
  case write =>
    rintro s _ r _ x h rfl rfl h1 h256 hl hx
    exact execRegWrite_words h h1 h256 hl hx
  case modify =>
    rintro s _ r a m v w h rfl hl ha hm hv hw hr hs
    exact execRegModify_ok h hl ha hm hv hw hr hs
  case pollMatch =>
    rintro s _ r a h rfl hl ha h1 h2 hr hm
    exact execRegPoll_match h hl ha h1 h2 hr hm
  case pollWait =>
    rintro s _ r a _ h rfl hl ha h1 h2 hr hm rfl
    exact execRegPoll_wait h hl ha h1 h2 hr hm

end

section
/-!
PROOFS. The basic, session and position commands (R4, R67 to R78, R193): what each answers once its own checks pass.
-/

namespace Sys2Proof.Machine

variable {s : State} {r : Request}

theorem handles_contains {h : Nat} (hh : h ∈ handles) : handles.contains h = true := List.contains_iff_mem.2 hh

theorem execNop_ok (h : s.passes 0x0100 r = true) :
    execNop r s = .next ((s.begun 0x0100 r).answered (s.begun 0x0100 r) 0x0100 r 0 r.pkt.params) :=
  runCommand_reply h rfl

theorem execIdentify_ok (h : s.passes 0x0101 r = true) :
    execIdentify r s = .next ((s.begun 0x0101 r).answered (s.begun 0x0101 r) 0x0101 r 0
      (identifyReply (s.begun 0x0101 r))) :=
  runCommand_reply h rfl

theorem execJobStatus_found {j : Job} (h : s.passes 0x0106 r = true) (hl : 4 ≤ r.pkt.params.length)
    (hj : (s.begun 0x0106 r).cmd.jobs.find? (fun k => k.num == leAt r.pkt.params 0 1) = some j) :
    execJobStatus r s = .next ((s.begun 0x0106 r).answered (s.begun 0x0106 r) 0x0106 r 0
      ([byte j.num, 0] ++ le 2 j.opcode)) := by
  refine runCommand_takes h hl ?_
  simp only [hj]
  rfl

/-- OPEN_SESSION with a key that may be used for it and a free handle (R71). -/
theorem execOpenSession_ok {k : KeySlot} {n : Nat} (h : s.passes 0x0200 r = true) (hl : 20 ≤ r.pkt.params.length)
    (hslot : leAt r.pkt.params 0 1 ≤ 63) (hworld : leAt r.pkt.params 1 1 ≤ 1)
    (hk : (s.begun 0x0200 r).keyFor (leAt r.pkt.params 0 1) 0 (masterBit r.via) (leAt r.pkt.params 1 1) = .ok k)
    (hf : (s.begun 0x0200 r).freeHandle = some n) (hd : (s.begun 0x0200 r).ink.drbgBad = false) :
    execOpenSession r s = .next
      ((((s.begun 0x0200 r).draw 16).2.setSession n
        { phase := .halfOpen, via := r.via, world := leAt r.pkt.params 1 1, slot := leAt r.pkt.params 0 1,
          nc := slice r.pkt.params 4 16, nd := ((s.begun 0x0200 r).draw 16).1, slotKey := k.key }).answered
        (s.begun 0x0200 r) 0x0200 r 0 ([byte n, 0, 0, 0] ++ ((s.begun 0x0200 r).draw 16).1 ++
          hmac k.key (ascii "GXDEV" ++ slice r.pkt.params 4 16 ++ ((s.begun 0x0200 r).draw 16).1 ++ [byte n]))) := by
  have hp : ¬(decide (leAt r.pkt.params 0 1 > 63) || decide (leAt r.pkt.params 1 1 > 1)) = true := by
    simp only [Bool.or_eq_true, decide_eq_true_eq]
    omega
  refine runCommand_takes_request h hl ?_
  simp only [hp, asked_via, hk, hf, hd, Bool.false_eq_true, if_false]
  rfl

/-- SESSION_PROVE on a half-open session of its transport is judged by the proof it carries (R71, R72). -/
theorem sessionProveBody_halfOpen {q : Request} {u : State} {x : Session} (hx : x = u.session q.pkt.session)
    (hh : q.pkt.session ∈ handles) (hph : x.phase = .halfOpen) (hv : x.via = q.via) :
    sessionProveBody q u =
      if q.pkt.params.take 32 = hmac x.slotKey (ascii "GXHOST" ++ x.nd ++ x.nc ++ [byte q.pkt.session]) then
        .later (((u.setSession q.pkt.session
          { x with phase := .opened, key := hmac x.slotKey (ascii "GXSES" ++ x.nc ++ x.nd), keptSeq := q.pkt.seq,
                   keptProve := true }).count 0x2E0).answer q Status.ok)
      else .reply (u.closeSession q.pkt.session 5) Status.authFail [] := by
  subst hx
  simp only [sessionProveBody, List.contains_iff_mem.2 hh, hph, hv, beq_self_eq_true, Bool.and_self, Bool.not_true,
    Bool.false_eq_true, if_false, beq_iff_eq]

/-- OPEN_SESSION_PW that passes its checks starts the derivation (R75). -/
theorem openSessionPwBody_ok {q : Request} {u : State} {n k : Nat} (hv : q.via = .usbs)
    (hpw : u.nv.password.isSome = true) (hpart : u.nv.pwPartial = false) (hn : n = leAt q.pkt.params 16 1) (h1 : 1 ≤ n)
    (h64 : n ≤ 64) (hl : q.pkt.params.length = 17 + n) (hlock : u.nib.lockout = false) (hf : u.freeHandle = some k)
    (hd : u.ink.drbgBad = false) (hder : u.cmd.derivation = none) :
    openSessionPwBody q u = .later (u.withCmd fun c =>
      { c with derivation := some { req := q, nc := slice q.pkt.params 0 16, password := slice q.pkt.params 17 n } }) := by
  have hno : (u.nv.password.isNone || u.nv.pwPartial) = false := by
    rw [hpart, Bool.or_false, ← Option.not_isSome, hpw, Bool.not_true]
  have hlen : (decide (q.pkt.params.length < 17) || decide (n < 1) || decide (n > 64) ||
      q.pkt.params.length != 17 + n) = false := by
    simp only [Bool.or_eq_false_iff, decide_eq_false_iff_not, bne_eq_false_iff_eq]
    omega
  subst hn
  simp only [openSessionPwBody, hv, hno, hlen, hlock, hf, hd, hder, bne_self_eq_false, Option.isSome_none,
    Bool.false_eq_true, if_false]
  rfl

/-- CLOSE_SESSION of a session of its own transport (R74). -/
theorem execCloseSession_ok {n : Nat} (h : s.passes 0x0203 r = true) (hl : 4 ≤ r.pkt.params.length)
    (hn : n = leAt r.pkt.params 0 1) (hh : n ∈ handles) (hph : ((s.begun 0x0203 r).session n).phase ≠ .free)
    (hv : ((s.begun 0x0203 r).session n).via = r.via) :
    execCloseSession r s = .next (((s.begun 0x0203 r).setSession n {}).answered (s.begun 0x0203 r) 0x0203 r 0 []) := by
  subst hn
  refine runCommand_takes_request h hl (if_pos ?_)
  simp only [List.contains_iff_mem.2 hh, bne_iff_ne.2 hph, hv, asked_via, beq_self_eq_true, Bool.and_self]

theorem execSessionList_ok (h : s.passes 0x0204 r = true) :
    execSessionList r s = .next ((s.begun 0x0204 r).answered (s.begun 0x0204 r) 0x0204 r 0
      (handles.flatMap fun h => sessionEntry ((s.begun 0x0204 r).session h))) :=
  runCommand_reply h rfl

/-- POSITION_SET ASSIGN at the root sends position 1 on TRK0, and the reply waits (R193). -/
theorem execPositionSetAssign_root {q : Request} (hq : q = requestWithByte r 0 0) (h : s.passes 0x0107 q = true)
    (hr : (s.begun 0x0107 q).isRoot = true) :
    execPositionSetAssign r s = .next (((s.begun 0x0107 q).sendAssign 0 1).withTun fun n =>
      { n with assignWaiters := n.assignWaiters ++ [asked 0x0107 q] }) := by
  subst hq
  exact runCommand_later h (if_neg (by rw [hr]; decide))

/-- POSITION_SET CLEAR at a root without host tunnels (R193). -/
theorem execPositionSetClear_root {q : Request} (hq : q = requestWithByte r 0 1) (h : s.passes 0x0107 q = true)
    (hr : (s.begun 0x0107 q).isRoot = true) (ht : (s.begun 0x0107 q).hostTunnels = false)
    (hd : (s.begun 0x0107 q).ink.drbgBad = false) :
    execPositionSetClear r s = .next (((((s.begun 0x0107 q).floodClear 0).applyClear 0).withTun fun n =>
      { n with announced := [],
               assignDue := (((s.begun 0x0107 q).floodClear 0).applyClear 0).setting 0x0003 == 1 }).answered
      (s.begun 0x0107 q) 0x0107 q 0 []) := by
  subst hq
  refine runCommand_reply h ?_
  rw [hr, if_neg (by decide), ht, if_neg (by decide), hd]
  exact if_neg (by decide)

end Sys2Proof.Machine

open Sys2Proof Sys2Proof.Machine

/-- Settles O8, a command at a time. -/
theorem sessionCommands : Obligations.SessionCommands := by
  unfold Obligations.SessionCommands
  refine ⟨?nop, ?identify, ?jobStatus, ?openSession, ?proveRight, ?proveWrong, ?openPw, ?closeSession, ?sessionList,
    ?assign, ?clear⟩
  case nop => rintro s _ r h rfl; exact execNop_ok h
  case identify => rintro s _ r h rfl; exact execIdentify_ok h
  case jobStatus => rintro s _ r j h rfl hl hj; exact execJobStatus_found h hl hj
  case openSession => rintro s _ r k n h rfl hl hs hw hk hf hd; exact execOpenSession_ok h hl hs hw hk hf hd
  case proveRight =>
    rintro s _ r _ x h rfl rfl hx hh hph hv hp
    exact runCommand_later h ((sessionProveBody_halfOpen (q := asked 0x0201 r) hx hh hph hv).trans (if_pos hp))
  case proveWrong =>
    rintro s _ r _ x h rfl rfl hx hh hph hv hp
    exact runCommand_reply h ((sessionProveBody_halfOpen (q := asked 0x0201 r) hx hh hph hv).trans (if_neg hp))
  case openPw =>
    rintro s _ r n k h rfl hv hpw hpart hn h1 h64 hl hlock hf hd hder
    exact runCommand_later h (openSessionPwBody_ok (q := asked 0x0202 r) hv hpw hpart hn h1 h64 hl hlock hf hd hder)
  case closeSession => rintro s _ r n h rfl hl hn hh hph hv; exact execCloseSession_ok h hl hn hh hph hv
  case sessionList => rintro s _ r h rfl; exact execSessionList_ok h
  case assign => rintro s _ r q h rfl hq hr; exact execPositionSetAssign_root hq h hr
  case clear => rintro s _ r q h rfl hq hr ht hd; exact execPositionSetClear_root hq h hr ht hd

end

section
/-!
PROOFS. Reset, start-up, the ROM and the hub-die resets (R18, R24, R29, R33, R526, R549 to R551, R589, R598, R654).
-/

namespace Sys2Proof.Machine

/-- A hub-die row on a hub die that runs. -/
theorem onHub_on {s : State} (f : State → State) (h : s.hubOn = true) : onHub f s = .next (f s) := by
  simp only [onHub, h, if_true]

/-- A power-die row on a power die that runs. -/
theorem onNib_on {s : State} (f : State → State) (h : s.nib.on = true) : onNib f s = .next (f s) := by
  simp only [onNib, h, if_true]

/-! Leaving reset -/

/-- FORCE_REC strapped takes the ROM into RECOVERY with reason 1 (R2, R526, R600). -/
theorem execHubResetRelease_forced {s : State} {role forceRec mgmtMode : BitVec 7} (hn : s.nib.on = true)
    (hs : s.nib.stage = .held) (hf : majority forceRec = true) :
    execHubResetRelease role forceRec mgmtMode s = .next
        (((((((((({ s with pins := { s.pins with mgmtI2c := majority mgmtMode } }.put Reg.SYS_MODE_ROLE (majority role)).put
          Reg.SYS_MODE_FORCE_REC true).put Reg.SYS_MODE_INTAKE_OK s.intakeOk).withNib fun n => { n with stage := .rom }).wr
          Reg.PWR_STAT_SEQ 2).loadOtp).poolReset).laneRole).pcieRole).usbsAttach.enterRecovery 1) := by
  rw [execHubResetRelease, onNib_on _ hn, if_neg (by simp [hs]), hf]
  rfl

/-- The image's sections that pass their check run, and the settings are read (R589). -/
theorem execImageAuthenticated_good {s : State} {b : Bytes} (hn : s.hubOn = true) (hs : s.nib.stage = .rom)
    (hb : s.imagePlain s.fw.slot = some b) :
    execImageAuthenticated true s = .next (((s.runImage s.fw.slot s.fw.trial b).withNib fun n =>
      { n with stage := .scribe }).readSettings) := by
  rw [execImageAuthenticated, onHub_on _ hn, if_neg (by simp [hs]), hb]
  rfl

/-- A section that fails its check ends the start, whether or not the slot still holds an image. -/
theorem execImageAuthenticated_bad {s : State} (hn : s.hubOn = true) (hs : s.nib.stage = .rom) :
    execImageAuthenticated false s = .next (s.hubReset 0x07 0x01) := by
  rw [execImageAuthenticated, onHub_on _ hn, if_neg (by simp [hs])]
  cases s.imagePlain s.fw.slot <;> rfl

theorem execBootComplete_bad {s : State} (failed : List Nat) (hn : s.hubOn = true) (hs : s.nib.stage = .scribe) :
    execBootComplete false failed s = .next (s.hubReset 0x07 0x01) := by
  rw [execBootComplete, onHub_on _ hn, if_neg (by simp [hs])]
  rfl

/-! Resets -/

/-- A first watchdog expiry forces a hitless restart (R551). -/
theorem execWatchdogExpiry_first {s : State} (hn : s.hubOn = true) (hs : s.serving = true) (hm : s.mode ≠ 0)
    (hw : s.nib.watchdogAt = none) :
    execWatchdogExpiry s = .next (((s.withNib fun n => { n with watchdogAt := some s.mer.raw }).bump
      Reg.PWR_WDOG_HITLESS).beginRestart 1 s.fw.slot) := by
  rw [execWatchdogExpiry, onHub_on _ hn, hw]
  exact congrArg _ ((if_neg Bool.false_ne_true).trans (if_pos (by simp [hs, hm])))

/-- A second within 10 s is a hub-die reset (R551). -/
theorem execWatchdogExpiry_second {s : State} {t : Nat} (hn : s.hubOn = true) (hw : s.nib.watchdogAt = some t)
    (ht : s.mer.raw ≤ t + 10 * rawSecond) : execWatchdogExpiry s = .next (s.hubReset 0x06) := by
  rw [execWatchdogExpiry, onHub_on _ hn, hw]
  exact congrArg _ (if_pos (decide_eq_true ht))

theorem execFatalUnitError_unit {s : State} {u : Fin 9} (hn : s.hubOn = true) (hu : u ≠ 0) :
    execFatalUnitError u s = .next (s.hubReset 0x07 u) := by
  rw [execFatalUnitError, onHub_on _ hn, if_neg (by simpa [Fin.val_eq_zero_iff] using hu)]

/-- A single-bit error is corrected and counted (R29). -/
theorem execSramDoubleBitError_corrected {s : State} (m : Fin 8) (k : Nat) (hn : s.hubOn = true) :
    execSramDoubleBitError m false k s = .next (s.count (0x010 + m)) := by
  rw [execSramDoubleBitError, onHub_on _ hn]
  rfl

/-- A double-bit error outside Scribe's memory costs the item it hit, and no restart (R29). -/
theorem execSramDoubleBitError_item {s : State} {m : Fin 8} (k : Nat) (hn : s.hubOn = true) (hm : m ≠ 5) :
    execSramDoubleBitError m true k s = .next (((s.count (0x018 + m)).discardItem m k).notice 0x0301
      (le 2 (sramBlock m))) := by
  have hne : ¬(m.val == 5) = true := by
    rw [beq_iff_eq]
    exact fun e => hm (Fin.ext e)
  rw [execSramDoubleBitError, onHub_on _ hn, if_neg (by decide), if_neg (by simp [hne])]

/-- The first waiting action is taken when it is of the kind asked for and its reply has been handed over (R651). -/
theorem State.takeDeferred_head {s : State} {w : Waiting} {l : List Waiting} {p : Deferred → Bool}
    (hw : s.cmd.waiting = w :: l) (hh : w.handed = true) (hp : p w.act = true) :
    s.takeDeferred p = some (w.act, s.withCmd fun c => { c with waiting := l }) := by
  unfold State.takeDeferred
  rw [hw, List.find?_cons_of_pos (by rw [hh, hp]; rfl)]
  simp only [List.erase_cons_head]
  rfl

/-- RESET_TAKE_EFFECT with RESET's action, of TYPE `t`, at the head (R549, R550). -/
theorem execResetTakeEffect_head {s y : State} {v : Transport} {t : Nat} {l : List Waiting} (hn : s.hubOn = true)
    (hw : s.cmd.waiting = { via := v, act := .reset t, handed := true } :: l)
    (hy : y = s.withCmd fun c => { c with waiting := l }) :
    execResetTakeEffect s = .next (if t == 0 then y.hubReset 0x03
      else ((((y.abortEntry 0xFE).recordCause 0x04).channelRequestOff 2).channelRequestOff 3).railsDown .powerCycle) := by
  rw [execResetTakeEffect, onHub_on _ hn, State.takeDeferred_head hw rfl rfl, hy]

end Sys2Proof.Machine

open Sys2Proof Sys2Proof.Machine

/-- Settles O2, an event at a time. -/
theorem startAndResetEvents : Obligations.StartAndResetEvents := by
  unfold Obligations.StartAndResetEvents
  refine ⟨?release, ?authenticated, ?notAuthenticated, ?bootFailed, ?resetPin, ?watchdogFirst,
    ?watchdogSecond, ?fatal, ?linkFail, ?corrected, ?uncorrectable, ?hubDie, ?powerCycle, ?booted⟩
  case release => exact fun s role forceRec mgmtMode hn hs hf => execHubResetRelease_forced hn hs hf
  case authenticated =>
    intro s hn hs hi
    obtain ⟨b, hb⟩ := Option.isSome_iff_exists.1 hi
    exact ⟨b, hb, execImageAuthenticated_good hn hs hb⟩
  case notAuthenticated => exact fun s hn hs => execImageAuthenticated_bad hn hs
  case bootFailed => exact fun s failed hn hs => execBootComplete_bad failed hn hs
  case resetPin => exact fun s hn => onHub_on (fun s => s.hubReset 0x05) hn
  case watchdogFirst => exact fun s hn hs hm hw => execWatchdogExpiry_first hn hs hm hw
  case watchdogSecond => exact fun s t hn hw ht => execWatchdogExpiry_second hn hw ht
  case fatal => exact fun s u hn hu => execFatalUnitError_unit hn hu
  case linkFail => exact fun s hn => onHub_on (fun s => s.hubReset 0x08) hn
  case corrected => exact fun s m k hn => execSramDoubleBitError_corrected m k hn
  case uncorrectable => exact fun s m k hn hm => execSramDoubleBitError_item k hn hm
  case hubDie => exact fun s v l hn hw => (execResetTakeEffect_head hn hw rfl).trans (congrArg _ (if_pos rfl))
  case powerCycle =>
    exact fun s v l hn hw => (execResetTakeEffect_head hn hw rfl).trans (congrArg _ (if_neg Bool.false_ne_true))
  case booted =>
    intro s failed hn hs vr a b c d e f g h k
    change execBootComplete true failed s = _
    rw [execBootComplete, onHub_on _ hn, if_neg (by simp [hs])]
    rfl

/-- Settles O40: the state after reset holds no entry in any table, so every reading is the default's. -/
theorem resetState : Obligations.ResetState := by
  unfold Obligations.ResetState
  refine ⟨rfl, rfl, fun a => ⟨rfl, rfl⟩, ?mode, ?target, ?trans, ?queues, fun i => rfl, rfl, fun h => rfl, rfl, rfl⟩
  case mode => decide +kernel
  case target => decide +kernel
  case trans => decide +kernel
  case queues => decide +kernel

end

section
/-!
PROOFS. The checks of R50 from step 5 on: the replay rule, the mode and the access class (R45, R50, R52, R599).
-/

namespace Sys2Proof.Machine

/-- Every packet row's opcode stands in the opcode table (R78). -/
theorem opcodeAccess_packetOf (i : Instr) : (packetOf i).all (fun p => (opcodeAccess p.1).isSome) = true := by
  cases i <;> rfl

theorem opcodeAccess_of_packetOf {i : Instr} {op : Nat} {q : Request} (h : packetOf i = some (op, q)) :
    ∃ a, opcodeAccess op = some a := by
  have hk := opcodeAccess_packetOf i
  rw [h, Option.all_some] at hk
  exact Option.isSome_iff_exists.1 hk

namespace State

theorem session_of_openSession {s : State} {q : Request} {x : Session} (h : s.openSession q = some x) :
    s.session q.pkt.session = x := by
  unfold openSession at h
  split at h
  · exact Option.some.inj h
  · cases h

theorem freshSeq_of_openSession {s : State} {q : Request} {x : Session} (h : s.openSession q = some x) :
    s.freshSeq q = true ↔ q.pkt.seq ≠ x.keptSeq ∧ (q.pkt.seq + 65536 - x.keptSeq) % 65536 ≤ 32767 := by
  simp only [freshSeq, h, Bool.and_eq_true, bne_iff_ne, decide_eq_true_eq]

/-- A request taken on an open session makes its SEQ the kept one, with no reply kept yet, and ends a run of failed
tags (R52, R74). -/
theorem session_begun {s : State} {op : Nat} {q : Request} {x : Session} (h : s.openSession q = some x) :
    (s.begun op q).session q.pkt.session =
      { x with keptSeq := q.pkt.seq, keptProve := false, keptReply := [], authFails := 0 } := by
  have hc : (s.count (viaCode (asked op q).via)).openSession (asked op q) = some x := by
    simpa [openSession, session] using h
  simp only [begun, take, hc]
  exact session_setSession ..

/-! The branches of the pipeline -/

section

variable {s : State} {op : Nat} {q : Request} {x : Session} (body : Body)

/-- While Scribe restarts no packet is looked at (R45). -/
theorem command_restarting (hs : s.serving = true) (hr : s.cmd.restarting = true) :
    s.command op q body = s.refuse (asked op q) Status.busyRestart := by
  simp only [command, hs, hr, Bool.not_true, Bool.false_eq_true, if_false, if_true]
  rfl

/-- While a foreground command is under way the request queues (R65, R66). -/
theorem command_scribeBusy (hs : s.serving = true) (hr : s.cmd.restarting = false) (hb : s.scribeBusy = true) :
    s.command op q body = s.enqueue (asked op q) := by
  simp only [command, hs, hr, hb, Bool.not_true, Bool.false_eq_true, if_false, if_true]
  rfl

variable (hs : s.serving = true) (hr : s.cmd.restarting = false) (hb : s.scribeBusy = false)
  (hf : s.frameStatus (asked op q) = none)
include hs hr hb hf

/-- Past step 4, a request on an open session meets the replay rule (R50 step 5, R52). -/
theorem command_onSession (ho : s.openSession q = some x) :
    s.command op q body = if q.pkt.seq = x.keptSeq then s.resend (asked op q) x
      else if (q.pkt.seq + 65536 - x.keptSeq) % 65536 ≤ 32767 then (s.begun op q).execute op (asked op q) body
      else s.refuse (asked op q) Status.replay := by
  have ho' : s.openSession (requestWithOpcode q op) = some x := ho
  have hf' : s.frameStatus (requestWithOpcode q op) = none := hf
  simp only [command, hs, hr, hb, hf', ho', Bool.not_true, Bool.false_eq_true, if_false, beq_iff_eq]
  rfl

/-- Past step 4, a request on no session is taken, whatever its SEQ (R52). -/
theorem command_offSession (ho : s.openSession q = none) :
    s.command op q body = (s.begun op q).execute op (asked op q) body := by
  have ho' : s.openSession (requestWithOpcode q op) = none := ho
  have hf' : s.frameStatus (requestWithOpcode q op) = none := hf
  simp only [command, hs, hr, hb, hf', ho', Bool.not_true, Bool.false_eq_true, if_false]
  rfl

/-- The kept SEQ has the kept reply sent again, and nothing is executed (R52). -/
theorem command_resend (ho : s.openSession q = some x) (hq : q.pkt.seq = x.keptSeq) (hk : x.keptReply ≠ []) :
    s.command op q body = (s.setSession q.pkt.session { x with authFails := 0 }).deliver q.via x.keptReply := by
  rw [command_onSession body hs hr hb hf ho, if_pos hq, resend, if_neg (by simpa using hk)]
  rfl

/-- A SEQ that is neither the kept one nor a later one is refused (R52). -/
theorem command_replay (ho : s.openSession q = some x) (hq : q.pkt.seq ≠ x.keptSeq)
    (hl : 32767 < (q.pkt.seq + 65536 - x.keptSeq) % 65536) :
    s.command op q body = s.refuse (asked op q) Status.replay := by
  rw [command_onSession body hs hr hb hf ho, if_neg hq, if_neg (Nat.not_le.2 hl)]

/-- A later SEQ, or any on SESSION 0, is taken (R52). -/
theorem command_fresh (hq : s.freshSeq (asked op q) = true) :
    s.command op q body = (s.begun op q).execute op (asked op q) body := by
  cases ho : s.openSession q with
  | none => exact command_offSession body hs hr hb hf ho
  | some x =>
    obtain ⟨hne, hle⟩ := (freshSeq_of_openSession (q := asked op q) ho).1 hq
    rw [command_onSession body hs hr hb hf ho]
    exact (if_neg hne).trans (if_pos hle)

end

/-! Steps 7 and 8 -/

theorem execute_wrongMode {u : State} {op : Nat} {r : Request} {a : OpAccess} (body : Body)
    (ha : opcodeAccess op = some a) (hm : u.modeAllows op = false) :
    u.execute op r body = u.answerOn (u.openSession r) r Status.wrongMode [] := by
  simp only [execute, ha, hm, Bool.not_false, if_true]

theorem execute_accessRefused {u : State} {op c : Nat} {r : Request} {a : OpAccess} (body : Body)
    (ha : opcodeAccess op = some a) (hm : u.modeAllows op = true)
    (hc : u.accessStatus op a (u.openSession r) r = some c) :
    u.execute op r body = u.answerOn (u.openSession r) r c [] := by
  simp only [execute, ha, hm, hc, Bool.not_true, Bool.false_eq_true, if_false]

end State

end Sys2Proof.Machine

open Sys2Proof Sys2Proof.Machine

/-- Settles O45, a check at a time: every packet row runs the one pipeline (exec_packet). -/
theorem laterChecks : Obligations.LaterChecks := by
  unfold Obligations.LaterChecks
  refine ⟨?restarting, ?busy, ?resend, ?replay, ?wrongMode, ?access, ?taken⟩
  case restarting =>
    intro i op q s hi hs hr
    obtain ⟨body, he⟩ := exec_packet i hi
    rw [he, State.command_restarting body hs hr]
  case busy =>
    intro i op q s hi hs hr hb
    obtain ⟨body, he⟩ := exec_packet i hi
    rw [he, State.command_scribeBusy body hs hr hb]
  case resend =>
    intro i op q s x hi hs hr hb hf ho hq hk
    obtain ⟨body, he⟩ := exec_packet i hi
    rw [he, State.command_resend body hs hr hb hf ho hq hk]
  case replay =>
    intro i op q s x hi hs hr hb hf ho hq hl
    obtain ⟨body, he⟩ := exec_packet i hi
    rw [he, State.command_replay body hs hr hb hf ho hq hl]
  case wrongMode =>
    intro i op q s hi hs hr hb hf hq hm
    obtain ⟨body, he⟩ := exec_packet i hi
    obtain ⟨a, ha⟩ := opcodeAccess_of_packetOf hi
    rw [he, State.command_fresh body hs hr hb hf hq,
      State.execute_wrongMode body ha ((s.begun_modeAllows op q op).trans hm)]
    rfl
  case access =>
    intro i op q s a c hi hs hr hb hf hq hm ha hc
    obtain ⟨body, he⟩ := exec_packet i hi
    rw [he, State.command_fresh body hs hr hb hf hq,
      State.execute_accessRefused body ha ((s.begun_modeAllows op q op).trans hm) hc]
    rfl
  case taken =>
    intro s op q x ho
    exact ⟨State.freshSeq_of_openSession (q := asked op q) ho, State.session_begun ho⟩

end

section
/-!
PROOFS. The intake, TCS, wake and temperature rows (R39, R40, R528, R529, R536, R539, R541).
-/

namespace Sys2Proof.Machine

variable {s : State}

/-! Intake and TCS -/

/-- The intake leaves its window while it feeds the hub rails: the rails go down, and the recovery domain follows where
TCS allows it (R40, R528). -/
theorem execIntakeWindowLeave_powered {w a b : State} (vin : Nat) (reason : Fin 3) (hn : s.nib.on = true)
    (hi : s.intakeOk = true) (hoff : s.nib.stage ≠ .off) (hfall : s.nib.stage ≠ .falling) (ht : s.nib.onTcs = false)
    (hw : w = (s.intakeWindow false vin reason).put Reg.SYS_MODE_INTAKE_OK false)
    (ha : a = if w.tcsLevel then w.tcsSource true else w)
    (hb : b = ((a.abortEntry 0xFF).recordCause 0x0A).withNib fun n => { n with standbyCmd := false }) :
    execIntakeWindowLeave vin reason s =
      .next (if b.tcsLevel then b.railsDown .recoveryOnTcs else b.railsDown .standby) := by
  have hp : (s.nib.stage != .off && s.nib.stage != .falling && !s.nib.onTcs) = true := by simp [hoff, hfall, ht]
  rw [execIntakeWindowLeave, onNib_on _ hn]
  simp only [State.intakeLeave, hi, hp, Bool.not_true, Bool.false_eq_true, if_false, if_true, ← hw, ← ha, ← hb]

/-- In STANDBY, with no thermal hold, the INTAKE source that its mask enables wakes Damya (R529, R541). -/
theorem State.intakeWakes_enabled {a : State} (he : a.wakeEnabled 1 3 = true) (ht : a.nib.thermalHold = false) :
    a.intakeWakes = a.wakeStandby 3 false := by
  rw [State.intakeWakes, if_pos (by rw [he, ht]; rfl)]

/-- The intake enters its window in STANDBY (R529). -/
theorem execIntakeWindowEnter_standby {a : State} (vin : Nat) (hn : s.nib.on = true) (hi : s.intakeOk = false)
    (ha : a = ((s.intakeWindow true vin 0).put Reg.SYS_MODE_INTAKE_OK s.hubOn).tcsSource false)
    (ht : a.nib.onTcs = false) (hoff : a.nib.stage = .off) (hstart : a.nib.startDue = false)
    (hup : a.nib.upDue = false) : execIntakeWindowEnter vin s = .next a.intakeWakes := by
  have hw : (a.nib.stage == .off && !a.nib.startDue && !a.nib.upDue) = true := by simp [hoff, hstart, hup]
  rw [execIntakeWindowEnter, onNib_on _ hn]
  simp only [State.intakeEnter, hi, ← ha, ht, hw, Bool.false_eq_true, if_false, if_true]

theorem execTcsVbusLoss_alone (hn : s.nib.on = true) (hi : s.intakeOk = false) :
    execTcsVbusLoss s = .next (((((s.wr Reg.TCPD_TCS_STAT_STATE 0).wr Reg.TCPD_TCS_STAT_CONTRACT_MW 0).wr
      Reg.TCPD_TCS_STAT_RP_SEEN 3).wr Reg.TCPD_TCS_STAT_PDO 0).tcsLost) := by
  rw [execTcsVbusLoss, onNib_on _ hn, if_neg (by simp [hi])]

/-! Wakes -/

/-- A source fires in STANDBY with the intake in its window and nothing that holds the rails down (R539, R541). -/
theorem State.wake_standby {b : Nat} (hoff : s.nib.stage = .off) (hi : s.intakeOk = true)
    (he : s.wakeEnabled 1 b = true) (ht : s.nib.thermalHold = false) (hup : s.nib.upDue = false)
    (hstart : s.nib.startDue = false) : s.wake b = s.wakeStandby b false := by
  simp [State.wake, hoff, hi, he, ht, hup, hstart]

/-- WAKE_N is released: its level changes, and nothing fires (R539, R542). -/
theorem execWakeSourceFire_wakeN_released (hn : s.nib.on = true) :
    execWakeSourceFire 1 false s = .next { s with pins := { s.pins with wakeN := true } } :=
  onNib_on _ hn

/-- A source that has no ball of its own fires. -/
theorem execWakeSourceFire_other {b : Fin 14} (hn : s.nib.on = true) (hb : 2 ≤ b) :
    execWakeSourceFire b true s = .next (s.wake b) := by
  have hval : 2 ≤ b.val := hb
  have h0 : (b.val == 0) = false := beq_false_of_ne (by omega)
  have h1 : (b.val == 1) = false := beq_false_of_ne (by omega)
  rw [execWakeSourceFire, onNib_on _ hn]
  simp only [h0, h1, Bool.false_eq_true, if_false, if_true]

theorem execStandbyAlarmExpiry_off (hn : s.nib.on = true) (hoff : s.nib.stage = .off)
    (hs : s.rd Reg.PWR_ALARM_SECONDS ≠ 0) : execStandbyAlarmExpiry s = .next (s.wake 2) := by
  rw [execStandbyAlarmExpiry, onNib_on _ hn, if_pos (by simp [hoff, hs])]

/-! Temperature -/

section

variable {a : State} {tj : BitVec 8}

/-- A reading above WARN raises THERMAL once (R536). -/
theorem execThermalWarn_armed (hn : s.hubOn = true) (ha : a = s.tempRead tj) (ht : tj.toInt > a.warnLevel)
    (hw : a.nib.warnArmed = true) :
    execThermalWarn tj s = .next ((a.withNib fun n => { n with warnArmed := false }).notice 0x0804 [0, tj]) := by
  subst ha
  rw [execThermalWarn, onHub_on _ hn]
  exact congrArg _ (if_pos (by simp [ht, hw]))

theorem execThrottleOn_hot (hn : s.hubOn = true) (ha : a = s.tempRead tj) (ht : 125 ≤ tj.toInt)
    (he : a.flag Reg.CLK_TEMP_THROTTLE_EN = true) (ho : a.flag Reg.CLK_OP_THROTTLE = false) :
    execThrottleOn tj s = .next (((((a.put Reg.CLK_OP_THROTTLE true).count 0x2CA).notice 0x0804 [1, tj]).opChange
      2).opSettled) := by
  subst ha
  rw [execThrottleOn, onHub_on _ hn]
  exact congrArg _ (if_pos (by simp [ht, he, ho]))

theorem execThrottleOff_cool (hn : s.hubOn = true) (ha : a = s.tempRead tj) (ht : tj.toInt < 120)
    (ho : a.flag Reg.CLK_OP_THROTTLE = true) :
    execThrottleOff tj s = .next ((((a.put Reg.CLK_OP_THROTTLE false).notice 0x0804 [2, tj]).opChange 3).opSettled) := by
  subst ha
  rw [execThrottleOff, onHub_on _ hn]
  exact congrArg _ (if_pos (by simp [ht, ho]))

end

theorem execThermalShutdown_powered (hn : s.nib.on = true) (hoff : s.nib.stage ≠ .off) :
    execThermalShutdown s = .next ((((s.abortEntry 0xFE).recordCause 0x09).withNib fun n =>
      { n with thermalHold := true, standbyCmd := false }).railsDown .standby) := by
  rw [execThermalShutdown, onNib_on _ hn, if_neg (by simp [hoff])]

/-- Below 105 °C what the thermal hold kept waiting is served (R536, R541). -/
theorem execThermalPoll_cool {tj : BitVec 8} (hn : s.nib.on = true) (hoff : s.nib.stage = .off)
    (hh : s.nib.thermalHold = true) (ht : tj.toInt < 105) :
    execThermalPoll tj s = .next ((s.withNib fun n => { n with thermalHold := false }).servePending) := by
  rw [execThermalPoll, onNib_on _ hn, if_pos (by simp [hoff, hh, ht])]

end Sys2Proof.Machine

open Sys2Proof Sys2Proof.Machine

/-- Settles O3, an event at a time. -/
theorem intakeWakeAndThermalEvents : Obligations.IntakeWakeAndThermalEvents := by
  unfold Obligations.IntakeWakeAndThermalEvents
  refine ⟨?leave, ?enter, fun s hn hi => execTcsVbusLoss_alone hn hi, fun s hn => execWakeSourceFire_wakeN_released hn,
    ?source, ?alarm, ?warn, ?throttleOn, ?throttleOff, ?shutdown, ?poll⟩
  case leave =>
    intro s w a b vin reason hn hi hoff hfall ht hw ha hb
    exact execIntakeWindowLeave_powered vin reason hn hi hoff hfall ht hw ha hb
  case enter =>
    intro s a vin hn hi ha ht hoff hstart hup hh he
    exact (execIntakeWindowEnter_standby vin hn hi ha ht hoff hstart hup).trans
      (congrArg _ (State.intakeWakes_enabled he hh))
  case source =>
    intro s b hn hb hoff hi he hh hup hstart
    exact (execWakeSourceFire_other hn hb).trans (congrArg _ (State.wake_standby hoff hi he hh hup hstart))
  case alarm =>
    intro s hn hoff hs hi he hh hup hstart
    exact (execStandbyAlarmExpiry_off hn hoff hs).trans (congrArg _ (State.wake_standby hoff hi he hh hup hstart))
  case warn => exact fun s a tj hn ha ht hw => execThermalWarn_armed hn ha ht hw
  case throttleOn => exact fun s a tj hn ha ht he ho => execThrottleOn_hot hn ha ht he ho
  case throttleOff => exact fun s a tj hn ha ht ho => execThrottleOff_cool hn ha ht ho
  case shutdown => exact fun s hn hoff _ => execThermalShutdown_powered hn hoff
  case poll => exact fun s tj hn hoff hh ht => execThermalPoll_cool hn hoff hh ht

end

section
/-!
PROOFS. The mode, unit, reset, operating-point and SERVICE commands (R35, R41, R67, R538, R545 to R550): what each answers
once its own checks pass.
-/

namespace Sys2Proof.Machine

variable {s : State} {r : Request}

/-- A command that starts a job, while fewer than two run, answers STARTED with the job's number (R67). -/
theorem runCommand_startJob {u : State} {op : Nat} {k : JobKind} {body : Body} (h : s.passes op r = true)
    (he : u = s.begun op r) (hb : body (asked op r) u = u.startJob op k) (hj : u.cmd.jobs.length < 2) :
    runCommand op body r s = .next ((u.withCmd fun c =>
      { c with jobs := c.jobs ++ [{ num := c.lastJob % 255 + 1, opcode := op, kind := k }],
               lastJob := c.lastJob % 255 + 1 }).answered u op r 1 [byte (u.cmd.lastJob % 255 + 1), 0, 0, 0]) := by
  subst he
  exact runCommand_reply h (hb.trans (if_neg (Nat.not_le.2 hj)))

/-! Modes -/

/-- MODE_SET to RUN from IDLE (R41, R545). -/
theorem execModeSet_run (h : s.passes 0x0102 r = true) (hl : 4 ≤ r.pkt.params.length) (ht : leAt r.pkt.params 0 1 = 3)
    (hb : (s.begun 0x0102 r).flag Reg.SYS_MODE_TRANS = false) (hm : (s.begun 0x0102 r).mode = 2) :
    execModeSet r s = .next ((((s.begun 0x0102 r).startRun 0).opSettled).answered (s.begun 0x0102 r) 0x0102 r 0 []) := by
  refine runCommand_takes h hl ?_
  simp only [ht, hb, hm]
  rfl

/-- MODE_SET to STANDBY, and to IDLE from another mode, starts the ask phase (R41, R542). -/
theorem execModeSet_ask {t : Nat} (h : s.passes 0x0102 r = true) (hl : 4 ≤ r.pkt.params.length)
    (ht : leAt r.pkt.params 0 1 = t) (hb : (s.begun 0x0102 r).flag Reg.SYS_MODE_TRANS = false)
    (hm : t = 1 ∨ t = 2 ∧ (s.begun 0x0102 r).mode ≠ 2) :
    execModeSet r s = .next (((s.begun 0x0102 r).startAsk t).answered (s.begun 0x0102 r) 0x0102 r 0 []) := by
  refine runCommand_takes h hl ?_
  rw [ht, hb]
  rcases hm with rfl | ⟨rfl, hm⟩
  · rfl
  · have hne : ((s.begun 0x0102 r).mode == 2) = false := beq_false_of_ne hm
    simp only [hne]
    rfl

/-! Units -/

/-- The unit commands act on a unit that the Map column names (R538). -/
theorem onUnit_ok {body : Nat → State → Answer} {q : Request} {u : State} {n : Nat} (hl : 4 ≤ q.pkt.params.length)
    (hn : n = leAt q.pkt.params 0 1) (hu : (unitBit u.isRoot n).isSome = true) : onUnit body q u = body n u := by
  subst hn
  exact (takes_of_length hl).trans (if_neg (by rw [Option.isNone_iff_eq_none]; exact Option.ne_none_iff_isSome.2 hu))

/-- UNIT_MAP_OUT (R35): a unit that is mapped out already stays as it is. -/
theorem execUnitMapOut_ok {n : Nat} (h : s.passes 0x0103 r = true) (hl : 4 ≤ r.pkt.params.length)
    (hn : n = leAt r.pkt.params 0 1) (hu : (unitBit (s.begun 0x0103 r).isRoot n).isSome = true) :
    execUnitMapOut r s = .next ((if n ∈ (s.begun 0x0103 r).nib.mappedOut then s.begun 0x0103 r
      else ((s.begun 0x0103 r).mapOut n).unitStops n).answered (s.begun 0x0103 r) 0x0103 r 0 []) := by
  refine runCommand_reply h ((onUnit_ok (q := asked 0x0103 r) hl hn hu).trans ?_)
  simp only [List.contains_iff_mem]
  rfl

/-! Reset, operating point, status and wakes -/

/-- RESET leaves its action behind the reply (R550, R651). -/
theorem execReset_ok (h : s.passes 0x0105 r = true) (hl : 4 ≤ r.pkt.params.length) (ht : leAt r.pkt.params 0 1 ≤ 1) :
    execReset r s = .next (((s.begun 0x0105 r).schedule r.via (.reset (leAt r.pkt.params 0 1))).answered
      (s.begun 0x0105 r) 0x0105 r 0 []) :=
  runCommand_takes_request h hl (if_neg (Nat.not_lt.2 ht))

/-- OP_SET whose change is done at once, or has nothing to do (R547). -/
theorem execOpSet_now {v : State} (h : s.passes 0x0800 r = true) (hl : 4 ≤ r.pkt.params.length)
    (ht : leAt r.pkt.params 0 1 ≤ 2)
    (hv : v = ((s.begun 0x0800 r).wr Reg.CLK_OP_TARGET (leAt r.pkt.params 0 1)).opChange 0)
    (hs : v.rd Reg.CLK_OP_STEP = 0) :
    execOpSet r s = .next (v.answered (s.begun 0x0800 r) 0x0800 r 0 (le 4 (v.reg Reg.CLK_OP_A).toNat)) := by
  subst hv
  exact runCommand_takes_request h hl ((if_neg (Nat.not_lt.2 ht)).trans (if_pos (beq_iff_eq.2 hs)))

/-- OP_SET whose change takes steps: the request waits (R534, R547). -/
theorem execOpSet_later {v : State} (h : s.passes 0x0800 r = true) (hl : 4 ≤ r.pkt.params.length)
    (ht : leAt r.pkt.params 0 1 ≤ 2)
    (hv : v = ((s.begun 0x0800 r).wr Reg.CLK_OP_TARGET (leAt r.pkt.params 0 1)).opChange 0)
    (hs : v.rd Reg.CLK_OP_STEP ≠ 0) :
    execOpSet r s = .next (v.withNib fun n => { n with opWaiters := n.opWaiters ++ [asked 0x0800 r] }) := by
  subst hv
  exact runCommand_takes_later h hl ((if_neg (Nat.not_lt.2 ht)).trans (if_neg (mt beq_iff_eq.1 hs)))

/-- WAKE_CONFIG with no reserved bit set in either mask (R547). -/
theorem execWakeConfig_ok {u : State} (h : s.passes 0x0802 r = true) (he : u = s.begun 0x0802 r)
    (hl : 8 ≤ r.pkt.params.length)
    (hm : ∀ k ∈ [6, 7, 14, 15], bit (leAt r.pkt.params 0 2) k = false ∧ bit (leAt r.pkt.params 2 2) k = false) :
    execWakeConfig r s = .next ((((u.wr Reg.PWR_WAKE_EN_STBY (leAt r.pkt.params 0 2)).wr Reg.PWR_WAKE_EN_IDLE
      (leAt r.pkt.params 2 2)).wr Reg.PWR_ALARM_SECONDS (leAt r.pkt.params 4 4)).answered u 0x0802 r 0 []) := by
  subst he
  simp only [List.forall_mem_cons, List.not_mem_nil, false_implies, implies_true, and_true] at hm
  obtain ⟨⟨a6, b6⟩, ⟨a7, b7⟩, ⟨a14, b14⟩, a15, b15⟩ := hm
  exact runCommand_takes h hl (if_neg (by simp [a6, a7, a14, a15, b6, b7, b14, b15]))

/-! SERVICE -/

/-- DIAG_SERVICE_ENTER's check of its sets passes one that is not empty and names nothing that Damya lacks (R548). -/
theorem serviceSets_pass {root : Bool} {trk efu tcp rsv units : Nat}
    (hsome : trk ≠ 0 ∨ efu ≠ 0 ∨ tcp ≠ 0 ∨ units ≠ 0) (hch0 : bit efu 0 = false) (htrk : trk ≤ 3) (htcp : tcp ≤ 15)
    (hrsv : rsv = 0) (hunits : units < 2 ^ 19) (hroot : root = true → bits units 1 0 = 0) :
    ¬((trk == 0 && efu == 0 && tcp == 0 && units == 0) || bit efu 0 || trk > 3 || tcp > 15 || rsv != 0 ||
      units ≥ 2 ^ 19 || (root && bits units 1 0 != 0)) = true := by
  simp only [hch0, hrsv, Bool.or_eq_true, Bool.and_eq_true, beq_iff_eq, bne_iff_ne, decide_eq_true_eq,
    Bool.false_eq_true, ne_eq, not_true_eq_false, or_false]
  rintro (hbad | ⟨hr, hbad⟩)
  · omega
  · exact hbad (hroot hr)

/-- DIAG_SERVICE_EXIT from SERVICE: back to RUN or DEGRADED (R41, R548). -/
theorem execDiagServiceExit_ok {u : State} (h : s.passes 0x0901 r = true) (he : u = s.begun 0x0901 r)
    (hb : u.flag Reg.SYS_MODE_TRANS = false) (hm : u.mode = 5) :
    execDiagServiceExit r s = .next
      ((((u.beginMode (if u.flag Reg.SYS_MODE_DEGR then 4 else 3)).withNib fun n =>
        { n with seq := .serviceExit }).leaveTest).answered u 0x0901 r 0 []) := by
  subst he
  exact runCommand_reply h ((if_neg (by rw [hb]; decide)).trans (if_neg (by rw [hm]; decide)))

end Sys2Proof.Machine

open Sys2Proof Sys2Proof.Machine

/-- Settles O5, a command at a time. -/
theorem modeAndPowerCommands : Obligations.ModeAndPowerCommands := by
  unfold Obligations.ModeAndPowerCommands
  refine ⟨?run, ?standby, ?idle, ?mapOut, ?mapOutAgain, ?mapIn, ?selftest, ?reset, ?opSetLater, ?opSetNow, ?pwrStatus,
    ?wakeConfig, ?serviceEnter, ?serviceExit⟩
  case run => rintro s _ r h rfl hl ht hb hm; exact execModeSet_run h hl ht hb hm
  case standby => rintro s _ r h rfl hl ht hb; exact execModeSet_ask h hl ht hb (.inl rfl)
  case idle => rintro s _ r h rfl hl ht hb hm; exact execModeSet_ask h hl ht hb (.inr ⟨rfl, hm⟩)
  case mapOut =>
    rintro s _ r h rfl hl hu ho
    refine (execUnitMapOut_ok h hl rfl hu).trans ?_
    rw [if_neg ho]
  case mapOutAgain =>
    rintro s _ r h rfl hl hu ho
    refine (execUnitMapOut_ok h hl rfl hu).trans ?_
    rw [if_pos ho]
  case mapIn =>
    intro s u r h he hl hu ho hj
    exact runCommand_startJob h he ((onUnit_ok (q := asked 0x0104 r) hl rfl hu).trans (if_neg (by simpa using ho))) hj
  case selftest =>
    intro s u r h he hl hu ho hj
    exact runCommand_startJob h he ((onUnit_ok (q := asked 0x0905 r) hl rfl hu).trans (if_neg (by simp [ho]))) hj
  case reset => rintro s _ r h rfl hl ht; exact execReset_ok h hl ht
  case opSetLater => rintro s _ r v h rfl hl ht hv hs; exact execOpSet_later h hl ht hv hs
  case opSetNow => rintro s _ r v h rfl hl ht hv hs; exact execOpSet_now h hl ht hv hs
  case pwrStatus => rintro s _ r h rfl; exact runCommand_reply h rfl
  case wakeConfig => exact fun s u r h he hl hm => execWakeConfig_ok h he hl hm
  case serviceEnter =>
    rintro s _ r _ _ _ _ h rfl hl rfl rfl rfl hzero rfl hsome hch0 htrk htcp hunits hroot hb hm
    refine runCommand_takes_request h hl
      ((if_neg (serviceSets_pass hsome hch0 htrk htcp hzero hunits hroot)).trans ((if_neg ?busy).trans (if_neg ?mode)))
    case busy => rw [hb]; decide
    case mode => rcases hm with hm | hm <;> rw [hm] <;> decide
  case serviceExit => exact fun s u r h he hb hm => execDiagServiceExit_ok h he hb hm

end

section
/-!
PROOFS. Byte strings and packets: what a field written in its place reads back as, and the layout of R49 both ways
(R47 to R49).
-/

namespace Sys2Proof.Machine

/-! Numbers as bytes -/

@[simp] theorem length_le (n v : Nat) : (le n v).length = n := by simp [le]

theorem le_succ (n v : Nat) : le (n + 1) v = byte v :: le n (v / 256) := by
  simp [le, byte, List.range_succ_eq_map, Function.comp_def, Nat.pow_succ', Nat.pow_mul, Nat.div_div_eq_div_mul]

/-- The bytes of a number spell it, as far as they reach. -/
theorem ofLe_le (n v : Nat) : ofLe (le n v) = v % 256 ^ n := by
  induction n generalizing v with
  | zero => simp [le, ofLe, Nat.mod_one]
  | succ n ih => rw [le_succ, ofLe, ih, Nat.pow_succ', Nat.mod_mul, byte, BitVec.toNat_ofNat]

/-- The number that bytes spell has those bytes. -/
theorem le_ofLe (b : Bytes) : le b.length (ofLe b) = b := by
  induction b with
  | nil => rfl
  | cons x b ih =>
    have hx : byte (x.toNat + 256 * ofLe b) = x := BitVec.eq_of_toNat_eq (by simp [byte]; omega)
    have hd : (x.toNat + 256 * ofLe b) / 256 = ofLe b := by have := x.isLt; omega
    rw [ofLe, List.length_cons, le_succ, hx, hd, ih]

theorem byte_ofLe {b : Bytes} (h : b.length = 1) : [byte (ofLe b)] = b := by
  have hb := le_ofLe b
  rwa [h, le_succ] at hb

@[simp] theorem length_padTo (n : Nat) (b : Bytes) : (padTo n b).length = n := by
  simp only [padTo, zeros, List.length_append, List.length_take, List.length_replicate]
  omega

theorem padTo_length {n : Nat} {b : Bytes} (h : b.length = n) : padTo n b = b := by
  subst h
  simp [padTo, zeros]

/-! Slices of what stands in a row -/

theorem length_slice (b : Bytes) (i n : Nat) : (slice b i n).length = min n (b.length - i) := by simp [slice]

/-- What stands first is read from offset 0. -/
theorem slice_append_head {a : Bytes} (r : Bytes) {n : Nat} (h : a.length = n) : slice (a ++ r) 0 n = a := by
  simp [slice, List.take_left' h]

/-- What stands behind is read from an offset past what stands first. -/
theorem slice_append_tail {a : Bytes} (r : Bytes) {i : Nat} (n : Nat) (h : a.length ≤ i) :
    slice (a ++ r) i n = slice r (i - a.length) n := by
  simp [slice, List.drop_append, List.drop_eq_nil_of_le h]

/-- Adjacent slices make one. -/
theorem slice_append_slice (b : Bytes) {i j : Nat} (n m : Nat) (h : j = i + n) :
    slice b i n ++ slice b j m = slice b i (n + m) := by
  rw [h, slice, slice, slice, List.take_add, List.drop_drop]

theorem slice_all {b : Bytes} {n : Nat} (h : n = b.length) : slice b 0 n = b := by simp [slice, h]

theorem le_leAt {b : Bytes} {i n : Nat} (h : i + n ≤ b.length) : le n (leAt b i n) = slice b i n := by
  have hl : (slice b i n).length = n := by rw [length_slice]; omega
  simpa only [leAt, hl] using le_ofLe (slice b i n)

theorem byte_leAt {b : Bytes} {i : Nat} (h : i + 1 ≤ b.length) : [byte (leAt b i 1)] = slice b i 1 :=
  byte_ofLe (by rw [length_slice]; omega)

/-- A number is read back from the bytes that hold it, as far as they reach. -/
theorem leAt_le_mod (n v : Nat) (r : Bytes) : leAt (le n v ++ r) 0 n = v % 256 ^ n := by
  rw [leAt, slice_append_head r (length_le n v), ofLe_le]

theorem leAt_byte_mod (v : Nat) (r : Bytes) : leAt ([byte v] ++ r) 0 1 = v % 256 :=
  (congrArg (fun a => leAt (a ++ r) 0 1) (le_succ 0 v).symm).trans (leAt_le_mod 1 v r)

theorem leAt_append_tail {a : Bytes} (r : Bytes) {i : Nat} (n : Nat) (h : a.length ≤ i) :
    leAt (a ++ r) i n = leAt r (i - a.length) n := by
  rw [leAt, slice_append_tail r n h, leAt]

/-! Packets -/

/-- The header's fields in a row, before what follows it. -/
theorem headerBytes_append (p : Packet) (r : Bytes) :
    headerBytes p ++ r = [byte (p.ver * 16 + p.flags)] ++ (le 2 p.opcode ++ (le 2 p.seq ++ ([byte p.session] ++
      (le 2 p.len ++ ([byte p.status] ++ (padTo 7 p.rsv ++ r)))))) := by
  simp only [headerBytes, List.append_assoc]

@[simp] theorem length_headerBytes (p : Packet) : (headerBytes p).length = 16 := by
  simp [headerBytes]

/-- VER and FLAGS share the first byte. -/
theorem ver_flags_byte {v f : Nat} (hf : f < 16) :
    (v * 16 + f) / 16 = v ∧ (v * 16 + f) % 16 = f ∧ (v * 16 + f).testBit 1 = f.testBit 1 := by
  refine ⟨by omega, by omega, ?_⟩
  simp only [Nat.testBit_eq_decide_div_mod_eq]
  congr 2
  omega

section

variable {p : Packet} (hr : p.ver < 16 ∧ p.flags < 16 ∧ p.opcode < 65536 ∧ p.seq < 65536 ∧ p.session < 256 ∧
  p.status < 256 ∧ p.rsv.length = 7)
include hr

/-- What the header's places read, whatever follows it (R49). -/
theorem headerBytes_reads (r : Bytes) (hlen : p.len < 65536) :
    leAt (headerBytes p ++ r) 0 1 = p.ver * 16 + p.flags ∧ leAt (headerBytes p ++ r) 1 2 = p.opcode ∧
    leAt (headerBytes p ++ r) 3 2 = p.seq ∧ leAt (headerBytes p ++ r) 5 1 = p.session ∧
    leAt (headerBytes p ++ r) 6 2 = p.len ∧ leAt (headerBytes p ++ r) 8 1 = p.status ∧
    slice (headerBytes p ++ r) 9 7 = p.rsv := by
  obtain ⟨hver, hflags, hop, hseq, hses, hst, hrsv⟩ := hr
  have hvf : p.ver * 16 + p.flags < 256 := by omega
  simp only [headerBytes_append, leAt_append_tail, slice_append_tail, length_le, List.length_singleton, Nat.reduceSub,
    Nat.reduceLeDiff, Nat.reducePow, leAt_le_mod, leAt_byte_mod, Nat.mod_eq_of_lt, slice_append_head, padTo_length,
    hvf, hop, hseq, hses, hlen, hst, hrsv, and_self]

/-- Reading what was written gives every field back. -/
theorem parsePacket_bytes (hl : p.len = p.params.length) (hm : p.len ≤ 4160)
    (ht : p.tag.length = if p.flags.testBit 1 then 16 else 0) (hd : p.delivered = 16 + p.len + p.tag.length) :
    parsePacket (headerBytes p ++ p.params ++ p.tag) = p := by
  have hparams : slice (headerBytes p ++ (p.params ++ p.tag)) 16 p.len = p.params := by
    rw [slice_append_tail _ _ (by simp), length_headerBytes, slice_append_head _ hl.symm]
  have htag : slice (headerBytes p ++ (p.params ++ p.tag)) (16 + p.len) p.tag.length = p.tag := by
    rw [← List.append_assoc, slice_append_tail _ _ (by simp [hl])]
    simp [hl, slice_all]
  have hdel : (headerBytes p ++ (p.params ++ p.tag)).length = p.delivered := by
    simp [hd, hl, Nat.add_assoc]
  obtain ⟨hvf, hop, hseq, hses, hlen, hst, hrsv⟩ := headerBytes_reads hr (p.params ++ p.tag) (by omega)
  obtain ⟨hver, hflags, hbit⟩ := ver_flags_byte (v := p.ver) hr.2.1
  have htag' : (if p.flags.testBit 1 then slice (headerBytes p ++ (p.params ++ p.tag)) (16 + p.len) 16 else []) =
      p.tag := by
    split at ht
    case isTrue h => exact (if_pos h).trans (ht ▸ htag)
    case isFalse h => rw [if_neg h, List.eq_nil_of_length_eq_zero ht]
  rw [List.append_assoc, parsePacket]
  simp only [hvf, hop, hseq, hses, hlen, hst, hrsv, hver, hflags, hbit, hparams, htag', hdel]

end

/-- The header that was read, written again, is the first 16 bytes. -/
theorem headerBytes_parsePacket {b : Bytes} (h : 16 ≤ b.length) : headerBytes (parsePacket b) = slice b 0 16 := by
  have hsplit (n : Nat) : n / 16 * 16 + n % 16 = n := by omega
  have hrsv : padTo 7 (slice b 9 7) = slice b 9 7 := padTo_length (by rw [length_slice]; omega)
  simp only [headerBytes, parsePacket, hsplit, hrsv]
  rw [byte_leAt (by omega), byte_leAt (by omega), byte_leAt (by omega), le_leAt (by omega), le_leAt (by omega),
    le_leAt (by omega)]
  simp only [slice_append_slice, Nat.reduceAdd]

/-- Writing what was read gives the same bytes. -/
theorem bytes_parsePacket {b : Bytes} (h : 16 ≤ b.length) (hl : lengthOk (parsePacket b) = true) :
    headerBytes (parsePacket b) ++ (parsePacket b).params ++ (parsePacket b).tag = b := by
  have hbit : (leAt b 0 1 % 16).testBit 1 = (leAt b 0 1).testBit 1 := by
    rw [show 16 = 2 ^ 4 from rfl, Nat.testBit_mod_two_pow]
    rfl
  simp only [lengthOk, hasTag, Bool.and_eq_true, beq_iff_eq] at hl
  obtain ⟨⟨-, hd⟩, -⟩ := hl
  rw [headerBytes_parsePacket h]
  simp only [parsePacket, hbit] at hd ⊢
  rw [slice_append_slice b 16 _ rfl]
  split at hd
  case isTrue ht => rw [if_pos ht, slice_append_slice b _ 16 (by omega), slice_all hd.symm]
  case isFalse ht => rw [if_neg ht, List.append_nil, slice_all (by omega)]

end Sys2Proof.Machine

open Sys2Proof Sys2Proof.Machine

/-- Settles O48: each field is read from the place where it was written, and adjacent slices of a string make it up. -/
theorem packetRoundTrip : Obligations.PacketRoundTrip :=
  ⟨fun _ hr hl hm ht hd => parsePacket_bytes hr hl hm ht hd, fun _ h hl => bytes_parsePacket h hl⟩

end

section
/-!
PROOFS. Steps 1 to 4 of R50 and the access classes: which check answers what, what a refusal leaves unchanged, and the tags
of replies (R47 to R52, R70, R73, R74).
-/

namespace Sys2Proof.Machine

/-- A length that disagrees with the delivered bytes, or that is too large (R50 step 2). -/
theorem lengthOk_eq_false {p : Packet}
    (h : 4160 < p.len ∨ p.delivered ≠ 16 + p.len + (if p.flags.testBit 1 then 16 else 0)) : lengthOk p = false := by
  rw [← Bool.not_eq_true, lengthOk]
  simp only [Bool.and_eq_true, decide_eq_true_eq, beq_iff_eq]
  exact fun k => h.elim (fun hl => absurd k.1.1 (Nat.not_le.2 hl)) fun hd => hd k.1.2

namespace State

/-! The session a request names -/

theorem openSession_eq_some_iff {s : State} {q : Request} {x : Session} :
    s.openSession q = some x ↔ q.pkt.session ∈ handles ∧ (s.session q.pkt.session).phase = .opened ∧
      (s.session q.pkt.session).via = q.via ∧ s.session q.pkt.session = x := by
  simp only [openSession, Bool.and_eq_true, List.contains_iff_mem, beq_iff_eq, Option.ite_none_right_eq_some,
    Option.some.injEq, and_assoc]

theorem ne_zero_of_mem_handles {h : Nat} (hh : h ∈ handles) : h ≠ 0 := by
  rintro rfl
  exact absurd hh (by decide)

/-- SESSION 0 names no session. -/
theorem openSession_zero {s : State} {q : Request} (h : q.pkt.session = 0) : s.openSession q = none := by
  rw [Option.eq_none_iff_forall_ne_some]
  exact fun x hx => ne_zero_of_mem_handles (openSession_eq_some_iff.1 hx).1 h

/-! Steps 1 to 4 -/

section

variable {s : State} {r : Request} {x : Session}

theorem frameStatus_version (hv : r.pkt.ver ≠ 1) : s.frameStatus r = some Status.badVersion :=
  if_pos (bne_iff_ne.2 hv)

variable (hv : r.pkt.ver = 1)
include hv

theorem frameStatus_length (hl : lengthOk r.pkt = false) : s.frameStatus r = some Status.badLength := by
  simp only [frameStatus, hv, hl, bne_self_eq_false, Bool.not_false, Bool.false_eq_true, if_false, if_true]

variable (hl : lengthOk r.pkt = true)
include hl

/-- Past steps 1 and 2, the session's check and then its tag's. -/
theorem frameStatus_wellFormed : s.frameStatus r =
    if r.pkt.session ≠ 0 ∧ ¬(r.pkt.session ∈ handles ∧ (s.session r.pkt.session).via = r.via ∧
        ((s.session r.pkt.session).phase = .opened ∨
          (s.session r.pkt.session).phase = .halfOpen ∧ r.pkt.opcode = 0x0201)) then some Status.badSession
    else if r.pkt.session ≠ 0 ∧ (s.session r.pkt.session).phase = .opened then
      if r.pkt.opcode = 0x0201 ∧ hasTag r.pkt = false ∧ r.pkt.seq = (s.session r.pkt.session).keptSeq ∧
        (s.session r.pkt.session).keptProve = true then none
      else if hasTag r.pkt = true ∧ r.pkt.tag = packetTag (s.session r.pkt.session).key r.pkt then none
      else some Status.authFail
    else none := by
  simp only [frameStatus, hv, hl, bne_self_eq_false, Bool.not_true, Bool.false_eq_true, if_false, Bool.and_eq_true,
    bne_iff_ne, Bool.not_eq_true', Bool.or_eq_true, beq_iff_eq, ← Bool.not_eq_true, List.contains_iff_mem, and_assoc]

/-- A SESSION that is neither 0 nor one of this transport in the right phase (R50 step 3). -/
theorem frameStatus_session (h0 : r.pkt.session ≠ 0) (h : r.pkt.session ∉ handles ∨
    (s.session r.pkt.session).via ≠ r.via ∨ (s.session r.pkt.session).phase = .free ∨
    ((s.session r.pkt.session).phase = .halfOpen ∧ r.pkt.opcode ≠ 0x0201)) :
    s.frameStatus r = some Status.badSession := by
  refine (frameStatus_wellFormed hv hl).trans (if_pos ⟨h0, ?_⟩)
  rintro ⟨hh, hvia, hphase⟩
  rcases h with h | h | h | ⟨h, hop⟩
  · exact h hh
  · exact h hvia
  · rcases hphase with hp | ⟨hp, -⟩ <;> rw [h] at hp <;> cases hp
  · rcases hphase with hp | ⟨-, hp⟩
    · rw [h] at hp; cases hp
    · exact hop hp

/-- On SESSION 0, or on a half-open session for SESSION_PROVE, no tag is asked for. -/
theorem frameStatus_untagged (h : r.pkt.session = 0 ∨ (r.pkt.opcode = 0x0201 ∧ r.pkt.session ∈ handles ∧
    (s.session r.pkt.session).via = r.via ∧ (s.session r.pkt.session).phase = .halfOpen)) : s.frameStatus r = none := by
  rw [frameStatus_wellFormed hv hl]
  rcases h with h | ⟨hop, hh, hvia, hphase⟩
  · rw [if_neg fun k => k.1 h, if_neg fun k => k.1 h]
  · rw [if_neg fun k => k.2 ⟨hh, hvia, .inr ⟨hphase, hop⟩⟩, if_neg]
    rw [hphase]
    exact fun k => SessionPhase.noConfusion k.2

/-- On an open session the tag decides, except for the resend of the SESSION_PROVE that opened it (R50 step 4). -/
theorem frameStatus_onSession (ho : s.openSession r = some x) : s.frameStatus r =
    if r.pkt.opcode = 0x0201 ∧ hasTag r.pkt = false ∧ r.pkt.seq = x.keptSeq ∧ x.keptProve = true then none
    else if hasTag r.pkt = true ∧ r.pkt.tag = packetTag x.key r.pkt then none
    else some Status.authFail := by
  obtain ⟨hh, hphase, hvia, rfl⟩ := openSession_eq_some_iff.1 ho
  rw [frameStatus_wellFormed hv hl, if_neg fun k => k.2 ⟨hh, hvia, .inl hphase⟩,
    if_pos ⟨ne_zero_of_mem_handles hh, hphase⟩]

theorem frameStatus_authFail (ho : s.openSession r = some x)
    (hp : ¬(r.pkt.opcode = 0x0201 ∧ hasTag r.pkt = false ∧ r.pkt.seq = x.keptSeq ∧ x.keptProve = true))
    (ht : hasTag r.pkt = false ∨ r.pkt.tag ≠ packetTag x.key r.pkt) : s.frameStatus r = some Status.authFail := by
  rw [frameStatus_onSession hv hl ho, if_neg hp]
  exact if_neg fun h => ht.elim (fun hn => Bool.false_ne_true (hn.symm.trans h.1)) fun hn => hn h.2

theorem frameStatus_rightTag (ho : s.openSession r = some x) (ht : hasTag r.pkt = true)
    (htag : r.pkt.tag = packetTag x.key r.pkt) : s.frameStatus r = none := by
  rw [frameStatus_onSession hv hl ho, if_pos (⟨ht, htag⟩ : _ ∧ _), ite_self]

end

end State

section

variable {i : Instr} {op c : Nat} {q : Request} {s : State} (hi : packetOf i = some (op, q)) (hs : s.serving = true)
  (hr : s.cmd.restarting = false) (hb : s.scribeBusy = false)
include hi hs hr hb

/-- A packet row whose packet fails one of the steps 1 to 4: it is refused, and a failed tag also counts on its session
(R50, R74). -/
theorem exec_frameFails (hf : s.frameStatus (asked op q) = some c) : exec i s =
    .next (if (c == Status.authFail) = true then s.authFailed (asked op q) else s.refuse (asked op q) c) := by
  obtain ⟨body, he⟩ := exec_packet i hi
  have hf' : s.frameStatus (requestWithOpcode q op) = some c := hf
  rw [he]
  simp only [State.command, hs, hr, hb, hf', Bool.not_true, Bool.false_eq_true, if_false]
  rfl

theorem exec_refused (hc : (c == Status.authFail) = false) (hf : s.frameStatus (asked op q) = some c) :
    exec i s = .next (s.refuse (asked op q) c) := by
  rw [exec_frameFails hi hs hr hb hf, hc, if_neg Bool.false_ne_true]

theorem exec_authFailed (hf : s.frameStatus (asked op q) = some Status.authFail) :
    exec i s = .next (s.authFailed (asked op q)) := by
  rw [exec_frameFails hi hs hr hb hf, if_pos (by decide)]

end

end Sys2Proof.Machine

open Sys2Proof Sys2Proof.Machine

/-- Settles O44, a step of the checks at a time. -/
theorem frameChecks : Obligations.FrameChecks := by
  unfold Obligations.FrameChecks
  refine ⟨?version, ?length, ?session, ?tag, ?untagged, ?tagged⟩
  case version =>
    intro i op q s hi hs hr hb hv
    exact exec_refused hi hs hr hb (by decide) (State.frameStatus_version (r := asked op q) hv)
  case length =>
    intro i op q s hi hs hr hb hv hl
    exact exec_refused hi hs hr hb (by decide) (State.frameStatus_length (r := asked op q) hv (lengthOk_eq_false hl))
  case session =>
    intro i op q s hi hs hr hb hv hl h0 h
    exact exec_refused hi hs hr hb (by decide) (State.frameStatus_session (r := asked op q) hv hl h0 h)
  case tag =>
    intro i op q s x hi hs hr hb hv hl ho hp ht
    exact exec_authFailed hi hs hr hb (State.frameStatus_authFail (r := asked op q) hv hl ho hp ht)
  case untagged =>
    intro op q s hv hl h
    exact State.frameStatus_untagged (r := asked op q) hv hl h
  case tagged =>
    intro op q s x hv hl ho ht htag
    exact State.frameStatus_rightTag (r := asked op q) hv hl ho ht htag

end

section
/-!
PROOFS. Step 8 of R50: the access class of an opcode against the session that carries the request (R50, R70, R210, R216).
-/

namespace Sys2Proof.Machine

namespace State

/-! What taking a request leaves -/

theorem take_keeps (s : State) (r : Request) : (s.take r).regs = s.regs ∧ (s.take r).nv = s.nv := by
  unfold take
  dsimp only
  split <;> simp

theorem begun_mode (s : State) (op : Nat) (q : Request) : (s.begun op q).mode = s.mode := by
  simp only [mode, rd, reg, begun, take_keeps]

theorem begun_nv (s : State) (op : Nat) (q : Request) : (s.begun op q).nv = s.nv := (s.take_keeps _).2

theorem openSession_begun {s : State} {op : Nat} {q : Request} {x : Session} (ho : s.openSession q = some x) :
    (s.begun op q).openSession (asked op q) =
      some { x with keptSeq := q.pkt.seq, keptProve := false, keptReply := [], authFails := 0 } := by
  obtain ⟨hh, hphase, hvia, rfl⟩ := openSession_eq_some_iff.1 ho
  have hx := session_begun (op := op) ho
  exact openSession_eq_some_iff.2 ⟨hh, by rw [asked_session, hx]; exact hphase, by rw [asked_session, hx]; exact hvia, hx⟩

/-! The classes, outside the opcodes with rules of their own -/

section

variable {s : State} {op : Nat} {r : Request} {a : OpAccess} {x : Session}

theorem tunnelAccess_outside (hop : op < 0x0400 ∨ 0x0402 < op) (hne : op ≠ 0x0405) (cls : Option Nat) :
    s.tunnelAccess op r cls = cls := by
  have h1 : (decide (0x0400 ≤ op) && decide (op ≤ 0x0402)) = false := by
    simp only [Bool.and_eq_false_iff, decide_eq_false_iff_not]
    omega
  simp only [tunnelAccess, h1, beq_false_of_ne hne, Bool.false_and, Bool.false_eq_true, if_false]

variable (hop : op < 0x0400 ∨ 0x0402 < op) (hne : op ≠ 0x0405)
include hop hne

/-- Outside the tunnel-entry packets, AUDIT and SCRAPPED, what the class says of a request on an open session. -/
theorem accessStatus_onSession (hlc : s.nv.lifeCycle ≠ 4) : s.accessStatus op a (some x) r =
    if s.mode ≠ 0 ∧ a = .secure ∧ x.world = 0 then some Status.denied else none := by
  simp only [accessStatus, tunnelAccess_outside hop hne, beq_false_of_ne hlc, Bool.false_and, Bool.false_eq_true,
    if_false, Bool.and_eq_true, bne_iff_ne, beq_iff_eq, and_assoc]
  by_cases h : s.mode ≠ 0 ∧ a = .secure ∧ x.world = 0
  · rw [if_pos h]
  · rw [if_neg h]

/-- And what it says of one on SESSION 0 outside RECOVERY. -/
theorem accessStatus_offSession (hm : s.mode ≠ 0) (hlc : s.nv.lifeCycle ≠ 4) : s.accessStatus op a none r =
    if s.nv.lifeCycle = 0 ∨ a = .open_ then none else some Status.noSession := by
  simp only [accessStatus, tunnelAccess_outside hop hne, beq_false_of_ne hm, beq_false_of_ne hlc, Bool.false_and,
    Bool.false_eq_true, if_false, beq_iff_eq]
  by_cases hz : s.nv.lifeCycle = 0
  · rw [if_pos hz, if_pos (.inl hz)]
  · by_cases ha : a = .open_
    · rw [if_neg hz, if_pos ha, if_pos (.inr ha)]
    · rw [if_neg hz, if_neg ha, if_neg (not_or.2 ⟨hz, ha⟩)]

/-- While the life cycle is BLANK, no session is asked for (R70). -/
theorem accessStatus_blank (hlc : s.nv.lifeCycle = 0) : s.accessStatus op a none r = none := by
  simp only [accessStatus, tunnelAccess_outside hop hne, hlc]
  rfl

end

section

variable {s : State} {op : Nat} {q : Request} {a : OpAccess} (hs : s.serving = true) (hr : s.cmd.restarting = false)
  (hb : s.scribeBusy = false) (hf : s.frameStatus (asked op q) = none) (hm : s.modeAllows op = true)
  (ha : opcodeAccess op = some a)
include hs hr hb hf hm ha

/-- The checks before the opcode's own, passed one by one. -/
theorem passes_of_access (hq : s.freshSeq (asked op q) = true)
    (hc : (s.begun op q).accessStatus op a ((s.begun op q).openSession (asked op q)) (asked op q) = none) :
    s.passes op q = true := by
  simp only [passes, letsThrough, hs, hr, hb, hf, hq, ha, begun_modeAllows, hm, hc]
  rfl

/-- A packet row that its access class refuses. -/
theorem exec_accessRefused {i : Instr} {c : Nat} (hi : packetOf i = some (op, q)) (hq : s.freshSeq (asked op q) = true)
    (hc : (s.begun op q).accessStatus op a ((s.begun op q).openSession (asked op q)) (asked op q) = some c) :
    exec i s = .next ((s.begun op q).answered (s.begun op q) op q c []) := by
  obtain ⟨body, he⟩ := exec_packet i hi
  rw [he, command_fresh body hs hr hb hf hq, execute_accessRefused body ha ((s.begun_modeAllows op q op).trans hm) hc]
  rfl

end

theorem freshSeq_zero {s : State} {q : Request} (h : q.pkt.session = 0) : s.freshSeq q = true := by
  simp only [freshSeq, openSession_zero h]

end State

end Sys2Proof.Machine

open Sys2Proof Sys2Proof.Machine

/-- Settles O46: past the mode check, what is left to decide is the class against the session (accessStatus_onSession,
accessStatus_offSession). -/
theorem accessByClass : Obligations.AccessByClass := by
  unfold Obligations.AccessByClass
  refine ⟨?noSession, ?denied, ?onSession, ?openClass, ?blank⟩
  case noSession =>
    intro i op q s a hi hs hr hb hf h0 hm hma ha hopen hz hlc hop hne
    refine State.exec_accessRefused hs hr hb hf hma ha hi (State.freshSeq_zero (q := asked op q) h0) ?_
    rw [State.openSession_zero (q := asked op q) h0,
      State.accessStatus_offSession hop hne (by rwa [State.begun_mode]) hlc, if_neg (not_or.2 ⟨hz, hopen⟩)]
  case denied =>
    intro i op q s x hi hs hr hb hf hq hm hma ha ho hw hz hlc hop hne
    refine State.exec_accessRefused hs hr hb hf hma ha hi hq ?_
    rw [State.openSession_begun ho, State.accessStatus_onSession hop hne hlc]
    exact if_pos ⟨by rwa [State.begun_mode], rfl, hw⟩
  case onSession =>
    intro op q s a x hs hr hb hf hq hm hma ha ho hx hz hlc hop hne
    refine State.passes_of_access hs hr hb hf hma ha hq ?_
    rw [State.openSession_begun ho, State.accessStatus_onSession hop hne hlc, if_neg]
    rintro ⟨-, rfl, hw⟩
    rcases hx with hx | hx | hx
    · cases hx
    · cases hx
    · exact hx hw
  case openClass =>
    intro op q s hs hr hb hf h0 hm hma ha hz hlc hop hne
    refine State.passes_of_access hs hr hb hf hma ha (State.freshSeq_zero (q := asked op q) h0) ?_
    rw [State.openSession_zero (q := asked op q) h0,
      State.accessStatus_offSession hop hne (by rwa [State.begun_mode]) hlc, if_pos (.inr rfl)]
  case blank =>
    intro op q s a hs hr hb hf h0 hma ha hz hop hne
    refine State.passes_of_access hs hr hb hf hma ha (State.freshSeq_zero (q := asked op q) h0) ?_
    rw [State.openSession_zero (q := asked op q) h0, State.accessStatus_blank hop hne (by rwa [State.begun_nv])]

end

section
/-!
PROOFS. Replies: their tags, and what making and delivering one leaves unchanged (R50 to R52, R74).
-/

namespace Sys2Proof.Machine

/-! The bytes of a reply -/

/-- A reply without a key is its header and parameters. -/
theorem replyBytes_untagged {p : Packet} {st : Nat} {ps b : Bytes} (hb : b = headerBytes
    { opcode := p.opcode, seq := p.seq, session := p.session, len := ps.length, status := st, params := ps,
      flags := 1 } ++ ps) : replyBytes p st ps none = b := by
  subst hb
  exact List.append_nil _

/-- One with a key carries the tag over them (R73). -/
theorem replyBytes_tagged {p : Packet} {st : Nat} {ps b : Bytes} (key : Bytes) (hb : b = headerBytes
    { opcode := p.opcode, seq := p.seq, session := p.session, len := ps.length, status := st, params := ps,
      flags := 3 } ++ ps) : replyBytes p st ps (some key) = b ++ (hmac key b).take 16 := by
  subst hb
  rfl

/-- BAD_SESSION and AUTH_FAIL carry no tag (R51). -/
theorem replyKey_refusal {st : Nat} (x : Option Session) (h : st = 0x21 ∨ st = 0x22) : replyKey x st = none := by
  rcases h with rfl | rfl <;> rfl

theorem replyKey_session {st : Nat} (x : Session) (h1 : st ≠ 0x21) (h2 : st ≠ 0x22) :
    replyKey (some x) st = some x.key := by
  have h : (st == Status.badSession || st == Status.authFail) = false := by
    simp only [beq_false_of_ne h1, beq_false_of_ne h2, Bool.or_self]
  rw [replyKey, h]
  rfl

namespace State

section

variable {s : State} {r : Request} {x : Session}

/-! Where a reply is kept -/

theorem keepReply_none (b : Bytes) (ho : s.openSession r = none) : s.keepReply r b = s := by
  simp only [keepReply, ho]

/-- The reply to the request whose SEQ is kept is kept with it (R52). -/
theorem keepReply_kept (b : Bytes) (ho : s.openSession r = some x) (hk : x.keptSeq = r.pkt.seq) :
    s.keepReply r b = s.setSession r.pkt.session { x with keptReply := b } := by
  simp only [keepReply, ho, hk, beq_self_eq_true, if_true]

theorem keepReply_other (b : Bytes) (ho : s.openSession r = some x) (hk : x.keptSeq ≠ r.pkt.seq) :
    s.keepReply r b = s := by
  simp only [keepReply, ho, beq_false_of_ne hk, Bool.false_eq_true, if_false]

/-! Answering with given bytes -/

theorem answer_eq {st : Nat} {p b : Bytes} {k : Option Bytes} (hk : replyKey (s.openSession r) st = k)
    (hb : replyBytes r.pkt st p k = b) : s.answer r st p = (s.keepReply r b).deliver r.via b := by
  subst hk hb
  rfl

theorem refuse_eq {st : Nat} {b : Bytes} {k : Option Bytes} (hk : replyKey (s.openSession r) st = k)
    (hb : replyBytes r.pkt st [] k = b) : s.refuse r st = s.deliver r.via b := by
  subst hk hb
  rfl

end

end State

end Sys2Proof.Machine

open Sys2Proof Sys2Proof.Machine

/-- Settles O47: the key decides the bytes (replyBytes_untagged, replyBytes_tagged), the kept SEQ where they are kept. -/
theorem replyTags : Obligations.ReplyTags := by
  unfold Obligations.ReplyTags
  refine ⟨?noSession, ?keptTagged, ?keptUntagged, ?otherTagged, ?otherUntagged⟩
  case noSession =>
    intro s r st p b h hb
    have ho : s.openSession r = none := h.elim State.openSession_zero id
    have hk : replyKey (s.openSession r) st = none := by rw [ho]; exact ite_self _
    refine ⟨?_, fun hp => State.refuse_eq hk (replyBytes_untagged (hp ▸ hb))⟩
    rw [State.answer_eq hk (replyBytes_untagged hb), State.keepReply_none b ho]
  case keptTagged =>
    intro s r st p b x ho hs h1 h2 hb
    have hk : replyKey (s.openSession r) st = some x.key := by rw [ho, replyKey_session x h1 h2]
    refine ⟨?_, fun hp => State.refuse_eq hk (replyBytes_tagged x.key (hp ▸ hb))⟩
    rw [State.answer_eq hk (replyBytes_tagged x.key hb), State.keepReply_kept _ ho hs]
  case keptUntagged =>
    intro s r st p b x ho hs h hb
    have hk : replyKey (s.openSession r) st = none := replyKey_refusal _ h
    refine ⟨?_, fun hp => State.refuse_eq hk (replyBytes_untagged (hp ▸ hb))⟩
    rw [State.answer_eq hk (replyBytes_untagged hb), State.keepReply_kept _ ho hs]
  case otherTagged =>
    intro s r st p b x ho hs h1 h2 hb
    have hk : replyKey (s.openSession r) st = some x.key := by rw [ho, replyKey_session x h1 h2]
    rw [State.answer_eq hk (replyBytes_tagged x.key hb), State.keepReply_other _ ho hs]
  case otherUntagged =>
    intro s r st p b x ho hs h hb
    rw [State.answer_eq (replyKey_refusal _ h) (replyBytes_untagged hb), State.keepReply_other _ ho hs]

namespace Sys2Proof.Machine

namespace State

/-! What a reply leaves -/

/-- What a reply has no part in: all but the counters, the queues with NSEQ and the notices' limits, what has left Damya
and what waits to, the segments in the switch core, and of the command interface the transports and sessions. -/
def beyondReply (s : State) : State :=
  { s with
    counters := [], overflow := [], limits := [], nseq := 0, queues := [], out := [], pcie := {}, sw := {}
    cmd := { input := s.cmd.input, jobs := s.cmd.jobs, waiting := s.cmd.waiting } }

@[simp] theorem beyondReply_count (s : State) (i n : Nat) : (s.count i n).beyondReply = s.beyondReply := by
  simp [beyondReply]

@[simp] theorem beyondReply_notice (s : State) (c : Nat) (d : Bytes) : (s.notice c d).beyondReply = s.beyondReply := by
  simp [beyondReply]

@[simp] theorem beyondReply_setSession (s : State) (h : Nat) (x : Session) :
    (s.setSession h x).beyondReply = s.beyondReply := rfl

theorem session_setSession_ne (s : State) {h k : Nat} (x : Session) (hk : k ≠ h) :
    (s.setSession h x).session k = s.session k := Table.get_set_ne _ _ _ hk

theorem session_notice (s : State) (c : Nat) (d : Bytes) (k : Nat) : (s.notice c d).session k = s.session k := by
  simp [session]

/-- Delivering a reply has no part in anything else, and leaves the sessions. -/
theorem deliver_keeps (s : State) (v : Transport) (b : Bytes) :
    (s.deliver v b).beyondReply = s.beyondReply ∧ (s.deliver v b).cmd.sessions = s.cmd.sessions := by
  have hc : (if leAt b 8 1 ≤ 1 then s else s.count (0x004 + viaCode v)).beyondReply = s.beyondReply ∧
      (if leAt b 8 1 ≤ 1 then s else s.count (0x004 + viaCode v)).cmd.sessions = s.cmd.sessions := by
    split <;> simp
  unfold deliver
  dsimp only
  generalize (if leAt b 8 1 ≤ 1 then s else s.count (0x004 + viaCode v)) = u at hc ⊢
  cases v with
  | mailbox => exact ⟨Eq.trans (by simp [beyondReply]) hc.1, Eq.trans (by simp) hc.2⟩
  | tid0 => exact hc
  | mgmt => exact hc
  | usbs => exact hc

theorem refuse_keeps (s : State) (r : Request) (c : Nat) :
    (s.refuse r c).beyondReply = s.beyondReply ∧ (s.refuse r c).cmd.sessions = s.cmd.sessions := s.deliver_keeps ..

/-- A failed tag closes the session, or counts on it, and leaves every other session. -/
theorem authFailed_keeps (s : State) (r : Request) : (s.authFailed r).beyondReply = s.beyondReply ∧
    ∀ k, k ≠ r.pkt.session → (s.authFailed r).session k = s.session k := by
  obtain ⟨hb, hc⟩ := s.refuse_keeps r Status.authFail
  have hs (k : Nat) : (s.refuse r Status.authFail).session k = s.session k := by rw [session, hc, session]
  unfold authFailed
  split
  · dsimp only
    split
    · exact ⟨by rw [closeSession, beyondReply_notice, beyondReply_setSession, hb], fun k hk => by
        rw [closeSession, session_notice, session_setSession_ne _ _ hk, hs]⟩
    · exact ⟨by rw [beyondReply_setSession, hb], fun k hk => by rw [session_setSession_ne _ _ hk, hs]⟩
  · exact ⟨hb, fun k _ => hs k⟩

end State

end Sys2Proof.Machine

/-- Settles O51: every refusal of the four steps is a reply, and a failed tag acts on its session alone. -/
theorem refusalFrame : Obligations.RefusalFrame := by
  unfold Obligations.RefusalFrame
  intro i op q s c hi hs hr hb hf
  refine ⟨_, exec_frameFails hi hs hr hb hf, ?_⟩
  generalize ht : (if (c == Status.authFail) = true then s.authFailed (asked op q) else s.refuse (asked op q) c) = t
  have hk : t.beyondReply = s.beyondReply ∧ ∀ k, k ≠ q.pkt.session → t.session k = s.session k := by
    subst ht
    split
    · exact s.authFailed_keeps (asked op q)
    · obtain ⟨hk, hc⟩ := s.refuse_keeps (asked op q) c
      exact ⟨hk, fun k _ => by rw [State.session, hc, State.session]⟩
  obtain ⟨h, hses⟩ := hk
  simp only [State.beyondReply, State.mk.injEq, Cmd.mk.injEq, and_true, true_and] at h
  simp only [h, true_and]
  exact hses

end

section
/-!
PROOFS. Notices (R85, R91, R93): the entry's layout, and the entry that a notice leaves.
-/

namespace Sys2Proof.Machine

@[simp] theorem length_timeBytes (t : Int) : (timeBytes t).length = 12 := by simp [timeBytes]

/-- The notice's fields in a row. -/
theorem State.noticeEntry_append (s : State) (code : Nat) (d : Bytes) :
    s.noticeEntry code d = le 2 code ++ ([byte s.position] ++ ([byte 0] ++ (le 2 s.nseq ++ (le 2 0 ++
      (timeBytes s.stamp ++ padTo 12 d))))) := by
  simp only [State.noticeEntry, List.append_assoc]
  rfl

theorem State.length_noticeEntry (s : State) (code : Nat) (d : Bytes) : (s.noticeEntry code d).length = 32 := by
  simp [State.noticeEntry_append]

/-- What the places of a notice's entry read (R93). -/
theorem State.noticeEntry_reads (s : State) (code : Nat) (d : Bytes) :
    leAt (s.noticeEntry code d) 0 2 = code % 65536 ∧ leAt (s.noticeEntry code d) 2 1 = s.position % 256 ∧
    leAt (s.noticeEntry code d) 3 1 = 0 ∧ leAt (s.noticeEntry code d) 4 2 = s.nseq % 65536 ∧
    leAt (s.noticeEntry code d) 6 2 = 0 ∧ slice (s.noticeEntry code d) 8 12 = timeBytes s.stamp ∧
    slice (s.noticeEntry code d) 20 12 = padTo 12 d := by
  simp only [State.noticeEntry_append, leAt_append_tail, slice_append_tail, length_le, length_timeBytes,
    List.length_singleton, Nat.reduceSub, Nat.reduceLeDiff, Nat.reducePow, Nat.reduceMod, leAt_le_mod, leAt_byte_mod,
    slice_append_head, slice_all, length_padTo, and_self]

namespace State

variable {s : State}

/-- An enabled notice queue whose copies agree takes the entry at W (R85, R91). -/
theorem notice_queue (code : Nat) (d : Bytes) (h : s.hubOn = true) (ha : (s.queue 0).agrees = true)
    (he : s.flag (Reg.QUE_CFG_ENABLE 0) = true) : ∃ armed irq, (s.notice code d).queue 0 =
      { (s.queue 0).push 512 (s.noticeEntry code d) with armed := armed, pendingIrq := irq } := by
  rw [notice_on code d h ha]
  exact producePlain_queue (s := { s with nseq := (s.nseq + 1) % 65536 }) _ he

/-- A disabled one counts it in LOST (R91). -/
theorem notice_queue_off (code : Nat) (d : Bytes) (h : s.hubOn = true) (ha : (s.queue 0).agrees = true)
    (he : s.flag (Reg.QUE_CFG_ENABLE 0) = false) :
    (s.notice code d).queue 0 = { s.queue 0 with lost := min 0xFFFF ((s.queue 0).lost + 1) } := by
  rw [notice_on code d h ha, producePlain_off (s := { s with nseq := (s.nseq + 1) % 65536 }) _ he, queue_setQueue]
  rfl

/-- NSEQ moves with every notice while the hub die runs (R93). -/
theorem notice_nseq (code : Nat) (d : Bytes) (h : s.hubOn = true) (ha : (s.queue 0).agrees = true) :
    (s.notice code d).nseq = (s.nseq + 1) % 65536 := by
  simp only [notice_on code d h ha, producePlain_keeps]

end State

end Sys2Proof.Machine

open Sys2Proof Sys2Proof.Machine

/-- Settles O50: the entry at slot W is the layout of R93 (State.noticeEntry_reads). -/
theorem noticeEntry : Obligations.NoticeEntry := by
  unfold Obligations.NoticeEntry
  refine ⟨?enabled, fun s code d hn ha he => ⟨State.notice_queue_off code d hn ha he, State.notice_nseq code d hn ha⟩⟩
  intro s code d e hn ha he hcode hslot
  obtain ⟨armed, irq, hq⟩ := State.notice_queue code d hn ha he
  have hentry : e = s.noticeEntry code d := by
    rw [hslot, hq]
    exact Table.get_set_self (fun _ => []) (s.queue 0).slots ((s.queue 0).w % 512) (s.noticeEntry code d)
  obtain ⟨hc, hpos, hzero, hseq, hrest, htime, hdetail⟩ := s.noticeEntry_reads code d
  rw [hentry, s.length_noticeEntry, hc, hpos, hzero, hseq, hrest, htime, hdetail, hq, State.notice_nseq code d hn ha,
    Nat.mod_eq_of_lt hcode]
  exact ⟨rfl, rfl, rfl, rfl, rfl, rfl, rfl, rfl, rfl, rfl⟩

end

section
/-!
PROOFS. The standard queues: what each move of the indices keeps, and that the producer and the pipeline of R50 keep every
queue in order (R83 to R91).
-/

namespace Sys2Proof.Machine

/-! One queue, its indices as distances from F -/

/-- Entries between two indices that stand `a` and `k` above the same one. -/
theorem add_mod_dist (f : Nat) {a k : Nat} (hk : k ≤ a) (ha : a - k < 65536) :
    ((f + a) % 65536 + 65536 - (f + k) % 65536) % 65536 = a - k := by omega

section

variable {cap : Nat} {x : Queue}

/-- An index is its distance above F. -/
theorem add_dist_mod (hf : x.f < 65536) (i : Nat) : (x.f + x.dist i) % 65536 = i % 65536 := by
  simp only [Queue.dist]
  omega

theorem add_dist_mod_add (hf : x.f < 65536) (i n : Nat) : (i + n) % 65536 = (x.f + (x.dist i + n)) % 65536 := by
  rw [← Nat.add_assoc]
  exact (Nat.ModEq.add_right n (add_dist_mod hf i)).symm

variable (hcap : cap < 65536)
include hcap

/-- Indices moved to W, F, C and M above the old F, in order and within the capacity (R83, R85). -/
theorem queueSound_move {w f c m : Nat} (W F C M : Nat) (hw : w % 65536 = (x.f + W) % 65536)
    (hf : f % 65536 = (x.f + F) % 65536) (hF : F ≤ W) (hW : W - F ≤ cap)
    (hcm : x.dma = false → m % 65536 = (x.f + M) % 65536 ∧ c % 65536 = (x.f + C) % 65536 ∧ F ≤ M ∧ M ≤ C ∧ C ≤ W) :
    queueSound cap (x.move w f c m) := by
  have hlt (i : Nat) : i % 65536 < 65536 := Nat.mod_lt _ (by decide)
  refine ⟨?_, hlt w, hlt f, hlt c, hlt m, ?_, fun hd => ?_⟩
  · simp only [Queue.agrees, Queue.move, beq_self_eq_true, Bool.and_self]
  · simp only [Queue.dist, Queue.move]
    rw [hw, hf, add_mod_dist x.f hF (by omega)]
    exact hW
  · obtain ⟨hm, hc, hFM, hMC, hCW⟩ := hcm hd
    simp only [Queue.dist, Queue.move]
    rw [hw, hf, hc, hm, add_mod_dist x.f hF (by omega), add_mod_dist x.f hFM (by omega),
      add_mod_dist x.f (hFM.trans hMC) (by omega)]
    omega

omit hcap in
/-- A reset leaves an empty queue, whatever MODE and the ring are (R91). -/
theorem queueSound_reset (x : Queue) (cap : Nat) (dma : Bool) (ring : Nat) :
    queueSound cap { x.reset with dma := dma, ring := ring } := by
  simp [queueSound, Queue.reset, Queue.move, Queue.agrees, Queue.dist]

omit hcap in
/-- Where the producer leaves C, and M, when a full queue frees its oldest entry (R85). -/
theorem push_index (hf : x.f < 65536) (b : Bool) (i : Nat) :
    (if (b && decide (x.dist i < 1)) = true then (if b = true then x.f + 1 else x.f) else i) % 65536 =
      (x.f + max (b2n b) (x.dist i)) % 65536 := by
  cases b with
  | false => simp only [Bool.false_and, Bool.false_eq_true, if_false, b2n, Nat.zero_max, add_dist_mod hf]
  | true =>
    simp only [Bool.true_and, decide_eq_true_eq, if_true, b2n]
    split
    case isTrue h => rw [max_eq_left (Nat.le_of_lt h)]
    case isFalse h => rw [max_eq_right (Nat.le_of_not_lt h), add_dist_mod hf]

variable (h : queueSound cap x)
include h

/-- An entry moves W up, and in a full queue F with it and what stood on F (R85). -/
theorem queueSound_push (e : Bytes) : queueSound cap (x.push cap e) := by
  obtain ⟨-, hw, hf, hcl, hml, hle, hord⟩ := h
  have hone : b2n (x.occupancy == cap) ≤ x.dist x.w + 1 :=
    le_trans (by cases x.occupancy == cap <;> decide) (Nat.le_add_left 1 _)
  refine queueSound_move (x := x) hcap (x.dist x.w + 1) (b2n (x.occupancy == cap))
    (max (b2n (x.occupancy == cap)) (x.dist x.c)) (max (b2n (x.occupancy == cap)) (x.dist x.m))
    (add_dist_mod_add hf _ _) ?_ hone ?_ fun hd => ?_
  · cases x.occupancy == cap <;> rfl
  · cases ho : x.occupancy == cap with
    | true => exact (Nat.add_sub_cancel (x.dist x.w) 1).le.trans hle
    | false => exact (Nat.sub_le _ _).trans (Nat.lt_of_le_of_ne hle (ne_of_beq_false ho))
  · obtain ⟨hmc, hcw⟩ := hord hd
    simp only [hd, Bool.not_false, Bool.and_true]
    exact ⟨push_index hf _ _, push_index hf _ _, le_max_left _ _, max_le_max_left _ hmc,
      max_le hone (Nat.le_succ_of_le hcw)⟩

/-- C and M move within the entries held (QUEUE_READ, QUEUE_MARK and QUEUE_REWIND). -/
theorem queueSound_consume (c m : Nat) {C M : Nat} (hc : c % 65536 = (x.f + C) % 65536)
    (hm : m % 65536 = (x.f + M) % 65536) (hMC : M ≤ C) (hCW : C ≤ x.dist x.w) :
    queueSound cap (x.move x.w x.f c m) := by
  obtain ⟨-, hw, hf, -, -, hle, -⟩ := h
  exact queueSound_move hcap (x.dist x.w) 0 C M (add_dist_mod hf _).symm rfl (Nat.zero_le _)
    ((Nat.sub_le _ _).trans hle) fun _ => ⟨hm, hc, Nat.zero_le _, hMC, hCW⟩

/-- F moves on within the entries consumed, or in DMA mode within those held (QUEUE_RELEASE). -/
theorem queueSound_releaseTo {i : Nat} (hi : x.dist i ≤ x.dist (if x.dma then x.w else x.c)) :
    queueSound cap (releaseTo x i) := by
  obtain ⟨-, hw, hf, -, -, hle, hord⟩ := h
  have hw' := (add_dist_mod hf x.w).symm
  have hi' := (add_dist_mod hf i).symm
  unfold releaseTo
  cases hd : x.dma with
  | true =>
    rw [hd, if_pos rfl] at hi
    exact queueSound_move hcap (x.dist x.w) (x.dist i) 0 0 hw' hi' hi ((Nat.sub_le _ _).trans hle)
      fun hn => absurd (hd.symm.trans hn) (by decide)
  | false =>
    rw [hd, if_neg (by decide)] at hi
    obtain ⟨hmc, hcw⟩ := hord hd
    refine queueSound_move hcap (x.dist x.w) (x.dist i) (x.dist x.c) (max (x.dist i) (x.dist x.m)) hw' hi'
      (hi.trans hcw) ((Nat.sub_le _ _).trans hle) fun _ =>
        ⟨?_, (add_dist_mod hf _).symm, le_max_left _ _, max_le hi hmc, hcw⟩
    split
    case isTrue hm => rw [max_eq_left (Nat.le_of_lt hm), add_dist_mod hf]
    case isFalse hm => rw [max_eq_right (Nat.le_of_not_lt hm), add_dist_mod hf]

end

/-! Every queue of a machine -/

theorem queueCap_lt (q : Nat) : queueCap q < 65536 := by
  rcases q with _ | _ | _ | _ | q
  · decide
  · decide
  · decide
  · decide
  · simp [queueCap]

namespace State

section

variable {s t : State}

theorem queuesSound_congr (h : t.queues = s.queues) (hs : s.queuesSound) : t.queuesSound := by
  intro q hq
  have hqueue : t.queue q = s.queue q := by rw [queue, queue, h]
  rw [hqueue]
  exact hs q hq

variable (hs : s.queuesSound)
include hs

theorem queuesSound_setQueue {q : Nat} {x : Queue} (hx : queueSound (queueCap q) x) : (s.setQueue q x).queuesSound := by
  intro p hp
  by_cases h : p = q
  · subst h
    rw [queue_setQueue]
    exact hx
  · rw [queue_setQueue_ne s x h]
    exact hs p hp

/-! The producer and notices -/

theorem queuesSound_producePlain {q : Nat} (hq : q < 4) (e : Bytes) : (s.producePlain q e).1.queuesSound := by
  cases he : s.flag (Reg.QUE_CFG_ENABLE q) with
  | false =>
    rw [producePlain_off e he]
    exact queuesSound_setQueue hs (hs q hq)
  | true =>
    intro p hp
    by_cases h : p = q
    · subst h
      obtain ⟨armed, irq, hqueue⟩ := producePlain_queue e he
      rw [hqueue]
      exact queueSound_push (queueCap_lt p) (hs p hp) e
    · rw [producePlain_other s e h]
      exact hs p hp

theorem queuesSound_notice (code : Nat) (d : Bytes) : (s.notice code d).queuesSound := by
  cases hn : s.hubOn with
  | false => rwa [notice_off code d hn]
  | true =>
    obtain ⟨ha, -⟩ := hs 0 (by decide)
    rw [notice_on code d hn ha]
    exact queuesSound_producePlain (s := { s with nseq := (s.nseq + 1) % 65536 }) hs (by decide) _

theorem compared_of_queuesSound {q : Nat} (hq : q < 4) : s.compared q = s := by
  obtain ⟨ha, -⟩ := hs q hq
  exact compared_of_agrees ha

theorem queuesSound_produceRaw {q : Nat} (hq : q < 4) (e : Bytes) : (s.produceRaw q e).1.queuesSound := by
  rw [produceRaw, compared_of_queuesSound hs hq]
  exact queuesSound_producePlain hs hq e

theorem queuesSound_produce {q : Nat} (hq : q < 4) (e : Bytes) : (s.produce q e).queuesSound := by
  have h := queuesSound_produceRaw hs hq e
  unfold produce
  dsimp only
  split
  · exact queuesSound_notice h _ _
  · exact h

theorem queuesSound_limited (k c : Nat) (d : Nat → Bytes) (n : Nat) : (s.limited k c d n).queuesSound := by
  have hl (l : Table Limit) : ({ s with limits := l } : State).queuesSound := queuesSound_congr rfl hs
  unfold limited
  dsimp only
  split <;> split
  · exact queuesSound_notice (hl _) _ _
  · exact hl _
  · exact queuesSound_notice (hl _) _ _
  · exact hl _

theorem queuesSound_count (i n : Nat) : (s.count i n).queuesSound := by
  have hc (c : Table Nat) (o : List Nat) (l : Table Limit) :
      ({ s with counters := c, overflow := o, limits := l } : State).queuesSound := queuesSound_congr rfl hs
  unfold count
  dsimp only
  split
  · exact hs
  · split
    · exact hc _ _ _
    · apply queuesSound_limited
      exact hc _ _ _

/-! Replies and the pipeline -/

theorem queuesSound_deliver (v : Transport) (b : Bytes) : (s.deliver v b).queuesSound := by
  have hc : (if leAt b 8 1 ≤ 1 then s else s.count (0x004 + viaCode v)).queuesSound := by
    split
    · exact hs
    · exact queuesSound_count hs _ _
  unfold deliver
  dsimp only
  generalize (if leAt b 8 1 ≤ 1 then s else s.count (0x004 + viaCode v)) = u at hc ⊢
  cases v with
  | mailbox => exact queuesSound_congr (by simp) hc
  | tid0 => exact queuesSound_congr rfl hc
  | mgmt => exact queuesSound_congr rfl hc
  | usbs => exact queuesSound_congr rfl hc

theorem queuesSound_refuse (r : Request) (c : Nat) : (s.refuse r c).queuesSound := queuesSound_deliver hs _ _

theorem queuesSound_setSession (h : Nat) (x : Session) : (s.setSession h x).queuesSound := queuesSound_congr rfl hs

theorem queuesSound_answerOn (x : Option Session) (r : Request) (c : Nat) (p : Bytes) :
    (s.answerOn x r c p).queuesSound := by
  refine queuesSound_deliver ?_ _ _
  unfold keepReply
  split
  · split
    · exact queuesSound_setSession hs _ _
    · exact hs
  · exact hs

theorem queuesSound_authFailed (r : Request) : (s.authFailed r).queuesSound := by
  have h := queuesSound_refuse hs r Status.authFail
  unfold authFailed
  split
  · dsimp only
    split
    · exact queuesSound_notice (queuesSound_setSession h _ _) _ _
    · exact queuesSound_setSession h _ _
  · exact h

theorem queuesSound_enqueue (r : Request) : (s.enqueue r).queuesSound := by
  unfold enqueue
  split
  · exact hs
  · split
    · exact queuesSound_refuse hs _ _
    · split
      · exact queuesSound_refuse hs _ _
      · exact queuesSound_congr rfl hs

theorem queuesSound_resend (r : Request) (x : Session) : (s.resend r x).queuesSound := by
  unfold resend
  dsimp only
  split
  · exact queuesSound_setSession hs _ _
  · exact queuesSound_deliver (queuesSound_setSession hs _ _) _ _

theorem queuesSound_take (r : Request) : (s.take r).queuesSound := by
  have h := queuesSound_count hs (viaCode r.via) 1
  unfold take
  dsimp only
  split
  · exact queuesSound_setSession h _ _
  · exact h

end

end State

/-- The machine that a body leaves, before its reply. -/
def Answer.machine : Answer → State
  | .reply s _ _ => s
  | .later s => s

/-- A body that keeps every queue in order. -/
def keepsQueues (body : Body) : Prop := ∀ r s, s.queuesSound → (body r s).machine.queuesSound

section

variable {s : State} {op : Nat} {r : Request} {body : Body} (hb : keepsQueues body) (hs : s.queuesSound)
include hb hs

theorem State.queuesSound_execute : (s.execute op r body).queuesSound := by
  unfold execute
  dsimp only
  split
  · exact queuesSound_answerOn hs _ _ _ _
  · split
    · exact queuesSound_answerOn hs _ _ _ _
    · split
      · exact queuesSound_answerOn hs _ _ _ _
      · have h := hb r s hs
        split
        case h_1 ht => exact queuesSound_answerOn (by rwa [ht] at h) _ _ _ _
        case h_2 ht => rwa [ht] at h

/-- Whatever the pipeline answers, it keeps the queues in order where the opcode's own part does. -/
theorem State.queuesSound_command : (s.command op r body).queuesSound := by
  unfold command
  dsimp only
  split
  · exact hs
  split
  · exact queuesSound_refuse hs _ _
  split
  · exact queuesSound_enqueue hs _
  split
  · split
    · exact queuesSound_authFailed hs _
    · exact queuesSound_refuse hs _ _
  split
  · split
    · exact queuesSound_resend hs _ _
    · split
      · exact queuesSound_execute hb (queuesSound_take hs _)
      · exact queuesSound_refuse hs _ _
  · exact queuesSound_execute hb (queuesSound_take hs _)

end

end Sys2Proof.Machine

end

section
/-!
PROOFS. The queue commands keep the indices of the queues in order (R87 to R91).
-/

namespace Sys2Proof.Machine

theorem keepsQueues_onQueue {n : Nat} {body : Nat → Bytes → State → Answer}
    (h : ∀ q p s, q < 4 → s.queuesSound → (body q p s).machine.queuesSound) : keepsQueues (onQueue n body) := by
  intro r s hs
  simp only [onQueue, takes]
  split
  · exact hs
  split
  · exact hs
  split
  · exact hs
  · exact h _ _ _ (by omega) hs

/-- A row that is a queue command keeps the queues in order, whatever it answers. -/
theorem queuesSound_runCommand {s t : State} {op : Nat} {r : Request} {body : Body} (hb : keepsQueues body)
    (hs : s.queuesSound) (h : runCommand op body r s = .next t) : t.queuesSound := by
  cases h
  exact State.queuesSound_command hb hs

namespace State

section

variable {s t : State} {r : Request} (hs : s.queuesSound)
include hs

/-- The enable edge resets its queue (R91). -/
theorem queuesSound_queueRise (q : Nat) : (s.queueRise q).queuesSound :=
  queuesSound_setQueue hs (queueSound_reset (s.queue q) _ _ _)

theorem queuesSound_queueConfigure (q w : Nat) : (s.queueConfigure q w).queuesSound := by
  have hw : ((((s.wr (Reg.QUE_CFG_LEVEL q) (bits w 28 16)).wr (Reg.QUE_CFG_INT_EN q) (bits w 2 2)).wr
      (Reg.QUE_CFG_MODE q) (bits w 1 1)).wr (Reg.QUE_CFG_ENABLE q) (bits w 0 0)).queuesSound :=
    queuesSound_congr (by simp only [wr_frame]) hs
  unfold queueConfigure
  dsimp only
  split
  · exact queuesSound_queueRise hw q
  · exact hw

omit hs in
/-- Re-arming the level interrupt moves no index (R86). -/
theorem queueSound_rearm {q cap : Nat} {x : Queue} (hx : queueSound cap x) : queueSound cap (s.rearm q x) := by
  unfold rearm
  split
  · exact hx
  · exact hx

end

end State

section

variable {s t : State} {r : Request} (hs : s.queuesSound)
include hs

theorem queuesSound_onHub {f : State → State} (hf : (f s).queuesSound)
    (h : onHub f s = .next t) : t.queuesSound := by
  cases h
  split
  · exact hf
  · exact hs

theorem queuesSound_queueEnableRise {q : Fin 4} (h : execQueueEnableRise q s = .next t) : t.queuesSound := by
  refine queuesSound_onHub hs ?_ h
  split
  · exact hs
  · refine State.queuesSound_queueRise ?_ q
    exact State.queuesSound_congr (s := s) (by simp only [State.put_frame]) hs

theorem queuesSound_queueIntegrityReset {q : Fin 4} (h : execQueueIntegrityReset q s = .next t) : t.queuesSound := by
  refine queuesSound_onHub hs ?_ h
  rwa [State.compared_of_queuesSound hs q.isLt]

theorem queuesSound_queueConfig (h : execQueueConfig r s = .next t) : t.queuesSound := by
  refine queuesSound_runCommand (keepsQueues_onQueue fun q p u hq hu => ?_) hs h
  refine State.queuesSound_queueConfigure ?_ _ _
  exact State.queuesSound_congr (s := u) (by simp only [State.setReg_frame, State.wr_frame]) hu

theorem queuesSound_queueRead (h : execQueueRead r s = .next t) : t.queuesSound := by
  refine queuesSound_runCommand (keepsQueues_onQueue fun q p u hq hu => ?_) hs h
  obtain ⟨-, -, hf, -, -, -, hord⟩ := hu q hq
  dsimp only
  rw [State.compared_of_queuesSound hu hq]
  cases hd : (u.queue q).dma with
  | true => exact hu
  | false =>
    obtain ⟨hmc, hcw⟩ := hord hd
    refine State.queuesSound_setQueue hu (queueSound_consume (queueCap_lt q) (hu q hq) _ _ (add_dist_mod_add hf _ _)
      (add_dist_mod hf _).symm (hmc.trans (Nat.le_add_right _ _)) ?_)
    exact (Nat.add_le_add_left ((Nat.min_le_right _ _).trans (Nat.min_le_left _ _)) _).trans
      (Nat.add_sub_of_le hcw).le

theorem queuesSound_queueMark (h : execQueueMark r s = .next t) : t.queuesSound := by
  refine queuesSound_runCommand (keepsQueues_onQueue fun q p u hq hu => ?_) hs h
  obtain ⟨-, -, hf, -, -, -, hord⟩ := hu q hq
  dsimp only
  rw [State.compared_of_queuesSound hu hq]
  cases hd : (u.queue q).dma with
  | true => exact hu
  | false =>
    obtain ⟨hmc, hcw⟩ := hord hd
    exact State.queuesSound_setQueue hu (queueSound_consume (queueCap_lt q) (hu q hq) _ _ (add_dist_mod hf _).symm
      (add_dist_mod hf _).symm le_rfl hcw)

theorem queuesSound_queueRewind (h : execQueueRewind r s = .next t) : t.queuesSound := by
  refine queuesSound_runCommand (keepsQueues_onQueue fun q p u hq hu => ?_) hs h
  obtain ⟨-, -, hf, -, -, -, hord⟩ := hu q hq
  dsimp only
  rw [State.compared_of_queuesSound hu hq]
  cases hd : (u.queue q).dma with
  | true => exact hu
  | false =>
    obtain ⟨hmc, hcw⟩ := hord hd
    exact State.queuesSound_setQueue hu (queueSound_consume (queueCap_lt q) (hu q hq) _ _ (add_dist_mod hf _).symm
      (add_dist_mod hf _).symm le_rfl (hmc.trans hcw))

theorem queuesSound_queueRelease (h : execQueueRelease r s = .next t) : t.queuesSound := by
  refine queuesSound_runCommand (keepsQueues_onQueue fun q p u hq hu => ?_) hs h
  dsimp only
  rw [State.compared_of_queuesSound hu hq]
  by_cases hmode : ((u.queue q).dma && !bit (leAt p 3 1) 1) = true
  · rw [if_pos hmode]
    exact hu
  by_cases hbound : (bit (leAt p 3 1) 1 && decide ((u.queue q).dist (leAt p 1 2) >
      (u.queue q).dist (if (u.queue q).dma = true then (u.queue q).w else (u.queue q).c))) = true
  · rw [if_neg hmode, if_pos hbound]
    exact hu
  rw [if_neg hmode, if_neg hbound]
  refine State.queuesSound_setQueue hu (State.queueSound_rearm ?_)
  refine queueSound_releaseTo (queueCap_lt q) (hu q hq) ?_
  cases hto : bit (leAt p 3 1) 1 with
  | true =>
    rw [hto, Bool.true_and, decide_eq_true_eq] at hbound
    exact Nat.le_of_not_lt hbound
  | false =>
    rw [hto, Bool.not_false, Bool.and_true] at hmode
    rw [if_neg hmode]
    exact le_rfl

end

end Sys2Proof.Machine

open Sys2Proof Sys2Proof.Machine

/-- Settles O49: every change of a queue is an entry, a reset or a move of its indices, and each keeps the order. -/
theorem queueOrderKept : Obligations.QueueOrderKept := by
  unfold Obligations.QueueOrderKept
  refine ⟨?reset, fun s q e hs hq => ⟨State.queuesSound_produceRaw hs hq e, State.queuesSound_produce hs hq e⟩,
    fun s code d hs => State.queuesSound_notice hs code d, ?commands, ?events⟩
  case reset => exact fun q _ => queueSound_reset {} (queueCap q) false 0
  case commands =>
    intro s t r i hs hi h
    simp only [List.mem_cons, List.not_mem_nil, or_false] at hi
    rcases hi with rfl | rfl | rfl | rfl | rfl
    · exact queuesSound_queueConfig hs h
    · exact queuesSound_queueRead hs h
    · exact queuesSound_queueMark hs h
    · exact queuesSound_queueRewind hs h
    · exact queuesSound_queueRelease hs h
  case events =>
    rintro s t q hs (h | h)
    · exact queuesSound_queueEnableRise hs h
    · exact queuesSound_queueIntegrityReset hs h

end

section
/-!
PROOFS. What the queue commands and events answer once their own checks pass (R83 to R91).
-/

namespace Sys2Proof.Machine

/-- A queue number that the command takes: 0 to 3, and 0 alone in RECOVERY (R88, R599). -/
theorem onQueue_ok {n k : Nat} {body : Nat → Bytes → State → Answer} {q : Request} {u : State}
    (hl : n ≤ q.pkt.params.length) (hk : k = leAt q.pkt.params 0 1) (h3 : k ≤ 3) (hm : u.mode = 0 → k = 0) :
    onQueue n body q u = body k q.pkt.params u := by
  subst hk
  refine (takes_of_length hl).trans ((if_neg (Nat.not_lt.2 h3)).trans (if_neg ?_))
  simpa using hm

theorem releaseTo_dma {x : Queue} (i : Nat) (hd : x.dma = true) : releaseTo x i = x.move x.w i 0 0 :=
  if_pos hd

theorem releaseTo_command {x : Queue} (i : Nat) (hd : x.dma = false) :
    releaseTo x i = x.move x.w i x.c (if x.dist x.m < x.dist i then i else x.m) :=
  if_neg (ne_true_of_eq_false hd)

/-- QUEUE_RELEASE with an index that may be freed up to: C, or the one its UPTO names (R88, R89). -/
theorem execQueueRelease_ok {s u v : State} {r : Request} {q i flags : Nat} {x : Queue} (h : s.passes 0x0114 r = true)
    (he : u = s.begun 0x0114 r) (hl : 4 ≤ r.pkt.params.length) (hq : q = leAt r.pkt.params 0 1) (h3 : q ≤ 3)
    (hm : u.mode = 0 → q = 0) (hv : v = u.compared q) (hx : x = v.queue q) (hflags : flags = leAt r.pkt.params 3 1)
    (hmode : x.dma = true → bit flags 1 = true)
    (hi : i = if bit flags 1 then leAt r.pkt.params 1 2 else x.c)
    (hb : bit flags 1 = true → x.dist i ≤ x.dist (if x.dma then x.w else x.c)) :
    execQueueRelease r s = .next ((v.setQueue q (v.rearm q { releaseTo x i with
      lost := if bit flags 0 then 0 else (releaseTo x i).lost })).answered u 0x0114 r 0 []) := by
  subst he hv hx hflags hi
  refine runCommand_reply h ((onQueue_ok (q := asked 0x0114 r) hl hq h3 hm).trans ((if_neg ?_).trans (if_neg ?_)))
  · simpa using hmode
  · rw [Bool.and_eq_true, decide_eq_true_eq, asked_params]
    rintro ⟨hto, hgt⟩
    have hle := hb hto
    rw [if_pos hto] at hle
    exact Nat.not_lt.2 hle hgt

theorem execQueueEnableRise_off {s : State} {q : Fin 4} (hn : s.hubOn = true)
    (he : s.flag (Reg.QUE_CFG_ENABLE q) = false) :
    execQueueEnableRise q s = .next ((s.put (Reg.QUE_CFG_ENABLE q) true).queueRise q) := by
  rw [execQueueEnableRise, onHub_on _ hn, if_neg (ne_true_of_eq_false he)]

theorem execQueueIntegrityReset_on {s : State} (q : Fin 4) (hn : s.hubOn = true) :
    execQueueIntegrityReset q s = .next (s.compared q) := onHub_on _ hn

/-- Copies that differ reset their queue; the notice that says so needs the notice queue's own copies to agree (R87). -/
theorem State.compared_of_differs {s : State} {q : Nat} (ha : (s.queue q).agrees = false)
    (h0 : q = 0 ∨ (s.queue 0).agrees = true) : s.compared q = s.integrityReset q := by
  rw [State.compared, if_neg (ne_true_of_eq_false ha)]
  rcases h0 with rfl | h0
  · exact if_pos rfl
  · rw [State.noticeCompared_of_agrees h0]
    split
    case isTrue hq => rw [eq_of_beq hq]
    case isFalse => rfl

end Sys2Proof.Machine

open Sys2Proof Sys2Proof.Machine

/-- Settles O9, a command or an event at a time. -/
theorem queueCommandsAndEvents : Obligations.QueueCommandsAndEvents := by
  unfold Obligations.QueueCommandsAndEvents
  refine ⟨?config, ?read, ?mark, ?rewind, ?release, ?releaseDma, ?releaseTo, ?rise, ?agrees, ?differs⟩
  case config =>
    rintro s _ r q h rfl hl hq h3 hm
    exact runCommand_reply h (onQueue_ok (q := asked 0x0110 r) hl hq h3 hm)
  case read =>
    rintro s _ r q _ _ _ h rfl hl hq h3 hm rfl rfl hd rfl
    exact runCommand_reply h ((onQueue_ok (q := asked 0x0111 r) hl hq h3 hm).trans (if_neg (ne_true_of_eq_false hd)))
  case mark =>
    rintro s _ r q _ _ h rfl hl hq h3 hm rfl rfl hd
    exact runCommand_reply h ((onQueue_ok (q := asked 0x0112 r) hl hq h3 hm).trans (if_neg (ne_true_of_eq_false hd)))
  case rewind =>
    rintro s _ r q _ _ h rfl hl hq h3 hm rfl rfl hd
    exact runCommand_reply h ((onQueue_ok (q := asked 0x0113 r) hl hq h3 hm).trans (if_neg (ne_true_of_eq_false hd)))
  case release =>
    intro s u r q x v h he hl hq h3 hm hv hx hd hf
    refine (execQueueRelease_ok (flags := 0) (i := x.c) h he hl hq h3 hm hv hx hf.symm (by simp [hd]) rfl
      fun hto => absurd hto (by decide)).trans ?_
    rw [releaseTo_command _ hd]
    rfl
  case releaseDma =>
    intro s u r q x v h he hl hq h3 hm hv hx hd hf hi
    refine (execQueueRelease_ok (flags := 3) h he hl hq h3 hm hv hx hf.symm (fun _ => by decide) rfl
      fun _ => by rw [hd]; exact hi).trans ?_
    rw [releaseTo_dma _ hd]
    rfl
  case releaseTo =>
    intro s u r q i x v h he hl hq h3 hm hv hx hd hf hi hc
    refine (execQueueRelease_ok (flags := 2) h he hl hq h3 hm hv hx hf.symm (fun _ => by decide) hi
      fun _ => by rw [hd]; exact hc).trans ?_
    rw [releaseTo_command _ hd]
    rfl
  case rise => exact fun s q hn he => execQueueEnableRise_off hn he
  case agrees =>
    exact fun s q hn ha => (execQueueIntegrityReset_on q hn).trans (congrArg _ (State.compared_of_agrees ha))
  case differs =>
    exact fun s q hn ha h0 => (execQueueIntegrityReset_on q hn).trans (congrArg _ (State.compared_of_differs ha h0))

end

section
/-!
PROOFS. The step, the transports, and the timers, jobs and restarts of the command interface (R54 to R77, R193, R590,
R593, R651).
-/

namespace Sys2Proof.Machine

variable {s : State}

/-! The step -/

theorem step_front {c : Instr} {rest : List Instr} (h : s.pending = c :: rest) :
    step s = exec c { s with pending := rest } := by
  rw [step, h]

theorem step_idle (h : s.pending = []) : step s = idleStep s := by
  rw [step, h]

/-! The mailbox and its relay -/

theorem execMailboxGo_busy (e : Bool) (hn : s.hubOn = true) (hb : s.cmd.mbxBusy = true) :
    execMailboxGo e s = .next (s.withCmd fun c => { c with mbxIrqEn := e, mbxOverrun := true }) := by
  rw [execMailboxGo, onHub_on _ hn]
  exact congrArg _ (if_pos hb)

/-- At a station a GO hands the request to its own Scribe (R57). -/
theorem execMailboxGo_station {a : State} (e : Bool) (hn : s.hubOn = true) (hb : s.cmd.mbxBusy = false)
    (hr : s.isRoot = false)
    (ha : a = s.withCmd fun c => { c with mbxIrqEn := e, mbxBusy := true, mbxDone := false, mbxReplyLen := 0 }) :
    execMailboxGo e s = .next (a.enqueue a.mailboxRequest) := by
  subst ha
  have ht : ((if s.isRoot = true then s.cmd.mbxTarget else 0) == 0 || s.cmd.restarting) = true := by
    rw [if_neg (ne_true_of_eq_false hr)]
    rfl
  rw [execMailboxGo, onHub_on _ hn]
  exact congrArg _ ((if_neg (ne_true_of_eq_false hb)).trans (if_pos ht))

theorem execRelayTimeout_relayed {p : Nat} {r : Request} (hn : s.hubOn = true) (hr : s.cmd.relay = some (p, r)) :
    execRelayTimeout s = .next ((s.withCmd fun c => { c with relay := none }).refuse r 0x35) := by
  rw [execRelayTimeout, onHub_on _ hn]
  simp only [hr]
  rfl

/-- The reply of the station that was asked, by position, SEQ and opcode (R59). -/
theorem execRelayedReplyArrival_asked {p : Fin 33} {r : Request} {b : Bytes} (hn : s.hubOn = true)
    (hr : s.cmd.relay = some (p.val, r)) (hq : (parsePacket b).seq = r.pkt.seq)
    (ho : (parsePacket b).opcode = r.pkt.opcode) : execRelayedReplyArrival p b s =
      .next ((s.withCmd fun c => { c with relay := none }).deliver .mailbox b) := by
  rw [execRelayedReplyArrival, onHub_on _ hn]
  simp only [State.relayedReply, hr, hq, ho, beq_self_eq_true, Bool.and_self, if_true]
  rfl

/-! MGMT -/

theorem State.hubOn_of_serving (h : s.serving = true) : s.hubOn = true := by
  simp only [State.serving, State.hubOn, Bool.and_eq_true, Bool.or_eq_true] at h ⊢
  exact ⟨h.1, .inr h.2⟩

section

variable {a : State} {f : MgmtFrame} (b : Bytes) (ha : a = s.mgmtStart f.addr)
include ha

/-- A transaction that is not Damya's (R60). -/
theorem execMgmtRequest_other (hd : a.mgmtAddressed f.addr = false) : execMgmtRequest f b s = .next a := by
  subst ha
  rw [execMgmtRequest, onHub]
  simp only [State.mgmtRequest, hd, Bool.not_false, if_true, ite_self]

variable (hd : a.mgmtAddressed f.addr = true)
include hd

/-- One packet behind frame byte 0xA1, while the request buffer is free or not (R60, R62). -/
theorem execMgmtRequest_packet (hf : f.byte = 0xA1) (hs : a.serving = true) : execMgmtRequest f b s =
    .next (if a.cmd.mgmtBusy = true then a.count 0x009
      else (a.withCmd fun c => { c with mgmtBusy := true }).enqueue { via := .mgmt, pkt := parsePacket b }) := by
  subst ha
  rw [execMgmtRequest, onHub_on _ (State.hubOn_of_serving hs)]
  simp only [State.mgmtRequest, hd, hf, hs, Bool.not_true, Bool.false_eq_true, if_false, beq_self_eq_true, if_true]
  rfl

theorem execMgmtRequest_badFrame (hn : a.hubOn = true) (h1 : f.byte ≠ 0xA1) (h2 : f.byte ≠ 0xA2) (h3 : f.byte ≠ 0xA3) :
    execMgmtRequest f b s = .next (a.count 0x008) := by
  subst ha
  rw [execMgmtRequest, onHub_on _ hn]
  simp only [State.mgmtRequest, hd, beq_false_of_ne h1, beq_false_of_ne h2, beq_false_of_ne h3, Bool.or_self,
    Bool.not_true, Bool.false_eq_true, if_false]

end

section

variable {a : State} {n : MgmtRead} (ha : a = s.mgmtStart n.addr) (hd : a.mgmtAddressed n.addr = true)
  (hm : a.mgmtAnswers = true) (hn : a.hubOn = true)
include ha hd hm hn

theorem execMgmtReplyRead_whole {b : Bytes} (hr : a.cmd.mgmtReply = some b) (hl : b.length ≤ n.count) :
    execMgmtReplyRead n s = .next (((a.emit (.mgmt (padTo n.count b))).withCmd fun c =>
      { c with mgmtReply := none }).handOver .mgmt) := by
  subst ha
  rw [execMgmtReplyRead, onHub_on _ hn]
  simp only [State.mgmtReplyRead, hd, hm, hr, Bool.not_true, Bool.or_self, Bool.false_eq_true, if_false]
  exact congrArg _ (if_pos hl)

theorem execMgmtReplyRead_none (hr : a.cmd.mgmtReply = none) :
    execMgmtReplyRead n s = .next (a.emit (.mgmt (zeros n.count))) := by
  subst ha
  rw [execMgmtReplyRead, onHub_on _ hn]
  simp only [State.mgmtReplyRead, hd, hm, hr, Bool.not_true, Bool.or_self, Bool.false_eq_true, if_false]

end

/-- MGMT drives the status byte where it answers at all (R61, R635). -/
theorem execMgmtStatusRead_eq {a : State} (ha : a = s.mgmtStart (BitVec.ofNat 7 (s.setting 0x0005))) :
    execMgmtStatusRead s =
      .next (if (!a.pins.mgmtI2c || a.serving) = true then a.emit (.mgmt [byte a.mgmtStatus]) else a) := by
  subst ha
  rfl

/-! USBS -/

section

variable (b : Bytes) (hs : s.serving = true) (hu : s.usbsServes 0x01 = true)
include hs hu

/-- A request on USBS is taken, or held behind a reply that has not been read (R63). -/
theorem execUsbsRequest_served : execUsbsRequest b s = .next
    (if ((s.count 0x1A8).cmd.usbsReply.isSome || (s.count 0x1A8).cmd.usbsBusy) = true then
      (s.count 0x1A8).withCmd fun c => { c with usbsHeld := some b }
    else ((s.count 0x1A8).withCmd fun c => { c with usbsBusy := true }).enqueue
      { via := .usbs, pkt := parsePacket b }) := by
  rw [execUsbsRequest, onHub_on _ (State.hubOn_of_serving hs), hu, hs]
  rfl

end

/-- After a reply on USBS, a request held behind it is taken (R63). -/
def State.takeHeld (s : State) : State :=
  match s.cmd.usbsHeld with
  | some q => (s.withCmd fun c => { c with usbsHeld := none, usbsBusy := true }).enqueue
      { via := .usbs, pkt := parsePacket q }
  | none => s

theorem State.takeHeld_none (h : s.cmd.usbsHeld = none) : s.takeHeld = s := by
  rw [State.takeHeld, h]

theorem execUsbsReplyRead_reply {b : Bytes} (hn : s.hubOn = true) (hu : s.usbsServes 0x82 = true)
    (hr : s.cmd.usbsReply = some b) :
    execUsbsReplyRead s = .next ((((s.withCmd fun c => { c with usbsReply := none }).emit (.usb 8 "bulk in" []
      b)).count 0x1A9).handOver .usbs).takeHeld := by
  rw [execUsbsReplyRead, onHub_on _ hn, hu, hr]
  rfl

theorem execUsbsReplyRead_last {b : Bytes} (hn : s.hubOn = true) (hu : s.usbsServes 0x82 = true)
    (hr : s.cmd.usbsReply = some b) (hh : s.cmd.usbsHeld = none) :
    execUsbsReplyRead s = .next ((((s.withCmd fun c => { c with usbsReply := none }).emit (.usb 8 "bulk in" []
      b)).count 0x1A9).handOver .usbs) := by
  rw [execUsbsReplyRead_reply hn hu hr, State.takeHeld_none]
  simpa only [State.handOver, State.count_keeps, State.emit_frame, State.withCmd_cmd] using hh

/-! The trunk's requests, and the replies that a transport has sent -/

theorem execTid0Request_on {y : Bool} {b : Bytes} (hn : s.hubOn = true) :
    execTid0Request y b s = .next (s.enqueue { via := .tid0, pkt := parsePacket b, sys := y }) :=
  onHub_on _ hn

theorem execReplyHandedOver_kept (v : Transport) (hn : s.hubOn = true) :
    execReplyHandedOver v false s = .next (s.handOver v) := by
  rw [execReplyHandedOver, onHub_on _ hn]
  simp only [Bool.and_false, Bool.false_eq_true, if_false]

/-- DONE, cleared by its reader (R57). -/
theorem execReplyHandedOver_cleared (hn : s.hubOn = true) : execReplyHandedOver .mailbox true s =
    .next ((s.withCmd fun c => { c with mbxDone := false }).handOver .mailbox) :=
  onHub_on _ hn

end Sys2Proof.Machine

open Sys2Proof Sys2Proof.Machine

/-- Settles O38. -/
theorem stepRunsTheFront : Obligations.StepRunsTheFront := fun _ _ _ h => step_front h

/-- Settles O39. -/
theorem emptyQueueStep : Obligations.EmptyQueueStep := by
  unfold Obligations.EmptyQueueStep
  refine ⟨?none, ?row, ?other⟩
  case none =>
    intro s h hq
    rw [step_idle h, idleStep, hq]
  case row =>
    intro s t r i h hq hi
    rw [step_idle h, idleStep, hq]
    simp only [hi]
  case other =>
    intro s t r h hq hi
    rw [step_idle h, idleStep, hq]
    simp only [hi]

/-- Settles O6, an event at a time. -/
theorem transportEvents : Obligations.TransportEvents := by
  unfold Obligations.TransportEvents
  refine ⟨fun s e hn hb => execMailboxGo_busy e hn hb, fun s a e hn hb hr ha => execMailboxGo_station e hn hb hr ha,
    fun s p r hn hr => execRelayTimeout_relayed hn hr,
    fun s p r b hn hr hq ho => execRelayedReplyArrival_asked hn hr hq ho, ?mgmtFree, ?mgmtBusy, ?mgmtBadFrame,
    fun s a f b ha hd => execMgmtRequest_other b ha hd, ?mgmtReply, ?mgmtNoReply, ?statusServing, ?statusSpi, ?statusI2c,
    fun s y b hn => execTid0Request_on hn, ?usbsFree, ?usbsHeld, fun s b hn hu hr hh => execUsbsReplyRead_last hn hu hr hh,
    fun s v hn => execReplyHandedOver_kept v hn, fun s hn => execReplyHandedOver_cleared hn⟩
  case mgmtFree =>
    intro s a f b ha hd hf hs hb
    exact (execMgmtRequest_packet b ha hd hf hs).trans (congrArg _ (if_neg (ne_true_of_eq_false hb)))
  case mgmtBusy =>
    intro s a f b ha hd hf hs hb
    exact (execMgmtRequest_packet b ha hd hf hs).trans (congrArg _ (if_pos hb))
  case mgmtBadFrame => exact fun s a f b ha hd hn h1 h2 h3 => execMgmtRequest_badFrame b ha hd hn h1 h2 h3
  case mgmtReply => exact fun s a b n ha hd hm hn hr hl => execMgmtReplyRead_whole ha hd hm hn hr hl
  case mgmtNoReply => exact fun s a n ha hd hm hn hr => execMgmtReplyRead_none ha hd hm hn hr
  case statusServing =>
    intro s a ha hs
    refine (execMgmtStatusRead_eq ha).trans ?_
    rw [hs, Bool.or_true, if_pos rfl, State.mgmtStatus, hs]
    rfl
  case statusSpi =>
    intro s a ha hs hp
    refine (execMgmtStatusRead_eq ha).trans ?_
    rw [hp, State.mgmtStatus, hs]
    rfl
  case statusI2c =>
    intro s a ha hs hp
    refine (execMgmtStatusRead_eq ha).trans ?_
    rw [hp, hs]
    rfl
  case usbsFree =>
    intro s b hs hu hr hb
    refine (execUsbsRequest_served b hs hu).trans (congrArg _ (if_neg ?_))
    simp [hr, hb]
  case usbsHeld =>
    intro s b hs hu hr
    refine (execUsbsRequest_served b hs hu).trans (congrArg _ (if_pos ?_))
    simp [hr]
end

section
/-!
PROOFS. The session timers, the password derivation, the jobs' ends and the hitless restart (R67, R68, R72 to R77, R193,
R590, R593).
-/

namespace Sys2Proof.Machine

variable {s : State}

/-! Sessions -/

theorem execHalfOpenSessionTimeout_halfOpen (h : Fin 9) (hn : s.hubOn = true) (hp : (s.session h).phase = .halfOpen) :
    execHalfOpenSessionTimeout h s = .next (s.closeSession h 5) := by
  rw [execHalfOpenSessionTimeout, onHub_on _ hn, if_pos (beq_iff_eq.2 hp)]

theorem execSessionIdleTimeout_opened (h : Fin 9) (hn : s.hubOn = true) (hp : (s.session h).phase = .opened)
    (ht : s.setting 0x0004 ≠ 0) : execSessionIdleTimeout h s = .next (s.closeSession h 1) := by
  have hc : ((s.session h).phase == .opened && s.setting 0x0004 != 0) = true :=
    Bool.and_eq_true_iff.2 ⟨beq_iff_eq.2 hp, bne_iff_ne.2 ht⟩
  rw [execSessionIdleTimeout, onHub_on _ hn, if_pos hc]

/-- A wrong password starts the lockout and is told in a notice (R75, R77). -/
theorem execPasswordDerivationDone_wrong {a : State} {d : Derivation} {salt v : Bytes} (hn : s.hubOn = true)
    (hd : s.cmd.derivation = some d) (hp : s.nv.password = some (salt, v)) (hw : sha256 (pbkdf2 d.password salt) ≠ v)
    (ha : a = { s with cmd := { s.cmd with derivation := none },
                       nib := { s.nib with wrongPasswords := s.nib.wrongPasswords + 1, lockout := true } }) :
    execPasswordDerivationDone s =
      .next ((a.notice 0x0202 [byte (min (s.nib.wrongPasswords + 1) 255)]).answer d.req 0x22) := by
  subst ha
  rw [execPasswordDerivationDone, onHub_on _ hn]
  simp only [hd, hp, beq_false_of_ne hw, State.passwordResult, Bool.false_eq_true, if_false]

theorem execPasswordLockoutEnd_on (hn : s.nib.on = true) :
    execPasswordLockoutEnd s = .next { s with nib := { s.nib with lockout := false } } := onNib_on _ hn

/-! Jobs -/

/-- Outside a restart a job that ends is reported as it ends (R67, R68). -/
theorem execJobComplete_reported {j : Job} (g : Bool) (hn : s.hubOn = true)
    (hj : s.cmd.jobs.find? (fun k => k.num == j.num) = some j) (hm : s.jobMayEnd j = true)
    (hr : (s.jobEffect j g).1.cmd.restarting = false) :
    execJobComplete j.num g s = .next ((s.jobEffect j g).1.jobDone j (s.jobEffect j g).2) := by
  rw [execJobComplete, onHub_on _ hn, hj]
  exact congrArg _ ((if_pos hm).trans (if_neg (ne_true_of_eq_false hr)))

theorem execPositionAssignDelayEnd_notDue (hn : s.hubOn = true) (hd : s.tun.assignDue = false) :
    execPositionAssignDelayEnd s = .next (s.tun.assignWaiters.foldl
      (fun (t : State) r => t.answer r 0 [byte (t.rd Reg.TUN_LINE_STATIONS)])
      (s.withTun fun n => { n with assignDue := false, assignWaiters := [] })) := by
  rw [execPositionAssignDelayEnd, onHub_on _ hn, hd]
  rfl

/-! The hitless restart -/

/-- A restart for any cause but an activation reloads the image that runs (R593). -/
theorem execHitlessRestartBegin_sameSlot {c : Fin 3} (hs : s.serving = true) (hm : s.mode ≠ 0) (hc : c ≠ 0) :
    execHitlessRestartBegin c s = .next (s.beginRestart c s.fw.slot) := by
  have hcause : (c.val == 0) = false := beq_false_of_ne fun h => hc (Fin.ext h)
  rw [execHitlessRestartBegin, onHub_on _ (State.hubOn_of_serving hs)]
  simp only [hs, hcause, beq_false_of_ne hm, Bool.not_true, Bool.or_self, Bool.false_eq_true, if_false]

/-- An image that can be read runs, and the restart is told with its cause and how long it took (R593). -/
theorem execHitlessRestartEnd_good {a : State} {c k : Nat} {b : Bytes} (ms : Nat) (hn : s.hubOn = true)
    (hr : s.fw.restart = some (c, k)) (hb : s.imagePlain k = some b)
    (ha : a = (((((s.runImage k (s.slotState k == 3) b).withFw fun f => { f with restart := none }).withCmd fun c =>
      { c with restarting := false }).bump Reg.FWU_RESTART_COUNT).wr Reg.FWU_RESTART_DUR_MS (min ms 0xFFFF))) :
    execHitlessRestartEnd true ms s =
      .next ((a.cmd.jobs.foldl State.reportJob a).notice 0x0604 ([byte c] ++ le 2 (min ms 0xFFFF))) := by
  subst ha
  rw [execHitlessRestartEnd, onHub_on _ hn]
  simp only [hr, hb]
  rfl

theorem execHitlessRestartEnd_noImage {c k : Nat} (g : Bool) (ms : Nat) (hn : s.hubOn = true)
    (hr : s.fw.restart = some (c, k)) (hb : s.imagePlain k = none) :
    execHitlessRestartEnd g ms s = .next (s.hubReset 0x07 0x01) := by
  rw [execHitlessRestartEnd, onHub_on _ hn]
  simp only [hr, hb]

theorem execSubprocessorSafePoint_waiting {k : Fin 6} {b : Bytes} (hn : s.hubOn = true)
    (hw : s.fw.waiting.find? (fun e => e.1 == k.val) = some (k.val, b)) :
    execSubprocessorSafePoint k s = .next (s.withFw fun f =>
      { f with loaded := Table.set (fun _ => []) f.loaded k.val b,
               waiting := f.waiting.filter fun x => x.1 != k.val }) := by
  rw [execSubprocessorSafePoint, onHub_on _ hn, hw]

end Sys2Proof.Machine

open Sys2Proof Sys2Proof.Machine

/-- Settles O7, an event at a time. -/
theorem sessionTimersAndJobs : Obligations.SessionTimersAndJobs := by
  unfold Obligations.SessionTimersAndJobs
  exact ⟨fun s h hn hp => execHalfOpenSessionTimeout_halfOpen h hn hp,
    fun s h hn hp ht => execSessionIdleTimeout_opened h hn hp ht,
    fun s a d salt v hn hd hp hw ha => execPasswordDerivationDone_wrong hn hd hp hw ha,
    fun s hn => execPasswordLockoutEnd_on hn,
    fun s j g hn hj hm hr => execJobComplete_reported g hn hj hm hr,
    fun s c hs hm hc => execHitlessRestartBegin_sameSlot hs hm hc,
    fun s a ms c k b hn hr hb ha => execHitlessRestartEnd_good ms hn hr hb ha,
    fun s ms c k hn hr hb => execHitlessRestartEnd_noImage true ms hn hr hb,
    fun s k b hn hw => execSubprocessorSafePoint_waiting hn hw,
    fun s hn hd => execPositionAssignDelayEnd_notDue hn hd⟩

end

section
/-!
PROOFS. What the firmware and settings commands answer once their own checks pass (R67, R591, R592, R597).
-/

namespace Sys2Proof.Machine

variable {s u : State} {r : Request}

theorem State.startJob_started {op : Nat} {k : JobKind} (h : s.cmd.jobs.length < 2) :
    s.startJob op k = .reply (s.withCmd fun c =>
      { c with jobs := c.jobs ++ [{ num := c.lastJob % 255 + 1, opcode := op, kind := k }],
               lastJob := c.lastJob % 255 + 1 }) 1 [byte (s.cmd.lastJob % 255 + 1), 0, 0, 0] :=
  if_neg (Nat.not_le.2 h)

/-- Erasing a slot's sectors is flash work alone: Scribe's own state stays. -/
theorem State.eraseSectors_cmd (s : State) (k n : Nat) : (s.eraseSectors k n).cmd = s.cmd := by
  rw [State.eraseSectors, State.setFlashSlot]
  split <;> rfl

/-- Outside RECOVERY, FW_BEGIN for a slot that is not in use erases its sectors and starts the job (R591). -/
theorem execFwBegin_started {n k : Nat} {t : State} (h : s.passes 0x0600 r = true) (he : u = s.begun 0x0600 r)
    (hl : 8 ≤ r.pkt.params.length) (hn : n = leAt r.pkt.params 4 4) (h1 : 4112 ≤ n) (h2 : n ≤ 12582912) (hm : u.mode ≠ 0)
    (hk : k = leAt r.pkt.params 0 1) (hk1 : k ≤ 1) (hs : k ≠ u.fw.slot) (ht : u.trialSlot = none)
    (hg : u.groupJob 6 = false) (hj : u.cmd.jobs.length < 2)
    (hT : t = ((u.setSlotState k 0 0).eraseSectors k n).withFw fun f =>
      { f with update := some (k, n), written := [], length := n }) :
    execFwBegin r s = .next ((t.withCmd fun c =>
      { c with jobs := c.jobs ++ [{ num := c.lastJob % 255 + 1, opcode := 0x0600, kind := .fwBegin k n }],
               lastJob := c.lastJob % 255 + 1 }).answered u 0x0600 r 1 [byte (t.cmd.lastJob % 255 + 1), 0, 0, 0]) := by
  subst he
  have hrom : (s.begun 0x0600 r).fromRom = false := beq_false_of_ne hm
  have hslot : (s.begun 0x0600 r).beginSlot (leAt r.pkt.params 0 1) = some k := by
    rw [State.beginSlot, ← hk, if_pos hk1]
  have hlen : (decide (n < 4112) || decide (n > 12 * 1024 * 1024)) = false := by
    simp only [Bool.or_eq_false_iff, decide_eq_false_iff_not]
    omega
  have hT2 : t.cmd.jobs.length < 2 := by
    simp only [hT, State.withFw_frame, State.eraseSectors_cmd]
    exact hj
  refine runCommand_takes h hl ?_
  simp only [hslot, ← hn, hlen, hrom, ht, hg, beq_false_of_ne hs, State.startJob_started hj, ← hT, Bool.false_and,
    Bool.not_false, Bool.true_and, Option.isSome_none, Bool.or_self, Bool.false_eq_true, if_false]
  exact State.startJob_started hT2

/-- A block of the update in progress, not yet written (R592). -/
theorem execFwWriteBlock_started {k n o : Nat} (h : s.passes 0x0601 r = true) (he : u = s.begun 0x0601 r)
    (hl : 64 ≤ r.pkt.params.length) (hu : u.fw.update = some (k, n)) (ho : o = leAt r.pkt.params 0 4)
    (halign : o % 4096 = 0) (hin : o < n) (hlen : leAt r.pkt.params 4 2 = blockLen n o)
    (hdata : (r.pkt.params.drop 64).length = blockLen n o)
    (hhash : sha256 (r.pkt.params.drop 64) = slice r.pkt.params 8 32)
    (hw : Table.get (fun _ => []) u.fw.written (o / 4096) = []) (hne : slice r.pkt.params 8 32 ≠ [])
    (hj : u.cmd.jobs.length < 2) :
    execFwWriteBlock r s = .next ((u.withCmd fun c =>
      { c with jobs := c.jobs ++ [{ num := c.lastJob % 255 + 1, opcode := 0x0601,
                                    kind := .fwBlock k (o / 4096) (r.pkt.params.drop 64) }],
               lastJob := c.lastJob % 255 + 1 }).answered u 0x0601 r 1 [byte (u.cmd.lastJob % 255 + 1), 0, 0, 0]) := by
  refine runCommand_startJob h he ?_ hj
  have hbound : decide (o ≥ n) = false := decide_eq_false (Nat.not_le.2 hin)
  have hnew : (([] : Bytes) == slice r.pkt.params 8 32) = false := beq_false_of_ne hne.symm
  refine (takes_of_length (r := asked 0x0601 r) hl).trans ?_
  simp only [asked_params, hu, ← ho, halign, hbound, hlen, hdata, hhash, hw, hnew, bne_self_eq_false, Bool.or_self,
    Bool.false_eq_true, if_false]

theorem execFwVerify_started {k n : Nat} (h : s.passes 0x0602 r = true) (he : u = s.begun 0x0602 r)
    (hu : u.fw.update = some (k, n)) (hj : u.cmd.jobs.length < 2) :
    execFwVerify r s = .next ((u.withCmd fun c =>
      { c with jobs := c.jobs ++ [{ num := c.lastJob % 255 + 1, opcode := 0x0602, kind := .fwVerify k }],
               lastJob := c.lastJob % 255 + 1 }).answered u 0x0602 r 1 [byte (u.cmd.lastJob % 255 + 1), 0, 0, 0]) :=
  runCommand_startJob h he (by simp only [hu]) hj

/-- MODE 2 leaves the slot that was verified for the next start (R591). -/
theorem execFwActivate_nextStart {k : Nat} (h : s.passes 0x0603 r = true) (he : u = s.begun 0x0603 r)
    (hl : 4 ≤ r.pkt.params.length) (hmode : leAt r.pkt.params 0 1 = 2)
    (hk : [0, 1].find? (fun j => u.slotState j == 2) = some k)
    (hv : u.rd Reg.FWU_RUN_VERSION ≤ hdrVersion (u.imageHeader k)) (ht : u.trialSlot = none)
    (hg : u.groupJob 6 = false) :
    execFwActivate r s = .next ((((u.setSlotState k 3 0).withFw fun f => { f with update := none }).notice 0x0601
      ([byte k] ++ le 4 (hdrVersion (u.imageHeader k)) ++ [2])).answered u 0x0603 r 0 []) := by
  subst he
  have hold : decide (hdrVersion ((s.begun 0x0603 r).imageHeader k) < (s.begun 0x0603 r).rd Reg.FWU_RUN_VERSION) = false :=
    decide_eq_false (Nat.not_lt.2 hv)
  refine runCommand_takes_request h hl ?_
  simp only [hmode, hk, hold, ht, hg]
  rfl

theorem execFwStatus_ok (h : s.passes 0x0604 r = true) (he : u = s.begun 0x0604 r) :
    execFwStatus r s = .next (u.answered u 0x0604 r 0 u.fwStatus) := by
  subst he
  exact runCommand_reply h rfl

/-- On trial, the image in use is confirmed in the boot record and told in a notice (R591). -/
theorem execFwConfirm_trial {t : State} (h : s.passes 0x0605 r = true) (he : u = s.begun 0x0605 r)
    (hf : u.fw.trial = true)
    (ht : t = (u.setSlotState u.fw.slot 4 (u.slotAttempts u.fw.slot)).withFw fun f => { f with trial := false }) :
    execFwConfirm r s = .next
      ((t.notice 0x0603 ([byte u.fw.slot] ++ le 4 (t.rd Reg.FWU_RUN_VERSION))).answered u 0x0605 r 0 []) := by
  subst he ht
  refine runCommand_reply h ?_
  rw [hf]
  rfl

section

variable (h : s.passes 0x0606 r = true) (he : u = s.begun 0x0606 r) (hl : 4 ≤ r.pkt.params.length)
  (hid : settingKnown (leAt r.pkt.params 0 2) = true)
include h he hl hid

theorem execSettingsRead_stored {v : Bytes} (hv : u.settingRecord (leAt r.pkt.params 0 2) = some v) :
    execSettingsRead r s = .next (u.answered u 0x0606 r 0 (le 2 v.length ++ [0, 0] ++ v)) := by
  subst he
  refine runCommand_takes h hl ?_
  simp only [hid, hv]
  rfl

theorem execSettingsRead_default {v : Bytes} (hn : u.settingRecord (leAt r.pkt.params 0 2) = none)
    (hv : v = (settingDefault (leAt r.pkt.params 0 2)).getD []) :
    execSettingsRead r s = .next (u.answered u 0x0606 r 0 (le 2 v.length ++ [1, 0] ++ v)) := by
  subst he hv
  refine runCommand_takes h hl ?_
  simp only [hid, hn]
  rfl

end

/-- Records that all are good start the job that stores them (R597). -/
theorem execSettingsWrite_started {l : List (Nat × Bytes)} (h : s.passes 0x0607 r = true) (he : u = s.begun 0x0607 r)
    (hl : 4 ≤ r.pkt.params.length) (hp : parseRecords (leAt r.pkt.params 0 1) (r.pkt.params.drop 4) = some l)
    (hv : l.all settingValid = true) (hj : u.cmd.jobs.length < 2) :
    execSettingsWrite r s = .next ((u.withCmd fun c =>
      { c with jobs := c.jobs ++ [{ num := c.lastJob % 255 + 1, opcode := 0x0607,
                                    kind := .settingsWrite (bit (leAt r.pkt.params 1 1) 0) l }],
               lastJob := c.lastJob % 255 + 1 }).answered u 0x0607 r 1 [byte (u.cmd.lastJob % 255 + 1), 0, 0, 0]) := by
  refine runCommand_startJob h he ((takes_of_length (r := asked 0x0607 r) hl).trans ?_) hj
  simp only [asked_params, hp, hv, if_true]

end Sys2Proof.Machine

open Sys2Proof Sys2Proof.Machine

/-- Settles O13, a command at a time. -/
theorem firmwareAndSettingsCommands : Obligations.FirmwareAndSettingsCommands := by
  unfold Obligations.FirmwareAndSettingsCommands
  refine ⟨?begin, ?block, ?verify, ?activate, fun s u r h he => execFwStatus_ok h he, ?confirm, ?stored, ?default,
    ?write⟩
  case begin =>
    intro s u r n k t h he hl hn h1 h2 hm hk hk1 hs ht hg hj hT
    exact execFwBegin_started h he hl hn h1 h2 hm hk hk1 hs ht hg hj hT
  case block =>
    intro s u r k n o h he hl hu ho halign hin hlen hdata hhash hw hne hj
    exact execFwWriteBlock_started h he hl hu ho halign hin hlen hdata hhash hw hne hj
  case verify => exact fun s u r k n h he hu hj => execFwVerify_started h he hu hj
  case activate => exact fun s u r k h he hl hmode hk hv ht hg => execFwActivate_nextStart h he hl hmode hk hv ht hg
  case confirm => exact fun s u r t h he hf ht => execFwConfirm_trial h he hf ht
  case stored => exact fun s u r v h he hl hid hv => execSettingsRead_stored h he hl hid hv
  case default => exact fun s u r v h he hl hid hn hv => execSettingsRead_default h he hl hid hn hv
  case write => exact fun s u r l h he hl hp hv hj => execSettingsWrite_started h he hl hp hv hj

end

section
/-!
PROOFS. What the eFuse, Type-C and trunk test commands answer once their own checks pass (R134 to R136, R480, R481,
R492, R517, R518, R520).
-/

namespace Sys2Proof.Machine

variable {s u : State} {r q : Request} {n : Nat}

/-- Outside RECOVERY the running image answers, not the ROM. -/
theorem State.fromRom_of_mode_ne (h : u.mode ≠ 0) : u.fromRom = false := beq_false_of_ne h

/-! EFUSE_CONTROL (R520) -/

/-- OFF, and ON of a channel with a profile, are EFUSE_CONTROL's to ask for while SRC is 0 and no test runs. -/
theorem efuseSwitch_ok {on : Bool} {t : State} (hu : u.nib.underTest.contains (0x70 + n) = false)
    (hs : u.rd (Reg.EFU_CH_CTRL_SRC n) = 0) (hp : on = true → u.fuseState n ≠ 1)
    (ht : t = (u.fuseAsk n fun x => { x with byCommand := on }).fuseServes n) :
    efuseSwitch on n u = .ok t (t.fuseReply n) := by
  subst ht
  refine (if_neg (ne_true_of_eq_false hu)).trans ((if_neg ?source).trans (if_neg ?profile))
  case source => simp [hs]
  case profile => simpa using hp

section

variable (h : s.passes 0x0803 q = true) (he : u = s.begun 0x0803 q) (hl : 4 ≤ q.pkt.params.length)
  (hn : n = leAt q.pkt.params 0 1) (h7 : n ≤ 7) (hm : u.mode ≠ 0)
include h he hl hn h7 hm

/-- Past CH and RECOVERY an operation on a channel is the operation's own body. -/
theorem efuseControl_reply {op status : Nat} {t : State} {params : Bytes} {body : Nat → State → Answer}
    (hq : q = requestWithByte r 1 op) (hb : body n u = .reply t status params) :
    efuseControl op body r s = .next (t.answered u 0x0803 q status params) := by
  subst he hq hn
  refine runCommand_takes h hl ((if_neg (Nat.not_lt.2 h7)).trans ((if_neg ?_).trans hb))
  exact ne_true_of_eq_false (State.fromRom_of_mode_ne hm)

/-- CLEAR takes a LATCHED channel that serves no Type-C port out of the latch, to NO_PROFILE where it has none (log
entry 47). -/
theorem execEfuseControlClear_latched (hq : q = requestWithByte r 1 2) {t y : State} (hst : u.fuseState n = 8)
    (h4 : n < 4) (hy : y = (u.fuseCountsReset n).clearShort n)
    (ht : t = ((y.fuseGo n (if (y.fuseProfile n).isNone then 1 else if y.fuseRequested n then 2 else 0)).fuseFollow
      n).fuseServes n) :
    execEfuseControlClear r s = .next (t.answered u 0x0803 q 0 (t.fuseReply n)) := by
  refine efuseControl_reply h he hl hn h7 hm hq ?_
  have hport : decide (4 ≤ n) = false := decide_eq_false (Nat.not_le.2 h4)
  simp only [hst, hport, ← hy, beq_self_eq_true, Bool.false_and, Bool.false_eq_true, if_true, if_false, ← ht]
  rfl

/-- CLEAR in OFF resets the counts and leaves the state as it was. -/
theorem execEfuseControlClear_off (hq : q = requestWithByte r 1 2) {t : State} (hst : u.fuseState n = 0)
    (ht : t = (u.fuseCountsReset n).clearShort n) :
    execEfuseControlClear r s = .next (t.answered u 0x0803 q 0 (t.fuseReply n)) := by
  subst ht
  refine efuseControl_reply h he hl hn h7 hm hq ?_
  simp only [hst]
  rfl

theorem execEfuseControlStatus_ok (hq : q = requestWithByte r 1 3) :
    execEfuseControlStatus r s = .next (u.answered u 0x0803 q 0 (u.fuseReply n)) :=
  efuseControl_reply h he hl hn h7 hm hq rfl

/-- TEST of a channel that is OFF and under test in SERVICE draws an offset and the outcomes of two checks as free
values. -/
theorem execEfuseControlTest_off (hq : q = requestWithByte r 1 4) (h5 : u.mode = 5)
    (hu : u.nib.underTest.contains (0x70 + n) = true) (hst : u.fuseState n = 0) :
    execEfuseControlTest r s = .next ((((u.free 16).2.free 1).2.free 1).2.answered u 0x0803 q 0
      (((((u.free 16).2.free 1).2.free 1).2.fuseReply n) ++ le 2 (u.free 16).1 ++
        [byte ((u.free 16).2.free 1).1, byte (((u.free 16).2.free 1).2.free 1).1])) := by
  refine efuseControl_reply h he hl hn h7 hm hq ((if_neg ?mode).trans (if_neg ?state))
  case mode => rw [h5, hu]; decide
  case state => rw [hst]; decide

end

/-! Profiles and tables (R480, R481, R517, R518) -/

/-- EFUSE_CURVE_LOAD of a good profile, not saved. -/
theorem execEfuseCurveLoad_loaded {p : Bytes} (h : s.passes 0x0804 r = true) (he : u = s.begun 0x0804 r)
    (hl : 172 ≤ r.pkt.params.length) (hn : n = leAt r.pkt.params 0 1) (h7 : n ≤ 7) (hp : p = slice r.pkt.params 4 168)
    (hok : profileOk n p = true) (hm : u.mode ≠ 0) (hsave : leAt r.pkt.params 1 1 = 0) :
    execEfuseCurveLoad r s =
      .next (((u.loadProfile n p).fuseServes n).answered u 0x0804 r 0 [byte (leAt p 0 1)]) := by
  subst he hn hp
  have hgood : ¬(decide (leAt r.pkt.params 0 1 > 7) ||
      !profileOk (leAt r.pkt.params 0 1) (slice r.pkt.params 4 168)) = true := by
    simp [h7, hok]
  refine runCommand_takes h hl ((if_neg hgood).trans ((if_neg ?_).trans ?_))
  · exact ne_true_of_eq_false (State.fromRom_of_mode_ne hm)
  · simp only [hsave]
    rfl

/-- PD_TABLE_LOAD of a good table within the budget, not saved. -/
theorem execPdTableLoad_accepted {p : Bytes} (h : s.passes 0x0805 r = true) (he : u = s.begun 0x0805 r)
    (hl : 80 ≤ r.pkt.params.length) (hp : p = tableStored r.pkt.params) (hok : tableOk (r.pkt.params.take 80) = true)
    (hb : u.countedMw ≤ leAt p 4 4) (hsave : bit (leAt p 0 1) 0 = false) :
    execPdTableLoad r s = .next ((u.acceptTable p).answered u 0x0805 r 0 []) := by
  subst he hp
  refine runCommand_takes h hl ((if_neg (by simp [hok])).trans ((if_neg (Nat.not_lt.2 hb)).trans ?_))
  simp only [hsave]
  rfl

/-! PD_PORT_CONTROL (R492) -/

/-- What PD_PORT_CONTROL replies of port n. -/
def State.tcReply (s : State) (n : Nat) : Bytes :=
  le 4 (s.reg (Reg.TCPD_PORT_STAT_A n)).toNat ++ le 4 (s.rd (Reg.TCPD_PORT_CONTRACT_MW n)) ++
    le 4 (s.rd (Reg.TCPD_PORT_PEND_MW n)) ++ le 4 s.freeMw

section

variable (h : s.passes 0x0806 q = true) (he : u = s.begun 0x0806 q) (hl : 4 ≤ q.pkt.params.length)
  (hn : n = leAt q.pkt.params 0 1) (h3 : n ≤ 3) (hm : u.mode ≠ 0)
include h he hl hn h3 hm

/-- Past PORT and RECOVERY an operation that is not refused answers the port's state after it. -/
theorem pdPortControl_ok {op : Nat} {t : State} {body : Nat → State → State × Nat}
    (hq : q = requestWithByte r 1 op) (hb : body n u = (t, 0)) :
    pdPortControl op body r s = .next (t.answered u 0x0806 q 0 (t.tcReply n)) := by
  subst he hq hn
  refine runCommand_takes h hl ((if_neg (Nat.not_lt.2 h3)).trans ((if_neg ?_).trans ?_))
  · exact ne_true_of_eq_false (State.fromRom_of_mode_ne hm)
  · rw [hb]
    rfl

theorem execPdPortControlDisable_ok (hq : q = requestWithByte r 1 0) {t : State}
    (ht : t = (u.withTcPort n fun x => { x with disabled := true }).tcFollow n) :
    execPdPortControlDisable r s = .next (t.answered u 0x0806 q 0 (t.tcReply n)) :=
  pdPortControl_ok h he hl hn h3 hm hq (congrArg (·, 0) ht.symm)

/-- ENABLE of a port whose table entry enables it. -/
theorem execPdPortControlEnable_ok (hq : q = requestWithByte r 1 1) {t : State}
    (hen : entryEn (u.tcPort n).entry = true)
    (ht : t = (u.withTcPort n fun x => { x with disabled := false }).tcFollow n) :
    execPdPortControlEnable r s = .next (t.answered u 0x0806 q 0 (t.tcReply n)) := by
  subst ht
  exact pdPortControl_ok h he hl hn h3 hm hq (if_neg (by simp [hen]))

theorem execPdPortControlReoffer_ok (hq : q = requestWithByte r 1 2) (hst : u.tcState n = 4 ∨ u.tcState n = 5) :
    execPdPortControlReoffer r s = .next ((u.sendOffer n).answered u 0x0806 q 0 ((u.sendOffer n).tcReply n)) :=
  pdPortControl_ok h he hl hn h3 hm hq (if_pos (by simpa using hst))

theorem execPdPortControlHardReset_live (hq : q = requestWithByte r 1 3) (hlive : u.tcLive n = true) :
    execPdPortControlHardReset r s =
      .next ((u.pdHardReset n 3).answered u 0x0806 q 0 ((u.pdHardReset n 3).tcReply n)) :=
  pdPortControl_ok h he hl hn h3 hm hq (congrArg (·, 0) (if_pos hlive))

theorem execPdPortControlStatus_ok (hq : q = requestWithByte r 1 4) :
    execPdPortControlStatus r s = .next (u.answered u 0x0806 q 0 (u.tcReply n)) :=
  pdPortControl_ok h he hl hn h3 hm hq rfl

end

/-! The trunk tests (R134 to R136) -/

/-- PATTERN_CONFIG of a pattern other than the user's on a trunk under test sets the named lanes in turn. -/
theorem execPatternConfig_serviced {t : Nat} (h : s.passes 0x0902 r = true) (he : u = s.begun 0x0902 r)
    (hl : 12 ≤ r.pkt.params.length) (ht : t = leAt r.pkt.params 0 1) (h1 : t ≤ 1) (hs : u.trunkServiced t = true)
    (hlanes : leAt r.pkt.params 1 1 ≤ 31) (hpat : leAt r.pkt.params 2 1 ≤ 4) :
    execPatternConfig r s = .next (((((List.range 5).filter (bit (leAt r.pkt.params 1 1))).foldl (fun (s : State)
      k => s.setPattern t k (leAt r.pkt.params 2 1) (leAt r.pkt.params 3 1)) u).settleTest t).answered u 0x0902 r 0
      []) := by
  subst he ht
  refine runCommand_takes h hl ((if_neg (Nat.not_lt.2 h1)).trans ((if_neg ?mode).trans ((if_neg ?range).trans ?run)))
  case mode => simp [hs]
  case range =>
    simp only [Bool.or_eq_true, decide_eq_true_eq]
    omega
  case run =>
    have hother : (leAt r.pkt.params 2 1 == 5) = false := beq_false_of_ne (by omega)
    simp only [hother]
    rfl

/-- LOOPBACK_SET on a trunk under test; a near-end loop makes the clock valid (log entry 66). -/
theorem execLoopbackSet_serviced {t : Nat} {x y : State} (h : s.passes 0x0903 r = true) (he : u = s.begun 0x0903 r)
    (hl : 2 ≤ r.pkt.params.length) (ht : t = leAt r.pkt.params 0 1) (h1 : t ≤ 1) (hs : u.trunkServiced t = true)
    (hloop : leAt r.pkt.params 1 1 ≤ 3) (hx : x = (u.wr (Reg.TRL_LOOP_LOOP t) (leAt r.pkt.params 1 1)).settleTest t)
    (hy : y = if leAt r.pkt.params 1 1 = 1 ∨ leAt r.pkt.params 1 1 = 2 then x.put (Reg.TRL_STAT_CLK_VALID t) true
      else x) :
    execLoopbackSet r s = .next (y.answered u 0x0903 r 0 []) := by
  subst he ht hx hy
  refine runCommand_takes h hl ((if_neg (Nat.not_lt.2 h1)).trans ((if_neg ?mode).trans
    ((if_neg (Nat.not_lt.2 hloop)).trans ?run)))
  case mode => simp [hs]
  case run =>
    simp only [Bool.or_eq_true, beq_iff_eq]
    rfl

/-- ERROR_INJECT with its operands in range on a trunk under test does what KIND names. -/
theorem execErrorInject_serviced {t : Nat} {v : State} (h : s.passes 0x0904 r = true) (he : u = s.begun 0x0904 r)
    (hl : 9 ≤ r.pkt.params.length) (ht : t = leAt r.pkt.params 0 1) (h1 : t ≤ 1) (hs : u.trunkServiced t = true)
    (hlanes : leAt r.pkt.params 1 1 ≤ 31) (hkind : leAt r.pkt.params 2 1 ≤ 3) (hform : leAt r.pkt.params 3 1 ≤ 1)
    (hcount : 1 ≤ leAt r.pkt.params 4 1) (hgap : 64 ≤ leAt r.pkt.params 5 4)
    (hv : v = if leAt r.pkt.params 2 1 = 0 then u.injectNow t (leAt r.pkt.params 1 1) (leAt r.pkt.params 3 1) 1
      else if leAt r.pkt.params 2 1 = 1 then
        u.injectNow t (leAt r.pkt.params 1 1) (leAt r.pkt.params 3 1) (leAt r.pkt.params 4 1)
      else u.withLane t fun l => { l with
        inject := if leAt r.pkt.params 2 1 = 2 then
          some { lanes := leAt r.pkt.params 1 1, kind := leAt r.pkt.params 2 1, form := leAt r.pkt.params 3 1,
                 count := leAt r.pkt.params 4 1, interval := leAt r.pkt.params 5 4 } else none }) :
    execErrorInject r s = .next (v.answered u 0x0904 r 0 []) := by
  subst he ht hv
  refine runCommand_takes h hl ((if_neg (Nat.not_lt.2 h1)).trans ((if_neg ?mode).trans ((if_neg ?range).trans ?run)))
  case mode => simp [hs]
  case range =>
    simp only [Bool.or_eq_true, beq_iff_eq, decide_eq_true_eq]
    omega
  case run =>
    simp only [beq_iff_eq]
    split
    case isTrue => rfl
    case isFalse =>
      split
      case isTrue => rfl
      case isFalse => split <;> rfl

/-- While a rate is set, each interval injects one error on its lanes. -/
theorem execErrorInjectInterval_rate {t : Fin 2} {i : Injection} (hn : s.hubOn = true)
    (hi : (s.lane t).inject = some i) :
    execErrorInjectInterval t s = .next (s.injectNow t i.lanes i.form 1) := by
  rw [execErrorInjectInterval, onHub_on _ hn, hi]

end Sys2Proof.Machine

open Sys2Proof Sys2Proof.Machine

/-- Settles O20, a command at a time. -/
theorem powerAndTestCommands : Obligations.PowerAndTestCommands := by
  unfold Obligations.PowerAndTestCommands
  refine ⟨?off, ?on, ?clearLatched, ?clearOff, ?status, ?test, ?curve, ?table, ?disable, ?enable, ?reoffer, ?hardReset,
    ?portStatus, ?pattern, ?loop, ?injectOne, ?injectRate, fun s t i hn hi => execErrorInjectInterval_rate hn hi⟩
  case off =>
    intro s u r q n t h he hq hl hn h7 hm hu hs ht
    exact efuseControl_reply h he hl hn h7 hm hq (efuseSwitch_ok hu hs (fun hon => absurd hon (by decide)) ht)
  case on =>
    intro s u r q n t h he hq hl hn h7 hm hu hs hst ht
    exact efuseControl_reply h he hl hn h7 hm hq (efuseSwitch_ok hu hs (fun _ => hst) ht)
  case clearLatched =>
    exact fun s u r q n t y h he hq hl hn h7 hm hst h4 hy ht =>
      execEfuseControlClear_latched h he hl hn h7 hm hq hst h4 hy ht
  case clearOff =>
    exact fun s u r q n t h he hq hl hn h7 hm hst ht => execEfuseControlClear_off h he hl hn h7 hm hq hst ht
  case status => exact fun s u r q n h he hq hl hn h7 hm => execEfuseControlStatus_ok h he hl hn h7 hm hq
  case test =>
    exact fun s u r q n h he hq hl hn h7 hm h5 hu hst =>
      execEfuseControlTest_off h he hl hn h7 hm hq h5 hu hst
  case curve =>
    exact fun s u r n p h he hl hn h7 hp hok hm hsave => execEfuseCurveLoad_loaded h he hl hn h7 hp hok hm hsave
  case table => exact fun s u r p h he hl hp hok hb hsave => execPdTableLoad_accepted h he hl hp hok hb hsave
  case disable =>
    exact fun s u r q n t h he hq hl hn h3 hm ht => execPdPortControlDisable_ok h he hl hn h3 hm hq ht
  case enable =>
    exact fun s u r q n t h he hq hl hn h3 hm hen ht => execPdPortControlEnable_ok h he hl hn h3 hm hq hen ht
  case reoffer =>
    rintro s u r q n _ h he hq hl hn h3 hm hst rfl
    exact execPdPortControlReoffer_ok h he hl hn h3 hm hq hst
  case hardReset =>
    rintro s u r q n _ h he hq hl hn h3 hm hlive rfl
    exact execPdPortControlHardReset_live h he hl hn h3 hm hq hlive
  case portStatus =>
    rintro s u r q n _ h he hq hl hn h3 hm rfl
    exact execPdPortControlStatus_ok h he hl hn h3 hm hq
  case pattern =>
    exact fun s u r t h he hl ht h1 hs hlanes hpat _ => execPatternConfig_serviced h he hl ht h1 hs hlanes hpat
  case loop =>
    exact fun s u r t x y h he hl ht h1 hs hloop hx hy => execLoopbackSet_serviced h he hl ht h1 hs hloop hx hy
  case injectOne =>
    intro s u r t h he hl ht h1 hs hlanes hform hkind hcount hgap
    refine execErrorInject_serviced h he hl ht h1 hs hlanes (by omega) hform hcount hgap ?_
    rw [if_pos hkind]
  case injectRate =>
    rintro s u r t _ h he hl ht h1 hs hlanes hform hkind hcount hgap rfl
    refine execErrorInject_serviced h he hl ht h1 hs hlanes (by omega) hform hcount hgap ?_
    simp only [hkind]
    rfl

end

section
/-!
PROOFS. The clock and training rows of a trunk (R103, R105, R106, R111, R113 to R117, R123).
-/

namespace Sys2Proof.Machine

variable {s : State} {t : Fin 2}

/-! The clock -/

/-- In DETECT with no wait running, a valid clock begins an attempt. -/
theorem execRxClockValid_detect {y : State} (hn : s.hubOn = true) (he : s.flag (Reg.TLK_CTRL_ENABLED t) = true)
    (hy : y = s.put (Reg.TRL_STAT_CLK_VALID t) true) (hr : y.rxState t = 1) (hb : (y.lane t).backoff = false) :
    execRxClockValid t s = .next (y.toClockLock t) := by
  rw [execRxClockValid, onHub_on _ hn, he]
  simp only [← hy, hr, hb]
  rfl

/-- A clock lost outside OFF, TEST and HELD takes the trunk back to DETECT. -/
theorem execRxClockLost_attempt {y : State} (hn : s.hubOn = true) (hv : s.flag (Reg.TRL_STAT_CLK_VALID t) = true)
    (hy : y = (s.put (Reg.TRL_STAT_CLK_VALID t) false).notice 0x0A08 [byte t]) (h0 : y.rxState t ≠ 0)
    (h12 : y.rxState t ≠ 12) (h13 : y.rxState t ≠ 13) :
    execRxClockLost t s = .next ((y.toDetect t).clockSelect) := by
  rw [execRxClockLost, onHub_on _ hn, hv]
  simp only [← hy, beq_false_of_ne h0, beq_false_of_ne h12, beq_false_of_ne h13]
  rfl

/-- A better source that has held is taken, one step further than the distance it offers. -/
theorem execClockSourceRevert_candidate {d : Nat} (hn : s.hubOn = true) (hc : s.clk.candidate = some t.val)
    (hd : s.clockOffer t = some d) : execClockSourceRevert t s = .next (s.setSource (t + 1) (d + 1)) := by
  rw [execClockSourceRevert, onHub_on _ hn]
  simp only [hc, hd, beq_self_eq_true, if_true]

theorem execPoisonHoldEnd_poisoned (hn : s.hubOn = true) (hp : s.flag (Reg.TRL_CLK_POISON 0) = true) :
    execPoisonHoldEnd s = .next ((s.wrBoth Reg.TRL_CLK_POISON 0).clockSelect) := by
  rw [execPoisonHoldEnd, onHub_on _ hn, if_pos hp]

/-- With the clock locked every lane is tried again, whatever became of it before (log entry 34). -/
theorem execClockLockAchieved_clockLock (hn : s.hubOn = true) (hr : s.rxState t = 2) :
    execClockLockAchieved t s =
      .next (((s.wr (Reg.TRL_HEALTH_FAILED t) 0).wr (Reg.TRL_HEALTH_MARGINAL t) 0).setBoth t 3) := by
  rw [execClockLockAchieved, onHub_on _ hn, if_neg (by simp [hr])]

/-! Training -/

/-- The lanes that have locked are adapted, and the others fail with cause 4 (log entry 34). -/
theorem execBitLockAchieved_some {a b : BitVec 5} {y z : State} (hn : s.hubOn = true) (hr : s.rxState t = 3)
    (ha : a ≠ 0)
    (hy : y = (s.wr (Reg.TRL_STAT_POLARITY t) b.toNat).withLane t fun l => { l with locked := a.toNat, goodA := 0 })
    (hz : z = ((List.range 5).filter (bit a.toNat)).foldl (fun (m : State) i => m.adapted t (m.pairLane t i)) y) :
    execBitLockAchieved t a b s = .next ((z.failAll t ((((List.range 5).filter fun i => !a.toNat.testBit i).map
      (z.pairLane t)).foldl setBit 0) 4).setBoth t 4) := by
  subst hy hz
  rw [execBitLockAchieved, onHub_on _ hn, if_neg (by simpa [hr] using ha)]

section

variable {y : State} {sets : List Bytes} {k : Nat} {b : Bytes} {l : List (Nat × Bytes)} (hn : s.hubOn = true)
  (hg : s.readSets t sets = (y, (k, b) :: l))
include hn hg

/-- A TRAIN_A in EXCHANGE that the far end sends from EXCHANGE or later counts toward its end. -/
theorem execTrainA_exchange {z w : State} (hr : y.rxState t = 4)
    (hz : z = (((y.setReversed t (lanesReversed sets)).withLane t fun l =>
      { l with farWidth := min 2 (bits (leAt b 9 1) 2 1), farPrecode := bit (leAt b 9 1) 0 }).takeDist t (leAt b 12 1)))
    (hroot : z.isRoot = false) (h13 : leAt b 13 1 ≠ 13) (h4 : 4 ≤ leAt b 13 1)
    (hw : w = z.withLane t fun l => { l with goodA := l.goodA + 1 }) (h8 : (w.lane t).goodA < 8) :
    execTrainA t sets s = .next w := by
  have hearly : ¬leAt b 13 1 < 4 := Nat.not_lt.2 h4
  have hmore : decide (8 ≤ (w.lane t).goodA) = false := decide_eq_false (Nat.not_le.2 h8)
  rw [execTrainA, onHub_on _ hn, hg]
  simp only [List.map_cons, hr, ← hz, hroot, beq_false_of_ne h13, hearly, ← hw, hmore, beq_self_eq_true,
    Bool.and_false, Bool.false_and, Bool.false_eq_true, if_true, if_false]

/-- A TRAIN_A from DESKEW on shows a far end gone back to DETECT. -/
theorem execTrainA_restarted (h6 : 6 ≤ y.rxState t) (h9 : y.rxState t ≤ 9) :
    execTrainA t sets s = .next (y.toDetect t) := by
  have hne : (y.rxState t == 4) = false := beq_false_of_ne (by omega)
  rw [execTrainA, onHub_on _ hn, hg]
  simp only [List.map_cons, hne, h6, h9, decide_true, Bool.and_self, Bool.false_eq_true, if_true, if_false]

theorem execAlignOs_on {x : BitVec 5} {m : Bool} (hr : (y.setArrived t b).rxState t = 8) :
    execAlignOs t sets x m s =
      .next ((((y.setArrived t b).compareInterval t m).onAlign t b).followRetrain t) := by
  rw [execAlignOs, onHub_on _ hn, hg]
  simp only [List.map_cons, hr]
  rfl

theorem execSteerOs_on {m : Bool} (hr : (y.setArrived t b).rxState t = 8) :
    execSteerOs t sets m s = .next (((((y.setArrived t b).takeDist t (leAt b 11 1)).compareInterval t m).onSteer t
      (leAt b 8 1) (leAt b 9 1)).followRetrain t) := by
  rw [execSteerOs, onHub_on _ hn, hg]
  simp only [List.map_cons, hr]
  rfl

end

/-- A TRAIN_B in EQUALIZE moves this end's taps, and EQUALIZE ends once both ends have finished every healthy lane. -/
theorem execTrainB_equalize {y z v w : State} {sets : List Bytes} {a c : BitVec 5} {new : List Nat}
    {l : List (Nat × Bytes)} (hn : s.hubOn = true) (hg : s.readSets t sets = (y, l)) (hr : y.rxState t = 5)
    (hz : z = ((l.map fun e => e.2.drop 8).eraseDups).foldl
      (fun (s : State) b => (s.onCoefficients t (leAt b 0 1) (leAt b 1 1)).withLane t fun l =>
        { l with farEqDone := if bit (leAt b 3 1) 0 && leAt b 0 1 < 5 then setBit l.farEqDone (leAt b 0 1)
                              else l.farEqDone,
                 precodeTx := leAt b 4 1 % 32 }) y)
    (hnew : new = (List.range 5).filter fun p => a.toNat.testBit p && !bit (z.lane t).eqDone p)
    (hv : v = new.foldl (fun (s : State) p => (s.adapted t p).bendDfe t p (c.toNat.testBit p)) z)
    (hw : w = v.withLane t fun l => { l with eqDone := l.eqDone ||| a.toNat, precodeRx := v.precodeAsked t }) :
    execTrainB t sets a c s = .next (if (w.healthy t).all (fun p => bit (w.lane t).eqDone p && bit (w.lane
      t).farEqDone p) then w.toDeskew t else w) := by
  rw [execTrainB, onHub_on _ hn, hg]
  simp only [hr, ← hz, ← hnew, ← hv, ← hw]
  rfl

/-- A CONFIRM window in which every lane stays below 256 corrected bytes ends in ON. -/
theorem execConfirmWindowEnd_confirm {c : List Nat} {y : State} (hn : s.hubOn = true) (hr : s.rxState t = 7)
    (hc : ∀ p, p < 5 → c.getD p 0 < 256)
    (hy : y = (List.range 5).foldl
      (fun (s : State) p => s.wr (Reg.TRL_WIN_CORRECTED t p) (min 0xFFFF (c.getD p 0))) s) :
    execConfirmWindowEnd t c s = .next (y.toOn t) := by
  have hbad : ((y.steering t).filter fun p => decide (p < 5) && decide (256 ≤ c.getD p 0)) = [] := by
    rw [List.filter_eq_nil_iff]
    intro p _
    rw [Bool.and_eq_true, decide_eq_true_eq, decide_eq_true_eq]
    rintro ⟨hp, hle⟩
    exact Nat.not_lt.2 hle (hc p hp)
  rw [execConfirmWindowEnd, onHub_on _ hn]
  simp only [hr, ← hy, hbad]
  rfl

/-- The time of CLOCK_LOCK, BIT_LOCK or EXCHANGE has passed: DETECT again. -/
theorem execTrainingStateTimeout_early (b : BitVec 5) (hn : s.hubOn = true) (hr : s.rxState t ∈ [2, 3, 4]) :
    execTrainingStateTimeout t b s = .next (s.toDetect t) := by
  rw [execTrainingStateTimeout, onHub_on _ hn]
  simp only [List.mem_cons, List.not_mem_nil, or_false] at hr
  rcases hr with hr | hr | hr <;> simp only [hr]

/-- The wait after failed attempts is over while the clock is valid. -/
theorem execTrainFailBackoffEnd_valid {y : State} (hn : s.hubOn = true) (hb : (s.lane t).backoff = true)
    (hy : y = s.withLane t fun l => { l with backoff := false }) (hr : y.rxState t = 1)
    (hv : y.flag (Reg.TRL_STAT_CLK_VALID t) = true) :
    execTrainFailBackoffEnd t s = .next (y.toClockLock t) := by
  rw [execTrainFailBackoffEnd, onHub_on _ hn, hb]
  simp only [← hy, hr, hv]
  rfl

end Sys2Proof.Machine

open Sys2Proof Sys2Proof.Machine

/-- Settles O22, an event at a time. -/
theorem laneTrainingEvents : Obligations.LaneTrainingEvents := by
  unfold Obligations.LaneTrainingEvents
  exact ⟨fun s t y hn he hy hr hb => execRxClockValid_detect hn he hy hr hb,
    fun s t y hn hv hy h0 h12 h13 => execRxClockLost_attempt hn hv hy h0 h12 h13,
    fun s t d hn hc hd => execClockSourceRevert_candidate hn hc hd,
    fun s hn hp => execPoisonHoldEnd_poisoned hn hp,
    fun s t hn hr => execClockLockAchieved_clockLock hn hr,
    fun s t a b y z hn hr ha hy hz => execBitLockAchieved_some hn hr ha hy hz,
    fun s y t sets k b l z w hn hg hr hz hroot h13 h4 hw h8 => execTrainA_exchange hn hg hr hz hroot h13 h4 hw h8,
    fun s y t sets k b l hn hg h6 h9 => execTrainA_restarted hn hg h6 h9,
    fun s y z v w t sets a c new l hn hg hr hz hnew hv hw => execTrainB_equalize hn hg hr hz hnew hv hw,
    fun s y t sets k b l m x hn hg hr => execAlignOs_on hn hg hr,
    fun s y t sets k b l m hn hg hr => execSteerOs_on hn hg hr,
    fun s t c y hn hr hc hy => execConfirmWindowEnd_confirm hn hr hc hy,
    fun s t b hn hr => execTrainingStateTimeout_early b hn hr,
    fun s t y hn hb hy hr hv => execTrainFailBackoffEnd_valid hn hb hy hr hv⟩

end

section
/-!
PROOFS. The rows of trunk lanes in service: HUSH and DARK, recalibration, lane failure and width (R112, R120 to R130,
R171).
-/

namespace Sys2Proof.Machine

variable {s : State} {t : Fin 2}

/-! Lane states -/

section

variable {y : State} {sets : List Bytes} {k : Nat} {b : Bytes} {l : List (Nat × Bytes)} (hn : s.hubOn = true)
  (hg : s.readSets t sets = (y, (k, b) :: l)) (hr : (y.setArrived t b).rxState t = 8) (hlast : leAt b 8 1 = 0)
include hn hg hr hlast

/-- The last of four HUSH_ENTER sets. -/
theorem execHushEnter_last : execHushEnter t sets s = .next ((y.setArrived t b).rxIdle t 10) := by
  rw [execHushEnter, onHub_on _ hn, hg]
  simp only [List.map_cons, hr, hlast]
  rfl

/-- The last of four DARK_ENTER sets: this end's transmitter is to follow. -/
theorem execDarkEnter_last : execDarkEnter t sets s = .next (((y.setArrived t b).rxIdle t 11).askDark t) := by
  rw [execDarkEnter, onHub_on _ hn, hg]
  simp only [List.map_cons, hr, hlast]
  rfl

end

/-- An ACTIVE link on which neither end has had anything to send begins to enter HUSH. -/
theorem execHushIdleExpiry_idle (hn : s.hubOn = true) (hc : s.rd (Reg.TLK_CTRL_HUSH_IDLE t) ≠ 0) (hl : s.lstate t = 2)
    (hs : s.somethingToSend t = false) (hf : (s.link t).farIdle = true) :
    execHushIdleExpiry t s = .next (s.beginEnter t 10) := by
  rw [execHushIdleExpiry, onHub_on _ hn, if_pos (by simp [hc, hl, hs, hf])]

/-- The set that is due leaves on every lane, and coding starts afresh behind it. -/
theorem execLaneOsInterval_due {k : Nat} {b : Bytes} {y z w : State} (hn : s.hubOn = true)
    (hd : s.nextSet t = some (k, b, y))
    (hz : z = y.emits ((List.range 5).map fun p => .trunk t "LANE_SET" [p] (laneSetWire
      ([0x96, 0x69, 0x96, 0x69, byte k, byte p, byte (setLogical (y.lane t) p), byte (y.lane t).seq] ++ b))))
    (hw : w = (z.restartCoding t).fillLanes t) :
    execLaneOsInterval t s = .next
      ((if (y.lane t).txState == 8 then w.merLaunch t (y.lane t).seq w.mer.raw else w).withLane t fun l =>
        { l with seq := (l.seq + 1) % 256, sinceHop := l.sinceHop + 1 }) := by
  subst hz hw
  rw [execLaneOsInterval, onHub_on _ hn, hd]

/-- The state of one direction of a trunk. -/
def State.dirState (s : State) (t : Nat) (tx : Bool) : Nat := if tx then (s.lane t).txState else s.rxState t

/-- A stay in DARK without valid phases ends in a full training. -/
theorem State.laneStateLeft_untrained {tx : Bool} (hd : s.dirState t tx = 11) (hv : s.phasesValid t tx = false) :
    s.laneStateLeft t tx = ((s.dropSteering t).linkDown t 1).toClockLock t := by
  rw [State.dirState] at hd
  simp only [State.laneStateLeft, hd, hv]
  rfl

/-- The receive direction is in ON again after HUSH, and after DARK with valid phases. -/
theorem State.laneStateLeft_rx (hd : s.rxState t = 10 ∨ s.rxState t = 11 ∧ s.phasesValid t false = true) :
    s.laneStateLeft t false = (((s.setRxState t 8).clockSelect).followLanes t).darkStep t := by
  rcases hd with hd | ⟨hd, hv⟩
  · simp only [State.laneStateLeft, hd, Bool.false_eq_true, if_false]
    rfl
  · simp only [State.laneStateLeft, hd, hv, Bool.false_eq_true, if_false]
    rfl

/-- The transmit direction is in ON again after HUSH. -/
theorem State.laneStateLeft_txHush (hd : (s.lane t).txState = 10) :
    s.laneStateLeft t true = (((((s.withLane t fun l => { l with txState := 8, leaving := false }).merAwake
      t).clockSelect).followLanes t).darkStep t) := by
  simp only [State.laneStateLeft, hd, if_true]
  rfl

theorem execLaneStateExitDone_tx (hn : s.hubOn = true) :
    execLaneStateExitDone t true s = .next (s.laneStateLeft t true) := onHub_on _ hn

/-- The far end's leaving DARK wakes Damya, and its leaving HUSH does not. -/
theorem execLaneStateExitDone_rx (hn : s.hubOn = true) :
    execLaneStateExitDone t false s = .next
      (if s.rxState t = 11 then (s.laneStateLeft t false).wake (8 + t) else s.laneStateLeft t false) := by
  rw [execLaneStateExitDone, onHub_on _ hn]
  simp only [Bool.not_false, Bool.true_and, beq_iff_eq]

/-! Recalibration -/

theorem execRecalPeriodDue_periodic (hn : s.hubOn = true) (hp : s.rd (Reg.TRL_CTRL_RECAL_PERIOD t) ≠ 0) :
    execRecalPeriodDue t s = .next (s.startRound t) := by
  rw [execRecalPeriodDue, onHub_on _ hn, if_neg (by simp [hp])]

/-- In step 4 adaptation has ended: settings for the lane, and RETURN_REQ either way. -/
theorem execRecalAdaptDone_step4 {r : Recal} (g : Bool) (hn : s.hubOn = true) (hr : (s.lane t).recal = some r)
    (h4 : r.step = 4) : execRecalAdaptDone t g s = .next
      ((if g then (s.adapted t r.home).measured t r.home else s.restoreLane t r.home r.saved).withLane t fun l =>
        { l with recal := some { r with step := 5 }, back := l.back ++ [(3, r.lane)] }) := by
  rw [execRecalAdaptDone, onHub_on _ hn]
  simp only [hr, h4]
  rfl

/-! Failure and width -/

theorem execLaneLockLost_inService {p : Fin 5} (hn : s.hubOn = true) (hr : s.rxState t = 8 ∨ s.rxState t = 9) :
    execLaneLockLost t p s = .next (s.failLane t p 1) := by
  rw [execLaneLockLost, onHub_on _ hn, if_pos (by simpa using hr)]

/-- A window in which no lane exceeds 256 corrected bytes marks no lane MARGINAL. -/
theorem execLaneErrorWindowEnd_clean (hn : s.hubOn = true) (hr : s.rxState t = 8)
    (hw : ∀ p, p < 5 → byVc (s.lane t).window p ≤ 256) :
    execLaneErrorWindowEnd t s = .next
      ((List.range 5).foldl (fun (a : State) p =>
        (a.wr (Reg.TRL_WIN_CORRECTED t p) (min 0xFFFF (byVc (s.lane t).window p))).wr (Reg.TRL_HEALTH_MARGINAL t)
          (putBit (a.rd (Reg.TRL_HEALTH_MARGINAL t)) p false)) (s.withLane t fun l => { l with window := [] })) := by
  rw [execLaneErrorWindowEnd, onHub_on _ hn, if_neg (by simp [hr])]
  refine congrArg _ (List.foldl_ext _ _ _ fun a p hp => ?_)
  have hle : byVc (s.lane t).window p ≤ 256 := hw p (List.mem_range.1 hp)
  have hbad : ¬2048 < byVc (s.lane t).window p := by omega
  simp only [hle, hbad, Nat.not_lt.2 hle, decide_false, if_true, if_false]

/-- The transmit direction is in ON at the width that the far receiver asked for. -/
theorem execFastRetrainComplete_tx {w : Nat} {y : State} (hn : s.hubOn = true) (hr : (s.lane t).retrainTx = some w)
    (hx : (s.lane t).txState = 9)
    (hy : y = (s.withLane t fun l => { l with retrainTx := none, txState := 8 }).applyTxWidth t w) :
    execFastRetrainComplete t true s = .next ((((y.widthChanged t 1 (s.rd (Reg.TRL_STAT_TX_WIDTH t))
      w).followLanes t).markNarrow t).allotments) := by
  subst hy
  rw [execFastRetrainComplete, onHub_on _ hn]
  simp only [hr, hx]
  rfl

/-- The receive direction is in ON at the widest width that it asked for and that the limits still allow. -/
theorem execFastRetrainComplete_rx {w : Nat} {y : State} (hn : s.hubOn = true) (hr : s.rxState t = 9)
    (hw : ([2, 1, 0].find? fun k => k ≤ (s.lane t).retrainRx.getD (s.rd (Reg.TRL_STAT_RX_WIDTH t)) &&
      k ≤ s.widthMax t && k ≤ (s.lane t).farWidth && 2 ^ k ≤ (s.healthy t).length) = some w)
    (hy : y = ((s.applyWidth t w).withLane t fun l => { l with retrainRx := none }).setRxState t 8) :
    execFastRetrainComplete t false s = .next (((((y.widthChanged t 0 (s.rd (Reg.TRL_STAT_RX_WIDTH t))
      w).followLanes t).setHold t false).markNarrow t).allotments) := by
  subst hy
  rw [execFastRetrainComplete, onHub_on _ hn]
  simp only [hr, hw]
  rfl

/-- A FAILED lane that has been clean for 10 s is retrained alone. -/
theorem execFailedLaneCleanPeriod_clean {p : Fin 5} (hn : s.hubOn = true) (hf : s.laneFailed t p = true)
    (hr : s.rxState t = 8) (hp : (s.lane t).probe = none) :
    execFailedLaneCleanPeriod t p true s = .next (s.withLane t fun l => { l with probe := some p.val }) := by
  rw [execFailedLaneCleanPeriod, onHub_on _ hn, if_neg (by simp [hf, hr, hp])]

/-- In ON a CONFIRM window belongs to the lane that is retrained alone. -/
theorem execConfirmWindowEnd_probe {p : Fin 5} (c : List Nat) (hn : s.hubOn = true) (hr : s.rxState t = 8)
    (hp : (s.lane t).probe = some p.val) : execConfirmWindowEnd t c s = .next (s.probeEnd t (c.getD p 0)) := by
  rw [execConfirmWindowEnd, onHub_on _ hn, if_pos (by simp [hr]), hp]
  rfl

end Sys2Proof.Machine

open Sys2Proof Sys2Proof.Machine

/-- Settles O23, an event at a time. -/
theorem laneStateEvents : Obligations.LaneStateEvents := by
  unfold Obligations.LaneStateEvents
  refine ⟨fun s y t sets k b l hn hg hr hlast => execHushEnter_last hn hg hr hlast, ?dark,
    fun s t hn hc hl hs hf => execHushIdleExpiry_idle hn hc hl hs hf,
    fun s t k b y z w hn hd hz hw => execLaneOsInterval_due hn hd hz hw, ?rxHush, ?rxDark, ?rxUntrained, ?txHush,
    ?txUntrained, fun s t hn hp => execRecalPeriodDue_periodic hn hp,
    fun s t r hn hr h4 => execRecalAdaptDone_step4 false hn hr h4,
    fun s t r hn hr h4 => execRecalAdaptDone_step4 true hn hr h4,
    fun s t p hn hr => execLaneLockLost_inService hn hr, fun s t hn hr hw => execLaneErrorWindowEnd_clean hn hr hw,
    fun s t w y hn hr hx hy => execFastRetrainComplete_tx hn hr hx hy,
    fun s t w y hn hr hw hy => execFastRetrainComplete_rx hn hr hw hy,
    fun s t p hn hf hr hp => execFailedLaneCleanPeriod_clean hn hf hr hp,
    fun s t p c hn hr hp => execConfirmWindowEnd_probe c hn hr hp⟩
  case dark =>
    rintro s y t sets k b l _ hn hg hr hlast rfl
    exact execDarkEnter_last hn hg hr hlast
  case rxHush =>
    intro s t hn hd
    refine (execLaneStateExitDone_rx hn).trans ?_
    rw [if_neg (by rw [hd]; decide), State.laneStateLeft_rx (.inl hd)]
  case rxDark =>
    intro s t hn hd hv
    refine (execLaneStateExitDone_rx hn).trans ?_
    rw [if_pos hd, State.laneStateLeft_rx (.inr ⟨hd, hv⟩)]
  case rxUntrained =>
    intro s t hn hd hv
    refine (execLaneStateExitDone_rx hn).trans ?_
    rw [if_pos hd, State.laneStateLeft_untrained (tx := false) hd hv]
  case txHush =>
    intro s t hn hd
    exact (execLaneStateExitDone_tx hn).trans (congrArg _ (State.laneStateLeft_txHush hd))
  case txUntrained =>
    intro s t hn hd hv
    exact (execLaneStateExitDone_tx hn).trans (congrArg _ (State.laneStateLeft_untrained (tx := true) hd hv))

end

section
/-!
PROOFS. The events of the trunk link engines (R150, R151, R153, R156, R158, R164 to R169, R171, R177).
-/

namespace Sys2Proof.Machine

variable {s : State} {t : Fin 2}

/-! The link's state -/

theorem State.linkLive_iff {n : Nat} : s.linkLive n = true ↔ s.lstate n = 2 ∨ s.lstate n = 3 ∨ s.lstate n = 5 := by
  simp only [State.linkLive, Bool.or_eq_true, beq_iff_eq, or_assoc]

/-! Flits received (R150) -/

/-- A flit that cannot be read is counted, and asks for one NAK on a live link that does not hold (R150, R151). -/
theorem execRxFlit_unreadable {b : Bytes} (hn : s.hubOn = true) (h0 : s.lstate t ≠ 0) (hb : flitRead b = none)
    (hl : (s.count (trunkCounter t + 8)).linkLive t = true)
    (hh : (s.count (trunkCounter t + 8)).flag (Reg.TLK_STAT_HOLD_TX t) = false) :
    execRxFlit t b s = .next ((s.count (trunkCounter t + 8)).nakOnce t) := by
  rw [execRxFlit, onHub_on _ hn, if_neg (mt beq_iff_eq.1 h0)]
  simp only [hb, hl, hh, Bool.not_false, Bool.and_self, if_true]

theorem execRxFlit_good {b c : Bytes} {l : List Nat} (hn : s.hubOn = true) (h0 : s.lstate t ≠ 0)
    (hb : flitRead b = some (c, l, true)) (hc : (FlitHead.ofBytes c).good = true) :
    execRxFlit t b s = .next ((s.correctedBytes t l).goodFlit t c) := by
  rw [execRxFlit, onHub_on _ hn, if_neg (mt beq_iff_eq.1 h0)]
  simp only [hb, hc, Bool.not_true, Bool.false_eq_true, if_false]

/-! Slots for flits (R158, R171) -/

/-- What the transmit engine does with a slot, by the state of its link (R158). -/
def State.slotTaken (s : State) (n : Nat) : State :=
  if s.lstate n = 1 then s.initSlot n else if s.lstate n = 4 then s.resetSlot n else s.liveSlot n

theorem State.slotTaken_init {n : Nat} (h : s.lstate n = 1) : s.slotTaken n = s.initSlot n := if_pos h

theorem State.slotTaken_reset {n : Nat} (h : s.lstate n = 4) : s.slotTaken n = s.resetSlot n := by
  rw [State.slotTaken, if_neg (by simp [h]), if_pos h]

theorem State.slotTaken_live {n : Nat} (h : s.lstate n = 2 ∨ s.lstate n = 3) : s.slotTaken n = s.liveSlot n := by
  rw [State.slotTaken, if_neg (by omega), if_neg (by omega)]

/-- In ON every slot of a link that is not DOWN counts toward the next link ordered set, and is taken. -/
theorem execTxFlitSlot_on (hn : s.hubOn = true) (hx : (s.lane t).txState = 8) (h0 : s.lstate t ≠ 0) :
    execTxFlitSlot t s = .next ((s.withLink t fun l => { l with sinceSet := l.sinceSet + 1 }).slotTaken t) := by
  have hlane : (Table.get (fun _ => ({} : Lanes)) s.lanes t.val).txState = 8 := hx
  rw [execTxFlitSlot, onHub_on _ hn, if_neg (by simp [hlane]), if_neg (by simp [hlane])]
  refine congrArg _ ?_
  split
  next h => exact absurd h h0
  next h => exact (State.slotTaken_init (s := s.withLink t _) h).symm
  next h => exact (State.slotTaken_reset (s := s.withLink t _) h).symm
  next h1 h4 => exact ((if_neg h1).trans (if_neg h4)).symm

/-- A need to send makes a transmit direction in HUSH or DARK begin to leave it, outside IDLE (R171). -/
theorem execTxFlitSlot_leave (hn : s.hubOn = true) (hx : (s.lane t).txState = 10 ∨ (s.lane t).txState = 11)
    (hs : s.somethingToSend t = true) (hm : s.mode ≠ 2) (hl : (s.lane t).leaving = false) :
    execTxFlitSlot t s = .next (((s.withLane t fun l => { l with leaving := true }).emit
      (.trunk t "LEAVE" [(s.lane t).txState] [])).excluded t) := by
  have hleave : (((s.lane t).txState == 0xA || (s.lane t).txState == 0xB) && s.somethingToSend t && s.mode != 2 &&
      !(s.lane t).leaving) = true := by
    simpa [hs, hm, hl] using hx
  rw [execTxFlitSlot, onHub_on _ hn]
  exact congrArg _ (if_pos hleave)

/-! Link ordered sets (R164 to R169) -/

/-- The far end's request resets a live link (R169). -/
theorem execLinkReset_live (hn : s.hubOn = true) (hl : s.linkLive t = true) : execLinkReset t s = .next
    ((((((s.discardLink t).1.incr (Reg.TLK_STAT_INIT_ID t)).bump (Reg.TLK_STAT_RESETS t)).withLink t fun l =>
      { l with resets := 4, resetReason := 4 }).setLstate t 4).notice 0x0A22
        ([byte t, 4] ++ le 2 (s.link t).replay.length ++ le 2 (s.discardLink t).2)) := by
  rw [execLinkReset, onHub_on _ hn, State.linkReset, if_neg ?live]
  case live => rcases State.linkLive_iff.1 hl with h | h | h <;> simp [h]
  rfl

theorem execLinkInit_init (b : Bytes) (hn : s.hubOn = true) (hl : s.lstate t = 1) :
    execLinkInit t b s = .next ((s.withLink t fun l =>
      { l with initSeen := l.initSeen || (leAt b 0 1 == s.rd (Reg.TLK_STAT_INIT_ID t)),
               farSeen := l.farSeen || bit (leAt b 11 1) 0, farPos := leAt b 1 1 % 64,
               grants := [0, 1, 2, 3].map fun v => leAt b (3 + 2 * v) 2 }).tryActive t) := by
  rw [execLinkInit, onHub_on _ hn, State.onLinkInit, if_neg (by simp [hl])]

/-- A CREDIT_MOVE that was carried out before is acknowledged again, and does nothing else (R164). -/
theorem execCreditMove_again {b : Bytes} (hn : s.hubOn = true) (hl : s.linkLive t = true)
    (hm : (s.link t).lastMove = some (leAt b 0 1)) :
    execCreditMove t b s = .next (s.withLink t fun l => { l with moveAck := some (leAt b 0 1) }) := by
  rw [execCreditMove, onHub_on _ hn, State.onCreditMove, if_neg (by simp [hl])]
  simp only [hm, beq_self_eq_true, if_true]

/-- A new CREDIT_MOVE moves the credit of each channel, and is acknowledged (R164). -/
theorem execCreditMove_new {b : Bytes} {y : State} (hn : s.hubOn = true) (hl : s.linkLive t = true)
    (hm : (s.link t).lastMove ≠ some (leAt b 0 1))
    (hy : y = [0, 1, 2, 3].foldl (fun (s : State) v =>
      s.setCredit t v (s.credit t v + toSigned 16 (leAt b (1 + 2 * v) 2))) s) :
    execCreditMove t b s = .next
      ((y.withLink t fun l => { l with
        lastMove := some (leAt b 0 1)
        granted := [0, 1, 2, 3].foldl (fun x v => Table.set (fun _ => 0) x v (leAt b (9 + 2 * v) 2)) l.granted }).withLink t
          fun l => { l with moveAck := some (leAt b 0 1) }) := by
  subst hy
  rw [execCreditMove, onHub_on _ hn, State.onCreditMove, if_neg (by simp [hl])]
  simp only [beq_false_of_ne hm, Bool.false_eq_true, if_false]

/-- The acknowledgement of the pending CREDIT_MOVE lowers the allotments that shrink, and ends the move (R165). -/
theorem execCreditMoveAck_pending {b : Bytes} {d : List Int} {n : List Nat} {y : State} (hn : s.hubOn = true)
    (hm : (s.link t).move = some (d, n)) (hp : s.flag (Reg.TLK_MOVE_PENDING t) = true)
    (hid : leAt b 0 1 = s.rd (Reg.TLK_MOVE_MOVE_ID t))
    (hy : y = [0, 1, 2, 3].foldl (fun (s : State) v =>
      if d.getD v 0 < 0 then s.wr (Reg.TLK_ALLOT_ACTIVE t v) (n.getD v 0) else s) s) :
    execCreditMoveAck t b s = .next ((((y.put (Reg.TLK_MOVE_PENDING t) false).incr (Reg.TLK_MOVE_DONE t)).withLink t
      fun l => { l with move := none, moveDue := false }).tryReport t) := by
  subst hy
  rw [execCreditMoveAck, onHub_on _ hn, State.onCreditMoveAck, hm]
  exact congrArg _ (if_pos (by simp [hp, hid]))

/-- A CREDIT_REPORT is kept, and one with a new number is answered with the own report (R166; log entry 29). -/
theorem execCreditReport_live (b : Bytes) (hn : s.hubOn = true) (hl : s.linkLive t = true) :
    execCreditReport t b s = .next ((s.withLink t fun l => if leAt b 0 1 == l.reportId then
      { l with report := some b } else
      { l with report := some b, reportId := leAt b 0 1, reportDue := true }).tryReport t) := by
  rw [execCreditReport, onHub_on _ hn, State.onCreditReport, if_neg (by simp [hl])]

/-! The engines' timers and TLK_CTRL.LRESET (R151, R153, R156, R165, R168, R177) -/

theorem execReplayTimeout_running (hn : s.hubOn = true) (hl : s.lstate t = 2 ∨ s.lstate t = 3)
    (hr : (s.link t).replay ≠ []) (hh : s.flag (Reg.TLK_STAT_HOLD_TX t) = false) :
    execReplayTimeout t s = .next (s.startReplay t true) := by
  rw [execReplayTimeout, onHub_on _ hn, if_neg (by rcases hl with hl | hl <;> simp [hl, hr, hh])]

theorem execNakRearmTimeout_on (hn : s.hubOn = true) :
    execNakRearmTimeout t s = .next (s.withLink t fun l => { l with nakArmed := true }) := onHub_on _ hn

theorem execLinkResetCommand_on (hn : s.hubOn = true) : execLinkResetCommand t s = .next (s.linkReset t 5) :=
  onHub_on _ hn

theorem execHoldTimeout_held (hn : s.hubOn = true) (hh : s.flag (Reg.TLK_STAT_HOLD_TX t) = true) :
    execHoldTimeout t s = .next (s.linkReset t 8) := by
  rw [execHoldTimeout, onHub_on _ hn, if_pos hh]

section

variable (hn : s.hubOn = true) (hp : s.flag (Reg.TLK_MOVE_PENDING t) = true) (hl : s.lstate t ≠ 3)
include hn hp hl

theorem execCreditMoveResend_pending :
    execCreditMoveResend t s = .next (s.withLink t fun l => { l with moveDue := true }) := by
  rw [execCreditMoveResend, onHub_on _ hn, if_pos (by simp [hp, hl])]

theorem execCreditMoveTimeout_pending : execCreditMoveTimeout t s = .next (s.linkReset t 7) := by
  rw [execCreditMoveTimeout, onHub_on _ hn, if_pos (by simp [hp, hl])]

end

section

variable {y : State} (hn : s.hubOn = true) (hl : s.lstate t = 1)
  (hy : y = s.withLink t fun l => { l with initFails := l.initFails + 1 })
include hn hl hy

/-- The first failures of INIT reset the link (R168). -/
theorem execLinkInitTimeout_early (hf : (y.link t).initFails < 4) :
    execLinkInitTimeout t s = .next (y.linkReset t 6) := by
  subst hy
  rw [execLinkInitTimeout, onHub_on _ hn, if_neg (by simp [hl])]
  exact congrArg _ (if_neg (Nat.not_le.2 hf))

/-- The fourth failure in a row takes the link DOWN and the lanes to DETECT (R167). -/
theorem execLinkInitTimeout_fourth (hf : 4 ≤ (y.link t).initFails) :
    execLinkInitTimeout t s = .next (((y.withLink t fun l => { l with initFails := 0 }).linkDown t 3).toDetect t) := by
  subst hy
  rw [execLinkInitTimeout, onHub_on _ hn, if_neg (by simp [hl])]
  exact congrArg _ (if_pos hf)

end

end Sys2Proof.Machine

open Sys2Proof Sys2Proof.Machine

/-- Settles O24, an event at a time. -/
theorem linkEvents : Obligations.LinkEvents := by
  unfold Obligations.LinkEvents
  refine ⟨fun s t b hn h0 hb hl hh => execRxFlit_unreadable hn h0 hb hl hh,
    fun s t b c l hn h0 hb hc => execRxFlit_good hn h0 hb hc, ?initSlot, ?resetSlot, ?liveSlot,
    fun s t hn hx hs hm hl => execTxFlitSlot_leave hn hx hs hm hl, fun s t b hn hl => execLinkInit_init b hn hl,
    fun s t b hn hl hm => execCreditMove_again hn hl hm, fun s t b y hn hl hm hy => execCreditMove_new hn hl hm hy,
    fun s t b d n y hn hm hp hid hy => execCreditMoveAck_pending hn hm hp hid hy, ?linkReset,
    fun s t b hn hl => execCreditReport_live b hn hl, fun s t hn hl hr hh => execReplayTimeout_running hn hl hr hh,
    fun s t hn => execNakRearmTimeout_on hn, fun s t hn hh => execHoldTimeout_held hn hh,
    fun s t hn hp hl => execCreditMoveResend_pending hn hp hl,
    fun s t hn hp hl => execCreditMoveTimeout_pending hn hp hl,
    fun s t y hn hl hy hf => execLinkInitTimeout_early hn hl hy hf,
    fun s t y hn hl hy hf => execLinkInitTimeout_fourth hn hl hy hf, fun s t hn => execLinkResetCommand_on hn⟩
  case initSlot =>
    intro s t hn hx hl
    exact (execTxFlitSlot_on hn hx (by omega)).trans (congrArg _ (State.slotTaken_init hl))
  case resetSlot =>
    intro s t hn hx hl
    exact (execTxFlitSlot_on hn hx (by omega)).trans (congrArg _ (State.slotTaken_reset hl))
  case liveSlot =>
    intro s t hn hx hl
    exact (execTxFlitSlot_on hn hx (by omega)).trans (congrArg _ (State.slotTaken_live hl))
  case linkReset =>
    rintro s _ t hn hl rfl
    exact execLinkReset_live hn (State.linkLive_iff.2 hl)

end

section
/-!
PROOFS. The events of tunnel phases, line records, route changes and cuts (R174, R190 to R192, R195 to R197, R209, R212,
R214, R216).
-/

namespace Sys2Proof.Machine

variable {s : State}

/-! Phases (R209, R212) -/

/-- A station that the first phase waits for has answered it (R209). -/
theorem State.hopReply_first {n : Nat} {b : Bytes} {p : Phase} {l : List Phase} (hp : s.tun.phases = p :: l)
    (hq : p.seq = (parsePacket b).seq) (hw : n ∈ p.waiting) : s.hopReply n b =
      (s.setPhase p.tid (some { p with
        waiting := p.waiting.filter (· != n)
        ok := if (parsePacket b).status = 0 then p.ok ++ [n] else p.ok
        failed := if (parsePacket b).status = 0 ∨ p.failed.isSome = true then p.failed
          else some (parsePacket b).status })).settlePhase p.tid := by
  have hfind : (s.tun.phases.find? fun p => p.seq == (parsePacket b).seq && p.waiting.contains n) = some p := by
    rw [hp, List.find?_cons_of_pos (by simp [hq, hw])]
  simp only [State.hopReply, hfind, Bool.or_eq_true, beq_iff_eq]

section

variable {n : Fin 33} {b : Bytes} {p : Phase} {l : List Phase} (hn : s.hubOn = true) (hp : s.tun.phases = p :: l)
  (hq : p.seq = (parsePacket b).seq) (hw : n.val ∈ p.waiting)
include hn hp hq hw

theorem execHopReplyReceived_ok (hs : (parsePacket b).status = 0) :
    execHopReplyReceived n b s = .next ((s.setPhase p.tid (some
      { p with waiting := p.waiting.filter (· != n.val), ok := p.ok ++ [n.val] })).settlePhase p.tid) := by
  rw [execHopReplyReceived, onHub_on _ hn, State.hopReply_first hp hq hw]
  simp only [hs, true_or, if_true]

theorem execHopReplyReceived_failed (hs : (parsePacket b).status ≠ 0) (hf : p.failed = none) :
    execHopReplyReceived n b s = .next ((s.setPhase p.tid (some
      { p with waiting := p.waiting.filter (· != n.val), failed := some (parsePacket b).status })).settlePhase
        p.tid) := by
  rw [execHopReplyReceived, onHub_on _ hn, State.hopReply_first hp hq hw]
  simp only [hs, hf, Option.isSome_none, Bool.false_eq_true, or_self, if_false]

end

section

variable {t : Fin 1024} {p : Phase} (hn : s.hubOn = true) (hp : s.phaseOf t = some p)
include hn hp

theorem execInstallPhaseTimeout_awaited (hk : p.kind ≠ .drain) :
    execInstallPhaseTimeout t s = .next ((s.endPhase p).settlePhase t) := by
  rw [execInstallPhaseTimeout, onHub_on _ hn]
  simp only [hp]
  exact congrArg _ (if_neg (by simpa using hk))

theorem execTunnelDrainEnd_drained {e : BookEntry} (hk : p.kind = .drain) (he : p.entry = some e) :
    execTunnelDrainEnd t s = .next ((s.beginPhase .remove t p.req (some e) none (s.chargedPositions e) (fun s k q =>
      s.sendClose t k 1 q)).settlePhase t) := by
  rw [execTunnelDrainEnd, onHub_on _ hn]
  simp only [hp, hk, he]

end

/-! Tunnels, AUDIT and trunks (R174, R214, R216) -/

theorem execRetuneApply_on (t : Fin 1024) (hn : s.hubOn = true) : execRetuneApply t s = .next (s.retuneEpoch t) :=
  onHub_on _ hn

/-- A station below position 32 that has not answered the line's AUDIT in time is marked (R216). -/
theorem execAuditStationTimeout_awaited {n : Fin 33} {a : LineAudit} (hn : s.hubOn = true) (ha : s.tun.audit = some a)
    (hw : n.val ∈ a.waiting) (h32 : n.val ≠ 32) :
    execAuditStationTimeout n s = .next ((s.withTun fun x =>
      { x with audit := some { a with waiting := a.waiting.filter (· != n.val) } }).wr Reg.TUN_AUDIT_POS_LO_POS
        (setBit (s.rd Reg.TUN_AUDIT_POS_LO_POS) n)) := by
  rw [execAuditStationTimeout, onHub_on _ hn]
  simp only [State.auditAnswered, ha, List.contains_iff_mem.2 hw, Bool.not_true, Bool.false_eq_true, if_false]
  exact congrArg _ (if_neg (by simpa using h32))

theorem execTrunkDisableTakeEffect_first {v : Transport} {t : Nat} {l : List Waiting} (hn : s.hubOn = true)
    (hw : s.cmd.waiting = { via := v, act := .trunkDisable t, handed := true } :: l) :
    execTrunkDisableTakeEffect s = .next ((s.withCmd fun c => { c with waiting := l }).trunkDisable t) := by
  rw [execTrunkDisableTakeEffect, onHub_on _ hn]
  simp only [State.takeDeferred, hw, List.find?_cons_of_pos, Bool.and_self, List.erase_cons_head]
  rfl

/-! Line records (R190 to R192, R195, R197) -/

/-- A station without a position takes the one assigned to it, announces itself, and assigns the next one southward
(R191). -/
theorem execAssignRecord_taken {y : State} {b : Bytes} (h : BitVec 6) (hn : s.hubOn = true) (hr : s.isRoot = false)
    (hp : s.position = 0) (h1 : 1 ≤ leAt b 1 1) (h32 : leAt b 1 1 ≤ 32)
    (hy : y = ((((s.count 0x056).setPosition (leAt b 1 1)).rerouted).sendRecord none 0 ([0xE2, byte (leAt b 1 1)] ++
      le 4 (((s.count 0x056).setPosition (leAt b 1 1)).rerouted.reg Reg.SYS_ID_A).toNat)))
    (hm : y.mode ≠ 0) (hlt : leAt b 1 1 < 32) (hl : y.linkActive 1 = true) :
    execAssignRecord 0 b h s = .next (y.sendAssign 1 (leAt b 1 1 + 1)) := by
  have hroot : (s.count 0x056).isRoot = false := (s.count_flag ..).trans hr
  have hpos : (s.count 0x056).position = 0 := (s.count_rd ..).trans hp
  have hfree : ¬((s.count 0x056).isRoot || (0 : Nat) != 0 || (s.count 0x056).position != 0 || leAt b 1 1 == 0 ||
      decide (32 < leAt b 1 1)) = true := by
    simp only [hroot, hpos, bne_self_eq_false, Bool.false_or, Bool.or_eq_true, beq_iff_eq, decide_eq_true_eq]
    omega
  rw [execAssignRecord, onHub_on _ hn]
  refine congrArg _ ((if_neg hfree).trans ?_)
  simp only [← hy]
  exact if_pos (by simp [hm, hlt, hl])

theorem execAnnounceRecord_on (t : Fin 2) (b : Bytes) (h : BitVec 6) (hn : s.hubOn = true) :
    execAnnounceRecord t b h s =
      .next (if s.isRoot = true then (s.count 0x056).announced b else s.sendRecord none 0 b h.toNat) := onHub_on _ hn

section

variable {t : Fin 2} {b : Bytes} (h : BitVec 6) (hn : s.hubOn = true) (hs : s.recordSeen b = false)
include hn hs

/-- A HEAL that has not been seen cuts its link, and goes on (R197). -/
theorem execHealRecord_new (hi : leAt b 1 1 ≤ 32) :
    execHealRecord t b h s = .next ((((s.withTun fun n =>
      { n with heals := (leAt b 1 1, leAt b 2 1) :: n.heals }).setCut (leAt b 1 1) true)).forwardRecord t b h.toNat
        true) := by
  rw [execHealRecord, onHub_on _ hn, State.healed, if_neg (ne_true_of_eq_false hs)]
  simp only [if_pos hi]

theorem execRouteChange_new :
    execRouteChange t b h s = .next ((s.keepChange b).forwardRecord t b h.toNat true) := by
  rw [execRouteChange, onHub_on _ hn, State.changeRecord, if_neg (ne_true_of_eq_false hs)]

theorem execClearRecord_new :
    execClearRecord t b h s = .next (((s.withTun fun n => { n with lastClear := some (leAt b 2 2) }).forwardRecord t b
      h.toNat true).applyClear (leAt b 1 1)) := by
  rw [execClearRecord, onHub_on _ hn, State.clearReceived, if_neg (ne_true_of_eq_false hs)]

end

/-! Route changes and cuts (R195 to R197) -/

theorem execRouteChangeApply_due {k : BitVec 16} {c : RouteChange} {l : List RouteChange} (hn : s.hubOn = true)
    (hc : s.tun.pendingChanges = c :: l) (hk : c.number = k.toNat) (ht : ((c.at_ * 65536 : Nat) : Int) ≤ s.reading) :
    execRouteChangeApply k s = .next (s.applyChange c) := by
  rw [execRouteChangeApply, onHub_on _ hn, hc, List.find?_cons_of_pos (by simpa using hk)]
  exact congrArg _ (if_pos ht)

theorem execRoutePauseEnd_on (t : Fin 1024) (hn : s.hubOn = true) :
    execRoutePauseEnd t s = .next (s.withTun fun n => { n with paused := n.paused.filter (·.1 != t.val) }) :=
  onHub_on _ hn

/-- A link that has served and has stayed DOWN is cut, told in a notice and in the first HEAL on the other trunk
(R197). -/
theorem execCutDebounceEnd_down {y w z : State} {t : Fin 2} {i : Nat} (hn : s.hubOn = true)
    (hd : s.rd (Reg.TLK_STAT_LSTATE t) = 0) (hs : (s.link t).served = true)
    (hy : y = (s.withLink t fun l => { l with served := false }).flushTrunk t) (hi : y.cutIndex t = some i)
    (hw : w = (if bit y.cutSet i = true then y else y.setCut i true).notice 0x0401 [byte i, 0])
    (hz : z = w.sendRecord (some (1 - t.val)) 63 [0xE3, byte i, byte w.position, 0]) :
    execCutDebounceEnd t s = .next (z.withTun fun n =>
      { n with repeats := (n.repeats.filter fun x => x.2.1 != 1 - t.val) ++ [(i, 1 - t.val, 1)] }) := by
  rw [execCutDebounceEnd, onHub_on _ hn, if_neg (by simp [hd, hs])]
  simp only [← hy, hi, ← hw, ← hz]

/-- A HEAL leaves again with its repeat number, and is kept while a repeat is left (R197; log entry 15). -/
theorem execHealRepeat_first {y : State} {t : Fin 2} {i k : Nat} {l : List (Nat × Nat × Nat)} (hn : s.hubOn = true)
    (hr : s.tun.repeats = (i, t.val, k) :: l)
    {rest : List (Nat × Nat × Nat)} (hy : y = s.sendRecord (some t.val) 63 [0xE3, byte i, byte s.position, byte k])
    (hrest : rest = y.tun.repeats.filter fun x => x.2.1 != t.val) :
    execHealRepeat t s =
      .next (y.withTun fun n => { n with repeats := if k < 2 then rest ++ [(i, t.val, k + 1)] else rest }) := by
  subst hy hrest
  rw [execHealRepeat, onHub_on _ hn, hr, List.find?_cons_of_pos (by simp)]
end Sys2Proof.Machine

open Sys2Proof Sys2Proof.Machine

/-- Settles O18, an event at a time. -/
theorem tunnelAndRouteEvents : Obligations.TunnelAndRouteEvents := by
  unfold Obligations.TunnelAndRouteEvents
  refine ⟨fun s n b p l hn hp hq hw hs => execHopReplyReceived_ok hn hp hq hw hs,
    fun s n b p l hn hp hq hw hs hf => execHopReplyReceived_failed hn hp hq hw hs hf,
    fun s t p hn hp hk => execInstallPhaseTimeout_awaited hn hp hk,
    fun s t p e hn hp hk he => execTunnelDrainEnd_drained hn hp hk he, fun s t hn => execRetuneApply_on t hn,
    fun s n a hn ha hw h32 => execAuditStationTimeout_awaited hn ha hw h32,
    fun s v t l hn hw => execTrunkDisableTakeEffect_first hn hw,
    fun s y b h hn hr hp h1 h32 hy hm hlt hl => execAssignRecord_taken h hn hr hp h1 h32 hy hm hlt hl, ?announceRoot,
    ?announceStation, fun s t b h hn hs hi => execHealRecord_new h hn hs hi,
    fun s t b h hn hs => execRouteChange_new h hn hs, fun s t b h hn hs => execClearRecord_new h hn hs,
    fun s k c l hn hc hk ht => execRouteChangeApply_due hn hc hk ht, fun s t hn => execRoutePauseEnd_on t hn,
    fun s y w z t i hn hd hs hy hi hw hz => execCutDebounceEnd_down hn hd hs hy hi hw hz, ?healAgain, ?healLast⟩
  case announceRoot => exact fun s t b h hn hr => (execAnnounceRecord_on t b h hn).trans (congrArg _ (if_pos hr))
  case announceStation =>
    exact fun s t b h hn hr => (execAnnounceRecord_on t b h hn).trans (congrArg _ (if_neg (ne_true_of_eq_false hr)))
  case healAgain =>
    intro s t i k l hn hr hk
    refine (execHealRepeat_first hn hr rfl rfl).trans ?_
    rw [if_pos hk]
  case healLast =>
    intro s y t i l hn hr hy
    refine (execHealRepeat_first hn hr hy rfl).trans ?_
    rw [if_neg (by decide)]

end

section
/-!
PROOFS. What the tunnel, route, AUDIT and trunk commands answer once their own checks pass (R173, R174, R195, R207 to
R213, R216).
-/

namespace Sys2Proof.Machine

variable {s u : State} {r q : Request} {t : Nat}

/-- The check of a host tunnel's TID passes 2 to 1023. -/
theorem hostTid_iff {n : Nat} : ¬(decide (n < 2) || decide (1023 < n)) = true ↔ 2 ≤ n ∧ n ≤ 1023 := by
  simp only [Bool.or_eq_true, decide_eq_true_eq]
  omega

/-- The check of a hop packet passes a host tunnel's TID with an operation of 0 or 1. -/
theorem hopRange_iff {n k : Nat} :
    ¬(decide (n < 2) || decide (n > 1023) || decide (k > 1)) = true ↔ 2 ≤ n ∧ n ≤ 1023 ∧ k ≤ 1 := by
  simp only [Bool.or_eq_true, decide_eq_true_eq]
  omega

/-! Entries of one Damya (R210) -/

section

variable (h : s.passes 0x0400 q = true) (he : u = s.begun 0x0400 q) (hq : q = requestWithByte r 0 1)
  (hl : 52 ≤ q.pkt.params.length) (ht : t = leAt q.pkt.params 2 2) (h2 : 2 ≤ t) (h3 : t ≤ 1023)
include h he hq hl ht h2 h3

theorem execHopInstall_staged (hst : leAt q.pkt.params 1 1 = 0) :
    execHopInstall r s = .next ((u.stageEntry t (slice q.pkt.params 4 16) (Rates.ofBytes (slice q.pkt.params 20 24))
      (((slice q.pkt.params 44 8).map (·.toNat)).filter (· != 0xFF))).answered u 0x0400 q 0 []) := by
  subst he hq ht
  refine runCommand_takes h hl ((if_neg (hopRange_iff.2 ⟨h2, h3, by omega⟩)).trans ?_)
  simp only [hst]
  rfl

/-- OPEN of an entry that is STAGED with the same image (R210). -/
theorem execHopInstall_open (hst : leAt q.pkt.params 1 1 = 1) (hv : u.tidValid t = true)
    (hstate : u.rd (Reg.TUN_ENTRY_W0_STATE t) = 0)
    (hsame : ((List.range 4).all fun w =>
      ((u.reg (Reg.TUN_ENTRY_W0_A t + 4 * w)).toNat &&& (if w == 0 then 0x1FBF3FFF else entryMask.getD w 0)) ==
        (leAt (slice q.pkt.params 4 16) (4 * w) 4 &&& (if w == 0 then 0x1FBF3FFF else entryMask.getD w 0))) = true) :
    execHopInstall r s = .next ((u.openEntry t).answered u 0x0400 q 0 []) := by
  subst he hq ht
  refine runCommand_takes h hl ((if_neg (hopRange_iff.2 ⟨h2, h3, by omega⟩)).trans ?_)
  simp only [hst, hv, hstate, hsame]
  rfl

end

section

variable (h : s.passes 0x0402 q = true) (he : u = s.begun 0x0402 q) (hq : q = requestWithByte r 0 1)
  (hl : 4 ≤ q.pkt.params.length) (ht : t = leAt q.pkt.params 2 2) (h2 : 2 ≤ t) (h3 : t ≤ 1023)
include h he hq hl ht h2 h3

theorem execTunnelClose_closing (hop : leAt q.pkt.params 1 1 = 0) (hv : u.tidValid t = true) :
    execTunnelClose r s =
      .next (((u.wr (Reg.TUN_ENTRY_W0_STATE t) 2).vdpChanged t).answered u 0x0402 q 0 []) := by
  subst he hq ht
  refine runCommand_takes h hl ((if_neg (hopRange_iff.2 ⟨h2, h3, by omega⟩)).trans ?_)
  simp only [hop, State.closingEntry, hv]
  rfl

theorem execTunnelClose_remove (hop : leAt q.pkt.params 1 1 = 1) :
    execTunnelClose r s = .next ((u.removeEntry t).answered u 0x0402 q 0 []) := by
  subst he hq ht
  refine runCommand_takes h hl ((if_neg (hopRange_iff.2 ⟨h2, h3, by omega⟩)).trans ?_)
  simp only [hop]
  rfl

end

theorem execRetunePrepare_ok {y : Prepared} (h : s.passes 0x0401 q = true) (he : u = s.begun 0x0401 q)
    (hq : q = requestWithByte r 0 1) (hl : 38 ≤ q.pkt.params.length) (ht : t = leAt q.pkt.params 2 2) (h2 : 2 ≤ t)
    (h3 : t ≤ 1023) (hv : u.tidValid t = true) (hp : (u.tunInfo t).prep = none)
    (hy : y = { rates := Rates.ofBytes (slice q.pkt.params 4 24),
                at_ := leAt q.pkt.params 28 6 * 1000000000 + leAt q.pkt.params 34 4 }) :
    execRetunePrepare r s =
      .next ((u.setTunInfo t { u.tunInfo t with prep := some y }).answered u 0x0401 q 0 []) := by
  subst he hq ht hy
  refine runCommand_takes h hl ((if_neg (hostTid_iff.2 ⟨h2, h3⟩)).trans ((if_neg ?valid).trans (if_neg ?idle)))
  case valid => simp [hv]
  case idle => simp [hp]

theorem execRetuneCancel_ok (h : s.passes 0x0401 q = true) (he : u = s.begun 0x0401 q)
    (hq : q = requestWithByte r 0 2) (hl : 4 ≤ q.pkt.params.length) (ht : t = leAt q.pkt.params 2 2) :
    execRetuneCancel r s =
      .next ((u.setTunInfo t { u.tunInfo t with prep := none }).answered u 0x0401 q 0 []) := by
  subst he hq ht
  exact runCommand_takes h hl rfl

/-! Tunnels of the root's books (R207 to R213) -/

/-- TUNNEL_CREATE with a TID of the host's own choice enters the tunnel in the books and stages its entries (R209); the
units of its taps are drawn (log entry 16). -/
theorem execTunnelCreate_named {e f : BookEntry} {y : State} (h : s.passes 0x0400 q = true)
    (he : u = s.begun 0x0400 q) (hq : q = requestWithByte r 0 0) (hl : 44 ≤ q.pkt.params.length)
    (hbook : e = bookOf q.pkt.params) (hvalid : u.createValid q.pkt.params e = true) (ht : t = leAt q.pkt.params 4 2)
    (hany : t ≠ 65535) (hb : u.book t = none) (hp : u.phaseOf t = none) (hadm : u.admits u.bookList e = true)
    (hreach : u.reachable e = true) (hf : f = { e with tapUnits := (u.freeBytes e.taps.length).1.map (·.toNat) })
    (hy : y = (u.freeBytes e.taps.length).2.setBook t (some f)) :
    execTunnelCreate r s = .next ((y.beginPhase .stage t (some (asked 0x0400 q)) (some f) none (y.chargedPositions f)
      (fun s k p => s.sendInstall f t k 0 p)).settlePhase t) := by
  subst he hq
  refine runCommand_takes_later h hl ?_
  simp only [← hbook, ← ht, hvalid, beq_false_of_ne hany, hb, hp, hadm, hreach, ← hf, ← hy, Option.isSome_none,
    Bool.or_self, Bool.not_true, Bool.false_eq_true, if_false]

theorem execTunnelDestroy_known {e : BookEntry} (h : s.passes 0x0402 q = true) (he : u = s.begun 0x0402 q)
    (hq : q = requestWithByte r 0 0) (hl : 4 ≤ q.pkt.params.length) (ht : t = leAt q.pkt.params 2 2) (h2 : 2 ≤ t)
    (h3 : t ≤ 1023) (hp : u.phaseOf t = none) (hb : u.book t = some e) :
    execTunnelDestroy r s = .next ((u.beginPhase .closing t (some (asked 0x0402 q)) (some e) none
      ([e.posA, e.posB] ++ e.taps) (fun s k p => s.sendClose t k 0 p)).settlePhase t) := by
  subst he hq ht
  refine runCommand_takes_later h hl ((if_neg (hostTid_iff.2 ⟨h2, h3⟩)).trans ?_)
  simp only [hp, hb, Option.isSome_none, Bool.false_eq_true, if_false]
  rfl

/-- TUNNEL_RETUNE to rates that fit, while no other change of the tunnel is under way, prepares every charged position
(R213). -/
theorem execTunnelRetune_admitted {a : Nat} {e : BookEntry} {x : Rates} (h : s.passes 0x0401 q = true)
    (he : u = s.begun 0x0401 q) (hq : q = requestWithByte r 0 0) (hl : 28 ≤ q.pkt.params.length)
    (ht : t = leAt q.pkt.params 2 2) (h2 : 2 ≤ t) (h3 : t ≤ 1023) (hx : x = Rates.ofBytes (slice q.pkt.params 4 24))
    (hvalid : x.valid = true) (hb : u.book t = some e) (hp : u.phaseOf t = none) (hpend : u.retunePending e = false)
    (hprep : (u.tunInfo t).prep = none)
    (hadm : u.admits ((u.tun.books.filter fun b => b.1 != t).filterMap (·.2)) { e with rates := x } = true)
    (ha : a = (u.reading / (65536 : Int)).toNat + 1000000) :
    execTunnelRetune r s = .next
      ((u.beginPhase .prepare t (some (asked 0x0401 q)) (some e) (some (x, a)) (u.chargedPositions e) (fun s k p =>
        if p == 0 then s.prepareRetune t x a
        else s.sendPacket p 0x0401 k ([1, 0] ++ le 2 t ++ x.bytes ++ le 6 (a / 1000000000) ++ le 4 (a % 1000000000) ++
          [0, 0]))).settlePhase t) := by
  subst he hq
  refine runCommand_takes_later h hl ?_
  have hrange : ¬(decide (t < 2) || decide (1023 < t) || !x.valid) = true := by
    rw [hvalid, Bool.not_true, Bool.or_false]
    exact hostTid_iff.2 ⟨h2, h3⟩
  simp only [← ht, ← hx, if_neg hrange, hb, hp, hpend, hprep, hadm, ← ha, Option.isSome_none, Bool.or_self,
    Bool.not_true, Bool.false_eq_true, if_false]

/-- Without a retune the root's reply names the rates in force and no others (R211). -/
theorem queryTail_none (x : Rates) (taps path : List Nat) (round : Bool) :
    queryTail x taps path round none = x.bytes ++ tapBytes taps ++ [byte path.length, byte (b2n round), 0, 0] ++
      (path.map byte ++ List.replicate 33 0xFF).take 33 ++ zeros 3 ++ zeros 10 ++ zeros 2 ++ zeros 24 := by
  have htime : le 6 (0 / 1000000000) ++ le 4 (0 % 1000000000) = zeros 10 := by decide
  rw [← htime, ← List.append_assoc]
  rfl

theorem State.retunePending_none {e : BookEntry} (h : e.retune = none) : u.retunePending e = false := by
  rw [State.retunePending, h]

section

variable (h : s.passes 0x0403 r = true) (he : u = s.begun 0x0403 r) (hl : 2 ≤ r.pkt.params.length)
  (ht : t = leAt r.pkt.params 0 2) (h3 : t ≤ 1023) (hv : u.tidValid t = true)
include h he hl ht h3 hv

theorem execTunnelQuery_station (hr : u.isRoot = false) :
    execTunnelQuery r s = .next (u.answered u 0x0403 r 0 (u.entryImage t)) := by
  subst he ht
  refine runCommand_takes h hl ((if_neg ?known).trans (if_pos (by simp [hr])))
  case known => simp [hv, h3]

theorem execTunnelQuery_root {e : BookEntry} (hr : u.isRoot = true) (hb : u.book t = some e) (hret : e.retune = none) :
    execTunnelQuery r s = .next (u.answered u 0x0403 r 0
      (u.entryImage t ++ queryTail e.rates e.taps (chainPath e.posA e.posB) (u.ring && e.charge.round) none)) := by
  subst he ht
  refine runCommand_takes h hl ((if_neg ?known).trans ((if_neg (by simp [hr])).trans ?_))
  case known => simp [hv, h3]
  simp only [hb, State.retunePending_none hret]
  rfl

end

/-! Routes (R195) -/

/-- ROUTE_SET LINE without a ring, before there is a host tunnel. -/
theorem execRouteSetLine_open {n : Nat} {x : State × Bytes} (h : s.passes 0x0404 q = true) (he : u = s.begun 0x0404 q)
    (hq : q = requestWithByte r 0 2) (hl : 4 ≤ q.pkt.params.length) (hn : n = leAt q.pkt.params 1 1) (h1 : 1 ≤ n)
    (h32 : n ≤ 32) (hring : leAt q.pkt.params 2 1 = 0) (hr : u.isRoot = true) (hh : u.hostTunnels = false)
    (hx : x = u.sendChange 2 n 0) :
    execRouteSetLine r s = .next (x.1.answered u 0x0404 q 0 x.2) := by
  subst he hq hn hx
  refine runCommand_takes h hl ((if_neg (by simp [hr])).trans ((if_neg ?range).trans ?_))
  case range =>
    simp only [Bool.or_eq_true, beq_iff_eq, decide_eq_true_eq]
    omega
  simp only [hring, hh]
  rfl

/-- ROUTE_SET CUT and RESTORE at the root send the change of one link. -/
theorem routeSetLink_root {op n : Nat} {x : State × Bytes} (h : s.passes 0x0404 q = true) (he : u = s.begun 0x0404 q)
    (hl : 4 ≤ q.pkt.params.length) (hn : n = leAt q.pkt.params 1 1) (h32 : n ≤ 32) (hr : u.isRoot = true)
    (hx : x = u.sendChange op n 0) :
    runCommand 0x0404 (takes 4 (routeSetLink op)) q s = .next (x.1.answered u 0x0404 q 0 x.2) := by
  subst he hn hx
  exact runCommand_takes h hl ((if_neg (by simp [hr])).trans (if_neg (Nat.not_lt.2 h32)))

/-! AUDIT (R216) -/

/-- AUDIT of this Damya alone, from a transport other than the trunk, starts the job and its credit checks. -/
theorem execAudit_own {n : Nat} {y : State} (h : s.passes 0x0405 r = true) (he : u = s.begun 0x0405 r)
    (hl : 4 ≤ r.pkt.params.length) (hwhere : leAt r.pkt.params 1 1 = 0) (hj : u.cmd.jobs.length < 2)
    (hvia : r.via ≠ .tid0) (hn : n = u.cmd.lastJob % 255 + 1)
    (hy : y = u.withCmd fun c =>
      { c with jobs := c.jobs ++ [{ num := n, opcode := 0x0405, kind := .audit (leAt r.pkt.params 0 1) 0 none }],
               lastJob := n }) :
    execAudit r s = .next ((y.auditBegin n (leAt r.pkt.params 0 1) 0).answered u 0x0405 r 1 [byte n, 0, 0, 0]) := by
  subst he hn hy
  refine runCommand_takes_request h hl ?_
  have hown : (r.via == Transport.tid0) = false := beq_false_of_ne hvia
  simp only [hwhere, asked_via, hown, State.startJob_started hj]
  rfl

/-! Trunks (R173, R174) -/

section

variable (hl : 4 ≤ r.pkt.params.length) (ht : t = leAt r.pkt.params 0 1) (h1 : t ≤ 1)
include hl ht h1

/-- TRUNK_ENABLE of a trunk that is disabled, without a limit on its width. -/
theorem execTrunkEnable_disabled (h : s.passes 0x0406 r = true) (he : u = s.begun 0x0406 r)
    (hw : leAt r.pkt.params 1 1 = 255) (hoff : u.flag (Reg.TLK_CTRL_ENABLED t) = false) :
    execTrunkEnable r s = .next ((u.trunkStart t).answered u 0x0406 r 0 []) := by
  subst he ht
  refine runCommand_takes h hl ((if_neg ?range).trans ?_)
  case range => simp [hw, h1]
  simp only [hw, beq_self_eq_true, if_true, hoff]
  rfl

/-- TRUNK_DISABLE leaves its action behind the reply (R174). -/
theorem execTrunkDisable_ok (h : s.passes 0x0407 r = true) (he : u = s.begun 0x0407 r) :
    execTrunkDisable r s = .next ((u.schedule r.via (.trunkDisable t)).answered u 0x0407 r 0 []) := by
  subst he ht
  exact runCommand_takes_request h hl (if_neg (Nat.not_lt.2 h1))

end

end Sys2Proof.Machine

open Sys2Proof Sys2Proof.Machine

/-- Settles O17, a command at a time. -/
theorem tunnelCommands : Obligations.TunnelCommands := by
  unfold Obligations.TunnelCommands
  refine ⟨?create, ?staged, ?opened, ?destroy, ?closing, ?remove, ?retune, ?prepare,
    fun s u r q t h he hq hl ht => execRetuneCancel_ok h he hq hl ht, ?queryStation, ?queryRoot, ?line, ?cut, ?restore,
    ?audit, ?enable, fun s u r t h he hl ht h1 => execTrunkDisable_ok hl ht h1 h he⟩
  case create =>
    exact fun s u r q t e f y h he hq hl hbook hvalid ht hany hb hp hadm hreach hf hy =>
      execTunnelCreate_named h he hq hl hbook hvalid ht hany hb hp hadm hreach hf hy
  case staged => exact fun s u r q t h he hq hl ht h2 h3 hst => execHopInstall_staged h he hq hl ht h2 h3 hst
  case opened =>
    exact fun s u r q t h he hq hl ht h2 h3 hst hv hstate hsame =>
      execHopInstall_open h he hq hl ht h2 h3 hst hv hstate hsame
  case destroy => exact fun s u r q t e h he hq hl ht h2 h3 hp hb => execTunnelDestroy_known h he hq hl ht h2 h3 hp hb
  case closing =>
    exact fun s u r q t h he hq hl ht h2 h3 hop hv => execTunnelClose_closing h he hq hl ht h2 h3 hop hv
  case remove => exact fun s u r q t h he hq hl ht h2 h3 hop => execTunnelClose_remove h he hq hl ht h2 h3 hop
  case retune =>
    exact fun s u r q t a e x h he hq hl ht h2 h3 hx hvalid hb hp hpend hprep hadm ha =>
      execTunnelRetune_admitted h he hq hl ht h2 h3 hx hvalid hb hp hpend hprep hadm ha
  case prepare =>
    exact fun s u r q t y h he hq hl ht h2 h3 hv hp hy => execRetunePrepare_ok h he hq hl ht h2 h3 hv hp hy
  case queryStation => exact fun s u r t h he hl ht h3 hv hr => execTunnelQuery_station h he hl ht h3 hv hr
  case queryRoot =>
    intro s u r t e h he hl ht h3 hv hr hb hret
    refine (execTunnelQuery_root h he hl ht h3 hv hr hb hret).trans ?_
    rw [queryTail_none]
    simp only [← List.append_assoc]
  case line =>
    exact fun s u r q n x h he hq hl hn h1 h32 hring hr hh hx =>
      execRouteSetLine_open h he hq hl hn h1 h32 hring hr hh hx
  case cut =>
    rintro s u r _ n x h he rfl hl hn h32 hr hx
    exact routeSetLink_root h he hl hn h32 hr hx
  case restore =>
    rintro s u r _ n x h he rfl hl hn h32 hr hx
    exact routeSetLink_root h he hl hn h32 hr hx
  case audit => exact fun s u r n y h he hl hwhere hj hvia hn hy => execAudit_own h he hl hwhere hj hvia hn hy
  case enable => exact fun s u r t h he hl ht h1 hw hoff => execTrunkEnable_disabled hl ht h1 h he hw hoff

end

section
/-!
PROOFS. The events of the switch core: admission (R223 to R226), context starts and replication (R237, R242,
R301), the residue's age (R243), and the updates that answer at once (R234, R250, R255, R264).
-/

namespace Sys2Proof.Machine

/-- The trunk a segment has come in by. -/
def trunkIn (h : Held) : Option Nat := if h.input < 4 then some (h.input / 2) else none

@[simp] theorem trunkIn_trunk {h : Held} (hi : h.input < 4) : trunkIn h = some (h.input / 2) := if_pos hi

namespace State

variable {s y : State} {p id : Nat} {rest : List Nat} {h : Held} {d : List Nat}

/-! Admission, a segment at a time -/

/-- Where something has arrived, the ports up to p have their turns in ascending order, and p's comes last (R226). -/
theorem admitTo_of_arriving (p : Nat) (h : s.sw.arriving ≠ []) :
    s.admitTo (p + 1) = ((List.range p).foldl admitAt s).admitAt p := by
  rw [admitTo, if_neg (by simpa using h), List.range_succ, List.foldl_concat]

/-- At a port with an arrived segment the oldest is taken out of the arrivals and decided upon. -/
theorem admitAt_oldest (hp : Table.get (fun _ => []) s.sw.arriving p = id :: rest)
    (hy : y = s.withSw fun w => { w with arriving := Table.set (fun _ => []) w.arriving p rest })
    (hh : y.seg? id = some h) : s.admitAt p = y.decide_ id h := by
  subst hy
  simp only [admitAt, hp, hh]

/-- A port with an arrived segment shows that something has arrived. -/
theorem arriving_ne_nil (hp : Table.get (fun _ => []) s.sw.arriving p = id :: rest) : s.sw.arriving ≠ [] := by
  rintro e
  rw [e] at hp
  cases hp

/-- The segment as it is decided upon: a trunk's keeps the class of its virtual channel, and a local one takes EXPRESS
where it is urgent or on TID 0 or 1, and its tunnel's class otherwise. -/
def classed (s : State) (h : Held) : Held :=
  { h with cls := if h.input < 4 then h.cls else if h.seg.urg || decide (h.seg.tid < 2) then 0 else s.tidClass h.seg.tid }

@[simp] theorem classed_trunk (s : State) (hi : h.input < 4) : s.classed h = h := by simp only [classed, if_pos hi]

theorem decide_outputs (ht : s.target (s.classed h) (trunkIn h) = .outputs d) :
    s.decide_ id h = s.admission id (s.classed h) (trunkIn h) d := by
  simp only [classed, trunkIn] at ht ⊢
  simp only [decide_, ht]

theorem decide_discard {c : Nat} (ht : s.target (s.classed h) (trunkIn h) = .discard c) :
    s.decide_ id h = ((s.count c).cometSelect id (s.classed h) [] 0).reject id (s.classed h) 1 1 := by
  simp only [classed, trunkIn] at ht ⊢
  simp only [decide_, ht]

theorem decide_tapOut {o u : Nat} (ht : s.target (s.classed h) (trunkIn h) = .tapOut o u) :
    s.decide_ id h =
      (s.count (0x060 + 8 * u + 5) (s.classed h).cells).admission id (s.classed h) (trunkIn h) [o] := by
  simp only [classed, trunkIn] at ht ⊢
  simp only [decide_, ht]

/-- Steps 4 and 5 of R223 are skipped for the system's segments, which are sent green: only the room decides (R224). -/
theorem admission_system (tin : Option Nat) (hsys : h.seg.tid < 2 ∨ h.seg.sys = true) :
    s.admission id h tin d =
      let z := s.cometSelect id h d (s.targetQueue h d).1
      let g := { h with seg := { h.seg with color := 0 } }
      if z.room h.input h.cls h.cells (s.targetQueue h d).1 then z.admitted id g d else z.reject id g 4 4 := by
  have hsystem : (decide (h.seg.tid < 2) || h.seg.sys) = true := by simpa using hsys
  simp only [admission, hsystem, Bool.or_true, if_true, Bool.false_eq_true, if_false]
  cases State.room _ h.input h.cls h.cells (s.targetQueue h d).1 <;> rfl

/-- A trunk's credits stand for its room (R225). -/
theorem room_trunk (cls n depth : Nat) (hp : p < 4) : s.room p cls n depth = true := by simp [room, hp]

/-! Context starts -/

variable {u : Units} {o c : Nat}

theorem contextStart_of_busy (hc : (s.context o c).isSome = true) : s.contextStart u o c = s := if_pos hc

section

variable (hc : (s.context o c).isSome = false)
include hc

/-- At a free context the holds are noted before the scheduler chooses; what it chooses starts or replicates. -/
theorem contextStart_of_chosen {k : Candidate} (hk : (s.noteHolds o c).choose u o c = some k) :
    s.contextStart u o c = if k.source == .multicast then (s.noteHolds o c).replicate u k.held.input c
      else (s.noteHolds o c).startCandidate o c k := by
  simp only [contextStart, hc, hk, Bool.false_eq_true, if_false]

theorem contextStart_of_not_chosen (hk : (s.noteHolds o c).choose u o c = none) :
    s.contextStart u o c = s.noteHolds o c := by
  simp only [contextStart, hc, hk, Bool.false_eq_true, if_false]

end

end State

variable {s x y z : State} {p o : Fin 32} {c : Fin 4} {id : Nat} {rest : List Nat} {h : Held}

/-- Once the ports below have had their turn, the oldest segment of the port is decided upon (R223, R226). -/
theorem execSegmentAdmission_oldest (hn : s.hubOn = true) (ha : s.sw.arriving ≠ [])
    (hx : x = (List.range p.val).foldl State.admitAt s)
    (hp : Table.get (fun _ => []) x.sw.arriving p.val = id :: rest)
    (hy : y = x.withSw fun w => { w with arriving := Table.set (fun _ => []) w.arriving p.val rest })
    (hh : y.seg? id = some h) : execSegmentAdmission p s = .next (y.decide_ id h) := by
  rw [execSegmentAdmission, onHub_on _ hn, State.admitTo_of_arriving _ ha, ← hx, State.admitAt_oldest hp hy hh]

/-- Where nothing has reached a port below, the port's own comes at once. -/
theorem execSegmentAdmission_first (hn : s.hubOn = true)
    (h0 : ∀ q, q < p.val → Table.get (fun _ => []) s.sw.arriving q = [])
    (hp : Table.get (fun _ => []) s.sw.arriving p.val = id :: rest)
    (hy : y = s.withSw fun w => { w with arriving := Table.set (fun _ => []) w.arriving p.val rest })
    (hh : y.seg? id = some h) : execSegmentAdmission p s = .next (y.decide_ id h) :=
  execSegmentAdmission_oldest hn (State.arriving_ne_nil hp)
    (State.foldl_admitAt_empty fun q hq => h0 q (List.mem_range.1 hq)).symm hp hy hh

/-- The ports up to p have their turns in ascending order, where anything has arrived (R226). -/
theorem execSegmentAdmission_on (p : Fin 32) (hn : s.hubOn = true) :
    execSegmentAdmission p s =
      .next (if s.sw.arriving = [] then s else (List.range (p.val + 1)).foldl State.admitAt s) := by
  simp only [execSegmentAdmission, onHub_on _ hn, State.admitTo, beq_iff_eq]

/-- CONTEXT_SEGMENT_START reports a full park before the context starts (R237, R301). -/
theorem execContextSegmentStart_on (room : Bool) (hn : s.hubOn = true) (hy : y = s.parkFullNotice o c) :
    execContextSegmentStart o c room s = .next (y.contextStart (portUnits room) o c) := by
  rw [execContextSegmentStart, onHub_on _ hn, hy]

/-- At a free context the chosen candidate starts, or the multicast head replicates (R237, R242). -/
theorem execContextSegmentStart_chosen {room : Bool} {k : Candidate} (hn : s.hubOn = true)
    (hy : y = s.parkFullNotice o c) (hc : (y.context o c).isSome = false) (hz : z = y.noteHolds o c)
    (hk : z.choose (portUnits room) o c = some k) :
    execContextSegmentStart o c room s = .next
      (if k.source == .multicast then z.replicate (portUnits room) k.held.input c else z.startCandidate o c k) := by
  subst hz
  rw [execContextSegmentStart_on room hn hy, State.contextStart_of_chosen hc hk]

/-- A context that carries a segment, or for which nothing is chosen, starts none. -/
theorem execContextSegmentStart_none {room : Bool} (hn : s.hubOn = true) (hy : y = s.parkFullNotice o c)
    (hc : (y.context o c).isSome = true ∨ (y.noteHolds o c).choose (portUnits room) o c = none) :
    execContextSegmentStart o c room s =
      .next (if (y.context o c).isSome = true then y else y.noteHolds o c) := by
  rw [execContextSegmentStart_on room hn hy]
  by_cases hb : (y.context o c).isSome = true
  · rw [State.contextStart_of_busy hb, if_pos hb]
  · rw [State.contextStart_of_not_chosen (eq_false_of_ne_true hb) (hc.resolve_left hb), if_neg hb]

/-- With AGE_US 0 no entry ages (R243). -/
theorem execResidueAgeExpiry_off (i : Fin 32) (hn : s.hubOn = true) (h0 : s.rd Reg.SWC_MCAST_AGE_US = 0) :
    execResidueAgeExpiry i s = .next s := by
  rw [execResidueAgeExpiry, onHub_on _ hn]
  simp only [h0, beq_self_eq_true, if_true]

/-- The one entry of a store, aged and toward a port unit, is discarded (R243). -/
theorem execResidueAgeExpiry_one {i : Fin 32} {r : Residue} (hn : s.hubOn = true)
    (h0 : s.rd Reg.SWC_MCAST_AGE_US ≠ 0) (hr : s.residue i = [r]) (ho : 4 ≤ r.output)
    (hage : r.entered + rawOfNs (1000 * s.rd Reg.SWC_MCAST_AGE_US) < s.mer.raw) (hh : s.seg? r.id = some h)
    (hy : y = s.setResidue i []) :
    execResidueAgeExpiry i s =
      .next (((y.aged h [r.output]).cometAged r.id r.output).copyGone r.id r.output).wfqSettle := by
  subst hy
  have hold : [r].filter (fun r => 4 ≤ r.output && r.entered + rawOfNs (1000 * s.rd Reg.SWC_MCAST_AGE_US) < s.mer.raw)
      = [r] := by simp [ho, hage]
  rw [execResidueAgeExpiry, onHub_on _ hn]
  simp [h0, hr, hold, hh]

end Sys2Proof.Machine

open Sys2Proof Sys2Proof.Machine

/-- Settles O53: the segment's turn comes as any other's, and only the room is left to decide (admission_system). -/
theorem systemSegments : Obligations.SystemSegments := by
  unfold Obligations.SystemSegments
  refine ⟨?outputs, ?tapOut⟩
  case outputs =>
    rintro s x y p id rest h _ d hn ha hx hp hy hh hsys rfl ht
    refine (execSegmentAdmission_oldest hn ha hx hp hy hh).trans (congrArg _ ?_)
    exact (State.decide_outputs ht).trans (State.admission_system _ hsys)
  case tapOut =>
    rintro s x y p id rest h _ _ _ o u hn ha hx hp hy hh hsys rfl ht rfl rfl
    refine (execSegmentAdmission_oldest hn ha hx hp hy hh).trans (congrArg _ ?_)
    exact (State.decide_tapOut ht).trans (State.admission_system _ hsys)

/-- Settles O25, an event at a time. -/
theorem switchCoreEvents : Obligations.SwitchCoreEvents := by
  unfold Obligations.SwitchCoreEvents
  refine ⟨fun s y p id rest h hn h0 hp hy hh => execSegmentAdmission_first hn h0 hp hy hh, ?trunkSystem, ?trunkDiscard,
    fun s p hn => execSegmentAdmission_on p hn, ?starts, ?replicates,
    fun s y o c room hn hy hc => execContextSegmentStart_none hn hy hc,
    fun s i c hn => onHub_on (fun s => s.replicate _ _ _) hn, fun s i hn h0 => execResidueAgeExpiry_off i hn h0,
    fun s y i r h hn h0 hr ho hage hh hy => execResidueAgeExpiry_one hn h0 hr ho hage hh hy,
    fun s hn => onHub_on State.wredUpdate hn, fun s hn => onHub_on (fun s => s.withSw _) hn,
    fun s hn => onHub_on (fun s => s.wr _ _) hn, fun s v hn => onHub_on (fun s => s.policerSnapshot v) hn⟩
  case trunkSystem =>
    intro s y p id rest h d hn h0 hp hy hh hi hsys ht
    refine (execSegmentAdmission_first hn h0 hp hy hh).trans (congrArg _ ?_)
    rw [State.decide_outputs (by simpa [hi] using ht), State.classed_trunk _ hi,
      State.admission_system _ (.inr hsys)]
    simp only [State.room_trunk _ _ _ hi, if_true]
  case trunkDiscard =>
    intro s y p id rest h c hn h0 hp hy hh hi ht
    refine (execSegmentAdmission_first hn h0 hp hy hh).trans (congrArg _ ?_)
    rw [State.decide_discard (by simpa [hi] using ht), State.classed_trunk _ hi]
  case starts =>
    intro s y z o c room k hn hy hc hz hk hs
    exact (execContextSegmentStart_chosen hn hy hc hz hk).trans (congrArg _ (if_neg (by simpa using hs)))
  case replicates =>
    intro s y z o c room k hn hy hc hz hk hs
    exact (execContextSegmentStart_chosen hn hy hc hz hk).trans (congrArg _ (if_pos (by simpa using hs)))

end

section
/-!
PROOFS. The books of the policers: what each operation on a bucket, on a policer and on the machine's policers keeps
(R231, R261 to R264).
-/

namespace Sys2Proof.Machine

/-- A hub-die row acts, or leaves the machine as it was. -/
theorem onHub_cases {s t : State} {f : State → State} (h : onHub f s = .next t) : f s = t ∨ s = t := by
  have ht : (if s.hubOn then f s else s) = t := Host.Outcome.next.inj h
  split at ht
  case isTrue => exact .inl ht
  case isFalse => exact .inr ht

/-! A bucket's books -/

section

variable {b : PolicerBucket}

/-- What a fill adds beyond the free room is clipped, so both sums grow by the same number. -/
theorem policerBalanced_fill (h : policerBalanced b) (r : Nat) : policerBalanced (b.fill r) := by
  obtain ⟨hsize, hsum⟩ := h
  simp only [policerBalanced, PolicerBucket.fill]
  generalize (b.rate * r + b.frac) / 3200000 = add
  have hsplit : min add (b.size - b.tokens) + (add - (b.size - b.tokens)) = add := by omega
  constructor <;> omega

theorem policerBalanced_spend {n : Nat} (h : policerBalanced b) (hn : n ≤ b.tokens) : policerBalanced (b.spend n) := by
  obtain ⟨hsize, hsum⟩ := h
  simp only [policerBalanced, PolicerBucket.spend]
  constructor <;> omega

/-- What the new size does not hold is clipped. -/
theorem policerBalanced_retune (h : policerBalanced b) (rate kib : Nat) : policerBalanced (b.retune rate kib) := by
  obtain ⟨-, hsum⟩ := h
  simp only [policerBalanced, PolicerBucket.retune]
  generalize kib * 262144 = size
  constructor <;> omega

/-- A bucket that has spent nothing and clipped nothing holds what was added. -/
theorem policerBalanced_full (rate size : Nat) :
    policerBalanced { rate := rate, size := size, tokens := size, added := size } := by
  simp [policerBalanced]

end

/-! A policer's books -/

/-- Both buckets are in balance. -/
def policerSound (p : Policer) : Prop := policerBalanced p.c ∧ policerBalanced p.p

theorem policerSound_fill {p : Policer} (h : policerSound p) (raw : Nat) : policerSound (p.fill raw) :=
  ⟨policerBalanced_fill h.1 _, policerBalanced_fill h.2 _⟩

/-- The color that R231's meter gives `b` 256ths of a byte, and the policer debited for them. -/
def metered (p : Policer) (b : Nat) : Nat × Policer :=
  if p.p.tokens < b then (2, p)
  else if p.c.tokens < b then (1, { p with p := p.p.spend b })
  else (0, { p with p := p.p.spend b, c := p.c.spend b })

/-- The meter debits a bucket of what it holds, or not at all. -/
theorem policerSound_metered {p : Policer} (h : policerSound p) (b : Nat) : policerSound (metered p b).2 := by
  obtain ⟨hc, hp⟩ := h
  unfold metered
  split
  case isTrue => exact ⟨hc, hp⟩
  case isFalse hpeak =>
    have hp' := policerBalanced_spend hp (Nat.le_of_not_lt hpeak)
    split
    case isTrue => exact ⟨hc, hp'⟩
    case isFalse hcommitted => exact ⟨policerBalanced_spend hc (Nat.le_of_not_lt hcommitted), hp'⟩

/-! The machine's policers -/

namespace State

variable {s t : State} {tid d : Nat} {p : Policer}

theorem policer_setPolicer (s : State) (tid d e f : Nat) (x : Option Policer) :
    (s.setPolicer tid d x).policer e f = if 2 * e + f = 2 * tid + d then x else s.policer e f :=
  Table.get_set ..

/-- The books are those of the switch core. -/
theorem policersBalanced_of_sw (h : s.policersBalanced) (hsw : t.sw = s.sw) : t.policersBalanced := by
  simpa only [policersBalanced, policer, hsw] using h

theorem policerSound_of_policer (h : s.policersBalanced) (hp : s.policer tid d = some p) : policerSound p :=
  h tid d p hp

theorem policersBalanced_setPolicer (h : s.policersBalanced) (tid d : Nat) (hp : policerSound p) :
    (s.setPolicer tid d (some p)).policersBalanced := by
  intro e f q hq
  rw [policer_setPolicer] at hq
  split at hq
  case isTrue => exact Option.some.inj hq ▸ hp
  case isFalse => exact h e f q hq

/-- A policer is loaded with what its first fill adds (R263, log entry 13). -/
theorem policersBalanced_loadPolicer (h : s.policersBalanced) (tid d cls : Nat) (x : Rates) :
    (s.loadPolicer tid d cls x).policersBalanced :=
  policersBalanced_setPolicer h tid d ⟨policerBalanced_full _ _, policerBalanced_full _ _⟩

theorem policersBalanced_retunePolicer (h : s.policersBalanced) (tid d cls : Nat) (x : Rates) :
    (s.retunePolicer tid d cls x).policersBalanced := by
  unfold retunePolicer
  split
  case h_1 => exact h
  case h_2 p hp =>
    obtain ⟨hc, hpk⟩ := policerSound_fill (policerSound_of_policer h hp) s.mer.raw
    exact policersBalanced_setPolicer h tid d ⟨policerBalanced_retune hc _ _, policerBalanced_retune hpk _ _⟩

/-- A metered segment changes nothing, or debits the policer of its tunnel's direction, filled up to the present. -/
theorem sw_meter (s : State) (tid n : Nat) : (s.meter tid n).2.2.sw = s.sw ∨
    ∃ d p, s.policer tid d = some p ∧
      (s.meter tid n).2.2.sw = (s.setPolicer tid d (some (metered (p.fill s.mer.raw) (256 * n)).2)).sw := by
  unfold meter
  dsimp only
  split
  case isTrue => exact .inl rfl
  case isFalse =>
    split
    case h_1 => exact .inl rfl
    case h_2 p hp =>
      refine .inr ⟨_, p, hp, ?_⟩
      rw [← metered]
      split <;> simp

theorem policersBalanced_meter (h : s.policersBalanced) (tid n : Nat) : (s.meter tid n).2.2.policersBalanced := by
  obtain hsw | ⟨d, p, hp, hsw⟩ := s.sw_meter tid n
  · exact policersBalanced_of_sw h hsw
  · have hq := policerSound_metered (policerSound_fill (policerSound_of_policer h hp) s.mer.raw) (256 * n)
    exact policersBalanced_of_sw (policersBalanced_setPolicer h tid d hq) hsw

/-- A snapshot fills the policer it shows up to the present, and changes no other. -/
theorem sw_policerSnapshot (s : State) (w : Word) : (s.policerSnapshot w).sw = s.sw ∨
    ∃ tid d p, s.policer tid d = some p ∧
      (s.policerSnapshot w).sw = (s.setPolicer tid d (some (p.fill s.mer.raw))).sw := by
  simp only [policerSnapshot, put_frame, wr_frame]
  split
  case h_1 p hp =>
    rw [Option.ite_none_right_eq_some, Option.map_eq_some_iff] at hp
    obtain ⟨-, q, hq, rfl⟩ := hp
    exact .inr ⟨_, _, q, hq, rfl⟩
  case h_2 => exact .inl rfl

theorem policersBalanced_policerSnapshot (h : s.policersBalanced) (w : Word) :
    (s.policerSnapshot w).policersBalanced := by
  obtain hsw | ⟨tid, d, p, hp, hsw⟩ := s.sw_policerSnapshot w
  · exact policersBalanced_of_sw h hsw
  · have hq := policerSound_fill (policerSound_of_policer h hp) s.mer.raw
    exact policersBalanced_of_sw (policersBalanced_setPolicer h tid d hq) hsw

end State

end Sys2Proof.Machine

open Sys2Proof Sys2Proof.Machine

/-- Settles O52: every operation is a fill, a debit of what the bucket holds, a retune or a load, and each keeps the
books. -/
theorem policerBooks : Obligations.PolicerBooks := by
  unfold Obligations.PolicerBooks
  refine ⟨fun b r n rate kib h => ⟨policerBalanced_fill h r, policerBalanced_spend h, policerBalanced_retune h rate kib⟩,
    fun s tid d cls n x h => ⟨State.policersBalanced_loadPolicer h tid d cls x,
      State.policersBalanced_retunePolicer h tid d cls x, State.policersBalanced_meter h tid n⟩, ?snapshot⟩
  case snapshot =>
    intro s t v h he
    obtain rfl | rfl := onHub_cases (f := fun s => s.policerSnapshot v) he
    · exact State.policersBalanced_policerSnapshot h v
    · exact h

end

section
/-!
PROOFS. The rows of the mode sequencer (R259, R533, R534, R542 to R545, R548).
-/

namespace Sys2Proof.Machine

variable {s a : State} {m : Mode}

/-- The regulator is driven through the VID balls, so no acknowledgment is looked at (R533). -/
theorem execVoltageSettled_step (acked : Bool) (hn : s.hubOn = true) (hstep : s.rd Reg.CLK_OP_STEP = 1)
    (hif : s.flag Reg.CLK_VR_IF = true) :
    execVoltageSettled acked s = .next ((s.withNib fun n => { n with volt := n.vCmd }).opAdvance.opSettled) := by
  rw [execVoltageSettled, onHub_on _ hn]
  simp [hstep, hif]

theorem State.asking_ask (h : s.nib.seq = .ask m) : s.asking = some m.code := by
  simp only [State.asking, h]

/-- Every unit is ready: the entry phase begins (R542). -/
theorem execAskPhaseComplete_ready (hn : s.hubOn = true) (hs : s.nib.seq = .ask m) (hr : s.notReady m.code = []) :
    execAskPhaseComplete s = .next (s.enterPhase m.code) := by
  rw [execAskPhaseComplete, onHub_on _ hn]
  simp only [State.asking_ask hs, hr, beq_self_eq_true, if_true]

/-- A unit that is not ready refuses the entry, the one of the lowest code first (R542, R543). -/
theorem execAskPhaseTimeout_unready {u : Nat} {l : List Nat} (hn : s.hubOn = true) (hs : s.nib.seq = .ask m)
    (hr : s.notReady m.code = u :: l) : execAskPhaseTimeout s = .next (s.refuseEntry m.code u) := by
  rw [execAskPhaseTimeout, onHub_on _ hn]
  simp only [State.asking_ask hs, hr]

/-- With no root port left to wait for, the entry is finished at once (R545, steps 2 to 4). -/
theorem execEntryDrainEnd_noPorts (hn : s.hubOn = true) (hs : s.nib.seq = .drain m) (he : s.outputsEmpty = true)
    (ha : a = [0, 1].foldl (fun (s : State) t => if s.flag (Reg.TLK_CTRL_ENABLED t) then s.trunkEnterDark t else s) s)
    (hp : a.pmePorts = 0) : execEntryDrainEnd false s = .next (a.portsSuspend.finishEntry m) := by
  rw [execEntryDrainEnd, onHub_on _ hn]
  simp only [hs, he, Bool.not_true, Bool.and_false, Bool.false_eq_true, if_false, ← ha, hp, beq_self_eq_true, if_true]

/-- The last root port has answered (R286, R545). -/
theorem execPmeTurnOffWaitEnd_last {k : Nat} {port : Fin 2} (hn : s.hubOn = true) (hs : s.nib.seq = .pmeWait m k)
    (hb : bit k port = true) (hk : clearBit k port = 0) :
    execPmeTurnOffWaitEnd port s = .next ((s.pcieToL2 port).finishEntry m) := by
  rw [execPmeTurnOffWaitEnd, onHub_on _ hn]
  simp only [State.pmeAnswered, hs, hb, hk, Bool.not_true, Bool.false_eq_true, if_false, beq_self_eq_true, if_true]

/-- Both trunks are up again: RUN, where nothing is degraded (R545, steps 4 and 5). -/
theorem execIdleExitTrunksReady_run {c : Nat} (hn : s.hubOn = true) (hs : s.nib.seq = .trunks c)
    (h0 : s.trunkLow 0 = false) (h1 : s.trunkLow 1 = false) (hd : s.flag Reg.SYS_MODE_DEGR = false) :
    execIdleExitTrunksReady false s = .next
      ((((s.withNib fun n => { n with seq := .none }).setMode 3).modeChanged 2 3 c).wakeNotice.portsResume) := by
  have hlow : [0, 1].any s.trunkLow = false := by simp [h0, h1]
  rw [execIdleExitTrunksReady, onHub_on _ hn]
  simp only [hs, hlow, hd, Bool.and_false, Bool.false_eq_true, if_false]

/-- The entry's action at the head of those that wait (R545, R548). -/
theorem execServiceEntryTakeEffect_head {v : Transport} {l : List Waiting} {trk efu tcp units : Nat}
    (hn : s.hubOn = true)
    (hw : s.cmd.waiting = { via := v, act := .serviceEnter trk efu tcp units, handed := true } :: l)
    (ha : a = s.withCmd fun c => { c with waiting := l }) :
    execServiceEntryTakeEffect s = .next
      ((((((([0, 1].filter fun t => bit trk t).map (0x10 + ·)) ++ serviceUnits units ++
        (([0, 1, 2, 3].filter fun t => bit tcp t).map (0x60 + ·)) ++
        (([1, 2, 3, 4, 5, 6, 7].filter fun t => bit efu t).map (0x70 + ·))).foldl State.enterTest a).withNib fun n =>
        { n with seq := .none }).setMode 5).modeChanged a.mode 5 0) := by
  rw [execServiceEntryTakeEffect, onHub_on _ hn, State.takeDeferred_head hw rfl rfl, ha]

/-- Every unit is back in its starting state: DEGRADED, where a degrading condition has stayed (R545). -/
theorem execServiceExitComplete_degraded (hn : s.hubOn = true) (hs : s.nib.seq = .serviceExit)
    (hd : s.flag Reg.SYS_MODE_DEGR = true) :
    execServiceExitComplete s = .next (((s.withNib fun n => { n with seq := .none }).setMode 4).modeChanged 5 4 0) := by
  rw [execServiceExitComplete, onHub_on _ hn]
  simp only [hs, hd, if_true]

end Sys2Proof.Machine

open Sys2Proof Sys2Proof.Machine

/-- Settles O4, an event at a time. -/
theorem modeSequencerEvents : Obligations.ModeSequencerEvents := by
  unfold Obligations.ModeSequencerEvents
  refine ⟨fun s k hn hstep hif => execVoltageSettled_step k hn hstep hif, fun s hn => onHub_on State.epoch hn,
    fun s m hn hs hr => execAskPhaseComplete_ready hn hs hr,
    fun s m u l hn hs hr => execAskPhaseTimeout_unready hn hs hr,
    fun s a m hn hs he ha hp => execEntryDrainEnd_noPorts hn hs he ha hp,
    fun s m k port hn hs hb hk => execPmeTurnOffWaitEnd_last hn hs hb hk,
    fun s c hn hs h0 h1 hd => execIdleExitTrunksReady_run hn hs h0 h1 hd,
    fun s a v l trk efu tcp units hn hw ha => execServiceEntryTakeEffect_head hn hw ha,
    fun s hn hs hd => execServiceExitComplete_degraded hn hs hd⟩

end

section
/-!
PROOFS. Counter snapshots and clears, Comets and the samplers (R278, R607, R608, R610, R614, R615, R617).
-/

namespace Sys2Proof.Machine

variable {s u : State} {r : Request}

theorem State.perfClear_inRange {first : Nat} (n : Nat) (ovfOnly : Bool) (h : first ≤ 767) :
    s.perfClear first n ovfOnly = State.count
      { s with
        overflow := s.overflow.filter fun i => !(decide (first ≤ i) && decide (i < first + n) && decide (i ≤ 767))
        counters := if ovfOnly then s.counters else s.counters.filter fun e =>
          !(decide (first ≤ e.1) && decide (e.1 < first + n) && decide (e.1 ≤ 767)) } 0x2FD :=
  if_neg (Nat.not_lt.2 h)

/-- A segment's Comet ends for want of time with the outcome 8, counted and told whatever its selector asks for (R615). -/
theorem State.cometEnd_expired {c : Comet} (h : s.perf.comets.find? (fun x => x.seg == c.seg) = some c) :
    s.cometEnd c.seg 8 =
      (((s.setComets (s.perf.comets.filter fun x => x.id != c.id)).count 0x2FB).count 0x2FA).produce 2 (cometEntry c 8) := by
  rw [State.cometEnd, h]
  rfl

theorem execCometExpiry_inFlight {c : Comet} (hn : s.hubOn = true)
    (hid : s.perf.comets.find? (fun x => x.id == c.id) = some c)
    (hseg : s.perf.comets.find? (fun x => x.seg == c.seg) = some c) (hlt : c.id < 2 ^ 32) :
    execCometExpiry (BitVec.ofNat 32 c.id) s = .next
      ((((s.setComets (s.perf.comets.filter fun x => x.id != c.id)).count 0x2FB).count 0x2FA).produce 2
        (cometEntry c 8)) := by
  rw [execCometExpiry, onHub_on _ hn]
  simp only [BitVec.toNat_ofNat, Nat.mod_eq_of_lt hlt, hid, State.cometEnd_expired hseg]

/-- COMET_CONFIG of a selector that names ports that are there and at least one class (R617), by a master that may read the
counters (R610). -/
theorem execCometConfig_ok {k : Nat} {a b : Word} (h : s.passes 0x0906 r = true) (he : u = s.begun 0x0906 r)
    (hl : 12 ≤ r.pkt.params.length) (hread : u.mayPerfRead r.via = true) (hk : k = leAt r.pkt.params 0 1) (hk3 : k ≤ 3)
    (ha : a = BitVec.ofNat 32 (leAt r.pkt.params 4 4)) (hb : b = BitVec.ofNat 32 (leAt r.pkt.params 8 4))
    (hin : u.portOk ((Reg.CMT_SEL_A_INPUT 0).get a) true = true)
    (hout : u.portOk ((Reg.CMT_SEL_B_OUTPUT 0).get b) true = true) (hcls : (Reg.CMT_SEL_A_CLASSES 0).get a ≠ 0) :
    execCometConfig r s = .next
      (((u.plainWrite (Reg.CMT_SEL_A_A k) a).plainWrite (Reg.CMT_SEL_B_A k) b).answered u 0x0906 r 0 []) := by
  subst he
  refine runCommand_takes_request h hl ?_
  simp only [asked_via, hread, ← hk, ← ha, ← hb, hin, hout, beq_false_of_ne hcls, decide_eq_false (Nat.not_lt.2 hk3),
    Bool.not_true, Bool.and_false, Bool.or_self, Bool.false_eq_true, if_false]
  rfl

/-- SAMPLE_CONFIG of a sampler that is left off, on ports that are there (R278). -/
theorem execSampleConfig_off {k : Nat} {a b : Word} (h : s.passes 0x0907 r = true) (he : u = s.begun 0x0907 r)
    (hl : 12 ≤ r.pkt.params.length) (hk : k = leAt r.pkt.params 0 1) (hk7 : k ≤ 7)
    (ha : a = BitVec.ofNat 32 (leAt r.pkt.params 4 4)) (hb : b = BitVec.ofNat 32 (leAt r.pkt.params 8 4))
    (hout : u.portOk ((Reg.SCH_SMP_A_OUTPUT 0).get a) false = true)
    (hin : u.portOk ((Reg.SCH_SMP_A_INPUT 0).get a) true = true) (hen : (Reg.SCH_SMP_A_EN 0).get a = 0) :
    execSampleConfig r s = .next
      (((u.plainWrite (Reg.SCH_SMP_A_A k) a).plainWrite (Reg.SCH_SMP_B_A k) b).answered u 0x0907 r 0 []) := by
  subst he
  have hoff : ((0 : Nat) == 1) = false := rfl
  refine runCommand_takes h hl ?_
  simp only [← hk, ← ha, ← hb, hin, hout, hen, hoff, decide_eq_false (Nat.not_lt.2 hk7), Bool.not_true,
    Bool.false_and, Bool.or_self, Bool.false_eq_true, if_false]
  rfl

end Sys2Proof.Machine

open Sys2Proof Sys2Proof.Machine

/-- Settles O14, a row at a time. -/
theorem counterAndCometCommands : Obligations.CounterAndCometCommands := by
  unfold Obligations.CounterAndCometCommands
  refine ⟨fun s hn => onHub_on State.perfSnap hn, ?clear, fun s v hn => onHub_on (fun s => s.withPerf _) hn,
    fun s c hn hid hseg hlt => execCometExpiry_inFlight hn hid hseg hlt, ?comet, ?sample⟩
  case clear =>
    intro s f n o hn hf
    exact (onHub_on (fun s => ((s.wr Reg.PERF_CTRL_COUNT n.toNat).wr Reg.PERF_CTRL_FIRST f.toNat).perfClear f.toNat
      n.toNat o) hn).trans (congrArg _ (State.perfClear_inRange n.toNat o hf))
  case comet =>
    intro s u r k a b h he hl hread hk hk3 ha hb hin hout hcls
    exact execCometConfig_ok h he hl hread hk hk3 ha hb hin hout hcls
  case sample =>
    intro s u r k a b h he hl hk hk7 ha hb hout hin hen
    exact execSampleConfig_off h he hl hk hk7 ha hb hout hin hen

end

section
/-!
PROOFS. The events of urgency and of the station function's requests (R272, R275, R296, R297).
-/

namespace Sys2Proof.Machine

variable {s : State} {tid : Fin 1024}

/-- The root clears the urgent state of a fetch tunnel (R272). -/
theorem execUrgStateClearTimeout_urgent (hn : s.hubOn = true) (hr : s.isRoot = true) (hu : tid.val ∈ s.sw.urgent) :
    execUrgStateClearTimeout tid s = .next (s.setUrgent tid false) := by
  rw [execUrgStateClearTimeout, onHub_on _ hn]
  simp only [hr, List.contains_iff_mem.2 hu, Bool.and_self, if_true]

/-- URG_LONG_MS 0 asks for no notice (R275). -/
theorem execUrgLongExpiry_off (hn : s.hubOn = true) (h0 : s.rd Reg.SCH_URG_LONG_MS = 0) :
    execUrgLongExpiry tid s = .next s := by
  rw [execUrgLongExpiry, onHub_on _ hn]
  simp only [h0, beq_self_eq_true, if_true]

section

variable (hn : s.hubOn = true) (h0 : s.rd Reg.SCH_URG_LONG_MS ≠ 0)
include hn h0

/-- At the root, a tunnel that is urgent and was not yet told of (R275). -/
theorem execUrgLongExpiry_root (hr : s.isRoot = true) (hu : tid.val ∈ s.sw.urgent) (hl : tid.val ∉ s.sw.urgLong) :
    execUrgLongExpiry tid s = .next (({ s with sw := { s.sw with urgLong := s.sw.urgLong ++ [tid.val] } }).notice
      0x0441 (le 2 tid ++ [2])) := by
  have hnew : s.sw.urgLong.contains tid.val = false := by simpa using hl
  rw [execUrgLongExpiry, onHub_on _ hn]
  simp only [beq_false_of_ne h0, hr, List.contains_iff_mem.2 hu, hnew, Bool.not_false,
    Bool.and_self, Bool.false_eq_true, if_false, if_true]

/-- At a station, the first pipe of the tunnel that runs low and was not yet told of (R275). -/
theorem execUrgLongExpiry_station {p : Nat} (hr : s.isRoot = false)
    (hp : [0, 1].find? (fun p => s.sfnTunnel p == some tid.val && s.flag (Reg.DSP_STAT_LOW p) &&
      s.flag Reg.SCH_CTRL_URG_EN) = some p) (hl : p ∉ s.sw.urgLong) :
    execUrgLongExpiry tid s = .next (({ s with sw := { s.sw with urgLong := s.sw.urgLong ++ [p] } }).notice 0x0441
      (le 2 tid ++ [byte p])) := by
  have hnew : s.sw.urgLong.contains p = false := by simpa using hl
  rw [execUrgLongExpiry, onHub_on _ hn]
  simp only [beq_false_of_ne h0, hr, hp, hnew, Bool.false_eq_true, if_false]

end

/-- A tag in use is freed, and the request that held it ends without data (R296). -/
theorem execCompletionTimeout_inUse {tag : Fin 1024} {t : SfnTag} (hn : s.hubOn = true)
    (ht : s.pcie.tags.find? (fun t => t.tag == tag.val) = some t) :
    execCompletionTimeout tag s = .next ((s.tagTimeout t).sfnDone t none) := by
  rw [execCompletionTimeout, onHub_on _ hn]
  simp only [ht]

theorem execFunctionLevelReset_station (hn : s.hubOn = true) (hr : s.isRoot = false) :
    execFunctionLevelReset s = .next (s.put Reg.SFN_STAT_FLR_BUSY true) := by
  rw [execFunctionLevelReset, onHub_on _ hn]
  simp only [hr, Bool.false_eq_true, if_false]
  rfl

theorem execFlrDrainEnd_busy {y : State} (hn : s.hubOn = true) (hb : s.flag Reg.SFN_STAT_FLR_BUSY = true)
    (hy : y = ((s.setTags []).cfgReset 0).withPcie fun p => { p with want := [], pendingMsi := [] }) :
    execFlrDrainEnd s = .next
      ((((y.withCmd fun c => { c with
        mbxIrqEn := false, mbxReplyLen := 0, mbxOverrun := false, mbxDone := false, mbxBusy := false }).setReg
        Reg.SFN_STAT_A (regReset Reg.SFN_STAT_A)).put Reg.SFN_CTRL_BME false).put Reg.SFN_CTRL_TAG10 false) := by
  rw [execFlrDrainEnd, onHub_on _ hn, hy]
  simp only [hb, Bool.not_true, Bool.false_eq_true, if_false]

theorem execFlrDrainEnd_idle (hn : s.hubOn = true) (hb : s.flag Reg.SFN_STAT_FLR_BUSY = false) :
    execFlrDrainEnd s = .next s := by
  rw [execFlrDrainEnd, onHub_on _ hn]
  simp only [hb, Bool.not_false, if_true]

end Sys2Proof.Machine

open Sys2Proof Sys2Proof.Machine

/-- Settles O26, an event at a time. -/
theorem urgencyAndRequesterEvents : Obligations.UrgencyAndRequesterEvents := by
  unfold Obligations.UrgencyAndRequesterEvents
  exact ⟨fun s tid hn hr hu => execUrgStateClearTimeout_urgent hn hr hu, fun s tid hn h0 => execUrgLongExpiry_off hn h0,
    fun s tid hn h0 hr hu hl => execUrgLongExpiry_root hn h0 hr hu hl,
    fun s tid p hn h0 hr hp hl => execUrgLongExpiry_station hn h0 hr hp hl,
    fun s tag t hn ht => execCompletionTimeout_inUse hn ht, fun s hn hr => execFunctionLevelReset_station hn hr,
    fun s y hn hb hy => execFlrDrainEnd_busy hn hb hy, fun s hn hb => execFlrDrainEnd_idle hn hb⟩

end

section
/-!
PROOFS. The events of PCI Express ports and of the TLPs of the host and of devices (R285, R287, R290, R292, R298, R300,
R307, R545).
-/

namespace Sys2Proof.Machine

variable {s : State}

/-- A fold whose steps all leave its start as it is. -/
theorem foldl_eq_start {α β : Type} {f : β → α → β} {b : β} {l : List α} (h : ∀ a ∈ l, f b a = b) :
    l.foldl f b = b := by
  induction l with
  | nil => rfl
  | cons a l ih => rw [List.foldl_cons, h a List.mem_cons_self, ih fun x hx => h x (List.mem_cons_of_mem _ hx)]

/-! Discarded prefetch lines -/

theorem State.discardLines_none {p : PfLine → Bool} (h : s.pcie.lines.filter p = []) : s.discardLines p = s := by
  rw [State.discardLines, h, List.foldl_nil]

theorem State.discardLines_one {p : PfLine → Bool} {l : PfLine} (h : s.pcie.lines.filter p = [l]) :
    s.discardLines p = s.discardLine l := by
  rw [State.discardLines, h, List.foldl_cons, List.foldl_nil]

/-! Ports -/

@[simp] theorem State.setLock_vdp (n v : Nat) (l : Option (Nat × Nat)) : (s.setLock n l).vdp v = s.vdp v := rfl
@[simp] theorem State.setOutst_vdp (v : Nat) (l : List Outstanding) : (s.setOutst l).vdp v = s.vdp v := rfl

/-- The upstream port resets with no prefetch line held and no virtual downstream port bound: the pending reads and the
semaphore go, and no port is left to be reset (R287). -/
theorem execPcieUpstreamReset_noPorts {y : State} (hn : s.hubOn = true) (hr : s.isRoot = true)
    (hb : ∀ v, v < 64 → (s.vdp v).bound = false) (hl : s.pcie.lines = [])
    (hy : y = s.withPcie fun p => { p with cfg := [], reads := [], lockWait := [], npWait := [], intx := 0 }) :
    execPcieUpstreamReset s = .next ((y.setOutst []).setLock 0 none) := by
  have hyl : y.pcie.lines.filter (fun _ => true) = [] := by rw [hy, State.withPcie_pcie, hl, List.filter_nil]
  have hyb : ∀ v ∈ List.range 64, (y.vdp v).bound = false := fun v hv => by
    rw [hy]
    exact hb v (List.mem_range.1 hv)
  rw [execPcieUpstreamReset, onHub_on _ hn]
  simp only [hr, ← hy, State.discardLines_none hyl, Bool.not_true, Bool.false_eq_true, if_false]
  refine congrArg _ (foldl_eq_start fun v hv => ?_)
  simp only [State.setLock_vdp, State.setOutst_vdp, hyb v hv, Bool.not_false, if_true]

/-- A link that is up at another width or speed, or was down, is told to the host and to the far end (R285, R311). -/
theorem execPcieLinkChange_up {y : State} {port : Fin 3} {l w v : BitVec 4} (hn : s.hubOn = true)
    (hr : s.isRoot = (port.val == 2))
    (hy : y = (((s.wr (Reg.PCIE_STAT_LSTATE (s.pcieBlock port)) l.toNat).wr (Reg.PCIE_STAT_WIDTH (s.pcieBlock port))
      w.toNat).wr (Reg.PCIE_STAT_SPEED (s.pcieBlock port)) v.toNat).put (Reg.PCIE_STAT_DL_ACTIVE (s.pcieBlock port))
      true)
    (hc : (s.rd (Reg.PCIE_STAT_DL_ACTIVE (s.pcieBlock port)), s.rd (Reg.PCIE_STAT_WIDTH (s.pcieBlock port)),
      s.rd (Reg.PCIE_STAT_SPEED (s.pcieBlock port))) ≠ (1, w.toNat, v.toNat)) :
    execPcieLinkChange port l w v true s = .next
      ((y.notice 0x0B01 [byte port.val, 1, byte w.toNat, byte v.toNat]).sendLevels (s.pcieBlock port)) := by
  have hup : b2n true = 1 := rfl
  have hone : byte 1 = 1 := rfl
  rw [execPcieLinkChange, onHub_on _ hn]
  simp only [hr, ← hy, hup, hone, beq_false_of_ne hc, bne_self_eq_false, Bool.not_true, Bool.false_and,
    Bool.false_eq_true, if_false, if_true]

/-- A bound port whose route has stayed DROP loses Link Active (R290). -/
theorem execVdpDownTimeout_dropped {v : Fin 64} (hn : s.hubOn = true) (hb : (s.vdp v).bound = true)
    (hd : s.route (s.vdp v).position = .drop) :
    execVdpDownTimeout v s = .next ((s.setVdp v { s.vdp v with dropped := true }).vdpUpdate v) := by
  rw [execVdpDownTimeout, onHub_on _ hn]
  simp only [hb, hd, beq_self_eq_true, Bool.and_self, if_true]

/-! TLPs of the host -/

theorem execHostTlpReceived_root {b : Bytes} (good : Bool) (hn : s.hubOn = true) (hr : s.isRoot = true) :
    execHostTlpReceived b good s = .next (if good then s.hostTlp b else s.count 0x131) := by
  rw [execHostTlpReceived, onHub_on _ hn]
  simp only [hr, Bool.not_true, Bool.false_eq_true, if_false]

/-! TLPs of a device -/

/-- A message wants no completion. -/
theorem tlpKind_ne_message {b : Bytes} (h : tlpNonPosted b = true) : tlpKind b ≠ .message := by
  intro hm
  rw [tlpNonPosted, hm] at h
  cases h

section

variable {n : Nat} {b : Bytes} (hr : s.isRoot = false)
include hr

/-- A TLP that fails link checks, is malformed or is prefixed is discarded and counted (R298). -/
theorem State.deviceTlp_bad {good : Bool} (h : (!good || tlpPrefixed b) = true) :
    s.deviceTlp n b good = s.count (0x131 + 8 * n) := by
  simp only [State.deviceTlp, hr, h, Bool.false_eq_true, if_false, if_true]

variable (hp : tlpPrefixed b = false) (hw : s.wrapping = true) (hu : s.unitOut (0x20 + n) = false)
include hp hw hu

/-- A good TLP at a port in service: a message is looked into, a request that wants a completion waits behind the
lock, the rest is wrapped (R298, R307). -/
theorem State.deviceTlp_good :
    s.deviceTlp n b true =
      if tlpKind b == .message then s.deviceMessage n b
      else if tlpNonPosted b && s.flag (Reg.PCIE_LOCK_HELD n) then s.setWaiting n ((s.side n).waiting ++ [b])
      else s.wrapDevice n b := by
  simp only [State.deviceTlp, hr, hp, hw, hu, Bool.not_true, Bool.or_self, Bool.false_eq_true, if_false]

theorem State.deviceTlp_message (hm : tlpKind b = .message) : s.deviceTlp n b true = s.deviceMessage n b := by
  rw [State.deviceTlp_good hr hp hw hu, if_pos (beq_iff_eq.2 hm)]

theorem State.deviceTlp_behindLock (hnp : tlpNonPosted b = true) (hh : s.flag (Reg.PCIE_LOCK_HELD n) = true) :
    s.deviceTlp n b true = s.setWaiting n ((s.side n).waiting ++ [b]) := by
  rw [State.deviceTlp_good hr hp hw hu, if_neg (by simpa using tlpKind_ne_message hnp), if_pos (by rw [hnp, hh]; rfl)]

theorem State.deviceTlp_wrapped (hm : tlpKind b ≠ .message)
    (hl : (tlpNonPosted b && s.flag (Reg.PCIE_LOCK_HELD n)) = false) : s.deviceTlp n b true = s.wrapDevice n b := by
  rw [State.deviceTlp_good hr hp hw hu, if_neg (by simpa using hm), if_neg (by simp [hl])]

end

section

variable {n : Fin 2} {b : Bytes} (hn : s.hubOn = true) (hr : s.isRoot = false)
include hn hr

/-- What is no good message is the port's alone. -/
theorem execDeviceTlpReceived_notMessage {good : Bool} (h : (good && !tlpPrefixed b && tlpKind b == .message) = false) :
    execDeviceTlpReceived n b good s = .next (s.deviceTlp n b good) := by
  rw [execDeviceTlpReceived, onHub_on _ hn]
  simp only [hr, h, Bool.not_false, Bool.true_and, Bool.false_and, Bool.false_eq_true, if_false]

theorem execDeviceTlpReceived_bad {good : Bool} (h : (!good || tlpPrefixed b) = true) :
    execDeviceTlpReceived n b good s = .next (s.count (0x131 + 8 * n)) := by
  have hgood : (good && !tlpPrefixed b) = false := by simpa using congrArg Bool.not h
  rw [execDeviceTlpReceived_notMessage hn hr (by rw [hgood, Bool.false_and]), State.deviceTlp_bad hr h]

theorem execDeviceTlpReceived_notMessageKind (hm : tlpKind b ≠ .message) :
    execDeviceTlpReceived n b true s = .next (s.deviceTlp n b true) :=
  execDeviceTlpReceived_notMessage hn hr (by rw [beq_false_of_ne hm, Bool.and_false])

variable (hp : tlpPrefixed b = false) (hm : tlpKind b = .message)
include hp hm

/-- PME_TO_Ack in an entry to IDLE or STANDBY ends its port's wait (R545). -/
theorem execDeviceTlpReceived_pmeAck (hc : tlpMsgCode b = 0x1B) (he : s.inEntry = true) :
    execDeviceTlpReceived n b true s = .next (s.pmeAnswered n) := by
  rw [execDeviceTlpReceived, onHub_on _ hn]
  simp only [hr, hp, hm, hc, he, Bool.not_false, beq_self_eq_true, Bool.and_self, if_true]

variable (hw : s.wrapping = true) (hu : s.unitOut (0x20 + n) = false)
include hw hu

/-- Any other message is the port's; PM_PME is wake source 12 too (R298). -/
theorem execDeviceTlpReceived_message (h : tlpMsgCode b ≠ 0x1B ∨ s.inEntry = false) :
    execDeviceTlpReceived n b true s = .next
      (if tlpMsgCode b = 0x18 then (s.deviceMessage n b).wake 12 else s.deviceMessage n b) := by
  have hack : (tlpMsgCode b == 0x1B && s.inEntry) = false := by
    rcases h with h | h
    · rw [beq_false_of_ne h, Bool.false_and]
    · rw [h, Bool.and_false]
  rw [execDeviceTlpReceived, onHub_on _ hn]
  simp only [hr, hp, hm, hack, State.deviceTlp_message hr hp hw hu hm, Bool.not_false, beq_self_eq_true, Bool.and_self,
    Bool.true_and, Bool.false_eq_true, beq_iff_eq, if_false]

end

end Sys2Proof.Machine

open Sys2Proof Sys2Proof.Machine

/-- Settles O27, an event at a time. -/
theorem portAndTlpEvents : Obligations.PortAndTlpEvents := by
  unfold Obligations.PortAndTlpEvents
  refine ⟨?reset, ?link, ?down, ?hostGood, ?hostBad, ?bad, ?prefixed, ?message, ?pme, ?pmeAck, ?behindLock,
    ?wrapped, ?credit⟩
  case reset => exact fun s y hn hr hb hl hy => execPcieUpstreamReset_noPorts hn hr hb hl hy
  case link => exact fun s y port l w v hn hr hy hc => execPcieLinkChange_up hn hr hy hc
  case down => exact fun s v hn hb hd => execVdpDownTimeout_dropped hn hb hd
  case hostGood => exact fun s b hn hr => execHostTlpReceived_root true hn hr
  case hostBad => exact fun s b hn hr => execHostTlpReceived_root false hn hr
  case bad => exact fun s n b hn hr => execDeviceTlpReceived_bad hn hr rfl
  case prefixed => exact fun s n b hn hr hp => execDeviceTlpReceived_bad hn hr hp
  case message =>
    exact fun s n b hn hr hw hu hp hm hack hc =>
      (execDeviceTlpReceived_message hn hr hp hm hw hu hack).trans (congrArg _ (if_neg hc))
  case pme =>
    exact fun s n b hn hr hw hu hp hm hc =>
      (execDeviceTlpReceived_message hn hr hp hm hw hu (.inl (by rw [hc]; decide))).trans (congrArg _ (if_pos hc))
  case pmeAck => exact fun s n b hn hr hp hm hc he => execDeviceTlpReceived_pmeAck hn hr hp hm hc he
  case behindLock =>
    exact fun s n b hn hr hw hu hp hnp hh =>
      (execDeviceTlpReceived_notMessageKind hn hr (tlpKind_ne_message hnp)).trans
        (congrArg _ (State.deviceTlp_behindLock hr hp hw hu hnp hh))
  case wrapped =>
    exact fun s n b hn hr hw hu hp hm hl =>
      (execDeviceTlpReceived_notMessageKind hn hr hm).trans
        (congrArg _ (State.deviceTlp_wrapped hr hp hw hu hm hl))
  case credit =>
    exact fun s n k hn => onHub_on (fun s => State.unpark (s.pcieBlock n) 2048 (s.withSide (s.pcieBlock n) _)) hn

end

section
/-!
PROOFS. The events of the locked sequence, of the prefetch buffer and of the sideband (R303 to R305, R307, R309, R312,
R313).
-/

namespace Sys2Proof.Machine

variable {s : State}

/-! The locked sequence -/

/-- LOCKED_READ of an MRdLk: at the root the host's TLP, at a station the port takes the semaphore (R307). -/
theorem execLockedRead_mrdlk {n : Fin 2} {b : Bytes} (hn : s.hubOn = true) (hk : tlpKind b = .memReadLk) :
    execLockedRead n b s = .next (if s.isRoot then s.hostTlp b
      else ((s.setLock n (some (0, s.mer.raw))).count 0x147).sendNonPosted n b) := by
  rw [execLockedRead, onHub_on _ hn]
  simp only [hk, bne_self_eq_false, Bool.false_eq_true, if_false]

/-- At the root the Unlock message goes to the port that holds the lock, and the semaphore is free (R307). -/
theorem execUnlockMsg_root {n : Fin 2} {b : Bytes} {v r : Nat} (hn : s.hubOn = true) (hr : s.isRoot = true)
    (hl : s.pcie.lock = some (v, r)) : execUnlockMsg n b s = .next ((s.forward v b).releaseRoot) := by
  rw [execUnlockMsg, onHub_on _ hn]
  simp only [State.hostUnlock, hr, hl, if_true]

theorem execUnlockMsg_station {n : Fin 2} {b : Bytes} (hn : s.hubOn = true) (hr : s.isRoot = false) :
    execUnlockMsg n b s = .next ((s.toLink n b).releaseStation n) := by
  rw [execUnlockMsg, onHub_on _ hn]
  simp only [State.stationUnlock, hr, Bool.false_eq_true, if_false]

/-- A locked sequence that lasts too long is counted and told, and its semaphore released where it is held (R309). -/
theorem execLockTimeout_held {y : State} {n : Fin 2} {v r : Nat} (hn : s.hubOn = true) (hl : s.pcie.lock = some (v, r))
    (hy : y = (s.count 0x148).notice 0x0B04 ([byte v] ++ le 2 (orOne (s.rd (Reg.PCIE_CTRL_LOCK_MS (s.pcieBlock n))))))
    (hh : s.isRoot = true ∨ s.flag (Reg.PCIE_LOCK_HELD n) = true) :
    execLockTimeout n s = .next (if y.isRoot then y.releaseRoot else y.releaseStation n) := by
  have hheld : (!s.isRoot && !s.flag (Reg.PCIE_LOCK_HELD n)) = false := by
    rcases hh with h | h
    · rw [h]; rfl
    · rw [h, Bool.not_true, Bool.and_false]
  rw [execLockTimeout, onHub_on _ hn]
  simp only [hl, hheld, ← hy, Bool.false_eq_true, if_false]

/-! The prefetch buffer -/

/-- The one line with a tag is discarded once it has been held for PF_AGE (R305). -/
theorem execPrefetchLineAge_aged {tag : Fin 1024} {l : PfLine} {r : Nat} (hn : s.hubOn = true)
    (hl : s.pcie.lines.filter (fun l => l.tag == tag.val) = [l]) (ha : l.arrived = some r)
    (hold : r + rawOfNs (orOne (s.rd (Reg.PCIE_CTRL_PF_AGE 0)) * 10000) ≤ s.mer.raw) :
    execPrefetchLineAge tag s = .next (s.discardLine l) := by
  rw [execPrefetchLineAge, onHub_on _ hn]
  refine congrArg _ (State.discardLines_one ?_)
  simp only [Bool.and_comm (_ == _), ← List.filter_filter, hl, List.filter_cons, List.filter_nil, ha,
    decide_eq_true hold, if_true]

/-- A window whose first word is written loses its lines (R303). -/
theorem execPrefetchWindowWrite_root {n : Fin 8} {v : Word} (hn : s.hubOn = true) (hr : s.isRoot = true) :
    execPrefetchWindowWrite n v s = .next ((s.setReg (Reg.PCIE_PFWIN_A_A 0 n) (v &&& 0xFFFFFF3F)).discardLines fun l =>
      l.window == n) := by
  rw [execPrefetchWindowWrite, onHub_on _ hn]
  simp only [State.windowWritten, hr, Bool.not_true, Bool.false_eq_true, if_false]

/-! The sideband -/

theorem execLevelsMsg_root {v : Fin 64} {b : Bytes} (hn : s.hubOn = true) (hr : s.isRoot = true) :
    execLevelsMsg v b s = .next (s.onLevels v b) := by
  rw [execLevelsMsg, onHub_on _ hn]
  simp only [hr, if_true]

theorem execControlMsg_station {b : Bytes} (hn : s.hubOn = true) (hr : s.isRoot = false) :
    execControlMsg b s = .next (s.onControl b) := by
  rw [execControlMsg, onHub_on _ hn]
  simp only [hr, Bool.false_eq_true, if_false]

/-- CONTROL of the station function: a new count of hot resets begins its Function Level Reset (R312). -/
theorem State.onControl_function {y : State} {b : Bytes} (hb : leAt b 1 1 = 0x13)
    (hy : y = s.withSide 2 fun x => { x with hotResets := leAt b 6 1 }) :
    s.onControl b = if (s.side 2).hotResets = leAt b 6 1 then y else y.flrBegin := by
  rw [State.onControl, hy]
  simp only [hb, beq_self_eq_true, beq_iff_eq, if_true]

/-- Each end sends its full state again (R312). -/
theorem execSidebandRefresh_on (hn : s.hubOn = true) :
    execSidebandRefresh s = .next (if s.isRoot then (List.range 64).foldl (fun (s : State) v => s.sendControl v) s
      else (s.sendLevels 0).sendLevels 1) := onHub_on _ hn

end Sys2Proof.Machine

open Sys2Proof Sys2Proof.Machine

/-- Settles O28, an event at a time. -/
theorem lockPrefetchAndSideband : Obligations.LockPrefetchAndSideband := by
  unfold Obligations.LockPrefetchAndSideband
  refine ⟨?readRoot, ?readStation, ?unlockRoot, ?unlockStation, ?timeoutRoot, ?timeoutStation, ?lineArrival, ?lineAge,
    ?windowWrite, ?levels, ?controlFunction, ?control, ?refreshRoot, ?refreshStation⟩
  case readRoot => exact fun s n b hn hk hr => (execLockedRead_mrdlk hn hk).trans (congrArg _ (if_pos hr))
  case readStation =>
    exact fun s n b hn hk hr => (execLockedRead_mrdlk hn hk).trans (congrArg _ (if_neg (by simp [hr])))
  case unlockRoot => exact fun s n b v r hn hr hl => execUnlockMsg_root hn hr hl
  case unlockStation => exact fun s n b hn hr => execUnlockMsg_station hn hr
  case timeoutRoot =>
    exact fun s y n v r hn hl hy hr hyr => (execLockTimeout_held hn hl hy (.inl hr)).trans (congrArg _ (if_pos hyr))
  case timeoutStation =>
    exact fun s y n v r hn hl hy hr hh hyr =>
      (execLockTimeout_held hn hl hy (.inr hh)).trans (congrArg _ (if_neg (by simp [hyr])))
  case lineArrival => exact fun s b hn => onHub_on (fun s => s.lineArrived b) hn
  case lineAge => exact fun s tag l r hn hl ha hold => execPrefetchLineAge_aged hn hl ha hold
  case windowWrite => exact fun s n v hn hr => execPrefetchWindowWrite_root hn hr
  case levels => exact fun s v b hn hr => execLevelsMsg_root hn hr
  case controlFunction =>
    exact fun s y b hn hr hb hy =>
      (execControlMsg_station hn hr).trans (congrArg _ (State.onControl_function hb hy))
  case control => exact fun s b hn hr => execControlMsg_station hn hr
  case refreshRoot => exact fun s hn hr => (execSidebandRefresh_on hn).trans (congrArg _ (if_pos hr))
  case refreshStation =>
    exact fun s hn hr => (execSidebandRefresh_on hn).trans (congrArg _ (if_neg (by simp [hr])))

end

section
/-!
PROOFS. The events of a scan-out pipe (R322, R326, R328, R331, R332, R334 to R336, R353).
-/

namespace Sys2Proof.Machine

/-- A pipe once scan-out has begun line n: its place in the line buffer is free, and what is still being fetched for it
is dropped on arrival (R326, R328). -/
def pastLine (x : Pipe) (n : Nat) : Pipe :=
  { x with
    next := n + 1
    lines := x.lines.filter (fun l => l.n != n)
    reads := x.reads.map fun r => match r.2 with
      | .base m _ => if m == n then (r.1, .passed) else r
      | .overlay m _ => if m == n then (r.1, .passed) else r
      | _ => r }

variable {s x y z : State} {p : Fin 2}

/-! Commit, latch edge and start -/

/-- The latch edge of a pipe in service starts the fetch of the next frame (R331). -/
theorem State.latchEdge_inService {n : Nat} (hx : x = (s.incr (Reg.DSP_FRAME_FRAME n)).count (pipeCounter n 0))
    (hy : y = x.withPipe n fun q => { q with substitute := q.failed, failed := false, edgeRaw := x.mer.raw })
    (hz : z = ((((y.put (Reg.DSP_STAT_VBLANK n) true).wr (Reg.DSP_LINE_LINE n) (y.vActive n)).clearLow n).pipeLatch
      n).lockEdge n)
    (hw : z.wrapping = true) (hi : z.pipeIn n = true) :
    s.latchEdge n = ((z.frameFetch n).dpEdge n).lowCheck n := by
  rw [State.latchEdge]
  simp only [← hx, ← hy, ← hz, hw, hi, Bool.not_true, Bool.or_self, Bool.false_eq_true, if_false]

theorem execLatchEdge_running (hn : s.hubOn = true) (hr : (s.pipe p).running = true) :
    execLatchEdge p s = .next (s.latchEdge p) := by
  rw [execLatchEdge, onHub_on _ hn]
  simp only [hr, if_true]

/-- The commit of a pipe that is not enabled latches at once (R336). -/
theorem execDspCommit_on (hn : s.hubOn = true) (hy : y = s.put (Reg.DSP_COMMIT_STAT_PENDING p) true) :
    execDspCommit p s = .next (if y.flag (Reg.DSP_CTRL_EN p) then y else y.pipeLatch p) := by
  rw [execDspCommit, onHub_on _ hn, hy]

/-- Without a lock to wait for, the start of a pipe is a latch edge (R336). -/
theorem State.pipeStart_unlocked {n : Nat} (he : s.flag (Reg.DSP_CTRL_EN n) = true)
    (hr : (s.pipe n).running = false) (hi : s.pipeIn n = true) (hw : s.wrapping = true) (hy : y = s.lockFollow n)
    (hl : y.rd (Reg.DSP_STAT_LOCK_STATE n) < 2) :
    s.pipeStart n = (y.withPipe n fun x => { x with running := true }).latchEdge n := by
  rw [State.pipeStart]
  simp only [he, hr, hi, hw, ← hy, hl, Bool.not_true, Bool.or_self, Bool.false_eq_true, if_false, if_true]

theorem execPipeEnable_off (hn : s.hubOn = true) (he : s.flag (Reg.DSP_CTRL_EN p) = false) :
    execPipeEnable p s = .next ((s.put (Reg.DSP_CTRL_EN p) true).pipeStart p) := by
  rw [execPipeEnable, onHub_on _ hn]
  simp only [he, Bool.false_eq_true, if_false]

theorem execPipeEnable_enabled (hn : s.hubOn = true) (he : s.flag (Reg.DSP_CTRL_EN p) = true) :
    execPipeEnable p s = .next s := by
  rw [execPipeEnable, onHub_on _ hn]
  simp only [he, if_true]

/-! Active lines -/

/-- Past the last active line there is none to start (R322). -/
theorem execActiveLineStart_past (hn : s.hubOn = true) (hv : s.vActive p ≤ (s.pipe p).next) :
    execActiveLineStart p s = .next s := by
  rw [execActiveLineStart, onHub_on _ hn]
  simp only [hv, decide_true, Bool.or_true, if_true]

/-- A line after the first that has come whole is composed, proved and shown, and further lines are requested (R328). -/
theorem execActiveLineStart_whole {n : Nat} {l : PipeLine} (hn : s.hubOn = true)
    (hr : (s.pipe p).running = true) (hnext : n = (s.pipe p).next) (h0 : 0 < n) (hv : n < s.vActive p)
    (hl : (s.pipe p).lines.find? (fun l => l.n == n && l.left == []) = some l)
    (hy : y = (s.wr (Reg.DSP_LINE_LINE p) n).put (Reg.DSP_STAT_VBLANK p) false)
    (hz : z = y.withPipe p fun x => pastLine x n) :
    execActiveLineStart p s = .next
      ((State.pipeFetch p 64 ((z.proofLine p n (y.compose p l)).showLine p n (y.compose p l))).lowCheck p) := by
  subst hnext
  have hfirst : ((s.pipe p).next == 0) = false := beq_false_of_ne h0.ne'
  rw [execActiveLineStart, onHub_on _ hn]
  simp only [hr, hl, hfirst, decide_eq_false (Nat.not_le.2 hv), ← hy, Bool.not_true, Bool.or_self, Bool.false_eq_true,
    if_false, Option.isSome_some, if_true]
  rw [hz]
  rfl

end Sys2Proof.Machine

open Sys2Proof Sys2Proof.Machine

/-- Settles O29, an event at a time. -/
theorem scanOutEvents : Obligations.ScanOutEvents := by
  unfold Obligations.ScanOutEvents
  refine ⟨?latchEdge, ?commitRunning, ?commitStopped, ?enable, ?enabled, ?pastLast, ?wholeLine, ?fetch, ?fillmin,
    ?proofMis⟩
  case latchEdge =>
    exact fun s x y z p hn hr hx hy hz hw hi =>
      (execLatchEdge_running hn hr).trans (congrArg _ (State.latchEdge_inService hx hy hz hw hi))
  case commitRunning => exact fun s y p hn hy he => (execDspCommit_on hn hy).trans (congrArg _ (if_pos he))
  case commitStopped =>
    exact fun s y p hn hy he => (execDspCommit_on hn hy).trans (congrArg _ (if_neg (by simp [he])))
  case enable =>
    rintro s _ z p hn hoff rfl he hr hi hw hz hl
    exact (execPipeEnable_off hn hoff).trans (congrArg _ (State.pipeStart_unlocked he hr hi hw hz hl))
  case enabled => exact fun s p hn he => execPipeEnable_enabled hn he
  case pastLast => exact fun s p hn _ hv => execActiveLineStart_past hn hv
  case wholeLine => exact fun s y z p l hn hr h0 hv hl hy hz => execActiveLineStart_whole hn hr rfl h0 hv hl hy hz
  case fetch =>
    exact fun s p a b g hn => onHub_on (fun s => (s.sfnEnd p a).pipeArrived p a (if g then some b else none)) hn
  case fillmin => exact fun s p hn => onHub_on (fun s => s.wr _ (s.rd (Reg.DSP_STAT_FILL p))) hn
  case proofMis => exact fun s p r hn => onHub_on (fun s => s.wr _ 0) hn

end

section
/-!
PROOFS. The events of a DisplayPort output and of its AUX channel (R347, R349, R354, R356).
-/

namespace Sys2Proof.Machine

variable {s y : State} {k : Fin 4}

/-! Hot plug and training -/

theorem execDpHpdRise_on (hn : s.hubOn = true) (hy : y = s.put (Reg.DPO_STAT_HPD k) true) :
    execDpHpdRise k s = .next (if y.dpReady k then (y.dpcdRead k 0 16).dpTrain k false else y) := by
  rw [execDpHpdRise, onHub_on _ hn, hy]

theorem execDpHpdFall_on (hn : s.hubOn = true)
    (hy : y = (((s.put (Reg.DPO_STAT_HPD k) false).put (Reg.DPO_STAT_TRAINED k) false).put (Reg.DPO_STAT_VIDEO k)
      false).withDp k fun x => { x with training := false, lost := false }) :
    execDpHpdFall k s = .next (if y.flag (Reg.DPO_CTRL_EN k) then y.dpNotice k 0 else y) := by
  rw [execDpHpdFall, onHub_on _ hn, hy]

/-- The status read tells whether the link has lost lock, and a link that has is trained again (R347). -/
theorem execDpIrqHpd_ready (lost : Bool) (hn : s.hubOn = true) (hr : s.dpReady k = true) :
    execDpIrqHpd k lost s = .next (if lost then ((s.dpcdRead k 0x202 6).count (0x164 + k)).dpTrain k true
      else ((s.dpcdRead k 0x202 6).put (Reg.DPO_STAT_IRQ_HPD k) true).dpNotice k 5) := by
  rw [execDpIrqHpd, onHub_on _ hn]
  simp only [hr, Bool.not_true, Bool.false_eq_true, if_false]

/-- The training of a ready output starts with TRAINED and VIDEO clear and the spread it is set to (R347). -/
theorem State.dpTrain_ready {j : Nat} (lost : Bool) (hr : s.dpReady j = true)
    (hy : y = (s.put (Reg.DPO_STAT_TRAINED j) false).put (Reg.DPO_STAT_VIDEO j) false) :
    s.dpTrain j lost = (y.withDp j fun x =>
      { x with training := true, lost := lost, ssc := y.flag (Reg.DPO_CTRL_SSC j) }).emit
        (.display j "train" [b2n (y.flag (Reg.DPO_CTRL_SSC j))] []) := by
  rw [State.dpTrain]
  simp only [hr, ← hy, Bool.not_true, Bool.false_eq_true, if_false]

section

variable {r n : BitVec 2} (hn : s.hubOn = true) (ht : (s.dpOut k).training = true)
include hn ht

/-- A training that succeeds, within what the output allows, tells the rate and the lanes reached (R347, R356). -/
theorem execDpTrainingDone_trained (hr : r.toNat ≤ s.rd (Reg.DPO_CTRL_MAX_RATE k))
    (hl : n.toNat ≤ min 2 (s.rd (Reg.DPO_CTRL_MAX_LANES k)))
    (hy : y = ((((s.withDp k fun x => { x with training := false, lost := false }).count (0x160 + k)).put
      (Reg.DPO_STAT_TRAINED k) true).wr (Reg.DPO_STAT_RATE k) r.toNat).wr (Reg.DPO_STAT_LANES k) n.toNat) :
    execDpTrainingDone k true r n s = .next ((if (s.dpOut k).lost then (y.put (Reg.DPO_STAT_LINK_LOSS k) true).dpNotice
      k 4 else y.dpNotice k 1).auxRelease k) := by
  rw [execDpTrainingDone, onHub_on _ hn]
  simp only [ht, decide_eq_false (Nat.not_lt.2 hr), decide_eq_false (Nat.not_lt.2 hl), ← hy, Bool.not_true,
    Bool.or_self, Bool.and_false, Bool.false_eq_true, if_false, if_true]

theorem execDpTrainingDone_failed : execDpTrainingDone k false r n s = .next ((((s.withDp k fun x =>
    { x with training := false, lost := false }).count (0x160 + k)).dpNotice k 2).auxRelease k) := by
  rw [execDpTrainingDone, onHub_on _ hn]
  simp only [ht, Bool.not_true, Bool.false_and, Bool.or_self, Bool.false_eq_true, if_false]

end

/-! AUX -/

/-- With the channel free and a command it knows, a transaction is sent at once unless Damya is training (R349). -/
theorem State.auxStart_now {j : Nat} (ha : (s.dpOut j).aux = none) (hc : s.rd (Reg.DPO_AUXCMD_CMD j) < 6)
    (ht : (s.dpOut j).training = false) :
    s.auxStart j = ((s.withDp j fun x => { x with aux := some 0, auxHeld := false }).put (Reg.DPO_AUXSTAT_BUSY j)
      true).auxSend j := by
  rw [State.auxStart]
  simp only [ha, ht, decide_eq_false (Nat.not_le.2 hc), Option.isSome_none, Bool.or_self, Bool.false_eq_true, if_false]

section

variable {b : Bytes} {d : Nat} (hn : s.hubOn = true) (ha : (s.dpOut k).aux = some d)
  (hh : (s.dpOut k).auxHeld = false)
include hn ha hh

/-- ACK of a write ends it with every byte taken (R349). -/
theorem execAuxReply_ackWrite (hc : s.rd (Reg.DPO_AUXCMD_CMD k) ∈ [0, 2, 4]) :
    execAuxReply k 0 b s = .next (s.auxEnd k 0 (s.rd (Reg.DPO_AUXCMD_LEN k) + 1)) := by
  have hwrite : (s.rd (Reg.DPO_AUXCMD_CMD k) == 0 || s.rd (Reg.DPO_AUXCMD_CMD k) == 2 ||
      s.rd (Reg.DPO_AUXCMD_CMD k) == 4) = true := by
    simpa [or_assoc] using hc
  rw [execAuxReply, onHub_on _ hn]
  simp only [ha, hh, hwrite, Bool.false_eq_true, if_false, if_true]
  rfl

theorem execAuxReply_nack : execAuxReply k 1 b s = .next (s.auxEnd k 1 0) := by
  rw [execAuxReply, onHub_on _ hn]
  simp only [ha, hh]
  rfl

/-- A transaction that is deferred fewer than seven times is sent again (R349). -/
theorem execAuxReply_defer (hd : d < 7) :
    execAuxReply k 2 b s = .next ((s.withDp k fun x => { x with aux := some (d + 1) }).auxSend k) := by
  rw [execAuxReply, onHub_on _ hn]
  simp only [ha, hh, hd, if_true]
  rfl

end

theorem execAuxReplyTimeout_sent (hn : s.hubOn = true) (ha : (s.dpOut k).aux.isSome = true)
    (hh : (s.dpOut k).auxHeld = false) : execAuxReplyTimeout k s = .next (s.auxEnd k 3 0) := by
  rw [execAuxReplyTimeout, onHub_on _ hn]
  simp only [ha, hh, Bool.not_false, Bool.and_self, if_true]

end Sys2Proof.Machine

open Sys2Proof Sys2Proof.Machine

/-- Settles O30, an event at a time. -/
theorem displayPortEvents : Obligations.DisplayPortEvents := by
  unfold Obligations.DisplayPortEvents
  refine ⟨?riseReady, ?riseNotReady, ?fall, ?lockKept, ?lockLost, ?trained, ?failed, ?retrain, ?auxStart, ?ack, ?nack,
    ?defer, ?timeout⟩
  case riseReady => exact fun s y k hn hy hr => (execDpHpdRise_on hn hy).trans (congrArg _ (if_pos hr))
  case riseNotReady =>
    exact fun s y k hn hy hr => (execDpHpdRise_on hn hy).trans (congrArg _ (if_neg (by simp [hr])))
  case fall => exact fun s y k hn hy => execDpHpdFall_on hn hy
  case lockKept => exact fun s k hn hr => execDpIrqHpd_ready false hn hr
  case lockLost => exact fun s k hn hr => execDpIrqHpd_ready true hn hr
  case trained => exact fun s y k r n hn ht hr hl hy => execDpTrainingDone_trained hn ht hr hl hy
  case failed => exact fun s k r n hn ht => execDpTrainingDone_failed hn ht
  case retrain =>
    exact fun s k hn hr =>
      (onHub_on (fun s => s.dpTrain k false) hn).trans (congrArg _ (State.dpTrain_ready false hr rfl))
  case auxStart =>
    rintro s _ k v hn rfl ha hc ht
    exact (onHub_on (fun s => State.auxStart (List.foldl _ s _) k) hn).trans
      (congrArg _ (State.auxStart_now ha hc ht))
  case ack => exact fun s k b d hn ha hh hc => execAuxReply_ackWrite hn ha hh hc
  case nack => exact fun s k b d hn ha hh => execAuxReply_nack hn ha hh
  case defer => exact fun s k b d hn ha hh hd => execAuxReply_defer hn ha hh hd
  case timeout => exact fun s k hn ha hh => execAuxReplyTimeout_sent hn ha hh

end

section
/-!
PROOFS. Descriptors of a USB host port that come to their turn (R362, R364, R369 to R371).
-/

namespace Sys2Proof.Machine

variable {s : State} {n i type : Nat} {d : UsbTd} {mem : HostMem}

/-- Descriptor i of a type comes to its turn on port n: the engine runs, the port holds no burst and is not being reset,
the descriptor is the first of its context, and its context lets it run (R369, R370). -/
structure State.AtTurn (s : State) (n i type : Nat) (d : UsbTd) : Prop where
  found : (s.usbPort n).tds.find? (fun d => d.index == i && d.type == type && !d.started) = some d
  runs : s.usbRuns = true
  noBurst : (s.usbPort n).held = []
  noResetDue : (s.usbPort n).resetDue = false
  noReset : s.flag (Reg.USBH_PORT_STAT_RESETTING n) = false
  first : (s.tdHead n d.ctx).map (·.index) = some i
  notHalted : ((s.usbCtx d.ctx).halted && type != 6) = false
  here : s.ctxElsewhere d.ctx n = false
  fits : d.len ≤ 65536

/-- What a descriptor of each type does at its turn (R362): a transfer starts, and the others finish. -/
def State.tdTurn (s : State) (n : Nat) (d : UsbTd) (mem : HostMem) : Nat → State
  | 3 => s.tdEnd n d 0
  | 4 => s.epConfig n d
  | 5 => s.epRelease n d
  | 6 => s.epClear n d
  | _ => s.transferStart n d mem

theorem State.tdTurn_eq_ite : s.tdTurn n d mem type =
    if type == 3 then s.tdEnd n d 0
    else if type == 4 then s.epConfig n d
    else if type == 5 then s.epRelease n d
    else if type == 6 then s.epClear n d
    else s.transferStart n d mem := by
  unfold State.tdTurn
  split
  case h_5 h3 h4 h5 h6 =>
    simp only [beq_false_of_ne h3, beq_false_of_ne h4, beq_false_of_ne h5, beq_false_of_ne h6, Bool.false_eq_true,
      if_false]
  all_goals rfl

/-- Past the checks a descriptor acts by its type, and the engine goes on (R362, R370). -/
theorem State.tdStart_atTurn (h : s.AtTurn n i type d) :
    s.tdStart n i type mem = State.usbNext (State.sweepBad n 4096 (s.tdTurn n d mem type)) n := by
  have hready : (!s.usbRuns || (s.usbPort n).held != [] || (s.usbPort n).resetDue ||
      s.flag (Reg.USBH_PORT_STAT_RESETTING n) || (s.tdHead n d.ctx).map (·.index) != some i) = false := by
    simp [h.runs, h.noBurst, h.noResetDue, h.noReset, h.first]
  rw [State.tdStart, State.tdTurn_eq_ite]
  simp only [h.found, hready, h.here, h.notHalted, Nat.not_lt.2 h.fits, Bool.false_eq_true, if_false]

theorem onHub_tdStart (hn : s.hubOn = true) (h : s.AtTurn n i type d) :
    onHub (fun s => s.tdStart n i type mem) s =
      .next (State.usbNext (State.sweepBad n 4096 (s.tdTurn n d mem type)) n) :=
  (onHub_on _ hn).trans (congrArg _ (State.tdStart_atTurn h))

end Sys2Proof.Machine

open Sys2Proof Sys2Proof.Machine

/-- Settles O31, a type at a time. -/
theorem usbDescriptorCommands : Obligations.UsbDescriptorCommands := by
  unfold Obligations.UsbDescriptorCommands
  refine ⟨?control, ?bulk, ?interrupt, ?nop, ?config, ?release, ?clear⟩
  case control =>
    exact fun s n i d mem hn hd hr hb hrd hrs hf hh he hl =>
      onHub_tdStart hn ⟨hd, hr, hb, hrd, hrs, hf, by simp [hh], he, hl⟩
  case bulk =>
    exact fun s n i d mem hn hd hr hb hrd hrs hf hh he hl =>
      onHub_tdStart hn ⟨hd, hr, hb, hrd, hrs, hf, by simp [hh], he, hl⟩
  case interrupt =>
    exact fun s n i d mem hn hd hr hb hrd hrs hf hh he hl =>
      onHub_tdStart hn ⟨hd, hr, hb, hrd, hrs, hf, by simp [hh], he, hl⟩
  case nop =>
    exact fun s n i d hn hd hr hb hrd hrs hf hh he hl =>
      onHub_tdStart hn ⟨hd, hr, hb, hrd, hrs, hf, by simp [hh], he, hl⟩
  case config =>
    exact fun s n i d hn hd hr hb hrd hrs hf hh he hl =>
      onHub_tdStart hn ⟨hd, hr, hb, hrd, hrs, hf, by simp [hh], he, hl⟩
  case release =>
    exact fun s n i d hn hd hr hb hrd hrs hf hh he hl =>
      onHub_tdStart hn ⟨hd, hr, hb, hrd, hrs, hf, by simp [hh], he, hl⟩
  case clear =>
    exact fun s n i d hn hd hr hb hrd hrs hf he hl =>
      onHub_tdStart hn ⟨hd, hr, hb, hrd, hrs, hf, by simp, he, hl⟩

end

section
/-!
PROOFS. The events of the USB host engine: its rings, its (micro)frames and its transactions (R361, R367, R368, R374).
-/

namespace Sys2Proof.Machine

variable {s y z : State} {n : Fin 8} {mem : HostMem} {b : Bytes}

/-! Rings (R361) -/

theorem execRingEnable_enabled (hn : s.hubOn = true) (he : s.flag (Reg.USBH_PORT_CTRL_RING_EN n) = true)
    (hd : (s.usbPort n).due = false) : execRingEnable n mem s = .next s := by
  rw [execRingEnable, onHub_on _ hn]
  simp only [he, hd, Bool.not_false, Bool.and_self, if_true]

section

variable (hn : s.hubOn = true) (he : s.flag (Reg.USBH_PORT_CTRL_RING_EN n) = false)
  (hy : y = (s.hostRead 3 (s.usbPcb n) 32).withUsbPort n fun x => { x with due := false })
include hn he hy

theorem execRingEnable_unreadable (hm : mem.read (y.usbPcb n) 32 = none) :
    execRingEnable n mem s = .next (y.put (Reg.USBH_PORT_CTRL_RING_EN n) false) := by
  rw [execRingEnable, onHub_on _ hn]
  simp only [he, ← hy, hm, Bool.false_and, Bool.false_eq_true, if_false]

/-- A ring of 16 to 4,096 entries is set up from the block, and starts empty (R361). -/
theorem execRingEnable_good (hm : mem.read (y.usbPcb n) 32 = some b) (hlo : 4 ≤ leAt b 16 1)
    (hhi : leAt b 16 1 ≤ 12) :
    execRingEnable n mem s = .next (((((y.withUsbPort n fun x => { x with
      on := true, tdBase := leAt b 0 8, burstBase := leAt b 8 8, log2 := leAt b 16 1, tdCons := 0, tds := []
      held := [] }).put (Reg.USBH_PORT_CTRL_RING_EN n) true).wr (Reg.USBH_PORT_RING_RING_LOG2 n) (leAt b 16 1)).wr
      (Reg.USBH_PORT_SEQ_BSEQ n) 0).wr (Reg.USBH_PORT_SEQ_REL n) (leAt b 20 2)) := by
  rw [execRingEnable, onHub_on _ hn]
  simp only [he, ← hy, hm, hlo, hhi, decide_true, Bool.false_and, Bool.and_self, Bool.false_eq_true, if_false, if_true]

theorem execRingEnable_badSize (hm : mem.read (y.usbPcb n) 32 = some b)
    (hk : leAt b 16 1 < 4 ∨ 12 < leAt b 16 1) :
    execRingEnable n mem s =
      .next ((y.put (Reg.USBH_PORT_CTRL_RING_EN n) false).notice 0x0D04 [byte n, 1]) := by
  have hbad : (decide (4 ≤ leAt b 16 1) && decide (leAt b 16 1 ≤ 12)) = false := by simp; omega
  rw [execRingEnable, onHub_on _ hn]
  simp only [he, ← hy, hm, hbad, Bool.false_and, Bool.false_eq_true, if_false]

end

theorem execUsbhKick_runs (p : BitVec 8) (hn : s.hubOn = true) (hr : s.usbRuns = true) :
    execUsbhKick p mem s = .next
      ((List.range 8).foldl (fun (s : State) n => if bit p.toNat n then s.usbPoll n mem else s) s) := by
  rw [execUsbhKick, onHub_on _ hn]
  simp only [hr, Bool.not_true, Bool.false_eq_true, if_false]

theorem execUsbRingFullTimeout_held (hn : s.hubOn = true) (hh : (s.usbPort n).held ≠ []) :
    execUsbRingFullTimeout n s = .next (s.notice 0x0D04 [byte n, 2]) := by
  rw [execUsbRingFullTimeout, onHub_on _ hn]
  simp only [bne_iff_ne.2 hh, if_true]

/-! (Micro)frames (R374, R375) -/

section

variable {p : BitVec 8} (hn : s.hubOn = true) (hr : s.usbRuns = true)
  (hy : y = (List.range 8).foldl (fun (s : State) n => s.usbBoundary n (bit p.toNat n)) s)
include hn hr hy

/-- FRAME follows the first port on which SOF runs, and stands where it runs on none. -/
theorem execUsbMicroframeStart_noSof (hf : (List.range 8).find? y.usbSof = none) :
    execUsbMicroframeStart mem p s =
      .next ((List.range 8).foldl (fun (s : State) n => (s.usbPoll n mem).usbNext n) y) := by
  rw [execUsbMicroframeStart, onHub_on _ hn]
  simp only [hr, ← hy, hf, Bool.not_true, Bool.false_eq_true, if_false]

theorem execUsbMicroframeStart_sof {m : Nat} (hf : (List.range 8).find? y.usbSof = some m) :
    execUsbMicroframeStart mem p s = .next
      ((List.range 8).foldl (fun (s : State) n => (s.usbPoll n mem).usbNext n)
        ((y.wr Reg.USBH_FRAME_FRNUM (y.usbPort m).frame).wr Reg.USBH_FRAME_MICRO (y.usbPort m).micro)) := by
  rw [execUsbMicroframeStart, onHub_on _ hn]
  simp only [hr, ← hy, hf, Bool.not_true, Bool.false_eq_true, if_false]

end

/-! Transactions (R368, R374) -/

/-- What the end of a transaction does to its descriptor and its context, by its result (R368). -/
def State.tdResult (s : State) (n c : Nat) (d : UsbTd) (data : Bytes) : Fin 4 → State
  | 0 => s.tdGood n d data
  | 1 => (s.withUsbPort n fun x =>
      { x with naked := if d.type == 0 then x.naked ++ [c] else x.naked }).count (usbCounter n 1)
  | 2 => (s.ctxHalt c).tdEnd n d 2
  | 3 =>
    let errors := (s.usbCtx c).errors + 1
    let s := (s.withUsbCtx c fun x => { x with errors := errors }).count (usbCounter n 2)
    if 3 ≤ errors then ((s.ctxHalt c).withUsbCtx c fun x => { x with errors := 0 }).tdEnd n d 3 else s

theorem State.tdResult_nakControl {c : Nat} {d : UsbTd} (ht : d.type = 0) :
    s.tdResult n c d b 1 = (s.withUsbPort n fun x => { x with naked := x.naked ++ [c] }).count (usbCounter n 1) := by
  simp only [State.tdResult, ht, beq_self_eq_true, if_true]

/-- An error short of the third is counted, and the transaction is tried again (R368). -/
theorem State.tdResult_error {c : Nat} {d : UsbTd} (he : (s.usbCtx c).errors < 2) :
    s.tdResult n c d b 3 =
      (s.withUsbCtx c fun x => { x with errors := (s.usbCtx c).errors + 1 }).count (usbCounter n 2) := by
  simp only [State.tdResult]
  exact if_neg (by omega)

/-- A transaction ends for the descriptor that heads its context; then later bad descriptors finish, and a reset that
waited for it begins or the next transaction starts (R374, R376). -/
theorem execUsbTransactionEnd_busy {r : Fin 4} {room : Bool} {c : Nat} {d : UsbTd} (hn : s.hubOn = true)
    (hc : (s.usbPort n).busy = some c)
    (hy : y = (s.withUsbPort n fun x => { x with busy := none, room := room }).count (usbCounter n 0))
    (hd : y.tdHead n c = some d) (hz : z = State.sweepBad n 4096 (y.tdResult n c d b r)) :
    execUsbTransactionEnd n r b room s =
      .next (if (z.usbPort n).resetDue then z.usbResetNow n else z.usbNext n) := by
  rw [execUsbTransactionEnd, onHub_on _ hn, hz]
  simp only [hc, ← hy, hd]
  match r with
  | 0 | 1 | 2 | 3 => rfl

end Sys2Proof.Machine

open Sys2Proof Sys2Proof.Machine

/-- Settles O32, an event at a time. -/
theorem usbEngineEvents : Obligations.UsbEngineEvents := by
  unfold Obligations.UsbEngineEvents
  refine ⟨?enabled, ?unreadable, ?good, ?badSize, ?disable, ?kick, ?noSof, ?sof, ?acknowledged, ?nak, ?stall, ?error,
    ?ringFull⟩
  case enabled => exact fun s n mem hn he hd => execRingEnable_enabled hn he hd
  case unreadable => exact fun s y n mem hn he hy hm => execRingEnable_unreadable hn he hy hm
  case good => exact fun s y n mem b hn he hy hm hlo hhi => execRingEnable_good hn he hy hm hlo hhi
  case badSize => exact fun s y n mem b hn he hy hm hk => execRingEnable_badSize hn he hy hm hk
  case disable => exact fun s n hn => onHub_on (fun s => s.ringOff n) hn
  case kick => exact fun s p mem hn hr => execUsbhKick_runs p hn hr
  case noSof => exact fun s y mem p hn hr hy hf => execUsbMicroframeStart_noSof hn hr hy hf
  case sof => exact fun s y mem p m hn hr hy hf => execUsbMicroframeStart_sof hn hr hy hf
  case acknowledged =>
    exact fun s y z n b room c d hn hc hy hd hz => execUsbTransactionEnd_busy hn hc hy hd hz
  case nak =>
    exact fun s y z n b room c d hn hc hy hd ht hz =>
      execUsbTransactionEnd_busy hn hc hy hd (hz.trans (by rw [State.tdResult_nakControl ht]))
  case stall =>
    exact fun s y z n b room c d hn hc hy hd hz => execUsbTransactionEnd_busy hn hc hy hd hz
  case error =>
    exact fun s y z n b room c d hn hc hy hd he hz =>
      execUsbTransactionEnd_busy hn hc hy hd (hz.trans (by rw [State.tdResult_error he]))
  case ringFull => exact fun s n hn hh => execUsbRingFullTimeout_held hn hh

end

section
/-!
PROOFS. The events of a USB host port: reset, suspend and resume, connection and overcurrent (R358, R376 to R379).
-/

namespace Sys2Proof.Machine

variable {s y : State} {n : Fin 8}

/-! Reset (R376, R379) -/

/-- A reset of a port without a device ends at once, and changes nothing else (R379). -/
theorem State.usbReset_noDevice {m : Nat} (hc : s.flag (Reg.USBH_PORT_STAT_CONNECT m) = false) :
    s.usbReset m = s.usbChange m (Reg.USBH_PORT_STAT_C_RESET m) := by
  rw [State.usbReset]
  simp only [hc, Bool.not_false, if_true]

/-- A reset ends the resume in progress, and waits for the packet in progress (R376). -/
theorem State.usbReset_device {m : Nat} (hc : s.flag (Reg.USBH_PORT_STAT_CONNECT m) = true)
    (hr : s.flag (Reg.USBH_PORT_STAT_RESETTING m) = false) (hy : y = s.put (Reg.USBH_PORT_STAT_RESUMING m) false) :
    s.usbReset m = if (y.usbPort m).busy.isSome then y.withUsbPort m fun x => { x with resetDue := true }
      else y.usbResetNow m := by
  rw [State.usbReset]
  simp only [hc, hr, ← hy, Bool.not_true, Bool.false_eq_true, if_false]

theorem execUsbPortResetEnd_resetting {v : Fin 3} (hn : s.hubOn = true)
    (hr : s.flag (Reg.USBH_PORT_STAT_RESETTING n) = true)
    (hy : y = (List.range 256).foldl (fun (s : State) c => if s.ctxOn c n then s.withUsbCtx c fun x =>
      { x with halted := false, toggle := false, errors := 0 } else s) s) :
    execUsbPortResetEnd n v s = .next ((((y.put (Reg.USBH_PORT_STAT_RESETTING n) false).put
      (Reg.USBH_PORT_STAT_ENABLED n) true).wr (Reg.USBH_PORT_STAT_SPEED n) v).usbChange n
      (Reg.USBH_PORT_STAT_C_RESET n)) := by
  rw [execUsbPortResetEnd, onHub_on _ hn]
  simp only [hr, ← hy, Bool.not_true, Bool.false_eq_true, if_false]

/-! Suspend and resume (R378, R379) -/

theorem State.usbSuspend_sof {m : Nat} (hf : s.usbSof m = true) :
    s.usbSuspend m = s.withUsbPort m fun x => { x with suspendDue := true } := by
  rw [State.usbSuspend, if_pos hf]

theorem State.usbResume_suspended {m : Nat} (hs : s.flag (Reg.USBH_PORT_STAT_SUSPENDED m) = true)
    (hr : s.flag (Reg.USBH_PORT_STAT_RESUMING m) = false) :
    s.usbResume m = ((s.put (Reg.USBH_PORT_STAT_RESUMING m) true).withUsbPort m fun x =>
      { x with waking := false }).emit (.usb m "resume K" [] []) := by
  rw [State.usbResume]
  simp only [hs, hr, Bool.not_true, Bool.or_self, Bool.false_eq_true, if_false]

theorem execUsbResumeEnd_resuming (hn : s.hubOn = true) (hr : s.flag (Reg.USBH_PORT_STAT_RESUMING n) = true) :
    execUsbResumeEnd n s = .next ((((s.put (Reg.USBH_PORT_STAT_RESUMING n) false).put
      (Reg.USBH_PORT_STAT_SUSPENDED n) false).withUsbPort n fun x =>
      { x with waking := false, byMode := false }).usbChange n (Reg.USBH_PORT_STAT_C_PORT_SUSPEND n)) := by
  rw [execUsbResumeEnd, onHub_on _ hn]
  simp only [hr, Bool.not_true, Bool.false_eq_true, if_false]

section

variable (hd : (s.usbPort n).suspendDue = false) (hs : s.flag (Reg.USBH_PORT_STAT_SUSPENDED n) = true)
  (hr : s.flag (Reg.USBH_PORT_STAT_RESUMING n) = false)
include hd hs hr

/-- A remote wake that WAKE_EN allows is answered with a resume, and raises USB_WAKE (R378, R540). -/
theorem execUsbDeviceRemoteWake_honored (hn : s.hubOn = true) (hw : s.flag (Reg.USBH_PORT_CTRL_WAKE_EN n) = true) :
    execUsbDeviceRemoteWake n s = .next ((((((s.put (Reg.USBH_PORT_STAT_RESUMING n) true).withUsbPort n fun x =>
      { x with waking := true }).emit (.usb n "resume K" [] [])).usbChange n (Reg.USBH_PORT_STAT_WAKE_SEEN n)).notice
      0x0D02 [byte n, 1]).wake 10) := by
  rw [execUsbDeviceRemoteWake, onHub_on _ hn]
  simp only [State.usbDeviceWake, hd, hs, hr, hw, Bool.not_true, Bool.true_or, Bool.and_self, Bool.false_eq_true,
    if_false, if_true]

/-- A remote wake that WAKE_EN does not allow is counted, and the port stays suspended (R378). -/
theorem execUsbDeviceRemoteWake_ignored (hn : s.hubOn = true) (hw : s.flag (Reg.USBH_PORT_CTRL_WAKE_EN n) = false) :
    execUsbDeviceRemoteWake n s = .next (s.count (usbCounter n 4)) := by
  rw [execUsbDeviceRemoteWake, onHub_on _ hn]
  simp only [State.usbDeviceWake, hd, hs, hr, hw, Bool.not_true, Bool.not_false, Bool.false_and, Bool.false_eq_true,
    if_false, if_true]

end

/-! Connection and overcurrent (R358, R377) -/

theorem execUsbConnectChange_arrives (hn : s.hubOn = true) (hc : s.flag (Reg.USBH_PORT_STAT_CONNECT n) = false) :
    execUsbConnectChange n true s =
      .next ((s.put (Reg.USBH_PORT_STAT_CONNECT n) true).usbChange n (Reg.USBH_PORT_STAT_C_CONNECT n)) := by
  rw [execUsbConnectChange, onHub_on _ hn]
  simp only [hc, Bool.false_beq, Bool.not_true, Bool.false_eq_true, if_false, if_true]

/-- A port whose device leaves is disabled, and what was in progress on it ends (R377). -/
theorem execUsbConnectChange_leaves (hn : s.hubOn = true) (hc : s.flag (Reg.USBH_PORT_STAT_CONNECT n) = true)
    (hy : y = (((((s.put (Reg.USBH_PORT_STAT_CONNECT n) false).usbDisable n 6).wr (Reg.USBH_PORT_STAT_SPEED n) 3).put
      (Reg.USBH_PORT_STAT_SUSPENDED n) false).put (Reg.USBH_PORT_STAT_RESUMING n) false).put
      (Reg.USBH_PORT_STAT_RESETTING n) false) :
    execUsbConnectChange n false s = .next ((y.withUsbPort n fun x =>
      { x with resetDue := false, waking := false }).usbChange n (Reg.USBH_PORT_STAT_C_CONNECT n)) := by
  rw [execUsbConnectChange, onHub_on _ hn]
  simp only [hc, ← hy, Bool.true_beq, Bool.false_eq_true, if_false]

/-- Overcurrent disables a port; on ports 0 to 3 POWER is not the port's, and stands as it is (R358, R377). -/
theorem State.usbOver_begins {m : Nat} (ho : s.flag (Reg.USBH_PORT_STAT_OVERCURRENT m) = false) (hm : m < 4) :
    s.usbOver m true = ((s.put (Reg.USBH_PORT_STAT_OVERCURRENT m) true).usbDisable m 6).usbChange m
      (Reg.USBH_PORT_STAT_C_OVERCURRENT m) := by
  rw [State.usbOver]
  simp only [ho, Bool.false_beq, Bool.not_true, Nat.not_le.2 hm, Bool.false_eq_true, if_false, if_true]

theorem State.usbOver_ends {m : Nat} (ho : s.flag (Reg.USBH_PORT_STAT_OVERCURRENT m) = true) :
    s.usbOver m false = (s.put (Reg.USBH_PORT_STAT_OVERCURRENT m) false).usbChange m
      (Reg.USBH_PORT_STAT_C_OVERCURRENT m) := by
  rw [State.usbOver]
  simp only [ho, Bool.true_beq, Bool.false_eq_true, if_false]

end Sys2Proof.Machine

open Sys2Proof Sys2Proof.Machine

/-- Settles O33, an event at a time. -/
theorem usbPortEvents : Obligations.UsbPortEvents := by
  unfold Obligations.UsbPortEvents
  refine ⟨?resetNoDevice, ?resetIdle, ?resetBusy, ?resetEnd, ?suspend, ?resume, ?resumeEnd, ?wakeHonored, ?wakeIgnored,
    ?disable, ?arrives, ?leaves, ?overBegins, ?overEnds⟩
  case resetNoDevice =>
    exact fun s n hn hc => (onHub_on (fun s => s.usbReset n) hn).trans (congrArg _ (State.usbReset_noDevice hc))
  case resetIdle =>
    exact fun s y n hn hc hr hy hb => (onHub_on (fun s => s.usbReset n) hn).trans
      (congrArg _ ((State.usbReset_device hc hr hy).trans (if_neg (by simp [hb]))))
  case resetBusy =>
    exact fun s y n c hn hc hr hy hb => (onHub_on (fun s => s.usbReset n) hn).trans
      (congrArg _ ((State.usbReset_device hc hr hy).trans (if_pos (by simp [hb]))))
  case resetEnd => exact fun s y n v hn hr hy => execUsbPortResetEnd_resetting hn hr hy
  case suspend =>
    exact fun s n hn hf => (onHub_on (fun s => s.usbSuspend n) hn).trans (congrArg _ (State.usbSuspend_sof hf))
  case resume =>
    exact fun s n hn hs hr =>
      (onHub_on (fun s => s.usbResume n) hn).trans (congrArg _ (State.usbResume_suspended hs hr))
  case resumeEnd => exact fun s n hn hr => execUsbResumeEnd_resuming hn hr
  case wakeHonored => exact fun s n hn hd hs hr hw => execUsbDeviceRemoteWake_honored hd hs hr hn hw
  case wakeIgnored => exact fun s n hn hd hs hr hw => execUsbDeviceRemoteWake_ignored hd hs hr hn hw
  case disable => exact fun s n hn => onHub_on (fun s => s.usbDisable n 6) hn
  case arrives => exact fun s n hn hc => execUsbConnectChange_arrives hn hc
  case leaves => exact fun s y n hn hc hy => execUsbConnectChange_leaves hn hc hy
  case overBegins =>
    exact fun s n hn ho hm => (onHub_on (fun s => s.usbOver n true) hn).trans (congrArg _ (State.usbOver_begins ho hm))
  case overEnds =>
    exact fun s n hn ho => (onHub_on (fun s => s.usbOver n false) hn).trans (congrArg _ (State.usbOver_ends ho))

end

section
/-!
PROOFS. The events of the service port USBS: VBUS, EP0, bus reset, suspend, remote wake and EP3 (R381 to R385).
-/

namespace Sys2Proof.Machine

variable {s w x y z : State} {b d : Bytes}

/-! VBUS (R381, R490) -/

theorem execUsbsVbusChange_same {v : Bool} {r : Fin 3} (hn : s.nib.on = true) (hp : s.tcsPresent = v) :
    execUsbsVbusChange v r s = .next s := by
  rw [execUsbsVbusChange, onNib_on _ hn]
  simp only [hp, beq_self_eq_true, if_true]

/-- VBUS that appears while the hub die is off is recorded, and wakes (R490, R539). -/
theorem execUsbsVbusChange_appears {r : Fin 3} (hn : s.nib.on = true) (hp : s.tcsPresent = false)
    (hy : y = (s.wr Reg.TCPD_TCS_STAT_STATE 1).wr Reg.TCPD_TCS_STAT_RP_SEEN r.val) (hoff : y.hubOn = false) :
    execUsbsVbusChange true r s = .next (((y.wake 4).wake 11).tcsRises) := by
  rw [execUsbsVbusChange, onNib_on _ hn]
  simp only [hp, ← hy, hoff, Bool.false_beq, Bool.not_true, Bool.false_eq_true, if_false, if_true]

/-! Control transfers (R381) -/

section

variable (hn : s.hubOn = true) (ha : 2 ≤ s.usbsState)
include hn ha

theorem execUsbsControlRequest_inProgress :
    execUsbsControlRequest b d false s = .next (s.withUsbs fun x => { x with ctrl := some (b ++ d) }) := by
  rw [execUsbsControlRequest, onHub_on _ hn]
  simp only [Nat.not_lt.2 ha, Bool.not_false, if_false, if_true]

theorem execUsbsControlRequest_completed {l : Bytes} (hy : y = s.withUsbs fun x => { x with ctrl := none })
    (hl : y.usbsStandard b = some (l, z)) :
    execUsbsControlRequest b d true s = .next (z.emit (.usb 8 "control" (b.map BitVec.toNat) l)) := by
  rw [execUsbsControlRequest, onHub_on _ hn]
  simp only [Nat.not_lt.2 ha, ← hy, hl, Bool.not_true, Bool.false_eq_true, if_false]

theorem execUsbsControlRequest_stalled (hy : y = s.withUsbs fun x => { x with ctrl := none })
    (hl : y.usbsStandard b = none) :
    execUsbsControlRequest b d true s = .next (y.emit (.usb 8 "stall" [0] [])) := by
  rw [execUsbsControlRequest, onHub_on _ hn]
  simp only [Nat.not_lt.2 ha, ← hy, hl, Bool.not_true, Bool.false_eq_true, if_false]

end

/-! Bus reset and suspend (R383, R384) -/

/-- A bus reset with no control transfer in progress abandons nothing (R383). -/
theorem execUsbsBusReset_idle {hs : Bool} (hn : s.hubOn = true) (ha : s.usbsState ≠ 0) (hc : s.usb.dev.ctrl = none)
    (hw : w = s.withUsbs fun d => { d with ctrl := none, ep3 := none, slices := none, halted := [] })
    (hx : x = ((((w.wr Reg.USBS_STAT_STATE 2).wr Reg.USBS_STAT_ADDRESS 0).put Reg.USBS_STAT_HS
      (hs && s.usb.dev.hsAllowed)).put Reg.USBS_STAT_RWAKE_EN false).put Reg.USBS_STAT_SUSPENDED false)
    (hy : y = { x with cmd := { x.cmd with usbsReply := none } }.usbsRelease) :
    execUsbsBusReset hs s =
      .next ((((y.put Reg.USBS_STAT_BUS_RESET true).count 0x1AA).usbsNotice 1).wake 11) := by
  subst hy hx hw
  rw [execUsbsBusReset, onHub_on _ hn]
  simp only [hc, beq_false_of_ne ha, Option.isSome_none, Bool.false_eq_true, if_false]
  rfl

theorem execUsbsSuspend_attached (hn : s.hubOn = true) (ha : s.usbsState ≠ 0)
    (hs : s.flag Reg.USBS_STAT_SUSPENDED = false) :
    execUsbsSuspend s = .next ((s.put Reg.USBS_STAT_SUSPENDED true).usbsNotice 4) := by
  rw [execUsbsSuspend, onHub_on _ hn]
  simp only [beq_false_of_ne ha, hs, Bool.or_self, Bool.false_eq_true, if_false]

/-! Remote wake (R384, R385) -/

/-- The remote wake begins once the host allows it, Damya's side allows it, and a report waits (R384). -/
theorem execUsbsRemoteWakeStart_quiet (hn : s.hubOn = true) (hy : y = s.usbsSync)
    (he : y.flag Reg.USBS_STAT_RWAKE_EN = true) (ha : y.flag Reg.USBS_CTRL_WAKE_ALLOW = true)
    (hs : y.flag Reg.USBS_STAT_SUSPENDED = true) (hb : y.usb.dev.ep3 = some b) (hk : y.usb.dev.slices = none) :
    execUsbsRemoteWakeStart false s =
      .next ((y.withUsbs fun d => { d with slices := some 0 }).emit (.usb 8 "K" [] [])) := by
  rw [execUsbsRemoteWakeStart, onHub_on _ hn]
  simp only [← hy, he, ha, hs, hb, hk, Bool.and_self, Bool.not_true, Option.isNone_some, Option.isSome_none,
    Bool.or_self, Bool.false_eq_true, if_false]

section

variable {k : Nat} (hn : s.hubOn = true) (hk : s.usb.dev.slices = some k)
include hn hk

theorem execUsbsWakeSliceEnd_more (h : k < 7) : execUsbsWakeSliceEnd false s =
    .next ((s.withUsbs fun d => { d with slices := some (k + 1) }).emit (.usb 8 "K" [] [])) := by
  have hmore : (k + 1 == 8) = false := beq_false_of_ne (by omega)
  rw [execUsbsWakeSliceEnd, onHub_on _ hn]
  simp only [hk, hmore, Bool.false_eq_true, if_false]

/-- A host that drives resume as well ends the wake, which counts as delivered and as a collision (R385). -/
theorem execUsbsWakeSliceEnd_collided : execUsbsWakeSliceEnd true s = .next s.usbsCollided := by
  rw [execUsbsWakeSliceEnd, onHub_on _ hn]
  simp only [hk, if_true]

end

theorem execUsbsWakeSliceEnd_last (hn : s.hubOn = true) (hk : s.usb.dev.slices = some 7) :
    execUsbsWakeSliceEnd false s =
      .next ((s.withUsbs fun d => { d with slices := none }).bump Reg.USBS_WAKE_DELIVERED) := by
  rw [execUsbsWakeSliceEnd, onHub_on _ hn]
  simp only [hk, Nat.reduceAdd, beq_self_eq_true, Bool.false_eq_true, if_false, if_true]

theorem execUsbsHostResume_suspended (hn : s.hubOn = true) (hs : s.flag Reg.USBS_STAT_SUSPENDED = true)
    (hk : s.usb.dev.slices = none) : execUsbsHostResume s = .next s.usbsResumed := by
  rw [execUsbsHostResume, onHub_on _ hn]
  simp only [hs, hk, Option.isSome_none, Bool.not_true, Bool.false_eq_true, if_false]

/-! Reports of EP3 (R382) -/

section

variable (hn : s.hubOn = true) (hy : y = s.usbsSync)
include hn hy

theorem execUsbsEp3Poll_report (hs : y.usbsServes 0x83 = true) (hb : y.usb.dev.ep3 = some b) :
    execUsbsEp3Poll s = .next ((y.withUsbs fun d => { d with ep3 := none }).emit (.usb 8 "ep3 in" [] b)) := by
  rw [execUsbsEp3Poll, onHub_on _ hn]
  simp only [← hy, hs, hb, Bool.not_true, Bool.false_eq_true, if_false]

theorem execUsbsEp3Poll_nak (hs : y.usbsServes 0x83 = true) (hb : y.usb.dev.ep3 = none) :
    execUsbsEp3Poll s = .next (y.emit (.usb 8 "nak" [3] [])) := by
  rw [execUsbsEp3Poll, onHub_on _ hn]
  simp only [← hy, hs, hb, Bool.not_true, Bool.false_eq_true, if_false]

theorem execUsbsEp3Poll_refused (hs : y.usbsServes 0x83 = false) :
    execUsbsEp3Poll s = .next (y.usbsRefuses 0x83) := by
  rw [execUsbsEp3Poll, onHub_on _ hn]
  simp only [← hy, hs, Bool.not_false, if_true]

end

end Sys2Proof.Machine

open Sys2Proof Sys2Proof.Machine

/-- Settles O34, an event at a time. -/
theorem usbServicePortEvents : Obligations.UsbServicePortEvents := by
  unfold Obligations.UsbServicePortEvents
  refine ⟨?vbusSame, ?vbusAppears, ?inProgress, ?completed, ?stalled, ?busReset, ?suspend, ?wakeStart, ?slice, ?eighth,
    ?collision, ?hostResume, ?report, ?nak, ?refused⟩
  case vbusSame => exact fun s v r hn hp => execUsbsVbusChange_same hn hp
  case vbusAppears => exact fun s y r hn hp _ hy hoff => execUsbsVbusChange_appears hn hp hy hoff
  case inProgress => exact fun s b d hn ha => execUsbsControlRequest_inProgress hn ha
  case completed => exact fun s y z b d l hn ha hy hl => execUsbsControlRequest_completed hn ha hy hl
  case stalled => exact fun s y b d hn ha hy hl => execUsbsControlRequest_stalled hn ha hy hl
  case busReset => exact fun s w x y hs hn ha hc hw hx hy => execUsbsBusReset_idle hn ha hc hw hx hy
  case suspend => exact fun s hn ha hs => execUsbsSuspend_attached hn ha hs
  case wakeStart => exact fun s y b hn hy he ha hs hb hk => execUsbsRemoteWakeStart_quiet hn hy he ha hs hb hk
  case slice => exact fun s k hn hk h => execUsbsWakeSliceEnd_more hn hk h
  case eighth => exact fun s hn hk => execUsbsWakeSliceEnd_last hn hk
  case collision => exact fun s k hn hk => execUsbsWakeSliceEnd_collided hn hk
  case hostResume => exact fun s hn hs hk => execUsbsHostResume_suspended hn hs hk
  case report => exact fun s y b hn hy hs hb => execUsbsEp3Poll_report hn hy hs hb
  case nak => exact fun s y hn hy hs hb => execUsbsEp3Poll_nak hn hy hs hb
  case refused => exact fun s y hn hy hs => execUsbsEp3Poll_refused hn hy hs

end

section
/-!
PROOFS. The events of the Ethernet ports: frames received and sent, stamps, MDIO and links (R391 to R394, R400, R404,
R406, R408).
-/

namespace Sys2Proof.Machine

variable {s y z : State} {f g : Bytes} {n : Fin 8} {m : Nat}

/-! Reception (R392, R394) -/

/-- The checks of a received frame: a runt, a giant and a bad FCS are counted, and any other is taken (R392). -/
def State.checkFrame (s : State) (n : Nat) (f : Bytes) : State :=
  if f.length < 64 then s.count (ethCounter n 5)
  else if 9720 < f.length then s.count (ethCounter n 6)
  else if !fcsGood f then s.count (ethCounter n 4)
  else s.goodFrame n f

/-- RS-FEC counts its codewords on port n: on ETH0 to ETH3, where it is on and the rate is 25 Gb/s (R391). -/
def State.fecCounts (s : State) (n : Nat) : Bool :=
  decide (n < 4) && s.flag (Reg.ETH_CTRL_FEC n) && s.rd (Reg.ETH_CTRL_MODE n) != 1

theorem execEthFrameReceived_eq {c u : Nat} : execEthFrameReceived n f c u s =
    onHub (fun s => if !s.macOn n then s
      else (if s.fecCounts n then (s.count (ethCounter n 0xB) c).count (ethCounter n 0xC) u else s).checkFrame n f) s :=
  rfl

theorem State.checkFrame_runt (h : f.length < 64) : s.checkFrame m f = s.count (ethCounter m 5) := if_pos h

theorem State.checkFrame_giant (h : 9720 < f.length) : s.checkFrame m f = s.count (ethCounter m 6) := by
  rw [State.checkFrame, if_neg (by omega), if_pos h]

section

variable (hlo : 64 ≤ f.length) (hhi : f.length ≤ 9720)
include hlo hhi

theorem State.checkFrame_badFcs (h : fcsGood f = false) : s.checkFrame m f = s.count (ethCounter m 4) := by
  rw [State.checkFrame, if_neg (Nat.not_lt.2 hlo), if_neg (Nat.not_lt.2 hhi), if_pos (by simp [h])]

theorem State.checkFrame_good (h : fcsGood f = true) : s.checkFrame m f = s.goodFrame m f := by
  rw [State.checkFrame, if_neg (Nat.not_lt.2 hlo), if_neg (Nat.not_lt.2 hhi), if_neg (by simp [h])]

end

theorem execEthFrameReceived_stopped {c u : Nat} (hn : s.hubOn = true) (hm : s.macOn n = false) :
    execEthFrameReceived n f c u s = .next s := by
  rw [execEthFrameReceived_eq, onHub_on _ hn, if_pos (by simp [hm])]

section

variable (c u : Nat) (hn : s.hubOn = true) (hm : s.macOn n = true)
include hn hm

theorem execEthFrameReceived_plain (hf : s.fecCounts n = false) :
    execEthFrameReceived n f c u s = .next (s.checkFrame n f) := by
  rw [execEthFrameReceived_eq, onHub_on _ hn, if_neg (by simp [hm]), if_neg (by simp [hf])]

theorem execEthFrameReceived_fec (hf : s.fecCounts n = true) :
    execEthFrameReceived n f c u s =
      .next (((s.count (ethCounter n 0xB) c).count (ethCounter n 0xC) u).checkFrame n f) := by
  rw [execEthFrameReceived_eq, onHub_on _ hn, if_neg (by simp [hm]), if_pos hf]

end

/-! Transmission (R397, R401, R404) -/

/-- The frame at the head of queue q may start now. -/
def State.headMayStart (s : State) (n q : Nat) : Bool :=
  match s.ethQueue n q with
  | [] => false
  | f :: _ => s.frameMayStart n q f.length

/-- The frame at the head of queue q goes out, stamped and counted. -/
def State.sendHead (s : State) (n q : Nat) : State :=
  match s.ethQueue n q with
  | [] => s
  | f :: r =>
    let sent := (s.setEthQueue n q r).stampSent n f
    let s := (sent.2.count (ethCounter n 2)).count (ethCounter n 3) sent.1.length
    (s.emit (.eth n "frame" [q] sent.1)).pointDrain

/-- The highest queue whose head may start sends it, and the point engine's frames follow. -/
def State.sendNext (s : State) (n : Nat) : State :=
  match [7, 6, 5, 4, 3, 2, 1, 0].find? (s.headMayStart n) with
  | none => s.pointDrain
  | some q => s.sendHead n q

theorem execEthTxStart_eq : execEthTxStart n s =
    onHub (fun s => if !s.macOn n || (s.ethPort n).paused.isSome || !s.flag (Reg.ETH_STAT_LINK n) then s
      else (if s.gated n then (List.range 8).foldl (fun (s : State) q => s.dropLong n q (s.ethQueue n q).length) s
        else s).sendNext n) s :=
  rfl

theorem State.sendHead_cons {q : Nat} {l : List Bytes} (hq : s.ethQueue m q = f :: l)
    (hs : (s.setEthQueue m q l).stampSent m f = (g, y)) :
    s.sendHead m q = (((y.count (ethCounter m 2)).count (ethCounter m 3) g.length).emit
      (.eth m "frame" [q] g)).pointDrain := by
  rw [State.sendHead, hq]
  simp only [hs]

theorem State.sendNext_some {q : Nat} (h : [7, 6, 5, 4, 3, 2, 1, 0].find? (s.headMayStart m) = some q) :
    s.sendNext m = s.sendHead m q := by
  rw [State.sendNext, h]

/-- PAUSE holds every frame back (R392). -/
theorem execEthTxStart_paused {k : Nat} (hn : s.hubOn = true) (hp : (s.ethPort n).paused = some k) :
    execEthTxStart n s = .next s := by
  rw [execEthTxStart_eq, onHub_on _ hn, if_pos (by simp [hp])]

theorem execEthTxStart_ungated (hn : s.hubOn = true) (hm : s.macOn n = true) (hp : (s.ethPort n).paused = none)
    (hl : s.flag (Reg.ETH_STAT_LINK n) = true) (hg : s.gated n = false) :
    execEthTxStart n s = .next (s.sendNext n) := by
  rw [execEthTxStart_eq, onHub_on _ hn, if_neg (by simp [hm, hp, hl]), if_neg (by simp [hg])]

/-! MDIO (R393) -/

theorem State.mdioStart_busy (hb : s.flag Reg.ETH_MDIO_BUSY = true) : s.mdioStart = s := if_pos hb

theorem State.mdioStart_idle (hb : s.flag Reg.ETH_MDIO_BUSY = false)
    (hz : z = { s.put Reg.ETH_MDIO_BUSY true with
      eth := { s.eth with mdioRead := s.rd Reg.ETH_MDIO_OP == 1 || 4 ≤ s.rd Reg.ETH_MDIO_OP } }) :
    s.mdioStart = z.emit (.eth 8 "MDIO" [s.rd Reg.ETH_MDIO_OP, z.rd Reg.ETH_MDIO_PHYAD, z.rd Reg.ETH_MDIO_REG,
      z.rd Reg.ETH_MDIO_DATA] []) := by
  rw [State.mdioStart, if_neg (by simp [hb]), hz]

theorem execMdioFrameDone_busy {d : BitVec 16} (hn : s.hubOn = true) (hb : s.flag Reg.ETH_MDIO_BUSY = true) :
    execMdioFrameDone d s = .next (if s.eth.mdioRead then (s.put Reg.ETH_MDIO_BUSY false).wr Reg.ETH_MDIO_DATA d.toNat
      else s.put Reg.ETH_MDIO_BUSY false) := by
  rw [execMdioFrameDone, onHub_on _ hn, if_neg (by simp [hb])]

theorem execMdioFrameDone_idle {d : BitVec 16} (hn : s.hubOn = true) (hb : s.flag Reg.ETH_MDIO_BUSY = false) :
    execMdioFrameDone d s = .next s := by
  rw [execMdioFrameDone, onHub_on _ hn, if_pos (by simp [hb])]

/-! Links (R408) -/

/-- A notice tells a status that differs from the one before. -/
theorem State.ethLink_eq {v : BitVec 2} {l k a b : Bool}
    (hy : y = ((((s.put (Reg.ETH_STAT_LINK m) l).wr (Reg.ETH_STAT_SPEED m) v.toNat).put (Reg.ETH_STAT_FEC_LOCK m) k).put
      (Reg.ETH_STAT_LOCAL_FAULT m) a).put (Reg.ETH_STAT_REMOTE_FAULT m) b) :
    s.ethLink m l v k a b = if y.reg (Reg.ETH_STAT_A m) = s.reg (Reg.ETH_STAT_A m) then y
      else y.notice 0x0E01 [byte m, byte (b2n l), byte v.toNat, byte (b2n k + 2 * b2n a + 4 * b2n b)] := by
  rw [State.ethLink]
  simp only [← hy, beq_iff_eq]

/-- A change of LINK, either way, is wake source 13. -/
theorem execEthLinkChange_on {v : BitVec 2} {l k a b : Bool} (hn : s.hubOn = true) (hz : z = s.ethLink n l v k a b) :
    execEthLinkChange n l v k a b s = .next (if s.flag (Reg.ETH_STAT_LINK n) = l then z else z.wake 13) := by
  rw [execEthLinkChange, onHub_on _ hn]
  by_cases h : s.flag (Reg.ETH_STAT_LINK n) = l
  · simp only [h, ← hz, bne_self_eq_false, Bool.false_eq_true, if_false, if_true]
  · simp only [h, ← hz, bne_iff_ne.2 h, if_false, if_true]

end Sys2Proof.Machine

open Sys2Proof Sys2Proof.Machine

/-- Settles O35, an event at a time. -/
theorem ethernetEvents : Obligations.EthernetEvents := by
  unfold Obligations.EthernetEvents
  refine ⟨?stopped, ?runt, ?giant, ?badFcs, ?good, ?runtFec, ?pauseEnd, ?paused, ?sends, ?pop, ?clrLost, ?mdioBusy,
    ?mdioIdle, ?mdioDone, ?mdioNotBusy, ?link⟩
  case stopped => exact fun s n f c u hn hm => execEthFrameReceived_stopped hn hm
  case runt =>
    exact fun s n f c u hn hm hf h =>
      (execEthFrameReceived_plain c u hn hm hf).trans (congrArg _ (State.checkFrame_runt h))
  case giant =>
    exact fun s n f c u hn hm hf h =>
      (execEthFrameReceived_plain c u hn hm hf).trans (congrArg _ (State.checkFrame_giant h))
  case badFcs =>
    exact fun s n f c u hn hm hf hlo hhi h =>
      (execEthFrameReceived_plain c u hn hm hf).trans (congrArg _ (State.checkFrame_badFcs hlo hhi h))
  case good =>
    exact fun s n f c u hn hm hf hlo hhi h =>
      (execEthFrameReceived_plain c u hn hm hf).trans (congrArg _ (State.checkFrame_good hlo hhi h))
  case runtFec =>
    intro s n f c u hn hm h4 hf hr h
    have hfec : s.fecCounts n = true := by simp [State.fecCounts, h4, hf, hr]
    exact (execEthFrameReceived_fec c u hn hm hfec).trans (congrArg _ (State.checkFrame_runt h))
  case pauseEnd =>
    exact fun s n hn => onHub_on (fun s => s.setEthPort n { s.ethPort n with paused := none }) hn
  case paused => exact fun s n k hn hp => execEthTxStart_paused hn hp
  case sends =>
    exact fun s y n q f g l hn hm hp hl hg hfind hq hs =>
      (execEthTxStart_ungated hn hm hp hl hg).trans
        (congrArg _ ((State.sendNext_some hfind).trans (State.sendHead_cons hq hs)))
  case pop => exact fun s n hn => onHub_on (fun s => s.tsfPop n) hn
  case clrLost => exact fun s n hn => onHub_on (fun s => s.wr (Reg.ETH_PTP_LOST n) 0) hn
  case mdioBusy =>
    rintro s _ v hn rfl hb
    exact (onHub_on (fun s => State.mdioStart (List.foldl _ s _)) hn).trans (congrArg _ (State.mdioStart_busy hb))
  case mdioIdle =>
    rintro s _ z v hn rfl hb hz
    exact (onHub_on (fun s => State.mdioStart (List.foldl _ s _)) hn).trans (congrArg _ (State.mdioStart_idle hb hz))
  case mdioDone => exact fun s d hn hb => execMdioFrameDone_busy hn hb
  case mdioNotBusy => exact fun s d hn hb => execMdioFrameDone_idle hn hb
  case link =>
    exact fun s y z n v l k a b hn hy hz => execEthLinkChange_on hn (hz.trans (State.ethLink_eq hy).symm)

end

section
/-!
PROOFS. The events of the gate lists and of the virtual NIC (R361, R366, R398, R403, R405, R407).
-/

namespace Sys2Proof.Machine

variable {s y z : State} {mem : HostMem} {b : Bytes}

/-! Gate lists (R403, R405) -/

section

variable {n : Fin 4} (hn : s.hubOn = true) (hy : y = s.gateChange (4 + n))
include hn hy

theorem execGateCommit_empty (hl : y.rd (Reg.ETH_GCTL_LEN (4 + n)) = 0) :
    execGateCommit n s = .next (y.notice 0x0E03 [byte (4 + n), 1]) := by
  rw [execGateCommit, onHub_on _ hn]
  simp only [← hy, hl, beq_self_eq_true, Bool.true_or, if_true]

variable (hl : y.rd (Reg.ETH_GCTL_LEN (4 + n)) ≠ 0)
include hl

theorem execGateCommit_short (hc : y.rd (Reg.ETH_GCYCLE_CYCLE_NS (4 + n)) < 1000) :
    execGateCommit n s = .next (y.notice 0x0E03 [byte (4 + n), 2]) := by
  rw [execGateCommit, onHub_on _ hn]
  simp only [← hy, beq_false_of_ne hl, hc, decide_true, Bool.or_true, Bool.false_eq_true, if_false, if_true]

/-- A base at least 10 us after the commit is the change time itself (R405). -/
theorem execGateCommit_ahead {base : Nat} {g : GateList} (hc : 1000 ≤ y.rd (Reg.ETH_GCYCLE_CYCLE_NS (4 + n)))
    (hbase : base = (y.rd (Reg.ETH_GBASE_SL_SEC_LO (4 + n)) + y.rd (Reg.ETH_GBASE_SH_SEC_HI (4 + n)) * 2 ^ 32) *
      1000000000 + y.rd (Reg.ETH_GBASE_NS_NSEC (4 + n)))
    (hahead : -((-(y.reading + 10000 * 65536)) / 65536) ≤ (base : Int))
    (hg : g =
      { len := y.rd (Reg.ETH_GCTL_LEN (4 + n)), cycle := y.rd (Reg.ETH_GCYCLE_CYCLE_NS (4 + n)), base := base
        words := (List.range 64).map fun i => y.reg (Reg.ETH_GADM_A (4 + n) i) }) :
    execGateCommit n s = .next (((y.setEthPort (4 + n) { y.ethPort (4 + n) with next := some (g, base) }).put
      (Reg.ETH_GCTL_PENDING (4 + n)) true).setNs (Reg.ETH_GCHG_SL_SEC_LO (4 + n)) (Reg.ETH_GCHG_SH_SEC_HI (4 + n))
      (Reg.ETH_GCHG_NS_NSEC (4 + n)) base) := by
  have hlate : -((-(y.reading + 10000 * 65536)) / 65536) - (base : Int) ≤ 0 := Int.sub_nonpos_of_le hahead
  rw [execGateCommit, onHub_on _ hn]
  simp only [← hy, beq_false_of_ne hl, Nat.not_lt.2 hc, ← hbase, hlate, ← hg, decide_false, Bool.or_self,
    Bool.false_eq_true, if_false, if_true]

end

theorem State.gateChange_noPending {m : Nat} (hp : (s.ethPort m).next = none) : s.gateChange m = s := by
  rw [State.gateChange]
  simp only [hp]

section

variable {m c : Nat} {g : GateList} (hp : (s.ethPort m).next = some (g, c))
include hp

theorem State.gateChange_early (hr : s.reached c = false) : s.gateChange m = s := by
  rw [State.gateChange]
  simp only [hp, hr, Bool.not_false, if_true]

/-- At its change time the pending list becomes the operational one, from its first entry (R405). -/
theorem State.gateChange_reached (hr : s.reached c = true)
    (hy : y = s.setEthPort m { s.ethPort m with oper := { g with words := [] }, next := none })
    (hz : z = g.words.zipIdx.foldl (fun (s : State) w => s.setReg (Reg.ETH_GOPR_A m w.2) w.1) y) :
    s.gateChange m = (((z.put (Reg.ETH_GCTL_PENDING m) false).wr (Reg.ETH_GCTL_ENTRY m) 0).gateEntry m).notice 0x0E02
      ([byte m, byte (clamp 1 64 g.len)] ++ le 6 (c / 1000000000) ++ le 4 (c % 1000000000)) := by
  rw [State.gateChange]
  simp only [hp, hr, ← hy, ← hz, Bool.not_true, Bool.false_eq_true, if_false]

end

/-! The virtual NIC (R398, R407) -/

variable {q : Fin 8}

/-- The root has no virtual NIC (R398). -/
theorem execVnicEnable_root (hn : s.hubOn = true) (hr : s.isRoot = true) : execVnicEnable q mem s = .next s := by
  rw [execVnicEnable, onHub_on _ hn]
  simp only [hr, Bool.true_or, if_true]

section

variable (hn : s.hubOn = true) (hr : s.isRoot = false) (he : bit (s.rd Reg.ETH_VNIC_CTRL_EN) q = false)
  (hy : y = s.hostRead 3 (s.vnicCb q) 32)
include hn hr he hy

theorem execVnicEnable_unreadable (hm : mem.read (y.vnicCb q) 32 = none) : execVnicEnable q mem s =
    .next ((y.wr Reg.ETH_VNIC_CTRL_EN (clearBit (s.rd Reg.ETH_VNIC_CTRL_EN) q)).setVnic q {}) := by
  rw [execVnicEnable, onHub_on _ hn]
  simp only [hr, he, ← hy, hm, Bool.false_and, Bool.or_self, Bool.false_eq_true, if_false]

/-- A queue of 16 to 4,096 entries is set up from the block, and starts empty (R361, R398). -/
theorem execVnicEnable_good (hm : mem.read (y.vnicCb q) 32 = some b) (hlo : 4 ≤ leAt b 24 1) (hhi : leAt b 24 1 ≤ 12) :
    execVnicEnable q mem s = .next (((y.wr Reg.ETH_VNIC_CTRL_EN (setBit (s.rd Reg.ETH_VNIC_CTRL_EN) q)).setVnic q
      { on := true, txBase := leAt b 0 8, rxBase := leAt b 8 8, cplBase := leAt b 16 8, log2 := leAt b 24 1 }).wr
      (Reg.ETH_VNIC_SEQ_CSEQ q) 0) := by
  rw [execVnicEnable, onHub_on _ hn]
  simp only [hr, he, ← hy, hm, hlo, hhi, decide_true, Bool.false_and, Bool.or_self, Bool.and_self, Bool.false_eq_true,
    if_false, if_true]

end

theorem execVnicPoll_off (hn : s.hubOn = true) (ho : (s.vnic q).on = false) : execVnicPoll q mem s = .next s := by
  rw [execVnicPoll, onHub_on _ hn]
  simp only [ho, Bool.not_false, Bool.or_true, if_true]

section

variable (hn : s.hubOn = true) (hr : s.isRoot = false) (ho : (s.vnic q).on = true)
  (hy : y = s.hostRead 3 (s.vnicCb q + 26) 6)
include hn hr ho hy

theorem execVnicPoll_unreadable (hm : mem.read (y.vnicCb q + 26) 6 = none) : execVnicPoll q mem s = .next y := by
  rw [execVnicPoll, onHub_on _ hn]
  simp only [hr, ho, ← hy, hm, Bool.not_true, Bool.or_self, Bool.false_eq_true, if_false]

/-- A poll that finds no new descriptors flushes what REL allows, and runs what was fetched before (R366, R398). -/
theorem execVnicPoll_nothingNew (hm : mem.read (y.vnicCb q + 26) 6 = some b)
    (hz : z = State.vnicFlush q 4096 (y.wr (Reg.ETH_VNIC_SEQ_REL q) (leAt b 4 2)))
    (htx : ringFetch mem 16 (z.vnic q).txBase (z.vnic q).log2 (z.vnic q).txCons (leAt b 0 2) = [])
    (hrx : ringFetch mem 16 (z.vnic q).rxBase (z.vnic q).log2 (z.vnic q).rxCons (leAt b 2 2) = []) :
    execVnicPoll q mem s = .next (State.vnicRun q mem 4096 (z.setVnic q { z.vnic q with
      txCons := (z.vnic q).txCons % 65536, rxCons := (z.vnic q).rxCons % 65536 })) := by
  rw [execVnicPoll, onHub_on _ hn]
  simp only [hr, ho, ← hy, hm, ← hz, htx, hrx, Bool.not_true, Bool.or_self, Bool.and_self, beq_self_eq_true,
    List.length_nil, List.map_nil, List.append_nil, Nat.add_zero, Bool.false_eq_true, if_false, if_true]

end

end Sys2Proof.Machine

open Sys2Proof Sys2Proof.Machine

/-- Settles O36, an event at a time. -/
theorem gateAndVnicEvents : Obligations.GateAndVnicEvents := by
  unfold Obligations.GateAndVnicEvents
  refine ⟨?advance, ?empty, ?short, ?ahead, ?noPending, ?early, ?reached, ?root, ?enableUnreadable, ?enableGood, ?off,
    ?pollUnreadable, ?nothingNew⟩
  case advance => exact fun s n hn => onHub_on (fun s => s.gateEntry (4 + n)) hn
  case empty => exact fun s y n hn hy hl => execGateCommit_empty hn hy hl
  case short => exact fun s y n hn hy hl hc => execGateCommit_short hn hy hl hc
  case ahead =>
    exact fun s y n base g hn hy hl hc hbase hahead hg => execGateCommit_ahead hn hy hl hc hbase hahead hg
  case noPending =>
    exact fun s n hn hp =>
      (onHub_on (fun s => s.gateChange (4 + n)) hn).trans (congrArg _ (State.gateChange_noPending hp))
  case early =>
    exact fun s n g c hn hp hr =>
      (onHub_on (fun s => s.gateChange (4 + n)) hn).trans (congrArg _ (State.gateChange_early hp hr))
  case reached =>
    exact fun s y z n g c hn hp hr hy hz =>
      (onHub_on (fun s => s.gateChange (4 + n)) hn).trans (congrArg _ (State.gateChange_reached hp hr hy hz))
  case root => exact fun s q mem hn hr => execVnicEnable_root hn hr
  case enableUnreadable => exact fun s y q mem hn hr he hy hm => execVnicEnable_unreadable hn hr he hy hm
  case enableGood => exact fun s y q mem b hn hr he hy hm hlo hhi => execVnicEnable_good hn hr he hy hm hlo hhi
  case off => exact fun s q mem hn ho => execVnicPoll_off hn ho
  case pollUnreadable => exact fun s y q mem hn hr ho hy hm => execVnicPoll_unreadable hn hr ho hy hm
  case nothingNew =>
    exact fun s y z q mem b hn hr ho hy hm hz htx hrx => execVnicPoll_nothingNew hn hr ho hy hm hz htx hrx

end

section
/-!
PROOFS. Damya without power (R549, R653): no row acts on a die that has no power, and POWER_DIE_STOP leaves nothing
volatile.
-/

namespace Sys2Proof.Machine

variable {s t : State} {i : Instr}

/-- A hub-die row while the hub die has no power. -/
theorem onHub_off (f : State → State) (h : s.hubOn = false) : onHub f s = .next s := by
  simp only [onHub, h, Bool.false_eq_true, if_false]

/-- A power-die row while the power die has no power. -/
theorem onNib_off (f : State → State) (h : s.nib.on = false) : onNib f s = .next s := by
  simp only [onNib, h, Bool.false_eq_true, if_false]

/-- The same for a row that is known to be a hub-die one. -/
theorem next_of_eq_onHub {e : State → Out} {f : State → State} (he : ∀ s, e s = onHub f s) (h : s.hubOn = false) :
    e s = .next s := (he s).trans (onHub_off f h)

/-- The same for a row that is known to be a power-die one. -/
theorem next_of_eq_onNib {e : State → Out} {f : State → State} (he : ∀ s, e s = onNib f s) (h : s.nib.on = false) :
    e s = .next s := (he s).trans (onNib_off f h)

theorem State.hubOn_of_nib_off (h : s.nib.on = false) : s.hubOn = false := by
  rw [State.hubOn, h, Bool.false_and]

theorem State.serving_of_hub_off (h : s.hubOn = false) : s.serving = false :=
  Bool.eq_false_iff.2 fun hs => Bool.false_ne_true (h.symm.trans (State.hubOn_of_serving hs))

theorem State.mgmtStart_nib_off (a : BitVec 7) (h : s.nib.on = false) : s.mgmtStart a = s :=
  if_neg (by rw [h]; exact Bool.false_ne_true)

/-- A packet that finds neither Scribe nor the ROM serving is lost. -/
theorem State.command_hub_off (op : Nat) (q : Request) (body : Body) (h : s.hubOn = false) : s.command op q body = s :=
  if_pos (by rw [State.serving_of_hub_off h]; rfl)

/-! Which rows act on which die -/

/-- A row that is not of the power die and no packet is an event of the hub die. -/
theorem exec_eq_onHub (ha : actsOnPowerDie i = false) (hp : packetOf i = none) : ∃ f, ∀ s, exec i s = onHub f s := by
  cases i
  all_goals cases ha
  all_goals cases hp
  all_goals exact ⟨_, fun s => rfl⟩

/-- While the hub die has no power, a row that is not of the power die changes nothing. -/
theorem exec_hub_off (ha : actsOnPowerDie i = false) (h : s.hubOn = false) : exec i s = .next s := by
  cases hp : packetOf i with
  | none =>
    obtain ⟨f, hf⟩ := exec_eq_onHub ha hp
    exact next_of_eq_onHub hf h
  | some p =>
    obtain ⟨body, hb⟩ := exec_packet i (op := p.1) (q := p.2) hp
    rw [hb, State.command_hub_off _ _ _ h]

/-- While the power die has no power, a row of the power die changes nothing, POWER_ON and MGMT_STATUS_READ apart. -/
theorem exec_nib_off (ha : actsOnPowerDie i = true) (hp : ∀ tcs, i ≠ .powerOn tcs) (hm : i ≠ .mgmtStatusRead)
    (h : s.nib.on = false) : exec i s = .next s := by
  have hh : s.hubOn = false := State.hubOn_of_nib_off h
  cases i
  case powerOn tcs => exact absurd rfl (hp tcs)
  case mgmtStatusRead => exact absurd rfl hm
  case powerDieStop => exact congrArg _ (if_neg (by rw [h]; exact Bool.false_ne_true))
  case mgmtRequest f b =>
    change execMgmtRequest f b s = _
    rw [execMgmtRequest, State.mgmtStart_nib_off _ h, onHub_off _ hh]
  case mgmtReplyRead n =>
    change execMgmtReplyRead n s = _
    rw [execMgmtReplyRead, State.mgmtStart_nib_off _ h, onHub_off _ hh]
  case registerWrite a w => exact congrArg _ (if_pos (by simp only [h, hh, ite_self, Bool.not_false, Bool.or_true]))
  case laneStateExitDone | deviceTlpReceived | usbDeviceRemoteWake | ethLinkChange | tioCaptureEdge =>
    exact next_of_eq_onHub (e := exec _) (fun _ => rfl) hh
  all_goals cases ha
  all_goals exact next_of_eq_onNib (e := exec _) (fun _ => rfl) h

/-- Without power a core cycle changes nothing. -/
theorem State.tick_nib_off (h : s.nib.on = false) : s.tick = s := by
  have hn : ∀ raw, s.nibCycle raw = s := fun raw => if_pos (by rw [h]; rfl)
  unfold State.tick
  rw [hn]
  exact if_pos (by rw [State.hubOn_of_nib_off h]; rfl)

/-- Without power Scribe takes no request, so an idle step changes nothing. -/
theorem idleStep_nib_off (h : s.nib.on = false) : idleStep s = .next s := by
  have hr : s.nextRequest = none :=
    if_pos (by rw [State.serving_of_hub_off (State.hubOn_of_nib_off h)]; rfl)
  simp only [idleStep, State.tick_nib_off h, hr]

/-! States without power -/

theorem State.nib_off_of_dead (h : s.dead) : s.nib.on = false := by
  rw [h.1]
  rfl

/-- Taking a command from the queue leaves a dead Damya dead. -/
theorem State.dead_of_pending {c : Instr} {rest : List Instr} (h : s.dead) (hp : s.pending = c :: rest) :
    ({ s with pending := rest } : State).dead :=
  ⟨congrArg (fun u : State => { u with pending := rest }) h.1,
    fun tcs hm => h.2 tcs (by rw [hp]; exact List.mem_cons_of_mem _ hm)⟩

/-- What leaves Damya is a record of the outside, so a dead Damya stays dead. -/
theorem State.dead_emit (h : s.dead) (o : Output) : (s.emit o).dead :=
  ⟨congrArg (fun u : State => u.emit o) h.1, h.2⟩

/-- No row but POWER_ON ends the lack of power: MGMT_STATUS_READ may answer from the balls, the others change nothing. -/
theorem exec_dead (h : s.dead) (hp : ∀ tcs, i ≠ .powerOn tcs) (ht : exec i s = .next t) : t.dead := by
  have hn : s.nib.on = false := State.nib_off_of_dead h
  by_cases hm : i = .mgmtStatusRead
  · subst hm
    have ht : .next ((s.mgmtStart _).mgmtStatusRead) = Host.Outcome.next t := ht
    rw [State.mgmtStart_nib_off _ hn] at ht
    cases ht
    unfold State.mgmtStatusRead
    split
    · exact State.dead_emit h _
    · exact h
  · have he : exec i s = .next s := by
      cases ha : actsOnPowerDie i with
      | false => exact exec_hub_off ha (State.hubOn_of_nib_off hn)
      | true => exact exec_nib_off ha hp hm hn
    cases he.symm.trans ht
    exact h

/-- POWER_DIE_STOP on a running power die keeps what is not volatile and nothing else (R653). -/
theorem execPowerDieStop_on (h : s.nib.on = true) : execPowerDieStop s = .next
    { pending := s.pending, out := s.out, fresh := s.fresh, pins := s.pins,
      nv := s.cmd.jobs.foldl (fun n j => cutJob n j.kind) s.nv, nib := { on := false } } :=
  congrArg _ (if_pos h)

end Sys2Proof.Machine

open Sys2Proof Sys2Proof.Machine

/-- Settles O42: a step takes a row of the queue, or is an idle one. -/
theorem deadIsKept : Obligations.DeadIsKept := by
  unfold Obligations.DeadIsKept
  intro s t h ht
  cases hp : s.pending with
  | nil =>
    rw [step, hp] at ht
    cases (idleStep_nib_off (State.nib_off_of_dead h)).symm.trans ht
    exact h
  | cons c rest =>
    rw [step_front hp] at ht
    exact exec_dead (State.dead_of_pending h hp) (fun tcs hc => h.2 tcs (by rw [hp, hc]; exact List.mem_cons_self)) ht

/-- Settles O43, by the die that a row acts on. -/
theorem noPowerNoEffect : Obligations.NoPowerNoEffect := by
  unfold Obligations.NoPowerNoEffect
  refine ⟨fun i s ha h => exec_hub_off ha h, fun i s h hp hm => ?_⟩
  cases ha : actsOnPowerDie i with
  | false => exact exec_hub_off ha (State.hubOn_of_nib_off h)
  | true => exact exec_nib_off ha hp hm h

/-- Settles O41: the state answered is a dead one as it is written. -/
theorem powerDieStopIsDead : Obligations.PowerDieStopIsDead := by
  unfold Obligations.PowerDieStopIsDead
  exact fun s h hp => ⟨_, execPowerDieStop_on h, ⟨rfl, hp⟩, rfl, rfl, rfl, rfl⟩

end

section
/-!
PROOFS. The events of the eFuse channels (R497 to R518).
-/

namespace Sys2Proof.Machine

variable {s : State} {n : Fin 8} {x : FuseSample}

theorem execEfuseInputWindowChange_channel (hn : s.nib.on = true) (h0 : n ≠ 0) :
    execEfuseInputWindowChange n x s = .next (((s.sensed n x).fuseInput n x.vin).fuseServes n) := by
  rw [execEfuseInputWindowChange, onNib_on _ hn]
  exact congrArg _ (if_neg (by simpa [Fin.val_eq_zero_iff] using h0))

/-- CH0's window is the intake's, which it enters (R501, R529). -/
theorem execEfuseInputWindowChange_intake (hn : s.nib.on = true) (hi : (s.sensed 0 x).intakeOk = false)
    (hw : (s.sensed 0 x).fuseWindow 0 x.vin = true) :
    execEfuseInputWindowChange 0 x s = .next ((s.sensed 0 x).intakeEnter x.vin) := by
  rw [execEfuseInputWindowChange, onNib_on _ hn]
  exact congrArg _ ((if_pos rfl).trans (if_pos (Bool.and_eq_true_iff.2 ⟨hw, congrArg (!·) hi⟩)))

theorem execEfusePresenceChange_slot {b : Bool} (hn : s.nib.on = true) (h1 : 1 ≤ n.val) (h3 : n.val ≤ 3) :
    execEfusePresenceChange n b s = .next (((s.put (Reg.EFU_CH_STAT_PRES n) b).fuseFollow n).fuseServes n) := by
  have hslot : ¬(n.val == 0 || decide (4 ≤ n.val)) = true := by
    simp only [Bool.or_eq_true, beq_iff_eq, decide_eq_true_eq]
    omega
  rw [execEfusePresenceChange, onNib_on _ hn, if_neg hslot]

theorem execEfuseInsertDelayEnd_inserted (hn : s.nib.on = true) (hs : s.fuseState n = 3)
    (hi : s.fuseInserted n = true) : execEfuseInsertDelayEnd n s = .next (s.fuseGo n 4) := by
  rw [execEfuseInsertDelayEnd, onNib_on _ hn, if_pos (by rw [hs, hi]; rfl)]

theorem execEfusePrecheckEnd_precheck (hn : s.nib.on = true) (hs : s.fuseState n = 4) :
    execEfusePrecheckEnd n x s = .next (((((s.wr (Reg.EFU_CH_IOUT_PEAK n) 0).sensed n x).withFuse n fun f =>
      { f with timers := [] }).fuseGo n 5).fuseGate n 1) := by
  rw [execEfusePrecheckEnd, onNib_on _ hn]
  exact congrArg _ (if_neg (by rw [hs]; decide))

theorem execEfuseRampDone_low (hn : s.nib.on = true) (hs : s.fuseState n = 5) (hd : (s.fuse n).deciding = false)
    (hv : x.vds < 300) : execEfuseRampDone n x s = .next ((s.sensed n x).fuseGo n 6) := by
  rw [execEfuseRampDone, onNib_on _ hn, if_pos (by rw [hs, hd, decide_eq_true hv]; rfl)]

/-! Trips (R503, R506 to R508) -/

/-- A channel in RAMP or ON without a pending decision can trip. -/
theorem State.fuseArmed_of_undecided {m : Nat} (hs : s.fuseState m = 5 ∨ s.fuseState m = 6)
    (hd : (s.fuse m).deciding = false) : s.fuseArmed m = true := by
  rw [State.fuseArmed, hd]
  rcases hs with hs | hs <;> rw [hs] <;> rfl

theorem execEfuseRampTimeout_ramp (hn : s.nib.on = true) (hs : s.fuseState n = 5) (hd : (s.fuse n).deciding = false) :
    execEfuseRampTimeout n x s = .next (s.tripAll n 4 none x) := by
  rw [execEfuseRampTimeout, onNib_on _ hn, if_pos (by rw [hs, State.fuseArmed_of_undecided (.inl hs) hd]; rfl)]

theorem execEfuseCurveTrip_used {k : Fin 16} {p : Bytes} (hn : s.nib.on = true) (hs : s.fuseState n = 6)
    (hd : (s.fuse n).deciding = false) (hp : s.fuseProfile n = some p) (hk : k.val < profPoints p) :
    execEfuseCurveTrip n k x s = .next (s.tripAll n 2 (some k.val) x) := by
  rw [execEfuseCurveTrip, onNib_on _ hn, hs, State.fuseArmed_of_undecided (.inr hs) hd, hp]
  exact congrArg _ (if_pos (decide_eq_true hk))

theorem execEfuseFastTrip_armed (hn : s.nib.on = true) (ha : s.fuseArmed n = true) :
    execEfuseFastTrip n x s = .next (s.tripAll n 1 none x) := by
  rw [execEfuseFastTrip, onNib_on _ hn, if_pos ha]

theorem execEfuseSoaTrip_armed {p : Bytes} (hn : s.nib.on = true) (ha : s.fuseArmed n = true)
    (hp : s.fuseProfile n = some p) :
    execEfuseSoaTrip n x s = .next ((s.setSoa n (profEMax p * 1000000)).tripAll n 3 none x) := by
  rw [execEfuseSoaTrip, onNib_on _ hn, if_pos ha, hp]
  rfl

/-! Retries, power-good, damage and profiles (R504, R511 to R518) -/

theorem execEfuseRetryDecision_deciding (hn : s.nib.on = true) (hd : (s.fuse n).deciding = true) :
    execEfuseRetryDecision n s = .next ((s.fuseDecide n).fuseServes n) := by
  rw [execEfuseRetryDecision, onNib_on _ hn, if_pos hd]

/-- On a channel that serves no Type-C port, the end of HOLD goes to WAIT, or to OFF (R514). -/
theorem execEfuseHoldEnd_slot {y : State} (hn : s.nib.on = true) (hs : s.fuseState n = 7) (h4 : n.val < 4)
    (hy : y = s.wr (Reg.EFU_CH_RETRY_HOLD_LEFT_MS n) 0) : execEfuseHoldEnd n s =
      .next (((y.fuseGo n (if y.fuseRequested n then 2 else 0)).fuseFollow n).fuseServes n) := by
  have hport : decide (4 ≤ n.val) = false := decide_eq_false (Nat.not_le.2 h4)
  subst hy
  rw [execEfuseHoldEnd, onNib_on _ hn, if_neg (by rw [hs]; decide)]
  simp only [hport, Bool.false_and, Bool.false_eq_true, if_false]

theorem execEfusePgRise_slot {p : Bytes} (hn : s.nib.on = true) (hs : s.fuseState n = 6)
    (hd : (s.fuse n).deciding = false) (hg : s.flag (Reg.EFU_CH_STAT_PG n) = false) (hp : s.fuseProfile n = some p)
    (hv : x.vds ≤ profVdsMax p) (ho : s.fuseOutputOk n x.vout = true) (h4 : n.val < 4) :
    execEfusePgRise n x s = .next (((((((s.sensed n x).fusePg n true).withFuse n fun f =>
      { f with moving := false }).put (Reg.EFU_CH_STAT_WINDOW n)
      ((((s.sensed n x).fusePg n true).withFuse n fun f => { f with moving := false }).fuseWindow n x.vin)).fuseNotice
      n 6 6)).fuseServes n) := by
  rw [execEfusePgRise, onNib_on _ hn]
  simp only [hs, hd, hg, hp, ho, decide_eq_true hv, Nat.not_le.2 h4, beq_self_eq_true, Bool.not_false, Bool.and_self,
    if_true, if_false]

theorem execEfusePgFall_high {p : Bytes} (hn : s.nib.on = true) (hs : s.fuseState n = 6)
    (hg : s.flag (Reg.EFU_CH_STAT_PG n) = true) (hp : s.fuseProfile n = some p)
    (hv : profVdsMax p < x.vds ∨ s.fuseOutputOk n x.vout = false) :
    execEfusePgFall n x s = .next (((s.sensed n x).fusePg n false).fuseNotice n 6 6) := by
  have hv : (decide (x.vds > profVdsMax p) || !s.fuseOutputOk n x.vout) = true := by
    simpa only [Bool.or_eq_true, decide_eq_true_eq, Bool.not_eq_true'] using hv
  rw [execEfusePgFall, onNib_on _ hn]
  simp only [hs, hg, hp, hv, beq_self_eq_true, Bool.and_self, if_true]

theorem execRetryClearExpiry_good (hn : s.nib.on = true) (hg : s.flag (Reg.EFU_CH_STAT_PG n) = true)
    (hu : s.rd (Reg.EFU_CH_RETRY_USED n) ≠ 0) : execRetryClearExpiry n s =
      .next ((s.fuseCountsReset n).notice 0x0843 [byte n, byte (s.rd (Reg.EFU_CH_RETRY_LIMIT n))]) := by
  rw [execRetryClearExpiry, onNib_on _ hn, if_pos (by rw [hg, bne_iff_ne.2 hu]; rfl)]

/-- GATE damage in ON latches the channel without a retry (R511). -/
theorem execEfuseDamageDetect_gate {y : State} (hn : s.nib.on = true) (hs : s.fuseState n = 6)
    (hd : (s.fuse n).deciding = false) (h4 : n.val < 4)
    (hy : y = ((s.sensed n x).wr (Reg.EFU_CH_STAT_CAUSE n) 7).wr (Reg.EFU_CH_RETRY_HOLD_LEFT_MS n) 0)
    (hl : y.fuseState n ≠ 8) : execEfuseDamageDetect n 2 x s = .next
      (((((y.fuseGo n 8).count (0x285 + 8 * n)).count (0x287 + 8 * n)).notice 0x0841
        ([byte n, byte 7] ++ le 2 (min 0xFFFF x.vds) ++ le 2
          (min 0xFFFF ((((y.fuseGo n 8).count (0x285 + 8 * n)).count (0x287 + 8 * n)).rd
            (Reg.EFU_CH_IOUT_I n))))).fuseServes n) := by
  have hdam : s.damaged n 7 x = true := by
    rw [State.damaged, if_neg (by decide), if_neg (by rw [hs, hd]; decide)]
    rfl
  have hport : decide (4 ≤ n.val) = false := decide_eq_false (Nat.not_le.2 h4)
  have hc : 5 + (2 : Fin 3).val = 7 := rfl
  have hne : (7 == 5) = false := rfl
  subst hy
  rw [execEfuseDamageDetect, onNib_on _ hn]
  simp only [hc, hne, hdam, beq_eq_false_iff_ne.2 hl, hport, State.count_rd, Bool.not_true, Bool.false_and,
    Bool.or_self, Bool.false_eq_true, if_false]

/-- The shadow profile is taken in ON once the current is low and every timer of the curve is 0 (R518). -/
theorem execProfileSafePoint_on {p o : Bytes} (hn : s.nib.on = true) (hp : (s.fuse n).shadow = some p)
    (ho : s.fuseProfile n = some o) (hs : s.fuseState n = 6) (hd : (s.fuse n).deciding = false)
    (hi : x.i ≤ min (profI p 0) (profI o 0)) (ht : (s.fuse n).timers.all (· == 0) = true) :
    execProfileSafePoint n x s = .next ((s.sensed n x).takeProfile n p) := by
  rw [execProfileSafePoint, onNib_on _ hn]
  simp only [hp, ho, hs, hd, ht, decide_eq_true hi, beq_self_eq_true, Bool.not_false, Bool.and_self, if_true]

end Sys2Proof.Machine

open Sys2Proof Sys2Proof.Machine

/-- Settles O19, an event at a time. -/
theorem efuseEvents : Obligations.EfuseEvents := by
  unfold Obligations.EfuseEvents
  refine ⟨?byPcie, ?byPd, ?window, ?intake, ?presence, ?insertDelay, ?precheck, ?rampDone, ?rampTimeout, ?curve, ?fast,
    ?soa, ?decision, ?holdEnd, ?pgRise, ?pgFall, ?retryClear, ?damage, ?safePoint⟩
  case byPcie =>
    intro s n b hn hsrc
    change execEfuseRequestChange n b s = _
    rw [execEfuseRequestChange, onNib_on _ hn, hsrc]
    rfl
  case byPd =>
    intro s n b hn hsrc
    change execEfuseRequestChange n b s = _
    rw [execEfuseRequestChange, onNib_on _ hn, hsrc]
    rfl
  case window => exact fun s n x hn h0 => execEfuseInputWindowChange_channel hn h0
  case intake => exact fun s x hn hi hw => execEfuseInputWindowChange_intake hn hi hw
  case presence => exact fun s n b hn h1 h3 => execEfusePresenceChange_slot hn h1 h3
  case insertDelay => exact fun s n hn hs hi => execEfuseInsertDelayEnd_inserted hn hs hi
  case precheck => exact fun s n x hn hs => execEfusePrecheckEnd_precheck hn hs
  case rampDone => exact fun s n x hn hs hd hv => execEfuseRampDone_low hn hs hd hv
  case rampTimeout => exact fun s n x hn hs hd => execEfuseRampTimeout_ramp hn hs hd
  case curve => exact fun s n k x p hn hs hd hp hk => execEfuseCurveTrip_used hn hs hd hp hk
  case fast => exact fun s n x hn hs hd => execEfuseFastTrip_armed hn (State.fuseArmed_of_undecided hs hd)
  case soa => exact fun s n x p hn hs hd hp => execEfuseSoaTrip_armed hn (State.fuseArmed_of_undecided hs hd) hp
  case decision => exact fun s n hn hd => execEfuseRetryDecision_deciding hn hd
  case holdEnd => exact fun s y n hn hs h4 hy => execEfuseHoldEnd_slot hn hs h4 hy
  case pgRise => exact fun s n x p hn hs hd hg hp hv ho h4 => execEfusePgRise_slot hn hs hd hg hp hv ho h4
  case pgFall => exact fun s n x p hn hs hg hp hv => execEfusePgFall_high hn hs hg hp hv
  case retryClear => exact fun s n hn hg hu => execRetryClearExpiry_good hn hg hu
  case damage => exact fun s n x y hn hs hd h4 hy hl => execEfuseDamageDetect_gate hn hs hd h4 hy hl
  case safePoint => exact fun s n x p o hn hp ho hs hd hi ht => execProfileSafePoint_on hn hp ho hs hd hi ht

end

section
/-!
PROOFS. The retry counts of an eFuse channel (R512, R513, R515, R518): which operations write EFU_CHn_RETRY, and what
they leave in it.
-/

namespace Sys2Proof.Machine

namespace State

variable {s t : State} {n : Nat}

theorem reg_wr_ne {f : Fld} {a : Nat} (v : Nat) (h : a ≠ f.addr) : (s.wr f v).reg a = s.reg a := by
  rw [reg_wr, if_neg h]

theorem rd_lt (s : State) (f : Fld) : s.rd f < 2 ^ f.width := BitVec.isLt _

/-- A field is what its register's word holds there. -/
theorem rd_of_reg {f : Fld} {w : Word} (h : t.reg f.addr = w) : t.rd f = f.get w := congrArg f.get h

theorem fuse_of_fuses (h : t.fuses = s.fuses) (n : Nat) : t.fuse n = s.fuse n :=
  congrArg (fun l => Table.get (fun _ => ({} : Fuse)) l n) h

@[simp] theorem fuse_wr (s : State) (f : Fld) (v m : Nat) : (s.wr f v).fuse m = s.fuse m := rfl

@[simp] theorem fuse_put (s : State) (f : Fld) (b : Bool) (m : Nat) : (s.put f b).fuse m = s.fuse m := rfl

@[simp] theorem fuse_count (s : State) (i k m : Nat) : (s.count i k).fuse m = s.fuse m :=
  fuse_of_fuses (by simp only [count_keeps]) m

@[simp] theorem fuse_notice (s : State) (c : Nat) (d : Bytes) (m : Nat) : (s.notice c d).fuse m = s.fuse m :=
  fuse_of_fuses (by simp only [notice_keeps]) m

@[simp] theorem fuse_fuseNotice (s : State) (i old new m : Nat) : (s.fuseNotice i old new).fuse m = s.fuse m :=
  fuse_notice ..

@[simp] theorem fuse_fuseNoticeIf (s : State) (c : Bool) (i old new m : Nat) :
    (if c = true then s.fuseNotice i old new else s).fuse m = s.fuse m := by
  split
  · exact fuse_fuseNotice ..
  · rfl

@[simp] theorem fuse_fusePg (s : State) (i : Nat) (b : Bool) (m : Nat) : (s.fusePg i b).fuse m = s.fuse m := by
  unfold fusePg
  split <;> rfl

/-! The word of EFU_CHn_RETRY -/

/-- The word that holds the retry counts of channel n. -/
def retryWord (s : State) (n : Nat) : Word := s.reg (Reg.EFU_CH_RETRY_A n)

/-- A write to another register leaves the counts alone. -/
theorem retryWord_wr {f : Fld} (v : Nat) (h : Reg.EFU_CH_RETRY_A n ≠ f.addr) :
    (s.wr f v).retryWord n = s.retryWord n := reg_wr_ne v h

/-- EFU_CHn_STAT is another register. -/
theorem retryWord_wr_stat {f : Fld} (v : Nat) (h : f.addr = Reg.EFU_CH_STAT_A n) :
    (s.wr f v).retryWord n = s.retryWord n :=
  retryWord_wr v (by rw [h, Reg.EFU_CH_RETRY_A, Reg.EFU_CH_STAT_A]; omega)

theorem retryWord_put_stat {f : Fld} (b : Bool) (h : f.addr = Reg.EFU_CH_STAT_A n) :
    (s.put f b).retryWord n = s.retryWord n := retryWord_wr_stat _ h

@[simp] theorem retryWord_withFuse (s : State) (m : Nat) (f : Fuse → Fuse) (n : Nat) :
    (s.withFuse m f).retryWord n = s.retryWord n := rfl

@[simp] theorem retryWord_count (s : State) (i k n : Nat) : (s.count i k).retryWord n = s.retryWord n := count_reg ..

@[simp] theorem retryWord_notice (s : State) (c : Nat) (d : Bytes) (n : Nat) :
    (s.notice c d).retryWord n = s.retryWord n := notice_reg ..

@[simp] theorem retryWord_fuseNotice (s : State) (i old new n : Nat) :
    (s.fuseNotice i old new).retryWord n = s.retryWord n := notice_reg ..

@[simp] theorem retryWord_fuseNoticeIf (s : State) (c : Bool) (i old new n : Nat) :
    (if c = true then s.fuseNotice i old new else s).retryWord n = s.retryWord n := by
  split
  · exact retryWord_fuseNotice ..
  · rfl

@[simp] theorem retryWord_fuseGate (s : State) (i level n : Nat) :
    (s.fuseGate i level).retryWord n = s.retryWord n := by
  unfold fuseGate
  split <;> rfl

@[simp] theorem retryWord_fusePg (s : State) (n : Nat) (b : Bool) : (s.fusePg n b).retryWord n = s.retryWord n := by
  have hport : Reg.EFU_CH_RETRY_A n ≠ (Reg.TCPD_PORT_STAT_PG (n - 4)).addr := by
    simp only [Reg.EFU_CH_RETRY_A, Reg.TCPD_PORT_STAT_PG]
    omega
  unfold fusePg
  split
  · exact (retryWord_wr _ hport).trans (retryWord_put_stat b rfl)
  · exact retryWord_put_stat b rfl

@[simp] theorem retryWord_sensed (s : State) (n : Nat) (x : FuseSample) :
    (s.sensed n x).retryWord n = s.retryWord n := by
  have hin : Reg.EFU_CH_RETRY_A n ≠ Reg.EFU_INTAKE_VIN.addr := by
    simp only [Reg.EFU_CH_RETRY_A, Reg.EFU_INTAKE_VIN]
    omega
  have hvin : Reg.EFU_CH_RETRY_A n ≠ (Reg.EFU_CH_VOLT_VIN n).addr := by
    simp only [Reg.EFU_CH_RETRY_A, Reg.EFU_CH_VOLT_VIN]
    omega
  have hi : Reg.EFU_CH_RETRY_A n ≠ (Reg.EFU_CH_IOUT_I n).addr := by
    simp only [Reg.EFU_CH_RETRY_A, Reg.EFU_CH_IOUT_I]
    omega
  unfold sensed
  dsimp only
  rw [retryWord_wr (f := Reg.EFU_CH_IOUT_PEAK n) _ hi, retryWord_wr _ hi,
    retryWord_wr (f := Reg.EFU_CH_VOLT_VOUT n) _ hvin, retryWord_wr _ hvin]
  split
  · exact retryWord_wr _ hin
  · rfl

/-! The counts after each operation -/

/-- A count is read from the word. -/
theorem rd_used (s : State) (n : Nat) :
    s.rd (Reg.EFU_CH_RETRY_USED n) = (Reg.EFU_CH_RETRY_USED n).get (s.retryWord n) := rfl

theorem rd_limit (s : State) (n : Nat) :
    s.rd (Reg.EFU_CH_RETRY_LIMIT n) = (Reg.EFU_CH_RETRY_LIMIT n).get (s.retryWord n) := rfl

theorem rd_left (s : State) (n : Nat) :
    s.rd (Reg.EFU_CH_RETRY_LEFT n) = (Reg.EFU_CH_RETRY_LEFT n).get (s.retryWord n) := rfl

theorem retryWord_wr_used (s : State) (n v : Nat) : (s.wr (Reg.EFU_CH_RETRY_USED n) v).retryWord n =
    (Reg.EFU_CH_RETRY_USED n).put (s.retryWord n) v := reg_setReg_self ..

theorem retryWord_wr_limit (s : State) (n v : Nat) : (s.wr (Reg.EFU_CH_RETRY_LIMIT n) v).retryWord n =
    (Reg.EFU_CH_RETRY_LIMIT n).put (s.retryWord n) v := reg_setReg_self ..

theorem retryWord_wr_left (s : State) (n v : Nat) : (s.wr (Reg.EFU_CH_RETRY_LEFT n) v).retryWord n =
    (Reg.EFU_CH_RETRY_LEFT n).put (s.retryWord n) v := reg_setReg_self ..

theorem retryWord_wr_holdLeft (s : State) (n v : Nat) : (s.wr (Reg.EFU_CH_RETRY_HOLD_LEFT_MS n) v).retryWord n =
    (Reg.EFU_CH_RETRY_HOLD_LEFT_MS n).put (s.retryWord n) v := reg_setReg_self ..

/-- USED rises by one unless it stands at LIMIT, seen from a state with the same counts. -/
theorem retryWord_usedRaised (h : t.retryWord n = s.retryWord n) :
    (if t.rd (Reg.EFU_CH_RETRY_USED n) < t.rd (Reg.EFU_CH_RETRY_LIMIT n) then
      t.wr (Reg.EFU_CH_RETRY_USED n) (t.rd (Reg.EFU_CH_RETRY_USED n) + 1) else t).retryWord n =
      if s.rd (Reg.EFU_CH_RETRY_USED n) < s.rd (Reg.EFU_CH_RETRY_LIMIT n) then
        (Reg.EFU_CH_RETRY_USED n).put (s.retryWord n) (s.rd (Reg.EFU_CH_RETRY_USED n) + 1)
      else s.retryWord n := by
  have hused : t.rd (Reg.EFU_CH_RETRY_USED n) = s.rd (Reg.EFU_CH_RETRY_USED n) := rd_of_reg h
  have hlimit : t.rd (Reg.EFU_CH_RETRY_LIMIT n) = s.rd (Reg.EFU_CH_RETRY_LIMIT n) := rd_of_reg h
  rw [hused, hlimit]
  split
  · rw [retryWord_wr_used, h]
  · exact h

/-- A trip raises USED unless it stands at LIMIT (R512). -/
theorem retryWord_fuseTrip (s : State) (n cause : Nat) (point : Option Nat) (x : FuseSample) :
    (s.fuseTrip n cause point x).retryWord n =
      if s.rd (Reg.EFU_CH_RETRY_USED n) < s.rd (Reg.EFU_CH_RETRY_LIMIT n) then
        (Reg.EFU_CH_RETRY_USED n).put (s.retryWord n) (s.rd (Reg.EFU_CH_RETRY_USED n) + 1)
      else s.retryWord n := by
  have hpoint : ∀ (y : State) (k : Nat), (y.wr (Reg.EFU_CH_STAT_POINT n) k).retryWord n = y.retryWord n :=
    fun y k => retryWord_wr_stat k rfl
  have hcause : ∀ y : State, (y.wr (Reg.EFU_CH_STAT_CAUSE n) cause).retryWord n = y.retryWord n :=
    fun y => retryWord_wr_stat cause rfl
  unfold fuseTrip
  dsimp only
  rw [retryWord_count, retryWord_fuseNoticeIf, retryWord_withFuse, retryWord_fusePg]
  have hraise := retryWord_usedRaised (s := s) (t := (s.sensed n x).fuseGate n 0) (n := n)
    (by rw [retryWord_fuseGate, retryWord_sensed])
  cases point with
  | none => exact (hcause _).trans hraise
  | some k => exact (hpoint _ k).trans ((hcause _).trans hraise)

/-- A trip leaves the decision pending. -/
theorem deciding_fuseTrip (s : State) (n cause : Nat) (point : Option Nat) (x : FuseSample) :
    ((s.fuseTrip n cause point x).fuse n).deciding = true := by
  unfold fuseTrip
  dsimp only
  rw [fuse_count, fuse_fuseNoticeIf, fuse_withFuse]

/-- The counts, the state and the waiting profile of channel n are the same in both states. -/
def channelKept (s t : State) (n : Nat) : Prop :=
  t.retryWord n = s.retryWord n ∧ t.fuseState n = s.fuseState n ∧ (t.fuse n).shadow = (s.fuse n).shadow

theorem channelKept_refl (s : State) (n : Nat) : s.channelKept s n := ⟨rfl, rfl, rfl⟩

theorem channelKept_trans {u : State} (h : s.channelKept t n) (g : t.channelKept u n) : s.channelKept u n :=
  ⟨g.1.trans h.1, g.2.1.trans h.2.1, g.2.2.trans h.2.2⟩

theorem channelKept_ite {c : Prop} [Decidable c] (h : s.channelKept t n) :
    s.channelKept (if c then t else s) n := by
  split
  · exact h
  · exact channelKept_refl s n

theorem channelKept_fuseGate (s : State) (n level : Nat) : s.channelKept (s.fuseGate n level) n := by
  unfold fuseGate
  split
  · refine ⟨rfl, rfl, ?_⟩
    change ((s.withFuse n fun f => { f with sample := { f.sample with i := 0 } }).fuse n).shadow = _
    rw [fuse_withFuse]
  · exact channelKept_refl s n

theorem channelKept_fuseNotice (s : State) (n old new : Nat) : s.channelKept (s.fuseNotice n old new) n :=
  ⟨retryWord_fuseNotice .., notice_rd .., congrArg Fuse.shadow (fuse_fuseNotice ..)⟩

theorem fuseState_fusePg (s : State) (n : Nat) (b : Bool) : (s.fusePg n b).fuseState n = s.fuseState n := by
  have hchannel : (s.put (Reg.EFU_CH_STAT_PG n) b).fuseState n = s.fuseState n :=
    rd_wr_other _ _ _ _ (.inr (.inr (by simp only [Reg.EFU_CH_STAT_PG, Reg.EFU_CH_STAT_STATE]; omega)))
  have hport : (Reg.EFU_CH_STAT_STATE n).addr ≠ (Reg.TCPD_PORT_STAT_PG (n - 4)).addr := by
    simp only [Reg.EFU_CH_STAT_STATE, Reg.TCPD_PORT_STAT_PG]
    omega
  unfold fusePg
  split
  · exact (rd_wr_other _ _ _ _ (.inl hport)).trans hchannel
  · exact hchannel

/-- PG falls as ON is left, and no move of VSEL is under way any more. -/
theorem channelKept_leaveOn (s : State) (n : Nat) :
    s.channelKept ((s.fusePg n false).withFuse n fun x => { x with moving := false }) n :=
  ⟨retryWord_fusePg .., fuseState_fusePg .., by rw [fuse_withFuse, fuse_fusePg]⟩

theorem fuseState_wr_state (s : State) (n v : Nat) : (s.wr (Reg.EFU_CH_STAT_STATE n) v).fuseState n = v % 16 :=
  rd_wr_self _ _ _ (by simp only [Reg.EFU_CH_STAT_STATE]; omega)

/-- The channel enters a new state, before it looks at a waiting profile: the first part of State.fuseGo. -/
def fuseEnters (s : State) (n new : Nat) : State :=
  let old := s.fuseState n
  let gated : Bool := (old == 5 || old == 6) && !(new == 5 || new == 6) && !(s.fuse n).deciding
  let s := s.wr (Reg.EFU_CH_STAT_STATE n) new
  let s := if gated then s.fuseGate n 0 else s
  let s := if old == 6 then (s.fusePg n false).withFuse n fun x => { x with moving := false } else s
  if old == 6 || new == 6 then s.fuseNotice n old new else s

theorem channelKept_fuseEnters (s : State) (n new : Nat) :
    (s.wr (Reg.EFU_CH_STAT_STATE n) new).channelKept (s.fuseEnters n new) n := by
  unfold fuseEnters
  exact channelKept_trans (channelKept_trans (channelKept_ite (channelKept_fuseGate _ n 0))
    (channelKept_ite (channelKept_leaveOn _ n))) (channelKept_ite (channelKept_fuseNotice _ n _ new))

theorem fuseGo_same {new : Nat} (ho : s.fuseState n = new) : s.fuseGo n new = s := if_pos (beq_iff_eq.2 ho)

/-- Without a waiting profile that is all. -/
theorem fuseGo_noShadow {new : Nat} (h : (s.fuse n).shadow = none) (ho : s.fuseState n ≠ new) :
    s.fuseGo n new = s.fuseEnters n new := by
  have hsh : ((s.fuseEnters n new).fuse n).shadow = none := (channelKept_fuseEnters s n new).2.2.trans h
  rw [fuseGo, if_neg (by rwa [beq_iff_eq])]
  change (match ((s.fuseEnters n new).fuse n).shadow with
    | some p => if fuseSafe new then (s.fuseEnters n new).takeProfile n p else s.fuseEnters n new
    | none => s.fuseEnters n new) = _
  rw [hsh]

theorem retryWord_fuseGo {new : Nat} (h : (s.fuse n).shadow = none) : (s.fuseGo n new).retryWord n = s.retryWord n := by
  by_cases ho : s.fuseState n = new
  · rw [fuseGo_same ho]
  · rw [fuseGo_noShadow h ho, (channelKept_fuseEnters s n new).1]
    exact retryWord_wr_stat new rfl

theorem fuseState_fuseGo {new : Nat} (h : (s.fuse n).shadow = none) (hnew : new < 16) :
    (s.fuseGo n new).fuseState n = new := by
  by_cases ho : s.fuseState n = new
  · rw [fuseGo_same ho, ho]
  · rw [fuseGo_noShadow h ho, (channelKept_fuseEnters s n new).2.1, fuseState_wr_state, Nat.mod_eq_of_lt hnew]

/-- The decision takes one from LEFT, where there is one (R512). -/
theorem retryWord_fuseDecide (h : (s.fuse n).shadow = none) : (s.fuseDecide n).retryWord n =
    if s.rd (Reg.EFU_CH_RETRY_LEFT n) = 0 then s.retryWord n
    else (Reg.EFU_CH_RETRY_HOLD_LEFT_MS n).put ((Reg.EFU_CH_RETRY_LEFT n).put (s.retryWord n)
      (s.rd (Reg.EFU_CH_RETRY_LEFT n) - 1)) (profHold ((s.fuseProfile n).getD [])) := by
  unfold fuseDecide
  dsimp only
  rw [retryWord_notice, retryWord_withFuse]
  by_cases hl : s.rd (Reg.EFU_CH_RETRY_LEFT n) = 0
  · rw [if_pos (beq_iff_eq.2 hl), if_pos hl, retryWord_count, retryWord_fuseGo h]
  · rw [if_neg (by rwa [beq_iff_eq]), if_neg hl, retryWord_count, retryWord_fuseGo, retryWord_wr_holdLeft,
      retryWord_wr_left]
    exact h

/-- Without a retry left it is LATCHED, and HOLD otherwise. -/
theorem fuseState_fuseDecide (h : (s.fuse n).shadow = none) :
    (s.fuseDecide n).fuseState n = if s.rd (Reg.EFU_CH_RETRY_LEFT n) = 0 then 8 else 7 := by
  unfold fuseDecide fuseState
  dsimp only
  rw [notice_rd, withFuse_rd]
  by_cases hl : s.rd (Reg.EFU_CH_RETRY_LEFT n) = 0
  · rw [if_pos (beq_iff_eq.2 hl), if_pos hl, count_rd]
    exact fuseState_fuseGo h (by decide)
  · rw [if_neg (by rwa [beq_iff_eq]), if_neg hl, count_rd]
    exact fuseState_fuseGo h (by decide)

theorem deciding_fuseDecide (s : State) (n : Nat) : ((s.fuseDecide n).fuse n).deciding = false := by
  unfold fuseDecide
  dsimp only
  rw [fuse_notice, fuse_withFuse]

/-- A profile that is taken gives LIMIT its value, and LEFT what USED leaves of it (R513, R518). -/
theorem retryWord_takeProfile (s : State) (p : Bytes) (hn : n < 8) : (s.takeProfile n p).retryWord n =
    (Reg.EFU_CH_RETRY_LEFT n).put ((Reg.EFU_CH_RETRY_USED n).put ((Reg.EFU_CH_RETRY_LIMIT n).put (s.retryWord n)
      (profLimit p)) (min (s.rd (Reg.EFU_CH_RETRY_USED n)) (profLimit p)))
      (profLimit p - min (s.rd (Reg.EFU_CH_RETRY_USED n)) (profLimit p)) := by
  have hwords (l : List Nat) (y : State) : (l.foldl (fun (s : State) w =>
      s.wr (Reg.EFU_CH_PROF_WORD n w) (leAt p (4 * w) 4)) y).retryWord n = y.retryWord n := by
    induction l generalizing y with
    | nil => rfl
    | cons w l ih =>
      rw [List.foldl_cons, ih, retryWord_wr]
      simp only [Reg.EFU_CH_RETRY_A, Reg.EFU_CH_PROF_WORD]
      omega
  have hstate (c : Prop) [Decidable c] (y : State) :
      (if c then y.wr (Reg.EFU_CH_STAT_STATE n) 0 else y).retryWord n = y.retryWord n := by
    split
    · exact retryWord_wr_stat 0 rfl
    · rfl
  unfold takeProfile
  dsimp only
  rw [retryWord_notice, retryWord_count, hstate, retryWord_wr_stat (f := Reg.EFU_CH_STAT_PROF_VER n) _ rfl,
    retryWord_put_stat (f := Reg.EFU_CH_STAT_PROF_PEND n) _ rfl, retryWord_wr_left, retryWord_wr_used,
    retryWord_wr_limit, hwords, retryWord_withFuse]

/-- The counts return to 0 and LIMIT (R515). -/
theorem retryWord_fuseCountsReset (s : State) (n : Nat) : (s.fuseCountsReset n).retryWord n =
    (Reg.EFU_CH_RETRY_LEFT n).put ((Reg.EFU_CH_RETRY_USED n).put (s.retryWord n) 0)
      (s.rd (Reg.EFU_CH_RETRY_LIMIT n)) := by
  rw [fuseCountsReset, retryWord_wr_left, retryWord_wr_used]

end State

/-! The fields of EFU_CHn_RETRY share no bit -/

variable {n : Nat} {w : Word} {v : Nat}

@[simp] theorem used_put_used : (Reg.EFU_CH_RETRY_USED n).get ((Reg.EFU_CH_RETRY_USED n).put w v) = v % 16 :=
  Fld.get_put_same _ _ _ (by simp only [Reg.EFU_CH_RETRY_USED]; omega)

@[simp] theorem left_put_left : (Reg.EFU_CH_RETRY_LEFT n).get ((Reg.EFU_CH_RETRY_LEFT n).put w v) = v % 16 :=
  Fld.get_put_same _ _ _ (by simp only [Reg.EFU_CH_RETRY_LEFT]; omega)

@[simp] theorem limit_put_limit : (Reg.EFU_CH_RETRY_LIMIT n).get ((Reg.EFU_CH_RETRY_LIMIT n).put w v) = v % 16 :=
  Fld.get_put_same _ _ _ (by simp only [Reg.EFU_CH_RETRY_LIMIT]; omega)

@[simp] theorem used_put_left :
    (Reg.EFU_CH_RETRY_USED n).get ((Reg.EFU_CH_RETRY_LEFT n).put w v) = (Reg.EFU_CH_RETRY_USED n).get w :=
  Fld.get_put_other _ _ _ _ (by simp only [Reg.EFU_CH_RETRY_USED, Reg.EFU_CH_RETRY_LEFT]; omega)

@[simp] theorem used_put_holdLeft :
    (Reg.EFU_CH_RETRY_USED n).get ((Reg.EFU_CH_RETRY_HOLD_LEFT_MS n).put w v) = (Reg.EFU_CH_RETRY_USED n).get w :=
  Fld.get_put_other _ _ _ _ (by simp only [Reg.EFU_CH_RETRY_USED, Reg.EFU_CH_RETRY_HOLD_LEFT_MS]; omega)

@[simp] theorem left_put_used :
    (Reg.EFU_CH_RETRY_LEFT n).get ((Reg.EFU_CH_RETRY_USED n).put w v) = (Reg.EFU_CH_RETRY_LEFT n).get w :=
  Fld.get_put_other _ _ _ _ (by simp only [Reg.EFU_CH_RETRY_USED, Reg.EFU_CH_RETRY_LEFT]; omega)

@[simp] theorem left_put_holdLeft :
    (Reg.EFU_CH_RETRY_LEFT n).get ((Reg.EFU_CH_RETRY_HOLD_LEFT_MS n).put w v) = (Reg.EFU_CH_RETRY_LEFT n).get w :=
  Fld.get_put_other _ _ _ _ (by simp only [Reg.EFU_CH_RETRY_LEFT, Reg.EFU_CH_RETRY_HOLD_LEFT_MS]; omega)

@[simp] theorem limit_put_used :
    (Reg.EFU_CH_RETRY_LIMIT n).get ((Reg.EFU_CH_RETRY_USED n).put w v) = (Reg.EFU_CH_RETRY_LIMIT n).get w :=
  Fld.get_put_other _ _ _ _ (by simp only [Reg.EFU_CH_RETRY_LIMIT, Reg.EFU_CH_RETRY_USED]; omega)

@[simp] theorem limit_put_left :
    (Reg.EFU_CH_RETRY_LIMIT n).get ((Reg.EFU_CH_RETRY_LEFT n).put w v) = (Reg.EFU_CH_RETRY_LIMIT n).get w :=
  Fld.get_put_other _ _ _ _ (by simp only [Reg.EFU_CH_RETRY_LIMIT, Reg.EFU_CH_RETRY_LEFT]; omega)

@[simp] theorem limit_put_holdLeft :
    (Reg.EFU_CH_RETRY_LIMIT n).get ((Reg.EFU_CH_RETRY_HOLD_LEFT_MS n).put w v) = (Reg.EFU_CH_RETRY_LIMIT n).get w :=
  Fld.get_put_other _ _ _ _ (by simp only [Reg.EFU_CH_RETRY_LIMIT, Reg.EFU_CH_RETRY_HOLD_LEFT_MS]; omega)

end Sys2Proof.Machine
open Sys2Proof Sys2Proof.Machine State

/-- Settles O58: each operation's new EFU_CHn_RETRY word, read field by field. -/
theorem retryBooks : Obligations.RetryBooks := by
  unfold Obligations.RetryBooks
  refine ⟨?trip, ?decide, ?profile, ?clear⟩
  case trip =>
    intro s t n cause point x _ ht
    subst ht
    have hlimit : s.rd (Reg.EFU_CH_RETRY_LIMIT n) < 16 := rd_lt s _
    have hdec := deciding_fuseTrip s n cause point x
    have hw := retryWord_fuseTrip s n cause point x
    have hL : (s.fuseTrip n cause point x).rd (Reg.EFU_CH_RETRY_LIMIT n) = s.rd (Reg.EFU_CH_RETRY_LIMIT n) := by
      rw [rd_limit, hw]
      split
      · exact limit_put_used
      · rfl
    have hE : (s.fuseTrip n cause point x).rd (Reg.EFU_CH_RETRY_LEFT n) = s.rd (Reg.EFU_CH_RETRY_LEFT n) := by
      rw [rd_left, hw]
      split
      · exact left_put_used
      · rfl
    have hU : (s.fuseTrip n cause point x).rd (Reg.EFU_CH_RETRY_USED n) =
        if s.rd (Reg.EFU_CH_RETRY_USED n) < s.rd (Reg.EFU_CH_RETRY_LIMIT n) then s.rd (Reg.EFU_CH_RETRY_USED n) + 1
        else s.rd (Reg.EFU_CH_RETRY_USED n) := by
      rw [rd_used _ n, hw]
      split
      · rw [used_put_used]
        omega
      · rfl
    refine ⟨hdec, hL, hE, hU, fun hd hb => ?_⟩
    simp only [State.retryBooks, hd, hdec, hL, hE, hU, Bool.false_eq_true, false_and, or_false, true_and] at hb ⊢
    split <;> omega
  case decide =>
    intro s t n _ hsh ht
    subst ht
    have hleft : s.rd (Reg.EFU_CH_RETRY_LEFT n) < 16 := rd_lt s _
    refine ⟨deciding_fuseDecide s n, ?limit, ?used, ?left, fuseState_fuseDecide hsh⟩
    case limit =>
      rw [rd_limit, retryWord_fuseDecide hsh]
      split
      · rfl
      · rw [limit_put_holdLeft, limit_put_left, rd_limit]
    case used =>
      rw [rd_used, retryWord_fuseDecide hsh]
      split
      · rfl
      · rw [used_put_holdLeft, used_put_left, rd_used]
    case left =>
      rw [rd_left _ n, retryWord_fuseDecide hsh]
      split
      · rw [← rd_left]
        omega
      · rw [left_put_holdLeft, left_put_left]
        omega
  case profile =>
    intro s t n p hn hp ht
    subst ht
    simp only [rd_limit, rd_used, rd_left, retryWord_takeProfile s p hn, limit_put_left, limit_put_used,
      limit_put_limit, used_put_left, used_put_used, left_put_left]
    omega
  case clear =>
    intro s n hn hg hu
    have hlimit : s.rd (Reg.EFU_CH_RETRY_LIMIT n) < 16 := rd_lt s _
    refine ⟨_, execRetryClearExpiry_good hn hg hu, ?_⟩
    simp only [rd_limit _ n.val, rd_used _ n.val, rd_left _ n.val, retryWord_notice, retryWord_fuseCountsReset,
      limit_put_left, limit_put_used, used_put_left, used_put_used, left_put_left] at hlimit ⊢
    exact ⟨trivial, Nat.mod_eq_of_lt hlimit, trivial⟩

end

section
/-!
PROOFS. The event counters (R605, R611).
-/

namespace Sys2Proof.Machine

namespace State

variable {s : State} {i n : Nat}

theorem count_hub_off (h : s.hubOn = false) : s.count i n = s := if_pos (by rw [h]; rfl)

theorem counters_count (h : s.hubOn = true) :
    (s.count i n).counters = Table.set (fun _ => 0) s.counters i ((s.counter i + n) % 2 ^ 48) := by
  unfold count
  rw [h]
  simp only [Bool.not_true, Bool.false_eq_true, if_false]
  split
  · rfl
  · simp only [limited_keeps]

/-- A counter that passes 2^48 − 1 sets its OVF bit, and no other sum does (R611). -/
theorem overflow_count (h : s.hubOn = true) : (s.count i n).overflow =
    if s.counter i + n < 2 ^ 48 ∨ i ∈ s.overflow then s.overflow else i :: s.overflow := by
  unfold count
  rw [h]
  simp only [Bool.not_true, Bool.false_eq_true, if_false]
  split
  · rename_i hv
    rw [if_pos (.inl hv)]
  · rename_i hv
    simp only [limited_keeps, List.contains_iff_mem, hv, false_or]

end State

end Sys2Proof.Machine

open Sys2Proof Sys2Proof.Machine State

/-- Settles O57: the counter's own entry is the only one written, and its OVF bit the only one set. -/
theorem eventCounterWrap : Obligations.EventCounterWrap := by
  unfold Obligations.EventCounterWrap
  refine ⟨fun s i n h => ⟨?sum, ?others, ?overflow, ?regs, ?act⟩, fun s i n h => count_hub_off h⟩
  case sum => rw [counter, counters_count h, Table.get_set_self]
  case others =>
    intro j hj
    rw [counter, counters_count h, Table.get_set_ne _ _ _ hj]
    rfl
  case overflow =>
    intro j
    rw [overflow_count h]
    split
    · rename_i hv
      refine ⟨.inl, ?_⟩
      rintro (hj | ⟨rfl, hge⟩)
      · exact hj
      · exact hv.resolve_left (Nat.not_lt.2 hge)
    · rename_i hv
      have hge : 2 ^ 48 ≤ s.counter i + n := Nat.not_lt.1 (not_or.1 hv).1
      simp only [List.mem_cons, hge, and_true, or_comm]
  case regs => simp only [count_keeps]
  case act => simp only [count_keeps]

end

section
/-!
PROOFS. The reading of Meridian (R440 to R443): which of its changes leave the present instant's reading alone, and what
follows a step.
-/

namespace Sys2Proof.Machine

theorem ns16_zero (m : Meridian) : m.ns16 0 = 0 := by simp [Meridian.ns16]

/-- Nothing has been slewed of a correction that was set just now. -/
theorem slewDone_now {m : Meridian} {r : Nat} (ppb : Nat) (h : m.pendRaw = r) : m.slewDone ppb r = 0 := by
  have hk : max (0 : Int) 0 * ((orOne ppb : Nat) : Int) / 1000000000 = 0 := by simp
  rw [Meridian.slewDone, h, sub_self, ns16_zero]
  simp only [hk]
  split <;> omega

namespace State

variable {s t : State}

/-- The reading where nothing has been slewed since PEND was set. -/
theorem reading_folded (h : s.mer.pendRaw = s.mer.raw) :
    s.reading = s.mer.anchorTime + s.mer.ns16 (s.mer.raw - s.mer.anchorRaw) + s.mer.slewed := by
  rw [reading, readingAt, slewDone_now _ h, add_zero]

theorem reading_foldSlew (s : State) : s.foldSlew.reading = s.reading := by
  rw [reading_folded (s := s.foldSlew) rfl]
  exact (add_assoc (s.mer.anchorTime + _) s.mer.slewed _).symm

/-- A new correction begins at the present reading. -/
theorem reading_setPend (s : State) (e : Int) : (s.setPend e).reading = s.reading := by
  rw [reading_folded (s := s.setPend e) rfl, ← reading_foldSlew s, reading_folded (s := s.foldSlew) rfl]
  rfl

theorem pendLeft_setPend (s : State) (e : Int) : (s.setPend e).pendLeft = e := by
  have hs : (s.setPend e).mer.slewDone ((s.setPend e).rd Reg.MER_SERVO_SLEW_PPB) (s.setPend e).mer.raw = 0 :=
    slewDone_now _ rfl
  rw [pendLeft, hs, sub_zero]
  rfl

/-- A rate change leaves the registers that time and the reading's own fields but for the anchors and the rate. -/
theorem mer_changeRate (s : State) (rate : Int) : (s.changeRate rate).mer = { s.foldSlew.mer with
    anchorTime := s.foldSlew.reading, anchorRaw := s.mer.raw, slewed := 0, rateAdj := rate } := by
  unfold changeRate
  simp only [count_keeps]
  rfl

theorem reading_changeRate (s : State) (rate : Int) : (s.changeRate rate).reading = s.reading := by
  have hm := mer_changeRate s rate
  have hpend : (s.changeRate rate).mer.pendRaw = (s.changeRate rate).mer.raw := by
    rw [hm]
    rfl
  rw [reading_folded hpend, hm]
  change s.foldSlew.reading + Meridian.ns16 _ ((s.mer.raw : Int) - s.mer.raw) + 0 = _
  rw [sub_self, ns16_zero, reading_foldSlew, add_zero, add_zero]

/-! A step, and what follows it -/

/-- Meridian's own state and the register of GEN are the same in both states. -/
def clockKept (s t : State) : Prop := t.mer = s.mer ∧ t.rd Reg.MER_GEN_GEN = s.rd Reg.MER_GEN_GEN

theorem clockKept_refl (s : State) : s.clockKept s := ⟨rfl, rfl⟩

theorem clockKept_trans {u : State} (h : s.clockKept t) (g : t.clockKept u) : s.clockKept u :=
  ⟨g.1.trans h.1, g.2.trans h.2⟩

theorem clockKept_ite {c : Prop} [Decidable c] {u : State} (h : s.clockKept t) (g : s.clockKept u) :
    s.clockKept (if c then t else u) := by
  split
  · exact h
  · exact g

theorem clockKept_foldl {α : Type} {f : State → α → State} (hf : ∀ y a, clockKept y (f y a)) (l : List α)
    (s : State) : s.clockKept (l.foldl f s) := by
  induction l generalizing s with
  | nil => exact clockKept_refl s
  | cons a l ih => exact clockKept_trans (hf s a) (ih _)

theorem clockKept_wr {f : Fld} (h : s.clockKept t) (v : Nat) (ha : Reg.MER_GEN_GEN.addr ≠ f.addr) :
    s.clockKept (t.wr f v) :=
  ⟨h.1, (rd_wr_other _ _ _ _ (.inl ha)).trans h.2⟩

/-- The registers of the time pins lie behind those of Meridian. -/
theorem clockKept_wr_pin {f : Fld} (h : s.clockKept t) (v : Nat) (ha : 0x910000 ≤ f.addr) : s.clockKept (t.wr f v) :=
  clockKept_wr h v (Nat.ne_of_lt (Nat.lt_of_lt_of_le (by decide) ha))

theorem clockKept_count (h : s.clockKept t) (i n : Nat) : s.clockKept (t.count i n) := by
  refine ⟨?_, (count_rd ..).trans h.2⟩
  simpa only [count_keeps] using h.1

theorem clockKept_limited (h : s.clockKept t) (k c : Nat) (d : Nat → Bytes) (n : Nat) :
    s.clockKept (t.limited k c d n) := by
  refine ⟨?_, (limited_rd ..).trans h.2⟩
  simpa only [limited_keeps] using h.1

theorem clockKept_setTioPin (h : s.clockKept t) (n : Nat) (p : TioPin) : s.clockKept (t.setTioPin n p) := ⟨h.1, h.2⟩

theorem clockKept_withPoint (h : s.clockKept t) (f : Point → Point) : s.clockKept (t.withPoint f) := ⟨h.1, h.2⟩

theorem clockKept_tioShow (h : s.clockKept t) (n : Nat) : s.clockKept (t.tioShow n) := by
  unfold tioShow put
  have hpin (a : Nat) (ha : 0x910000 ≤ a) : 0x910000 ≤ a + 0x40 * n := Nat.le_add_right_of_le ha
  dsimp only
  iterate 6 refine clockKept_wr_pin ?_ _ (hpin _ (by decide))
  exact h

theorem clockKept_tioMiss (h : s.clockKept t) (n k : Nat) : s.clockKept (t.tioMiss n k) := by
  unfold tioMiss
  exact clockKept_ite h (clockKept_limited (clockKept_count (clockKept_wr_pin h _
    (Nat.le_add_right_of_le (by decide))) ..) ..)

theorem clockKept_tioSkipTo (h : s.clockKept t) (n k : Nat) : s.clockKept (t.tioSkipTo n k) := by
  unfold tioSkipTo
  dsimp only
  exact clockKept_ite h (clockKept_ite (clockKept_tioShow (clockKept_tioMiss (clockKept_setTioPin h ..) ..) n)
    (clockKept_tioShow (clockKept_tioMiss (clockKept_setTioPin h ..) ..) n))

theorem clockKept_tioStepped (s : State) : s.clockKept s.tioStepped :=
  clockKept_foldl (fun y n => clockKept_ite (clockKept_tioShow (clockKept_tioSkipTo (clockKept_refl y) n _) n)
    (clockKept_refl y)) _ s

theorem clockKept_gateEntry (s : State) (n : Nat) : s.clockKept (s.gateEntry n) := by
  have haddr : Reg.MER_GEN_GEN.addr ≠ (Reg.ETH_GCTL_ENTRY n).addr := by
    simp only [Reg.MER_GEN_GEN, Reg.ETH_GCTL_ENTRY]
    omega
  unfold gateEntry
  exact clockKept_ite (clockKept_refl s) (clockKept_wr (clockKept_refl s) _ haddr)

theorem clockKept_pointState (s : State) : s.clockKept s.pointState := clockKept_wr (clockKept_refl s) _ (by decide)

theorem clockKept_pointSkip (h : s.clockKept t) (k reason n : Nat) : s.clockKept (t.pointSkip k reason n) := by
  unfold pointSkip put
  exact clockKept_limited (clockKept_count (clockKept_wr (clockKept_withPoint h _) _ (by decide)) ..) ..

theorem clockKept_pointStepped (s : State) (fwd : Bool) : s.clockKept (s.pointStepped fwd) := by
  have h := clockKept_pointState s
  unfold pointStepped
  dsimp only
  exact clockKept_ite h (clockKept_ite h (clockKept_pointSkip (clockKept_withPoint h _) ..))

/-- What is timed from the reading follows a step and leaves Meridian alone. -/
theorem clockKept_followers (s : State) (fwd : Bool) :
    s.clockKept ((s.tioStepped.gatesStepped).pointStepped fwd) :=
  clockKept_trans (clockKept_trans (clockKept_tioStepped s) (clockKept_foldl clockKept_gateEntry _ _))
    (clockKept_pointStepped ..)

/-- A step's own change of Meridian's state (R443). -/
theorem mer_stepTime (s : State) (d : Int) (cause : Nat) : (s.stepTime d cause).mer = { s.foldSlew.mer with
    anchorTime := s.foldSlew.mer.anchorTime + d, pend := 0, stepRaw := s.mer.raw, stepBack := s.stepsNow.1 + d,
    stepCount := s.stepsNow.2 + 1 } := by
  unfold stepTime
  rw [(clockKept_followers _ _).1]
  simp only [notice_keeps, count_keeps]
  rfl

theorem reading_stepTime (s : State) (d : Int) (cause : Nat) : (s.stepTime d cause).reading = s.reading + d := by
  have hm := mer_stepTime s d cause
  have hpend : (s.stepTime d cause).mer.pendRaw = (s.stepTime d cause).mer.raw := by
    rw [hm]
    rfl
  rw [reading_folded hpend, hm, ← reading_foldSlew s, reading_folded (s := s.foldSlew) rfl]
  change s.foldSlew.mer.anchorTime + d + s.foldSlew.mer.ns16 (s.mer.raw - s.foldSlew.mer.anchorRaw) +
    s.foldSlew.mer.slewed = s.foldSlew.mer.anchorTime + s.foldSlew.mer.ns16 (s.mer.raw - s.foldSlew.mer.anchorRaw) +
    s.foldSlew.mer.slewed + d
  omega

/-- A step counts GEN up (R443). -/
theorem gen_stepTime (s : State) (d : Int) (cause : Nat) :
    (s.stepTime d cause).rd Reg.MER_GEN_GEN = (s.rd Reg.MER_GEN_GEN + 1) % 256 := by
  unfold stepTime
  rw [(clockKept_followers _ _).2]
  simp only [notice_rd, count_rd]
  exact rd_wr_self _ _ _ (by decide)

end State

/-! SEC, NSEC and FRAC (R441) -/

theorem timeOf_parts (t : Int) : timeOf (secOf t) (nsecOf t) (fracOf t) = t.toNat := by
  unfold timeOf secOf nsecOf fracOf
  omega

end Sys2Proof.Machine

open Sys2Proof Sys2Proof.Machine State

/-- Settles O56: each change moves the slew made so far into SLEWED, so that the reading is the anchors' alone. -/
theorem readingChanges : Obligations.ReadingChanges := by
  unfold Obligations.ReadingChanges
  refine ⟨?rate, ?step, ?parts, fun s e => ⟨reading_setPend s e, pendLeft_setPend s e⟩⟩
  case rate =>
    exact fun s rate => ⟨reading_foldSlew s, reading_changeRate s rate, by rw [mer_changeRate],
      by rw [mer_changeRate]; rfl, rfl⟩
  case step =>
    exact fun s d cause => ⟨reading_stepTime s d cause, by rw [mer_stepTime], by rw [mer_stepTime]; rfl,
      gen_stepTime s d cause⟩
  case parts =>
    intro t ht
    refine ⟨timeOf_parts t, Nat.mod_lt _ (by decide), Nat.mod_lt _ (by decide), ?_⟩
    unfold fracOf
    omega

end

section
/-!
PROOFS. Meridian's events, the time commands and the time pins (R440 to R467).
-/

namespace Sys2Proof.Machine

variable {s : State}

/-! HOPs and the parent -/

theorem State.hopArrives_good {t : Nat} {b : Bytes} (hl : b.length = 64) (hk : leAt b 0 1 = 1)
    (hr : s.hopRefers t b = true) :
    s.hopArrives t b = ((s.count (0x248 + 4 * t + 1)).hopReceived t b).prompt s := by
  simp only [State.hopArrives, hl, hk, hr, bne_self_eq_false, Bool.not_true, Bool.or_self, Bool.false_eq_true, if_false]

/-- A message of another KIND or length, or about a set no longer held, is discarded and counted (R450, R451). -/
theorem State.hopArrives_discarded {t : Nat} {b : Bytes}
    (h : b.length ≠ 64 ∨ leAt b 0 1 ≠ 1 ∨ s.hopRefers t b = false) :
    s.hopArrives t b = (s.count (0x248 + 4 * t + 1)).count (0x248 + 4 * t + 2) := by
  refine if_pos ?_
  simpa only [Bool.or_eq_true, bne_iff_ne, Bool.not_eq_true', or_assoc] using h

theorem execHopPeriodicSend_due {y : State} {t : Fin 2} (hn : s.hubOn = true) (hh : s.merHold t = false)
    (ha : s.rd (Reg.TLK_STAT_LSTATE t) = 2) (hx : s.xchg ≤ (s.merTrunk t).sets)
    (hy : y = ((s.setMerTrunk t { s.merTrunk t with srcChanged := false }).count (0x248 + 4 * t)).sendTime t
      (s.hopBytes t false)) :
    execHopPeriodicSend t s = .next (y.setMerTrunk t { y.merTrunk t with sets := 0 }) := by
  have hnow : ¬(decide ((s.merTrunk t).sets < s.xchg) || s.merHold t) = true := by
    rw [hh, Bool.or_false, decide_eq_true_eq]
    exact Nat.not_lt.2 hx
  have hsent : s.sendHop t false = y := (if_pos (beq_iff_eq.2 ha)).trans hy.symm
  rw [execHopPeriodicSend, onHub_on _ hn, if_neg hnow, hsent]

theorem execParentLossTimeout_lost {p : Nat} (hn : s.hubOn = true) (hp : s.parentTrunk = some p)
    (hl : s.rd (Reg.TLK_STAT_LSTATE p) ≠ 5) : execParentLossTimeout s = .next (s.dropParent.prompt s) := by
  rw [execParentLossTimeout, onHub_on _ hn, hp]
  exact congrArg _ (if_neg (by rwa [beq_iff_eq]))

theorem execParentCandidateHoldEnd_held {t d : Nat} (hn : s.hubOn = true) (hc : s.mer.candidate = some t)
    (hd : s.candidateDist t = some d) : execParentCandidateHoldEnd s = .next ((s.takeParent t d).prompt s) := by
  rw [execParentCandidateHoldEnd, onHub_on _ hn, hc]
  simp only [hd]

theorem State.applyRate_some {x : Int} {k : Nat} (h : s.mer.rateNext = some (x, k)) :
    s.applyRate = (s.changeRate x).setPending none := by
  rw [State.applyRate, h]

theorem execRateChangeApply_due {x : Int} {k : Nat} (hn : s.hubOn = true) (hr : s.mer.rateNext = some (x, k))
    (hk : (k * 65536 : Nat) ≤ s.reading) :
    execRateChangeApply s = .next (((s.changeRate x).setPending none).prompt s) := by
  rw [execRateChangeApply, onHub_on _ hn, hr, State.applyRate_some hr]
  exact congrArg _ (if_pos hk)

theorem execMgenWindowEnd_root {g : Nat} (hn : s.hubOn = true) (hr : s.isRoot = true) (hw : s.mer.mgenWindow = true)
    (hg : s.mer.mgenSeen = some g) : execMgenWindowEnd s =
      .next (((s.withMer fun m => { m with mgenWindow := false, mgenDone := true }).adoptMaster ((g + 1) % 256)
        s.mer.timeMaster).prompt s) := by
  rw [execMgenWindowEnd, onHub_on _ hn, hr, hw, hg]
  rfl

/-! The time commands (R459) -/

variable {u : State} {r : Request}

/-- TIME_SET_OFFSET MODE 0 at the MASTER steps the reading to the time given. -/
theorem execTimeSetOffset_master {v : Nat} {t : State} (h : s.passes 0x0701 r = true) (hu : u = s.begun 0x0701 r)
    (hl : 20 ≤ r.pkt.params.length) (hm : leAt r.pkt.params 0 1 = 0) (hs : u.rd Reg.MER_STAT_STATE = 4)
    (hns : leAt r.pkt.params 14 4 ≤ 999999999)
    (hv : v = timeOf (leAt r.pkt.params 8 6) (leAt r.pkt.params 14 4) (leAt r.pkt.params 18 2))
    (ht : t = (u.startRunning.stepTime ((v : Int) - u.reading) 0).prompt u) :
    execTimeSetOffset r s = .next (t.answered u 0x0701 r 0 [byte (t.rd Reg.MER_GEN_GEN)]) := by
  have hallow : u.timeAllowed = true := by
    rw [State.timeAllowed, hs]
    rfl
  have hrange : ¬(u.reading + ((v : Int) - u.reading) < 0) := by omega
  subst hu hv ht
  refine runCommand_takes h hl ?_
  simp only [hm, hallow, hs, Nat.not_lt.2 hns, hrange, beq_self_eq_true, Bool.not_true, if_true, if_false,
    Bool.false_eq_true, decide_false, Bool.and_false]
  rfl

theorem execTimeSetRate_ok {x : Int} {k : Nat} (h : s.passes 0x0702 r = true) (hu : u = s.begun 0x0702 r)
    (hl : 4 ≤ r.pkt.params.length) (ha : u.timeAllowed = true) (hx : x = toSigned 32 (leAt r.pkt.params 0 4))
    (hr : x.natAbs ≤ 549755813) (hp : u.mer.rateNext = none)
    (hk : k = ceilDiv u.reading.toNat 65536 + 1000000) :
    execTimeSetRate r s = .next (((u.setPending (some (x, k))).prompt u).answered u 0x0702 r 0
      (le 6 (k / 1000000000) ++ le 4 (k % 1000000000))) := by
  subst hu hx hk
  refine runCommand_takes h hl ?_
  simp only [ha, hp, Nat.not_lt.2 hr, Bool.not_true, Bool.false_eq_true, Option.isSome_none, if_false]
  rfl

/-- TIME_MASTER_SET that names no position. -/
theorem execTimeMasterSet_none (h : s.passes 0x0703 r = true) (hu : u = s.begun 0x0703 r)
    (hl : 4 ≤ r.pkt.params.length) (hr : u.isRoot = true) (hp : leAt r.pkt.params 0 1 = 63) :
    execTimeMasterSet r s = .next (((((u.withMer fun m => { m with timeMaster := 63 }).storeRecord (0x0007,
      [63])).adoptMaster ((u.rd Reg.MER_STAT_MGEN + 1) % 256) 63).prompt u).answered u 0x0703 r 0
      [byte ((u.rd Reg.MER_STAT_MGEN + 1) % 256)]) := by
  subst hu
  refine runCommand_takes h hl ?_
  simp only [hr, hp, bne_self_eq_false, Bool.and_false, Bool.false_and, Bool.not_true, Bool.false_eq_true, if_false]
  rfl

/-! The time pins (R460 to R464) -/

theorem execTioConfig_noPulse {n m : Nat} (h : s.passes 0x0704 r = true) (hu : u = s.begun 0x0704 r)
    (hl : 24 ≤ r.pkt.params.length) (hn : n = leAt r.pkt.params 0 1) (hm : m = leAt r.pkt.params 1 1) (h15 : n ≤ 15)
    (hmode : m ∈ [0, 1, 4]) :
    execTioConfig r s = .next
      (((((((((((u.tioDisarm n).wr (Reg.TIO_CFG_MODE n) m).wr (Reg.TIO_CFG_EDGE n) (leAt r.pkt.params 2 1)).wr
        (Reg.TIO_CFG_POL n) (leAt r.pkt.params 3 1)).wr (Reg.TIO_DLY_DLY n) (leAt r.pkt.params 4 2)).wr
        (Reg.TIO_PER_PER_NS n) (leAt r.pkt.params 8 4)).wr (Reg.TIO_PERF_PER_FR n) (leAt r.pkt.params 12 2)).wr
        (Reg.TIO_WID_WIDTH_NS n) (leAt r.pkt.params 16 4 % 2 ^ 30)).wr (Reg.TIO_WID_LEVEL n)
        (leAt r.pkt.params 20 1))).answered u 0x0704 r 0 []) := by
  have hpulse : (m == 2) = false ∧ (m == 3) = false ∧ decide (m > 4) = false := by
    simp only [List.mem_cons, List.not_mem_nil, or_false] at hmode
    rcases hmode with rfl | rfl | rfl <;> decide
  obtain ⟨h2, h3, h4⟩ := hpulse
  have hpin : decide (n > 15) = false := decide_eq_false (Nat.not_lt.2 h15)
  subst hu hn hm
  refine runCommand_takes h hl ?_
  simp only [hpin, h2, h3, h4, Bool.or_self, Bool.false_and, Bool.false_eq_true, if_false]
  rfl

theorem execTioArm_disarm {n : Nat} (h : s.passes 0x0705 r = true) (hu : u = s.begun 0x0705 r)
    (hl : 20 ≤ r.pkt.params.length) (hn : n = leAt r.pkt.params 0 1) (h15 : n ≤ 15) (hop : leAt r.pkt.params 1 1 = 1) :
    execTioArm r s = .next ((u.tioDisarm n).answered u 0x0705 r 0 []) := by
  have hpin : decide (n > 15) = false := decide_eq_false (Nat.not_lt.2 h15)
  subst hu hn
  refine runCommand_takes h hl ((if_neg ?_).trans (if_pos (beq_iff_eq.2 hop)))
  rw [hpin, hop]
  decide

/-- A start at least 2 µs ahead is the first (R463). -/
theorem State.tioFirst_ahead {n x : Nat} (h : u.reading.toNat + 2000 * 65536 ≤ x) : u.tioFirst n x = some 0 := if_pos h

/-- TIO_ARM of a single pulse. -/
theorem execTioArm_single {n x : Nat} {t : State} (h : s.passes 0x0705 r = true) (hu : u = s.begun 0x0705 r)
    (hl : 20 ≤ r.pkt.params.length) (hn : n = leAt r.pkt.params 0 1) (h15 : n ≤ 15) (hop : leAt r.pkt.params 1 1 = 0)
    (hm : u.tioMode n = 2)
    (hx : x = timeOf (leAt r.pkt.params 8 6) (leAt r.pkt.params 14 4) (leAt r.pkt.params 18 2))
    (ha : u.reading.toNat + 2000 * 65536 ≤ x)
    (ht : t = (u.setTioPin n
      { armed := true, start := x, k := 0, left := some 1, endAt := (u.tioPin n).endAt }).tioShow n) :
    execTioArm r s = .next (t.answered u 0x0705 r 0 (timeBytes (t.tioNext n))) := by
  have hpin : decide (n > 15) = false := decide_eq_false (Nat.not_lt.2 h15)
  have hfirst : u.tioFirst n x = some 0 := State.tioFirst_ahead ha
  subst hu hn hx ht
  refine runCommand_takes h hl ?_
  simp only [hpin, hop, hm, hfirst]
  rfl

theorem execTioTriggerEdge_end {n : Fin 16} {e : Nat} (hn : s.hubOn = true) (hm : 2 ≤ s.tioMode n)
    (he : (s.tioPin n).endAt = some e) (ha : (s.tioPin n).armed = false)
    (hd : e ≤ (s.reading + s.tioDelay n).toNat) : execTioTriggerEdge n s =
      .next (((s.setTioPin n { s.tioPin n with endAt := none }).tioActive n false).count 0x254) := by
  rw [execTioTriggerEdge, onHub_on _ hn, if_neg (Nat.not_lt.2 hm), he]
  exact congrArg _ ((if_neg (by rw [ha]; exact Bool.false_ne_true)).trans (if_pos hd))

theorem execTioTriggerEdge_due {n : Fin 16} (hn : s.hubOn = true) (hm : 2 ≤ s.tioMode n)
    (he : (s.tioPin n).endAt = none) (ha : (s.tioPin n).armed = true) (hr : s.merRun = true)
    (hd : s.tioNext n ≤ (s.reading + s.tioDelay n).toNat) : execTioTriggerEdge n s = .next (s.tioPulse n) := by
  rw [execTioTriggerEdge, onHub_on _ hn, if_neg (Nat.not_lt.2 hm), he, ha, hr]
  exact congrArg _ (if_pos hd)

theorem execTioCaptureEdge_captured {a : State} {n : Fin 16} {f : Bool} {x : BitVec 19} (hn : s.hubOn = true)
    (ha : a = s.wr Reg.TIO_LEVEL_LEVEL (putBit (s.rd Reg.TIO_LEVEL_LEVEL) n (!f))) (hm : a.tioMode n = 1)
    (he : bit (orOne (a.rd (Reg.TIO_CFG_EDGE n))) (b2n f) = true) :
    execTioCaptureEdge n f x false s = .next
      ((((a.incr (Reg.TIO_STAT_COUNT n)).count 0x252).produce 1
        (((a.incr (Reg.TIO_STAT_COUNT n)).count 0x252).captureEntry n f
          (((a.incr (Reg.TIO_STAT_COUNT n)).count 0x252).readingAt
            (((a.incr (Reg.TIO_STAT_COUNT n)).count 0x252).mer.raw + x.toNat / 2048 * 2048) -
            ((a.incr (Reg.TIO_STAT_COUNT n)).count 0x252).tioDelay n))).wake 5) := by
  have hc : s.tioCapture n f x false = (((a.incr (Reg.TIO_STAT_COUNT n)).count 0x252).produce 1
      (((a.incr (Reg.TIO_STAT_COUNT n)).count 0x252).captureEntry n f
        (((a.incr (Reg.TIO_STAT_COUNT n)).count 0x252).readingAt
          (((a.incr (Reg.TIO_STAT_COUNT n)).count 0x252).mer.raw + x.toNat / 2048 * 2048) -
          ((a.incr (Reg.TIO_STAT_COUNT n)).count 0x252).tioDelay n)), true) := by
    rw [State.tioCapture, ← ha]
    exact if_neg (by rw [hm, he]; decide)
  rw [execTioCaptureEdge, onHub_on _ hn, hc]
  rfl

end Sys2Proof.Machine

open Sys2Proof Sys2Proof.Machine

/-- Settles O15, an event at a time. -/
theorem meridianEvents : Obligations.MeridianEvents := by
  unfold Obligations.MeridianEvents
  refine ⟨?hop, ?discarded, ?periodic, ?loss, ?candidate, ?holdoff, ?rate, ?mgen, ?snap⟩
  case hop =>
    exact fun s t b hn hl hk hr =>
      (onHub_on (fun s => s.hopArrives t b) hn).trans (congrArg _ (State.hopArrives_good hl hk hr))
  case discarded =>
    exact fun s t b hn h =>
      (onHub_on (fun s => s.hopArrives t b) hn).trans (congrArg _ (State.hopArrives_discarded h))
  case periodic => exact fun s y t hn hh ha hx hy => execHopPeriodicSend_due hn hh ha hx hy
  case loss => exact fun s p hn hp hl => execParentLossTimeout_lost hn hp hl
  case candidate => exact fun s t d hn hc hd => execParentCandidateHoldEnd_held hn hc hd
  case holdoff =>
    exact fun s hn => onHub_on (fun s => ((s.withMer fun m => { m with holdoff := false }).chooseParent).prompt s) hn
  case rate => exact fun s x k hn hr hk => execRateChangeApply_due hn hr hk
  case mgen => exact fun s g hn hr hw hg => execMgenWindowEnd_root hn hr hw hg
  case snap => exact fun s hn => onHub_on State.merSnap hn

/-- Settles O16, a command and an edge at a time. -/
theorem timeAndPinCommands : Obligations.TimeAndPinCommands := by
  unfold Obligations.TimeAndPinCommands
  refine ⟨?get, ?offset, ?rate, ?master, ?config, ?disarm, ?arm, ?write, ?capture, ?pulseEnd, ?duePulse⟩
  case get =>
    rintro s _ r h rfl
    exact runCommand_reply h rfl
  case offset => exact fun s u r v t h hu hl hm hs hns hv ht _ => execTimeSetOffset_master h hu hl hm hs hns hv ht
  case rate => exact fun s u r x k h hu hl ha hx hr hp hk => execTimeSetRate_ok h hu hl ha hx hr hp hk
  case master => exact fun s u r h hu hl hr hp => execTimeMasterSet_none h hu hl hr hp
  case config => exact fun s u r n m h hu hl hn hm h15 hmode => execTioConfig_noPulse h hu hl hn hm h15 hmode
  case disarm => exact fun s u r n h hu hl hn h15 hop => execTioArm_disarm h hu hl hn h15 hop
  case arm => exact fun s u r n x t h hu hl hn h15 hop hm hx ha ht => execTioArm_single h hu hl hn h15 hop hm hx ha ht
  case write => exact fun s n k v hn => onHub_on (fun s => s.tioWrite n k v) hn
  case capture => exact fun s a n f x hn ha hm he => execTioCaptureEdge_captured hn ha hm he
  case pulseEnd => exact fun s n e hn hm he ha hd => execTioTriggerEdge_end hn hm he ha hd
  case duePulse => exact fun s n hn hm he ha hr hd => execTioTriggerEdge_due hn hm he ha hr hd

end

section
/-!
PROOFS. The events of the Type-C source ports and of the service sink (R470 to R490).
-/

namespace Sys2Proof.Machine

variable {s : State}

/-! Attach, detach and discharge (R472, R473, R476) -/

section

variable {n : Fin 4}

theorem execTypecRdDetect_unattached {c a : Bool} (hn : s.nib.on = true) (hs : s.tcState n = 1) :
    execTypecRdDetect n c a s = .next (((s.put (Reg.TCPD_PORT_STAT_CC2 n) c).put (Reg.TCPD_PORT_STAT_RA n) a).tcGo
      n 2) := by
  rw [execTypecRdDetect, onNib_on _ hn, hs]
  rfl

theorem execTypecAttach_wait {y : State} (hn : s.nib.on = true) (hs : s.tcState n = 2)
    (hy : y = (s.count (0x258 + 8 * n.val)).tcTake n) : execTypecAttach n s =
      .next (y.notice 0x0820 [byte n, 1, byte (y.rd (Reg.TCPD_PORT_STAT_RP n)), byte (b2n
        (y.flag (Reg.TCPD_PORT_STAT_RA n)) + 2 * b2n (y.flag (Reg.TCPD_PORT_STAT_CC2 n)))]) := by
  subst hy
  rw [execTypecAttach, onNib_on _ hn, hs]
  rfl

theorem State.tcDetach_wait {m : Nat} (hs : s.tcState m = 2) : s.tcDetach m = s.tcRest m := if_pos (beq_iff_eq.2 hs)

theorem execVbusDischarged_discharge (hn : s.nib.on = true) (hs : s.tcState n = 9) :
    execVbusDischarged n s = .next (((s.tcSink n false).tcRest n).tcLeft n) := by
  rw [execVbusDischarged, onNib_on _ hn, if_pos (beq_iff_eq.2 hs)]

end

/-! Contracts (R478, R483) -/

section

variable {n p i k m : Nat} (hs : s.tcState n = 4 ∨ s.tcState n = 5)
include hs

/-- A port in IMPLICIT or READY judges a request. -/
theorem State.pdRequest_judged : ¬(s.tcState n != 4 && s.tcState n != 5) = true := by
  rcases hs with hs | hs <;> rw [hs] <;> decide

/-- A request for an object that the port did not offer is rejected. -/
theorem State.pdRequest_noObject (ho : p = 0 ∨ (s.tcPort n).offer[p - 1]? = none) :
    s.pdRequest n p i = s.pdReject n false := by
  have hobj : (if p == 0 then none else (s.tcPort n).offer[p - 1]?) = none := by
    rcases ho with rfl | ho
    · rfl
    · rw [ho, ite_self]
  rw [State.pdRequest, if_neg (State.pdRequest_judged hs)]
  simp only [hobj]

/-- A request within the object is judged by the contract and the free budget. -/
theorem State.pdRequest_offered (hp : 1 ≤ p) (ho : (s.tcPort n).offer[p - 1]? = some (k, m)) (hi : i ≤ m) :
    s.pdRequest n p i =
      if k == (s.tcPort n).volt && pdoVolts k * i * 10 ≤ s.rd (Reg.TCPD_PORT_CONTRACT_MW n) then
        s.pdAccept n p k i (pdoVolts k * i * 10) 0
      else if pdoVolts k * i * 10 ≤ s.freeMw then s.pdAccept n p k i (pdoVolts k * i * 10) (pdoVolts k * i * 10)
      else s.pdReject n true := by
  have hobj : (if p == 0 then none else (s.tcPort n).offer[p - 1]?) = some (k, m) := by
    rw [ho, if_neg (by rw [beq_iff_eq]; omega)]
  rw [State.pdRequest, if_neg (State.pdRequest_judged hs)]
  simp only [hobj, gt_iff_lt, Nat.not_lt.2 hi, if_false]

/-- A request that the contract's power covers takes nothing of the free budget. -/
theorem State.pdRequest_covered (hp : 1 ≤ p) (ho : (s.tcPort n).offer[p - 1]? = some (k, m)) (hi : i ≤ m)
    (hk : k = (s.tcPort n).volt) (hc : pdoVolts k * i * 10 ≤ s.rd (Reg.TCPD_PORT_CONTRACT_MW n)) :
    s.pdRequest n p i = s.pdAccept n p k i (pdoVolts k * i * 10) 0 := by
  rw [State.pdRequest_offered hs hp ho hi, if_pos (by rw [Bool.and_eq_true, beq_iff_eq, decide_eq_true_eq]; exact ⟨hk, hc⟩)]

/-- Another takes its power of the free budget where that suffices. -/
theorem State.pdRequest_budget (hp : 1 ≤ p) (ho : (s.tcPort n).offer[p - 1]? = some (k, m)) (hi : i ≤ m)
    (hk : k ≠ (s.tcPort n).volt ∨ s.rd (Reg.TCPD_PORT_CONTRACT_MW n) < pdoVolts k * i * 10)
    (hf : pdoVolts k * i * 10 ≤ s.freeMw) :
    s.pdRequest n p i = s.pdAccept n p k i (pdoVolts k * i * 10) (pdoVolts k * i * 10) := by
  have hnew : ¬(k == (s.tcPort n).volt && decide (pdoVolts k * i * 10 ≤ s.rd (Reg.TCPD_PORT_CONTRACT_MW n))) = true := by
    rw [Bool.and_eq_true, beq_iff_eq, decide_eq_true_eq]
    omega
  rw [State.pdRequest_offered hs hp ho hi, if_neg hnew, if_pos hf]

end

/-- VSEL moves up, and PS_RDY waits for power-good at the new voltage (R483). -/
theorem State.srcTransition_waits {n p k i m : Nat} {y : State} (hx : (s.tcPort n).next = some (p, k, i, m))
    (hs : s.tcState n = 6) (hw : (s.tcPort n).waitPg = false) (hv : s.rd (Reg.TCPD_PORT_STAT_VSEL n) ≤ k)
    (hy : y = (s.withTcPort n fun x => { x with waitPg := true }).tcVsel n k)
    (hg : y.flag (Reg.TCPD_PORT_STAT_PG n) = false) : s.srcTransition n = y := by
  have hin : ¬(s.tcState n != 6 || (s.tcPort n).waitPg) = true := by
    rw [hs, hw]
    decide
  rw [State.srcTransition, hx]
  subst hy
  simp only [hin, Nat.not_lt.2 hv, hg, Bool.false_eq_true, if_false]

theorem execPowerGoodTimeout_waiting {n : Fin 4} (hn : s.nib.on = true) (hs : s.tcState n = 6)
    (hw : (s.tcPort n).waitPg = true) :
    execPowerGoodTimeout n s = .next ((s.count (0x25D + 8 * n.val)).pdHardReset n 2) := by
  rw [execPowerGoodTimeout, onNib_on _ hn, hs, hw]
  rfl

/-! Resets and swaps of port n of the four (R484, R488, R489) -/

section

variable {n : Fin 5} (hn : s.nib.on = true) (h4 : n.val < 4)
include hn h4

theorem execHardResetReceived_live (hl : s.tcLive n = true) :
    execHardResetReceived n s = .next (s.pdHardReset n 1) := by
  rw [execHardResetReceived, onNib_on _ hn, if_pos h4, if_pos hl]

theorem execHardResetRecover_hardReset (hs : s.tcState n = 7) :
    execHardResetRecover n s = .next (s.hardResetRecover n) := by
  rw [execHardResetRecover, onNib_on _ hn, if_neg (Nat.not_le.2 h4), if_pos (beq_iff_eq.2 hs)]

/-- SOFT_RESET outside a transition is accepted, and the offer is sent again. -/
theorem execSoftReset_offers (hlo : 4 ≤ s.tcState n) (hhi : s.tcState n ≤ 5) : execSoftReset n s =
    .next (((s.withTcPort n fun x => { x with swap := 0 }).emit (.pd n "ACCEPT" [] [])).sendOffer n) := by
  have hlive : s.tcLive n = true := by
    rw [State.tcLive, Bool.and_eq_true, decide_eq_true_eq, decide_eq_true_eq]
    omega
  have hst : ((s.withTcPort n fun x => { x with swap := 0 }).emit (.pd n "ACCEPT" [] [])).tcState n ≠ 6 := by
    change s.tcState n ≠ 6
    omega
  rw [execSoftReset, onNib_on _ hn, if_neg (Nat.not_le.2 h4), if_neg (by rw [hlive]; decide)]
  exact congrArg _ (if_neg (by rwa [beq_iff_eq]))

theorem execRoleSwapRequest_live {b : Bool} (hl : s.tcLive n = true) :
    execRoleSwapRequest n b s = .next (s.emit (.pd n "REJECT" [b2n b] [])) := by
  rw [execRoleSwapRequest, onNib_on _ hn, if_pos h4, if_pos hl]

/-- Where the partner sources VCONN, an accepted swap turns Damya's on. -/
theorem execVconnSwapRequest_partner (hs : s.tcState n = 5) (hw : (s.tcPort n).swap = 0)
    (he : entrySwap (s.tcPort n).entry = true)
    (hp : (s.emit (.pd n "ACCEPT" [] [])).flag (Reg.TCPD_PORT_STAT_VCONN_PARTNER n) = true) :
    execVconnSwapRequest n s = .next (((s.emit (.pd n "ACCEPT" [] [])).tcVconn n true).withTcPort n fun x =>
      { x with swap := 2 }) := by
  rw [execVconnSwapRequest, onNib_on _ hn, if_neg (Nat.not_le.2 h4), if_neg (by rw [hs, hw]; decide),
    if_neg (by rw [he]; decide)]
  exact congrArg _ (if_pos hp)

end

theorem execHardResetReceived_tcs (hn : s.nib.on = true) (hp : s.tcsPresent = true) :
    execHardResetReceived 4 s = .next (((((s.wr Reg.TCPD_TCS_STAT_STATE 3).wr Reg.TCPD_TCS_STAT_PDO 0).wr
      Reg.TCPD_TCS_STAT_CONTRACT_MW 0).count 0x27A).notice 0x0823 [4, 1, 0, 0]) := by
  rw [execHardResetReceived, onNib_on _ hn, if_neg (by decide), if_neg (by rw [hp]; decide)]

/-! VCONN and the cable (R477, R487, R488) -/

section

variable {n : Fin 4} (hn : s.nib.on = true)
include hn

theorem execPartnerPsRdy_swapping (hw : (s.tcPort n).swap = 1) :
    execPartnerPsRdy n s = .next ((s.tcVconn n false).vconnSwapped n true) := by
  rw [execPartnerPsRdy, onNib_on _ hn, if_pos (beq_iff_eq.2 hw)]

theorem execVconnSourceOnEnd_swapping (hw : (s.tcPort n).swap = 2) :
    execVconnSourceOnEnd n s = .next ((s.emit (.pd n "PS_RDY" [] [])).vconnSwapped n false) := by
  rw [execVconnSourceOnEnd, onNib_on _ hn, if_pos (beq_iff_eq.2 hw)]

/-- A cable that changes the offer has it sent again. -/
theorem execCableDiscoverIdentity_changes {y : State} {b : Bool} (hl : s.tcLive n = true)
    (hv : s.flag (Reg.TCPD_PORT_STAT_VCONN_ON n) = true) (hy : y = s.put (Reg.TCPD_PORT_STAT_CABLE_5A n) b)
    (hs : y.tcState n ≠ 6) (ho : y.offerNow n ≠ (y.tcPort n).offer) :
    execCableDiscoverIdentity n b s = .next (y.sendOffer n) := by
  subst hy
  rw [execCableDiscoverIdentity, onNib_on _ hn, if_neg (by rw [hl, hv]; decide)]
  exact congrArg _ (if_pos (Bool.and_eq_true_iff.2 ⟨bne_iff_ne.2 hs, bne_iff_ne.2 ho⟩))

theorem execVconnOvercurrent_on (hv : s.flag (Reg.TCPD_PORT_STAT_VCONN_ON n) = true) :
    execVconnOvercurrent n s = .next ((s.tcVconn n false).notice 0x0825 [byte n, 2]) := by
  rw [execVconnOvercurrent, onNib_on _ hn, if_pos hv]

end

/-! The service sink (R490) -/

/-- What the sink asks of a source that offers 5 V alone: 15 W where 7.5 W are offered, and else all of it. -/
def tcsCurrent (i : Nat) : Nat := min i (if 5000 * i ≥ 750000 then 300 else i)

theorem execTcsSourceCapabilities_5v {y z : State} {p : Fin 3} {i : Nat} (hn : s.nib.on = true)
    (hp : s.tcsPresent = true) (hy : y = s.wr Reg.TCPD_TCS_STAT_RP_SEEN p.val) (ht : y.tc.tflags = 0)
    (hz : z = ((((y.emit (.pd 4 "REQUEST" [1, tcsCurrent i] [])).wr Reg.TCPD_TCS_STAT_STATE 2).wr
      Reg.TCPD_TCS_STAT_PDO 1).wr Reg.TCPD_TCS_STAT_CONTRACT_MW (min 15000 (5000 * tcsCurrent i / 100))).count 0x279)
    (ho : z.nib.onTcs = false) : execTcsSourceCapabilities p [(5000, i)] s = .next z.tcsRises := by
  have hv : y.tcsVolts = [(5000, 1)] := by
    rw [State.tcsVolts, ht]
    rfl
  have hlevel : ¬(!z.tcsLevel && z.nib.onTcs) = true := by
    rw [ho, Bool.and_false]
    exact Bool.false_ne_true
  rw [execTcsSourceCapabilities, onNib_on _ hn, if_neg (by rw [hp]; decide)]
  subst hy hz
  by_cases hi : 5000 * i ≥ 750000
  · have hc : min i (1500000 / 5000) = tcsCurrent i := by rw [tcsCurrent, if_pos hi]
    simp only [hv, List.findSome?_cons, List.find?_cons, beq_self_eq_true, Option.map_some, if_pos hi, hc,
      Option.orElse_some, List.findIdx_cons, cond_true, Nat.zero_add]
    exact congrArg _ (if_neg hlevel)
  · have hc : i = tcsCurrent i := by rw [tcsCurrent, if_neg hi, min_self]
    simp only [hv, List.findSome?_cons, List.findSome?_nil, List.find?_cons, beq_self_eq_true, Option.map_some, if_neg hi,
      Option.orElse_none, List.findIdx_cons, cond_true, Nat.zero_add]
    rw [← hc] at hlevel ⊢
    exact congrArg _ (if_neg hlevel)

end Sys2Proof.Machine

open Sys2Proof Sys2Proof.Machine

/-- Settles O21, an event at a time. -/
theorem typeCEvents : Obligations.TypeCEvents := by
  unfold Obligations.TypeCEvents
  refine ⟨?rdDetect, ?attach, ?detach, ?discharged, ?covered, ?budget, ?noObject, ?transition, ?pgTimeout, ?hardReset,
    ?tcsHardReset, ?recover, ?softReset, ?roleSwap, ?vconnSwap, ?psRdy, ?sourceOn, ?cable, ?overcurrent, ?tcs⟩
  case rdDetect => exact fun s n c a hn hs => execTypecRdDetect_unattached hn hs
  case attach => exact fun s y n hn hs hy => execTypecAttach_wait hn hs hy
  case detach =>
    exact fun s n hn hs => (onNib_on (fun s => s.tcDetach n) hn).trans (congrArg _ (State.tcDetach_wait hs))
  case discharged => exact fun s n hn hs => execVbusDischarged_discharge hn hs
  case covered =>
    exact fun s n p c k m hn hs hp ho hi hk hc =>
      (onNib_on (fun s => s.pdRequest n p.toNat c.toNat) hn).trans
        (congrArg _ (State.pdRequest_covered hs hp ho hi hk hc))
  case budget =>
    exact fun s n p c k m hn hs hp ho hi hk hf =>
      (onNib_on (fun s => s.pdRequest n p.toNat c.toNat) hn).trans
        (congrArg _ (State.pdRequest_budget hs hp ho hi hk hf))
  case noObject =>
    exact fun s n p c hn hs ho =>
      (onNib_on (fun s => s.pdRequest n p.toNat c.toNat) hn).trans (congrArg _ (State.pdRequest_noObject hs ho))
  case transition =>
    exact fun s y n p k i m hn hx hs hw hv hy hg =>
      (onNib_on (fun s => s.srcTransition n) hn).trans (congrArg _ (State.srcTransition_waits hx hs hw hv hy hg))
  case pgTimeout => exact fun s n hn hs hw => execPowerGoodTimeout_waiting hn hs hw
  case hardReset => exact fun s n hn h4 hl => execHardResetReceived_live hn h4 hl
  case tcsHardReset => exact fun s hn hp => execHardResetReceived_tcs hn hp
  case recover => exact fun s n hn h4 hs => execHardResetRecover_hardReset hn h4 hs
  case softReset => exact fun s n hn h4 hlo hhi => execSoftReset_offers hn h4 hlo hhi
  case roleSwap => exact fun s n b hn h4 hl => execRoleSwapRequest_live hn h4 hl
  case vconnSwap => exact fun s n hn h4 hs hw he hp => execVconnSwapRequest_partner hn h4 hs hw he hp
  case psRdy => exact fun s n hn hw => execPartnerPsRdy_swapping hn hw
  case sourceOn => exact fun s n hn hw => execVconnSourceOnEnd_swapping hn hw
  case cable => exact fun s y n b hn hl hv hy hs ho => execCableDiscoverIdentity_changes hn hl hv hy hs ho
  case overcurrent => exact fun s n hn hv => execVconnOvercurrent_on hn hv
  case tcs => exact fun s y z p i hn hp hy ht hz ho => execTcsSourceCapabilities_5v hn hp hy ht hz ho

end

section
/-!
PROOFS. POWER_ON, the rails and the crystal (R526, R527, R531, R545, R549, R653).
-/

namespace Sys2Proof.Machine

/-- The state that POWER_ON brings both dies to, TCS's DEAD_BATT apart. -/
def State.poweredOn (s : State) : State :=
  { pending := s.pending, out := s.out, fresh := s.fresh, pins := s.pins, nv := s.nv,
    nib := { tamperLatch := !s.pins.tamperN } }

theorem State.poweredOn_reg (s : State) (a : Nat) : s.poweredOn.reg a = regReset a := rfl

theorem execPowerOn_off {s : State} (tcs : Bool) (h : s.nib.on = false) :
    execPowerOn tcs s = .next (s.poweredOn.put Reg.TCPD_TCS_STAT_DEAD_BATT tcs) :=
  congrArg _ (if_neg (by rw [h]; exact Bool.false_ne_true))

section

variable {s : State} (hn : s.nib.on = true)

include hn

theorem execRailPgRise_next (hs : s.nib.stage = .rising) (hr : s.nib.rails < 6) :
    execRailPgRise s = .next ((((s.wr Reg.PWR_STAT_RAIL_PG (setBit (s.rd Reg.PWR_STAT_RAIL_PG)
      (s.nib.rails - 1)))).withNib fun n => { n with rails := n.rails + 1 }).emit
      (.power "rail on" [s.nib.rails - 1 + 1])) := by
  rw [execRailPgRise, onNib_on _ hn, if_neg (by rw [hs]; decide)]
  exact congrArg _ (if_pos hr)

theorem execRailPgRise_last (hs : s.nib.stage = .rising) (hr : 6 ≤ s.nib.rails) :
    execRailPgRise s = .next ((s.wr Reg.PWR_STAT_RAIL_PG (setBit (s.rd Reg.PWR_STAT_RAIL_PG)
      (s.nib.rails - 1))).withNib fun n => { n with stage := .held }) := by
  rw [execRailPgRise, onNib_on _ hn, if_neg (by rw [hs]; decide)]
  exact congrArg _ (if_neg (Nat.not_lt.2 hr))

theorem execRailPgFall_next (hs : s.nib.stage = .falling) (hr : s.nib.rails ≠ 0) :
    execRailPgFall s = .next (((s.wr Reg.PWR_STAT_RAIL_PG (clearBit (s.rd Reg.PWR_STAT_RAIL_PG)
      s.nib.rails)).withNib fun n => { n with rails := s.nib.rails - 1 }).emit
      (.power "rail off" [s.nib.rails - 1])) := by
  rw [execRailPgFall, onNib_on _ hn, if_neg (by rw [hs]; decide)]
  exact congrArg _ (if_neg (by rwa [beq_iff_eq]))

theorem execRailPgFall_last (hs : s.nib.stage = .falling) (hr : s.nib.rails = 0) :
    execRailPgFall s =
      .next (s.wr Reg.PWR_STAT_RAIL_PG (clearBit (s.rd Reg.PWR_STAT_RAIL_PG) 0)).railsAreDown := by
  rw [execRailPgFall, onNib_on _ hn, if_neg (by rw [hs]; decide), hr]
  rfl

theorem execRailsOffMinEnd_due (hs : s.nib.stage = .off) (hu : s.nib.upDue = true) :
    execRailsOffMinEnd s =
      .next ((s.withNib fun n => { n with offMin := false, upDue := false }).startUp) := by
  rw [execRailsOffMinEnd, onNib_on _ hn]
  refine congrArg _ (if_pos ?_)
  change (s.nib.stage == .off && s.nib.upDue) = true
  rw [hs, hu]
  rfl

theorem execXtalStop_on : execXtalStop s =
    .next ((s.put Reg.PWR_STAT_XTAL_OK false).withNib fun n => { n with xtalNotice := true }) := by
  rw [execXtalStop, onNib_on _ hn]

theorem execTcsPathSettleEnd_settling (hs : s.nib.stage = .off) (hp : s.nib.pathSettling = true) :
    execTcsPathSettleEnd s = .next ((s.withNib fun n => { n with pathSettling := false }).railsRise) := by
  rw [execTcsPathSettleEnd, onNib_on _ hn]
  exact congrArg _ (if_pos (by rw [hs, hp]; rfl))

end

/-- With the rails down, a power cycle waits for OFF_MIN_MS where a supply is left (R545). -/
theorem State.railsAreDown_powerCycle {s y : State} (ha : s.nib.after = .powerCycle)
    (hy : y = (s.withNib fun n => { n with stage := .off, offMin := true }).wr Reg.PWR_STAT_SEQ 0)
    (hi : y.intakeOk = true ∨ s.nib.onTcs = true) :
    s.railsAreDown = y.withNib fun n => { n with upDue := true } := by
  subst hy
  simp only [State.railsAreDown]
  split
  case h_3 => exact if_pos (Bool.or_eq_true_iff.2 hi)
  all_goals
    rename_i hother
    cases ha.symm.trans hother

theorem execRailPgFault_hub {s : State} (rail : Fin 6) (h : s.hubOn = true) :
    execRailPgFault rail s = .next (s.railFault rail) := by
  rw [execRailPgFault, onNib_on _ (State.nib_on_of_hubOn h)]
  exact congrArg _ (if_pos (by rw [h, Bool.or_true, Bool.true_or]))

end Sys2Proof.Machine

open Sys2Proof Sys2Proof.Machine

/-- Settles O1, an event at a time. -/
theorem powerDieAndRailEvents : Obligations.PowerDieAndRailEvents := by
  unfold Obligations.PowerDieAndRailEvents
  refine ⟨?powerOn, ?stop, ?rise, ?lastRise, ?fault, ?fall, ?lastFall, ?offMin, ?settle, ?xtal⟩
  case powerOn =>
    exact fun s tcs h => ⟨_, execPowerOn_off tcs h, rfl, State.flag_put_self _ _ _ (by decide) (by decide),
      fun a ha => (State.reg_put _ _ _ _ ha).trans (State.poweredOn_reg s a)⟩
  case stop => exact fun s h => execPowerDieStop_on h
  case rise => exact fun s hn hs hr => execRailPgRise_next hn hs hr
  case lastRise => exact fun s hn hs hr => execRailPgRise_last hn hs hr
  case fault => exact fun s rail h => execRailPgFault_hub rail h
  case fall => exact fun s hn hs hr => execRailPgFall_next hn hs hr
  case lastFall =>
    exact fun s y hn hs hr ha hy hi =>
      (execRailPgFall_last hn hs hr).trans (congrArg _ (State.railsAreDown_powerCycle ha hy hi))
  case offMin => exact fun s hn hs hu => execRailsOffMinEnd_due hn hs hu
  case settle => exact fun s hn hs hp => execTcsPathSettleEnd_settling hn hs hp
  case xtal => exact fun s hn => execXtalStop_on hn

end

section
/-!
PROOFS. Inkwell's commands, the OTP commands and the life cycle (R560 to R579), entropy and tamper (R563, R572, R573), and
the firmware events (R588, R591).
-/

namespace Sys2Proof.Machine

variable {s u : State} {r : Request}

/-! Bodies that carry a key (R562, R564) -/

/-- The key comes as R564 asks: in clear on SESSION 0, or wrapped on an open session in `n` bytes of parameters. -/
def State.KeyComesAsAsked (s : State) (q : Request) (flags n : Nat) : Prop :=
  (s.openSession q = none ∧ bit flags 0 = false) ∨
    ((s.openSession q).isSome = true ∧ bit flags 0 = true ∧ n ≤ q.pkt.params.length)

theorem State.KeyComesAsAsked.accepted {q : Request} {flags n : Nat} (h : s.KeyComesAsAsked q flags n) :
    ¬(!s.wrappedOk q flags || (bit flags 0 && decide (q.pkt.params.length < n))) = true := by
  rw [State.wrappedOk]
  rcases h with ⟨ho, hf⟩ | ⟨ho, hf, hl⟩
  · rw [ho, hf]
    exact Bool.false_ne_true
  · rw [ho, hf, decide_eq_false (Nat.not_lt.2 hl)]
    decide

/-- KEY_LOAD's checks pass but for the wrapping, which decides. -/
theorem keyLoadBody_checked {q : Request} {slot : Nat} (hl : 52 ≤ q.pkt.params.length)
    (hs : slot = leAt q.pkt.params 0 1) (h16 : 16 ≤ slot) (h63 : slot ≤ 63) (ht : u.pins.tamperN = true)
    (ha : attrOk (leAt q.pkt.params 4 4) = true) (hw : u.KeyComesAsAsked q (leAt q.pkt.params 1 1) 68)
    (hk : u.keySlot slot = none) :
    keyLoadBody q u = (u.carriedKey q (slice q.pkt.params 0 8) (slice q.pkt.params 8 12) (slice q.pkt.params 20 32)
      (slice q.pkt.params 52 16)).elim (gcmFailed u) fun k => .ok
        (((u.setKeySlot slot (some { key := k, attr := leAt q.pkt.params 4 4 })).count 0x2E7).keyChanged slot 0) := by
  have hrange : (decide (slot < 16) || decide (slot > 63)) = false := by
    simp only [Bool.or_eq_false_iff, decide_eq_false_iff_not]
    omega
  refine (takes_of_length hl).trans ?_
  simp only [← hs, hrange, ht, ha, if_neg hw.accepted, hk, Option.isSome_none, Bool.not_true, Bool.false_eq_true, if_false]
  split
  next hc => rw [hc, Option.elim_none]
  next hc => rw [hc, Option.elim_some]

/-- OTP_PROGRAM KEY's checks pass but for the wrapping, which decides. -/
theorem otpKeyBody_checked {q : Request} {slot : Nat} (hl : 53 ≤ q.pkt.params.length)
    (hs : slot = leAt q.pkt.params 1 1) (hc : u.nv.lifeCycle ≤ 1) (h2 : 2 ≤ slot) (h15 : slot ≤ 15)
    (ht : u.pins.tamperN = true) (ha : attrOk (leAt q.pkt.params 5 4) = true)
    (hw : u.KeyComesAsAsked q (leAt q.pkt.params 2 1) 69) (hp : (u.otpSlot slot).programmed = false)
    (hr : (u.otpSlot slot).retired = false) :
    otpKeyBody q u = (u.carriedKey q (slice q.pkt.params 1 8) (slice q.pkt.params 9 12) (slice q.pkt.params 21 32)
      (slice q.pkt.params 53 16)).elim (gcmFailed u) fun k =>
        u.startJob 0x0508 (.otpKey slot k (leAt q.pkt.params 5 4)) := by
  have hrange : (decide (slot < 2) || decide (slot > 15)) = false := by
    simp only [Bool.or_eq_false_iff, decide_eq_false_iff_not]
    omega
  refine (takes_of_length hl).trans ?_
  simp only [← hs, if_neg (Nat.not_lt.2 hc), hrange, ht, ha, if_neg hw.accepted, hp, hr, Bool.or_self, Bool.not_true,
    Bool.false_eq_true, if_false]
  split
  next hk => rw [hk, Option.elim_none]
  next hk => rw [hk, Option.elim_some]

/-- A body that uses a slot key, once R560 allows the key. -/
theorem withKey_ok {q : Request} {use n : Nat} {body : KeySlot → Bytes → State → Answer} {k : KeySlot}
    (hl : n ≤ q.pkt.params.length) (hs : leAt q.pkt.params 0 1 ≤ 63)
    (hk : u.keyFor (leAt q.pkt.params 0 1) use (masterBit q.via) (u.worldOf q) = .ok k) :
    withKey use n body q u = body k q.pkt.params u := by
  refine (takes_of_length hl).trans ((if_neg (Nat.not_lt.2 hs)).trans ?_)
  rw [hk]

/-- A command that uses a slot key and replies. -/
theorem runCommand_withKey {op use n : Nat} {body : KeySlot → Bytes → State → Answer} {k : KeySlot} {t : State}
    {status : Nat} {params : Bytes} (h : s.passes op r = true) (he : u = s.begun op r) (hl : n ≤ r.pkt.params.length)
    (hs : leAt r.pkt.params 0 1 ≤ 63)
    (hk : u.keyFor (leAt r.pkt.params 0 1) use (masterBit r.via) (u.worldOf (asked op r)) = .ok k)
    (hb : body k r.pkt.params u = .reply t status params) :
    runCommand op (withKey use n body) r s = .next (t.answered u op r status params) := by
  subst he
  exact runCommand_reply h ((withKey_ok (q := asked op r) hl hs hk).trans hb)

/-! Slots -/

theorem execKeyClear_ok {slot : Nat} (h : s.passes 0x0501 r = true) (he : u = s.begun 0x0501 r)
    (hl : 4 ≤ r.pkt.params.length) (hs : slot = leAt r.pkt.params 0 1) (h63 : slot ≤ 63)
    (hk : (u.keySlot slot).isSome = true) :
    execKeyClear r s = .next (((u.setKeySlot slot none).notice 0x0502 ([byte slot, 1] ++
      le 4 (u.attrWord slot))).answered u 0x0501 r 0 []) := by
  subst he hs
  exact runCommand_takes h hl
    ((if_neg (Nat.not_lt.2 h63)).trans (if_neg (by rw [Option.isNone_iff_eq_none]; exact Option.isSome_iff_ne_none.1 hk)))

theorem execKeyInfo_ok {slot : Nat} (h : s.passes 0x0502 r = true) (he : u = s.begun 0x0502 r)
    (hl : 4 ≤ r.pkt.params.length) (hs : slot = leAt r.pkt.params 0 1) (h63 : slot ≤ 63) :
    execKeyInfo r s = .next (u.answered u 0x0502 r 0 (le 4 (u.attrWord slot) ++ u.kcv slot)) := by
  subst he hs
  exact runCommand_takes h hl (if_neg (Nat.not_lt.2 h63))

/-! Uses of a key -/

section

variable {k : KeySlot}

theorem execCryptoHmac_ok (h : s.passes 0x0505 r = true) (he : u = s.begun 0x0505 r) (hl : 4 ≤ r.pkt.params.length)
    (hmax : r.pkt.params.length ≤ 4100) (hs : leAt r.pkt.params 0 1 ≤ 63)
    (hk : u.keyFor (leAt r.pkt.params 0 1) 3 (masterBit r.via) (u.worldOf (asked 0x0505 r)) = .ok k) :
    execCryptoHmac r s = .next ((u.count 0x2E3).answered u 0x0505 r 0 (hmac k.key (r.pkt.params.drop 4))) :=
  runCommand_withKey h he hl hs hk (if_neg (Nat.not_lt.2 hmax))

theorem execCryptoSeal_ok {n : Nat} {x : Bytes × Bytes} (h : s.passes 0x0506 r = true) (he : u = s.begun 0x0506 r)
    (hl : 4 ≤ r.pkt.params.length) (hmax : r.pkt.params.length ≤ 4100) (hs : leAt r.pkt.params 0 1 ≤ 63)
    (hk : u.keyFor (leAt r.pkt.params 0 1) 4 (masterBit r.via) (u.worldOf (asked 0x0506 r)) = .ok k)
    (hn : n = leAt r.pkt.params 2 2) (hin : n + 4 ≤ r.pkt.params.length) (hd : u.ink.drbgBad = false)
    (hx : x = gcmSeal k.key (u.draw 12).1 ((r.pkt.params.drop 4).take n) ((r.pkt.params.drop 4).drop n)) :
    execCryptoSeal r s =
      .next (((u.draw 12).2.count 0x2E4).answered u 0x0506 r 0 ((u.draw 12).1 ++ x.1 ++ x.2)) := by
  have hlen : (decide ((r.pkt.params.drop 4).length < n) || decide ((r.pkt.params.drop 4).length > 4096)) = false := by
    simp only [List.length_drop, Bool.or_eq_false_iff, decide_eq_false_iff_not]
    omega
  refine runCommand_withKey h he hl hs hk ?_
  simp only [← hn, hlen, hd, ← hx, Bool.false_eq_true, if_false]
  rfl

/-- CRYPTO_OPEN with lengths that R562 takes: the tag decides. -/
theorem execCryptoOpen_checked {n : Nat} {m : Bytes} {t : State} {status : Nat} {params : Bytes}
    (h : s.passes 0x0507 r = true) (he : u = s.begun 0x0507 r) (hl : 16 ≤ r.pkt.params.length)
    (hs : leAt r.pkt.params 0 1 ≤ 63)
    (hk : u.keyFor (leAt r.pkt.params 0 1) 4 (masterBit r.via) (u.worldOf (asked 0x0507 r)) = .ok k)
    (hn : n = leAt r.pkt.params 2 2) (hm : m = r.pkt.params.drop 16) (hmin : n + 16 ≤ m.length) (hmax : m.length ≤ 4112)
    (hopen : (gcmOpen k.key (slice r.pkt.params 4 12) (m.take n) (slice m n (m.length - n - 16))
      (m.drop (m.length - 16))).elim (gcmFailed (u.count 0x2E5)) (fun plain => .ok (u.count 0x2E5) plain) = .reply t status params) :
    execCryptoOpen r s = .next (t.answered u 0x0507 r status params) := by
  have hlen : (decide (m.length < n + 16) || decide (m.length > 4112)) = false := by
    simp only [Bool.or_eq_false_iff, decide_eq_false_iff_not]
    omega
  refine runCommand_withKey h he hl hs hk (Eq.trans ?_ hopen)
  simp only [← hn, ← hm, hlen, Bool.false_eq_true, if_false]
  split
  next hc => rw [hc, Option.elim_some]
  next hc => rw [hc, Option.elim_none]

theorem execAttest_ok {slot : Nat} {m : Bytes} (h : s.passes 0x0503 r = true) (he : u = s.begun 0x0503 r)
    (hl : 36 ≤ r.pkt.params.length) (hs : slot = leAt r.pkt.params 0 1) (h63 : slot ≤ 63)
    (hk : u.keyFor slot 1 (masterBit r.via) (u.worldOf (asked 0x0503 r)) = .ok k)
    (hm : m = u.report slot (slice r.pkt.params 4 32)) :
    execAttest r s = .next ((u.count 0x2E2).answered u 0x0503 r 0 (m ++ hmac k.key (ascii "GXATT" ++ m))) := by
  subst hs hm
  exact runCommand_withKey h he hl h63 hk rfl

end

/-! Life cycle and OTP -/

theorem execLcAdvance_started (h : s.passes 0x0504 r = true) (he : u = s.begun 0x0504 r)
    (hl : 12 ≤ r.pkt.params.length) (hid : leAt r.pkt.params 4 8 = u.nv.deviceId)
    (hst : u.lcStatus (leAt r.pkt.params 0 1) = 0) (hj : u.cmd.jobs.length < 2) :
    execLcAdvance r s = .next ((u.withCmd fun c =>
      { c with jobs := c.jobs ++ [{ num := c.lastJob % 255 + 1, opcode := 0x0504,
                                    kind := .lcAdvance (leAt r.pkt.params 0 1) }],
               lastJob := c.lastJob % 255 + 1 }).answered u 0x0504 r 1 [byte (u.cmd.lastJob % 255 + 1), 0, 0, 0]) := by
  refine runCommand_startJob h he ((takes_of_length (r := asked 0x0504 r) hl).trans ?_) hj
  exact (if_neg (by rw [bne_iff_ne]; exact not_not_intro hid)).trans
    (if_neg (by rw [bne_iff_ne]; exact not_not_intro hst))

theorem execOtpProgramKey_eq {q : Request} (hq : q = requestWithByte r 0 0) :
    execOtpProgramKey r s = runCommand 0x0508 otpKeyBody q s := by
  rw [hq, execOtpProgramKey]

theorem execOtpProgramPassword_started {q : Request} (h : s.passes 0x0508 q = true) (he : u = s.begun 0x0508 q)
    (hq : q = requestWithByte r 0 1) (hl : 52 ≤ q.pkt.params.length) (hc : u.nv.lifeCycle ≤ 1)
    (ht : u.pins.tamperN = true) (hp : u.nv.password = none) (hj : u.cmd.jobs.length < 2) :
    execOtpProgramPassword r s = .next ((u.withCmd fun c =>
      { c with jobs := c.jobs ++ [{ num := c.lastJob % 255 + 1, opcode := 0x0508,
                                    kind := .otpPassword (slice q.pkt.params 4 16) (slice q.pkt.params 20 32) }],
               lastJob := c.lastJob % 255 + 1 }).answered u 0x0508 q 1 [byte (u.cmd.lastJob % 255 + 1), 0, 0, 0]) := by
  subst hq
  refine runCommand_startJob h he ((takes_of_length (r := asked 0x0508 _) hl).trans ?_) hj
  simp only [if_neg (Nat.not_lt.2 hc), ht, hp, Bool.not_true, Option.isSome_none, Bool.false_eq_true, if_false,
    asked_params]

theorem execOtpProgramRetire_started {q : Request} {slot : Nat} (h : s.passes 0x0508 q = true)
    (he : u = s.begun 0x0508 q) (hq : q = requestWithByte r 0 2) (hl : 4 ≤ q.pkt.params.length)
    (hs : slot = leAt q.pkt.params 1 1) (hc1 : 1 ≤ u.nv.lifeCycle) (hc3 : u.nv.lifeCycle ≤ 3) (h2 : 2 ≤ slot)
    (h15 : slot ≤ 15) (ht : u.pins.tamperN = true) (hj : u.cmd.jobs.length < 2) :
    execOtpProgramRetire r s = .next ((u.withCmd fun c =>
      { c with jobs := c.jobs ++ [{ num := c.lastJob % 255 + 1, opcode := 0x0508, kind := .otpRetire slot }],
               lastJob := c.lastJob % 255 + 1 }).answered u 0x0508 q 1 [byte (u.cmd.lastJob % 255 + 1), 0, 0, 0]) := by
  have hcycle : (decide (u.nv.lifeCycle < 1) || decide (u.nv.lifeCycle > 3)) = false := by
    simp only [Bool.or_eq_false_iff, decide_eq_false_iff_not]
    omega
  have hslot : (decide (slot < 2) || decide (slot > 15)) = false := by
    simp only [Bool.or_eq_false_iff, decide_eq_false_iff_not]
    omega
  subst hq
  refine runCommand_startJob h he ((takes_of_length (r := asked 0x0508 _) hl).trans ?_) hj
  simp only [asked_params, ← hs, hcycle, hslot, ht, Bool.not_true, Bool.false_eq_true, if_false]

/-! Tamper and firmware events -/

theorem execTamperAssert_hubOn (h : s.hubOn = true) :
    execTamperAssert s = .next (({ s with pins := { s.pins with tamperN := false } }.withNib fun n =>
      { n with tamperLatch := true }).tamperHub) := by
  rw [execTamperAssert, onNib_on _ (State.nib_on_of_hubOn h)]
  exact congrArg _ (if_pos h)

theorem execTamperAssert_hubOff (hn : s.nib.on = true) (h : s.hubOn = false) :
    execTamperAssert s = .next ({ s with pins := { s.pins with tamperN := false } }.withNib fun n =>
      { n with tamperLatch := true }) := by
  rw [execTamperAssert, onNib_on _ hn]
  exact congrArg _ (if_neg (Bool.eq_false_iff.1 h))

theorem execFwActivateTakeEffect_head {v : Transport} {k m : Nat} {l : List Waiting} (hn : s.hubOn = true)
    (hw : s.cmd.waiting = { via := v, act := .fwActivate k m, handed := true } :: l) :
    execFwActivateTakeEffect s = .next (if m == 0 then (s.withCmd fun c => { c with waiting := l }).beginRestart 0 k
      else (s.withCmd fun c => { c with waiting := l }).hubReset 0x03) := by
  rw [execFwActivateTakeEffect, onHub_on _ hn, State.takeDeferred_head hw rfl rfl]

theorem execTrialConfirmTimeout_trial (h : s.serving = true) (ht : s.fw.trial = true)
    (hc : s.setting 0x000A ≠ 0) : execTrialConfirmTimeout s = .next (s.hubReset 0x03) := by
  rw [execTrialConfirmTimeout, onHub_on _ (State.hubOn_of_serving h)]
  exact congrArg _ (if_pos (by rw [h, ht, bne_iff_ne.2 hc]; rfl))

end Sys2Proof.Machine

open Sys2Proof Sys2Proof.Machine

/-- Settles O11, a command at a time. -/
theorem keyCommands : Obligations.KeyCommands := by
  unfold Obligations.KeyCommands
  refine ⟨?load, ?badWrapping, ?clear, ?info, ?attest, ?advance, ?hmac, ?sealed, ?opened, ?badTag, ?otpKey, ?otpBadWrapping,
    ?password, ?retire⟩
  case load =>
    rintro s _ r slot k h rfl hl hs h16 h63 ht ha hw hk hc
    exact runCommand_reply h ((keyLoadBody_checked (q := asked 0x0500 r) hl hs h16 h63 ht ha hw hk).trans
      (by simp only [asked_params, hc]; rfl))
  case badWrapping =>
    rintro s _ r slot h rfl hl hs h16 h63 ht ha hw hk hc
    exact runCommand_reply h ((keyLoadBody_checked (q := asked 0x0500 r) hl hs h16 h63 ht ha hw hk).trans
      (by simp only [asked_params, hc]; rfl))
  case clear => exact fun s u r slot h he hl hs h63 hk => execKeyClear_ok h he hl hs h63 hk
  case info => exact fun s u r slot h he hl hs h63 => execKeyInfo_ok h he hl hs h63
  case attest => exact fun s u r slot k m h he hl hs h63 hk hm => execAttest_ok h he hl hs h63 hk hm
  case advance => exact fun s u r h he hl hid hst hj => execLcAdvance_started h he hl hid hst hj
  case hmac => exact fun s u r k h he hl hmax hs hk => execCryptoHmac_ok h he hl hmax hs hk
  case sealed =>
    exact fun s u r k n x h he hl hmax hs hk hn hin hd hx => execCryptoSeal_ok h he hl hmax hs hk hn hin hd hx
  case opened =>
    exact fun s u r k n m b h he hl hs hk hn hm hmin hmax hb =>
      execCryptoOpen_checked h he hl hs hk hn hm hmin hmax (by rw [hb]; rfl)
  case badTag =>
    exact fun s u r k n m h he hl hs hk hn hm hmin hmax hb =>
      execCryptoOpen_checked h he hl hs hk hn hm hmin hmax (by rw [hb]; rfl)
  case otpKey =>
    intro s u r q slot k h he hq hl hs hc h2 h15 ht ha hw hp hr hk hj
    exact (execOtpProgramKey_eq hq).trans (runCommand_startJob h he ((otpKeyBody_checked (q := asked 0x0508 q) hl hs hc h2
      h15 ht ha hw hp hr).trans (by simp only [asked_params, hk, Option.elim_some])) hj)
  case otpBadWrapping =>
    rintro s _ r q slot h rfl hq hl hs hc h2 h15 ht ha hw hp hr hk
    exact (execOtpProgramKey_eq hq).trans (runCommand_reply h ((otpKeyBody_checked (q := asked 0x0508 q) hl hs hc h2 h15
      ht ha hw hp hr).trans (by simp only [asked_params, hk]; rfl)))
  case password => exact fun s u r q h he hq hl hc ht hp hj => execOtpProgramPassword_started h he hq hl hc ht hp hj
  case retire =>
    exact fun s u r q slot h he hq hl hs hc1 hc3 h2 h15 ht hj =>
      execOtpProgramRetire_started h he hq hl hs hc1 hc3 h2 h15 ht hj

/-- Settles O12, an event at a time. -/
theorem entropyTamperAndUpdateEvents : Obligations.EntropyTamperAndUpdateEvents := by
  unfold Obligations.EntropyTamperAndUpdateEvents
  refine ⟨?entropy, ?assertUp, ?assertDown, ?release, ?restart, ?activate, ?trial⟩
  case entropy => exact fun s hn => onHub_on (fun s => { s with ink := { s.ink with drbgBad := true } }) hn
  case assertUp => exact fun s h => execTamperAssert_hubOn h
  case assertDown => exact fun s hn h => execTamperAssert_hubOff hn h
  case release =>
    intro s hn
    change execTamperRelease s = _
    rw [execTamperRelease, onNib_on _ hn]
  case restart => exact fun s v k l hn hw => execFwActivateTakeEffect_head hn hw
  case activate =>
    exact fun s v k m l hn hw hm =>
      (execFwActivateTakeEffect_head hn hw).trans (congrArg _ (if_neg (by rwa [beq_iff_eq])))
  case trial => exact fun s h ht hc => execTrialConfirmTimeout_trial h ht hc

end

section
/-!
PROOFS. The events of the point engine (R409 to R433).
-/

namespace Sys2Proof.Machine

section

variable {s : State} (hn : s.hubOn = true)

include hn

/-! EN (R409, R423) -/

theorem execPointEnable_on (mem : HostMem) (he : s.flag Reg.PNT_CTRL_EN = true) (hd : s.point.due = false) :
    execPointEnable mem s = .next s := by
  rw [execPointEnable, onHub_on _ hn]
  exact congrArg _ (if_pos (by rw [he, hd]; rfl))

theorem execPointEnable_refused {y : State} (mem : HostMem) (he : s.flag Reg.PNT_CTRL_EN = false)
    (hy : y = (s.put Reg.PNT_CTRL_EN true).withPoint fun p => { p with due := false, on := false })
    (hc : y.pointCheck State.rdAct true ≠ 0) :
    execPointEnable mem s = .next ((y.pointRefuse State.rdAct (y.pointCheck State.rdAct true)).pointState) := by
  subst hy
  rw [execPointEnable, onHub_on _ hn, if_neg (by rw [he]; exact Bool.false_ne_true)]
  exact congrArg _ (if_pos (bne_iff_ne.2 hc))

/-- While the control block cannot be read the engine waits. -/
theorem execPointEnable_unread {y z : State} {mem : HostMem} (he : s.flag Reg.PNT_CTRL_EN = false)
    (hy : y = (s.put Reg.PNT_CTRL_EN true).withPoint fun p => { p with due := false, on := false })
    (hc : y.pointCheck State.rdAct true = 0) (hz : z = y.hostRead 2 y.pointCb 32)
    (hm : mem.read z.pointCb 32 = none) :
    execPointEnable mem s = .next ((z.withPoint fun p => { p with due := true }).pointState) := by
  subst hy hz
  rw [execPointEnable, onHub_on _ hn, if_neg (by rw [he]; exact Bool.false_ne_true)]
  refine congrArg _ ((if_neg (by rw [bne_iff_ne]; exact not_not_intro hc)).trans ?_)
  simp only [hm]

/-! Map loads (R416) -/

theorem execPointLoadGo_busy (hb : s.flag Reg.PNT_LD_CTRL_BUSY = true) :
    execPointLoadGo s =
      .next ((s.put Reg.PNT_LD_CTRL_ERR true).loadNotice (s.rd Reg.PNT_LD_FIRST_FIRST) false true) := by
  rw [execPointLoadGo, onHub_on _ hn]
  exact congrArg _ (if_pos (by rw [hb, Bool.true_or]))

theorem execPointLoadGo_begun {y : State} {first stop addr : Nat} (hb : s.flag Reg.PNT_LD_CTRL_BUSY = false)
    (hf : first = s.rd Reg.PNT_LD_FIRST_FIRST) (hs : stop = first + s.rd Reg.PNT_LD_COUNT_COUNT) (hmax : stop ≤ 262144)
    (ha : addr = s.rd Reg.PNT_LD_ADDR_LO_ADDR_LO * 8 + s.rd Reg.PNT_LD_ADDR_HI_ADDR_HI * 2 ^ 32)
    (hy : y = (((s.put Reg.PNT_LD_CTRL_BUSY true).wr Reg.PNT_LD_CTRL_BAD 0).setReg Reg.PNT_LD_FIRSTBAD_A 0).withPoint
      fun p => { p with load := some { next := first, stop := stop, first := first, addr := addr } }) :
    execPointLoadGo s = .next ((y.hostRead 2 addr (8 * s.rd Reg.PNT_LD_COUNT_COUNT)).loadEnd) := by
  subst hy ha hs hf
  rw [execPointLoadGo, onHub_on _ hn]
  refine congrArg _ (if_neg ?_)
  rw [hb, Bool.false_or, decide_eq_true_eq]
  exact Nat.not_lt.2 hmax

theorem execPointLoadCompletion_loading {b : Bytes} {good : Bool} {l : PointLoad} (hl : s.point.load = some l) :
    execPointLoadCompletion b good s = .next (State.loadEarly 128 (s.loadArrived b good
      (if good then b.length / 8 else 32 - (l.next - l.first) % 32))) := by
  rw [execPointLoadCompletion, onHub_on _ hn, hl]

/-! The output fetch (R411, R424) -/

theorem execPointFetchStart_due (ho : s.point.on = true) (hh : s.pointHalted = false) (hf : s.point.fetch = none)
    (ht : s.reached (s.pointT s.point.next - s.rdAct Reg.PNT_FETCH_LEAD_NS) = true) :
    execPointFetchStart s = .next ((s.withPoint fun p =>
      { p with fetch := some { k := p.next, left := List.range p.outLen } }).hostRead 2 (s.pointCb + 32) 8) := by
  rw [execPointFetchStart, onHub_on _ hn]
  simp only [ho, hh, hf, ht, Bool.not_true, Bool.or_self, Bool.false_eq_true, if_false]
  rfl

theorem execPointFetchDataArrival_failed {f : PointFetch} (mem : HostMem) (hf : s.point.fetch = some f) :
    execPointFetchDataArrival mem true s =
      .next (s.withPoint fun p => { p with fetch := some { f with failed := true } }) := by
  rw [execPointFetchDataArrival, onHub_on _ hn, State.fetchArrived, hf]
  rfl

/-! The cycle (R424, R427, R431) -/

theorem execPointCycleStart_early (ht : s.reached (s.pointT s.point.next) = false) :
    execPointCycleStart s = .next s := by
  rw [execPointCycleStart, onHub_on _ hn]
  exact congrArg _ (if_pos (by rw [ht, Bool.not_false, Bool.or_true]))

theorem execPointCycleStart_skipped {y : State} (ho : s.point.on = true) (hp : s.point.phase = .idle)
    (ht : s.reached (s.pointT s.point.next) = true)
    (hy : y = s.withPoint fun p => { p with phase := .idle, next := s.point.next + 1 }) (hh : y.pointHalted = true) :
    execPointCycleStart s = .next (((y.withPoint fun p => { p with fetch := none }).pointState).pointSkip
      s.point.next 4 1) := by
  subst hy
  rw [execPointCycleStart, onHub_on _ hn]
  refine congrArg _ ((if_neg (by rw [ho, hp, ht]; decide)).trans ?_)
  simp only [if_neg (show ¬(s.point.phase == .loss) = true by rw [hp]; decide), if_pos hh]

theorem execPointCycleStart_begun {w x y z : State} (ho : s.point.on = true) (hp : s.point.phase = .idle)
    (ht : s.reached (s.pointT s.point.next) = true)
    (hw : w = s.withPoint fun p => { p with phase := .idle, next := s.point.next + 1 }) (hh : w.pointHalted = false)
    (hx : x = (w.pointState.pointLatch s.point.next).pointOutputs s.point.next)
    (hy : y = x.withPoint fun p =>
      { p with k := s.point.next, phase := .open_, islands := [], flagLate := p.lateNext, lateNext := false,
               flagInSubst := false, unreached := x.walkReach.2, backlog := [] })
    (hz : z = (y.wr Reg.PNT_CYCLE_LO_K_LO s.point.next).wr Reg.PNT_CYCLE_HI_K_HI (s.point.next / 2 ^ 32)) :
    execPointCycleStart s = .next (((x.walkReach.1.foldl (fun (s : State) i =>
      s.scatter z.point.k s.point.flagStale s.point.flagSubst i) z).count 0x243).pointDrain) := by
  have hk : z.point.k = s.point.next := by
    rw [hz, hy]
    rfl
  rw [execPointCycleStart, onHub_on _ hn, hk]
  refine congrArg _ ((if_neg (by rw [ho, hp, ht]; decide)).trans ?_)
  simp only [if_neg (show ¬(s.point.phase == .loss) = true by rw [hp]; decide), ← hw, hh, Bool.false_eq_true, if_false,
    ← hx, ← hy, ← hz]

theorem execPointWindowClose_onTime {y z : State} (ho : s.point.on = true) (hp : s.point.phase = .open_)
    (ht : s.reached (s.pointT s.point.k + s.rdAct Reg.PNT_CLOSE_OFF_NS) = true) (hu : s.point.unreached = [])
    (hb : s.point.backlog = [])
    (hy : y = s.withPoint fun p => { p with phase := .loss, lost := 0, unreached := [], backlog := [] })
    (hz : z = y.islands.foldl (fun (a : State) i => if a.rdAct (Reg.PNT_ISL_ICNT_BYTES i) = 0 then a
      else a.lossPass ((s.pointT s.point.k + s.rdAct Reg.PNT_CLOSE_OFF_NS) % 2 ^ 32) i) y) :
    execPointWindowClose s = .next ((z.wr Reg.PNT_LOST_LO_LOST z.point.lost).wr Reg.PNT_LOST_HI_LOST
      (z.point.lost / 2 ^ 32)) := by
  rw [execPointWindowClose, onHub_on _ hn]
  refine congrArg _ ((if_neg (by rw [ho, hp, ht]; decide)).trans ?_)
  simp only [hu, hb, List.map_nil, List.append_nil, List.mergeSort_nil, List.eraseDups_nil, List.foldl_nil, ← hy,
    beq_iff_eq, ← hz]

theorem execPointLossPassEnd_loss {y : State} (ho : s.point.on = true) (hp : s.point.phase = .loss)
    (hy : y = s.withPoint fun p => { p with phase := .idle }) :
    execPointLossPassEnd s = .next (if y.pointWriting then y.pointSkip s.point.k 2 1 else y.publish) := by
  subst hy
  rw [execPointLossPassEnd, onHub_on _ hn]
  exact congrArg _ (if_neg (by rw [ho, hp]; decide))

/-! Commits (R425, R432) -/

theorem execPointCommit_fresh {y : State} (hp : s.flag Reg.PNT_COMMIT_STAT_PENDING = false)
    (hy : y = s.put Reg.PNT_COMMIT_STAT_PENDING true) :
    execPointCommit s = .next (if y.flag Reg.PNT_CTRL_EN then y.withPoint fun p =>
      { p with commitFrom := p.next + b2n (p.on && y.reached (y.pointT p.next)) } else y.pointLatchOff) := by
  subst hy
  rw [execPointCommit, onHub_on _ hn]
  exact congrArg _ (if_neg (Bool.eq_false_iff.1 hp))

theorem execPointCommit_pending (hp : s.flag Reg.PNT_COMMIT_STAT_PENDING = true) : execPointCommit s = .next s := by
  rw [execPointCommit, onHub_on _ hn]
  exact congrArg _ (if_pos hp)

theorem execPointInputFrame_on {y : State} {n : Fin 8} {t : Nat} (f : Bytes) (ht : s.ethStamp n false = (t, y)) :
    execPointInputFrame n f s = .next (y.pointInput n f (t / 65536 % 2 ^ 32)) := by
  rw [execPointInputFrame, onHub_on _ hn, ht]

end

end Sys2Proof.Machine

open Sys2Proof Sys2Proof.Machine

/-- Settles O37, an event at a time. -/
theorem pointEngineEvents : Obligations.PointEngineEvents := by
  unfold Obligations.PointEngineEvents
  refine ⟨?enabled, ?refused, ?unread, ?loadBusy, ?loadBegun, ?loadGood, ?loadBad, ?fetchStart, ?fetchFailed, ?fetchData,
    ?early, ?halted, ?begun, ?input, ?close, ?skipped, ?published, ?commit, ?pending, ?commitOff⟩
  case enabled => exact fun s mem hn he hd => execPointEnable_on hn mem he hd
  case refused => exact fun s y mem hn he hy hc => execPointEnable_refused hn mem he hy hc
  case unread => exact fun s y z mem hn he hy hc hz hm => execPointEnable_unread hn he hy hc hz hm
  case loadBusy => exact fun s hn hb => execPointLoadGo_busy hn hb
  case loadBegun => exact fun s y hn hb hmax hy => execPointLoadGo_begun hn hb rfl rfl hmax rfl hy
  case loadGood => exact fun s b l hn hl => execPointLoadCompletion_loading (good := true) hn hl
  case loadBad => exact fun s b l hn hl => execPointLoadCompletion_loading (good := false) hn hl
  case fetchStart => exact fun s hn ho hh hf ht => execPointFetchStart_due hn ho hh hf ht
  case fetchFailed => exact fun s mem f hn hf => execPointFetchDataArrival_failed hn mem hf
  case fetchData => exact fun s mem hn => onHub_on (fun s => s.fetchArrived mem false) hn
  case early => exact fun s hn _ ht => execPointCycleStart_early hn ht
  case halted => exact fun s y hn ho hp ht hy hh => execPointCycleStart_skipped hn ho hp ht hy hh
  case begun => exact fun s w x y z hn ho hp ht hw hh hx hy hz => execPointCycleStart_begun hn ho hp ht hw hh hx hy hz
  case input => exact fun s y n f t hn ht => execPointInputFrame_on hn f ht
  case close =>
    exact fun s y z hn ho hp ht hu hb hy hz => execPointWindowClose_onTime hn ho hp ht hu hb hy hz
  case skipped =>
    exact fun s y hn ho hp hy hw => (execPointLossPassEnd_loss hn ho hp hy).trans (congrArg _ (if_pos hw))
  case published =>
    exact fun s y hn ho hp hy hw =>
      (execPointLossPassEnd_loss hn ho hp hy).trans (congrArg _ (if_neg (Bool.eq_false_iff.1 hw)))
  case commit => exact fun s y hn hp hy he => (execPointCommit_fresh hn hp hy).trans (congrArg _ (if_pos he))
  case pending => exact fun s hn hp => execPointCommit_pending hn hp
  case commitOff =>
    rintro s y _ hn hp hy he rfl
    exact (execPointCommit_fresh hn hp hy).trans (congrArg _ (if_neg (Bool.eq_false_iff.1 he)))

end
